-- ==== Sys2Proof/Word.lean ====
section
/-! DEFINITION. The word and byte types of the model and the sparse maps its state is written in. -/

namespace Sys2Proof

/-- A register, and a message body word (R4, R69): 32 bits. -/
abbrev Word := BitVec 32

/-- A byte of a structure in memory or on the wire (R8). -/
abbrev Byte := BitVec 8

/-- A finite map from numbers, as a list of pairs in rising order of the key. -/
abbrev SMap (α : Type) := List (Nat × α)

/-- A flit as a station receives it (R61, R72): the station, the downstream slot, the 40 bits, its index in its message. -/
structure DownFlit where
  stn : Nat
  slot : Nat
  flit : Nat
  idx : Nat
  deriving DecidableEq, Repr

end Sys2Proof
end

