-- ==== Sys2Proof/Syntax.lean ====
section
/-! DEFINITION. The commands of the block: one constructor for each row of the opcode table (spec/opcode_table.json), with
the data the step takes from outside as operands. -/

namespace Sys2Proof

/-- A command. The row's rule and summary stand beside each constructor; `id` is the master's identity (R10), `unit` a
unit ID and `stn` a station ID (R11). -/
inductive Instr where
  /-- REGISTER_WRITE (R6). A master's write to a register that has no row of its own sets its fields as their access types state. -/
  | registerWrite (id : Nat) (addr : Nat) (be : Nat) (value : Nat)
  /-- WIDE_REGISTER_LOW_READ (R5). A read of a wide register's low word captures its upper words into the reading master's shadow. -/
  | wideRegisterLowRead (id : Nat) (addr : Nat) (be : Nat)
  /-- RC_REGISTER_READ (R6). A non-peek read of an RC field returns its value and clears it. -/
  | rcRegisterRead (id : Nat) (addr : Nat) (be : Nat)
  /-- UAP_POWER_OFF (R24). UAP_ON falls at a port; the station ignores the port, drives SH_CMD NONE and ends its work. -/
  | uapPowerOff (unit : Nat)
  /-- UAP_POWER_ON (R24). UAP_ON rises at a port; queue records clear and the next cycle is the port's first. -/
  | uapPowerOn (unit : Nat) (ty : Nat) (cv : Nat) (flat : Nat)
  /-- UAP_RESET_ASSERT (R24). UAP_RESET rises at a port; inputs are ignored, watchdogs are freed and tiles end. -/
  | uapResetAssert (unit : Nat)
  /-- UAP_RESET_RELEASE (R24). UAP_RESET falls at a port; queue records clear and the port starts afresh. -/
  | uapResetRelease (unit : Nat)
  /-- CMD_EVENT_BEGIN (R27). A unit presents BEGIN on a queue; the station moves the queue to ACTIVE and starts command tracking. -/
  | cmdEventBegin (unit : Nat) (cken : Bool) (ctx : Nat) (epoch : Nat) (seq : Nat) (layer : Nat) (op : Nat) (bclass : Nat) (queue : Nat)
  /-- CMD_EVENT_END (R27). A unit presents END; the command completes and the queue returns to IDLE. -/
  | cmdEventEnd (unit : Nat) (cken : Bool) (ctx : Nat) (epoch : Nat) (seq : Nat) (layer : Nat) (op : Nat) (bclass : Nat) (queue : Nat)
  /-- CMD_EVENT_ABORT (R27). A unit presents ABORT; the command ends without completion. -/
  | cmdEventAbort (unit : Nat) (cken : Bool) (ctx : Nat) (epoch : Nat) (seq : Nat) (layer : Nat) (op : Nat) (bclass : Nat) (queue : Nat)
  /-- CMD_EVENT_SUSPEND (R27). A unit presents SUSPEND; the queue moves to SUSPENDED. -/
  | cmdEventSuspend (unit : Nat) (cken : Bool) (ctx : Nat) (epoch : Nat) (seq : Nat) (layer : Nat) (op : Nat) (bclass : Nat) (queue : Nat)
  /-- CMD_EVENT_RESUME (R27). A unit presents RESUME; the queue returns to ACTIVE. -/
  | cmdEventResume (unit : Nat) (cken : Bool) (ctx : Nat) (epoch : Nat) (seq : Nat) (layer : Nat) (op : Nat) (bclass : Nat) (queue : Nat)
  /-- UNIT_INCREMENT_CYCLE (R30). The increment buses of an enabled cycle are counted and attributed. -/
  | unitIncrementCycle (unit : Nat) (cken : Bool) (busy : Bool) (stall : Bool) (errCorr : Nat) (errUncorr : Bool) (rds : List Nat) (wrs : List Nat) (tx : Nat) (txTc : Nat) (rx : Nat) (rxTc : Nat) (energy : Nat) (trap : Bool) (fltCode : Nat)
  /-- SH_ACK_RISE (R40). A unit raises SH_ACK for the response in force and ACK_PEND clears. -/
  | shAckRise (unit : Nat)
  /-- SH_ACK_LATE (R40). SH_ACK is still 0 at cycle c + SH_FLAT + 2 and a protocol violation is recorded. -/
  | shAckLate (unit : Nat)
  /-- STRIA_TAP_BEAT (R45). A unit presents a stria tap beat; the station checks it and queues one pair per selecting slot. -/
  | striaTapBeat (unit : Nat) (cken : Bool) (mask : Nat) (data : Nat) (fmt : Nat) (coord : Nat) (sample : Nat) (pos : Nat) (queue : Nat) (out : Nat) (scale : Nat)
  /-- STRIA_PAIR_ABSORB (R256). The stria engine takes one queued pair and absorbs its elements into entries. -/
  | striaPairAbsorb (stn : Nat)
  /-- DBG_CTL_WRITE (R51). A write to DBG_CTL sends the new value to the control core by DBG_WR. -/
  | dbgCtlWrite (unit : Nat) (value : Nat)
  /-- DBG_ADDR_WRITE (R51). A write to DBG_ADDR_HI completes a comparator address and sends it by DBG_WR. -/
  | dbgAddrWrite (unit : Nat) (value64 : Nat)
  /-- DBG_CMD_HALT (R52). A HALT written to DBG_CMD pulses HALT_REQ. -/
  | dbgCmdHalt (unit : Nat)
  /-- DBG_CMD_RUN (R52). A RUN written to DBG_CMD pulses RUN_REQ. -/
  | dbgCmdRun (unit : Nat)
  /-- DBG_CMD_STEP (R52). A STEP written to DBG_CMD pulses STEP_REQ. -/
  | dbgCmdStep (unit : Nat)
  /-- CORE_HALTED_RISE (R143). A control core's HALTED rises or its cause changes; status updates and local drain may start. -/
  | coreHaltedRise (unit : Nat) (cause : Nat) (hit : Nat)
  /-- CORE_HALTED_FALL (R53). A control core's HALTED falls and the station records it running. -/
  | coreHaltedFall (unit : Nat)
  /-- HALTED_LATE (R52). HALTED has not risen within its bound; HALT_PENDING stays set and a violation is recorded. -/
  | haltedLate (unit : Nat)
  /-- SECURE_ENTER (R207). A control core enters secure state without authorisation; trace is excluded and EXCLUDED written. -/
  | secureEnter (unit : Nat)
  /-- SECURE_EXIT (R207). SECURE falls; the port's next packet is a SYNC. -/
  | secureExit (unit : Nat)
  /-- IT_RECORD (R55). A control core presents an instruction-flow record, traced as PC_FLOW and matched by comparators. -/
  | itRecord (unit : Nat) (cken : Bool) (itKind : Nat) (count : Nat) (addr64 : Nat) (ovf : Bool)
  /-- DT_RECORD (R55). A control core presents a data-access record, traced as DATA_ACC. -/
  | dtRecord (unit : Nat) (cken : Bool) (dtWr : Bool) (size : Nat) (addr64 : Nat) (data64 : Nat) (ovf : Bool)
  /-- FRAME_BOUNDARY (R68). At each frame the spine sends MARK words and NOTEs and checks each rib's MARK FRAME echo. -/
  | frameBoundary (echoes : List (Nat × Nat))
  /-- UPSTREAM_FLIT_ERROR (R83). The spine discards an upstream flit with a parity, framing or reduction error and its message. -/
  | upstreamFlitError (rib : Nat) (slot : Nat) (flit : Nat)
  /-- STATION_DOWNSTREAM_ERROR (R83). A station discards a downstream message with a parity or framing error and counts it. -/
  | stationDownstreamError (got : DownFlit)
  /-- STATION_SLOT_COLLISION (R83). A station finds a non-EMPTY flit in an owned slot and counts a collision. -/
  | stationSlotCollision (stn : Nat)
  /-- NET_ERR_NOTE_SEND (R83). A station sends a NET_ERR NOTE in its next NOTICE slot. -/
  | netErrNoteSend (stn : Nat)
  /-- NET_ERR_NOTE_ARRIVAL (R70). A NET_ERR NOTE reaches the spine and is counted; slips and late epochs are handled. -/
  | netErrNoteArrival (stn : Nat)
  /-- STATION_UPSTREAM_SEND (R71). A station sends its next message flits in owned slots, freeing reserve and offering waiting messages. -/
  | stationUpstreamSend (stn : Nat) (n : Nat)
  /-- STATION_WINDOW_READ (R74). A read of a station window becomes a REG_RD, or is answered from the shadow. -/
  | stationWindowRead (id : Nat) (addr : Nat) (peek : Bool)
  /-- STATION_WINDOW_WRITE (R74). A write of a station window becomes a posted REG_WR, or is held as a low word. -/
  | stationWindowWrite (id : Nat) (addr : Nat) (value : Nat)
  /-- STATION_REG_RD (R74). A station receives a REG_RD and answers with a REGRD. -/
  | stationRegRd (stn : Nat) (cap : Nat)
  /-- STATION_REG_WR (R74). A station receives a REG_WR and writes its register. -/
  | stationRegWr (stn : Nat)
  /-- REGRD_ARRIVAL (R74). A REGRD reaches the spine and completes the waiting read or hub access. -/
  | regrdArrival (stn : Nat)
  /-- STATION_REDUCE_REQ (R75). A station receives a REDUCE_REQ and schedules its contributions. -/
  | stationReduceReq (stn : Nat)
  /-- REDUCE_PARTNER_TIMEOUT (R75). A MORE REDUCE_REQ without a partner after 4 frames leaves the station with no valid request. -/
  | reducePartnerTimeout (stn : Nat)
  /-- REDUCTION_SAMPLE (R75). At the end of spine cycle 512F - 1 each member samples its reduction values. -/
  | reductionSample
  /-- REDUCTION_RESULT (R78). A reduction value completes at the spine marver with SAT, MISS and LOST flags: the next one of the
  reduction with this TAG. -/
  | reductionResult (tag : Nat)
  /-- ISOLATION_ASSERT (R81). SEAM_ISO or BR_ISO rises and the ribs behind it are to be isolated. -/
  | isolationAssert (seam : Bool) (point : Nat)
  /-- ISOLATION_RELEASE (R82). SEAM_ISO or BR_ISO falls and the isolated ribs are trained and loaded. -/
  | isolationRelease (seam : Bool) (point : Nat)
  /-- RESTORATION_TIMEOUT (R82). Restoration does not complete within 512 frames and the rib becomes DEGRADED. -/
  | restorationTimeout (rib : Nat)
  /-- CANE_TRAIN (R85). A write of CANE_CTL.TRAIN starts training of the ribs. -/
  | caneTrain (id : Nat)
  /-- CANE_RETRAIN (R85). A write of a RETRAIN bit starts a retrain of one rib. -/
  | caneRetrain (id : Nat) (rib : Nat)
  /-- TRAINING_COMPLETE (R85). The 16 training exchanges end and T_END is recorded or the rib fails. -/
  | trainingComplete (rib : Nat) (trips : List Nat) (parityOk : Bool)
  /-- CANE_ENABLE (R97). A write of 1 to CANE_CTL.ENABLE starts frames and sends SLOT_LOAD to every station. -/
  | caneEnable (id : Nat)
  /-- CANE_DISABLE (R86). A write of 0 to CANE_CTL.ENABLE requests frames to stop at the end of the frame. -/
  | caneDisable (id : Nat)
  /-- FRAMES_STOP (R86). Frames stop at the end of the frame and stations return to pass-through. -/
  | framesStop
  /-- SLOT_RESTART (R93). SLOT_CTL.RESTART resets the image write pointer and clears VALID. -/
  | slotRestart (id : Nat)
  /-- SLOT_DATA_WRITE (R93). A write to SLOT_DATA stores four image bytes. -/
  | slotDataWrite (id : Nat) (value : Nat)
  /-- SLOT_VALIDATE (R94). SLOT_CTL.VALIDATE starts validation of the stored image. -/
  | slotValidate (id : Nat)
  /-- SLOT_VALIDATION_DONE (R94). Validation ends with VALID set or an error code. -/
  | slotValidationDone
  /-- STATION_SLOT_LOAD (R97). A station installs its SLOT_LOAD and begins using its slots. -/
  | stationSlotLoad (stn : Nat)
  /-- SLOT_VERIFY_TIMEOUT (R97). A station does not answer verification within the bound and its rib becomes DEGRADED. -/
  | slotVerifyTimeout (stn : Nat)
  /-- TIME_START (R101). TIME_CTL.START starts the timebase accumulator and station loading. -/
  | timeStart (id : Nat)
  /-- TIME_LOCK (R121). TIME_CTL.LOCK locks TIME_INC. -/
  | timeLock (id : Nat)
  /-- TIME_INC_WRITE (R102). A completing write of TIME_INC is accepted or sets INC_ERR. -/
  | timeIncWrite (id : Nat) (value64 : Nat)
  /-- STATION_TS_LOAD (R106). At the load frame a station seeds its accumulator from the MARK TS words. -/
  | stationTsLoad (stn : Nat) (marksOk : Bool)
  /-- STATION_FRAME_MARK (R107). A station receives a frame's MARK words and checks its TS. Of FRAME, TS_LO and TS_HI: the payload bits that
  reach it inverted, and whether PAR reaches it as it was sent. -/
  | stationFrameMark (stn : Nat) (fInv : Nat) (fPar : Bool) (loInv : Nat) (loPar : Bool) (hiInv : Nat) (hiPar : Bool)
  /-- STATION_MARK_TIMEOUT (R542). A station sees no good MARK FRAME for 1,024 cycles. -/
  | stationMarkTimeout (stn : Nat)
  /-- GATHER_PING_SEND (R115). Each 2,000 ns step the hub sends a GPING to each peer of the round. -/
  | gatherPingSend
  /-- GPING_RECEIVE (R114). A hub answers a received GPING with a GPONG or counts it ignored. -/
  | gpingReceive (node : Nat) (index : Nat) (session : Nat) (t1 : Nat)
  /-- GPONG_RECEIVE (R115). A GPONG arrives and its exchange values are computed or it is discarded. -/
  | gpongReceive (node : Nat) (index : Nat) (session : Nat) (t1 : Nat) (t2 : Nat) (t3 : Nat)
  /-- GATHER_ROUND_END (R115). A gather round ends and each offset entry is written. -/
  | gatherRoundEnd
  /-- GATHER_SECOND_ROUND (R116). The second round of a GATHER begins 10 ms after the first. -/
  | gatherSecondRound
  /-- GATHER_PERIODIC_ROUND (R116). A periodic gather round begins every PERIOD seconds. -/
  | gatherPeriodicRound
  /-- GATHER_TIMEOUT (R118). A GATHER misses its budget and completes TIMEOUT with SERVICE_DEADLINE. -/
  | gatherTimeout
  /-- SHEAR_REQUEST_DECIDED (R136). The root decides an upward request, which opens a cut or joins an open one. -/
  | shearRequestDecided
  /-- SHEAR_COMMIT (R131). The root commits the cut's class and drives the command symbol. -/
  | shearCommit
  /-- STATION_SHEAR_DECODE (R126). A station decodes what its downward pair showed: `a` wire A in the cycle before and in 4 cycles, `b` wire B in
  those 4 (1 where inverted, the first cycle lowest). -/
  | stationShearDecode (stn : Nat) (a : Nat) (b : Nat)
  /-- CUT_TICK (R132). Every station strobes cullet vectors and drives SH_CMD from the class map. -/
  | cutTick
  /-- RESUME_ISSUE (R142). The root drives the RESUME symbol at its chosen cycle. -/
  | resumeIssue
  /-- RESUME_TICK (R142). At the resume tick every non-terminal port's package state becomes NONE. -/
  | resumeTick
  /-- SELFTEST_TEST_SEND (R147). The root drives a TEST symbol in each frame. -/
  | selftestTestSend
  /-- SELFTEST_REPLY (R147). The station whose turn it is drives the self-test reply. -/
  | selftestReply (stn : Nat)
  /-- SELFTEST_ROOT_CHECK (R147). The root checks the expected reply cycles. -/
  | selftestRootCheck (wrong : Bool)
  /-- RECEIVER_LOCK (R124). After 64 idle cycles a shear receiver locks. -/
  | receiverLock (root : Bool) (stn : Nat)
  /-- SHEAR_ENABLE (R135). A write of 1 to SHEAR_CTL.ENABLE enables the tree. -/
  | shearEnable (id : Nat)
  /-- SHEAR_DISABLE (R135). A write of 0 to SHEAR_CTL.ENABLE stops triggers and clears every lock. -/
  | shearDisable (id : Nat)
  /-- SHEAR_TRIG_LATCH (R151). SHEAR_TRIG OP LATCH registers a central LATCH trigger. -/
  | shearTrigLatch (id : Nat)
  /-- SHEAR_TRIG_FREEZE (R151). SHEAR_TRIG OP FREEZE registers a central FREEZE trigger. -/
  | shearTrigFreeze (id : Nat)
  /-- SHEAR_TRIG_DRAIN (R151). SHEAR_TRIG OP DRAIN registers a central DRAIN trigger. -/
  | shearTrigDrain (id : Nat)
  /-- SHEAR_TRIG_RUN_ON (R151). SHEAR_TRIG OP RUN_ON registers a central RUN_ON trigger. -/
  | shearTrigRunOn (id : Nat)
  /-- SHEAR_TRIG_RESUME (R151). SHEAR_TRIG OP RESUME registers a RESUME. -/
  | shearTrigResume (id : Nat)
  /-- CARRIER_SHEAR_REQUEST (R134). The carrier request pair holds 1, 0 for 4 cycles and registers a trigger. -/
  | carrierShearRequest (sampled : Bool)
  /-- CARRIER_SHEAR_PAIR_ERROR (R134). The carrier pair holds equal values for 4 cycles and sets EXT_ERR. -/
  | carrierShearPairError (level : Bool)
  /-- CUT_AT_TRIGGER (R145). A scheduled cut's central trigger registers at its target tick minus H. -/
  | cutAtTrigger
  /-- CULLET_READ_GO (R153). A write of CULLET_READ.GO requests a readout of the last cut. -/
  | culletReadGo (id : Nat) (types : Nat)
  /-- CULLET_READOUT_START (R155). A readout starts by sending CULLET_RD. -/
  | culletReadoutStart
  /-- STATION_CULLET_RD (R156). A station matches the target tick against its strobe log. -/
  | stationCulletRd (stn : Nat)
  /-- STATION_CULLET_GROUP_DONE (R157). A station completes a group read and sends its CULLET message. -/
  | stationCulletGroupDone (stn : Nat) (vectors : List (List Nat))
  /-- CULLET_MESSAGE_ARRIVAL (R159). A CULLET message arrives and its records are written to the buffer. -/
  | culletMessageArrival (stn : Nat)
  /-- CULLET_READOUT_TIMEOUT (R159). A readout's budget passes and missing ports are LOST. -/
  | culletReadoutTimeout
  /-- STN_PC_CFG_WRITE (R179). A register write of STN_PC_CFG configures a counter and sets its owner. -/
  | stnPcCfgWrite (id : Nat) (stn : Nat) (ctr : Nat) (value64 : Nat)
  /-- STATION_CTR_CONFIG (R191). A station receives CTR_CMD CONFIG. -/
  | stationCtrConfig (stn : Nat)
  /-- COUNTER_CONFIG_APPLY (R180). At the apply frame a counter takes its configuration and is zeroed. -/
  | counterConfigApply (stn : Nat)
  /-- STATION_CTR_READ (R191). A station receives CTR_CMD READ. -/
  | stationCtrRead (stn : Nat)
  /-- COUNTER_SAMPLE (R185). At 512F - 1 a member samples its counters and forms COUNTER messages. -/
  | counterSample (stn : Nat)
  /-- STATION_CTR_KEYS (R191). A station receives CTR_CMD KEYS. -/
  | stationCtrKeys (stn : Nat)
  /-- STATION_ATTR_DUMP (R191). A station receives CTR_CMD ATTR_DUMP. -/
  | stationAttrDump (stn : Nat)
  /-- COUNTER_MESSAGE_ARRIVAL (R192). A COUNTER message arrives and its station record is written. -/
  | counterMessageArrival (stn : Nat)
  /-- ATTRIB_MESSAGE_ARRIVAL (R191). An ATTRIB message arrives with attribution entries. -/
  | attribMessageArrival (stn : Nat)
  /-- COUNTER_READ_TIMEOUT (R192). CTR_BUDGET passes and missing stations are recorded LOST. -/
  | counterReadTimeout
  /-- COUNTER_WRAP_NOTE_SEND (R183). A station sends a COUNTER_WRAP NOTE and clears WRAP_PEND. -/
  | counterWrapNoteSend (stn : Nat)
  /-- COUNTER_WRAP_NOTE_ARRIVAL (R184). The hub posts a COUNTER_WRAP event. -/
  | counterWrapNoteArrival (stn : Nat)
  /-- CTR_CTL_WRITE (R189). A CTR_CTL write sets wrap and attribution controls; an ATTR_EN change clears tables. -/
  | ctrCtlWrite (id : Nat) (value : Nat)
  /-- ATTR_CTX_EN_WRITE (R200). A write of ATTR_CTX_EN is distributed to the stations. -/
  | attrCtxEnWrite (id : Nat) (index8 : Nat) (value : Nat)
  /-- TRACE_MESSAGE_FLUSH (R203). A TRACE message closes after FLUSH frames and is offered to the FIFO. -/
  | traceMessageFlush (stn : Nat)
  /-- STIM_WRITE (R204). A write to STIM_n forms a STIM packet and is a heartbeat. -/
  | stimWrite (id : Nat) (stim : Nat) (value : Nat)
  /-- CENTRAL_BATCH_WRITE (R227). The ring writer writes a batch of central packets as a CENTRAL block. -/
  | centralBatchWrite
  /-- TRACE_MESSAGE_ARRIVAL (R210). A TRACE message's TAIL arrives and the writer stores it as a block under the policy. -/
  | traceMessageArrival (stn : Nat)
  /-- TRC_FREEZE (R213). TRC_CTL.FREEZE freezes the ring at once. -/
  | trcFreeze (id : Nat)
  /-- TRC_CLEAR (R213). TRC_CTL.CLEAR empties the ring. -/
  | trcClear (id : Nat)
  /-- TRC_CTL_WRITE (R222). A TRC_CTL write sets trace controls and sends the PARAM copy. -/
  | trcCtlWrite (id : Nat) (value : Nat)
  /-- TRC_PORT_WRITE (R222). A TRC_PORT write sends PORTS to the selected station. -/
  | trcPortWrite (id : Nat) (port : Nat) (value : Nat)
  /-- TRC_CMP_WRITE (R222). A comparator register write sends CMP to stations. -/
  | trcCmpWrite (id : Nat) (cmp : Nat) (word : Nat) (value : Nat)
  /-- TRC_CTX_EN_WRITE (R222). A TRC_CTX_EN write sends CTX to stations. -/
  | trcCtxEnWrite (id : Nat) (index8 : Nat) (value : Nat)
  /-- TRC_LL_WRITE (R222). A TRC_LL write sends the lossless thresholds to stations. -/
  | trcLlWrite (id : Nat) (value : Nat)
  /-- TRC_RD_WRITE (R214). An operator moves TRC_RD to a block start. -/
  | trcRdWrite (id : Nat) (value : Nat)
  /-- SEQ_ARM (R217). SEQ_CTL.ARM set to 1 arms the sequencer at S0. -/
  | seqArm (id : Nat)
  /-- SEQ_DISARM (R217). SEQ_CTL.ARM set to 0 performs STOP and disarms. -/
  | seqDisarm (id : Nat)
  /-- SEQUENCER_EVENT (R217). The sequencer takes one comparator event and performs a matching rule's actions. -/
  | sequencerEvent
  /-- TIME_COMPARATOR_MATCH (R215). A TIME comparator matches at the first cycle whose TS reaches VAL. -/
  | timeComparatorMatch
  /-- TRIGGER_NOTE_SEND (R216). A station sends its pending comparator hits in a TRIGGER NOTE. -/
  | triggerNoteSend (stn : Nat)
  /-- TRIGGER_NOTE_ARRIVAL (R216). A TRIGGER NOTE reaches the sequencer as events. -/
  | triggerNoteArrival (stn : Nat)
  /-- CAPTURE_STATE_APPLY (R218). A station applies a new capture state two frames after the SEQ_ACTION change. -/
  | captureStateApply (stn : Nat)
  /-- STATION_TRACE_PORTS (R222). A station receives TRACE_CMD PORTS. -/
  | stationTracePorts (stn : Nat)
  /-- STATION_TRACE_CMP (R222). A station receives TRACE_CMD CMP. -/
  | stationTraceCmp (stn : Nat)
  /-- STATION_TRACE_CTX (R222). A station receives TRACE_CMD CTX. -/
  | stationTraceCtx (stn : Nat)
  /-- STATION_TRACE_PARAM (R222). A station receives TRACE_CMD PARAM. -/
  | stationTraceParam (stn : Nat)
  /-- STATION_TRACE_RESYNC (R205). A station receives RESYNC and writes a SYNC for every enabled source. -/
  | stationTraceResync (stn : Nat)
  /-- TRACE_CONFIG_APPLY (R222). At the next frame boundary a station applies received trace configuration. -/
  | traceConfigApply (stn : Nat)
  /-- STATION_STRIA_SLOT (R265). A station receives STRIA_CMD SLOT. -/
  | stationStriaSlot (stn : Nat)
  /-- STRIA_SLOT_APPLY (R265). At the apply frame a slot is armed or disarmed at the station. -/
  | striaSlotApply (stn : Nat)
  /-- STATION_STRIA_SETTLE (R261). A station receives STRIA_CMD SETTLE. -/
  | stationStriaSettle (stn : Nat)
  /-- STRIA_SETTLE (R261). At 512F a station marks held entries and forms a FENCE. -/
  | striaSettle (stn : Nat)
  /-- STATION_STRIA_RELEASE (R261). A station merges held entries back on STRIA_CMD RELEASE. -/
  | stationStriaRelease (stn : Nat)
  /-- STRIA_TILE_MESSAGE_ARRIVAL (R260). A TILE message is merged into the cell store or deferred. -/
  | striaTileMessageArrival (stn : Nat)
  /-- STRIA_FENCE_ARRIVAL (R261). A station's FENCE arrives and the read proceeds when all are in. -/
  | striaFenceArrival (stn : Nat)
  /-- STRIA_FENCE_TIMEOUT (R261). STRIA_BUDGET passes and missing stations are LOST. -/
  | striaFenceTimeout
  /-- BUDGET_ROW_APPLY (R269). A loaded budget row is committed at the stations at 512F - 1. -/
  | budgetRowApply
  /-- BUDGET_WATCHDOG_EXPIRY (R271). A command's deadline passes and DEADLINE_MISS is formed. -/
  | budgetWatchdogExpiry (unit : Nat)
  /-- PROGRESS_WATCHDOG_EXPIRY (R274). A port makes no progress for P and PROGRESS_STALL is raised. -/
  | progressWatchdogExpiry (unit : Nat)
  /-- HB_CTL_WRITE (R276). A write of HB_CTL arms a heartbeat watchdog. -/
  | hbCtlWrite (id : Nat) (index32 : Nat) (value : Nat)
  /-- HEARTBEAT_WATCHDOG_EXPIRY (R276). No heartbeat within HB_PER and HEARTBEAT_MISS is formed. -/
  | heartbeatWatchdogExpiry (index32 : Nat)
  /-- FAULT_LATCH_ACK (R278). A W1C write to STN_FLT_LATCH acknowledges and clears a port's latch. -/
  | faultLatchAck (stn : Nat)
  /-- FAULT_RECORD_COMPLETION (R281). A record awaiting its cut is completed at n + H and offered. -/
  | faultRecordCompletion (stn : Nat)
  /-- FAULT_NOTE_SEND (R281). A station sends a FAULT announcement NOTE. -/
  | faultNoteSend (stn : Nat)
  /-- FAULT_NOTE_ARRIVAL (R282). An announcement opens a pending entry and may take policy actions. -/
  | faultNoteArrival (stn : Nat)
  /-- FAULT_MESSAGE_ARRIVAL (R282). A FAULT message closes a pending entry or is logged unannounced or discarded. -/
  | faultMessageArrival (stn : Nat)
  /-- FAULT_PENDING_TIMEOUT (R282). A pending entry open FLT_WAIT is closed by a hub-formed record. -/
  | faultPendingTimeout
  /-- FAULT_LOGGED_ENTRY_EXPIRY (R282). A logged entry for an unannounced record closes after FLT_WAIT. -/
  | faultLoggedEntryExpiry
  /-- EPOCH_SET_SEND (R287). The hub sends an EPOCH_SET NOTE in two consecutive frames. -/
  | epochSetSend
  /-- STATION_EPOCH_NOTE (R287). A station receives EPOCH_SET and schedules its apply. -/
  | stationEpochNote (stn : Nat)
  /-- EPOCH_APPLY (R288). At 512(f0 + 2) the context's epoch changes and commands may become stale. -/
  | epochApply
  /-- DEADLINE_PAGE_ACCESS (R290). An access through the deadline page aperture becomes a PAGE message. -/
  | deadlinePageAccess (id : Nat) (off : Nat) (isWrite : Bool) (value : Nat) (peek : Bool)
  /-- LEHR_START_WRITE (R292). A write of LEHR_START.GO requests a dump. -/
  | lehrStartWrite (id : Nat) (value : Nat)
  /-- DUMP_ACCEPT (R293). Lehr takes a dump request, accepting or refusing it. -/
  | dumpAccept
  /-- LEHR_PHASE_DEADLINE (R297). A phase deadline passes; the phase stops and DUMP_DEADLINE is raised. -/
  | lehrPhaseDeadline
  /-- DUMP_MASTER_READ_DATA (R513). A dump master read returns its line or word with or without error. -/
  | dumpMasterReadData (tag : Nat) (data : List Nat) (err : Bool)
  /-- DUMP_MASTER_READ_TIMEOUT (R304). A read has no answer within RD_TMO and its window's reads are abandoned. -/
  | dumpMasterReadTimeout
  /-- DUMP_MASTER_WRITE_ACK (R306). A dump master write is acknowledged. -/
  | dumpMasterWriteAck (tag : Nat) (err : Bool)
  /-- DUMP_MASTER_WRITE_TIMEOUT (R306). A write has no acknowledgement within WR_TMO. -/
  | dumpMasterWriteTimeout
  /-- LEHR_ABORT_WRITE (R314). A write of LEHR_ABORT stops the running dump. -/
  | lehrAbortWrite (id : Nat)
  /-- LEHR_DEST_WRITE (R308). A destination slot write is checked and sets BAD or releases HELD. -/
  | lehrDestWrite (id : Nat) (index4 : Nat) (word : Nat) (value64 : Nat)
  /-- RST_REQ_GO (R336). A write of RST_REQ.GO requests a reset ladder. -/
  | rstReqGo (id : Nat) (value : Nat)
  /-- RESET_ANSWER_ACCEPTED (R341). The carrier answers ACCEPTED with the step's SEQ. -/
  | resetAnswerAccepted (seq : Nat)
  /-- RESET_ANSWER_DONE (R341). The carrier answers DONE; the ladder ends and collection starts. -/
  | resetAnswerDone (seq : Nat)
  /-- RESET_ANSWER_REFUSED (R341). The carrier answers REFUSED and the ladder escalates or ends. -/
  | resetAnswerRefused (seq : Nat)
  /-- RESET_ANSWER_INVALID (R339). RSTA_TOG fails to change for 16 cycles or parity fails and CARRIER_ERR is set. -/
  | resetAnswerInvalid
  /-- RESET_STEP_DEADLINE (R341). A step's budget passes and RESET_DEADLINE is raised. -/
  | resetStepDeadline
  /-- CHIP_STEP_NO_ACCEPT (R342). The CHIP step gets no answer within RST_BUD_COMPUTE. -/
  | chipStepNoAccept
  /-- RESET_COLLECT_TIMEOUT (R347). A station does not answer collection within RST_COLLECT and is recorded lost. -/
  | resetCollectTimeout
  /-- REHEAT_MARK_WRITE (R352). A write of REHEAT_MARK records a carrier milestone. -/
  | reheatMarkWrite (id : Nat) (value : Nat)
  /-- REHEAT_MILESTONE_DEADLINE (R353). A reheat milestone misses its budget and SERVICE_DEADLINE is raised. -/
  | reheatMilestoneDeadline
  /-- RST_MODE_WRITE (R335). A write of RST_CTL.MODE sets the mode and loads reheat budgets. -/
  | rstModeWrite (id : Nat) (value : Nat)
  /-- NOTICE_FANOUT_START (R354). The next queued notice fan-out starts. -/
  | noticeFanoutStart
  /-- PEER_NOTICE_SEND (R356). One PEER_NOTICE leaves the fabric port. -/
  | peerNoticeSend
  /-- NOTICE_FANOUT_DEADLINE (R356). A fan-out misses its first or last budget. -/
  | noticeFanoutDeadline
  /-- PEER_NOTICE_RECEIVE (R358). A received notice is logged, posted and tracked. -/
  | peerNoticeReceive (node : Nat) (bytes : List Nat)
  /-- PEER_SILENT_EXPIRY (R359). A tracked sender's READY deadline passes and PEER_SILENT is formed. -/
  | peerSilentExpiry
  /-- STREAM_MAP_WRITE (R363). A STREAM_MAP write updates the map and MAP_CRC. -/
  | streamMapWrite (id : Nat) (strm : Nat) (value : Nat)
  /-- LEDGER_SCAN_START (R366). Setting LEDGER_EN starts a scan of the ledger ring. -/
  | ledgerScanStart (id : Nat) (value : Nat)
  /-- LEDGER_SCAN_DONE (R366). The scan ends and LEDGER_NEXT is set. -/
  | ledgerScanDone
  /-- LEDGER_RECORD_TIMEOUT (R365). LEDGER_RECORD misses CONT_BUD_REC. -/
  | ledgerRecordTimeout
  /-- LEDGER_CHECK_TIMEOUT (R368). LEDGER_CHECK misses CONT_BUD_CHK. -/
  | ledgerCheckTimeout
  /-- REGION_DIGEST_DONE (R369). The digest unit finishes a region's digest or ends with ERR. -/
  | regionDigestDone
  /-- DIGEST_REQ_RECEIVE (R371). A partner's DIGEST_REQ is checked and queued, or answered. -/
  | digestReqReceive (node : Nat) (tag : Nat) (job64 : Nat) (addr64 : Nat) (len64 : Nat)
  /-- DIGEST_RSP_RECEIVE (R372). A DIGEST_RSP arrives and the verify result is formed. -/
  | digestRspReceive (node : Nat) (status : Nat) (tag : Nat) (addr64 : Nat) (len64 : Nat) (digest64 : Nat)
  /-- MIRROR_VERIFY_TIMEOUT (R372). No partner reply within CONT_BUD_MV; result NO_REPLY. -/
  | mirrorVerifyTimeout
  /-- COPY_TIMEOUT (R374). A fill misses CONT_BUD_COPY and ends with cause DEADLINE. -/
  | copyTimeout
  /-- CONT_ABORT_COPY (R374). A write of CONT_ABORT.COPY ends the running fill. -/
  | contAbortCopy (id : Nat)
  /-- FABRIC_WRITE_ACK (R514). A fabric line write is acknowledged with or without error. -/
  | fabricWriteAck (tag : Nat) (err : Bool)
  /-- FABRIC_WRITE_TIMEOUT (R374). A fabric line write is not acknowledged within WR_TMO. -/
  | fabricWriteTimeout
  /-- SQ_DOORBELL (R382). A write of SQ_DB sets a submission ring's tail. -/
  | sqDoorbell (id : Nat) (ring : Nat) (value : Nat)
  /-- EQ_DOORBELL (R386). A write of EQ_DB returns event space and may re-arm. -/
  | eqDoorbell (id : Nat) (ring : Nat) (value : Nat)
  /-- RING_FETCH_TURN (R383). A ring's fetch turn reads up to 4 descriptors. -/
  | ringFetchTurn
  /-- DESCRIPTOR_ACCEPT (R383). A fetched descriptor is checked and accepted. -/
  | descriptorAccept
  /-- DESCRIPTOR_FETCH_ERROR (R391). A descriptor read errors and the ring enters ERROR. -/
  | descriptorFetchError (tag : Nat)
  /-- HOST_READ_RETURN (R510). Host memory read data for a table or plan arrives. -/
  | hostReadReturn (tag : Nat) (data : List Nat) (err : Bool)
  /-- HOST_READ_TIMEOUT (R391). A host read is not answered within RING_TMO. -/
  | hostReadTimeout
  /-- EVENT_ENTRY_WRITE (R386). An event entry is written at the tail, or held or dropped. -/
  | eventEntryWrite (ring : Nat)
  /-- HOST_WRITE_ACK (R511). A host memory write is acknowledged. -/
  | hostWriteAck (tag : Nat) (err : Bool)
  /-- HOST_WRITE_TIMEOUT (R391). A host write is not acknowledged within RING_TMO. -/
  | hostWriteTimeout
  /-- EQ_INTERRUPT_TIMER (R389). The moderation timer passes and the ring signals. -/
  | eqInterruptTimer
  /-- INT_MASK_WRITE (R390). Clearing a mask bit with PEND set pulses the vector. -/
  | intMaskWrite (id : Nat) (hi : Bool) (value : Nat)
  /-- RING_ENABLE (R392). Writing EN = 1 enables a DISABLED ring. -/
  | ringEnable (id : Nat) (eq : Bool) (ring : Nat)
  /-- RING_DISABLE (R392). Writing EN = 0 moves a running ring to STOPPING. -/
  | ringDisable (id : Nat) (eq : Bool) (ring : Nat)
  /-- RING_ZERO (R395). CTL.ZERO resets a stopped ring's pointers. -/
  | ringZero (id : Nat) (eq : Bool) (ring : Nat) (en : Bool)
  /-- FUNCTION_RESET (R393). FN_RST stops the identity's rings and suppresses its host accesses. -/
  | functionReset (ident : Nat)
  /-- CONTROL_GROUP_RESET (R519). A rise of CC_RST resets a control-core group's identity. -/
  | controlGroupReset (group : Nat)
  /-- NOP (R384). Completes OK at acceptance. -/
  | nop (ring : Nat) (idx : Nat)
  /-- FENCE (R384). Completes after every earlier completion of its ring. -/
  | fence (ring : Nat) (idx : Nat)
  /-- COUNTER_CONFIG (R405). Configures a programmable counter at every member. -/
  | counterConfig (ring : Nat) (idx : Nat)
  /-- COUNTER_READ (R406). Samples members' counters and writes station records. -/
  | counterRead (ring : Nat) (idx : Nat)
  /-- COUNTER_REDUCE (R407). Reduces up to 8 counter values over members. -/
  | counterReduce (ring : Nat) (idx : Nat)
  /-- ENERGY_READ (R409). Reads or reduces attribution tables. -/
  | energyRead (ring : Nat) (idx : Nat)
  /-- TRACE_CONFIG (R410). Applies trace register pairs by the ring owner. -/
  | traceConfig (ring : Nat) (idx : Nat)
  /-- TRACE_ARM (R410). Optionally clears the ring and arms the sequencer. -/
  | traceArm (ring : Nat) (idx : Nat)
  /-- TRACE_STOP (R410). Stops capture, disarms and may release ownership. -/
  | traceStop (ring : Nat) (idx : Nat)
  /-- TRACE_DRAIN (R410). Copies whole trace blocks to host memory. -/
  | traceDrain (ring : Nat) (idx : Nat)
  /-- TRACE_MARK (R410). Forms a STIM packet on port 32. -/
  | traceMark (ring : Nat) (idx : Nat)
  /-- STRIA_ARM (R411). Arms a watch slot and allocates its cells. -/
  | striaArm (ring : Nat) (idx : Nat)
  /-- STRIA_DISARM (R412). Disarms a slot, optionally freeing it. -/
  | striaDisarm (ring : Nat) (idx : Nat)
  /-- STRIA_READ (R413). Reads a slot's cells consistently. -/
  | striaRead (ring : Nat) (idx : Nat)
  /-- CUT (R415). Makes a cut of its class, optionally reading it out. -/
  | cut (ring : Nat) (idx : Nat)
  /-- CUT_AT (R416). Schedules a cut at a target TS. -/
  | cutAt (ring : Nat) (idx : Nat)
  /-- RESUME (R417). Issues RESUME and completes at its tick. -/
  | resume (ring : Nat) (idx : Nat)
  /-- SNAPSHOT (R418). Makes a cut, reads it and copies it to the host. -/
  | snapshot (ring : Nat) (idx : Nat)
  /-- DUMP (R419). Requests a Lehr dump. -/
  | dump (ring : Nat) (idx : Nat)
  /-- DUMP_ABORT (R420). Aborts the running dump. -/
  | dumpAbort (ring : Nat) (idx : Nat)
  /-- DUMP_STATUS (R421). Writes dump status, copies KEEP and releases holds. -/
  | dumpStatus (ring : Nat) (idx : Nat)
  /-- RESET_REQUEST (R422). Requests a reset ladder. -/
  | resetRequest (ring : Nat) (idx : Nat)
  /-- REHEAT_STATUS (R425). Writes reset and reheat status. -/
  | reheatStatus (ring : Nat) (idx : Nat)
  /-- LEDGER_RECORD (R365). Cuts, reads the streams and writes a ledger entry. -/
  | ledgerRecord (ring : Nat) (idx : Nat)
  /-- LEDGER_CHECK (R368). Compares restored streams with a ledger entry. -/
  | ledgerCheck (ring : Nat) (idx : Nat)
  /-- MIRROR_VERIFY (R370). Compares a local region's digest with a partner's. -/
  | mirrorVerify (ring : Nat) (idx : Nat)
  /-- COPY (R373). Fills spare shards from a plan. -/
  | copy (ring : Nat) (idx : Nat)
  /-- GATHER (R427). Runs two gather rounds with the listed peers. -/
  | gather (ring : Nat) (idx : Nat)
  /-- NOTICE_SEND (R428). Forms a HOST notice fan-out. -/
  | noticeSend (ring : Nat) (idx : Nat)
  /-- JOB_TABLE_LOAD (R429). Replaces the job table, JOB_ID and optionally the node ID. -/
  | jobTableLoad (ring : Nat) (idx : Nat)
  /-- BUDGET_TABLE_LOAD (R431). Loads or frees a context's budget row. -/
  | budgetTableLoad (ring : Nat) (idx : Nat)
  /-- CONTEXT_BIND (R432). Sets or queries a context's owner, ring and epoch. -/
  | contextBind (ring : Nat) (idx : Nat)
  /-- STATION_ACCESS (R435). Reads or writes one station's registers by descriptor. -/
  | stationAccess (ring : Nat) (idx : Nat)
  /-- MBX_GO (R441). The sender posts a message by CTL.GO. -/
  | mbxGo (id : Nat) (ch : Nat) (dir : Nat)
  /-- MBX_RETRACT (R444). The sender retracts an unclaimed message. -/
  | mbxRetract (id : Nat) (ch : Nat) (dir : Nat)
  /-- MBX_CLAIM (R442). The receiver's read of MSG word 0 claims the message. -/
  | mbxClaim (id : Nat) (ch : Nat) (dir : Nat)
  /-- MBX_ACK (R443). The receiver answers with a return code. -/
  | mbxAck (id : Nat) (ch : Nat) (dir : Nat) (code : Nat)
  /-- MBX_CROSS_DEFER (R447). After 65 crossed cycles direction 1 is acknowledged CROSS_DEFER. -/
  | mbxCrossDefer (ch : Nat)
  /-- MBX_ACK_DELAYED_EFFECT (R570). A perturbation-delayed ACK takes effect. -/
  | mbxAckDelayedEffect (ch : Nat) (dir : Nat)
  /-- DOORBELL_CLEAR (R445). A W1C write clears doorbell bits. -/
  | doorbellClear (id : Nat) (target : Nat) (value : Nat)
  /-- DOORBELL_MASK_WRITE (R446). A mask write may signal newly unmasked bits. -/
  | doorbellMaskWrite (id : Nat) (target : Nat) (value : Nat)
  /-- MBX_BIND_WRITE (R438). A binding entry write binds or unbinds a channel. -/
  | mbxBindWrite (id : Nat) (ch : Nat) (value : Nat)
  /-- MBX_BIND_LOCK (R438). BIND_CTL.LOCK locks every binding entry. -/
  | mbxBindLock (id : Nat)
  /-- MBX_REQ_RECEIVE (R452). A remote MBX_REQ is applied as identity 52 and answered. -/
  | mbxReqReceive (node : Nat) (mop : Nat) (tag : Nat) (off32 : Nat) (value : Nat) (job64 : Nat)
  /-- MBX_RSP_RECEIVE (R452). An MBX_RSP arrives for the firmware's remote access. -/
  | mbxRspReceive (node : Nat) (status : Nat) (tag : Nat) (off32 : Nat) (value : Nat)
  /-- GAF_RELEASE (R458). RUN_n set to 1 releases a gaffer core. -/
  | gafRelease (id : Nat) (core : Nat)
  /-- GAF_RESET (R459). RUN_n set to 0 resets a gaffer core. -/
  | gafReset (id : Nat) (core : Nat)
  /-- GAF_READY (R458). A core's firmware sets READY. -/
  | gafReady (core : Nat)
  /-- GAF_SERVICE_DISPATCH (R457). A core starts handling its highest-priority pending item. -/
  | gafServiceDispatch (core : Nat)
  /-- GAF_YIELD (R467). The firmware yields and its watchdog restarts. -/
  | gafYield (core : Nat)
  /-- GAF_WATCHDOG_EXPIRY (R467). A core's watchdog expires; HUB_WATCHDOG is formed and the core reset. -/
  | gafWatchdogExpiry (core : Nat)
  /-- GAF_DBG_HALT (R465). A HALT request halts a gaffer core. -/
  | gafDbgHalt (id : Nat) (core : Nat) (inSeq : Bool)
  /-- GAF_DBG_RUN (R465). A RUN request resumes a halted core. -/
  | gafDbgRun (id : Nat) (core : Nat)
  /-- GAF_DBG_STEP (R465). A STEP request retires one instruction and halts. -/
  | gafDbgStep (id : Nat) (core : Nat)
  /-- GAF_BREAK_HIT (R465). A core fetches a break instruction and halts. -/
  | gafBreakHit (core : Nat) (unit : Nat)
  /-- LOCKED_HALT_FORCE (R484). A deferred halt is forced after 256 CORECLK. -/
  | lockedHaltForce (core : Nat)
  /-- GAF_DBG_DATA_WRITE (R465). A write sets a halted core's selected register. -/
  | gafDbgDataWrite (id : Nat) (core : Nat) (value : Nat)
  /-- GAF_MEM_ACCESS (R464). A GAF_MEM_DATA access reads or writes a word and steps the address. -/
  | gafMemAccess (id : Nat) (isWrite : Bool) (value : Nat)
  /-- PATCH_RESTART (R461). GAF_PATCH_CTL.RESTART resets the blob pointer. -/
  | patchRestart (id : Nat)
  /-- PATCH_BLOB_WRITE (R461). A write stores four blob bytes. -/
  | patchBlobWrite (id : Nat) (value : Nat)
  /-- PATCH_APPLY (R461). APPLY starts the blob checks. -/
  | patchApply (id : Nat)
  /-- PATCH_CHECKS_DONE (R461). Checks end; the blob is applied or PATCH_INTEGRITY formed. -/
  | patchChecksDone
  /-- PATCH_SCRUB (R462). The scrubber rechecks patch lines and disables a failing unit. -/
  | patchScrub (unit : Nat) (line : List Nat)
  /-- PATCH_UNIT_WRITE (R463). A GAF_PU_CFG write sets a breakpoint unit. -/
  | patchUnitWrite (id : Nat) (unit : Nat) (value : Nat)
  /-- ROLSAL_LINE_RESET (R472). 64 ones on RSIO reset the line and end the session. -/
  | rolsalLineReset
  /-- ROLSAL_READ_PACKET (R478). A read request packet is answered and may start a C access. -/
  | rolsalReadPacket (req : Nat)
  /-- ROLSAL_WRITE_PACKET (R478). A write request packet is answered and its data taken. -/
  | rolsalWritePacket (req : Nat) (value : Nat) (parity : Bool)
  /-- ROLSAL_ACCESS_COMPLETE (R478). A pending C access completes in the hub. -/
  | rolsalAccessComplete
  /-- ROLSAL_ACCESS_TIMEOUT (R478). A pending C access exceeds DAM_TMO and is abandoned. -/
  | rolsalAccessTimeout
  /-- ROLSAL_CANCEL (R478). RS_CANCEL abandons the pending access. -/
  | rolsalCancel
  /-- AUTH_BEGIN (R487). AUTH_CTL.BEGIN draws a challenge. -/
  | authBegin
  /-- AUTH_IN_WRITE (R487). A write stores four authentication input bytes. -/
  | authInWrite (value : Nat)
  /-- AUTH_VERIFY (R487). AUTH_CTL.VERIFY starts verification. -/
  | authVerify
  /-- AUTH_VERIFY_DONE (R488). Verification establishes a session or records a failure. -/
  | authVerifyDone
  /-- AUTH_END (R490). AUTH_CTL.END ends the session. -/
  | authEnd
  /-- AUTH_RENEW_WRITE (R489). A renewal MAC renews or ends the session. -/
  | authRenewWrite (mac : Nat)
  /-- ROLSAL_IDLE_TIMEOUT (R490). No request for IDLE_TMO ends the session. -/
  | rolsalIdleTimeout
  /-- ROLSAL_SESSION_EXPIRY (R490). The chain's MAX_SESSION passes and the session ends. -/
  | rolsalSessionExpiry
  /-- RS_SESS_END_WRITE (R491). RS_SESS.END from the register window ends a session. -/
  | rsSessEndWrite (id : Nat)
  /-- DRAIN_START (R485). DRN_CTL.START starts a window 3 drain. -/
  | drainStart (value : Nat)
  /-- DRAIN_STOP (R485). DRN_CTL.STOP ends the drain at the next block boundary. -/
  | drainStop
  /-- DRAIN_DATA_READ (R485). A DRN_DATA read delivers and consumes four ring bytes. -/
  | drainDataRead
  /-- PRIV_MAP_WRITE (R493). A PRIV_MAP write sets identity classes. -/
  | privMapWrite (id : Nat) (index4 : Nat) (value : Nat)
  /-- SEC_EN_WRITE (R499). A change of SEC_EN is distributed to stations. -/
  | secEnWrite (id : Nat) (on : Bool)
  /-- STATION_SECURITY_APPLY (R499). A station applies a security page value at the frame boundary. -/
  | stationSecurityApply (stn : Nat)
  /-- TEST_EN_WRITE (R565). A write of TEST_EN enables or ends test mode. -/
  | testEnWrite (id : Nat) (on : Bool)
  /-- CUST_GRANT_WRITE (R494). The custodian grants CUSTODIAN to one identity. -/
  | custGrantWrite (id : Nat) (value : Nat)
  /-- OTP_READ (R502). OTP_CTL GO with OP READ reads a field. -/
  | otpRead (id : Nat) (field : Nat)
  /-- OTP_PROGRAM (R502). OTP_CTL GO with OP PROGRAM programs or raises a field. -/
  | otpProgram (id : Nat) (field : Nat)
  /-- OTP_GENKEY (R503). OTP_CTL GO with OP GENKEY generates the device key. -/
  | otpGenkey (id : Nat) (field : Nat)
  /-- OTP_OPERATION_DONE (R502). The OTP operation ends and ERR is recorded. -/
  | otpOperationDone (back : List Nat)
  /-- HUB_COLD_ASSERT (R539). HUB_COLD_N asserts and the hub resets at once. -/
  | hubColdAssert
  /-- HUB_COLD_RELEASE (R539). HUB_COLD_N releases; dividers start and straps are sampled. -/
  | hubColdRelease (scope : Bool) (prio : Bool) (scan : Bool)
  /-- OTP_STARTUP_READ_DONE (R539). The start-up OTP read completes and the register window opens. -/
  | otpStartupReadDone
  /-- HUB_WARM_ASSERT (R541). HUB_WARM_N asserts; frames stop and services end. -/
  | hubWarmAssert
  /-- HUB_WARM_RELEASE (R541). HUB_WARM_N releases and RST_CAUSE reads WARM. -/
  | hubWarmRelease
  /-- CELL_COLD_RESET_ASSERT (R537). A distributed cell's COLD_N asserts with its region's power-good. -/
  | cellColdResetAssert (stn : Nat)
  /-- CELL_COLD_RESET_RELEASE (R537). A cell leaves cold reset and its ports start. -/
  | cellColdResetRelease (stn : Nat)
  /-- HUB_ALIVE_TOGGLE (R521). HUB_ALIVE inverts every 1,000 CORECLK. -/
  | hubAliveToggle
  /-- FABRIC_MESSAGE_DISCARD (R515). A received message with reserved or mismatched KIND is discarded. -/
  | fabricMessageDiscard
  /-- PTB_CTL_WRITE (R566). A PTB_CTL write changes active perturbations and is distributed. -/
  | ptbCtlWrite (id : Nat) (value : Nat)
  /-- PTB_PARAM_WRITE (R567). A write of a perturbation parameter is sent to the stations. -/
  | ptbParamWrite (id : Nat) (reg : Nat) (value : Nat)
  /-- PTB_FORCE_WRITE (R573). A write of PTB_FORCE forms a forced fault record. -/
  | ptbForceWrite (id : Nat) (value : Nat)
  /-- FORCED_FAULT_STATION (R573). A station forms a forced fault at its frame boundary. -/
  | forcedFaultStation (stn : Nat)
  /-- HUB_ROOT_CLK_STOP (R534). HUB_ROOT_CLK stops while HUB_COLD_N is released; the hub goes inert with SH_CMD and the reset word held and HUB_ALIVE stopped. -/
  | hubRootClkStop
  /-- DEFERRED_HALT_TAKE (R484). A gaffer core's locked or reserved sequence ends within 256 CORECLK and the deferred halt takes effect, clearing DEFERRED and pausing the watchdog. -/
  | deferredHaltTake (core : Nat)
  /-- EV_KIND_RESERVED (R56). A unit presents an event with a reserved EV_KIND (5 to 7); the station ignores it and raises or counts UAP_PROTOCOL. -/
  | evKindReserved (unit : Nat) (cken : Bool)
  /-- UPWARD_DECODE_ERROR (R148). The root's upward receiver sees an inverted cycle outside any run and outside the expected reply, records a decode error and raises SHEAR_SELFTEST. -/
  | upwardDecodeError
  /-- WARM_WINDOW_REOPEN (R541). On the 64th CORECLK after HUB_WARM_N is released, the register window target takes requests again. -/
  | warmWindowReopen
  deriving DecidableEq, Repr

end Sys2Proof
end

