-- ==== Sys2Proof/WellFormed.lean ====
section
/-! DEFINITION. Which commands are well formed: every operand within the width the spec gives its signal or field. -/

namespace Sys2Proof

/-- The width check of a command's operands. -/
def Instr.wf : Instr → Bool
  | .registerWrite id addr be value => decide (id < 64) && decide (addr < 2 ^ 22) && decide (be < 16) && decide (value < 2 ^ 32)
  | .wideRegisterLowRead id addr be => decide (id < 64) && decide (addr < 2 ^ 22) && decide (be < 16)
  | .rcRegisterRead id addr be => decide (id < 64) && decide (addr < 2 ^ 22) && decide (be < 16)
  | .uapPowerOff unit => decide (unit < 16384)
  | .uapPowerOn unit ty cv flat => decide (unit < 16384) && decide (ty < 8) && decide (cv < 4) && decide (flat < 64)
  | .uapResetAssert unit => decide (unit < 16384)
  | .uapResetRelease unit => decide (unit < 16384)
  | .cmdEventBegin unit _ ctx epoch seq layer op bclass queue => decide (unit < 16384) && decide (ctx < 256) && decide (epoch < 256) && decide (seq < 2 ^ 32) && decide (layer < 65536) && decide (op < 65536) && decide (bclass < 16) && decide (queue < 64)
  | .cmdEventEnd unit _ ctx epoch seq layer op bclass queue => decide (unit < 16384) && decide (ctx < 256) && decide (epoch < 256) && decide (seq < 2 ^ 32) && decide (layer < 65536) && decide (op < 65536) && decide (bclass < 16) && decide (queue < 64)
  | .cmdEventAbort unit _ ctx epoch seq layer op bclass queue => decide (unit < 16384) && decide (ctx < 256) && decide (epoch < 256) && decide (seq < 2 ^ 32) && decide (layer < 65536) && decide (op < 65536) && decide (bclass < 16) && decide (queue < 64)
  | .cmdEventSuspend unit _ ctx epoch seq layer op bclass queue => decide (unit < 16384) && decide (ctx < 256) && decide (epoch < 256) && decide (seq < 2 ^ 32) && decide (layer < 65536) && decide (op < 65536) && decide (bclass < 16) && decide (queue < 64)
  | .cmdEventResume unit _ ctx epoch seq layer op bclass queue => decide (unit < 16384) && decide (ctx < 256) && decide (epoch < 256) && decide (seq < 2 ^ 32) && decide (layer < 65536) && decide (op < 65536) && decide (bclass < 16) && decide (queue < 64)
  | .unitIncrementCycle unit _ _ _ errCorr _ rds wrs tx txTc rx rxTc energy _ fltCode => decide (unit < 16384) && decide (errCorr < 16) && rds.all (fun x => decide (x < 4096)) && wrs.all (fun x => decide (x < 4096)) && decide (tx < 4096) && decide (txTc < 8) && decide (rx < 4096) && decide (rxTc < 8) && decide (energy < 65536) && decide (fltCode < 256)
  | .shAckRise unit => decide (unit < 16384)
  | .shAckLate unit => decide (unit < 16384)
  | .striaTapBeat unit _ mask data fmt coord sample pos queue out scale => decide (unit < 16384) && decide (mask < 256) && decide (data < 2 ^ 256) && decide (fmt < 16) && decide (coord < 2 ^ 47) && decide (sample < 256) && decide (pos < 2 ^ 22) && decide (queue < 64) && decide (out < 16) && decide (scale < 256)
  | .striaPairAbsorb stn => decide (stn < 1024)
  | .dbgCtlWrite unit value => decide (unit < 16384) && decide (value < 2 ^ 32)
  | .dbgAddrWrite unit value64 => decide (unit < 16384) && decide (value64 < 2 ^ 64)
  | .dbgCmdHalt unit => decide (unit < 16384)
  | .dbgCmdRun unit => decide (unit < 16384)
  | .dbgCmdStep unit => decide (unit < 16384)
  | .coreHaltedRise unit cause hit => decide (unit < 16384) && decide (cause < 8) && decide (hit < 8)
  | .coreHaltedFall unit => decide (unit < 16384)
  | .haltedLate unit => decide (unit < 16384)
  | .secureEnter unit => decide (unit < 16384)
  | .secureExit unit => decide (unit < 16384)
  | .itRecord unit _ itKind count addr64 _ => decide (unit < 16384) && decide (itKind < 4) && decide (count < 256) && decide (addr64 < 2 ^ 64)
  | .dtRecord unit _ _ size addr64 data64 _ => decide (unit < 16384) && decide (size < 4) && decide (addr64 < 2 ^ 64) && decide (data64 < 2 ^ 64)
  | .frameBoundary echoes => echoes.all (fun x => decide (x.1 < 16) && decide (x.2 < 2 ^ 32))
  | .upstreamFlitError rib slot flit => decide (rib < 16) && decide (slot < 512) && decide (flit < 2 ^ 40)
  | .stationDownstreamError d => decide (d.stn < 1024) && decide (d.slot < 512) && decide (d.flit < 2 ^ 40) && decide (d.idx < 256)
  | .stationSlotCollision stn => decide (stn < 1024)
  | .netErrNoteSend stn => decide (stn < 1024)
  | .netErrNoteArrival stn => decide (stn < 1024)
  | .stationUpstreamSend stn n => decide (stn < 1024) && decide (n < 17)
  | .stationWindowRead id addr _ => decide (id < 64) && decide (addr < 2 ^ 22)
  | .stationWindowWrite id addr value => decide (id < 64) && decide (addr < 2 ^ 22) && decide (value < 2 ^ 32)
  | .stationRegRd stn cap => decide (stn < 1024) && decide (cap < 2 ^ 32)
  | .stationRegWr stn => decide (stn < 1024)
  | .regrdArrival stn => decide (stn < 1024)
  | .stationReduceReq stn => decide (stn < 1024)
  | .reducePartnerTimeout stn => decide (stn < 1024)
  | .reductionSample => true
  | .reductionResult tag => decide (tag < 256)
  | .isolationAssert _ point => decide (point < 8)
  | .isolationRelease _ point => decide (point < 8)
  | .restorationTimeout rib => decide (rib < 16)
  | .caneTrain id => decide (id < 64)
  | .caneRetrain id rib => decide (id < 64) && decide (rib < 16)
  | .trainingComplete rib trips _ => decide (rib < 16) && trips.all (fun x => decide (x < 65536))
  | .caneEnable id => decide (id < 64)
  | .caneDisable id => decide (id < 64)
  | .framesStop => true
  | .slotRestart id => decide (id < 64)
  | .slotDataWrite id value => decide (id < 64) && decide (value < 2 ^ 32)
  | .slotValidate id => decide (id < 64)
  | .slotValidationDone => true
  | .stationSlotLoad stn => decide (stn < 1024)
  | .slotVerifyTimeout stn => decide (stn < 1024)
  | .timeStart id => decide (id < 64)
  | .timeLock id => decide (id < 64)
  | .timeIncWrite id value64 => decide (id < 64) && decide (value64 < 2 ^ 64)
  | .stationTsLoad stn _ => decide (stn < 1024)
  | .stationFrameMark stn f _ lo _ hi _ => decide (stn < 1024) && decide (f < 2 ^ 32) && decide (lo < 2 ^ 32) && decide (hi < 2 ^ 32)
  | .stationMarkTimeout stn => decide (stn < 1024)
  | .gatherPingSend => true
  | .gpingReceive node index session t1 => decide (node < 2 ^ 24) && decide (index < 16) && decide (session < 65536) && decide (t1 < 2 ^ 64)
  | .gpongReceive node index session t1 t2 t3 => decide (node < 2 ^ 24) && decide (index < 16) && decide (session < 65536) && decide (t1 < 2 ^ 64) && decide (t2 < 2 ^ 64) && decide (t3 < 2 ^ 64)
  | .gatherRoundEnd => true
  | .gatherSecondRound => true
  | .gatherPeriodicRound => true
  | .gatherTimeout => true
  | .shearRequestDecided => true
  | .shearCommit => true
  | .stationShearDecode stn a b => decide (stn < 1024) && decide (a < 32) && decide (b < 16)
  | .cutTick => true
  | .resumeIssue => true
  | .resumeTick => true
  | .selftestTestSend => true
  | .selftestReply stn => decide (stn < 1024)
  | .selftestRootCheck _ => true
  | .receiverLock _ stn => decide (stn < 1024)
  | .shearEnable id => decide (id < 64)
  | .shearDisable id => decide (id < 64)
  | .shearTrigLatch id => decide (id < 64)
  | .shearTrigFreeze id => decide (id < 64)
  | .shearTrigDrain id => decide (id < 64)
  | .shearTrigRunOn id => decide (id < 64)
  | .shearTrigResume id => decide (id < 64)
  | .carrierShearRequest _ => true
  | .carrierShearPairError _ => true
  | .cutAtTrigger => true
  | .culletReadGo id types => decide (id < 64) && decide (types < 64)
  | .culletReadoutStart => true
  | .stationCulletRd stn => decide (stn < 1024)
  | .stationCulletGroupDone stn vectors => decide (stn < 1024) && vectors.all (fun v => v.all (fun x => decide (x < 256)))
  | .culletMessageArrival stn => decide (stn < 1024)
  | .culletReadoutTimeout => true
  | .stnPcCfgWrite id stn ctr value64 => decide (id < 64) && decide (stn < 1024) && decide (ctr < 16) && decide (value64 < 2 ^ 64)
  | .stationCtrConfig stn => decide (stn < 1024)
  | .counterConfigApply stn => decide (stn < 1024)
  | .stationCtrRead stn => decide (stn < 1024)
  | .counterSample stn => decide (stn < 1024)
  | .stationCtrKeys stn => decide (stn < 1024)
  | .stationAttrDump stn => decide (stn < 1024)
  | .counterMessageArrival stn => decide (stn < 1024)
  | .attribMessageArrival stn => decide (stn < 1024)
  | .counterReadTimeout => true
  | .counterWrapNoteSend stn => decide (stn < 1024)
  | .counterWrapNoteArrival stn => decide (stn < 1024)
  | .ctrCtlWrite id value => decide (id < 64) && decide (value < 2 ^ 32)
  | .attrCtxEnWrite id index8 value => decide (id < 64) && decide (index8 < 8) && decide (value < 2 ^ 32)
  | .traceMessageFlush stn => decide (stn < 1024)
  | .stimWrite id stim value => decide (id < 64) && decide (stim < 32) && decide (value < 2 ^ 32)
  | .centralBatchWrite => true
  | .traceMessageArrival stn => decide (stn < 1024)
  | .trcFreeze id => decide (id < 64)
  | .trcClear id => decide (id < 64)
  | .trcCtlWrite id value => decide (id < 64) && decide (value < 2 ^ 32)
  | .trcPortWrite id port value => decide (id < 64) && decide (port < 16) && decide (value < 2 ^ 32)
  | .trcCmpWrite id cmp word value => decide (id < 64) && decide (cmp < 8) && decide (word < 8) && decide (value < 2 ^ 32)
  | .trcCtxEnWrite id index8 value => decide (id < 64) && decide (index8 < 8) && decide (value < 2 ^ 32)
  | .trcLlWrite id value => decide (id < 64) && decide (value < 2 ^ 32)
  | .trcRdWrite id value => decide (id < 64) && decide (value < 2 ^ 32)
  | .seqArm id => decide (id < 64)
  | .seqDisarm id => decide (id < 64)
  | .sequencerEvent => true
  | .timeComparatorMatch => true
  | .triggerNoteSend stn => decide (stn < 1024)
  | .triggerNoteArrival stn => decide (stn < 1024)
  | .captureStateApply stn => decide (stn < 1024)
  | .stationTracePorts stn => decide (stn < 1024)
  | .stationTraceCmp stn => decide (stn < 1024)
  | .stationTraceCtx stn => decide (stn < 1024)
  | .stationTraceParam stn => decide (stn < 1024)
  | .stationTraceResync stn => decide (stn < 1024)
  | .traceConfigApply stn => decide (stn < 1024)
  | .stationStriaSlot stn => decide (stn < 1024)
  | .striaSlotApply stn => decide (stn < 1024)
  | .stationStriaSettle stn => decide (stn < 1024)
  | .striaSettle stn => decide (stn < 1024)
  | .stationStriaRelease stn => decide (stn < 1024)
  | .striaTileMessageArrival stn => decide (stn < 1024)
  | .striaFenceArrival stn => decide (stn < 1024)
  | .striaFenceTimeout => true
  | .budgetRowApply => true
  | .budgetWatchdogExpiry unit => decide (unit < 16384)
  | .progressWatchdogExpiry unit => decide (unit < 16384)
  | .hbCtlWrite id index32 value => decide (id < 64) && decide (index32 < 32) && decide (value < 2 ^ 32)
  | .heartbeatWatchdogExpiry index32 => decide (index32 < 32)
  | .faultLatchAck stn => decide (stn < 1024)
  | .faultRecordCompletion stn => decide (stn < 1024)
  | .faultNoteSend stn => decide (stn < 1024)
  | .faultNoteArrival stn => decide (stn < 1024)
  | .faultMessageArrival stn => decide (stn < 1024)
  | .faultPendingTimeout => true
  | .faultLoggedEntryExpiry => true
  | .epochSetSend => true
  | .stationEpochNote stn => decide (stn < 1024)
  | .epochApply => true
  | .deadlinePageAccess id off _ value _ => decide (id < 64) && decide (off < 2048) && decide (value < 2 ^ 32)
  | .lehrStartWrite id value => decide (id < 64) && decide (value < 2 ^ 32)
  | .dumpAccept => true
  | .lehrPhaseDeadline => true
  | .dumpMasterReadData tag data _ => decide (tag < 1024) && data.all (fun x => decide (x < 256))
  | .dumpMasterReadTimeout => true
  | .dumpMasterWriteAck tag _ => decide (tag < 1024)
  | .dumpMasterWriteTimeout => true
  | .lehrAbortWrite id => decide (id < 64)
  | .lehrDestWrite id index4 word value64 => decide (id < 64) && decide (index4 < 4) && decide (word < 8) && decide (value64 < 2 ^ 64)
  | .rstReqGo id value => decide (id < 64) && decide (value < 2 ^ 32)
  | .resetAnswerAccepted seq => decide (seq < 4)
  | .resetAnswerDone seq => decide (seq < 4)
  | .resetAnswerRefused seq => decide (seq < 4)
  | .resetAnswerInvalid => true
  | .resetStepDeadline => true
  | .chipStepNoAccept => true
  | .resetCollectTimeout => true
  | .reheatMarkWrite id value => decide (id < 64) && decide (value < 2 ^ 32)
  | .reheatMilestoneDeadline => true
  | .rstModeWrite id value => decide (id < 64) && decide (value < 2 ^ 32)
  | .noticeFanoutStart => true
  | .peerNoticeSend => true
  | .noticeFanoutDeadline => true
  | .peerNoticeReceive node bytes => decide (node < 2 ^ 24) && bytes.all (fun x => decide (x < 256))
  | .peerSilentExpiry => true
  | .streamMapWrite id strm value => decide (id < 64) && decide (strm < 64) && decide (value < 2 ^ 32)
  | .ledgerScanStart id value => decide (id < 64) && decide (value < 2 ^ 32)
  | .ledgerScanDone => true
  | .ledgerRecordTimeout => true
  | .ledgerCheckTimeout => true
  | .regionDigestDone => true
  | .digestReqReceive node tag job64 addr64 len64 => decide (node < 2 ^ 24) && decide (tag < 65536) && decide (job64 < 2 ^ 64) && decide (addr64 < 2 ^ 64) && decide (len64 < 2 ^ 64)
  | .digestRspReceive node status tag addr64 len64 digest64 => decide (node < 2 ^ 24) && decide (status < 256) && decide (tag < 65536) && decide (addr64 < 2 ^ 64) && decide (len64 < 2 ^ 64) && decide (digest64 < 2 ^ 64)
  | .mirrorVerifyTimeout => true
  | .copyTimeout => true
  | .contAbortCopy id => decide (id < 64)
  | .fabricWriteAck tag _ => decide (tag < 1024)
  | .fabricWriteTimeout => true
  | .sqDoorbell id ring value => decide (id < 64) && decide (ring < 64) && decide (value < 2 ^ 32)
  | .eqDoorbell id ring value => decide (id < 64) && decide (ring < 64) && decide (value < 2 ^ 32)
  | .ringFetchTurn => true
  | .descriptorAccept => true
  | .descriptorFetchError tag => decide (tag < 64)
  | .hostReadReturn tag data _ => decide (tag < 64) && data.all (fun x => decide (x < 256))
  | .hostReadTimeout => true
  | .eventEntryWrite ring => decide (ring < 64)
  | .hostWriteAck tag _ => decide (tag < 64)
  | .hostWriteTimeout => true
  | .eqInterruptTimer => true
  | .intMaskWrite id _ value => decide (id < 64) && decide (value < 2 ^ 32)
  | .ringEnable id _ ring => decide (id < 64) && decide (ring < 64)
  | .ringDisable id _ ring => decide (id < 64) && decide (ring < 64)
  | .ringZero id _ ring _ => decide (id < 64) && decide (ring < 64)
  | .functionReset ident => decide (ident < 64)
  | .controlGroupReset group => decide (group < 16)
  | .nop ring idx => decide (ring < 64) && decide (idx < 2 ^ 16)
  | .fence ring idx => decide (ring < 64) && decide (idx < 2 ^ 16)
  | .counterConfig ring idx => decide (ring < 64) && decide (idx < 2 ^ 16)
  | .counterRead ring idx => decide (ring < 64) && decide (idx < 2 ^ 16)
  | .counterReduce ring idx => decide (ring < 64) && decide (idx < 2 ^ 16)
  | .energyRead ring idx => decide (ring < 64) && decide (idx < 2 ^ 16)
  | .traceConfig ring idx => decide (ring < 64) && decide (idx < 2 ^ 16)
  | .traceArm ring idx => decide (ring < 64) && decide (idx < 2 ^ 16)
  | .traceStop ring idx => decide (ring < 64) && decide (idx < 2 ^ 16)
  | .traceDrain ring idx => decide (ring < 64) && decide (idx < 2 ^ 16)
  | .traceMark ring idx => decide (ring < 64) && decide (idx < 2 ^ 16)
  | .striaArm ring idx => decide (ring < 64) && decide (idx < 2 ^ 16)
  | .striaDisarm ring idx => decide (ring < 64) && decide (idx < 2 ^ 16)
  | .striaRead ring idx => decide (ring < 64) && decide (idx < 2 ^ 16)
  | .cut ring idx => decide (ring < 64) && decide (idx < 2 ^ 16)
  | .cutAt ring idx => decide (ring < 64) && decide (idx < 2 ^ 16)
  | .resume ring idx => decide (ring < 64) && decide (idx < 2 ^ 16)
  | .snapshot ring idx => decide (ring < 64) && decide (idx < 2 ^ 16)
  | .dump ring idx => decide (ring < 64) && decide (idx < 2 ^ 16)
  | .dumpAbort ring idx => decide (ring < 64) && decide (idx < 2 ^ 16)
  | .dumpStatus ring idx => decide (ring < 64) && decide (idx < 2 ^ 16)
  | .resetRequest ring idx => decide (ring < 64) && decide (idx < 2 ^ 16)
  | .reheatStatus ring idx => decide (ring < 64) && decide (idx < 2 ^ 16)
  | .ledgerRecord ring idx => decide (ring < 64) && decide (idx < 2 ^ 16)
  | .ledgerCheck ring idx => decide (ring < 64) && decide (idx < 2 ^ 16)
  | .mirrorVerify ring idx => decide (ring < 64) && decide (idx < 2 ^ 16)
  | .copy ring idx => decide (ring < 64) && decide (idx < 2 ^ 16)
  | .gather ring idx => decide (ring < 64) && decide (idx < 2 ^ 16)
  | .noticeSend ring idx => decide (ring < 64) && decide (idx < 2 ^ 16)
  | .jobTableLoad ring idx => decide (ring < 64) && decide (idx < 2 ^ 16)
  | .budgetTableLoad ring idx => decide (ring < 64) && decide (idx < 2 ^ 16)
  | .contextBind ring idx => decide (ring < 64) && decide (idx < 2 ^ 16)
  | .stationAccess ring idx => decide (ring < 64) && decide (idx < 2 ^ 16)
  | .mbxGo id ch dir => decide (id < 64) && decide (ch < 32) && decide (dir < 2)
  | .mbxRetract id ch dir => decide (id < 64) && decide (ch < 32) && decide (dir < 2)
  | .mbxClaim id ch dir => decide (id < 64) && decide (ch < 32) && decide (dir < 2)
  | .mbxAck id ch dir code => decide (id < 64) && decide (ch < 32) && decide (dir < 2) && decide (code < 256)
  | .mbxCrossDefer ch => decide (ch < 32)
  | .mbxAckDelayedEffect ch dir => decide (ch < 32) && decide (dir < 2)
  | .doorbellClear id target value => decide (id < 64) && decide (target < 53) && decide (value < 2 ^ 32)
  | .doorbellMaskWrite id target value => decide (id < 64) && decide (target < 53) && decide (value < 2 ^ 32)
  | .mbxBindWrite id ch value => decide (id < 64) && decide (ch < 32) && decide (value < 2 ^ 32)
  | .mbxBindLock id => decide (id < 64)
  | .mbxReqReceive node mop tag off32 value job64 => decide (node < 2 ^ 24) && decide (mop < 3) && decide (tag < 65536) && decide (off32 < 2 ^ 32) && decide (value < 2 ^ 32) && decide (job64 < 2 ^ 64)
  | .mbxRspReceive node status tag off32 value => decide (node < 2 ^ 24) && decide (status < 256) && decide (tag < 65536) && decide (off32 < 2 ^ 32) && decide (value < 2 ^ 32)
  | .gafRelease id core => decide (id < 64) && decide (core < 2)
  | .gafReset id core => decide (id < 64) && decide (core < 2)
  | .gafReady core => decide (core < 2)
  | .gafServiceDispatch core => decide (core < 2)
  | .gafYield core => decide (core < 2)
  | .gafWatchdogExpiry core => decide (core < 2)
  | .gafDbgHalt id core _ => decide (id < 64) && decide (core < 2)
  | .gafDbgRun id core => decide (id < 64) && decide (core < 2)
  | .gafDbgStep id core => decide (id < 64) && decide (core < 2)
  | .gafBreakHit core unit => decide (core < 2) && decide (unit < 16)
  | .lockedHaltForce core => decide (core < 2)
  | .gafDbgDataWrite id core value => decide (id < 64) && decide (core < 2) && decide (value < 2 ^ 32)
  | .gafMemAccess id _ value => decide (id < 64) && decide (value < 2 ^ 32)
  | .patchRestart id => decide (id < 64)
  | .patchBlobWrite id value => decide (id < 64) && decide (value < 2 ^ 32)
  | .patchApply id => decide (id < 64)
  | .patchChecksDone => true
  | .patchScrub unit line => decide (unit < 16) && line.all (fun x => decide (x < 4294967296))
  | .patchUnitWrite id unit value => decide (id < 64) && decide (unit < 16) && decide (value < 2 ^ 32)
  | .rolsalLineReset => true
  | .rolsalReadPacket req => decide (req < 2 ^ 16)
  | .rolsalWritePacket req value _ => decide (req < 2 ^ 16) && decide (value < 2 ^ 32)
  | .rolsalAccessComplete => true
  | .rolsalAccessTimeout => true
  | .rolsalCancel => true
  | .authBegin => true
  | .authInWrite value => decide (value < 2 ^ 32)
  | .authVerify => true
  | .authVerifyDone => true
  | .authEnd => true
  | .authRenewWrite mac => decide (mac < 2 ^ 32)
  | .rolsalIdleTimeout => true
  | .rolsalSessionExpiry => true
  | .rsSessEndWrite id => decide (id < 64)
  | .drainStart value => decide (value < 2 ^ 32)
  | .drainStop => true
  | .drainDataRead => true
  | .privMapWrite id index4 value => decide (id < 64) && decide (index4 < 4) && decide (value < 2 ^ 32)
  | .secEnWrite id _ => decide (id < 64)
  | .stationSecurityApply stn => decide (stn < 1024)
  | .testEnWrite id _ => decide (id < 64)
  | .custGrantWrite id value => decide (id < 64) && decide (value < 2 ^ 32)
  | .otpRead id field => decide (id < 64) && decide (field < 16)
  | .otpProgram id field => decide (id < 64) && decide (field < 16)
  | .otpGenkey id field => decide (id < 64) && decide (field < 16)
  | .otpOperationDone back => back.all (fun x => decide (x < 2 ^ 32))
  | .hubColdAssert => true
  | .hubColdRelease _ _ _ => true
  | .otpStartupReadDone => true
  | .hubWarmAssert => true
  | .hubWarmRelease => true
  | .cellColdResetAssert stn => decide (stn < 1024)
  | .cellColdResetRelease stn => decide (stn < 1024)
  | .hubAliveToggle => true
  | .fabricMessageDiscard => true
  | .ptbCtlWrite id value => decide (id < 64) && decide (value < 2 ^ 32)
  | .ptbParamWrite id reg value => decide (id < 64) && decide (reg < 7) && decide (value < 2 ^ 32)
  | .ptbForceWrite id value => decide (id < 64) && decide (value < 2 ^ 32)
  | .forcedFaultStation stn => decide (stn < 1024)
  | .hubRootClkStop => true
  | .deferredHaltTake core => decide (core < 2)
  | .evKindReserved unit _ => decide (unit < 16384)
  | .upwardDecodeError => true
  | .warmWindowReopen => true

end Sys2Proof
end

