-- ==== Sys2Proof/Config.lean ====
section
/-! DEFINITION. What one part is built with (R505) and the values the spec leaves open: each is an opaque constant with
no body, so no proof can lean on a value of it (log entries 3 to 8). -/

namespace Sys2Proof.Config

/-- A fresh unconstrained word: applied to a counter the step reads and advances (State.fresh). Free value: the spec
names the value's source (the hub's internal random source, R487, R503) or leaves the value open. -/
opaque freeWord : Nat → Nat

/-- Does an Ed25519 signature verify: public key, message bytes, signature (R94, R461, R488). Free function. -/
opaque ed25519Verify : Nat → List Nat → Nat → Bool

/-- The Ed25519 signature the hub's signing unit makes: private key, message bytes (R330, R487). Free function. -/
opaque ed25519Sign : Nat → List Nat → Nat

/-- The Ed25519 public key of a private key (R503). Free function. -/
opaque ed25519Public : Nat → Nat

/-- The X25519 function of a scalar and a point (R487). Free function. -/
opaque x25519 : Nat → Nat → Nat

/-- A word of the gaffer cores' ROM (R455): the firmware of the release, which the spec does not give. Free function. -/
opaque romWord : Nat → Nat

end Sys2Proof.Config
end

