-- ==== Sys2Proof/Machine/Regs.lean ====
section
/-! DEFINITION. The register map: the address, access masks, reset value, warm behaviour and access classes of every
register of the register window (R4 to R7, R553 to R558), of the station pages (R290, R361, R499), and one name for
every field of the spec's register field tables. Offsets and fields are those of the owning chapters' tables. -/

namespace Sys2Proof.Machine

/-- A field of a register: the register's address, its lowest bit and its width. -/
structure Fld where
  addr : Nat
  lo : Nat
  width : Nat
  deriving DecidableEq, Repr

/-- Which class an access needs (R496, or the owning chapter). `byRule` marks a register whose own chapter decides the
access by ownership, binding or role. -/
inductive Need where
  | open_ | tenant | operator | custodian | byRule
  deriving DecidableEq, Repr

/-- One line of the register index (R553): up to three index variables, each with a count and a stride in bytes; the
bits of each access type (R6); the reset value; whether HUB_WARM returns it to reset; the classes of R496. -/
structure RegRow where
  name : String
  base : Nat
  dims : List (Nat × Nat)
  rw : Nat
  rwl : Nat
  w1c : Nat
  w1s : Nat
  wo : Nat
  rc : Nat
  reset : Nat
  warmReset : Bool
  rd : Need
  wr : Need
  deriving DecidableEq, Repr

/-- Base of the station windows (R11), and the model's own address ranges for the station pages, which no master
reaches at a register window offset: deadline page (R290), reset page (R361), security page (R499). -/
def stationBase : Nat := 0x200000
def deadlinePageBase : Nat := 0x400000
def resetPageBase : Nat := 0x600000
def securityPageBase : Nat := 0x800000

namespace R

abbrev HUB_ID : Nat := 0x0
abbrev HUB_IMPL : Nat := 0x4
abbrev HUB_LIMITS : Nat := 0x8
abbrev HUB_CAP_BUILD : Nat := 0xc
abbrev HUB_CAP_EXT : Nat := 0x10
abbrev HUB_STAT : Nat := 0x1000
abbrev HUB_ATTN : Nat := 0x1004
abbrev HUB_NODE : Nat := 0x1008
abbrev HUB_NPEER : Nat := 0x100c
abbrev HUB_JOB_LO : Nat := 0x1010
abbrev HUB_JOB_HI : Nat := 0x1014
abbrev HUB_WARM_TS_LO : Nat := 0x1018
abbrev HUB_WARM_TS_HI : Nat := 0x101c
abbrev HUB_SCRATCH (i : Nat) : Nat := 0x1020 + 0x4 * i
abbrev RS_SESS : Nat := 0x2000
abbrev RS_SESS_SERIAL : Nat := 0x2004
abbrev PRIV_CTL : Nat := 0x2100
abbrev PRIV_STAT : Nat := 0x2104
abbrev PRIV_REJ : Nat := 0x2108
abbrev PRIV_REJ_OFF : Nat := 0x210c
abbrev SEC_CTL : Nat := 0x2110
abbrev CUST_GRANT : Nat := 0x2114
abbrev OTP_CTL : Nat := 0x2300
abbrev OTP_STAT : Nat := 0x2304
abbrev PRIV_MAP (i : Nat) : Nat := 0x2200 + 0x4 * i
abbrev OTP_DATA (i : Nat) : Nat := 0x2320 + 0x4 * i
abbrev SQ_BASE_LO (i : Nat) : Nat := 0x10000 + 0x20 * i
abbrev SQ_BASE_HI (i : Nat) : Nat := 0x10004 + 0x20 * i
abbrev SQ_CFG (i : Nat) : Nat := 0x10008 + 0x20 * i
abbrev SQ_CTL (i : Nat) : Nat := 0x1000c + 0x20 * i
abbrev SQ_STAT (i : Nat) : Nat := 0x10010 + 0x20 * i
abbrev SQ_HEAD (i : Nat) : Nat := 0x10014 + 0x20 * i
abbrev SQ_TAIL (i : Nat) : Nat := 0x10018 + 0x20 * i
abbrev SQ_ERRINFO (i : Nat) : Nat := 0x1001c + 0x20 * i
abbrev EQ_BASE_LO (i : Nat) : Nat := 0x11000 + 0x20 * i
abbrev EQ_BASE_HI (i : Nat) : Nat := 0x11004 + 0x20 * i
abbrev EQ_CFG (i : Nat) : Nat := 0x11008 + 0x20 * i
abbrev EQ_CTL (i : Nat) : Nat := 0x1100c + 0x20 * i
abbrev EQ_STAT (i : Nat) : Nat := 0x11010 + 0x20 * i
abbrev EQ_MOD (i : Nat) : Nat := 0x11014 + 0x20 * i
abbrev EQ_HEAD (i : Nat) : Nat := 0x11018 + 0x20 * i
abbrev EQ_TAIL (i : Nat) : Nat := 0x1101c + 0x20 * i
abbrev INT_MASK_LO : Nat := 0x30000
abbrev INT_MASK_HI : Nat := 0x30004
abbrev INT_PEND_LO : Nat := 0x30008
abbrev INT_PEND_HI : Nat := 0x3000c
abbrev INT_CTL : Nat := 0x30010
abbrev INT_STAT : Nat := 0x30014
abbrev RING_TMO : Nat := 0x30018
abbrev EVT_LOST : Nat := 0x3001c
abbrev RING_REJ : Nat := 0x30020
abbrev SQ_DB (i : Nat) : Nat := 0x100000 + 0x1000 * i
abbrev EQ_DB (i : Nat) : Nat := 0x100004 + 0x1000 * i
abbrev SQ_HEAD_M (i : Nat) : Nat := 0x100008 + 0x1000 * i
abbrev EQ_TAIL_M (i : Nat) : Nat := 0x10000c + 0x1000 * i
abbrev MBX_CH (i : Nat) : Nat := 0x20000 + 0x100 * i
abbrev DB_PEND (i : Nat) : Nat := 0x22000 + 0x10 * i
abbrev DB_MASK (i : Nat) : Nat := 0x22004 + 0x10 * i
abbrev DB_CFG (i : Nat) : Nat := 0x22008 + 0x10 * i
abbrev MBX_REJ : Nat := 0x22c00
abbrev BIND (i : Nat) : Nat := 0xf0000 + 0x4 * i
abbrev BIND_CTL : Nat := 0xf0100
abbrev BIND_STAT : Nat := 0xf0104
abbrev TIME_CTL : Nat := 0x40000
abbrev TIME_STAT : Nat := 0x40004
abbrev TIME_INC_LO : Nat := 0x40008
abbrev TIME_INC_HI : Nat := 0x4000c
abbrev TS_LO : Nat := 0x40010
abbrev TS_HI : Nat := 0x40014
abbrev GATHER_CTL : Nat := 0x40020
abbrev GATHER_STAT : Nat := 0x40024
abbrev GATHER_BUDGET : Nat := 0x40028
abbrev GATHER_IGN : Nat := 0x4002c
abbrev OFFSET_ENT (i j : Nat) : Nat := 0x41000 + 0x20 * i + 0x4 * j
abbrev CANE_CTL : Nat := 0x50000
abbrev CANE_STAT : Nat := 0x50004
abbrev CANE_FRAME_LO : Nat := 0x50008
abbrev CANE_FRAME_HI : Nat := 0x5000c
abbrev ISO_STAT : Nat := 0x50010
abbrev CANE_ERR_LIM : Nat := 0x50014
abbrev CANE_RIB_STAT (i : Nat) : Nat := 0x50040 + 0x4 * i
abbrev CANE_RIB_ERR (i : Nat) : Nat := 0x50080 + 0x4 * i
abbrev SLOT_CTL : Nat := 0x50100
abbrev SLOT_STAT : Nat := 0x50104
abbrev SLOT_WPTR : Nat := 0x50108
abbrev SLOT_DATA : Nat := 0x5010c
abbrev SLOT_INFO : Nat := 0x50110
abbrev SLOT_MISMATCH : Nat := 0x50114
abbrev SLOT_CRC : Nat := 0x50118
abbrev SLOT_BUILD_LO : Nat := 0x50120
abbrev SLOT_BUILD_HI : Nat := 0x50124
abbrev SHEAR_CTL : Nat := 0x51000
abbrev SHEAR_STAT : Nat := 0x51004
abbrev SHEAR_TICK_LO : Nat := 0x51008
abbrev SHEAR_TICK_HI : Nat := 0x5100c
abbrev SHEAR_LAST : Nat := 0x51010
abbrev SHEAR_COUNT : Nat := 0x51014
abbrev SHEAR_TIMING : Nat := 0x51018
abbrev SHEAR_TRIG : Nat := 0x5101c
abbrev SHEAR_ERR : Nat := 0x51020
abbrev SHEAR_RESUME_LO : Nat := 0x51028
abbrev SHEAR_RESUME_HI : Nat := 0x5102c
abbrev CULLET_CTL : Nat := 0x52000
abbrev CULLET_READ : Nat := 0x52004
abbrev CULLET_STAT : Nat := 0x52008
abbrev CULLET_BUDGET : Nat := 0x5200c
abbrev CULLET_TRANSIT : Nat := 0x52010
abbrev CULLET_APT : Nat := 0x52014
abbrev CULLET_SPILL_LO : Nat := 0x52018
abbrev CULLET_SPILL_HI : Nat := 0x5201c
abbrev CULLET_SPILL_LEN : Nat := 0x52020
abbrev CULLET_FREE : Nat := 0x52024
abbrev CULLET_DIR (i j : Nat) : Nat := 0x52100 + 0x40 * i + 0x4 * j
abbrev CULLET_APERTURE (i : Nat) : Nat := 0x53000 + 0x4 * i
abbrev TRC_CTL : Nat := 0x60000
abbrev TRC_STAT : Nat := 0x60004
abbrev TRC_CAP : Nat := 0x60008
abbrev TRC_QUOTA : Nat := 0x6000c
abbrev TRC_WR : Nat := 0x60010
abbrev TRC_OLD : Nat := 0x60014
abbrev TRC_RD : Nat := 0x60018
abbrev TRC_TRIG_POS : Nat := 0x6001c
abbrev TRC_TRIG_TS_LO : Nat := 0x60020
abbrev TRC_TRIG_TS_HI : Nat := 0x60024
abbrev TRC_DROP : Nat := 0x60028
abbrev TRC_GAPS : Nat := 0x6002c
abbrev TRC_OWNER : Nat := 0x60030
abbrev TRC_LL : Nat := 0x60034
abbrev SEQ_CTL : Nat := 0x60040
abbrev SEQ_STAT : Nat := 0x60044
abbrev SEQ_COUNT : Nat := 0x60048
abbrev SEQ_LIMIT : Nat := 0x6004c
abbrev TRC_SEL : Nat := 0x60300
abbrev SEQ_RULE (i j : Nat) : Nat := 0x60060 + 0x8 * i + 0x4 * j
abbrev TRC_CTX_EN (i : Nat) : Nat := 0x60080 + 0x4 * i
abbrev TRC_CMP_CTL (i : Nat) : Nat := 0x60100 + 0x20 * i
abbrev TRC_CMP_MATCH (i : Nat) : Nat := 0x60104 + 0x20 * i
abbrev TRC_CMP_MASK (i : Nat) : Nat := 0x60108 + 0x20 * i
abbrev TRC_CMP_PORTS (i : Nat) : Nat := 0x6010c + 0x20 * i
abbrev TRC_CMP_VAL_LO (i : Nat) : Nat := 0x60110 + 0x20 * i
abbrev TRC_CMP_VAL_HI (i : Nat) : Nat := 0x60114 + 0x20 * i
abbrev TRC_CMP_VMASK_LO (i : Nat) : Nat := 0x60118 + 0x20 * i
abbrev TRC_CMP_VMASK_HI (i : Nat) : Nat := 0x6011c + 0x20 * i
abbrev STIM (i : Nat) : Nat := 0x60200 + 0x4 * i
abbrev TRC_PORT (i : Nat) : Nat := 0x60340 + 0x4 * i
abbrev CTR_CTL : Nat := 0x70000
abbrev CTR_STAT : Nat := 0x70004
abbrev CTR_BUDGET : Nat := 0x70008
abbrev ATTR_CTX_EN (i : Nat) : Nat := 0x70020 + 0x4 * i
abbrev STRIA_STAT : Nat := 0x80000
abbrev STRIA_BUDGET : Nat := 0x80004
abbrev STRIA_DEFER : Nat := 0x80008
abbrev STRIA_CFG (i : Nat) : Nat := 0x81000 + 0x20 * i
abbrev STRIA_SEL (i : Nat) : Nat := 0x81004 + 0x20 * i
abbrev STRIA_LAYER (i : Nat) : Nat := 0x81008 + 0x20 * i
abbrev STRIA_OP (i : Nat) : Nat := 0x8100c + 0x20 * i
abbrev STRIA_HIST (i : Nat) : Nat := 0x81010 + 0x20 * i
abbrev STRIA_STORE (i : Nat) : Nat := 0x81014 + 0x20 * i
abbrev STRIA_SSTAT (i : Nat) : Nat := 0x81018 + 0x20 * i
abbrev STRIA_SKIPS (i : Nat) : Nat := 0x8101c + 0x20 * i
abbrev DL_CTL : Nat := 0x90000
abbrev DL_STAT : Nat := 0x90004
abbrev FLT_WAIT : Nat := 0x90008
abbrev DL_GRACE : Nat := 0x9000c
abbrev FLT_NEXT : Nat := 0x90010
abbrev FLT_DISC : Nat := 0x90014
abbrev DL_STN_SEL : Nat := 0x90018
abbrev CTX_POL (i : Nat) : Nat := 0x90100 + 0x4 * i
abbrev POLICY (i : Nat) : Nat := 0x90200 + 0x4 * i
abbrev CTX_EPOCH (i : Nat) : Nat := 0x90400 + 0x4 * i
abbrev HB_CTL (i : Nat) : Nat := 0x90600 + 0x10 * i
abbrev HB_PER (i : Nat) : Nat := 0x90604 + 0x10 * i
abbrev HB_LAST_LO (i : Nat) : Nat := 0x90608 + 0x10 * i
abbrev HB_LAST_HI (i : Nat) : Nat := 0x9060c + 0x10 * i
abbrev BUD_ROW (i : Nat) : Nat := 0x91000 + 0x100 * i
abbrev BUD_LO (i j : Nat) : Nat := 0x91080 + 0x100 * i + 0x8 * j
abbrev BUD_HI (i j : Nat) : Nat := 0x91084 + 0x100 * i + 0x8 * j
abbrev FLT_LOG (i j : Nat) : Nat := 0x94000 + 0x40 * i + 0x4 * j
abbrev LEHR_CTL : Nat := 0xa0000
abbrev LEHR_STAT : Nat := 0xa0004
abbrev LEHR_START : Nat := 0xa0008
abbrev LEHR_ABORT : Nat := 0xa000c
abbrev LEHR_SCOPE : Nat := 0xa0010
abbrev LEHR_NUM : Nat := 0xa0014
abbrev LEHR_BUD_P1 : Nat := 0xa0018
abbrev LEHR_BUD_P2 : Nat := 0xa001c
abbrev LEHR_BUD_P3 : Nat := 0xa0020
abbrev LEHR_BUD_TOTAL : Nat := 0xa0024
abbrev LEHR_SEAL_RES : Nat := 0xa0028
abbrev LEHR_TMO : Nat := 0xa002c
abbrev LEHR_CTXWIN : Nat := 0xa0030
abbrev LEHR_KEEP_APT : Nat := 0xa0034
abbrev LEHR_LAST_START_LO : Nat := 0xa0040
abbrev LEHR_LAST_START_HI : Nat := 0xa0044
abbrev LEHR_LAST_SEAL_LO : Nat := 0xa0048
abbrev LEHR_LAST_SEAL_HI : Nat := 0xa004c
abbrev LEHR_LAST_BYTES_LO : Nat := 0xa0050
abbrev LEHR_LAST_BYTES_HI : Nat := 0xa0054
abbrev LEHR_LAST_STATUS : Nat := 0xa0058
abbrev LEHR_DEST_CFG (i : Nat) : Nat := 0xa0100 + 0x10 * i
abbrev LEHR_DEST_ADDR_LO (i : Nat) : Nat := 0xa0104 + 0x10 * i
abbrev LEHR_DEST_ADDR_HI (i : Nat) : Nat := 0xa0108 + 0x10 * i
abbrev LEHR_DEST_SIZE (i : Nat) : Nat := 0xa010c + 0x10 * i
abbrev LEHR_PLAN_CFG (i : Nat) : Nat := 0xa0400 + 0x80 * i
abbrev LEHR_PLAN_BASE_LO (i : Nat) : Nat := 0xa0404 + 0x80 * i
abbrev LEHR_PLAN_BASE_HI (i : Nat) : Nat := 0xa0408 + 0x80 * i
abbrev LEHR_PLAN_STRIDE (i : Nat) : Nat := 0xa040c + 0x80 * i
abbrev LEHR_PLAN_OFF (i j : Nat) : Nat := 0xa0410 + 0x80 * i + 0x8 * j
abbrev LEHR_PLAN_LEN (i j : Nat) : Nat := 0xa0414 + 0x80 * i + 0x8 * j
abbrev KEEP_APERTURE (i : Nat) : Nat := 0xa9000 + 0x4 * i
abbrev RST_CTL : Nat := 0xb0000
abbrev RST_STAT : Nat := 0xb0004
abbrev RST_REQ : Nat := 0xb0008
abbrev RST_BUD_ENGINE : Nat := 0xb000c
abbrev RST_BUD_PART : Nat := 0xb0010
abbrev RST_BUD_COMPUTE : Nat := 0xb0014
abbrev RST_DISC_LO : Nat := 0xb0018
abbrev RST_DISC_HI : Nat := 0xb001c
abbrev RST_DISC_LEN : Nat := 0xb0020
abbrev RST_COLLECT : Nat := 0xb0024
abbrev RST_NUM : Nat := 0xb0028
abbrev RST_STN_SEL : Nat := 0xb002c
abbrev NOTICE_CTL : Nat := 0xb0030
abbrev NOTICE_STAT : Nat := 0xb0034
abbrev NOTICE_CNT : Nat := 0xb0038
abbrev REHEAT_MARK : Nat := 0xb0040
abbrev RHT_STAT : Nat := 0xb0044
abbrev RHT_TS_LO (i : Nat) : Nat := 0xb0080 + 0x8 * i
abbrev RHT_TS_HI (i : Nat) : Nat := 0xb0084 + 0x8 * i
abbrev RHT_BUD (i : Nat) : Nat := 0xb00c0 + 0x4 * i
abbrev NOTICE_LOG (i j : Nat) : Nat := 0xb1000 + 0x40 * i + 0x4 * j
abbrev CONT_CTL : Nat := 0xc0000
abbrev CONT_STAT : Nat := 0xc0004
abbrev LEDGER_BASE_LO : Nat := 0xc0008
abbrev LEDGER_BASE_HI : Nat := 0xc000c
abbrev LEDGER_NEXT : Nat := 0xc0010
abbrev CONT_BUD_REC : Nat := 0xc0014
abbrev CONT_BUD_CHK : Nat := 0xc0018
abbrev CONT_BUD_MV : Nat := 0xc001c
abbrev CONT_BUD_COPY : Nat := 0xc0020
abbrev CONT_TMO : Nat := 0xc0024
abbrev MV_RX_BASE_LO : Nat := 0xc0028
abbrev MV_RX_BASE_HI : Nat := 0xc002c
abbrev MV_RX_LEN : Nat := 0xc0030
abbrev CONT_ABORT : Nat := 0xc0034
abbrev MAP_CRC : Nat := 0xc0038
abbrev STREAM_MAP (i : Nat) : Nat := 0xc0100 + 0x4 * i
abbrev GAF_CTL : Nat := 0xd0000
abbrev GAF_STAT : Nat := 0xd0004
abbrev GAF_FW_VER : Nat := 0xd0008
abbrev GAF_WDT_PER : Nat := 0xd0010
abbrev GAF_WDT_STAT : Nat := 0xd0014
abbrev GAF_MEM_ADDR : Nat := 0xd0080
abbrev GAF_MEM_DATA : Nat := 0xd0084
abbrev GAF_PATCH_CTL : Nat := 0xd0090
abbrev GAF_PATCH_STAT : Nat := 0xd0094
abbrev GAF_BLOB_DATA : Nat := 0xd0098
abbrev GAF_BLOB_WPTR : Nat := 0xd009c
abbrev GAF_DBG_CTL (i : Nat) : Nat := 0xd0020 + 0x20 * i
abbrev GAF_DBG_STAT (i : Nat) : Nat := 0xd0024 + 0x20 * i
abbrev GAF_DBG_SEL (i : Nat) : Nat := 0xd0028 + 0x20 * i
abbrev GAF_DBG_DATA (i : Nat) : Nat := 0xd002c + 0x20 * i
abbrev GAF_PU_CFG (i : Nat) : Nat := 0xd0100 + 0x8 * i
abbrev GAF_PU_CRC (i : Nat) : Nat := 0xd0104 + 0x8 * i
abbrev PTB_CTL : Nat := 0xe0000
abbrev PTB_STAT : Nat := 0xe0004
abbrev PTB_SLOT : Nat := 0xe0008
abbrev PTB_RING : Nat := 0xe000c
abbrev PTB_PORT : Nat := 0xe0010
abbrev PTB_MBX : Nat := 0xe0014
abbrev PTB_BUDGET : Nat := 0xe0018
abbrev PTB_GATHER : Nat := 0xe001c
abbrev PTB_FORCE_ARG : Nat := 0xe0020
abbrev PTB_FORCE : Nat := 0xe0024
abbrev STN_AO_LO (i j k : Nat) : Nat := 0x200000 + 0x800 * i + 0x40 * j + 0x8 * k
abbrev STN_AO_HI (i j k : Nat) : Nat := 0x200004 + 0x800 * i + 0x40 * j + 0x8 * k
abbrev STN_PC_LO (i j : Nat) : Nat := 0x200400 + 0x800 * i + 0x8 * j
abbrev STN_PC_HI (i j : Nat) : Nat := 0x200404 + 0x800 * i + 0x8 * j
abbrev STN_PC_CFG_LO (i j : Nat) : Nat := 0x200480 + 0x800 * i + 0x8 * j
abbrev STN_PC_CFG_HI (i j : Nat) : Nat := 0x200484 + 0x800 * i + 0x8 * j
abbrev STN_ATTR_SEL (i : Nat) : Nat := 0x200500 + 0x800 * i
abbrev STN_CTR_STAT (i : Nat) : Nat := 0x200504 + 0x800 * i
abbrev STN_CTR_WRAP (i : Nat) : Nat := 0x200508 + 0x800 * i
abbrev STN_ATTR_DATA (i j : Nat) : Nat := 0x200520 + 0x800 * i + 0x4 * j
abbrev STN_BP_FEED (i j : Nat) : Nat := 0x2005a0 + 0x800 * i + 0x4 * j
abbrev STN_SH_CFG (i : Nat) : Nat := 0x2005c0 + 0x800 * i
abbrev STN_SH_STAT (i : Nat) : Nat := 0x2005c4 + 0x800 * i
abbrev STN_SH_PORT (i : Nat) : Nat := 0x2005c8 + 0x800 * i
abbrev STN_SH_CTL (i : Nat) : Nat := 0x2005cc + 0x800 * i
abbrev STN_CUL_STAT (i : Nat) : Nat := 0x2005d0 + 0x800 * i
abbrev STN_CUL_RESTART (i : Nat) : Nat := 0x2005d4 + 0x800 * i
abbrev STN_TRC_STAT (i : Nat) : Nat := 0x2005d8 + 0x800 * i
abbrev STN_TS_STAT (i : Nat) : Nat := 0x2005ec + 0x800 * i
abbrev STN_NET (i : Nat) : Nat := 0x2005f0 + 0x800 * i
abbrev STN_SLOT_CRC (i : Nat) : Nat := 0x2005f8 + 0x800 * i
abbrev STN_SLOT (i : Nat) : Nat := 0x2005fc + 0x800 * i
abbrev STN_TRC_DROP (i : Nat) : Nat := 0x2005dc + 0x800 * i
abbrev STN_NET_ERR (i : Nat) : Nat := 0x2005f4 + 0x800 * i
abbrev STN_TS_INC_LO (i : Nat) : Nat := 0x2005e0 + 0x800 * i
abbrev STN_TS_INC_HI (i : Nat) : Nat := 0x2005e4 + 0x800 * i
abbrev STN_TS_FRAC (i : Nat) : Nat := 0x2005e8 + 0x800 * i
abbrev DBG_CTL (i j : Nat) : Nat := 0x200600 + 0x800 * i + 0x20 * j
abbrev DBG_STAT (i j : Nat) : Nat := 0x200604 + 0x800 * i + 0x20 * j
abbrev DBG_SEL (i j : Nat) : Nat := 0x200608 + 0x800 * i + 0x20 * j
abbrev DBG_ADDR_LO (i j : Nat) : Nat := 0x20060c + 0x800 * i + 0x20 * j
abbrev DBG_ADDR_HI (i j : Nat) : Nat := 0x200610 + 0x800 * i + 0x20 * j
abbrev DBG_CMD (i j : Nat) : Nat := 0x200618 + 0x800 * i + 0x20 * j
abbrev STN_DL_STAT (i : Nat) : Nat := 0x400000 + 0x800 * i
abbrev STN_DL_CNT (i : Nat) : Nat := 0x400004 + 0x800 * i
abbrev STN_FLT_LATCH_LO (i : Nat) : Nat := 0x400008 + 0x800 * i
abbrev STN_FLT_LATCH_HI (i : Nat) : Nat := 0x40000c + 0x800 * i
abbrev STN_FLT_REPEAT_LO (i : Nat) : Nat := 0x400010 + 0x800 * i
abbrev STN_FLT_REPEAT_HI (i : Nat) : Nat := 0x400014 + 0x800 * i
abbrev STN_FLT_OVF (i : Nat) : Nat := 0x400018 + 0x800 * i
abbrev STN_PW_SEL (i : Nat) : Nat := 0x40001c + 0x800 * i
abbrev STN_PW_PER (i j : Nat) : Nat := 0x400020 + 0x800 * i + 0x4 * j
abbrev STN_CTX_POL (i j : Nat) : Nat := 0x400040 + 0x800 * i + 0x4 * j
abbrev STN_POL_CUT (i j : Nat) : Nat := 0x4000c0 + 0x800 * i + 0x4 * j
abbrev STN_EPOCH (i j : Nat) : Nat := 0x400100 + 0x800 * i + 0x4 * j
abbrev STN_WD (i j k : Nat) : Nat := 0x400200 + 0x800 * i + 0x10 * j + 0x4 * k
abbrev STN_PW_LAST_LO (i j : Nat) : Nat := 0x400600 + 0x800 * i + 0x8 * j
abbrev STN_PW_LAST_HI (i j : Nat) : Nat := 0x400604 + 0x800 * i + 0x8 * j
abbrev STN_RST_STAT (i : Nat) : Nat := 0x600000 + 0x800 * i
abbrev STN_RST_SEEN (i : Nat) : Nat := 0x600004 + 0x800 * i
abbrev STN_RST_LAT_LO (i : Nat) : Nat := 0x600008 + 0x800 * i
abbrev STN_RST_LAT_HI (i : Nat) : Nat := 0x60000c + 0x800 * i
abbrev STN_RST_ENT (i j k : Nat) : Nat := 0x600100 + 0x800 * i + 0x10 * j + 0x4 * k
abbrev STN_SEC (i j : Nat) : Nat := 0x800000 + 0x800 * i + 0x4 * j

end R

namespace F

abbrev HUB_IMPL_IMPLEMENTER : Fld := ⟨R.HUB_IMPL, 0, 12⟩
abbrev HUB_IMPL_IMPL_REV : Fld := ⟨R.HUB_IMPL, 16, 16⟩
abbrev HUB_LIMITS_MAX_RIBS : Fld := ⟨R.HUB_LIMITS, 0, 8⟩
abbrev HUB_LIMITS_MAX_BRIDGES : Fld := ⟨R.HUB_LIMITS, 8, 8⟩
abbrev HUB_LIMITS_WATCH_SLOTS : Fld := ⟨R.HUB_LIMITS, 16, 8⟩
abbrev HUB_LIMITS_RINGS : Fld := ⟨R.HUB_LIMITS, 24, 8⟩
abbrev HUB_CAP_BUILD_RING_MIB : Fld := ⟨R.HUB_CAP_BUILD, 0, 5⟩
abbrev HUB_CAP_BUILD_STRIA : Fld := ⟨R.HUB_CAP_BUILD, 5, 1⟩
abbrev HUB_CAP_BUILD_SIGNER : Fld := ⟨R.HUB_CAP_BUILD, 6, 1⟩
abbrev HUB_CAP_EXT_ARCH3_BASE : Fld := ⟨R.HUB_CAP_EXT, 0, 1⟩
abbrev HUB_CAP_EXT_EXT : Fld := ⟨R.HUB_CAP_EXT, 1, 31⟩
abbrev HUB_STAT_RST_CAUSE : Fld := ⟨R.HUB_STAT, 0, 2⟩
abbrev HUB_STAT_WARM_COUNT : Fld := ⟨R.HUB_STAT, 8, 8⟩
abbrev HUB_STAT_OTP_READY : Fld := ⟨R.HUB_STAT, 16, 1⟩
abbrev HUB_STAT_STRAP_SCOPE : Fld := ⟨R.HUB_STAT, 17, 1⟩
abbrev HUB_STAT_STRAP_PRIO : Fld := ⟨R.HUB_STAT, 18, 1⟩
abbrev HUB_STAT_STRAP_SCAN : Fld := ⟨R.HUB_STAT, 19, 1⟩
abbrev HUB_ATTN_DEGRADED : Fld := ⟨R.HUB_ATTN, 0, 1⟩
abbrev HUB_ATTN_ISOLATED : Fld := ⟨R.HUB_ATTN, 1, 1⟩
abbrev HUB_ATTN_SKEWED : Fld := ⟨R.HUB_ATTN, 2, 1⟩
abbrev HUB_ATTN_SLIP : Fld := ⟨R.HUB_ATTN, 3, 1⟩
abbrev HUB_ATTN_TRC_FROZEN : Fld := ⟨R.HUB_ATTN, 4, 1⟩
abbrev HUB_ATTN_DUMPING : Fld := ⟨R.HUB_ATTN, 5, 1⟩
abbrev HUB_ATTN_RESETTING : Fld := ⟨R.HUB_ATTN, 6, 1⟩
abbrev HUB_ATTN_FLT_WRAPPED : Fld := ⟨R.HUB_ATTN, 7, 1⟩
abbrev HUB_ATTN_RING_ERR : Fld := ⟨R.HUB_ATTN, 8, 1⟩
abbrev HUB_ATTN_GAF_WAIT : Fld := ⟨R.HUB_ATTN, 9, 1⟩
abbrev HUB_ATTN_PERTURBED : Fld := ⟨R.HUB_ATTN, 10, 1⟩
abbrev HUB_NODE_NODE : Fld := ⟨R.HUB_NODE, 0, 24⟩
abbrev HUB_NODE_VALID : Fld := ⟨R.HUB_NODE, 24, 1⟩
abbrev HUB_NPEER_NPEER : Fld := ⟨R.HUB_NPEER, 0, 14⟩
abbrev HUB_JOB_LO_JOB_ID : Fld := ⟨R.HUB_JOB_LO, 0, 32⟩
abbrev HUB_JOB_HI_JOB_ID : Fld := ⟨R.HUB_JOB_HI, 0, 32⟩
abbrev HUB_WARM_TS_LO_TS : Fld := ⟨R.HUB_WARM_TS_LO, 0, 32⟩
abbrev HUB_WARM_TS_HI_TS : Fld := ⟨R.HUB_WARM_TS_HI, 0, 32⟩
abbrev HUB_SCRATCH_DATA (i : Nat) : Fld := ⟨R.HUB_SCRATCH i, 0, 32⟩
abbrev RS_SESS_ACTIVE : Fld := ⟨R.RS_SESS, 0, 1⟩
abbrev RS_SESS_CLASS : Fld := ⟨R.RS_SESS, 1, 2⟩
abbrev RS_SESS_END : Fld := ⟨R.RS_SESS, 3, 1⟩
abbrev RS_SESS_FAILS : Fld := ⟨R.RS_SESS, 8, 8⟩
abbrev RS_SESS_SERIAL_SERIAL : Fld := ⟨R.RS_SESS_SERIAL, 0, 32⟩
abbrev PRIV_CTL_LOCK : Fld := ⟨R.PRIV_CTL, 0, 1⟩
abbrev PRIV_STAT_MAP_LOCKED : Fld := ⟨R.PRIV_STAT, 0, 1⟩
abbrev PRIV_STAT_SEC_APPLIED : Fld := ⟨R.PRIV_STAT, 1, 1⟩
abbrev PRIV_STAT_PROVISIONED : Fld := ⟨R.PRIV_STAT, 2, 1⟩
abbrev PRIV_REJ_COUNT : Fld := ⟨R.PRIV_REJ, 0, 16⟩
abbrev PRIV_REJ_LAST_ID : Fld := ⟨R.PRIV_REJ, 16, 6⟩
abbrev PRIV_REJ_OFF_OFFSET : Fld := ⟨R.PRIV_REJ_OFF, 0, 22⟩
abbrev SEC_CTL_SEC_EN : Fld := ⟨R.SEC_CTL, 0, 1⟩
abbrev SEC_CTL_TEST_EN : Fld := ⟨R.SEC_CTL, 1, 1⟩
abbrev CUST_GRANT_ID : Fld := ⟨R.CUST_GRANT, 0, 6⟩
abbrev CUST_GRANT_VALID : Fld := ⟨R.CUST_GRANT, 6, 1⟩
abbrev OTP_CTL_FIELD : Fld := ⟨R.OTP_CTL, 0, 4⟩
abbrev OTP_CTL_OP : Fld := ⟨R.OTP_CTL, 4, 2⟩
abbrev OTP_CTL_GO : Fld := ⟨R.OTP_CTL, 6, 1⟩
abbrev OTP_STAT_BUSY : Fld := ⟨R.OTP_STAT, 0, 1⟩
abbrev OTP_STAT_ERR : Fld := ⟨R.OTP_STAT, 1, 4⟩
abbrev OTP_STAT_PROVISIONED : Fld := ⟨R.OTP_STAT, 5, 1⟩
abbrev OTP_STAT_KEY_PRESENT : Fld := ⟨R.OTP_STAT, 6, 1⟩
abbrev OTP_STAT_SET : Fld := ⟨R.OTP_STAT, 8, 8⟩
abbrev OTP_DATA_DATA (i : Nat) : Fld := ⟨R.OTP_DATA i, 0, 32⟩
abbrev SQ_BASE_LO_ADDR (i : Nat) : Fld := ⟨R.SQ_BASE_LO i, 0, 32⟩
abbrev SQ_BASE_HI_ADDR (i : Nat) : Fld := ⟨R.SQ_BASE_HI i, 0, 32⟩
abbrev SQ_CFG_LOG2 (i : Nat) : Fld := ⟨R.SQ_CFG i, 0, 4⟩
abbrev SQ_CFG_OWNER (i : Nat) : Fld := ⟨R.SQ_CFG i, 4, 6⟩
abbrev SQ_CFG_EQ (i : Nat) : Fld := ⟨R.SQ_CFG i, 10, 6⟩
abbrev SQ_CTL_EN (i : Nat) : Fld := ⟨R.SQ_CTL i, 0, 1⟩
abbrev SQ_CTL_ZERO (i : Nat) : Fld := ⟨R.SQ_CTL i, 1, 1⟩
abbrev SQ_STAT_STATE (i : Nat) : Fld := ⟨R.SQ_STAT i, 0, 3⟩
abbrev SQ_STAT_DB_ERR (i : Nat) : Fld := ⟨R.SQ_STAT i, 3, 1⟩
abbrev SQ_STAT_OUTST (i : Nat) : Fld := ⟨R.SQ_STAT i, 16, 9⟩
abbrev SQ_HEAD_INDEX (i : Nat) : Fld := ⟨R.SQ_HEAD i, 0, 16⟩
abbrev SQ_TAIL_INDEX (i : Nat) : Fld := ⟨R.SQ_TAIL i, 0, 16⟩
abbrev SQ_ERRINFO_INDEX (i : Nat) : Fld := ⟨R.SQ_ERRINFO i, 0, 16⟩
abbrev SQ_ERRINFO_CODE (i : Nat) : Fld := ⟨R.SQ_ERRINFO i, 16, 2⟩
abbrev EQ_BASE_LO_ADDR (i : Nat) : Fld := ⟨R.EQ_BASE_LO i, 0, 32⟩
abbrev EQ_BASE_HI_ADDR (i : Nat) : Fld := ⟨R.EQ_BASE_HI i, 0, 32⟩
abbrev EQ_CFG_LOG2 (i : Nat) : Fld := ⟨R.EQ_CFG i, 0, 4⟩
abbrev EQ_CFG_OWNER (i : Nat) : Fld := ⟨R.EQ_CFG i, 4, 6⟩
abbrev EQ_CFG_VEC (i : Nat) : Fld := ⟨R.EQ_CFG i, 10, 6⟩
abbrev EQ_CTL_EN (i : Nat) : Fld := ⟨R.EQ_CTL i, 0, 1⟩
abbrev EQ_CTL_ZERO (i : Nat) : Fld := ⟨R.EQ_CTL i, 1, 1⟩
abbrev EQ_STAT_STATE (i : Nat) : Fld := ⟨R.EQ_STAT i, 0, 3⟩
abbrev EQ_STAT_DB_ERR (i : Nat) : Fld := ⟨R.EQ_STAT i, 3, 1⟩
abbrev EQ_STAT_PHASE (i : Nat) : Fld := ⟨R.EQ_STAT i, 4, 1⟩
abbrev EQ_STAT_ARMED (i : Nat) : Fld := ⟨R.EQ_STAT i, 5, 1⟩
abbrev EQ_STAT_LOST (i : Nat) : Fld := ⟨R.EQ_STAT i, 16, 16⟩
abbrev EQ_MOD_COUNT (i : Nat) : Fld := ⟨R.EQ_MOD i, 0, 8⟩
abbrev EQ_MOD_TIMER (i : Nat) : Fld := ⟨R.EQ_MOD i, 8, 16⟩
abbrev EQ_HEAD_INDEX (i : Nat) : Fld := ⟨R.EQ_HEAD i, 0, 16⟩
abbrev EQ_TAIL_INDEX (i : Nat) : Fld := ⟨R.EQ_TAIL i, 0, 16⟩
abbrev INT_MASK_LO_MASK : Fld := ⟨R.INT_MASK_LO, 0, 32⟩
abbrev INT_MASK_HI_MASK : Fld := ⟨R.INT_MASK_HI, 0, 32⟩
abbrev INT_PEND_LO_PEND : Fld := ⟨R.INT_PEND_LO, 0, 32⟩
abbrev INT_PEND_HI_PEND : Fld := ⟨R.INT_PEND_HI, 0, 32⟩
abbrev INT_CTL_ERR_VEC : Fld := ⟨R.INT_CTL, 0, 6⟩
abbrev INT_STAT_RING_ERR : Fld := ⟨R.INT_STAT, 0, 1⟩
abbrev RING_TMO_TMO : Fld := ⟨R.RING_TMO, 0, 16⟩
abbrev EVT_LOST_COUNT : Fld := ⟨R.EVT_LOST, 0, 32⟩
abbrev RING_REJ_COUNT : Fld := ⟨R.RING_REJ, 0, 16⟩
abbrev RING_REJ_LAST_ID : Fld := ⟨R.RING_REJ, 16, 6⟩
abbrev SQ_DB_TAIL (i : Nat) : Fld := ⟨R.SQ_DB i, 0, 16⟩
abbrev EQ_DB_HEAD (i : Nat) : Fld := ⟨R.EQ_DB i, 0, 16⟩
abbrev EQ_DB_ARM (i : Nat) : Fld := ⟨R.EQ_DB i, 16, 1⟩
abbrev SQ_HEAD_M_HEAD (i : Nat) : Fld := ⟨R.SQ_HEAD_M i, 0, 16⟩
abbrev SQ_HEAD_M_EN (i : Nat) : Fld := ⟨R.SQ_HEAD_M i, 16, 1⟩
abbrev SQ_HEAD_M_STATE (i : Nat) : Fld := ⟨R.SQ_HEAD_M i, 17, 3⟩
abbrev EQ_TAIL_M_TAIL (i : Nat) : Fld := ⟨R.EQ_TAIL_M i, 0, 16⟩
abbrev EQ_TAIL_M_PHASE (i : Nat) : Fld := ⟨R.EQ_TAIL_M i, 16, 1⟩
abbrev EQ_TAIL_M_STATE (i : Nat) : Fld := ⟨R.EQ_TAIL_M i, 17, 3⟩
abbrev DB_PEND_PEND (i : Nat) : Fld := ⟨R.DB_PEND i, 0, 32⟩
abbrev DB_MASK_MASK (i : Nat) : Fld := ⟨R.DB_MASK i, 0, 32⟩
abbrev DB_CFG_VEC (i : Nat) : Fld := ⟨R.DB_CFG i, 0, 6⟩
abbrev DB_CFG_EN (i : Nat) : Fld := ⟨R.DB_CFG i, 6, 1⟩
abbrev MBX_REJ_COUNT : Fld := ⟨R.MBX_REJ, 0, 16⟩
abbrev MBX_REJ_LAST_ID : Fld := ⟨R.MBX_REJ, 16, 6⟩
abbrev BIND_ID_A (i : Nat) : Fld := ⟨R.BIND i, 0, 6⟩
abbrev BIND_ID_B (i : Nat) : Fld := ⟨R.BIND i, 8, 6⟩
abbrev BIND_VALID (i : Nat) : Fld := ⟨R.BIND i, 16, 1⟩
abbrev BIND_CTL_LOCK : Fld := ⟨R.BIND_CTL, 0, 1⟩
abbrev BIND_STAT_LOCKED : Fld := ⟨R.BIND_STAT, 0, 1⟩
abbrev BIND_STAT_ERR : Fld := ⟨R.BIND_STAT, 1, 1⟩
abbrev TIME_CTL_START : Fld := ⟨R.TIME_CTL, 0, 1⟩
abbrev TIME_CTL_LOCK : Fld := ⟨R.TIME_CTL, 1, 1⟩
abbrev TIME_STAT_RUN : Fld := ⟨R.TIME_STAT, 0, 1⟩
abbrev TIME_STAT_LOCKED : Fld := ⟨R.TIME_STAT, 1, 1⟩
abbrev TIME_STAT_STN_LOADED : Fld := ⟨R.TIME_STAT, 2, 1⟩
abbrev TIME_STAT_INC_ERR : Fld := ⟨R.TIME_STAT, 3, 1⟩
abbrev TIME_STAT_SLIP : Fld := ⟨R.TIME_STAT, 4, 1⟩
abbrev TIME_INC_LO_INC : Fld := ⟨R.TIME_INC_LO, 0, 32⟩
abbrev TIME_INC_HI_INC : Fld := ⟨R.TIME_INC_HI, 0, 32⟩
abbrev TS_LO_TS : Fld := ⟨R.TS_LO, 0, 32⟩
abbrev TS_HI_TS : Fld := ⟨R.TS_HI, 0, 32⟩
abbrev GATHER_CTL_PERIOD : Fld := ⟨R.GATHER_CTL, 0, 16⟩
abbrev GATHER_STAT_BUSY : Fld := ⟨R.GATHER_STAT, 0, 1⟩
abbrev GATHER_STAT_GEN : Fld := ⟨R.GATHER_STAT, 8, 8⟩
abbrev GATHER_STAT_NENT : Fld := ⟨R.GATHER_STAT, 16, 9⟩
abbrev GATHER_BUDGET_BUDGET : Fld := ⟨R.GATHER_BUDGET, 0, 16⟩
abbrev GATHER_IGN_IGNORED : Fld := ⟨R.GATHER_IGN, 0, 16⟩
abbrev OFFSET_ENT_DATA (i j : Nat) : Fld := ⟨R.OFFSET_ENT i j, 0, 32⟩
abbrev CANE_CTL_ENABLE : Fld := ⟨R.CANE_CTL, 0, 1⟩
abbrev CANE_CTL_TRAIN : Fld := ⟨R.CANE_CTL, 1, 1⟩
abbrev CANE_CTL_RETRAIN : Fld := ⟨R.CANE_CTL, 16, 16⟩
abbrev CANE_STAT_RUNNING : Fld := ⟨R.CANE_STAT, 0, 1⟩
abbrev CANE_STAT_TRAINED : Fld := ⟨R.CANE_STAT, 1, 1⟩
abbrev CANE_STAT_SW_ERR : Fld := ⟨R.CANE_STAT, 2, 1⟩
abbrev CANE_STAT_PERTURBED : Fld := ⟨R.CANE_STAT, 3, 1⟩
abbrev CANE_STAT_DEGRADED : Fld := ⟨R.CANE_STAT, 16, 16⟩
abbrev CANE_FRAME_LO_FRAME : Fld := ⟨R.CANE_FRAME_LO, 0, 32⟩
abbrev CANE_FRAME_HI_FRAME : Fld := ⟨R.CANE_FRAME_HI, 0, 32⟩
abbrev ISO_STAT_SEAM_ISO : Fld := ⟨R.ISO_STAT, 0, 2⟩
abbrev ISO_STAT_SEAM_SUBST : Fld := ⟨R.ISO_STAT, 2, 2⟩
abbrev ISO_STAT_BR_ISO : Fld := ⟨R.ISO_STAT, 8, 8⟩
abbrev ISO_STAT_BR_SUBST : Fld := ⟨R.ISO_STAT, 16, 8⟩
abbrev CANE_ERR_LIM_DEG_ERRS : Fld := ⟨R.CANE_ERR_LIM, 0, 4⟩
abbrev CANE_RIB_STAT_T_END (i : Nat) : Fld := ⟨R.CANE_RIB_STAT i, 0, 8⟩
abbrev CANE_RIB_STAT_POP (i : Nat) : Fld := ⟨R.CANE_RIB_STAT i, 8, 1⟩
abbrev CANE_RIB_STAT_BRIDGED (i : Nat) : Fld := ⟨R.CANE_RIB_STAT i, 9, 1⟩
abbrev CANE_RIB_STAT_DEGRADED (i : Nat) : Fld := ⟨R.CANE_RIB_STAT i, 10, 1⟩
abbrev CANE_RIB_STAT_ABSENT (i : Nat) : Fld := ⟨R.CANE_RIB_STAT i, 11, 1⟩
abbrev CANE_RIB_STAT_CAUSE (i : Nat) : Fld := ⟨R.CANE_RIB_STAT i, 12, 3⟩
abbrev CANE_RIB_STAT_LAST_POS (i : Nat) : Fld := ⟨R.CANE_RIB_STAT i, 16, 6⟩
abbrev CANE_RIB_ERR_PAR (i : Nat) : Fld := ⟨R.CANE_RIB_ERR i, 0, 16⟩
abbrev CANE_RIB_ERR_FRAMING (i : Nat) : Fld := ⟨R.CANE_RIB_ERR i, 16, 8⟩
abbrev CANE_RIB_ERR_NET_NOTES (i : Nat) : Fld := ⟨R.CANE_RIB_ERR i, 24, 8⟩
abbrev SLOT_CTL_RESTART : Fld := ⟨R.SLOT_CTL, 0, 1⟩
abbrev SLOT_CTL_VALIDATE : Fld := ⟨R.SLOT_CTL, 1, 1⟩
abbrev SLOT_STAT_BUSY : Fld := ⟨R.SLOT_STAT, 0, 1⟩
abbrev SLOT_STAT_VALID : Fld := ⟨R.SLOT_STAT, 1, 1⟩
abbrev SLOT_STAT_MATCH : Fld := ⟨R.SLOT_STAT, 2, 1⟩
abbrev SLOT_STAT_LIVE : Fld := ⟨R.SLOT_STAT, 3, 1⟩
abbrev SLOT_STAT_SIGNED : Fld := ⟨R.SLOT_STAT, 4, 1⟩
abbrev SLOT_STAT_ERR : Fld := ⟨R.SLOT_STAT, 8, 4⟩
abbrev SLOT_STAT_WHERE : Fld := ⟨R.SLOT_STAT, 16, 16⟩
abbrev SLOT_WPTR_WPTR : Fld := ⟨R.SLOT_WPTR, 0, 16⟩
abbrev SLOT_DATA_DATA : Fld := ⟨R.SLOT_DATA, 0, 32⟩
abbrev SLOT_INFO_HORIZON : Fld := ⟨R.SLOT_INFO, 0, 8⟩
abbrev SLOT_INFO_NPART : Fld := ⟨R.SLOT_INFO, 8, 5⟩
abbrev SLOT_INFO_BRMASK : Fld := ⟨R.SLOT_INFO, 16, 8⟩
abbrev SLOT_MISMATCH_TEND : Fld := ⟨R.SLOT_MISMATCH, 0, 16⟩
abbrev SLOT_MISMATCH_VERIFY : Fld := ⟨R.SLOT_MISMATCH, 16, 16⟩
abbrev SLOT_CRC_CRC : Fld := ⟨R.SLOT_CRC, 0, 32⟩
abbrev SLOT_BUILD_LO_BUILD : Fld := ⟨R.SLOT_BUILD_LO, 0, 32⟩
abbrev SLOT_BUILD_HI_BUILD : Fld := ⟨R.SLOT_BUILD_HI, 0, 32⟩
abbrev SHEAR_CTL_ENABLE : Fld := ⟨R.SHEAR_CTL, 0, 1⟩
abbrev SHEAR_CTL_STOP_CLASS : Fld := ⟨R.SHEAR_CTL, 1, 1⟩
abbrev SHEAR_CTL_EXT_EN : Fld := ⟨R.SHEAR_CTL, 2, 1⟩
abbrev SHEAR_CTL_EXT_CLASS : Fld := ⟨R.SHEAR_CTL, 3, 1⟩
abbrev SHEAR_STAT_ENABLED : Fld := ⟨R.SHEAR_STAT, 0, 1⟩
abbrev SHEAR_STAT_LOCKED : Fld := ⟨R.SHEAR_STAT, 1, 1⟩
abbrev SHEAR_STAT_OPEN : Fld := ⟨R.SHEAR_STAT, 2, 1⟩
abbrev SHEAR_STAT_SKEWED : Fld := ⟨R.SHEAR_STAT, 3, 1⟩
abbrev SHEAR_STAT_UP_FAIL : Fld := ⟨R.SHEAR_STAT, 4, 1⟩
abbrev SHEAR_STAT_EXT_ERR : Fld := ⟨R.SHEAR_STAT, 5, 1⟩
abbrev SHEAR_STAT_LATE : Fld := ⟨R.SHEAR_STAT, 6, 1⟩
abbrev SHEAR_TICK_LO_TS : Fld := ⟨R.SHEAR_TICK_LO, 0, 32⟩
abbrev SHEAR_TICK_HI_TS : Fld := ⟨R.SHEAR_TICK_HI, 0, 32⟩
abbrev SHEAR_LAST_CLASS : Fld := ⟨R.SHEAR_LAST, 0, 2⟩
abbrev SHEAR_LAST_SRC_STN : Fld := ⟨R.SHEAR_LAST, 4, 1⟩
abbrev SHEAR_LAST_SRC_CMD : Fld := ⟨R.SHEAR_LAST, 5, 1⟩
abbrev SHEAR_LAST_SRC_CUTAT : Fld := ⟨R.SHEAR_LAST, 6, 1⟩
abbrev SHEAR_LAST_SRC_LEHR : Fld := ⟨R.SHEAR_LAST, 7, 1⟩
abbrev SHEAR_LAST_SRC_REG : Fld := ⟨R.SHEAR_LAST, 8, 1⟩
abbrev SHEAR_LAST_SRC_EXT : Fld := ⟨R.SHEAR_LAST, 9, 1⟩
abbrev SHEAR_LAST_JOINED : Fld := ⟨R.SHEAR_LAST, 16, 8⟩
abbrev SHEAR_COUNT_CUTS : Fld := ⟨R.SHEAR_COUNT, 0, 32⟩
abbrev SHEAR_TIMING_H : Fld := ⟨R.SHEAR_TIMING, 0, 8⟩
abbrev SHEAR_TIMING_E : Fld := ⟨R.SHEAR_TIMING, 8, 8⟩
abbrev SHEAR_TIMING_W : Fld := ⟨R.SHEAR_TIMING, 16, 8⟩
abbrev SHEAR_TRIG_OP : Fld := ⟨R.SHEAR_TRIG, 0, 3⟩
abbrev SHEAR_ERR_TEST_FAIL : Fld := ⟨R.SHEAR_ERR, 0, 16⟩
abbrev SHEAR_ERR_DEC_ERR : Fld := ⟨R.SHEAR_ERR, 16, 8⟩
abbrev SHEAR_ERR_SKIPPED : Fld := ⟨R.SHEAR_ERR, 24, 8⟩
abbrev SHEAR_RESUME_LO_TS : Fld := ⟨R.SHEAR_RESUME_LO, 0, 32⟩
abbrev SHEAR_RESUME_HI_TS : Fld := ⟨R.SHEAR_RESUME_HI, 0, 32⟩
abbrev CULLET_CTL_AUTO : Fld := ⟨R.CULLET_CTL, 0, 2⟩
abbrev CULLET_CTL_SPILL_EN : Fld := ⟨R.CULLET_CTL, 2, 1⟩
abbrev CULLET_READ_GO : Fld := ⟨R.CULLET_READ, 0, 1⟩
abbrev CULLET_READ_TYPES : Fld := ⟨R.CULLET_READ, 1, 6⟩
abbrev CULLET_STAT_BUSY : Fld := ⟨R.CULLET_STAT, 0, 1⟩
abbrev CULLET_STAT_WAITING : Fld := ⟨R.CULLET_STAT, 1, 1⟩
abbrev CULLET_STAT_DIR : Fld := ⟨R.CULLET_STAT, 2, 3⟩
abbrev CULLET_STAT_SPILL_LOST : Fld := ⟨R.CULLET_STAT, 5, 1⟩
abbrev CULLET_STAT_REFUSED : Fld := ⟨R.CULLET_STAT, 6, 1⟩
abbrev CULLET_STAT_NOSPACE : Fld := ⟨R.CULLET_STAT, 7, 1⟩
abbrev CULLET_STAT_NVALID : Fld := ⟨R.CULLET_STAT, 8, 4⟩
abbrev CULLET_BUDGET_BUDGET : Fld := ⟨R.CULLET_BUDGET, 0, 16⟩
abbrev CULLET_TRANSIT_TRANSIT : Fld := ⟨R.CULLET_TRANSIT, 0, 32⟩
abbrev CULLET_APT_BASE : Fld := ⟨R.CULLET_APT, 0, 9⟩
abbrev CULLET_SPILL_LO_ADDR : Fld := ⟨R.CULLET_SPILL_LO, 0, 32⟩
abbrev CULLET_SPILL_HI_ADDR : Fld := ⟨R.CULLET_SPILL_HI, 0, 32⟩
abbrev CULLET_SPILL_LEN_LEN : Fld := ⟨R.CULLET_SPILL_LEN, 0, 16⟩
abbrev CULLET_FREE_FREE : Fld := ⟨R.CULLET_FREE, 0, 22⟩
abbrev CULLET_DIR_DATA (i j : Nat) : Fld := ⟨R.CULLET_DIR i j, 0, 32⟩
abbrev CULLET_APERTURE_DATA (i : Nat) : Fld := ⟨R.CULLET_APERTURE i, 0, 32⟩
abbrev TRC_CTL_ENABLE : Fld := ⟨R.TRC_CTL, 0, 1⟩
abbrev TRC_CTL_POLICY : Fld := ⟨R.TRC_CTL, 1, 1⟩
abbrev TRC_CTL_FLUSH : Fld := ⟨R.TRC_CTL, 2, 4⟩
abbrev TRC_CTL_STIM_EN : Fld := ⟨R.TRC_CTL, 6, 1⟩
abbrev TRC_CTL_TRIG_FREEZE : Fld := ⟨R.TRC_CTL, 7, 1⟩
abbrev TRC_CTL_EVT_RING : Fld := ⟨R.TRC_CTL, 8, 6⟩
abbrev TRC_CTL_FREEZE : Fld := ⟨R.TRC_CTL, 14, 1⟩
abbrev TRC_CTL_CLEAR : Fld := ⟨R.TRC_CTL, 15, 1⟩
abbrev TRC_STAT_RUN : Fld := ⟨R.TRC_STAT, 0, 1⟩
abbrev TRC_STAT_FROZEN : Fld := ⟨R.TRC_STAT, 1, 1⟩
abbrev TRC_STAT_TRIGGERED : Fld := ⟨R.TRC_STAT, 2, 1⟩
abbrev TRC_STAT_FULL : Fld := ⟨R.TRC_STAT, 3, 1⟩
abbrev TRC_STAT_RD_OVERRUN : Fld := ⟨R.TRC_STAT, 4, 1⟩
abbrev TRC_STAT_LOST : Fld := ⟨R.TRC_STAT, 5, 1⟩
abbrev TRC_CAP_SIZE_MIB : Fld := ⟨R.TRC_CAP, 0, 5⟩
abbrev TRC_QUOTA_Q : Fld := ⟨R.TRC_QUOTA, 0, 12⟩
abbrev TRC_WR_LINE : Fld := ⟨R.TRC_WR, 6, 18⟩
abbrev TRC_OLD_LINE : Fld := ⟨R.TRC_OLD, 6, 18⟩
abbrev TRC_RD_LINE : Fld := ⟨R.TRC_RD, 6, 18⟩
abbrev TRC_TRIG_POS_LINE : Fld := ⟨R.TRC_TRIG_POS, 6, 18⟩
abbrev TRC_TRIG_TS_LO_TS : Fld := ⟨R.TRC_TRIG_TS_LO, 0, 32⟩
abbrev TRC_TRIG_TS_HI_TS : Fld := ⟨R.TRC_TRIG_TS_HI, 0, 32⟩
abbrev TRC_DROP_MSGS : Fld := ⟨R.TRC_DROP, 0, 16⟩
abbrev TRC_DROP_AFTER_FREEZE : Fld := ⟨R.TRC_DROP, 16, 16⟩
abbrev TRC_GAPS_GAPS : Fld := ⟨R.TRC_GAPS, 0, 16⟩
abbrev TRC_GAPS_STIM_LOST : Fld := ⟨R.TRC_GAPS, 16, 16⟩
abbrev TRC_OWNER_ID : Fld := ⟨R.TRC_OWNER, 0, 6⟩
abbrev TRC_LL_HIGH : Fld := ⟨R.TRC_LL, 0, 6⟩
abbrev TRC_LL_LOW : Fld := ⟨R.TRC_LL, 8, 6⟩
abbrev SEQ_CTL_ARM : Fld := ⟨R.SEQ_CTL, 0, 1⟩
abbrev SEQ_CTL_AUTO_START : Fld := ⟨R.SEQ_CTL, 1, 1⟩
abbrev SEQ_STAT_STATE : Fld := ⟨R.SEQ_STAT, 0, 2⟩
abbrev SEQ_STAT_ARMED : Fld := ⟨R.SEQ_STAT, 2, 1⟩
abbrev SEQ_STAT_EXTRA_TRIG : Fld := ⟨R.SEQ_STAT, 8, 8⟩
abbrev SEQ_STAT_EVENTS : Fld := ⟨R.SEQ_STAT, 16, 16⟩
abbrev SEQ_COUNT_VALUE : Fld := ⟨R.SEQ_COUNT, 0, 32⟩
abbrev SEQ_LIMIT_VALUE : Fld := ⟨R.SEQ_LIMIT, 0, 32⟩
abbrev TRC_SEL_STN : Fld := ⟨R.TRC_SEL, 0, 10⟩
abbrev SEQ_RULE_MATCH (i j : Nat) : Fld := ⟨R.SEQ_RULE i j, 0, 8⟩
abbrev SEQ_RULE_CNT_COND (i j : Nat) : Fld := ⟨R.SEQ_RULE i j, 8, 1⟩
abbrev SEQ_RULE_NEXT (i j : Nat) : Fld := ⟨R.SEQ_RULE i j, 9, 2⟩
abbrev SEQ_RULE_START (i j : Nat) : Fld := ⟨R.SEQ_RULE i j, 11, 1⟩
abbrev SEQ_RULE_STOP (i j : Nat) : Fld := ⟨R.SEQ_RULE i j, 12, 1⟩
abbrev SEQ_RULE_TRIGGER (i j : Nat) : Fld := ⟨R.SEQ_RULE i j, 13, 1⟩
abbrev SEQ_RULE_COUNT (i j : Nat) : Fld := ⟨R.SEQ_RULE i j, 14, 1⟩
abbrev SEQ_RULE_CNT_CLR (i j : Nat) : Fld := ⟨R.SEQ_RULE i j, 15, 1⟩
abbrev SEQ_RULE_EN (i j : Nat) : Fld := ⟨R.SEQ_RULE i j, 16, 1⟩
abbrev TRC_CTX_EN_EN (i : Nat) : Fld := ⟨R.TRC_CTX_EN i, 0, 32⟩
abbrev TRC_CMP_CTL_SRC (i : Nat) : Fld := ⟨R.TRC_CMP_CTL i, 0, 3⟩
abbrev TRC_CMP_CTL_KINDS (i : Nat) : Fld := ⟨R.TRC_CMP_CTL i, 3, 5⟩
abbrev TRC_CMP_CTL_GROUP (i : Nat) : Fld := ⟨R.TRC_CMP_CTL i, 8, 2⟩
abbrev TRC_CMP_CTL_TARGET (i : Nat) : Fld := ⟨R.TRC_CMP_CTL i, 10, 10⟩
abbrev TRC_CMP_CTL_CTX_EN (i : Nat) : Fld := ⟨R.TRC_CMP_CTL i, 20, 1⟩
abbrev TRC_CMP_CTL_CTX (i : Nat) : Fld := ⟨R.TRC_CMP_CTL i, 21, 8⟩
abbrev TRC_CMP_MATCH_LAYER__OP (i : Nat) : Fld := ⟨R.TRC_CMP_MATCH i, 0, 16⟩
abbrev TRC_CMP_MATCH_LAYER__OP_16 (i : Nat) : Fld := ⟨R.TRC_CMP_MATCH i, 16, 16⟩
abbrev TRC_CMP_MASK_LAYER_MASK__OP_MASK (i : Nat) : Fld := ⟨R.TRC_CMP_MASK i, 0, 16⟩
abbrev TRC_CMP_MASK_LAYER_MASK__OP_MASK_16 (i : Nat) : Fld := ⟨R.TRC_CMP_MASK i, 16, 16⟩
abbrev TRC_CMP_PORTS_PORTS (i : Nat) : Fld := ⟨R.TRC_CMP_PORTS i, 0, 16⟩
abbrev TRC_CMP_VAL_LO_VAL (i : Nat) : Fld := ⟨R.TRC_CMP_VAL_LO i, 0, 32⟩
abbrev TRC_CMP_VAL_HI_VAL (i : Nat) : Fld := ⟨R.TRC_CMP_VAL_HI i, 0, 32⟩
abbrev TRC_CMP_VMASK_LO_VMASK (i : Nat) : Fld := ⟨R.TRC_CMP_VMASK_LO i, 0, 32⟩
abbrev TRC_CMP_VMASK_HI_VMASK (i : Nat) : Fld := ⟨R.TRC_CMP_VMASK_HI i, 0, 32⟩
abbrev STIM_VALUE (i : Nat) : Fld := ⟨R.STIM i, 0, 32⟩
abbrev TRC_PORT_CMD (i : Nat) : Fld := ⟨R.TRC_PORT i, 0, 1⟩
abbrev TRC_PORT_STALE (i : Nat) : Fld := ⟨R.TRC_PORT i, 1, 1⟩
abbrev TRC_PORT_ITRACE (i : Nat) : Fld := ⟨R.TRC_PORT i, 2, 1⟩
abbrev TRC_PORT_DTRACE (i : Nat) : Fld := ⟨R.TRC_PORT i, 3, 1⟩
abbrev TRC_PORT_LOSSLESS (i : Nat) : Fld := ⟨R.TRC_PORT i, 4, 1⟩
abbrev CTR_CTL_WRAP_EN : Fld := ⟨R.CTR_CTL, 0, 1⟩
abbrev CTR_CTL_WRAP_RING : Fld := ⟨R.CTR_CTL, 1, 6⟩
abbrev CTR_CTL_ATTR_EN : Fld := ⟨R.CTR_CTL, 7, 1⟩
abbrev CTR_CTL_ATTR_LEVELS : Fld := ⟨R.CTR_CTL, 8, 5⟩
abbrev CTR_STAT_BUSY : Fld := ⟨R.CTR_STAT, 0, 1⟩
abbrev CTR_STAT_LOST : Fld := ⟨R.CTR_STAT, 1, 1⟩
abbrev CTR_STAT_RESTARTED : Fld := ⟨R.CTR_STAT, 2, 1⟩
abbrev CTR_STAT_DENIED : Fld := ⟨R.CTR_STAT, 3, 1⟩
abbrev CTR_BUDGET_BUDGET : Fld := ⟨R.CTR_BUDGET, 0, 16⟩
abbrev ATTR_CTX_EN_EN (i : Nat) : Fld := ⟨R.ATTR_CTX_EN i, 0, 32⟩
abbrev STRIA_STAT_BUSY : Fld := ⟨R.STRIA_STAT, 0, 1⟩
abbrev STRIA_STAT_WAITING : Fld := ⟨R.STRIA_STAT, 1, 1⟩
abbrev STRIA_STAT_ARMED : Fld := ⟨R.STRIA_STAT, 8, 7⟩
abbrev STRIA_STAT_FREE : Fld := ⟨R.STRIA_STAT, 16, 14⟩
abbrev STRIA_BUDGET_BUDGET : Fld := ⟨R.STRIA_BUDGET, 0, 16⟩
abbrev STRIA_DEFER_OVERFLOWS : Fld := ⟨R.STRIA_DEFER, 0, 16⟩
abbrev STRIA_CFG_ARMED (i : Nat) : Fld := ⟨R.STRIA_CFG i, 0, 1⟩
abbrev STRIA_CFG_FMT (i : Nat) : Fld := ⟨R.STRIA_CFG i, 1, 4⟩
abbrev STRIA_CFG_MODE (i : Nat) : Fld := ⟨R.STRIA_CFG i, 5, 2⟩
abbrev STRIA_CFG_KEEP_NEG_ZERO (i : Nat) : Fld := ⟨R.STRIA_CFG i, 7, 1⟩
abbrev STRIA_CFG_NSAMP (i : Nat) : Fld := ⟨R.STRIA_CFG i, 8, 8⟩
abbrev STRIA_CFG_PLOG (i : Nat) : Fld := ⟨R.STRIA_CFG i, 16, 5⟩
abbrev STRIA_CFG_BSHIFT (i : Nat) : Fld := ⟨R.STRIA_CFG i, 21, 5⟩
abbrev STRIA_SEL_CTX (i : Nat) : Fld := ⟨R.STRIA_SEL i, 0, 8⟩
abbrev STRIA_SEL_OUT (i : Nat) : Fld := ⟨R.STRIA_SEL i, 8, 4⟩
abbrev STRIA_LAYER_VALUE (i : Nat) : Fld := ⟨R.STRIA_LAYER i, 0, 16⟩
abbrev STRIA_LAYER_MASK (i : Nat) : Fld := ⟨R.STRIA_LAYER i, 16, 16⟩
abbrev STRIA_OP_VALUE (i : Nat) : Fld := ⟨R.STRIA_OP i, 0, 16⟩
abbrev STRIA_OP_MASK (i : Nat) : Fld := ⟨R.STRIA_OP i, 16, 16⟩
abbrev STRIA_HIST_LO (i : Nat) : Fld := ⟨R.STRIA_HIST i, 0, 10⟩
abbrev STRIA_HIST_STEP (i : Nat) : Fld := ⟨R.STRIA_HIST i, 10, 2⟩
abbrev STRIA_STORE_BASE (i : Nat) : Fld := ⟨R.STRIA_STORE i, 0, 13⟩
abbrev STRIA_STORE_NCELL (i : Nat) : Fld := ⟨R.STRIA_STORE i, 16, 13⟩
abbrev STRIA_SSTAT_OWNER (i : Nat) : Fld := ⟨R.STRIA_SSTAT i, 0, 6⟩
abbrev STRIA_SSTAT_LOST (i : Nat) : Fld := ⟨R.STRIA_SSTAT i, 6, 1⟩
abbrev STRIA_SSTAT_PERTURBED (i : Nat) : Fld := ⟨R.STRIA_SSTAT i, 7, 1⟩
abbrev STRIA_SSTAT_TILES (i : Nat) : Fld := ⟨R.STRIA_SSTAT i, 16, 16⟩
abbrev STRIA_SKIPS_RATE (i : Nat) : Fld := ⟨R.STRIA_SKIPS i, 0, 16⟩
abbrev STRIA_SKIPS_NOCELL (i : Nat) : Fld := ⟨R.STRIA_SKIPS i, 16, 16⟩
abbrev DL_CTL_EVT_RING : Fld := ⟨R.DL_CTL, 0, 6⟩
abbrev DL_STAT_WRAPPED : Fld := ⟨R.DL_STAT, 0, 1⟩
abbrev DL_STAT_LATE : Fld := ⟨R.DL_STAT, 1, 1⟩
abbrev DL_STAT_LOST_DETAIL : Fld := ⟨R.DL_STAT, 2, 1⟩
abbrev DL_STAT_OVF : Fld := ⟨R.DL_STAT, 3, 1⟩
abbrev DL_STAT_EPOCH_BUSY : Fld := ⟨R.DL_STAT, 4, 1⟩
abbrev DL_STAT_ROWS : Fld := ⟨R.DL_STAT, 16, 6⟩
abbrev FLT_WAIT_WAIT : Fld := ⟨R.FLT_WAIT, 0, 16⟩
abbrev DL_GRACE_GRACE : Fld := ⟨R.DL_GRACE, 0, 32⟩
abbrev FLT_NEXT_FSEQ : Fld := ⟨R.FLT_NEXT, 0, 32⟩
abbrev FLT_DISC_LATE : Fld := ⟨R.FLT_DISC, 0, 16⟩
abbrev DL_STN_SEL_STN : Fld := ⟨R.DL_STN_SEL, 0, 10⟩
abbrev POLICY_G0 (i : Nat) : Fld := ⟨R.POLICY i, 0, 8⟩
abbrev POLICY_G1 (i : Nat) : Fld := ⟨R.POLICY i, 8, 8⟩
abbrev POLICY_G2 (i : Nat) : Fld := ⟨R.POLICY i, 16, 8⟩
abbrev POLICY_G3 (i : Nat) : Fld := ⟨R.POLICY i, 24, 8⟩
abbrev HB_CTL_EN (i : Nat) : Fld := ⟨R.HB_CTL i, 0, 1⟩
abbrev HB_CTL_UNIT (i : Nat) : Fld := ⟨R.HB_CTL i, 1, 14⟩
abbrev HB_CTL_UNIT_VALID (i : Nat) : Fld := ⟨R.HB_CTL i, 15, 1⟩
abbrev HB_CTL_CTX (i : Nat) : Fld := ⟨R.HB_CTL i, 16, 8⟩
abbrev HB_PER_PERIOD (i : Nat) : Fld := ⟨R.HB_PER i, 0, 32⟩
abbrev HB_LAST_LO_TS (i : Nat) : Fld := ⟨R.HB_LAST_LO i, 0, 32⟩
abbrev HB_LAST_HI_TS (i : Nat) : Fld := ⟨R.HB_LAST_HI i, 0, 32⟩
abbrev BUD_ROW_CTX (i : Nat) : Fld := ⟨R.BUD_ROW i, 0, 8⟩
abbrev BUD_ROW_VALID (i : Nat) : Fld := ⟨R.BUD_ROW i, 8, 1⟩
abbrev BUD_LO_BUDGET (i j : Nat) : Fld := ⟨R.BUD_LO i j, 0, 32⟩
abbrev BUD_HI_BUDGET (i j : Nat) : Fld := ⟨R.BUD_HI i j, 0, 4⟩
abbrev FLT_LOG_WORD (i j : Nat) : Fld := ⟨R.FLT_LOG i j, 0, 32⟩
abbrev LEHR_CTL_EN : Fld := ⟨R.LEHR_CTL, 0, 1⟩
abbrev LEHR_CTL_P0_CLASS : Fld := ⟨R.LEHR_CTL, 1, 1⟩
abbrev LEHR_CTL_MIRROR_EN : Fld := ⟨R.LEHR_CTL, 2, 1⟩
abbrev LEHR_CTL_SIGN : Fld := ⟨R.LEHR_CTL, 3, 1⟩
abbrev LEHR_CTL_MBX_EN : Fld := ⟨R.LEHR_CTL, 4, 1⟩
abbrev LEHR_CTL_MBX_CH : Fld := ⟨R.LEHR_CTL, 5, 5⟩
abbrev LEHR_CTL_EVT_RING : Fld := ⟨R.LEHR_CTL, 10, 6⟩
abbrev LEHR_CTL_ATTR_EN : Fld := ⟨R.LEHR_CTL, 16, 1⟩
abbrev LEHR_CTL_LEDGER_N : Fld := ⟨R.LEHR_CTL, 17, 5⟩
abbrev LEHR_STAT_PHASE : Fld := ⟨R.LEHR_STAT, 0, 3⟩
abbrev LEHR_STAT_NOCUT : Fld := ⟨R.LEHR_STAT, 3, 1⟩
abbrev LEHR_STAT_PRIMARY : Fld := ⟨R.LEHR_STAT, 4, 2⟩
abbrev LEHR_STAT_MIRROR : Fld := ⟨R.LEHR_STAT, 6, 2⟩
abbrev LEHR_STAT_MIRROR_ON : Fld := ⟨R.LEHR_STAT, 8, 1⟩
abbrev LEHR_STAT_KEEP_ON : Fld := ⟨R.LEHR_STAT, 9, 1⟩
abbrev LEHR_STAT_REFUSED : Fld := ⟨R.LEHR_STAT, 10, 1⟩
abbrev LEHR_STAT_INTERRUPTED : Fld := ⟨R.LEHR_STAT, 11, 1⟩
abbrev LEHR_STAT_DEADLINE : Fld := ⟨R.LEHR_STAT, 12, 1⟩
abbrev LEHR_START_GO : Fld := ⟨R.LEHR_START, 0, 1⟩
abbrev LEHR_START_NOSCRATCH : Fld := ⟨R.LEHR_START, 1, 1⟩
abbrev LEHR_START_UNIT_VALID : Fld := ⟨R.LEHR_START, 2, 1⟩
abbrev LEHR_START_UNIT : Fld := ⟨R.LEHR_START, 3, 14⟩
abbrev LEHR_ABORT_ABORT : Fld := ⟨R.LEHR_ABORT, 0, 1⟩
abbrev LEHR_SCOPE_PARTMASK : Fld := ⟨R.LEHR_SCOPE, 0, 16⟩
abbrev LEHR_NUM_NUM : Fld := ⟨R.LEHR_NUM, 0, 32⟩
abbrev LEHR_BUD_P1_BUDGET : Fld := ⟨R.LEHR_BUD_P1, 0, 24⟩
abbrev LEHR_BUD_P2_BUDGET : Fld := ⟨R.LEHR_BUD_P2, 0, 24⟩
abbrev LEHR_BUD_P3_BUDGET : Fld := ⟨R.LEHR_BUD_P3, 0, 24⟩
abbrev LEHR_BUD_TOTAL_TOTAL : Fld := ⟨R.LEHR_BUD_TOTAL, 0, 24⟩
abbrev LEHR_SEAL_RES_RES : Fld := ⟨R.LEHR_SEAL_RES, 0, 24⟩
abbrev LEHR_TMO_RD_TMO : Fld := ⟨R.LEHR_TMO, 0, 16⟩
abbrev LEHR_TMO_WR_TMO : Fld := ⟨R.LEHR_TMO, 16, 16⟩
abbrev LEHR_CTXWIN_OFF : Fld := ⟨R.LEHR_CTXWIN, 0, 16⟩
abbrev LEHR_CTXWIN_MAX : Fld := ⟨R.LEHR_CTXWIN, 16, 3⟩
abbrev LEHR_CTXWIN_MAXLEN : Fld := ⟨R.LEHR_CTXWIN, 20, 8⟩
abbrev LEHR_KEEP_APT_BASE : Fld := ⟨R.LEHR_KEEP_APT, 0, 6⟩
abbrev LEHR_LAST_START_LO_TS : Fld := ⟨R.LEHR_LAST_START_LO, 0, 32⟩
abbrev LEHR_LAST_START_HI_TS : Fld := ⟨R.LEHR_LAST_START_HI, 0, 32⟩
abbrev LEHR_LAST_SEAL_LO_TS : Fld := ⟨R.LEHR_LAST_SEAL_LO, 0, 32⟩
abbrev LEHR_LAST_SEAL_HI_TS : Fld := ⟨R.LEHR_LAST_SEAL_HI, 0, 32⟩
abbrev LEHR_LAST_BYTES_LO_BYTES : Fld := ⟨R.LEHR_LAST_BYTES_LO, 0, 32⟩
abbrev LEHR_LAST_BYTES_HI_BYTES : Fld := ⟨R.LEHR_LAST_BYTES_HI, 0, 32⟩
abbrev LEHR_LAST_STATUS_RESULT : Fld := ⟨R.LEHR_LAST_STATUS, 0, 2⟩
abbrev LEHR_LAST_STATUS_SINGLE_COPY : Fld := ⟨R.LEHR_LAST_STATUS, 2, 1⟩
abbrev LEHR_LAST_STATUS_NOCUT : Fld := ⟨R.LEHR_LAST_STATUS, 3, 1⟩
abbrev LEHR_LAST_STATUS_TRUNCATED : Fld := ⟨R.LEHR_LAST_STATUS, 4, 1⟩
abbrev LEHR_LAST_STATUS_PERTURBED : Fld := ⟨R.LEHR_LAST_STATUS, 5, 1⟩
abbrev LEHR_LAST_STATUS_PHASES_LATE : Fld := ⟨R.LEHR_LAST_STATUS, 8, 6⟩
abbrev LEHR_LAST_STATUS_PRIMARY : Fld := ⟨R.LEHR_LAST_STATUS, 16, 2⟩
abbrev LEHR_LAST_STATUS_MIRROR : Fld := ⟨R.LEHR_LAST_STATUS, 18, 2⟩
abbrev LEHR_LAST_STATUS_MIRROR_VALID : Fld := ⟨R.LEHR_LAST_STATUS, 20, 1⟩
abbrev LEHR_DEST_CFG_TYPE (i : Nat) : Fld := ⟨R.LEHR_DEST_CFG i, 0, 2⟩
abbrev LEHR_DEST_CFG_EN (i : Nat) : Fld := ⟨R.LEHR_DEST_CFG i, 2, 1⟩
abbrev LEHR_DEST_CFG_HELD (i : Nat) : Fld := ⟨R.LEHR_DEST_CFG i, 3, 1⟩
abbrev LEHR_DEST_CFG_FAILED (i : Nat) : Fld := ⟨R.LEHR_DEST_CFG i, 4, 1⟩
abbrev LEHR_DEST_CFG_BAD (i : Nat) : Fld := ⟨R.LEHR_DEST_CFG i, 5, 1⟩
abbrev LEHR_DEST_ADDR_LO_ADDR (i : Nat) : Fld := ⟨R.LEHR_DEST_ADDR_LO i, 0, 32⟩
abbrev LEHR_DEST_ADDR_HI_ADDR (i : Nat) : Fld := ⟨R.LEHR_DEST_ADDR_HI i, 0, 32⟩
abbrev LEHR_DEST_SIZE_MIB (i : Nat) : Fld := ⟨R.LEHR_DEST_SIZE i, 0, 16⟩
abbrev LEHR_PLAN_CFG_MODE (i : Nat) : Fld := ⟨R.LEHR_PLAN_CFG i, 0, 1⟩
abbrev LEHR_PLAN_CFG_NWIN (i : Nat) : Fld := ⟨R.LEHR_PLAN_CFG i, 1, 4⟩
abbrev LEHR_PLAN_BASE_LO_BASE (i : Nat) : Fld := ⟨R.LEHR_PLAN_BASE_LO i, 0, 32⟩
abbrev LEHR_PLAN_BASE_HI_BASE (i : Nat) : Fld := ⟨R.LEHR_PLAN_BASE_HI i, 0, 32⟩
abbrev LEHR_PLAN_STRIDE_STRIDE (i : Nat) : Fld := ⟨R.LEHR_PLAN_STRIDE i, 0, 32⟩
abbrev LEHR_PLAN_OFF_OFF (i j : Nat) : Fld := ⟨R.LEHR_PLAN_OFF i j, 0, 32⟩
abbrev LEHR_PLAN_LEN_LEN (i j : Nat) : Fld := ⟨R.LEHR_PLAN_LEN i j, 0, 32⟩
abbrev KEEP_APERTURE_DATA (i : Nat) : Fld := ⟨R.KEEP_APERTURE i, 0, 32⟩
abbrev RST_CTL_MODE : Fld := ⟨R.RST_CTL, 0, 1⟩
abbrev RST_CTL_LOCK : Fld := ⟨R.RST_CTL, 1, 1⟩
abbrev RST_CTL_AUTO_NOTICE : Fld := ⟨R.RST_CTL, 2, 1⟩
abbrev RST_CTL_EVT_RING : Fld := ⟨R.RST_CTL, 3, 6⟩
abbrev RST_STAT_STEP : Fld := ⟨R.RST_STAT, 0, 3⟩
abbrev RST_STAT_WAIT_DUMP : Fld := ⟨R.RST_STAT, 3, 1⟩
abbrev RST_STAT_QUEUED : Fld := ⟨R.RST_STAT, 4, 3⟩
abbrev RST_STAT_NOPRIO : Fld := ⟨R.RST_STAT, 7, 1⟩
abbrev RST_STAT_CHIP_REQ : Fld := ⟨R.RST_STAT, 8, 1⟩
abbrev RST_STAT_ESCALATED : Fld := ⟨R.RST_STAT, 9, 1⟩
abbrev RST_STAT_REPORT_TRUNC : Fld := ⟨R.RST_STAT, 10, 1⟩
abbrev RST_STAT_CARRIER_ERR : Fld := ⟨R.RST_STAT, 11, 1⟩
abbrev RST_STAT_REQ_ERR : Fld := ⟨R.RST_STAT, 12, 1⟩
abbrev RST_REQ_STEP : Fld := ⟨R.RST_REQ, 0, 2⟩
abbrev RST_REQ_UNIT : Fld := ⟨R.RST_REQ, 2, 14⟩
abbrev RST_REQ_PART : Fld := ⟨R.RST_REQ, 16, 4⟩
abbrev RST_REQ_GO : Fld := ⟨R.RST_REQ, 20, 1⟩
abbrev RST_BUD_ENGINE_BUDGET : Fld := ⟨R.RST_BUD_ENGINE, 0, 24⟩
abbrev RST_BUD_PART_BUDGET : Fld := ⟨R.RST_BUD_PART, 0, 24⟩
abbrev RST_BUD_COMPUTE_BUDGET : Fld := ⟨R.RST_BUD_COMPUTE, 0, 24⟩
abbrev RST_DISC_LO_ADDR : Fld := ⟨R.RST_DISC_LO, 0, 32⟩
abbrev RST_DISC_HI_ADDR : Fld := ⟨R.RST_DISC_HI, 0, 32⟩
abbrev RST_DISC_LEN_LEN : Fld := ⟨R.RST_DISC_LEN, 0, 16⟩
abbrev RST_COLLECT_BUDGET : Fld := ⟨R.RST_COLLECT, 0, 24⟩
abbrev RST_NUM_NUM : Fld := ⟨R.RST_NUM, 0, 32⟩
abbrev RST_STN_SEL_STN : Fld := ⟨R.RST_STN_SEL, 0, 10⟩
abbrev NOTICE_CTL_FIRST_BUD : Fld := ⟨R.NOTICE_CTL, 0, 8⟩
abbrev NOTICE_CTL_LAST_BUD : Fld := ⟨R.NOTICE_CTL, 8, 16⟩
abbrev NOTICE_CTL_RX_EN : Fld := ⟨R.NOTICE_CTL, 24, 1⟩
abbrev NOTICE_CTL_RX_RING : Fld := ⟨R.NOTICE_CTL, 25, 6⟩
abbrev NOTICE_STAT_BUSY : Fld := ⟨R.NOTICE_STAT, 0, 1⟩
abbrev NOTICE_STAT_QUEUED : Fld := ⟨R.NOTICE_STAT, 1, 3⟩
abbrev NOTICE_STAT_NOPRIO : Fld := ⟨R.NOTICE_STAT, 4, 1⟩
abbrev NOTICE_STAT_LATE : Fld := ⟨R.NOTICE_STAT, 5, 1⟩
abbrev NOTICE_STAT_TRACKED : Fld := ⟨R.NOTICE_STAT, 6, 7⟩
abbrev NOTICE_CNT_IGNORED : Fld := ⟨R.NOTICE_CNT, 0, 16⟩
abbrev NOTICE_CNT_DROPPED : Fld := ⟨R.NOTICE_CNT, 16, 8⟩
abbrev NOTICE_CNT_UNTRACKED : Fld := ⟨R.NOTICE_CNT, 24, 8⟩
abbrev REHEAT_MARK_M : Fld := ⟨R.REHEAT_MARK, 0, 3⟩
abbrev RHT_STAT_DONE : Fld := ⟨R.RHT_STAT, 0, 8⟩
abbrev RHT_STAT_LATE : Fld := ⟨R.RHT_STAT, 8, 8⟩
abbrev RHT_STAT_STEP : Fld := ⟨R.RHT_STAT, 16, 3⟩
abbrev RHT_TS_LO_TS (i : Nat) : Fld := ⟨R.RHT_TS_LO i, 0, 32⟩
abbrev RHT_TS_HI_TS (i : Nat) : Fld := ⟨R.RHT_TS_HI i, 0, 32⟩
abbrev RHT_BUD_BUDGET (i : Nat) : Fld := ⟨R.RHT_BUD i, 0, 16⟩
abbrev NOTICE_LOG_WORD (i j : Nat) : Fld := ⟨R.NOTICE_LOG i j, 0, 32⟩
abbrev CONT_CTL_LEDGER_EN : Fld := ⟨R.CONT_CTL, 0, 1⟩
abbrev CONT_CTL_MV_RX_EN : Fld := ⟨R.CONT_CTL, 1, 1⟩
abbrev CONT_CTL_EVT_RING : Fld := ⟨R.CONT_CTL, 2, 6⟩
abbrev CONT_STAT_REC_BUSY : Fld := ⟨R.CONT_STAT, 0, 1⟩
abbrev CONT_STAT_CHK_BUSY : Fld := ⟨R.CONT_STAT, 1, 1⟩
abbrev CONT_STAT_MV_BUSY : Fld := ⟨R.CONT_STAT, 2, 1⟩
abbrev CONT_STAT_COPY_BUSY : Fld := ⟨R.CONT_STAT, 3, 1⟩
abbrev CONT_STAT_SCANNING : Fld := ⟨R.CONT_STAT, 4, 1⟩
abbrev CONT_STAT_WAIT_DUMP : Fld := ⟨R.CONT_STAT, 5, 1⟩
abbrev CONT_STAT_TORN : Fld := ⟨R.CONT_STAT, 6, 1⟩
abbrev CONT_STAT_INTERRUPTED : Fld := ⟨R.CONT_STAT, 7, 1⟩
abbrev CONT_STAT_RX_Q : Fld := ⟨R.CONT_STAT, 8, 3⟩
abbrev LEDGER_BASE_LO_ADDR : Fld := ⟨R.LEDGER_BASE_LO, 0, 32⟩
abbrev LEDGER_BASE_HI_ADDR : Fld := ⟨R.LEDGER_BASE_HI, 0, 32⟩
abbrev LEDGER_NEXT_INDEX : Fld := ⟨R.LEDGER_NEXT, 0, 32⟩
abbrev CONT_BUD_REC_BUDGET : Fld := ⟨R.CONT_BUD_REC, 0, 24⟩
abbrev CONT_BUD_CHK_BUDGET : Fld := ⟨R.CONT_BUD_CHK, 0, 24⟩
abbrev CONT_BUD_MV_BUDGET : Fld := ⟨R.CONT_BUD_MV, 0, 24⟩
abbrev CONT_BUD_COPY_BUDGET : Fld := ⟨R.CONT_BUD_COPY, 0, 24⟩
abbrev CONT_TMO_RD_TMO : Fld := ⟨R.CONT_TMO, 0, 16⟩
abbrev CONT_TMO_WR_TMO : Fld := ⟨R.CONT_TMO, 16, 16⟩
abbrev MV_RX_BASE_LO_ADDR : Fld := ⟨R.MV_RX_BASE_LO, 0, 32⟩
abbrev MV_RX_BASE_HI_ADDR : Fld := ⟨R.MV_RX_BASE_HI, 0, 32⟩
abbrev MV_RX_LEN_MIB : Fld := ⟨R.MV_RX_LEN, 0, 32⟩
abbrev CONT_ABORT_COPY : Fld := ⟨R.CONT_ABORT, 0, 1⟩
abbrev MAP_CRC_CRC : Fld := ⟨R.MAP_CRC, 0, 32⟩
abbrev STREAM_MAP_UNIT (i : Nat) : Fld := ⟨R.STREAM_MAP i, 0, 14⟩
abbrev STREAM_MAP_SLOT (i : Nat) : Fld := ⟨R.STREAM_MAP i, 14, 3⟩
abbrev STREAM_MAP_VALID (i : Nat) : Fld := ⟨R.STREAM_MAP i, 17, 1⟩
abbrev GAF_CTL_RUN_0 : Fld := ⟨R.GAF_CTL, 0, 1⟩
abbrev GAF_CTL_RUN_1 : Fld := ⟨R.GAF_CTL, 1, 1⟩
abbrev GAF_STAT_READY_0 : Fld := ⟨R.GAF_STAT, 0, 1⟩
abbrev GAF_STAT_READY_1 : Fld := ⟨R.GAF_STAT, 1, 1⟩
abbrev GAF_STAT_HALTED_0 : Fld := ⟨R.GAF_STAT, 2, 1⟩
abbrev GAF_STAT_HALTED_1 : Fld := ⟨R.GAF_STAT, 3, 1⟩
abbrev GAF_FW_VER_ROM_BUILD : Fld := ⟨R.GAF_FW_VER, 0, 16⟩
abbrev GAF_FW_VER_PATCH_LEVEL : Fld := ⟨R.GAF_FW_VER, 16, 12⟩
abbrev GAF_FW_VER_PATCHED : Fld := ⟨R.GAF_FW_VER, 28, 1⟩
abbrev GAF_FW_VER_PATCH_FAULT : Fld := ⟨R.GAF_FW_VER, 29, 1⟩
abbrev GAF_WDT_PER_PER_0 : Fld := ⟨R.GAF_WDT_PER, 0, 16⟩
abbrev GAF_WDT_PER_PER_1 : Fld := ⟨R.GAF_WDT_PER, 16, 16⟩
abbrev GAF_WDT_STAT_EXP_0 : Fld := ⟨R.GAF_WDT_STAT, 0, 8⟩
abbrev GAF_WDT_STAT_EXP_1 : Fld := ⟨R.GAF_WDT_STAT, 8, 8⟩
abbrev GAF_WDT_STAT_PAUSED_0 : Fld := ⟨R.GAF_WDT_STAT, 16, 1⟩
abbrev GAF_WDT_STAT_PAUSED_1 : Fld := ⟨R.GAF_WDT_STAT, 17, 1⟩
abbrev GAF_MEM_ADDR_ADDR : Fld := ⟨R.GAF_MEM_ADDR, 0, 32⟩
abbrev GAF_MEM_DATA_DATA : Fld := ⟨R.GAF_MEM_DATA, 0, 32⟩
abbrev GAF_PATCH_CTL_RESTART : Fld := ⟨R.GAF_PATCH_CTL, 0, 1⟩
abbrev GAF_PATCH_CTL_APPLY : Fld := ⟨R.GAF_PATCH_CTL, 1, 1⟩
abbrev GAF_PATCH_STAT_BUSY : Fld := ⟨R.GAF_PATCH_STAT, 0, 1⟩
abbrev GAF_PATCH_STAT_CHECK : Fld := ⟨R.GAF_PATCH_STAT, 1, 3⟩
abbrev GAF_PATCH_STAT_ERR : Fld := ⟨R.GAF_PATCH_STAT, 4, 1⟩
abbrev GAF_PATCH_STAT_UNITS : Fld := ⟨R.GAF_PATCH_STAT, 16, 5⟩
abbrev GAF_BLOB_DATA_DATA : Fld := ⟨R.GAF_BLOB_DATA, 0, 32⟩
abbrev GAF_BLOB_WPTR_WPTR : Fld := ⟨R.GAF_BLOB_WPTR, 0, 17⟩
abbrev GAF_DBG_CTL_HALT (i : Nat) : Fld := ⟨R.GAF_DBG_CTL i, 0, 1⟩
abbrev GAF_DBG_CTL_RUN (i : Nat) : Fld := ⟨R.GAF_DBG_CTL i, 1, 1⟩
abbrev GAF_DBG_CTL_STEP (i : Nat) : Fld := ⟨R.GAF_DBG_CTL i, 2, 1⟩
abbrev GAF_DBG_STAT_HALTED (i : Nat) : Fld := ⟨R.GAF_DBG_STAT i, 0, 1⟩
abbrev GAF_DBG_STAT_CAUSE (i : Nat) : Fld := ⟨R.GAF_DBG_STAT i, 1, 3⟩
abbrev GAF_DBG_STAT_HIT (i : Nat) : Fld := ⟨R.GAF_DBG_STAT i, 4, 4⟩
abbrev GAF_DBG_STAT_DEFERRED (i : Nat) : Fld := ⟨R.GAF_DBG_STAT i, 8, 1⟩
abbrev GAF_DBG_STAT_ERR (i : Nat) : Fld := ⟨R.GAF_DBG_STAT i, 9, 1⟩
abbrev GAF_DBG_SEL_IDX (i : Nat) : Fld := ⟨R.GAF_DBG_SEL i, 0, 6⟩
abbrev GAF_DBG_DATA_DATA (i : Nat) : Fld := ⟨R.GAF_DBG_DATA i, 0, 32⟩
abbrev GAF_PU_CFG_LINE (i : Nat) : Fld := ⟨R.GAF_PU_CFG i, 0, 13⟩
abbrev GAF_PU_CFG_WORD (i : Nat) : Fld := ⟨R.GAF_PU_CFG i, 13, 3⟩
abbrev GAF_PU_CFG_EN (i : Nat) : Fld := ⟨R.GAF_PU_CFG i, 16, 1⟩
abbrev GAF_PU_CFG_KIND (i : Nat) : Fld := ⟨R.GAF_PU_CFG i, 17, 1⟩
abbrev GAF_PU_CRC_CRC (i : Nat) : Fld := ⟨R.GAF_PU_CRC i, 0, 32⟩
abbrev PTB_CTL_SLOT_EN : Fld := ⟨R.PTB_CTL, 0, 1⟩
abbrev PTB_CTL_RING_EN : Fld := ⟨R.PTB_CTL, 1, 1⟩
abbrev PTB_CTL_DMP_EN : Fld := ⟨R.PTB_CTL, 2, 1⟩
abbrev PTB_CTL_FAB_EN : Fld := ⟨R.PTB_CTL, 3, 1⟩
abbrev PTB_CTL_MBX_EN : Fld := ⟨R.PTB_CTL, 4, 1⟩
abbrev PTB_CTL_BUD_EN : Fld := ⟨R.PTB_CTL, 5, 1⟩
abbrev PTB_CTL_GATHER_EN : Fld := ⟨R.PTB_CTL, 6, 1⟩
abbrev PTB_STAT_ACTIVE : Fld := ⟨R.PTB_STAT, 0, 1⟩
abbrev PTB_STAT_APPLIED : Fld := ⟨R.PTB_STAT, 1, 1⟩
abbrev PTB_STAT_EVER : Fld := ⟨R.PTB_STAT, 2, 1⟩
abbrev PTB_STAT_ERR : Fld := ⟨R.PTB_STAT, 3, 1⟩
abbrev PTB_STAT_FORCED : Fld := ⟨R.PTB_STAT, 8, 8⟩
abbrev PTB_SLOT_GRP : Fld := ⟨R.PTB_SLOT, 0, 16⟩
abbrev PTB_SLOT_DUTY : Fld := ⟨R.PTB_SLOT, 16, 4⟩
abbrev PTB_RING_HOLD : Fld := ⟨R.PTB_RING, 0, 4⟩
abbrev PTB_PORT_DMP_HOLD : Fld := ⟨R.PTB_PORT, 0, 4⟩
abbrev PTB_PORT_FAB_HOLD : Fld := ⟨R.PTB_PORT, 4, 4⟩
abbrev PTB_PORT_FAB_NOTICE : Fld := ⟨R.PTB_PORT, 8, 1⟩
abbrev PTB_MBX_DELAY : Fld := ⟨R.PTB_MBX, 0, 16⟩
abbrev PTB_BUDGET_SCALE : Fld := ⟨R.PTB_BUDGET, 0, 8⟩
abbrev PTB_BUDGET_CMD : Fld := ⟨R.PTB_BUDGET, 8, 1⟩
abbrev PTB_BUDGET_WATCH : Fld := ⟨R.PTB_BUDGET, 9, 1⟩
abbrev PTB_BUDGET_SERVICE : Fld := ⟨R.PTB_BUDGET, 10, 1⟩
abbrev PTB_GATHER_DELAY : Fld := ⟨R.PTB_GATHER, 0, 16⟩
abbrev PTB_FORCE_ARG_CTX : Fld := ⟨R.PTB_FORCE_ARG, 0, 8⟩
abbrev PTB_FORCE_ARG_UNIT : Fld := ⟨R.PTB_FORCE_ARG, 8, 14⟩
abbrev PTB_FORCE_ARG_UNIT_VALID : Fld := ⟨R.PTB_FORCE_ARG, 22, 1⟩
abbrev PTB_FORCE_CODE : Fld := ⟨R.PTB_FORCE, 0, 16⟩
abbrev STN_AO_LO_VALUE (i j k : Nat) : Fld := ⟨R.STN_AO_LO i j k, 0, 32⟩
abbrev STN_AO_HI_VALUE (i j k : Nat) : Fld := ⟨R.STN_AO_HI i j k, 0, 16⟩
abbrev STN_AO_HI_BOUNDARY (i j k : Nat) : Fld := ⟨R.STN_AO_HI i j k, 16, 1⟩
abbrev STN_AO_HI_WRAP_PEND (i j k : Nat) : Fld := ⟨R.STN_AO_HI i j k, 17, 1⟩
abbrev STN_PC_LO_VALUE (i j : Nat) : Fld := ⟨R.STN_PC_LO i j, 0, 32⟩
abbrev STN_PC_HI_VALUE (i j : Nat) : Fld := ⟨R.STN_PC_HI i j, 0, 16⟩
abbrev STN_PC_HI_BOUNDARY (i j : Nat) : Fld := ⟨R.STN_PC_HI i j, 16, 1⟩
abbrev STN_PC_HI_WRAP_PEND (i j : Nat) : Fld := ⟨R.STN_PC_HI i j, 17, 1⟩
abbrev STN_PC_CFG_LO_EVENT (i j : Nat) : Fld := ⟨R.STN_PC_CFG_LO i j, 0, 8⟩
abbrev STN_PC_CFG_LO_PORTS (i j : Nat) : Fld := ⟨R.STN_PC_CFG_LO i j, 8, 16⟩
abbrev STN_PC_CFG_LO_SCOPE (i j : Nat) : Fld := ⟨R.STN_PC_CFG_LO i j, 24, 1⟩
abbrev STN_PC_CFG_LO_CPORT (i j : Nat) : Fld := ⟨R.STN_PC_CFG_LO i j, 25, 4⟩
abbrev STN_PC_CFG_HI_CQUEUE (i j : Nat) : Fld := ⟨R.STN_PC_CFG_HI i j, 0, 6⟩
abbrev STN_PC_CFG_HI_CTX_EN (i j : Nat) : Fld := ⟨R.STN_PC_CFG_HI i j, 6, 1⟩
abbrev STN_PC_CFG_HI_CTX (i j : Nat) : Fld := ⟨R.STN_PC_CFG_HI i j, 8, 8⟩
abbrev STN_PC_CFG_HI_OWNER (i j : Nat) : Fld := ⟨R.STN_PC_CFG_HI i j, 16, 6⟩
abbrev STN_ATTR_SEL_ENTRY (i : Nat) : Fld := ⟨R.STN_ATTR_SEL i, 0, 6⟩
abbrev STN_CTR_STAT_RESTARTED (i : Nat) : Fld := ⟨R.STN_CTR_STAT i, 0, 1⟩
abbrev STN_CTR_STAT_CUT_VALID (i : Nat) : Fld := ⟨R.STN_CTR_STAT i, 1, 1⟩
abbrev STN_CTR_STAT_ATTR_USED (i : Nat) : Fld := ⟨R.STN_CTR_STAT i, 2, 6⟩
abbrev STN_CTR_STAT_ATTR_OVF (i : Nat) : Fld := ⟨R.STN_CTR_STAT i, 8, 1⟩
abbrev STN_CTR_STAT_WRAP_MERGED (i : Nat) : Fld := ⟨R.STN_CTR_STAT i, 16, 16⟩
abbrev STN_CTR_WRAP_PC_PEND (i : Nat) : Fld := ⟨R.STN_CTR_WRAP i, 0, 16⟩
abbrev STN_CTR_WRAP_AO_PEND (i : Nat) : Fld := ⟨R.STN_CTR_WRAP i, 16, 1⟩
abbrev STN_CTR_WRAP_ATTR_PEND (i : Nat) : Fld := ⟨R.STN_CTR_WRAP i, 17, 1⟩
abbrev STN_ATTR_DATA_DATA (i j : Nat) : Fld := ⟨R.STN_ATTR_DATA i j, 0, 32⟩
abbrev STN_BP_FEED_FEED_LO (i j : Nat) : Fld := ⟨R.STN_BP_FEED i j, 0, 16⟩
abbrev STN_BP_FEED_FEED_HI (i j : Nat) : Fld := ⟨R.STN_BP_FEED i j, 16, 16⟩
abbrev STN_SH_CFG_H (i : Nat) : Fld := ⟨R.STN_SH_CFG i, 0, 8⟩
abbrev STN_SH_CFG_E (i : Nat) : Fld := ⟨R.STN_SH_CFG i, 8, 8⟩
abbrev STN_SH_CFG_W (i : Nat) : Fld := ⟨R.STN_SH_CFG i, 16, 8⟩
abbrev STN_SH_CFG_VALID (i : Nat) : Fld := ⟨R.STN_SH_CFG i, 24, 1⟩
abbrev STN_SH_STAT_LOCKED (i : Nat) : Fld := ⟨R.STN_SH_STAT i, 0, 1⟩
abbrev STN_SH_STAT_SKEW (i : Nat) : Fld := ⟨R.STN_SH_STAT i, 1, 1⟩
abbrev STN_SH_STAT_DEC_ERR (i : Nat) : Fld := ⟨R.STN_SH_STAT i, 2, 1⟩
abbrev STN_SH_STAT_BP_DRAIN (i : Nat) : Fld := ⟨R.STN_SH_STAT i, 3, 1⟩
abbrev STN_SH_STAT_ACK_PEND (i : Nat) : Fld := ⟨R.STN_SH_STAT i, 16, 16⟩
abbrev STN_SH_CTL_BP_CUT (i : Nat) : Fld := ⟨R.STN_SH_CTL i, 0, 16⟩
abbrev STN_CUL_STAT_ACTIVE (i : Nat) : Fld := ⟨R.STN_CUL_STAT i, 0, 1⟩
abbrev STN_CUL_STAT_SKEWMATCH (i : Nat) : Fld := ⟨R.STN_CUL_STAT i, 1, 1⟩
abbrev STN_CUL_STAT_LOG (i : Nat) : Fld := ⟨R.STN_CUL_STAT i, 2, 4⟩
abbrev STN_CUL_STAT_LATER_N (i : Nat) : Fld := ⟨R.STN_CUL_STAT i, 6, 3⟩
abbrev STN_CUL_STAT_GROUPS_LEFT (i : Nat) : Fld := ⟨R.STN_CUL_STAT i, 9, 3⟩
abbrev STN_CUL_RESTART_RESTARTS (i : Nat) : Fld := ⟨R.STN_CUL_RESTART i, 0, 16⟩
abbrev STN_TRC_STAT_RUN (i : Nat) : Fld := ⟨R.STN_TRC_STAT i, 0, 1⟩
abbrev STN_TRC_STAT_ACT_LATE (i : Nat) : Fld := ⟨R.STN_TRC_STAT i, 1, 1⟩
abbrev STN_TRC_STAT_HOLD (i : Nat) : Fld := ⟨R.STN_TRC_STAT i, 2, 1⟩
abbrev STN_TRC_STAT_EXCL (i : Nat) : Fld := ⟨R.STN_TRC_STAT i, 3, 1⟩
abbrev STN_TRC_STAT_LOST_PORTS (i : Nat) : Fld := ⟨R.STN_TRC_STAT i, 16, 16⟩
abbrev STN_TS_STAT_LOAD_FRAME (i : Nat) : Fld := ⟨R.STN_TS_STAT i, 0, 16⟩
abbrev STN_TS_STAT_LOADED (i : Nat) : Fld := ⟨R.STN_TS_STAT i, 16, 1⟩
abbrev STN_TS_STAT_SLIP (i : Nat) : Fld := ⟨R.STN_TS_STAT i, 17, 1⟩
abbrev STN_NET_T (i : Nat) : Fld := ⟨R.STN_NET i, 0, 8⟩
abbrev STN_NET_LOCKED (i : Nat) : Fld := ⟨R.STN_NET i, 8, 1⟩
abbrev STN_NET_RIB_END (i : Nat) : Fld := ⟨R.STN_NET i, 9, 1⟩
abbrev STN_NET_DATA_SLOTS (i : Nat) : Fld := ⟨R.STN_NET i, 16, 9⟩
abbrev STN_SLOT_CRC_CRC (i : Nat) : Fld := ⟨R.STN_SLOT_CRC i, 0, 32⟩
abbrev STN_SLOT_STN_ID (i : Nat) : Fld := ⟨R.STN_SLOT i, 0, 10⟩
abbrev STN_SLOT_LOADED (i : Nat) : Fld := ⟨R.STN_SLOT i, 10, 1⟩
abbrev STN_SLOT_SHCOMP (i : Nat) : Fld := ⟨R.STN_SLOT i, 11, 8⟩
abbrev STN_SLOT_PART (i : Nat) : Fld := ⟨R.STN_SLOT i, 19, 4⟩
abbrev STN_TRC_DROP_PKTS (i : Nat) : Fld := ⟨R.STN_TRC_DROP i, 0, 16⟩
abbrev STN_TRC_DROP_MSGS (i : Nat) : Fld := ⟨R.STN_TRC_DROP i, 16, 8⟩
abbrev STN_TRC_DROP_HOLDS (i : Nat) : Fld := ⟨R.STN_TRC_DROP i, 24, 8⟩
abbrev STN_NET_ERR_DERR (i : Nat) : Fld := ⟨R.STN_NET_ERR i, 0, 16⟩
abbrev STN_NET_ERR_COLL (i : Nat) : Fld := ⟨R.STN_NET_ERR i, 16, 16⟩
abbrev STN_TS_INC_LO_VALUE (i : Nat) : Fld := ⟨R.STN_TS_INC_LO i, 0, 32⟩
abbrev STN_TS_INC_HI_VALUE (i : Nat) : Fld := ⟨R.STN_TS_INC_HI i, 0, 32⟩
abbrev STN_TS_FRAC_VALUE (i : Nat) : Fld := ⟨R.STN_TS_FRAC i, 0, 32⟩
abbrev DBG_CTL_BP_EN (i j : Nat) : Fld := ⟨R.DBG_CTL i j, 0, 4⟩
abbrev DBG_CTL_WP_EN (i j : Nat) : Fld := ⟨R.DBG_CTL i j, 4, 2⟩
abbrev DBG_CTL_WP0_KIND (i j : Nat) : Fld := ⟨R.DBG_CTL i j, 6, 2⟩
abbrev DBG_CTL_WP1_KIND (i j : Nat) : Fld := ⟨R.DBG_CTL i j, 8, 2⟩
abbrev DBG_CTL_WP0_ACT (i j : Nat) : Fld := ⟨R.DBG_CTL i j, 10, 1⟩
abbrev DBG_CTL_WP1_ACT (i j : Nat) : Fld := ⟨R.DBG_CTL i j, 11, 1⟩
abbrev DBG_CTL_WP0_IGN (i j : Nat) : Fld := ⟨R.DBG_CTL i j, 12, 5⟩
abbrev DBG_CTL_WP1_IGN (i j : Nat) : Fld := ⟨R.DBG_CTL i j, 17, 5⟩
abbrev DBG_CTL_ITRACE_EN (i j : Nat) : Fld := ⟨R.DBG_CTL i j, 22, 1⟩
abbrev DBG_STAT_HALTED (i j : Nat) : Fld := ⟨R.DBG_STAT i j, 0, 1⟩
abbrev DBG_STAT_CAUSE (i j : Nat) : Fld := ⟨R.DBG_STAT i j, 1, 3⟩
abbrev DBG_STAT_HIT (i j : Nat) : Fld := ⟨R.DBG_STAT i j, 4, 3⟩
abbrev DBG_STAT_SECURE (i j : Nat) : Fld := ⟨R.DBG_STAT i j, 7, 1⟩
abbrev DBG_STAT_HALT_PENDING (i j : Nat) : Fld := ⟨R.DBG_STAT i j, 8, 1⟩
abbrev DBG_SEL_IDX (i j : Nat) : Fld := ⟨R.DBG_SEL i j, 0, 3⟩
abbrev DBG_ADDR_LO_ADDR (i j : Nat) : Fld := ⟨R.DBG_ADDR_LO i j, 0, 32⟩
abbrev DBG_ADDR_HI_ADDR (i j : Nat) : Fld := ⟨R.DBG_ADDR_HI i j, 0, 32⟩
abbrev DBG_CMD_OP (i j : Nat) : Fld := ⟨R.DBG_CMD i j, 0, 2⟩
abbrev STN_DL_STAT_EPOCH_LATE (i : Nat) : Fld := ⟨R.STN_DL_STAT i, 0, 1⟩
abbrev STN_DL_STAT_WD_USED (i : Nat) : Fld := ⟨R.STN_DL_STAT i, 8, 7⟩
abbrev STN_DL_CNT_STALE (i : Nat) : Fld := ⟨R.STN_DL_CNT i, 0, 16⟩
abbrev STN_DL_CNT_RELEASED (i : Nat) : Fld := ⟨R.STN_DL_CNT i, 16, 16⟩
abbrev STN_FLT_LATCH_LO_UNCORR (i : Nat) : Fld := ⟨R.STN_FLT_LATCH_LO i, 0, 16⟩
abbrev STN_FLT_LATCH_LO_TRAP (i : Nat) : Fld := ⟨R.STN_FLT_LATCH_LO i, 16, 16⟩
abbrev STN_FLT_LATCH_HI_PROTO (i : Nat) : Fld := ⟨R.STN_FLT_LATCH_HI i, 0, 16⟩
abbrev STN_FLT_LATCH_HI_STALL (i : Nat) : Fld := ⟨R.STN_FLT_LATCH_HI i, 16, 16⟩
abbrev STN_FLT_REPEAT_LO_UNCORR (i : Nat) : Fld := ⟨R.STN_FLT_REPEAT_LO i, 0, 16⟩
abbrev STN_FLT_REPEAT_LO_TRAP (i : Nat) : Fld := ⟨R.STN_FLT_REPEAT_LO i, 16, 16⟩
abbrev STN_FLT_REPEAT_HI_PROTO (i : Nat) : Fld := ⟨R.STN_FLT_REPEAT_HI i, 0, 16⟩
abbrev STN_FLT_REPEAT_HI_STALL (i : Nat) : Fld := ⟨R.STN_FLT_REPEAT_HI i, 16, 16⟩
abbrev STN_FLT_OVF_COUNT (i : Nat) : Fld := ⟨R.STN_FLT_OVF i, 0, 16⟩
abbrev STN_FLT_OVF_HELD (i : Nat) : Fld := ⟨R.STN_FLT_OVF i, 16, 1⟩
abbrev STN_PW_PER_PERIOD (i j : Nat) : Fld := ⟨R.STN_PW_PER i j, 0, 32⟩
abbrev STN_POL_CUT_G0_CUT (i j : Nat) : Fld := ⟨R.STN_POL_CUT i j, 0, 2⟩
abbrev STN_POL_CUT_G1_CUT (i j : Nat) : Fld := ⟨R.STN_POL_CUT i j, 2, 2⟩
abbrev STN_WD_DATA (i j k : Nat) : Fld := ⟨R.STN_WD i j k, 0, 32⟩
abbrev STN_PW_LAST_LO_TS (i j : Nat) : Fld := ⟨R.STN_PW_LAST_LO i j, 0, 32⟩
abbrev STN_PW_LAST_HI_TS (i j : Nat) : Fld := ⟨R.STN_PW_LAST_HI i j, 0, 32⟩
abbrev STN_RST_STAT_UNTRACKED (i : Nat) : Fld := ⟨R.STN_RST_STAT i, 0, 16⟩
abbrev STN_RST_STAT_LAT_UNTRACKED (i : Nat) : Fld := ⟨R.STN_RST_STAT i, 16, 16⟩
abbrev STN_RST_SEEN_SEEN (i : Nat) : Fld := ⟨R.STN_RST_SEEN i, 0, 16⟩
abbrev STN_RST_LAT_LO_LAT (i : Nat) : Fld := ⟨R.STN_RST_LAT_LO i, 0, 32⟩
abbrev STN_RST_LAT_HI_LAT (i : Nat) : Fld := ⟨R.STN_RST_LAT_HI i, 0, 32⟩
abbrev STN_RST_ENT_DATA (i j k : Nat) : Fld := ⟨R.STN_RST_ENT i j k, 0, 32⟩
abbrev STN_SEC_DATA (i j : Nat) : Fld := ⟨R.STN_SEC i j, 0, 32⟩

end F

def regRows0 : List RegRow := [
  ⟨"HUB_ID", 0x0, [], 0x0, 0x0, 0x0, 0x0, 0x0, 0x0, 0xcae5d332, false, .open_, .operator⟩,
  ⟨"HUB_IMPL", 0x4, [], 0x0, 0x0, 0x0, 0x0, 0x0, 0x0, 0x10cae, false, .open_, .operator⟩,
  ⟨"HUB_LIMITS", 0x8, [], 0x0, 0x0, 0x0, 0x0, 0x0, 0x0, 0x40400810, false, .open_, .operator⟩,
  ⟨"HUB_CAP_BUILD", 0xc, [], 0x0, 0x0, 0x0, 0x0, 0x0, 0x0, 0x68, false, .open_, .operator⟩,
  ⟨"HUB_CAP_EXT", 0x10, [], 0x0, 0x0, 0x0, 0x0, 0x0, 0x0, 0x1, false, .open_, .operator⟩,
  ⟨"HUB_STAT", 0x1000, [], 0x0, 0x0, 0x0, 0x0, 0x0, 0x0, 0x1, false, .operator, .operator⟩,
  ⟨"HUB_ATTN", 0x1004, [], 0x0, 0x0, 0x0, 0x0, 0x0, 0x0, 0x0, false, .operator, .operator⟩,
  ⟨"HUB_NODE", 0x1008, [], 0x0, 0x0, 0x0, 0x0, 0x0, 0x0, 0x0, false, .operator, .operator⟩,
  ⟨"HUB_NPEER", 0x100c, [], 0x0, 0x0, 0x0, 0x0, 0x0, 0x0, 0x0, false, .operator, .operator⟩,
  ⟨"HUB_JOB_LO", 0x1010, [], 0x0, 0x0, 0x0, 0x0, 0x0, 0x0, 0x0, false, .operator, .operator⟩,
  ⟨"HUB_JOB_HI", 0x1014, [], 0x0, 0x0, 0x0, 0x0, 0x0, 0x0, 0x0, false, .operator, .operator⟩,
  ⟨"HUB_WARM_TS_LO", 0x1018, [], 0x0, 0x0, 0x0, 0x0, 0x0, 0x0, 0x0, false, .operator, .operator⟩,
  ⟨"HUB_WARM_TS_HI", 0x101c, [], 0x0, 0x0, 0x0, 0x0, 0x0, 0x0, 0x0, false, .operator, .operator⟩,
  ⟨"HUB_SCRATCH", 0x1020, [(4, 0x4)], 0xffffffff, 0x0, 0x0, 0x0, 0x0, 0x0, 0x0, false, .operator, .operator⟩,
  ⟨"RS_SESS", 0x2000, [], 0x0, 0x0, 0x0, 0x8, 0x0, 0x0, 0x0, true, .operator, .operator⟩,
  ⟨"RS_SESS_SERIAL", 0x2004, [], 0x0, 0x0, 0x0, 0x0, 0x0, 0x0, 0x0, true, .operator, .operator⟩,
  ⟨"PRIV_CTL", 0x2100, [], 0x0, 0x0, 0x0, 0x1, 0x0, 0x0, 0x0, true, .operator, .operator⟩,
  ⟨"PRIV_STAT", 0x2104, [], 0x0, 0x0, 0x0, 0x0, 0x0, 0x0, 0x2, false, .operator, .operator⟩,
  ⟨"PRIV_REJ", 0x2108, [], 0x0, 0x0, 0x0, 0x0, 0x0, 0x3fffff, 0x0, false, .operator, .operator⟩,
  ⟨"PRIV_REJ_OFF", 0x210c, [], 0x0, 0x0, 0x0, 0x0, 0x0, 0x0, 0x0, false, .operator, .operator⟩,
  ⟨"SEC_CTL", 0x2110, [], 0x3, 0x0, 0x0, 0x0, 0x0, 0x0, 0x0, true, .operator, .custodian⟩,
  ⟨"CUST_GRANT", 0x2114, [], 0x7f, 0x0, 0x0, 0x0, 0x0, 0x0, 0x0, true, .operator, .custodian⟩,
  ⟨"OTP_CTL", 0x2300, [], 0x3f, 0x0, 0x0, 0x40, 0x0, 0x0, 0x0, true, .operator, .operator⟩,
  ⟨"OTP_STAT", 0x2304, [], 0x0, 0x0, 0x0, 0x0, 0x0, 0x0, 0x0, false, .operator, .operator⟩]

def regRows1 : List RegRow := [
  ⟨"PRIV_MAP", 0x2200, [(4, 0x4)], 0x0, 0xffffffff, 0x0, 0x0, 0x0, 0x0, 0x0, false, .operator, .operator⟩,
  ⟨"OTP_DATA", 0x2320, [(8, 0x4)], 0xffffffff, 0x0, 0x0, 0x0, 0x0, 0x0, 0x0, true, .operator, .operator⟩,
  ⟨"SQ_BASE_LO", 0x10000, [(64, 0x20)], 0xffffffff, 0x0, 0x0, 0x0, 0x0, 0x0, 0x0, false, .operator, .operator⟩,
  ⟨"SQ_BASE_HI", 0x10004, [(64, 0x20)], 0xffffffff, 0x0, 0x0, 0x0, 0x0, 0x0, 0x0, false, .operator, .operator⟩,
  ⟨"SQ_CFG", 0x10008, [(64, 0x20)], 0xffff, 0x0, 0x0, 0x0, 0x0, 0x0, 0x3f6, false, .operator, .operator⟩,
  ⟨"SQ_CTL", 0x1000c, [(64, 0x20)], 0x1, 0x0, 0x0, 0x2, 0x0, 0x0, 0x0, false, .operator, .operator⟩,
  ⟨"SQ_STAT", 0x10010, [(64, 0x20)], 0x0, 0x0, 0x8, 0x0, 0x0, 0x0, 0x0, false, .operator, .operator⟩,
  ⟨"SQ_HEAD", 0x10014, [(64, 0x20)], 0x0, 0x0, 0x0, 0x0, 0x0, 0x0, 0x0, false, .operator, .operator⟩,
  ⟨"SQ_TAIL", 0x10018, [(64, 0x20)], 0x0, 0x0, 0x0, 0x0, 0x0, 0x0, 0x0, false, .operator, .operator⟩,
  ⟨"SQ_ERRINFO", 0x1001c, [(64, 0x20)], 0x0, 0x0, 0x0, 0x0, 0x0, 0x0, 0x0, false, .operator, .operator⟩,
  ⟨"EQ_BASE_LO", 0x11000, [(64, 0x20)], 0xffffffff, 0x0, 0x0, 0x0, 0x0, 0x0, 0x0, false, .operator, .operator⟩,
  ⟨"EQ_BASE_HI", 0x11004, [(64, 0x20)], 0xffffffff, 0x0, 0x0, 0x0, 0x0, 0x0, 0x0, false, .operator, .operator⟩,
  ⟨"EQ_CFG", 0x11008, [(64, 0x20)], 0xffff, 0x0, 0x0, 0x0, 0x0, 0x0, 0x3f6, false, .operator, .operator⟩,
  ⟨"EQ_CTL", 0x1100c, [(64, 0x20)], 0x1, 0x0, 0x0, 0x2, 0x0, 0x0, 0x0, false, .operator, .operator⟩,
  ⟨"EQ_STAT", 0x11010, [(64, 0x20)], 0x0, 0x0, 0x8, 0x0, 0x0, 0x0, 0x30, false, .operator, .operator⟩,
  ⟨"EQ_MOD", 0x11014, [(64, 0x20)], 0xffffff, 0x0, 0x0, 0x0, 0x0, 0x0, 0x1, false, .operator, .operator⟩,
  ⟨"EQ_HEAD", 0x11018, [(64, 0x20)], 0x0, 0x0, 0x0, 0x0, 0x0, 0x0, 0x0, false, .operator, .operator⟩,
  ⟨"EQ_TAIL", 0x1101c, [(64, 0x20)], 0x0, 0x0, 0x0, 0x0, 0x0, 0x0, 0x0, false, .operator, .operator⟩,
  ⟨"INT_MASK_LO", 0x30000, [], 0xffffffff, 0x0, 0x0, 0x0, 0x0, 0x0, 0x0, false, .operator, .operator⟩,
  ⟨"INT_MASK_HI", 0x30004, [], 0xffffffff, 0x0, 0x0, 0x0, 0x0, 0x0, 0x0, false, .operator, .operator⟩,
  ⟨"INT_PEND_LO", 0x30008, [], 0x0, 0x0, 0x0, 0x0, 0x0, 0x0, 0x0, true, .operator, .operator⟩,
  ⟨"INT_PEND_HI", 0x3000c, [], 0x0, 0x0, 0x0, 0x0, 0x0, 0x0, 0x0, true, .operator, .operator⟩,
  ⟨"INT_CTL", 0x30010, [], 0x3f, 0x0, 0x0, 0x0, 0x0, 0x0, 0x0, false, .operator, .operator⟩,
  ⟨"INT_STAT", 0x30014, [], 0x0, 0x0, 0x1, 0x0, 0x0, 0x0, 0x0, false, .operator, .operator⟩]

def regRows2 : List RegRow := [
  ⟨"RING_TMO", 0x30018, [], 0xffff, 0x0, 0x0, 0x0, 0x0, 0x0, 0x64, false, .operator, .operator⟩,
  ⟨"EVT_LOST", 0x3001c, [], 0x0, 0x0, 0x0, 0x0, 0x0, 0xffffffff, 0x0, false, .operator, .operator⟩,
  ⟨"RING_REJ", 0x30020, [], 0x0, 0x0, 0x0, 0x0, 0x0, 0x3fffff, 0x0, false, .operator, .operator⟩,
  ⟨"SQ_DB", 0x100000, [(64, 0x1000)], 0x0, 0x0, 0x0, 0x0, 0xffff, 0x0, 0x0, false, .byRule, .byRule⟩,
  ⟨"EQ_DB", 0x100004, [(64, 0x1000)], 0x0, 0x0, 0x0, 0x0, 0x1ffff, 0x0, 0x0, false, .byRule, .byRule⟩,
  ⟨"SQ_HEAD_M", 0x100008, [(64, 0x1000)], 0x0, 0x0, 0x0, 0x0, 0x0, 0x0, 0x0, false, .byRule, .operator⟩,
  ⟨"EQ_TAIL_M", 0x10000c, [(64, 0x1000)], 0x0, 0x0, 0x0, 0x0, 0x0, 0x0, 0x10000, false, .byRule, .operator⟩,
  ⟨"MBX_CH", 0x20000, [(32, 0x100)], 0x0, 0x0, 0x0, 0x0, 0x0, 0x0, 0x0, true, .byRule, .byRule⟩,
  ⟨"DB_PEND", 0x22000, [(53, 0x10)], 0x0, 0x0, 0xffffffff, 0x0, 0x0, 0x0, 0x0, true, .byRule, .byRule⟩,
  ⟨"DB_MASK", 0x22004, [(53, 0x10)], 0xffffffff, 0x0, 0x0, 0x0, 0x0, 0x0, 0xffffffff, true, .byRule, .byRule⟩,
  ⟨"DB_CFG", 0x22008, [(53, 0x10)], 0x7f, 0x0, 0x0, 0x0, 0x0, 0x0, 0x0, false, .byRule, .operator⟩,
  ⟨"MBX_REJ", 0x22c00, [], 0x0, 0x0, 0x0, 0x0, 0x0, 0x3fffff, 0x0, false, .operator, .operator⟩,
  ⟨"BIND", 0xf0000, [(32, 0x4)], 0x0, 0x13f3f, 0x0, 0x0, 0x0, 0x0, 0x0, false, .operator, .operator⟩,
  ⟨"BIND_CTL", 0xf0100, [], 0x0, 0x0, 0x0, 0x1, 0x0, 0x0, 0x0, true, .operator, .operator⟩,
  ⟨"BIND_STAT", 0xf0104, [], 0x0, 0x0, 0x2, 0x0, 0x0, 0x0, 0x0, true, .operator, .operator⟩,
  ⟨"TIME_CTL", 0x40000, [], 0x0, 0x0, 0x0, 0x3, 0x0, 0x0, 0x0, true, .operator, .operator⟩,
  ⟨"TIME_STAT", 0x40004, [], 0x0, 0x0, 0x18, 0x0, 0x0, 0x0, 0x0, false, .open_, .operator⟩,
  ⟨"TIME_INC_LO", 0x40008, [], 0x0, 0xffffffff, 0x0, 0x0, 0x0, 0x0, 0x0, false, .operator, .operator⟩,
  ⟨"TIME_INC_HI", 0x4000c, [], 0x0, 0xffffffff, 0x0, 0x0, 0x0, 0x0, 0x1, false, .operator, .operator⟩,
  ⟨"TS_LO", 0x40010, [], 0x0, 0x0, 0x0, 0x0, 0x0, 0x0, 0x0, false, .open_, .operator⟩,
  ⟨"TS_HI", 0x40014, [], 0x0, 0x0, 0x0, 0x0, 0x0, 0x0, 0x0, false, .open_, .operator⟩,
  ⟨"GATHER_CTL", 0x40020, [], 0xffff, 0x0, 0x0, 0x0, 0x0, 0x0, 0x0, false, .operator, .operator⟩,
  ⟨"GATHER_STAT", 0x40024, [], 0x0, 0x0, 0x0, 0x0, 0x0, 0x0, 0x0, false, .operator, .operator⟩,
  ⟨"GATHER_BUDGET", 0x40028, [], 0xffff, 0x0, 0x0, 0x0, 0x0, 0x0, 0x61a8, false, .operator, .operator⟩]

def regRows3 : List RegRow := [
  ⟨"GATHER_IGN", 0x4002c, [], 0x0, 0x0, 0x0, 0x0, 0x0, 0xffff, 0x0, false, .operator, .operator⟩,
  ⟨"OFFSET_ENT", 0x41000, [(256, 0x20), (8, 0x4)], 0x0, 0x0, 0x0, 0x0, 0x0, 0x0, 0x0, false, .operator, .operator⟩,
  ⟨"CANE_CTL", 0x50000, [], 0x1, 0x0, 0x0, 0xffff0002, 0x0, 0x0, 0x0, true, .operator, .operator⟩,
  ⟨"CANE_STAT", 0x50004, [], 0x0, 0x0, 0x4, 0x0, 0x0, 0x0, 0x0, true, .operator, .operator⟩,
  ⟨"CANE_FRAME_LO", 0x50008, [], 0x0, 0x0, 0x0, 0x0, 0x0, 0x0, 0x0, false, .operator, .operator⟩,
  ⟨"CANE_FRAME_HI", 0x5000c, [], 0x0, 0x0, 0x0, 0x0, 0x0, 0x0, 0x0, false, .operator, .operator⟩,
  ⟨"ISO_STAT", 0x50010, [], 0x0, 0x0, 0x0, 0x0, 0x0, 0x0, 0x0, false, .operator, .operator⟩,
  ⟨"CANE_ERR_LIM", 0x50014, [], 0xf, 0x0, 0x0, 0x0, 0x0, 0x0, 0x4, false, .operator, .operator⟩,
  ⟨"CANE_RIB_STAT", 0x50040, [(16, 0x4)], 0x0, 0x0, 0x0, 0x0, 0x0, 0x0, 0x0, true, .operator, .operator⟩,
  ⟨"CANE_RIB_ERR", 0x50080, [(16, 0x4)], 0x0, 0x0, 0x0, 0x0, 0x0, 0xffffffff, 0x0, false, .operator, .operator⟩,
  ⟨"SLOT_CTL", 0x50100, [], 0x0, 0x0, 0x0, 0x3, 0x0, 0x0, 0x0, true, .operator, .operator⟩,
  ⟨"SLOT_STAT", 0x50104, [], 0x0, 0x0, 0x0, 0x0, 0x0, 0x0, 0x0, false, .operator, .operator⟩,
  ⟨"SLOT_WPTR", 0x50108, [], 0x0, 0x0, 0x0, 0x0, 0x0, 0x0, 0x0, false, .operator, .operator⟩,
  ⟨"SLOT_DATA", 0x5010c, [], 0x0, 0x0, 0x0, 0x0, 0xffffffff, 0x0, 0x0, false, .operator, .operator⟩,
  ⟨"SLOT_INFO", 0x50110, [], 0x0, 0x0, 0x0, 0x0, 0x0, 0x0, 0x0, false, .operator, .operator⟩,
  ⟨"SLOT_MISMATCH", 0x50114, [], 0x0, 0x0, 0x0, 0x0, 0x0, 0x0, 0x0, true, .operator, .operator⟩,
  ⟨"SLOT_CRC", 0x50118, [], 0x0, 0x0, 0x0, 0x0, 0x0, 0x0, 0x0, false, .operator, .operator⟩,
  ⟨"SLOT_BUILD_LO", 0x50120, [], 0x0, 0x0, 0x0, 0x0, 0x0, 0x0, 0x0, false, .operator, .operator⟩,
  ⟨"SLOT_BUILD_HI", 0x50124, [], 0x0, 0x0, 0x0, 0x0, 0x0, 0x0, 0x0, false, .operator, .operator⟩,
  ⟨"SHEAR_CTL", 0x51000, [], 0xf, 0x0, 0x0, 0x0, 0x0, 0x0, 0x0, true, .operator, .operator⟩,
  ⟨"SHEAR_STAT", 0x51004, [], 0x0, 0x0, 0x78, 0x0, 0x0, 0x0, 0x0, true, .operator, .operator⟩,
  ⟨"SHEAR_TICK_LO", 0x51008, [], 0x0, 0x0, 0x0, 0x0, 0x0, 0x0, 0x0, false, .operator, .operator⟩,
  ⟨"SHEAR_TICK_HI", 0x5100c, [], 0x0, 0x0, 0x0, 0x0, 0x0, 0x0, 0x0, false, .operator, .operator⟩,
  ⟨"SHEAR_LAST", 0x51010, [], 0x0, 0x0, 0x0, 0x0, 0x0, 0x0, 0x0, true, .operator, .operator⟩]

def regRows4 : List RegRow := [
  ⟨"SHEAR_COUNT", 0x51014, [], 0x0, 0x0, 0x0, 0x0, 0x0, 0x0, 0x0, false, .operator, .operator⟩,
  ⟨"SHEAR_TIMING", 0x51018, [], 0x0, 0x0, 0x0, 0x0, 0x0, 0x0, 0x0, false, .operator, .operator⟩,
  ⟨"SHEAR_TRIG", 0x5101c, [], 0x0, 0x0, 0x0, 0x0, 0x7, 0x0, 0x0, false, .operator, .operator⟩,
  ⟨"SHEAR_ERR", 0x51020, [], 0x0, 0x0, 0x0, 0x0, 0x0, 0xffffffff, 0x0, true, .operator, .operator⟩,
  ⟨"SHEAR_RESUME_LO", 0x51028, [], 0x0, 0x0, 0x0, 0x0, 0x0, 0x0, 0x0, false, .operator, .operator⟩,
  ⟨"SHEAR_RESUME_HI", 0x5102c, [], 0x0, 0x0, 0x0, 0x0, 0x0, 0x0, 0x0, false, .operator, .operator⟩,
  ⟨"CULLET_CTL", 0x52000, [], 0x7, 0x0, 0x0, 0x0, 0x0, 0x0, 0x0, false, .operator, .operator⟩,
  ⟨"CULLET_READ", 0x52004, [], 0x0, 0x0, 0x0, 0x0, 0x7f, 0x0, 0x0, false, .operator, .operator⟩,
  ⟨"CULLET_STAT", 0x52008, [], 0x0, 0x0, 0xe0, 0x0, 0x0, 0x0, 0x0, false, .operator, .operator⟩,
  ⟨"CULLET_BUDGET", 0x5200c, [], 0xffff, 0x0, 0x0, 0x0, 0x0, 0x0, 0x64, false, .operator, .operator⟩,
  ⟨"CULLET_TRANSIT", 0x52010, [], 0xffffffff, 0x0, 0x0, 0x0, 0x0, 0x0, 0x0, false, .operator, .operator⟩,
  ⟨"CULLET_APT", 0x52014, [], 0x1ff, 0x0, 0x0, 0x0, 0x0, 0x0, 0x0, false, .operator, .operator⟩,
  ⟨"CULLET_SPILL_LO", 0x52018, [], 0xffffffff, 0x0, 0x0, 0x0, 0x0, 0x0, 0x0, false, .operator, .operator⟩,
  ⟨"CULLET_SPILL_HI", 0x5201c, [], 0xffffffff, 0x0, 0x0, 0x0, 0x0, 0x0, 0x0, false, .operator, .operator⟩,
  ⟨"CULLET_SPILL_LEN", 0x52020, [], 0xffff, 0x0, 0x0, 0x0, 0x0, 0x0, 0x0, false, .operator, .operator⟩,
  ⟨"CULLET_FREE", 0x52024, [], 0x0, 0x0, 0x0, 0x0, 0x0, 0x0, 0x200000, false, .operator, .operator⟩,
  ⟨"CULLET_DIR", 0x52100, [(8, 0x40), (16, 0x4)], 0x0, 0x0, 0x0, 0x0, 0x0, 0x0, 0x0, false, .operator, .operator⟩,
  ⟨"CULLET_APERTURE", 0x53000, [(1024, 0x4)], 0x0, 0x0, 0x0, 0x0, 0x0, 0x0, 0x0, false, .operator, .operator⟩,
  ⟨"TRC_CTL", 0x60000, [], 0x3fff, 0x0, 0x0, 0xc000, 0x0, 0x0, 0x90, false, .operator, .byRule⟩,
  ⟨"TRC_STAT", 0x60004, [], 0x0, 0x0, 0x38, 0x0, 0x0, 0x0, 0x0, false, .operator, .operator⟩,
  ⟨"TRC_CAP", 0x60008, [], 0x0, 0x0, 0x0, 0x0, 0x0, 0x0, 0x8, false, .operator, .operator⟩,
  ⟨"TRC_QUOTA", 0x6000c, [], 0xfff, 0x0, 0x0, 0x0, 0x0, 0x0, 0x100, false, .operator, .byRule⟩,
  ⟨"TRC_WR", 0x60010, [], 0x0, 0x0, 0x0, 0x0, 0x0, 0x0, 0x0, false, .operator, .operator⟩,
  ⟨"TRC_OLD", 0x60014, [], 0x0, 0x0, 0x0, 0x0, 0x0, 0x0, 0x0, false, .operator, .operator⟩]

def regRows5 : List RegRow := [
  ⟨"TRC_RD", 0x60018, [], 0xffffffff, 0x0, 0x0, 0x0, 0x0, 0x0, 0x0, false, .operator, .byRule⟩,
  ⟨"TRC_TRIG_POS", 0x6001c, [], 0x0, 0x0, 0x0, 0x0, 0x0, 0x0, 0x0, false, .operator, .operator⟩,
  ⟨"TRC_TRIG_TS_LO", 0x60020, [], 0x0, 0x0, 0x0, 0x0, 0x0, 0x0, 0x0, false, .operator, .operator⟩,
  ⟨"TRC_TRIG_TS_HI", 0x60024, [], 0x0, 0x0, 0x0, 0x0, 0x0, 0x0, 0x0, false, .operator, .operator⟩,
  ⟨"TRC_DROP", 0x60028, [], 0x0, 0x0, 0x0, 0x0, 0x0, 0xffffffff, 0x0, false, .operator, .operator⟩,
  ⟨"TRC_GAPS", 0x6002c, [], 0x0, 0x0, 0x0, 0x0, 0x0, 0xffffffff, 0x0, false, .operator, .operator⟩,
  ⟨"TRC_OWNER", 0x60030, [], 0x0, 0x0, 0x0, 0x0, 0x0, 0x0, 0x3f, false, .operator, .operator⟩,
  ⟨"TRC_LL", 0x60034, [], 0x3f3f, 0x0, 0x0, 0x0, 0x0, 0x0, 0x818, false, .operator, .byRule⟩,
  ⟨"SEQ_CTL", 0x60040, [], 0x3, 0x0, 0x0, 0x0, 0x0, 0x0, 0x0, false, .operator, .byRule⟩,
  ⟨"SEQ_STAT", 0x60044, [], 0x0, 0x0, 0x0, 0x0, 0x0, 0x0, 0x0, false, .operator, .operator⟩,
  ⟨"SEQ_COUNT", 0x60048, [], 0x0, 0x0, 0x0, 0x0, 0x0, 0x0, 0x0, false, .operator, .operator⟩,
  ⟨"SEQ_LIMIT", 0x6004c, [], 0xffffffff, 0x0, 0x0, 0x0, 0x0, 0x0, 0x0, false, .operator, .byRule⟩,
  ⟨"TRC_SEL", 0x60300, [], 0x3ff, 0x0, 0x0, 0x0, 0x0, 0x0, 0x0, false, .operator, .byRule⟩,
  ⟨"SEQ_RULE", 0x60060, [(4, 0x8), (2, 0x4)], 0x1ffff, 0x0, 0x0, 0x0, 0x0, 0x0, 0x0, false, .operator, .byRule⟩,
  ⟨"TRC_CTX_EN", 0x60080, [(8, 0x4)], 0xffffffff, 0x0, 0x0, 0x0, 0x0, 0x0, 0x0, false, .operator, .byRule⟩,
  ⟨"TRC_CMP_CTL", 0x60100, [(8, 0x20)], 0x1fffffff, 0x0, 0x0, 0x0, 0x0, 0x0, 0x0, false, .operator, .byRule⟩,
  ⟨"TRC_CMP_MATCH", 0x60104, [(8, 0x20)], 0xffffffff, 0x0, 0x0, 0x0, 0x0, 0x0, 0x0, false, .operator, .byRule⟩,
  ⟨"TRC_CMP_MASK", 0x60108, [(8, 0x20)], 0xffffffff, 0x0, 0x0, 0x0, 0x0, 0x0, 0x0, false, .operator, .byRule⟩,
  ⟨"TRC_CMP_PORTS", 0x6010c, [(8, 0x20)], 0xffff, 0x0, 0x0, 0x0, 0x0, 0x0, 0x0, false, .operator, .byRule⟩,
  ⟨"TRC_CMP_VAL_LO", 0x60110, [(8, 0x20)], 0xffffffff, 0x0, 0x0, 0x0, 0x0, 0x0, 0x0, false, .operator, .byRule⟩,
  ⟨"TRC_CMP_VAL_HI", 0x60114, [(8, 0x20)], 0xffffffff, 0x0, 0x0, 0x0, 0x0, 0x0, 0x0, false, .operator, .byRule⟩,
  ⟨"TRC_CMP_VMASK_LO", 0x60118, [(8, 0x20)], 0xffffffff, 0x0, 0x0, 0x0, 0x0, 0x0, 0x0, false, .operator, .byRule⟩,
  ⟨"TRC_CMP_VMASK_HI", 0x6011c, [(8, 0x20)], 0xffffffff, 0x0, 0x0, 0x0, 0x0, 0x0, 0x0, false, .operator, .byRule⟩,
  ⟨"STIM", 0x60200, [(32, 0x4)], 0x0, 0x0, 0x0, 0x0, 0xffffffff, 0x0, 0x0, false, .operator, .byRule⟩]

def regRows6 : List RegRow := [
  ⟨"TRC_PORT", 0x60340, [(16, 0x4)], 0x1f, 0x0, 0x0, 0x0, 0x0, 0x0, 0x0, false, .operator, .byRule⟩,
  ⟨"CTR_CTL", 0x70000, [], 0x1fff, 0x0, 0x0, 0x0, 0x0, 0x0, 0x1800, false, .operator, .operator⟩,
  ⟨"CTR_STAT", 0x70004, [], 0x0, 0x0, 0xe, 0x0, 0x0, 0x0, 0x0, false, .operator, .operator⟩,
  ⟨"CTR_BUDGET", 0x70008, [], 0xffff, 0x0, 0x0, 0x0, 0x0, 0x0, 0x32, false, .operator, .operator⟩,
  ⟨"ATTR_CTX_EN", 0x70020, [(8, 0x4)], 0xffffffff, 0x0, 0x0, 0x0, 0x0, 0x0, 0x0, false, .operator, .operator⟩,
  ⟨"STRIA_STAT", 0x80000, [], 0x0, 0x0, 0x0, 0x0, 0x0, 0x0, 0x20000000, false, .operator, .operator⟩,
  ⟨"STRIA_BUDGET", 0x80004, [], 0xffff, 0x0, 0x0, 0x0, 0x0, 0x0, 0x64, false, .operator, .operator⟩,
  ⟨"STRIA_DEFER", 0x80008, [], 0x0, 0x0, 0x0, 0x0, 0x0, 0xffff, 0x0, false, .operator, .operator⟩,
  ⟨"STRIA_CFG", 0x81000, [(64, 0x20)], 0x0, 0x0, 0x0, 0x0, 0x0, 0x0, 0x0, false, .byRule, .operator⟩,
  ⟨"STRIA_SEL", 0x81004, [(64, 0x20)], 0x0, 0x0, 0x0, 0x0, 0x0, 0x0, 0x0, false, .byRule, .operator⟩,
  ⟨"STRIA_LAYER", 0x81008, [(64, 0x20)], 0x0, 0x0, 0x0, 0x0, 0x0, 0x0, 0x0, false, .byRule, .operator⟩,
  ⟨"STRIA_OP", 0x8100c, [(64, 0x20)], 0x0, 0x0, 0x0, 0x0, 0x0, 0x0, 0x0, false, .byRule, .operator⟩,
  ⟨"STRIA_HIST", 0x81010, [(64, 0x20)], 0x0, 0x0, 0x0, 0x0, 0x0, 0x0, 0x0, false, .byRule, .operator⟩,
  ⟨"STRIA_STORE", 0x81014, [(64, 0x20)], 0x0, 0x0, 0x0, 0x0, 0x0, 0x0, 0x0, false, .byRule, .operator⟩,
  ⟨"STRIA_SSTAT", 0x81018, [(64, 0x20)], 0x0, 0x0, 0x0, 0x0, 0x0, 0x0, 0x3f, false, .byRule, .operator⟩,
  ⟨"STRIA_SKIPS", 0x8101c, [(64, 0x20)], 0x0, 0x0, 0x0, 0x0, 0x0, 0xffffffff, 0x0, false, .byRule, .operator⟩,
  ⟨"DL_CTL", 0x90000, [], 0x3f, 0x0, 0x0, 0x0, 0x0, 0x0, 0x0, false, .operator, .operator⟩,
  ⟨"DL_STAT", 0x90004, [], 0x0, 0x0, 0xf, 0x0, 0x0, 0x0, 0x0, false, .operator, .operator⟩,
  ⟨"FLT_WAIT", 0x90008, [], 0xffff, 0x0, 0x0, 0x0, 0x0, 0x0, 0xc8, false, .operator, .operator⟩,
  ⟨"DL_GRACE", 0x9000c, [], 0xffffffff, 0x0, 0x0, 0x0, 0x0, 0x0, 0x2710, false, .operator, .operator⟩,
  ⟨"FLT_NEXT", 0x90010, [], 0x0, 0x0, 0x0, 0x0, 0x0, 0x0, 0x0, false, .operator, .operator⟩,
  ⟨"FLT_DISC", 0x90014, [], 0x0, 0x0, 0x0, 0x0, 0x0, 0xffff, 0x0, false, .operator, .operator⟩,
  ⟨"DL_STN_SEL", 0x90018, [], 0x3ff, 0x0, 0x0, 0x0, 0x0, 0x0, 0x0, false, .operator, .operator⟩,
  ⟨"CTX_POL", 0x90100, [(32, 0x4)], 0xffffffff, 0x0, 0x0, 0x0, 0x0, 0x0, 0x0, false, .operator, .operator⟩]

def regRows7 : List RegRow := [
  ⟨"POLICY", 0x90200, [(16, 0x4)], 0x7f7f7f7f, 0x0, 0x0, 0x0, 0x0, 0x0, 0x0, false, .operator, .operator⟩,
  ⟨"CTX_EPOCH", 0x90400, [(64, 0x4)], 0x0, 0x0, 0x0, 0x0, 0x0, 0x0, 0x0, false, .operator, .operator⟩,
  ⟨"HB_CTL", 0x90600, [(32, 0x10)], 0xffffff, 0x0, 0x0, 0x0, 0x0, 0x0, 0x0, false, .operator, .operator⟩,
  ⟨"HB_PER", 0x90604, [(32, 0x10)], 0xffffffff, 0x0, 0x0, 0x0, 0x0, 0x0, 0x0, false, .operator, .operator⟩,
  ⟨"HB_LAST_LO", 0x90608, [(32, 0x10)], 0x0, 0x0, 0x0, 0x0, 0x0, 0x0, 0x0, false, .operator, .operator⟩,
  ⟨"HB_LAST_HI", 0x9060c, [(32, 0x10)], 0x0, 0x0, 0x0, 0x0, 0x0, 0x0, 0x0, false, .operator, .operator⟩,
  ⟨"BUD_ROW", 0x91000, [(32, 0x100)], 0x0, 0x0, 0x0, 0x0, 0x0, 0x0, 0x0, false, .operator, .operator⟩,
  ⟨"BUD_LO", 0x91080, [(32, 0x100), (16, 0x8)], 0x0, 0x0, 0x0, 0x0, 0x0, 0x0, 0x0, false, .operator, .operator⟩,
  ⟨"BUD_HI", 0x91084, [(32, 0x100), (16, 0x8)], 0x0, 0x0, 0x0, 0x0, 0x0, 0x0, 0x0, false, .operator, .operator⟩,
  ⟨"FLT_LOG", 0x94000, [(256, 0x40), (16, 0x4)], 0x0, 0x0, 0x0, 0x0, 0x0, 0x0, 0x0, false, .operator, .operator⟩,
  ⟨"LEHR_CTL", 0xa0000, [], 0x3fffff, 0x0, 0x0, 0x0, 0x0, 0x0, 0x210005, false, .operator, .operator⟩,
  ⟨"LEHR_STAT", 0xa0004, [], 0x0, 0x0, 0x1c00, 0x0, 0x0, 0x0, 0x0, false, .operator, .operator⟩,
  ⟨"LEHR_START", 0xa0008, [], 0x0, 0x0, 0x0, 0x0, 0x1ffff, 0x0, 0x0, false, .operator, .operator⟩,
  ⟨"LEHR_ABORT", 0xa000c, [], 0x0, 0x0, 0x0, 0x0, 0x1, 0x0, 0x0, false, .operator, .operator⟩,
  ⟨"LEHR_SCOPE", 0xa0010, [], 0xffff, 0x0, 0x0, 0x0, 0x0, 0x0, 0xffff, false, .operator, .operator⟩,
  ⟨"LEHR_NUM", 0xa0014, [], 0x0, 0x0, 0x0, 0x0, 0x0, 0x0, 0x0, false, .operator, .operator⟩,
  ⟨"LEHR_BUD_P1", 0xa0018, [], 0xffffff, 0x0, 0x0, 0x0, 0x0, 0x0, 0x3c, false, .operator, .operator⟩,
  ⟨"LEHR_BUD_P2", 0xa001c, [], 0xffffff, 0x0, 0x0, 0x0, 0x0, 0x0, 0xc8, false, .operator, .operator⟩,
  ⟨"LEHR_BUD_P3", 0xa0020, [], 0xffffff, 0x0, 0x0, 0x0, 0x0, 0x0, 0x2ee0, false, .operator, .operator⟩,
  ⟨"LEHR_BUD_TOTAL", 0xa0024, [], 0xffffff, 0x0, 0x0, 0x0, 0x0, 0x0, 0x4e20, false, .operator, .operator⟩,
  ⟨"LEHR_SEAL_RES", 0xa0028, [], 0xffffff, 0x0, 0x0, 0x0, 0x0, 0x0, 0x3e8, false, .operator, .operator⟩,
  ⟨"LEHR_TMO", 0xa002c, [], 0xffffffff, 0x0, 0x0, 0x0, 0x0, 0x0, 0x64000a, false, .operator, .operator⟩,
  ⟨"LEHR_CTXWIN", 0xa0030, [], 0xff7ffff, 0x0, 0x0, 0x0, 0x0, 0x0, 0x1000000, false, .operator, .operator⟩,
  ⟨"LEHR_KEEP_APT", 0xa0034, [], 0x3f, 0x0, 0x0, 0x0, 0x0, 0x0, 0x0, false, .operator, .operator⟩]

def regRows8 : List RegRow := [
  ⟨"LEHR_LAST_START_LO", 0xa0040, [], 0x0, 0x0, 0x0, 0x0, 0x0, 0x0, 0x0, false, .operator, .operator⟩,
  ⟨"LEHR_LAST_START_HI", 0xa0044, [], 0x0, 0x0, 0x0, 0x0, 0x0, 0x0, 0x0, false, .operator, .operator⟩,
  ⟨"LEHR_LAST_SEAL_LO", 0xa0048, [], 0x0, 0x0, 0x0, 0x0, 0x0, 0x0, 0x0, false, .operator, .operator⟩,
  ⟨"LEHR_LAST_SEAL_HI", 0xa004c, [], 0x0, 0x0, 0x0, 0x0, 0x0, 0x0, 0x0, false, .operator, .operator⟩,
  ⟨"LEHR_LAST_BYTES_LO", 0xa0050, [], 0x0, 0x0, 0x0, 0x0, 0x0, 0x0, 0x0, false, .operator, .operator⟩,
  ⟨"LEHR_LAST_BYTES_HI", 0xa0054, [], 0x0, 0x0, 0x0, 0x0, 0x0, 0x0, 0x0, false, .operator, .operator⟩,
  ⟨"LEHR_LAST_STATUS", 0xa0058, [], 0x0, 0x0, 0x0, 0x0, 0x0, 0x0, 0x0, false, .operator, .operator⟩,
  ⟨"LEHR_DEST_CFG", 0xa0100, [(4, 0x10)], 0x7, 0x0, 0x18, 0x0, 0x0, 0x0, 0x0, false, .operator, .operator⟩,
  ⟨"LEHR_DEST_ADDR_LO", 0xa0104, [(4, 0x10)], 0xffffffff, 0x0, 0x0, 0x0, 0x0, 0x0, 0x0, false, .operator, .operator⟩,
  ⟨"LEHR_DEST_ADDR_HI", 0xa0108, [(4, 0x10)], 0xffffffff, 0x0, 0x0, 0x0, 0x0, 0x0, 0x0, false, .operator, .operator⟩,
  ⟨"LEHR_DEST_SIZE", 0xa010c, [(4, 0x10)], 0xffff, 0x0, 0x0, 0x0, 0x0, 0x0, 0x0, false, .operator, .operator⟩,
  ⟨"LEHR_PLAN_CFG", 0xa0400, [(6, 0x80)], 0x1f, 0x0, 0x0, 0x0, 0x0, 0x0, 0x0, false, .operator, .operator⟩,
  ⟨"LEHR_PLAN_BASE_LO", 0xa0404, [(6, 0x80)], 0xffffffff, 0x0, 0x0, 0x0, 0x0, 0x0, 0x0, false, .operator, .operator⟩,
  ⟨"LEHR_PLAN_BASE_HI", 0xa0408, [(6, 0x80)], 0xffffffff, 0x0, 0x0, 0x0, 0x0, 0x0, 0x0, false, .operator, .operator⟩,
  ⟨"LEHR_PLAN_STRIDE", 0xa040c, [(6, 0x80)], 0xffffffff, 0x0, 0x0, 0x0, 0x0, 0x0, 0x0, false, .operator, .operator⟩,
  ⟨"LEHR_PLAN_OFF", 0xa0410, [(6, 0x80), (8, 0x8)], 0xffffffff, 0x0, 0x0, 0x0, 0x0, 0x0, 0x0, false, .operator, .operator⟩,
  ⟨"LEHR_PLAN_LEN", 0xa0414, [(6, 0x80), (8, 0x8)], 0xffffffff, 0x0, 0x0, 0x0, 0x0, 0x0, 0x0, false, .operator, .operator⟩,
  ⟨"KEEP_APERTURE", 0xa9000, [(1024, 0x4)], 0x0, 0x0, 0x0, 0x0, 0x0, 0x0, 0x0, false, .operator, .operator⟩,
  ⟨"RST_CTL", 0xb0000, [], 0x1fc, 0x1, 0x0, 0x2, 0x0, 0x0, 0x4, false, .operator, .operator⟩,
  ⟨"RST_STAT", 0xb0004, [], 0x0, 0x0, 0x1e00, 0x0, 0x0, 0x0, 0x80, false, .operator, .operator⟩,
  ⟨"RST_REQ", 0xb0008, [], 0x0, 0x0, 0x0, 0x0, 0x1fffff, 0x0, 0x0, false, .operator, .operator⟩,
  ⟨"RST_BUD_ENGINE", 0xb000c, [], 0xffffff, 0x0, 0x0, 0x0, 0x0, 0x0, 0x64, false, .operator, .operator⟩,
  ⟨"RST_BUD_PART", 0xb0010, [], 0xffffff, 0x0, 0x0, 0x0, 0x0, 0x0, 0x7d0, false, .operator, .operator⟩,
  ⟨"RST_BUD_COMPUTE", 0xb0014, [], 0xffffff, 0x0, 0x0, 0x0, 0x0, 0x0, 0x4e20, false, .operator, .operator⟩]

def regRows9 : List RegRow := [
  ⟨"RST_DISC_LO", 0xb0018, [], 0xffffffff, 0x0, 0x0, 0x0, 0x0, 0x0, 0x0, false, .operator, .operator⟩,
  ⟨"RST_DISC_HI", 0xb001c, [], 0xffffffff, 0x0, 0x0, 0x0, 0x0, 0x0, 0x0, false, .operator, .operator⟩,
  ⟨"RST_DISC_LEN", 0xb0020, [], 0xffff, 0x0, 0x0, 0x0, 0x0, 0x0, 0x0, false, .operator, .operator⟩,
  ⟨"RST_COLLECT", 0xb0024, [], 0xffffff, 0x0, 0x0, 0x0, 0x0, 0x0, 0xc350, false, .operator, .operator⟩,
  ⟨"RST_NUM", 0xb0028, [], 0x0, 0x0, 0x0, 0x0, 0x0, 0x0, 0x0, false, .operator, .operator⟩,
  ⟨"RST_STN_SEL", 0xb002c, [], 0x3ff, 0x0, 0x0, 0x0, 0x0, 0x0, 0x0, false, .operator, .operator⟩,
  ⟨"NOTICE_CTL", 0xb0030, [], 0x7fffffff, 0x0, 0x0, 0x0, 0x0, 0x0, 0x100640a, false, .operator, .operator⟩,
  ⟨"NOTICE_STAT", 0xb0034, [], 0x0, 0x0, 0x20, 0x0, 0x0, 0x0, 0x10, false, .operator, .operator⟩,
  ⟨"NOTICE_CNT", 0xb0038, [], 0x0, 0x0, 0x0, 0x0, 0x0, 0xffffffff, 0x0, false, .operator, .operator⟩,
  ⟨"REHEAT_MARK", 0xb0040, [], 0x0, 0x0, 0x0, 0x0, 0x7, 0x0, 0x0, false, .operator, .byRule⟩,
  ⟨"RHT_STAT", 0xb0044, [], 0x0, 0x0, 0x0, 0x0, 0x0, 0x0, 0x0, false, .operator, .operator⟩,
  ⟨"RHT_TS_LO", 0xb0080, [(8, 0x8)], 0x0, 0x0, 0x0, 0x0, 0x0, 0x0, 0x0, false, .operator, .operator⟩,
  ⟨"RHT_TS_HI", 0xb0084, [(8, 0x8)], 0x0, 0x0, 0x0, 0x0, 0x0, 0x0, 0x0, false, .operator, .operator⟩,
  ⟨"RHT_BUD", 0xb00c0, [(4, 0x4)], 0xffff, 0x0, 0x0, 0x0, 0x0, 0x0, 0x0, false, .operator, .operator⟩,
  ⟨"NOTICE_LOG", 0xb1000, [(64, 0x40), (16, 0x4)], 0x0, 0x0, 0x0, 0x0, 0x0, 0x0, 0x0, false, .operator, .operator⟩,
  ⟨"CONT_CTL", 0xc0000, [], 0xff, 0x0, 0x0, 0x0, 0x0, 0x0, 0x0, false, .operator, .operator⟩,
  ⟨"CONT_STAT", 0xc0004, [], 0x0, 0x0, 0xc0, 0x0, 0x0, 0x0, 0x0, false, .operator, .operator⟩,
  ⟨"LEDGER_BASE_LO", 0xc0008, [], 0xffffffff, 0x0, 0x0, 0x0, 0x0, 0x0, 0x0, false, .operator, .operator⟩,
  ⟨"LEDGER_BASE_HI", 0xc000c, [], 0xffffffff, 0x0, 0x0, 0x0, 0x0, 0x0, 0x0, false, .operator, .operator⟩,
  ⟨"LEDGER_NEXT", 0xc0010, [], 0x0, 0x0, 0x0, 0x0, 0x0, 0x0, 0x0, false, .operator, .operator⟩,
  ⟨"CONT_BUD_REC", 0xc0014, [], 0xffffff, 0x0, 0x0, 0x0, 0x0, 0x0, 0x1388, false, .operator, .operator⟩,
  ⟨"CONT_BUD_CHK", 0xc0018, [], 0xffffff, 0x0, 0x0, 0x0, 0x0, 0x0, 0x4e20, false, .operator, .operator⟩,
  ⟨"CONT_BUD_MV", 0xc001c, [], 0xffffff, 0x0, 0x0, 0x0, 0x0, 0x0, 0x7d0, false, .operator, .operator⟩,
  ⟨"CONT_BUD_COPY", 0xc0020, [], 0xffffff, 0x0, 0x0, 0x0, 0x0, 0x0, 0xea60, false, .operator, .operator⟩]

def regRows10 : List RegRow := [
  ⟨"CONT_TMO", 0xc0024, [], 0xffffffff, 0x0, 0x0, 0x0, 0x0, 0x0, 0x64000a, false, .operator, .operator⟩,
  ⟨"MV_RX_BASE_LO", 0xc0028, [], 0xffffffff, 0x0, 0x0, 0x0, 0x0, 0x0, 0x0, false, .operator, .operator⟩,
  ⟨"MV_RX_BASE_HI", 0xc002c, [], 0xffffffff, 0x0, 0x0, 0x0, 0x0, 0x0, 0x0, false, .operator, .operator⟩,
  ⟨"MV_RX_LEN", 0xc0030, [], 0xffffffff, 0x0, 0x0, 0x0, 0x0, 0x0, 0x0, false, .operator, .operator⟩,
  ⟨"CONT_ABORT", 0xc0034, [], 0x0, 0x0, 0x0, 0x0, 0x1, 0x0, 0x0, false, .operator, .operator⟩,
  ⟨"MAP_CRC", 0xc0038, [], 0x0, 0x0, 0x0, 0x0, 0x0, 0x0, 0x4bd64db8, false, .operator, .operator⟩,
  ⟨"STREAM_MAP", 0xc0100, [(64, 0x4)], 0x3ffff, 0x0, 0x0, 0x0, 0x0, 0x0, 0x0, false, .operator, .operator⟩,
  ⟨"GAF_CTL", 0xd0000, [], 0x3, 0x0, 0x0, 0x0, 0x0, 0x0, 0x0, false, .operator, .operator⟩,
  ⟨"GAF_STAT", 0xd0004, [], 0x0, 0x0, 0x0, 0x0, 0x0, 0x0, 0x0, false, .operator, .operator⟩,
  ⟨"GAF_FW_VER", 0xd0008, [], 0x0, 0x0, 0x0, 0x0, 0x0, 0x0, 0x3201, false, .operator, .operator⟩,
  ⟨"GAF_WDT_PER", 0xd0010, [], 0xffffffff, 0x0, 0x0, 0x0, 0x0, 0x0, 0x27102710, false, .operator, .custodian⟩,
  ⟨"GAF_WDT_STAT", 0xd0014, [], 0x0, 0x0, 0x0, 0x0, 0x0, 0x0, 0x0, false, .operator, .operator⟩,
  ⟨"GAF_MEM_ADDR", 0xd0080, [], 0xffffffff, 0x0, 0x0, 0x0, 0x0, 0x0, 0x0, true, .custodian, .custodian⟩,
  ⟨"GAF_MEM_DATA", 0xd0084, [], 0xffffffff, 0x0, 0x0, 0x0, 0x0, 0x0, 0x0, true, .custodian, .custodian⟩,
  ⟨"GAF_PATCH_CTL", 0xd0090, [], 0x0, 0x0, 0x0, 0x3, 0x0, 0x0, 0x0, false, .operator, .custodian⟩,
  ⟨"GAF_PATCH_STAT", 0xd0094, [], 0x0, 0x0, 0x10, 0x0, 0x0, 0x0, 0x0, false, .operator, .custodian⟩,
  ⟨"GAF_BLOB_DATA", 0xd0098, [], 0x0, 0x0, 0x0, 0x0, 0xffffffff, 0x0, 0x0, false, .operator, .custodian⟩,
  ⟨"GAF_BLOB_WPTR", 0xd009c, [], 0x0, 0x0, 0x0, 0x0, 0x0, 0x0, 0x0, false, .operator, .custodian⟩,
  ⟨"GAF_DBG_CTL", 0xd0020, [(2, 0x20)], 0x0, 0x0, 0x0, 0x7, 0x0, 0x0, 0x0, true, .custodian, .custodian⟩,
  ⟨"GAF_DBG_STAT", 0xd0024, [(2, 0x20)], 0x0, 0x0, 0x200, 0x0, 0x0, 0x0, 0x0, true, .custodian, .custodian⟩,
  ⟨"GAF_DBG_SEL", 0xd0028, [(2, 0x20)], 0x3f, 0x0, 0x0, 0x0, 0x0, 0x0, 0x0, true, .custodian, .custodian⟩,
  ⟨"GAF_DBG_DATA", 0xd002c, [(2, 0x20)], 0xffffffff, 0x0, 0x0, 0x0, 0x0, 0x0, 0x0, true, .custodian, .custodian⟩,
  ⟨"GAF_PU_CFG", 0xd0100, [(16, 0x8)], 0x1ffff, 0x0, 0x0, 0x0, 0x0, 0x0, 0x0, false, .operator, .custodian⟩,
  ⟨"GAF_PU_CRC", 0xd0104, [(16, 0x8)], 0x0, 0x0, 0x0, 0x0, 0x0, 0x0, 0x0, false, .operator, .custodian⟩]

def regRows11 : List RegRow := [
  ⟨"PTB_CTL", 0xe0000, [], 0x7f, 0x0, 0x0, 0x0, 0x0, 0x0, 0x0, true, .operator, .custodian⟩,
  ⟨"PTB_STAT", 0xe0004, [], 0x0, 0x0, 0xc, 0x0, 0x0, 0x0, 0x2, true, .operator, .custodian⟩,
  ⟨"PTB_SLOT", 0xe0008, [], 0xfffff, 0x0, 0x0, 0x0, 0x0, 0x0, 0x0, true, .operator, .custodian⟩,
  ⟨"PTB_RING", 0xe000c, [], 0xf, 0x0, 0x0, 0x0, 0x0, 0x0, 0x0, true, .operator, .custodian⟩,
  ⟨"PTB_PORT", 0xe0010, [], 0x1ff, 0x0, 0x0, 0x0, 0x0, 0x0, 0x0, true, .operator, .custodian⟩,
  ⟨"PTB_MBX", 0xe0014, [], 0xffff, 0x0, 0x0, 0x0, 0x0, 0x0, 0x0, true, .operator, .custodian⟩,
  ⟨"PTB_BUDGET", 0xe0018, [], 0x7ff, 0x0, 0x0, 0x0, 0x0, 0x0, 0x10, true, .operator, .custodian⟩,
  ⟨"PTB_GATHER", 0xe001c, [], 0xffff, 0x0, 0x0, 0x0, 0x0, 0x0, 0x0, true, .operator, .custodian⟩,
  ⟨"PTB_FORCE_ARG", 0xe0020, [], 0x7fffff, 0x0, 0x0, 0x0, 0x0, 0x0, 0x0, true, .operator, .custodian⟩,
  ⟨"PTB_FORCE", 0xe0024, [], 0x0, 0x0, 0x0, 0x0, 0xffff, 0x0, 0x0, true, .operator, .custodian⟩,
  ⟨"STN_AO_LO", 0x200000, [(1024, 0x800), (16, 0x40), (8, 0x8)], 0x0, 0x0, 0x0, 0x0, 0x0, 0x0, 0x0, false, .operator, .operator⟩,
  ⟨"STN_AO_HI", 0x200004, [(1024, 0x800), (16, 0x40), (8, 0x8)], 0x0, 0x0, 0x0, 0x0, 0x0, 0x0, 0x0, false, .operator, .operator⟩,
  ⟨"STN_PC_LO", 0x200400, [(1024, 0x800), (16, 0x8)], 0x0, 0x0, 0x0, 0x0, 0x0, 0x0, 0x0, false, .operator, .operator⟩,
  ⟨"STN_PC_HI", 0x200404, [(1024, 0x800), (16, 0x8)], 0x0, 0x0, 0x0, 0x0, 0x0, 0x0, 0x0, false, .operator, .operator⟩,
  ⟨"STN_PC_CFG_LO", 0x200480, [(1024, 0x800), (16, 0x8)], 0x1fffffff, 0x0, 0x0, 0x0, 0x0, 0x0, 0x0, false, .operator, .operator⟩,
  ⟨"STN_PC_CFG_HI", 0x200484, [(1024, 0x800), (16, 0x8)], 0xff7f, 0x0, 0x0, 0x0, 0x0, 0x0, 0x3f0000, false, .operator, .operator⟩,
  ⟨"STN_ATTR_SEL", 0x200500, [(1024, 0x800)], 0x3f, 0x0, 0x0, 0x0, 0x0, 0x0, 0x0, false, .operator, .operator⟩,
  ⟨"STN_CTR_STAT", 0x200504, [(1024, 0x800)], 0x0, 0x0, 0x1, 0x0, 0x0, 0x0, 0x0, false, .operator, .operator⟩,
  ⟨"STN_CTR_WRAP", 0x200508, [(1024, 0x800)], 0x0, 0x0, 0x0, 0x0, 0x0, 0x0, 0x0, false, .operator, .operator⟩,
  ⟨"STN_ATTR_DATA", 0x200520, [(1024, 0x800), (8, 0x4)], 0x0, 0x0, 0x0, 0x0, 0x0, 0x0, 0x0, false, .operator, .operator⟩,
  ⟨"STN_BP_FEED", 0x2005a0, [(1024, 0x800), (8, 0x4)], 0xffffffff, 0x0, 0x0, 0x0, 0x0, 0x0, 0x0, false, .operator, .operator⟩,
  ⟨"STN_SH_CFG", 0x2005c0, [(1024, 0x800)], 0x0, 0x0, 0x0, 0x0, 0x0, 0x0, 0x0, false, .operator, .operator⟩,
  ⟨"STN_SH_STAT", 0x2005c4, [(1024, 0x800)], 0x0, 0x0, 0x6, 0x0, 0x0, 0x0, 0x0, false, .operator, .operator⟩,
  ⟨"STN_SH_PORT", 0x2005c8, [(1024, 0x800)], 0x0, 0x0, 0x0, 0x0, 0x0, 0x0, 0x0, false, .operator, .operator⟩]

def regRows12 : List RegRow := [
  ⟨"STN_SH_CTL", 0x2005cc, [(1024, 0x800)], 0xffff, 0x0, 0x0, 0x0, 0x0, 0x0, 0x0, false, .operator, .operator⟩,
  ⟨"STN_CUL_STAT", 0x2005d0, [(1024, 0x800)], 0x0, 0x0, 0x0, 0x0, 0x0, 0x0, 0x0, false, .operator, .operator⟩,
  ⟨"STN_CUL_RESTART", 0x2005d4, [(1024, 0x800)], 0x0, 0x0, 0x0, 0x0, 0x0, 0xffff, 0x0, false, .operator, .operator⟩,
  ⟨"STN_TRC_STAT", 0x2005d8, [(1024, 0x800)], 0x0, 0x0, 0x2, 0x0, 0x0, 0x0, 0x0, false, .operator, .operator⟩,
  ⟨"STN_TS_STAT", 0x2005ec, [(1024, 0x800)], 0x0, 0x0, 0x20000, 0x0, 0x0, 0x0, 0x0, false, .operator, .operator⟩,
  ⟨"STN_NET", 0x2005f0, [(1024, 0x800)], 0x0, 0x0, 0x0, 0x0, 0x0, 0x0, 0x0, false, .operator, .operator⟩,
  ⟨"STN_SLOT_CRC", 0x2005f8, [(1024, 0x800)], 0x0, 0x0, 0x0, 0x0, 0x0, 0x0, 0x0, false, .operator, .operator⟩,
  ⟨"STN_SLOT", 0x2005fc, [(1024, 0x800)], 0x0, 0x0, 0x0, 0x0, 0x0, 0x0, 0x0, false, .operator, .operator⟩,
  ⟨"STN_TRC_DROP", 0x2005dc, [(1024, 0x800)], 0x0, 0x0, 0x0, 0x0, 0x0, 0xffffffff, 0x0, false, .operator, .operator⟩,
  ⟨"STN_NET_ERR", 0x2005f4, [(1024, 0x800)], 0x0, 0x0, 0x0, 0x0, 0x0, 0xffffffff, 0x0, false, .operator, .operator⟩,
  ⟨"STN_TS_INC_LO", 0x2005e0, [(1024, 0x800)], 0x0, 0x0, 0x0, 0x0, 0x0, 0x0, 0x0, false, .operator, .operator⟩,
  ⟨"STN_TS_INC_HI", 0x2005e4, [(1024, 0x800)], 0x0, 0x0, 0x0, 0x0, 0x0, 0x0, 0x0, false, .operator, .operator⟩,
  ⟨"STN_TS_FRAC", 0x2005e8, [(1024, 0x800)], 0x0, 0x0, 0x0, 0x0, 0x0, 0x0, 0x0, false, .operator, .operator⟩,
  ⟨"DBG_CTL", 0x200600, [(1024, 0x800), (16, 0x20)], 0x7fffff, 0x0, 0x0, 0x0, 0x0, 0x0, 0x0, false, .operator, .operator⟩,
  ⟨"DBG_STAT", 0x200604, [(1024, 0x800), (16, 0x20)], 0x0, 0x0, 0x0, 0x0, 0x0, 0x0, 0x0, false, .operator, .operator⟩,
  ⟨"DBG_SEL", 0x200608, [(1024, 0x800), (16, 0x20)], 0x7, 0x0, 0x0, 0x0, 0x0, 0x0, 0x0, false, .operator, .operator⟩,
  ⟨"DBG_ADDR_LO", 0x20060c, [(1024, 0x800), (16, 0x20)], 0xffffffff, 0x0, 0x0, 0x0, 0x0, 0x0, 0x0, false, .operator, .operator⟩,
  ⟨"DBG_ADDR_HI", 0x200610, [(1024, 0x800), (16, 0x20)], 0xffffffff, 0x0, 0x0, 0x0, 0x0, 0x0, 0x0, false, .operator, .operator⟩,
  ⟨"DBG_CMD", 0x200618, [(1024, 0x800), (16, 0x20)], 0x0, 0x0, 0x0, 0x0, 0x3, 0x0, 0x0, false, .operator, .operator⟩,
  ⟨"STN_DL_STAT", 0x400000, [(1024, 0x800)], 0x0, 0x0, 0x1, 0x0, 0x0, 0x0, 0x0, false, .operator, .operator⟩,
  ⟨"STN_DL_CNT", 0x400004, [(1024, 0x800)], 0x0, 0x0, 0x0, 0x0, 0x0, 0xffffffff, 0x0, false, .operator, .operator⟩,
  ⟨"STN_FLT_LATCH_LO", 0x400008, [(1024, 0x800)], 0x0, 0x0, 0xffffffff, 0x0, 0x0, 0x0, 0x0, false, .operator, .operator⟩,
  ⟨"STN_FLT_LATCH_HI", 0x40000c, [(1024, 0x800)], 0x0, 0x0, 0xffffffff, 0x0, 0x0, 0x0, 0x0, false, .operator, .operator⟩,
  ⟨"STN_FLT_REPEAT_LO", 0x400010, [(1024, 0x800)], 0x0, 0x0, 0x0, 0x0, 0x0, 0xffffffff, 0x0, false, .operator, .operator⟩]

def regRows13 : List RegRow := [
  ⟨"STN_FLT_REPEAT_HI", 0x400014, [(1024, 0x800)], 0x0, 0x0, 0x0, 0x0, 0x0, 0xffffffff, 0x0, false, .operator, .operator⟩,
  ⟨"STN_FLT_OVF", 0x400018, [(1024, 0x800)], 0x0, 0x0, 0x0, 0x0, 0x0, 0x0, 0x0, false, .operator, .operator⟩,
  ⟨"STN_PW_SEL", 0x40001c, [(1024, 0x800)], 0xffffffff, 0x0, 0x0, 0x0, 0x0, 0x0, 0x0, false, .operator, .operator⟩,
  ⟨"STN_PW_PER", 0x400020, [(1024, 0x800), (3, 0x4)], 0xffffffff, 0x0, 0x0, 0x0, 0x0, 0x0, 0x0, false, .operator, .operator⟩,
  ⟨"STN_CTX_POL", 0x400040, [(1024, 0x800), (32, 0x4)], 0x0, 0x0, 0x0, 0x0, 0x0, 0x0, 0x0, false, .operator, .operator⟩,
  ⟨"STN_POL_CUT", 0x4000c0, [(1024, 0x800), (16, 0x4)], 0x0, 0x0, 0x0, 0x0, 0x0, 0x0, 0x0, false, .operator, .operator⟩,
  ⟨"STN_EPOCH", 0x400100, [(1024, 0x800), (64, 0x4)], 0x0, 0x0, 0x0, 0x0, 0x0, 0x0, 0x0, false, .operator, .operator⟩,
  ⟨"STN_WD", 0x400200, [(1024, 0x800), (64, 0x10), (4, 0x4)], 0x0, 0x0, 0x0, 0x0, 0x0, 0x0, 0x0, false, .operator, .operator⟩,
  ⟨"STN_PW_LAST_LO", 0x400600, [(1024, 0x800), (16, 0x8)], 0x0, 0x0, 0x0, 0x0, 0x0, 0x0, 0x0, false, .operator, .operator⟩,
  ⟨"STN_PW_LAST_HI", 0x400604, [(1024, 0x800), (16, 0x8)], 0x0, 0x0, 0x0, 0x0, 0x0, 0x0, 0x0, false, .operator, .operator⟩,
  ⟨"STN_RST_STAT", 0x600000, [(1024, 0x800)], 0x0, 0x0, 0xffff0000, 0x0, 0x0, 0x0, 0x0, false, .operator, .operator⟩,
  ⟨"STN_RST_SEEN", 0x600004, [(1024, 0x800)], 0x0, 0x0, 0xffff, 0x0, 0x0, 0x0, 0x0, false, .operator, .operator⟩,
  ⟨"STN_RST_LAT_LO", 0x600008, [(1024, 0x800)], 0x0, 0x0, 0xffffffff, 0x0, 0x0, 0x0, 0x0, false, .operator, .operator⟩,
  ⟨"STN_RST_LAT_HI", 0x60000c, [(1024, 0x800)], 0x0, 0x0, 0xffffffff, 0x0, 0x0, 0x0, 0x0, false, .operator, .operator⟩,
  ⟨"STN_RST_ENT", 0x600100, [(1024, 0x800), (64, 0x10), (4, 0x4)], 0x0, 0x0, 0x0, 0x0, 0x0, 0x0, 0x0, false, .operator, .operator⟩,
  ⟨"STN_SEC", 0x800000, [(1024, 0x800), (5, 0x4)], 0x0, 0x0, 0x0, 0x0, 0x0, 0x0, 0x0, false, .operator, .operator⟩]

/-- The register index (R553). -/
def regRows : List RegRow :=
  regRows0 ++ regRows1 ++ regRows2 ++ regRows3 ++ regRows4 ++ regRows5 ++ regRows6 ++ regRows7 ++ regRows8 ++ regRows9 ++ regRows10 ++ regRows11 ++ regRows12 ++ regRows13

/-- Does the address belong to the row: strip the index variables from the outermost inward. -/
def dimsHit : List (Nat × Nat) → Nat → Bool
  | [], rem => rem == 0
  | (n, s) :: ds, rem => decide (rem / s < n) && dimsHit ds (rem % s)

def RegRow.hits (r : RegRow) (a : Nat) : Bool := decide (r.base ≤ a) && dimsHit r.dims (a - r.base)

/-- The register an address names, if any (an address no row lists is undefined, R7). -/
def regRowAt (a : Nat) : Option RegRow := regRows.find? (fun r => r.hits a)

/-- Single addresses whose reset value is their own (RWL maps, the default plan, mode-0 reheat budgets). -/
def resetSingles : List (Nat × Nat) := [
  (0xa0400, 0x2), (0xa0414, 0x4000), (0x2200, 0x55555580), (0x2204, 0x55555555), (0x2208, 0x55555555), (0x220c, 0x55), (0xb00c0, 0x7d0), (0xb00c4, 0xbb8), (0xb00c8, 0xdac), (0xb00cc, 0xfa0)]

/-- Rows whose every register resets to one non-zero value. -/
def resetRows : List (Nat × List (Nat × Nat) × Nat) := [
  (0x0, [], 0xcae5d332),
  (0x4, [], 0x10cae),
  (0x8, [], 0x40400810),
  (0xc, [], 0x68),
  (0x10, [], 0x1),
  (0x1000, [], 0x1),
  (0x2104, [], 0x2),
  (0x10008, [(64, 0x20)], 0x3f6),
  (0x11008, [(64, 0x20)], 0x3f6),
  (0x11010, [(64, 0x20)], 0x30),
  (0x11014, [(64, 0x20)], 0x1),
  (0x30018, [], 0x64),
  (0x10000c, [(64, 0x1000)], 0x10000),
  (0x22004, [(53, 0x10)], 0xffffffff),
  (0x4000c, [], 0x1),
  (0x40028, [], 0x61a8),
  (0x50014, [], 0x4),
  (0x5200c, [], 0x64),
  (0x52024, [], 0x200000),
  (0x60000, [], 0x90),
  (0x60008, [], 0x8),
  (0x6000c, [], 0x100),
  (0x60030, [], 0x3f),
  (0x60034, [], 0x818),
  (0x70000, [], 0x1800),
  (0x70008, [], 0x32),
  (0x80000, [], 0x20000000),
  (0x80004, [], 0x64),
  (0x81018, [(64, 0x20)], 0x3f),
  (0x90008, [], 0xc8),
  (0x9000c, [], 0x2710),
  (0xa0000, [], 0x210005),
  (0xa0010, [], 0xffff),
  (0xa0018, [], 0x3c),
  (0xa001c, [], 0xc8),
  (0xa0020, [], 0x2ee0),
  (0xa0024, [], 0x4e20),
  (0xa0028, [], 0x3e8),
  (0xa002c, [], 0x64000a),
  (0xa0030, [], 0x1000000),
  (0xb0000, [], 0x4),
  (0xb0004, [], 0x80),
  (0xb000c, [], 0x64),
  (0xb0010, [], 0x7d0),
  (0xb0014, [], 0x4e20),
  (0xb0024, [], 0xc350),
  (0xb0030, [], 0x100640a),
  (0xb0034, [], 0x10),
  (0xc0014, [], 0x1388),
  (0xc0018, [], 0x4e20),
  (0xc001c, [], 0x7d0),
  (0xc0020, [], 0xea60),
  (0xc0024, [], 0x64000a),
  (0xc0038, [], 0x4bd64db8),
  (0xd0008, [], 0x3201),
  (0xd0010, [], 0x27102710),
  (0xe0004, [], 0x2),
  (0xe0018, [], 0x10),
  (0x200484, [(1024, 0x800), (16, 0x8)], 0x3f0000)]

/-- The value of a register after HUB_COLD (R553): the field resets of the owning chapter; 0 where no row says more. -/
def regReset (a : Nat) : Word :=
  match resetSingles.find? (fun p => p.1 == a) with
  | some p => BitVec.ofNat 32 p.2
  | none =>
    match resetRows.find? (fun p => decide (p.1 ≤ a) && dimsHit p.2.1 (a - p.1)) with
    | some p => BitVec.ofNat 32 p.2.2
    | none => 0

end Sys2Proof.Machine
end

