-- ==== Sys2Proof/Machine/State.lean ====
section
/-! DEFINITION. The state of the block as plain data: every register, queue, buffer, counter, mode and pin the spec gives
it, the queue of waiting commands, the reasons a step can stop, and the state right after reset. -/

namespace Sys2Proof.Machine

/-- An addressed buffer or RAM: bytes by address, rising, no entry 0; an unlisted byte reads 0 (log entry 9). -/
abbrev Mem := List Host.Cell

/-- A fault record (R279). Every field but `fseq` and the upper bits of `actions` is filled where the fault is
detected. `unit` and the command identity are absent where UNIT_VALID or CMD_VALID is 0. -/
structure FaultRec where
  code : Nat := 0
  unit : Option Nat := none
  ctx : Nat := 0
  epoch : Nat := 0
  queue : Nat := 0
  cmdValid : Bool := false
  bclass : Nat := 0
  seq : Nat := 0
  layer : Nat := 0
  op : Nat := 0
  ts : Nat := 0
  cutTs : Nat := 0
  fseq : Nat := 0
  merged : Nat := 0
  flags : Nat := 0
  actions : Nat := 0
  detail0 : Nat := 0
  detail1 : Nat := 0
  detail2 : Nat := 0
  deriving DecidableEq, Repr

/-- The number of one accepted command: its submission ring and its descriptor index (R383). -/
structure CmdKey where
  ring : Nat
  idx : Nat
  deriving DecidableEq, Repr

/-- An event formed for a ring (R385, R387): type, the A word, the TS field and the 16 bytes of B as one little-endian
number; for a COMPLETION, the command it ends. -/
structure EvEntry where
  ty : Nat
  a : Nat
  ts : Nat
  b : Nat
  cmd : Option CmdKey := none
  deriving DecidableEq, Repr

/-- Where a command of R404 stands between its acceptance and its completion. -/
inductive CmdPhase where
  | accepted            -- accepted, its work not yet started (it may wait behind a FENCE)
  | running (n : Nat)   -- its work runs; the number is the service's own step of it
  | writing             -- its host writes are outstanding (R388)
  | completing          -- its COMPLETION has been formed
  deriving DecidableEq, Repr

/-- A command the hub has accepted (R383): the 64 descriptor bytes, the OWNER and class of its ring at acceptance
(R399), where it stands, the words of result it has gathered, its status and RESULT so far, the TS at which it
started and one apply point of it (a frame, a tick or a deadline, by command). -/
structure Cmd where
  key : CmdKey
  desc : List Nat
  owner : Nat
  cls : Nat
  phase : CmdPhase := .accepted
  buf : List Nat := []
  table : List Nat := []
  status : Nat := 0
  result : Nat := 0
  startTs : Nat := 0
  point : Nat := 0
  suppressed : Bool := false
  failed : Bool := false
  deriving DecidableEq, Repr

/-- What a host memory access is for, which is what its answer moves on (R510, R511). -/
inductive HostUse where
  | fetch (ring idx n : Nat)            -- descriptor read (R383)
  | event (ring : Nat) (isCompletion : Bool) (cmd : Option CmdKey) (pos : Nat)   -- event entry write (R385)
  | table (cmd : CmdKey)                -- a table, list or plan a command names (R402)
  | result (cmd : CmdKey)               -- a command's result write (R402)
  | report                              -- the discard report (R348)
  | dump (copy : Nat)                   -- a HOST dump destination write (R311)
  deriving DecidableEq, Repr

/-- One outstanding host memory request (R510): tag, identity, address, bytes moved, what it is for, TS of issue. -/
structure HostReq where
  tag : Nat
  ident : Nat
  addr : Nat
  bytes : List Nat
  len : Nat
  use : HostUse
  issued : Nat
  deriving DecidableEq, Repr

/-- A firmware service that reads memory in runs of lines through the dump master. -/
inductive Reader where
  | lehr | scan | check | digest | copy
  deriving DecidableEq, Repr

/-- A run of line reads: `n` lines of 64 bytes, `stride` bytes apart, the next one to ask for, the lines answered, the bytes kept
by line, and the lines answered with an error or not at all. -/
structure LineJob where
  addr : Nat := 0
  n : Nat := 0
  stride : Nat := 64
  next : Nat := 0
  done : Nat := 0
  got : SMap (List Nat) := []
  err : Bool := false
  tmo : Bool := false
  deriving DecidableEq, Repr

/-- What a dump master access or a fabric line write is for. -/
inductive LineUse where
  | read (who : Reader)                 -- a line of a run (R304, R366, R367, R369, R373, R301)
  | dumpWrite (copy : Nat)              -- LOCAL or PARTNER dump write (R306, R311)
  | ledgerWrite (cmd : CmdKey)          -- ledger entry write (R365)
  | copyWrite (cmd : CmdKey)            -- spare fill write (R373)
  | spill                               -- cullet spill write (R169)
  | rolsal (n : Nat)                    -- Rolsal window 1 access number n (R481)
  deriving DecidableEq, Repr

/-- One outstanding line request of the dump master (R512) or the fabric port (R514). -/
structure LineReq where
  tag : Nat
  ident : Nat
  addr : Nat
  data : List Nat
  size : Nat
  peek : Bool := false
  use : LineUse
  issued : Nat
  deriving DecidableEq, Repr

/-- A message handed to the fabric port (R514): class, destination node, its bytes; the fan-out it belongs to and
whether it is that fan-out's last. -/
structure FabMsg where
  notice : Bool
  node : Nat
  bytes : List Nat
  deriving DecidableEq, Repr

/-- What waits for a bulk beat of the fabric port (R515): a message, or a line write. -/
inductive FabBeat where
  | msg (m : FabMsg)
  | line (q : LineReq)
  deriving DecidableEq, Repr

/-- Rings, events and commands beside the ring registers (R379 to R395). -/
structure RingState where
  due : SMap (List EvEntry) := []       -- events formed for a ring and not yet written, oldest first
  lossPend : SMap Nat := []             -- events dropped for a full ring since its last entry (R388)
  unsig : SMap (List (Nat × Nat)) := [] -- entries acknowledged, not signalled and not returned: position and TS (U, R389)
  cmds : List Cmd := []                 -- accepted and not completed, in order of acceptance
  turn : Nat := 0                       -- the ring whose fetch turn is next (R383)
  fetched : List (CmdKey × List Nat) := []   -- descriptors read and not yet accepted, oldest first
  ahead : SMap Nat := []                -- descriptors of a ring asked for or read and not yet accepted
  deriving DecidableEq, Repr

/-- The host memory master, dump master and fabric port (R510 to R515): requests outstanding, messages waiting and
sent, in order. -/
structure BusState where
  hostRd : List HostReq := []
  hostWr : List HostReq := []
  dmpRd : List LineReq := []
  dmpWr : List LineReq := []
  fabWr : List LineReq := []
  fabRd : List LineReq := []            -- reads that name another node: the fabric port has no signal that carries one (R14, R514)
  rdWait : List LineReq := []           -- reads and writes that a stall of the dump master keeps from being issued (R569)
  wrWait : List LineReq := []
  bulkWait : List FabBeat := []         -- bulk beats that a stall of the fabric port keeps from being presented (R569)
  fabSent : List FabMsg := []           -- messages that have crossed the boundary, in order
  tag : Nat := 0
  deriving DecidableEq, Repr

/-- Clocks and time (R2, R101, R532): CNCLK cycles since the release of HUB_COLD_N; the 96-bit accumulator A, with 32
fraction bits; the HUB_ALIVE divider (R521); whether the root clock runs (R534); the cold and warm resets and the
cycle of the last release of each (R539, R541). -/
structure ClockState where
  cyc : Nat := 0
  acc : Nat := 0
  aliveCnt : Nat := 0
  rootRuns : Bool := true
  cold : Bool := false
  warm : Bool := false
  coldRelease : Nat := 0
  warmRelease : Nat := 0
  otpRead : Bool := false
  windowTakes : Bool := true
  warmPend : Nat := 0
  deriving DecidableEq, Repr

/-- Boundary signals that are levels or pulses (R507, R517, R518, R520, R521). The straps and inputs are the
carrier's; `hubInt` holds the pulses of the current cycle; the reset request word is the register of R338; `carFrom` is the CNCLK cycle from
which samples of the carrier's shear pair count (R134). -/
structure PinState where
  rstScopeMode : Bool := false
  fabricPrioVc : Bool := false
  hubInt : Nat := 0
  mbxIrq : Nat := 0
  hubAlive : Bool := false
  rstqWord : Nat := 0x50000001
  seamIso : Nat := 0
  brIso : Nat := 0
  carReq : Bool := false
  carReqN : Bool := true
  carFrom : Nat := 0
  carIdle : Bool := false
  lastRead : Nat := 0
  deriving DecidableEq, Repr

/-- A wide register being read or written by one master (R5): the captured upper words of the register whose low word
is at `base`, or its held low words. -/
structure WideHold where
  master : Nat
  base : Nat
  isRead : Bool
  words : List Nat
  deriving DecidableEq, Repr

/-- Who asked for a reset (R336), and what the answer owes. -/
inductive ResetSource where
  | policy (fseq ctx : Nat)
  | command (cmd : CmdKey)
  | register
  deriving DecidableEq, Repr

/-- A reset request (R336): step code, unit for ENGINE, partition for PARTITION, source. -/
structure ResetReq where
  step : Nat
  unit : Nat
  part : Nat
  src : ResetSource
  deriving DecidableEq, Repr

/-- What the collection after DONE has gathered of one station (R347). -/
structure CollectStation where
  stn : Nat
  answered : Bool := false
  seen : Nat := 0
  stat : Nat := 0
  latLo : Nat := 0
  latHi : Nat := 0
  words : List (Nat × Nat × Nat) := []       -- boundary entry, its word (0, 2, 3), the value read
  waiting : Nat := 4                         -- answers still owed by the station
  entries : Bool := false                    -- the four header words have been answered
  deriving DecidableEq, Repr

/-- One discard collection and the report it ends in (R347 to R349): the ladder's RST_NUM, step, unit, partition,
ESCALATED, REQ_TS and DONE_TS, the deadline of RST_COLLECT, the stations in scope, the commands that wait for the report; whether the
reading has ended and whether the report is being written. -/
structure Collect where
  num : Nat
  step : Nat
  unit : Nat
  part : Nat
  escalated : Bool
  reqTs : Nat
  doneTs : Nat
  deadline : Nat
  stns : List CollectStation
  cmds : List (CmdKey × Bool)
  isOver : Bool := false
  writing : Bool := false
  deriving DecidableEq, Repr

/-- The reset ladder (R341): the request it began with, the step in force with its unit and partition, the 2-bit
request counter (R338), starts, whether ACCEPTED was seen, the request that began it, merged and queued requests,
collections, the reheat (R352); the CORECLK cycle from which the
present request word has been driven and the word to drive next (R338); the step's budget in ns and the scaling factor of the reheat's
budgets, both fixed at their start (R571). -/
structure LadderState where
  running : Bool := false
  step : Nat := 0
  unit : Nat := 0
  part : Nat := 0
  reqUnit : Option Nat := none
  ctx : Nat := 0
  seq : Nat := 0
  start : Nat := 0
  firstStart : Nat := 0
  wordFrom : Nat := 0
  nextWord : Option Nat := none
  budget : Nat := 0
  rhtScale : Nat := 16
  accepted : Option Nat := none
  escalated : Bool := false
  cmds : List (CmdKey × Bool) := []
  queue : List ResetReq := []
  waitDump : List ResetReq := []
  collects : List Collect := []
  reheat : Bool := false
  reheatStep : Nat := 0
  releasedTs : Nat := 0
  deriving DecidableEq, Repr

/-- One notice fan-out (R354, R355): class, the 64-byte message without its destination, the peers still to be sent,
whether the first has left, its budgets' start, whether each has been missed, the budgets in ns fixed at its start, and the
command that waits for it. -/
structure FanOut where
  nclass : Nat
  bytes : List Nat
  left : List Nat
  firstLeft : Bool := false
  budgetFrom : Nat
  started : Bool := false
  missed : Bool := false
  missedLast : Bool := false
  firstBud : Nat := 0
  lastBud : Nat := 0
  cmd : Option CmdKey := none
  deriving DecidableEq, Repr

/-- A sender whose READY is awaited (R359). -/
structure Tracked where
  node : Nat
  receipt : Nat
  deadline : Nat
  deriving DecidableEq, Repr

/-- Peer notices (R354 to R359): the fan-out running, those queued, NSEQ, notices received, tracked senders, the
CORECLK cycle of the last PEER_NOTICE (R356). -/
structure NoticeState where
  running : Option FanOut := none
  queue : List FanOut := []
  nseq : Nat := 0
  received : Nat := 0
  tracked : List Tracked := []
  lastSend : Option Nat := none
  deriving DecidableEq, Repr

/-- An announcement the central hub has paired with no record yet, or a logged unannounced record (R282). -/
structure PendFault where
  stn : Nat
  code : Nat
  port : Nat
  ctx : Nat
  ts : Nat
  acts : Nat := 0                          -- the actions taken, as takeActions answers them
  deriving DecidableEq, Repr

/-- Central deadlines and faults (R276, R282, R283, R287): pending entries, logged entries, entries closed by a record
the hub formed; heartbeat watchdogs armed, the last writer and the scaling factor of each; the epoch change in flight, those waiting, and
those applied whose frames f0 + 4 have not passed: f0, context, epoch; the owner and event ring of each context (R432). -/
structure DeadlineState where
  pend : List PendFault := []
  logged : List PendFault := []
  closed : List PendFault := []
  hbArmed : List Nat := []
  hbWriter : SMap Nat := []
  hbScale : SMap Nat := []
  epochCtx : Nat := 0
  epochVal : Nat := 0
  epochFrame : Option Nat := none
  epochSent : Nat := 0
  epochCmd : Option CmdKey := none
  epochWait : List CmdKey := []
  epochPast : List (Nat × Nat × Nat) := []
  lateStations : List Nat := []
  ctxOwner : SMap Nat := []                -- bound owner of a context; 0x3F where unlisted
  ctxRing : SMap Nat := []                 -- bound event ring of a context
  rowLoads : List (Nat × Nat × List Nat × Option CmdKey × Nat) := []   -- row, ctx, 16 budgets, command, apply frame
  applies : List (Nat × CmdKey) := []      -- commands that complete at a frame
  deriving DecidableEq, Repr

/-- The job table (R429): peers in table order, the job identifier. The hub's node is in HUB_NODE. -/
structure JobState where
  peers : List Nat := []
  jobId : Nat := 0
  deriving DecidableEq, Repr

/-- A downstream COMMAND message or NOTE as a station receives it (R72): kind, the kind-specific bits of its HEAD or
SOLO, its body words, its GROUP. -/
structure DownMsg where
  kind : Nat
  head : Nat
  words : List Nat
  grp : Nat := 0
  copy : Bool := false                  -- one of the copies the hub writes after a verification (R587)
  deriving DecidableEq, Repr

/-- An upstream message (R69, R70): kind, HEAD bits [31:16], body words; LEN is the number of words. -/
structure UpMsg where
  kind : Nat
  head : Nat
  words : List Nat
  deriving DecidableEq, Repr

/-- One port byte of a station record (R91): type, CV_LEN, GRESP, RESUMABLE. -/
structure PortImage where
  ty : Nat := 7
  cvLen : Nat := 0
  gresp : Nat := 0
  resumable : Bool := false
  deriving DecidableEq, Repr

/-- A station record of the slot image (R91) with the DATA slots its rib's table gives it (R90). -/
structure StationImage where
  seg : Nat := 0
  t : Nat := 0
  shcomp : Nat := 0
  part : Nat := 0
  ribEnd : Bool := false
  ports : List PortImage := []
  cmask : Nat := 0
  slots : List Nat := []
  deriving DecidableEq, Repr

/-- A rib record of the slot image (R89). -/
structure RibImage where
  bridged : Bool := false
  half : Nat := 0
  bridge : Nat := 0
  lastPos : Nat := 0
  tEnd : Nat := 0
  pad : Nat := 0
  deriving DecidableEq, Repr

/-- The slot image store (R93) and, of the validated image, its header, ribs and stations (R88 to R91). -/
structure SlotState where
  store : Mem := []
  keyHash : Nat := 0                    -- SLOT_KEY_HASH as the checks that run took it when they began (R502)
  horizon : Nat := 0
  npart : Nat := 0
  brmask : Nat := 0
  ribs : SMap RibImage := []
  stns : SMap StationImage := []
  deriving DecidableEq, Repr

/-- What the answer of a hub's or a master's station access moves on (R74). -/
inductive StnUse where
  | posted                                      -- a posted write: nothing follows
  | master (id : Nat) (base n : Nat)            -- a master's read: register address and words
  | rolsal (n base words : Nat)                 -- Rolsal window 1 read number n: register address and words (R481)
  | verifyCrc | verifySlot                      -- SLOT_LOAD verification (R97)
  | cmdWord (cmd : CmdKey) (i : Nat)            -- STATION_ACCESS (R435)
  | collect (num what entry : Nat)              -- discard collection (R347) of ladder num: 0 STAT, 1 SEEN, 2 LAT_LO, 3 LAT_HI, 4 to 6 an entry's words 0, 2, 3
  | stream (check : Bool) (strm word : Nat)     -- ledger capture page read (R363), for a record or a check
  deriving DecidableEq, Repr

/-- A station access (R74): its TAG, station, page (0 window, 1 deadline, 2 reset, 3 capture), word offset, words
expected, the words of a write, what it is for, the cycle in which its message went. -/
structure StnAccess where
  tag : Nat
  stn : Nat
  page : Nat
  off : Nat
  n : Nat
  peek : Bool
  use : StnUse
  data : Option (List Nat) := none
  sent : Nat := 0
  deriving DecidableEq, Repr

/-- One value of a reduction request (R75). -/
structure RedValue where
  w : Nat
  op : Nat
  source : Nat
  deriving DecidableEq, Repr

/-- Who a reduction serves. -/
inductive RedUse where
  | command (cmd : CmdKey)
  | stria (rtag : Nat) (cells : List Nat)
  | lehr
  deriving DecidableEq, Repr

/-- A reduction in progress or waiting (R75 to R78): tag, start frame once set, member group, values, the contributions
sampled so far by station, the stations that miss, and the results so far. -/
structure Reduction where
  tag : Nat
  startFrame : Option Nat := none
  group : Nat
  target : Nat
  values : List RedValue
  samples : SMap (List (Option Nat)) := []
  results : List (Nat × Nat) := []      -- value and flags of each finished value
  lost : List Nat := []                 -- values a word of which the spine discarded (R78)
  use : RedUse
  deriving DecidableEq, Repr

/-- One rib at the spine (R57, R81 to R85): training exchanges counted, retrain in force, echoes, errors in the
16-frame window, isolation and restoration, verification left. -/
structure RibState where
  training : Bool := false
  exchanges : Nat := 0
  roundTrip : Nat := 0
  trainBad : Bool := false
  retrain : Bool := false
  echoBad : Nat := 0
  echoGood : Nat := 0
  echoChecked : Bool := false
  echoFrom : Nat := 0                   -- first frame whose echo the criterion of R84 counts (R97)
  nextCmd : Nat := 0                    -- first COMMAND slot, counted from frame 0, that the rib's queue leaves free (R68)
  errFrame : Option Nat := none         -- first frame of the window in force (R83)
  errFrames : List Nat := []            -- frames of the errors of the last 16 frames (R84)
  isoAsked : Bool := false
  subst : Bool := false
  restoring : Option Nat := none        -- frame of the fall of the isolation input
  verifyLeft : List Nat := []           -- stations not yet verified
  verifyGot : List Nat := []            -- stations whose CRC word has been checked
  stopped : Bool := false               -- the rib's slots are stopped by a retrain
  deriving DecidableEq, Repr

/-- The spine (R59, R68, R73): whether frames run and from which CNCLK cycle, the frame last begun, a stop asked,
ribs, station reads outstanding and waiting, TAG counter, reductions in request order, the PAD written into
each bridge near end. -/
structure SpineState where
  running : Bool := false
  startCyc : Nat := 0
  frame : Nat := 0
  markTs : Nat := 0
  stopAsked : Bool := false
  ribs : SMap RibState := []
  reads : List StnAccess := []
  readQ : List StnAccess := []
  tag : Nat := 0
  redTag : Nat := 0
  reds : List Reduction := []
  pads : SMap Nat := []
  deriving DecidableEq, Repr

/-- Who asked for a dump (R292). -/
inductive DumpSource where
  | policy (ctx fseq : Nat)
  | command (cmd : CmdKey)
  | mailbox (ch dir : Nat)
  | register
  deriving DecidableEq, Repr

/-- A dump request (R292); for a policy start the code of the record and FLT_NEXT at the request: scope, NOSCRATCH, unit named, source; for a policy whose CUT is STOP, whether P0 may adopt
a cut already made (R298). -/
structure DumpReq where
  scope : Nat
  noScratch : Bool
  unit : Option Nat
  src : DumpSource
  stopCut : Bool := false
  code : Nat := 0
  from_ : Nat := 0
  deriving DecidableEq, Repr

/-- Who asked for a cullet readout (R153). -/
inductive ReadSource where
  | lehr
  | command (cmd : CmdKey)
  | register
  | auto
  | policy (fseq : Nat)
  deriving DecidableEq, Repr

/-- A readout request (R153): the cut's tick, group and types, source. -/
structure ReadReq where
  tick : Nat
  group : Nat
  target : Nat
  types : Nat
  src : ReadSource
  deriving DecidableEq, Repr

/-- The readout that runs (R155, R159): its request, RDTAG, start, deadline, directory entry, and the messages still
expected as (station, group). -/
structure Readout where
  req : ReadReq
  rdtag : Nat
  start : Nat
  deadline : Nat
  dir : Nat
  left : List (Nat × Nat)
  deriving DecidableEq, Repr

/-- The command ACTIVE or SUSPENDED on one queue of a port (R27, R28, R288). -/
structure QRec where
  ctx : Nat
  epoch : Nat
  seq : Nat
  layer : Nat
  op : Nat
  bclass : Nat
  susp : Bool := false
  stale : Bool := false
  underDrain : Bool := false
  deriving DecidableEq, Repr

/-- A command event as a unit presents it (R26). -/
structure Event where
  kind : Nat
  ctx : Nat
  epoch : Nat
  seq : Nat
  layer : Nat
  op : Nat
  bclass : Nat
  queue : Nat
  deriving DecidableEq, Repr

/-- One unit attach port (R19 to R56): straps and presence as the carrier drives them; command records; the last BEGIN's
SEQ of each queue; the command that ended in a cycle (R31); package state and SH_CMD rank 0 NONE, 1 RUN_ON, 2 DRAIN,
3 FREEZE (R139), the cycle of the last change of SH_CMD, SH_ACK; the debug halt, the pulse awaited and its cycle, the
comparator addresses (R50), DBG_WR outputs in order; previous trace addresses (R237); whether the port is excluded (R207);
whether its straps are known, and whether its cell is held in cold reset (R537); the last cycle seen with UAP_CKEN at 0 and how many such
cycles SH_CMD has held its value (R25, R42); a comparator address's low word that waits for its high word (R5, R51). -/
structure Port where
  strapped : Bool := false
  cold : Bool := false
  strapTy : Nat := 7
  strapCv : Nat := 0
  shFlat : Nat := 0
  on : Bool := false
  rst : Bool := false
  queues : SMap QRec := []
  lastSeq : SMap Nat := []
  ended : Option (Nat × Nat × QRec) := none
  pkg : Nat := 0
  shCmd : Nat := 0
  shSince : Nat := 0
  ack : Bool := false
  shLate : Bool := false
  bpDrain : Bool := false
  debugHalt : Nat := 0
  reqCyc : Option Nat := none
  haltLate : Bool := false
  afterSec : Bool := false
  holdHalt : Bool := false
  cmps : List Nat := []
  dbgWr : List (Nat × Nat) := []
  pulses : List Nat := []
  pwRun : Bool := false
  pwFrom : Nat := 0
  pwScale : Nat := 16
  itAddr : Option Nat := none
  dtAddr : Option Nat := none
  itFull : Bool := true
  excl : Bool := false
  asNone : Bool := false
  offCyc : Option Nat := none
  offN : Nat := 0
  dbgLo : Option Nat := none
  deriving DecidableEq, Repr

/-- A budget watchdog (R270): port, queue, the command, BEGIN TS, budget, deadline D, remainder while held (R273). -/
structure Watchdog where
  port : Nat
  queue : Nat
  cmd : QRec
  begun : Nat
  budget : Nat
  d : Nat
  rem : Option Nat := none
  held : Bool := false
  deriving DecidableEq, Repr

/-- A fault record at its station (R281): its port and, while it waits for its cut tick, the last cycle at which R137
fixes it and whether it holds a place of the reserve. -/
structure StnFault where
  r : FaultRec
  port : Nat
  wait : Option (Nat × Nat) := none
  deriving DecidableEq, Repr

/-- An attribution entry (R188). -/
structure AttrEnt where
  layer : Nat := 0
  op : Nat := 0
  ctx : Nat := 0
  keyed : Bool := false
  cmds : Nat := 0
  energy : Nat := 0
  rd : Nat := 0
  wr : Nat := 0
  deriving DecidableEq, Repr

/-- Losses of one cause that no GAP covers yet (R208): ports or names, count, TS of the first and the last. -/
structure Loss where
  name : Nat
  count : Nat
  first : Nat
  last : Nat
  deriving DecidableEq, Repr

/-- A trace source's SYNC count and the REASON of the SYNC due before its next packet (R232, R205). -/
structure SrcState where
  count : Nat := 0
  due : Option Nat := none
  deriving DecidableEq, Repr

/-- A dictionary entry (R233). -/
structure DictEnt where
  ctx : Nat
  epoch : Nat
  layer : Nat
  op : Nat
  bclass : Nat
  defined : Nat := 0
  deriving DecidableEq, Repr

/-- Trace capture at a station (R202 to R222): capture state and ACT_ID applied, changes to be applied, configuration in
force and pending, the open message, burst accounting of one cycle, losses of causes 1 and 2, sources, dictionary, hits
pending (R216). -/
structure StnTrace where
  run : Bool := false
  actId : Nat := 0
  actNext : List (Bool × Nat × Nat) := []
  ports : List Nat := []
  ctxEn : List Nat := []
  cmps : SMap (List Nat) := []
  flush : Nat := 4
  high : Nat := 24
  low : Nat := 8
  cfgPend : List (Nat × Nat × List Nat) := []
  openBytes : List Nat := []
  openPorts : Nat := 0
  openPkts : Nat := 0
  openFirst : Nat := 0
  openCyc : Nat := 0
  base : Option Nat := none
  burstCyc : Nat := 0
  burst : Nat := 0
  loss1 : Option Loss := none
  loss2 : Option Loss := none
  srcs : SMap SrcState := []
  dict : SMap DictEnt := []
  dictPtr : Nat := 0
  hits : Nat := 0
  hitN : Nat := 0
  hitPort : Nat := 0
  hitCtx : Nat := 0
  deriving DecidableEq, Repr

/-- A stria cell (R250). SUM is the 384-bit accumulator as a number. -/
structure Cell where
  count : Nat := 0
  nan : Nat := 0
  pinf : Nat := 0
  ninf : Nat := 0
  zero : Nat := 0
  subn : Nat := 0
  min : Nat := 0xFFFFFFFF
  max : Nat := 0
  maxabs : Nat := 0
  hist : List Nat := [0, 0, 0, 0, 0, 0, 0, 0, 0, 0, 0, 0, 0, 0, 0, 0]
  sum : Nat := 0
  digest : Nat := 0
  large : Bool := false
  sumOvf : Bool := false
  cntSat : Bool := false
  histSat : Bool := false
  deriving DecidableEq, Repr

/-- A tap beat as it is watched (R44). -/
structure Beat where
  mask : Nat
  data : Nat
  fmt : Nat
  coord : Nat
  sample : Nat
  pos : Nat
  queue : Nat
  out : Nat
  scale : Nat
  deriving DecidableEq, Repr

/-- A pair waiting in a port's queue (R256). `at` is the cycle in which the beat was presented. -/
structure Pair where
  slot : Nat
  beat : Beat
  cyc : Nat
  deriving DecidableEq, Repr

/-- A station entry (R257): port, queue, slot, cell, and the read that holds it (R261). -/
structure StnEntry where
  port : Nat
  queue : Nat
  slot : Nat
  cell : Nat
  val : Cell := {}
  held : Option Nat := none
  ended : Bool := false
  deriving DecidableEq, Repr

/-- An open tile (R257): port, queue, slot; skipped with its cause; RANGE; SPLIT. -/
structure Tile where
  port : Nat
  queue : Nat
  slot : Nat
  skipRate : Bool := false
  skipNocell : Bool := false
  range : Nat := 0
  split : Bool := false
  deriving DecidableEq, Repr

/-- The stria engine of a station: slot words in force (CFG, SEL, LAYER, OP, HIST, STORE), slot changes and settles
pending at their frames, pair queues by port, round-robin position, entries, tiles, messages formed and not offered. -/
structure StnStria where
  slots : SMap (List Nat) := []
  slotPend : List (Nat × Nat × List Nat) := []
  settlePend : List (Nat × Nat × Nat × Nat × Nat) := []
  settled : Nat × Nat := (0, 0)         -- slot and RTAG of the last settle
  queues : SMap (List Pair) := []
  rr : Nat := 0
  entries : List StnEntry := []
  tiles : List Tile := []
  msgs : List UpMsg := []
  deriving DecidableEq, Repr

/-- What a station does in a later CNCLK cycle than the one that decided it: ACK_PEND (R140), local drain (R143), the end of a command's
tiles behind the last beat of its cycle (R45, R257), the cut or RESUME of a station with SKEW at its decode cycle plus SHCOMP (R132). -/
inductive StnAct where
  | ackPend (port : Nat)
  | drain (port : Nat)
  | tileEnd (port queue : Nat) (aborted : Bool)
  | cut (cls : Nat)
  | resume
  deriving DecidableEq, Repr

/-- A readout in progress at a station (R156 to R158): RDTAG, TYPES, the matched strobe's TS where one matched, whether
the skew window was used, groups still to send, restarts of the group being read, whether its read began, ports off at the matched strobe,
LATER_N of the read. -/
structure StnReadout where
  rdtag : Nat
  types : Nat
  hit : Option Nat
  skew : Bool
  groups : List Nat
  restarts : Nat := 0
  reading : Bool := false
  off : Nat := 0
  later : Nat := 0
  deriving DecidableEq, Repr

/-- A REDUCE_REQ a station holds (R75): tag, low bits of the start frame, member group, value words, whether its partner is
still to come, the frame of its receipt. -/
structure StnRed where
  tag : Nat
  start : Nat
  group : Nat
  target : Nat
  words : List Nat
  more : Bool
  frame : Nat
  deriving DecidableEq, Repr

/-- One station cell (R11): network state, queues of R71, time base, watchdogs, faults, counters' bookkeeping,
attribution, trace, stria, cullet. Its registers stand in the register file. -/
structure Station where
  ports : SMap Port := []
  installed : Bool := false
  loadPend : Bool := false
  cold : Bool := false
  pgood : Bool := true
  passThrough : Bool := true
  frame : Nat := 0
  mark : Nat := 0
  acc : Nat := 0
  accCyc : Nat := 0
  accRuns : Bool := false
  tsPend : Bool := false
  slipDue : Bool := false
  inbox : List DownMsg := []
  noteIn : List Nat := []
  keys : List (Nat × Nat) := []
  reds : List StnRed := []
  fifo : List UpMsg := []
  wait : List UpMsg := []
  sending : Option UpMsg := none
  sent : Nat := 0
  badSend : Bool := false
  air : List UpMsg := []
  noteAir : List Nat := []
  noteCyc : Option Nat := none         -- the CNCLK cycle of the last NOTICE slot used
  renew : Bool := false                -- the rib has been isolated since the last SLOT_LOAD (R198, R266, R291)
  collide : Bool := false
  netErrDue : Nat := 0
  wd : SMap Watchdog := []
  faults : List StnFault := []
  ovf : Option StnFault := none
  announce : List Nat := []
  epochPend : List (Nat × Nat × Nat) := []
  rowShadow : SMap (List Nat) := []
  cutCtr : SMap Nat := []
  cutTs : Nat := 0
  boundary : SMap (Nat × Nat) := []
  follow : List Nat := []
  cfgPend : List (Nat × Nat × Nat × Nat × Nat) := []
  samples : List (Nat × List Nat) := []
  wrapCtr : List Nat := []
  attr : SMap AttrEnt := []
  attrEn : Bool := false
  attrLevels : Nat := 0x18
  attrCtx : List Nat := []
  bndTouch : List Nat := []
  bndDone : SMap (Nat × Nat) := []
  trace : StnTrace := {}
  stria : StnStria := {}
  strobes : List (Nat × Nat) := []     -- TS of the last 8 strobes, ports whose UAP_ON was 0 (R155, R157)
  offAt : SMap Nat := []
  readout : Option StnReadout := none
  withhold : Nat := 0
  sec : List Nat := []
  acts : List (Nat × StnAct) := []     -- by the CNCLK cycle in which they come due
  deriving DecidableEq, Repr

/-- Who waits for a cut (R134). -/
inductive CutWho where
  | none
  | command (cmd : CmdKey) (read : Bool) (types : Nat) (snap : Bool)
  | lehr
  | ledger (cmd : CmdKey) (check : Bool)
  deriving DecidableEq, Repr

/-- A request for a cut (R125, R130): registration cycle n, decision cycle, class (0 LATCH, 1 FREEZE, 2 DRAIN, 3 RUN_ON),
SHEAR_LAST source bit, who waits for it. -/
structure CutReq where
  n : Nat
  d : Nat
  cls : Nat
  src : Nat
  last : Nat
  who : CutWho := .none
  deriving DecidableEq, Repr

/-- A cut opened at the root and not yet ticked (R131, R136): registration cycle, commit cycle, tick cycle, class, sources
joined, requests joined, whether its class is committed, who waits for it. -/
structure Cut where
  n : Nat
  commit : Nat
  tick : Nat
  cls : Nat
  srcs : Nat
  joined : Nat := 0
  committed : Bool := false
  who : List CutWho
  deriving DecidableEq, Repr

/-- A CUT_AT whose target is ahead (R145). -/
structure CutAt where
  cmd : CmdKey
  x : Nat
  cls : Nat
  read : Bool
  deriving DecidableEq, Repr

/-- A RESUME registered (R142): its issue cycle, whether the symbol has been driven, the command that waits. -/
structure ResumeReq where
  issue : Nat
  driven : Bool := false
  cmd : Option CmdKey := none
  deriving DecidableEq, Repr

/-- One cut tick in the hub's log of the last 64 (R167, R168): its TS, class, SHEAR_COUNT after it, whether SKEWED and a test
perturbation held, CULLET_TRANSIT. -/
structure TickLog where
  ts : Nat
  cyc : Nat := 0
  start : Nat := 0
  cls : Nat
  count : Nat
  skewed : Bool
  perturbed : Bool
  transit : Nat
  deriving DecidableEq, Repr

/-- A request's run of 4 cycles (R125, R130): its wire (B where `stop`), its station, the registration cycle. The station drives it from
n + c(s), and it reaches the root in cycles n + E to n + E + 3 (R128, R132). -/
structure ShRun where
  stop : Bool
  stn : Nat
  n : Nat
  deriving DecidableEq, Repr

/-- The shear tree's root (R122 to R148): requests on their way, open cuts, scheduled cuts, resumes, the log of the last
64 ticks, the last downward symbols with the spine cycle in which the root began each, the stations' request runs of late, the next frame to
test and the frame whose TEST was sent with its reply, first-failure frames by cause of R148 and station. -/
structure ShearState where
  reqs : List CutReq := []
  cuts : List Cut := []
  cutAts : List CutAt := []
  resumes : List ResumeReq := []
  ticks : List TickLog := []
  symbols : List (Nat × Nat) := []
  runs : List ShRun := []
  testNext : Nat := 0
  testFrame : Option Nat := none
  replied : Option Nat := none
  failFrames : SMap Nat := []
  deriving DecidableEq, Repr

/-- The cullet buffer and its readouts (R153 to R171): the readout that runs, the one to start next and the one that waits,
RDTAG, buffer bytes, next offset, directory entries in the order of their readouts, bytes spilled of the running one. -/
structure CulletState where
  running : Option Readout := none
  next : Option ReadReq := none
  waiting : Option ReadReq := none
  rdtag : Nat := 0
  buf : Mem := []
  head : Nat := 0
  order : List Nat := []
  spillPos : Nat := 0
  deriving DecidableEq, Repr

/-- The hub's copy of one programmable counter's configuration (R179): the two words, its owner, and the ring from which
it was last configured. -/
structure CtrCopy where
  lo : Nat := 0
  hi : Nat := 0
  owner : Nat := 0x3F
  ring : Option Nat := none
  deriving DecidableEq, Repr

/-- A counter or attribution record of one station as a read gathers it (R192): sets still owed, entries of 8 bytes,
attribution entries, flags, programmable counters the requester may not see (R195). -/
structure CtrRec where
  stn : Nat
  owed : Nat
  flags : Nat := 0
  ao : List Nat := []
  pc : List Nat := []
  attr : List (List Nat) := []
  sampleTs : Nat := 0
  denied : Nat := 0
  deriving DecidableEq, Repr

/-- A COUNTER_READ, or an ENERGY_READ without REDUCE, in progress (R185, R191, R192): for the always-on set its ports,
the deadline, the contexts bound to a tenant at acceptance (R197). A read of Lehr's has no command. -/
structure CtrRead where
  rtag : Nat
  cmd : Option CmdKey
  frame : Nat
  cut : Bool
  energy : Bool
  recs : List CtrRec
  owner : Nat
  cls : Nat
  ports : Nat := 0
  deadline : Nat := 0
  ctxs : List Nat := []
  deriving DecidableEq, Repr

/-- Counters at the central hub (R179, R185, R191): copies of configurations, reads, RTAG, commands that wait for a frame. -/
structure CtrState where
  copies : SMap CtrCopy := []
  reads : List CtrRead := []
  rtag : Nat := 0
  applies : List (Nat × CmdKey) := []
  deriving DecidableEq, Repr

/-- A block of the trace ring (R210, R227): its byte offset and its lines. -/
structure Block where
  pos : Nat
  lines : Nat
  deriving DecidableEq, Repr

/-- A packet formed centrally and waiting for the ring writer (R204, R210): its TS, bytes (none for a SYNC alone), source (5 STIM, 6 WRITER), and
what a SYNC of its cycle shows (R232): RUN, TRIGGERED, PERTURBED in bits 0 to 2. -/
structure CentralPkt where
  ts : Nat
  bytes : List Nat
  src : Nat
  shows : Nat := 0
  deriving DecidableEq, Repr

/-- A sequencer event (R216): comparator, whether it arose centrally, station, port and context of the first hit. -/
structure SeqEvent where
  cmp : Nat
  central : Bool
  stn : Nat := 0
  port : Nat := 0
  ctx : Nat := 0
  deriving DecidableEq, Repr

/-- Trace at the central hub (R204 to R218): ring bytes, valid blocks oldest first, blocks written (BSEQ), central
packets waiting, central sources, losses by cause and station, STIM losses, bytes written since the TRIGGER block while
the window is open, the capture state with its ACT_ID and the frame in which that was first sent, sequencer events
waiting, TIME comparators fired since arming, each station's TRC_PORT copy, commands that wait for a frame, how many of the
valid blocks are drained, the writer queue of R568, each message with the losses of its station since the one before, the lines of its first
block already written, the TS of the first of them, and the losses that no queued message follows. -/
structure TraceState where
  ring : Mem := []
  blocks : List Block := []
  bseq : Nat := 0
  queue : List CentralPkt := []
  srcs : SMap SrcState := [(5, ⟨0, some 0⟩), (6, ⟨0, some 0⟩)]
  lost : SMap Loss := []
  stimLoss : Option Loss := none
  window : Option Nat := none
  capture : Bool := false
  actId : Nat := 0
  actFrame : Option Nat := none
  events : List SeqEvent := []
  timeFired : Nat := 0
  portCopy : SMap (List Nat) := []
  waits : List (CmdKey × Nat) := []
  drained : Nat := 0
  wq : List (Nat × UpMsg × Option Loss) := []
  wqLines : Nat := 0
  wqTs : Nat := 0
  wqLost : SMap Loss := []
  deriving DecidableEq, Repr

/-- Counts of a watch slot since its arming or the last CLEAR (R263). -/
structure SlotCount where
  tiles : Nat := 0
  skipRate : Nat := 0
  skipNocell : Nat := 0
  aborted : Nat := 0
  split : Nat := 0
  rangeElems : Nat := 0
  staleBeats : Nat := 0
  fmtErr : Nat := 0
  lostMsgs : Nat := 0
  deriving DecidableEq, Repr

/-- A STRIA_READ (R261): slot, range, CLEAR, command or Lehr, settle frame, RTAG, stations whose FENCE has arrived with
their cells, stations lost, deferred messages, LIVE and LOST, cells still to reduce, whether RELEASE has been sent. -/
structure StriaRead where
  slot : Nat
  first : Nat
  n : Nat
  clear : Bool
  cmd : Option CmdKey
  frame : Nat := 0
  rtag : Nat := 0
  fences : SMap (List Nat) := []
  left : List Nat := []
  deferred : List (Nat × UpMsg) := []
  live : Bool := false
  lost : Bool := false
  perturbed : Bool := false
  cells : List Nat := []
  deadline : Nat := 0
  overflow : Bool := false
  deriving DecidableEq, Repr

/-- Stria at the central hub (R244 to R266): cell store, slot counts, the read that runs and those waiting, RTAG, arm and
disarm commands that wait for their frame, those held behind a read of their slot (R414), slots whose store is set to the
identity at a frame. -/
structure StriaState where
  cells : SMap Cell := []
  counts : SMap SlotCount := []
  running : Option StriaRead := none
  waiting : List StriaRead := []
  rtag : Nat := 0
  applies : List (Nat × CmdKey) := []
  held : List CmdKey := []
  clears : List (Nat × Nat) := []
  deriving DecidableEq, Repr

/-- One direction of a mailbox channel (R437 to R450): message words, GO, the answer, its status bits, the node of the last
remote post, whether the sender was reset after the claim (R450), an answer that waits under R570 with its cycle. -/
structure MbxDir where
  msg : List Nat := [0, 0, 0, 0, 0, 0, 0, 0, 0, 0, 0, 0, 0, 0, 0, 0]
  go : Bool := false
  code : Nat := 0
  valid : Bool := false
  claimed : Bool := false
  peerReset : Bool := false
  err : Bool := false
  retracted : Bool := false
  crossed : Bool := false
  srcNode : Nat := 0
  senderGone : Bool := false
  delayed : Option (Nat × Nat) := none
  deriving DecidableEq, Repr

/-- A channel: its two directions, and the first CORECLK cycle of the crossing it is in (R447). -/
structure MbxChan where
  d0 : MbxDir := {}
  d1 : MbxDir := {}
  crossFrom : Option Nat := none
  deriving DecidableEq, Repr

/-- The mailbox block (R437 to R454): channels, and the answers to the firmware's remote requests, oldest first (R452). -/
structure MbxState where
  chans : SMap MbxChan := []
  rsps : List (Nat × Nat × Nat × Nat × Nat) := []
  deriving DecidableEq, Repr


/-- One answered exchange of a gather round (R115): its INDEX, off2, rtt, t1 and t4. -/
structure Exchange where
  idx : Nat
  off2 : Int
  rtt : Int
  t1 : Nat
  t4 : Nat
  deriving DecidableEq, Repr

/-- One peer of a gather: its node, its offset-table entry, the exchanges answered so far. -/
structure GatherPeer where
  node : Nat
  ent : Nat
  got : List Exchange := []
  deriving DecidableEq, Repr

/-- Gather (R113 to R118): the round that runs (1, 2, or 0 for a periodic one), its peers in entry order, SESSION, TS of
its start, GPINGs sent, those outstanding as (entry, INDEX, crossing TS), the command, TS of the GATHER's start, its budget, whether
the first round has ended, TS of the last round's start. -/
structure GatherState where
  round : Option Nat := none
  peers : List GatherPeer := []
  session : Nat := 0
  start : Nat := 0
  sent : Nat := 0
  open_ : List (Nat × Nat × Nat) := []
  cmd : Option CmdKey := none
  began : Nat := 0
  budget : Nat := 0
  between : Bool := false
  last : Nat := 0
  deriving DecidableEq, Repr

/-- A section of a container as Lehr has formed it (R323, R325): type, encoding, flags, AUX, decoded length, stored body. -/
structure DumpSect where
  ty : Nat
  enc : Nat := 0
  sflags : Nat := 0
  aux : Nat := 0
  raw : Nat := 0
  body : List Nat := []
  deriving DecidableEq, Repr

/-- A copy of the container being written (R309): its slot (4 is the implicit KEEP), type, address and size, whether it is
alive, the offset of the next section and of the one open, its table entries, and the writes not yet issued (R322). -/
structure DumpDest where
  slot : Nat
  ty : Nat
  addr : Nat := 0
  size : Nat := 0
  alive : Bool := true
  off : Nat := 0x280
  opened : Option Nat := none
  table : List (List Nat) := []
  queue : List (Nat × List Nat) := []
  deriving DecidableEq, Repr

/-- One thing P3 has to read (R302, R303): a window, the table entry of a unit, the descriptor's context records. -/
inductive P3Item where
  | win (unit idx tag addr len flags : Nat)
  | tbl (unit : Nat)
  | desc (addr : Nat)
  deriving DecidableEq, Repr

/-- The Lehr crash-dump service (R292 to R319): requests not yet accepted; the running dump's request, acceptance, START_TS,
budgets in ns as scaled at acceptance, deadline of its phase, cut; what its phases have gathered; its copies; the KEEP area,
its container and the directory entry it pins. -/
structure LehrState where
  asked : List DumpReq := []
  running : Bool := false
  req : Option DumpReq := none
  trig : Nat := 0xFFFFFFFF
  acceptTs : Nat := 0
  startTs : Nat := 0
  total : Nat := 0
  sealRes : Nat := 0
  buds : List Nat := []
  deadline : Nat := 0
  atLimit : Bool := false
  lateP5 : Bool := false
  tick : Option Nat := none
  cutCls : Nat := 0
  adopted : Bool := false
  p1Deadline : Nat := 0
  p1Dir : Option Nat := none
  p1Over : Bool := false
  item : Nat := 0
  freezeTs : Nat := 0
  ctrRecs : Option (List CtrRec) := none
  attrRecs : Option (List CtrRec) := none
  striaAsked : Nat := 0
  striaOut : List (Nat × List Nat) := []
  job : Option LineJob := none
  gath : List Nat := []
  gathN : Nat := 0
  todo : List P3Item := []
  item3 : Option P3Item := none
  windows : List (List Nat) := []
  badPlan : Nat := 0
  noBase : Nat := 0
  ctxStatus : Nat := 0
  ctxUnit : Nat := 0
  formed : List DumpSect := []
  current : Option DumpSect := none
  dests : List DumpDest := []
  late : Nat := 0
  incomplete : Bool := false
  trunc : Bool := false
  single : Bool := false
  aborted : Bool := false
  pert : Bool := false
  ended : Nat := 0
  keep : Mem := []
  keepSects : List DumpSect := []
  keepHead : List Nat := []
  keepDir : Option Nat := none
  deriving DecidableEq, Repr

/-- The stream reads of one cut of a ledger command (R365 steps 1 to 3): cuts tried, the tick and the count at it, the words
still owed, the values so far and the streams found absent. -/
structure StreamRead where
  tries : Nat := 0
  tick : Option Nat := none
  count : Nat := 0
  owed : List (Nat × Nat) := []
  vals : SMap Nat := []
  absent : List Nat := []
  deriving DecidableEq, Repr

/-- A LEDGER_RECORD (R365): phase 0 a cut is wanted, 1 asked for, 2 the streams are read, 3 the write is wanted, 4 written. -/
structure RecordJob where
  cmd : CmdKey
  start : Nat
  deadline : Nat
  phase : Nat := 0
  sr : StreamRead := {}
  deriving DecidableEq, Repr

/-- A LEDGER_CHECK (R367, R368): the index looked at and how many are left to look at; phase 0 to 2 as for a record, 5 the
search; the entry found. -/
structure CheckJob where
  cmd : CmdKey
  start : Nat
  deadline : Nat
  phase : Nat := 5
  idx : Nat := 0
  left : Nat := 0
  job : LineJob := {}
  entry : List Nat := []
  sr : StreamRead := {}
  deriving DecidableEq, Repr

/-- A MIRROR_VERIFY (R370, R372): the partner's node, whether its request has been sent, the local digest where formed and
whether it is good, the partner's STATUS and digest. -/
structure VerifyJob where
  cmd : CmdKey
  node : Nat
  start : Nat
  deadline : Nat
  sent : Bool := false
  mine : Option (Bool × Nat) := none
  rsp : Option (Nat × Nat) := none
  deriving DecidableEq, Repr

/-- A shard of a fill plan (R373, R375). State 0 FILLED, 1 PARTIAL, 2 UNFILLED, 3 VERIFY_FAIL; bytes acknowledged. -/
structure Shard where
  sid : Nat
  src : Nat
  dst : Nat
  len : Nat
  state : Nat := 2
  acked : Nat := 0
  deriving DecidableEq, Repr

/-- A COPY (R373 to R375): its plan once read, the shard in work, its line run, lines written, the digests of its verify; the cause
of its end with its TS where one has come. -/
structure CopyJob where
  cmd : CmdKey
  start : Nat
  deadline : Nat
  plan : Option (List Shard) := none
  cur : Nat := 0
  job : LineJob := {}
  written : Nat := 0
  verifying : Bool := false
  sent : Bool := false
  dsrc : Option (Bool × Nat) := none
  ddst : Option (Bool × Nat) := none
  failing : Option (Nat × Nat) := none
  deriving DecidableEq, Repr

/-- What a region digest is for (R369). -/
inductive DigestUse where
  | verify
  | partner (node tag : Nat)
  | copySrc
  | copyDst
  deriving DecidableEq, Repr

/-- A region the digest unit has been asked for (R369): its sum so far. -/
structure DigestJob where
  use : DigestUse
  addr : Nat
  len : Nat
  job : LineJob := {}
  acc : Nat := 0
  deriving DecidableEq, Repr

/-- The continuity services (R363 to R378): the ledger scan, the commands that run, the digest unit's regions in order. -/
structure ContState where
  scan : Option LineJob := none
  rcd : Option RecordJob := none
  chk : Option CheckJob := none
  mv : Option VerifyJob := none
  copy : Option CopyJob := none
  digests : List DigestJob := []
  deriving DecidableEq, Repr

/-- An operation of the one-time-programmable memory (R502): OP, FIELD, the value to program, the ERR it ends with where that
is settled at its start, TS of its start. -/
structure OtpOp where
  op : Nat
  fld : Nat
  value : Nat
  err : Nat
  start : Nat
  deriving DecidableEq, Repr

/-- The one-time-programmable fields (R502): set fields hold their value; the DEV_KEY's private key; raises made; the operation
that runs. -/
structure OtpState where
  vals : SMap Nat := []
  devKey : Option Nat := none
  raises : SMap Nat := []
  running : Option OtpOp := none
  deriving DecidableEq, Repr

/-- A gaffer core (R456, R465, R467): the registers a debugger sees while it is halted (0 to 31 G, 32 PC, 33 STATUS), the TS of the
watchdog's last restart, its deadline, the remainder while it is paused, whether it has been paused since, the CORECLK cycle
of a deferred halt request, the priority of the work it handles. -/
structure GafCore where
  regs : SMap Nat := []
  wdFrom : Nat := 0
  wdDead : Nat := 0
  wdRem : Option Nat := none
  pausedEver : Bool := false
  deferFrom : Option Nat := none
  work : Option Nat := none
  deriving DecidableEq, Repr

/-- The gaffer cores and their memories (R455): SRAM and patch RAM words by word index, an unlisted SRAM word being undefined.
The KEEP area is Lehr's. -/
structure GafState where
  core0 : GafCore := {}
  core1 : GafCore := {}
  sram : SMap Nat := []
  patch : SMap Nat := []
  deriving DecidableEq, Repr

/-- The C access of the Rolsal port that is pending (R478): its number, direction, window and register, the data of a write, TS of its
start, whether a bus access or a station access of it is out, and the data or the error an answer has brought. -/
structure RsAccess where
  n : Nat
  read : Bool
  win : Nat
  reg : Nat
  value : Nat := 0
  start : Nat := 0
  out : Bool := false
  answer : Option (Bool × Nat) := none
  deriving DecidableEq, Repr

/-- Rolsal authentication (R487 to R489): STATE, whether STATE was CHALLENGED at VERIFY, the output bytes below HSIG, ERR, FAILS, TS until which BEGIN is ignored; Nh, eh, Eh; the input bytes written,
HSIG; AUTH_SEQ, SK, the SERIALs of the session's chain, leaf first, the TS at which the session expires. -/
structure AuthState where
  st : Nat := 0
  challenged : Bool := false
  out : List Nat := []
  err : Nat := 0
  fails : Nat := 0
  waitUntil : Nat := 0
  nh : Nat := 0
  eh : Nat := 0
  pub : Nat := 0
  wptr : Nat := 0
  input : List Nat := []
  hsig : Nat := 0
  seq : Nat := 0
  sk : Nat := 0
  serials : List Nat := []
  expires : Option Nat := none
  deriving DecidableEq, Repr

/-- The Rolsal port (R472 to R491): LOCKOUT, RS_CTL, the sticky errors and their cause, PROTO_ERRS; the session's class; packets since the
last renewal, RENEW_DUE; DAM_MODE and DAM_ADDR; the pending access and the number of the last one; the last read, and the last
write accepted, as (window, register, tag); the data kept for a repeat and whether it is still to be delivered; window 3: drain
active, LIMIT, REFUSED, CAUSE, DRN_COUNT, words of the block delivered, the block's ordinal, STOP asked; authentication; TS of the last
request accepted; the last response driven (7 the undriven line) and its data. -/
structure RolsalState where
  lockout : Bool := true
  idleTmo : Nat := 1000
  damTmo : Nat := 100
  wdataPar : Bool := false
  accErr : Bool := false
  accTmo : Bool := false
  accCause : Nat := 0
  protoErrs : Nat := 0
  sessClass : Nat := 0
  count : Nat := 0
  renewDue : Bool := false
  mode : Nat := 8
  addr : Nat := 0
  acc : Option RsAccess := none
  accNum : Nat := 0
  lastRead : Option (Nat × Nat × Nat) := none
  lastWrite : Option (Nat × Nat × Nat) := none
  kept : Option Nat := none
  fresh : Bool := false
  drain : Bool := false
  drnLimit : Nat := 0
  drnRefused : Bool := false
  drnCause : Nat := 0
  drnCount : Nat := 0
  drnWord : Nat := 0
  drnOrd : Nat := 0
  drnStop : Bool := false
  auth : AuthState := {}
  lastReq : Nat := 0
  response : Nat := 7
  data : Nat := 0
  deriving DecidableEq, Repr

/-- The whole state of the block. -/
structure State where
  pending : List Instr := []
  regs : SMap Word := []
  wide : List WideHold := []
  clk : ClockState := {}
  pins : PinState := {}
  stations : SMap Station := []
  spine : SpineState := {}
  slot : SlotState := {}
  shear : ShearState := {}
  cullet : CulletState := {}
  ctr : CtrState := {}
  trace : TraceState := {}
  stria : StriaState := {}
  dl : DeadlineState := {}
  lehr : LehrState := {}
  ladder : LadderState := {}
  notice : NoticeState := {}
  rings : RingState := {}
  bus : BusState := {}
  job : JobState := {}
  gather : GatherState := {}
  mbx : MbxState := {}
  cont : ContState := {}
  otp : OtpState := {}
  gaf : GafState := {}
  rolsal : RolsalState := {}
  fresh : Nat := 0
  deriving DecidableEq, Repr

/-- Why the block stops with a fault. -/
inductive Fault where
  /-- Raised by HUB_COLD_RELEASE where TEST_SCAN_EN is 1: the hub's behaviour in scan mode is undefined (R523). Safe: the run stops. -/
  | scanMode
  deriving DecidableEq, Repr

/-- Why a command is refused. -/
inductive Refusal where
  /-- Raised by Dispatch for a command with no meaning yet. Safe: the run stops. -/
  | notModelled (mnemonic : String)
  deriving DecidableEq, Repr

/-- The block right after the release of HUB_COLD_N (R539): every register at its reset value, nothing queued. -/
def State.reset : State := {}

end Sys2Proof.Machine
end

