-- ==== Sys2Proof/Machine/Ops.lean ====
section
/-! DEFINITION. The named operations over the state: numbers and bytes, sparse maps, the register file and its fields,
time, free values. Every other file of the machine reads and writes the state through these. -/

namespace Sys2Proof.Machine

open Host (Outcome)

/-! ### Numbers and bytes (R8: little-endian) -/

/-- Bits [lo + w - 1 : lo] of a number. -/
def bitsOf (n lo w : Nat) : Nat := (n >>> lo) % 2 ^ w

/-- Bit i of a number. -/
def bitOf (n i : Nat) : Bool := bitsOf n i 1 == 1

def b2n (b : Bool) : Nat := if b then 1 else 0

/-- The k low bytes of a number, lowest first. -/
def toLe (k n : Nat) : List Nat := (List.range k).map (fun i => bitsOf n (8 * i) 8)

/-- A number from its bytes, lowest first. -/
def ofLe : List Nat → Nat
  | [] => 0
  | b :: bs => b % 256 + 256 * ofLe bs

/-- The little-endian field of `k` bytes at offset `off`. -/
def leAt (bs : List Nat) (off k : Nat) : Nat := ofLe ((bs.drop off).take k)

/-- The 32-bit words of a byte list, lowest first. -/
def wordsOf : List Nat → List Nat
  | b0 :: b1 :: b2 :: b3 :: rest => ofLe [b0, b1, b2, b3] :: wordsOf rest
  | [] => []
  | bs => [ofLe bs]

/-- The bytes of a list of words. -/
def bytesOfWords (ws : List Nat) : List Nat := ws.flatMap (toLe 4)

/-- A byte list padded with zeros to a multiple of `k`. -/
def padTo (k : Nat) (bs : List Nat) : List Nat :=
  if k = 0 then bs else bs ++ List.replicate ((k - bs.length % k) % k) 0

/-- Addition that stays at the maximum of `w` bits (a saturating counter). -/
def satAdd (w n d : Nat) : Nat := min (n + d) (2 ^ w - 1)

/-- The number with bit i set, or cleared. -/
def setBit (n i : Nat) (b : Bool) : Nat :=
  if bitOf n i then (if b then n else n - 2 ^ i) else (if b then n + 2 ^ i else n)

/-- How many of the low `w` bits are 1. -/
def popCount (w n : Nat) : Nat := ((List.range w).filter (fun i => bitOf n i)).length

/-- The positions of the low `w` bits that are 1, rising. -/
def bitsSet (w n : Nat) : List Nat := (List.range w).filter (fun i => bitOf n i)

/-- The lowest of the low `w` bits that is 1. -/
def lowestBit (w n : Nat) : Option Nat := (List.range w).find? (fun i => bitOf n i)

/-! ### Sparse maps -/

/-- Insert or replace, keeping the keys in rising order. -/
def mput {α : Type} (m : SMap α) (k : Nat) (v : α) : SMap α :=
  match m with
  | [] => [(k, v)]
  | (k', v') :: rest =>
    if k < k' then (k, v) :: (k', v') :: rest
    else if k = k' then (k, v) :: rest
    else (k', v') :: mput rest k v

/-- Remove a key. -/
def mdel {α : Type} (m : SMap α) (k : Nat) : SMap α := m.filter (fun p => p.1 ≠ k)

def mget? {α : Type} (m : SMap α) (k : Nat) : Option α :=
  match m with
  | [] => none
  | (k', v) :: rest => if k' = k then some v else mget? rest k

def mget {α : Type} (m : SMap α) (k : Nat) (d : α) : α := (mget? m k).getD d

/-- Change the value at a key, starting from `d` where the key is not listed. -/
def mmod {α : Type} (m : SMap α) (k : Nat) (d : α) (f : α → α) : SMap α := mput m k (f (mget m k d))

/-- Replace the first element that satisfies `p`. -/
def replaceFirst {α : Type} (p : α → Bool) (f : α → α) : List α → List α
  | [] => []
  | x :: xs => if p x then f x :: xs else x :: replaceFirst p f xs

/-- Remove the first element that satisfies `p`. -/
def removeFirst {α : Type} (p : α → Bool) : List α → List α
  | [] => []
  | x :: xs => if p x then xs else x :: removeFirst p xs

/-- Replace element i of a list; a list too short is first filled with `d`. -/
def setAt {α : Type} (d : α) : List α → Nat → α → List α
  | [], 0, v => [v]
  | [], i + 1, v => d :: setAt d [] i v
  | _ :: xs, 0, v => v :: xs
  | x :: xs, i + 1, v => x :: setAt d xs i v

/-! ### Addressed buffers: the trace ring, the cullet buffer, the slot image store, gaffer memories -/

/-- The byte at an address; an unlisted byte reads 0. -/
def memGet (m : Mem) (a : Nat) : BitVec 8 :=
  match m with
  | [] => 0
  | (k, v) :: rest => if k = a then v else memGet rest a

/-- Store one byte, keeping the addresses rising and no entry 0. -/
def memPut (m : Mem) (a : Nat) (b : BitVec 8) : Mem :=
  match m with
  | [] => if b = 0 then [] else [(a, b)]
  | (k, v) :: rest =>
    if a < k then (if b = 0 then (k, v) :: rest else (a, b) :: (k, v) :: rest)
    else if a = k then (if b = 0 then rest else (a, b) :: rest)
    else (k, v) :: memPut rest a b

/-- Store consecutive bytes. -/
def memPutBytes (m : Mem) (a : Nat) : List Nat → Mem
  | [] => m
  | b :: bs => memPutBytes (memPut m a (BitVec.ofNat 8 b)) (a + 1) bs

/-- `n` consecutive bytes. -/
def memGetBytes (m : Mem) (a n : Nat) : List Nat := (List.range n).map (fun i => (memGet m (a + i)).toNat)

/-- Every address lies above a bound, and the addresses rise. -/
def Memory.risesAbove (lo : Nat) : Mem → Bool
  | [] => true
  | (k, v) :: rest => decide (lo ≤ k) && v != 0 && Memory.risesAbove (k + 1) rest

/-- The canonical form of a buffer: rising addresses, no entry 0. -/
def Memory.wf (m : Mem) : Bool := Memory.risesAbove 0 m

/-! ### The register file -/

/-- Register file contents in canonical form: a register at its reset value is not listed. -/
def regPut (m : SMap Word) (a : Nat) (v : Word) : SMap Word :=
  if v = regReset a then mdel m a else mput (mdel m a) a v

/-- The stored value of a register (R4). -/
def State.rd (s : State) (a : Nat) : Word := mget s.regs a (regReset a)

/-- Store a register. -/
def State.wr (s : State) (a : Nat) (v : Word) : State := { s with regs := regPut s.regs a v }

/-- The mask of a field inside its register. -/
def Fld.mask (f : Fld) : Word := BitVec.ofNat 32 ((2 ^ f.width - 1) * 2 ^ f.lo)

/-- Read a field. -/
def State.fg (s : State) (f : Fld) : Nat := bitsOf (s.rd f.addr).toNat f.lo f.width

/-- Is a one-bit field 1. -/
def State.fb (s : State) (f : Fld) : Bool := s.fg f != 0

/-- Put a value into a field of a word; the other bits of the word stay. -/
def Fld.put (f : Fld) (w : Word) (n : Nat) : Word :=
  (w &&& ~~~ f.mask) ||| (BitVec.ofNat 32 ((n % 2 ^ f.width) * 2 ^ f.lo))

/-- Write a field; the register's other bits stay. -/
def State.fs (s : State) (f : Fld) (n : Nat) : State := s.wr f.addr (f.put (s.rd f.addr) n)

/-- Add to a counter field that saturates. -/
def State.fsat (s : State) (f : Fld) (d : Nat) : State := s.fs f (satAdd f.width (s.fg f) d)

/-- The 64-bit value of a register pair (R5): low word at the lower offset. -/
def State.rd64 (s : State) (lo hi : Nat) : Nat := (s.rd lo).toNat + 2 ^ 32 * (s.rd hi).toNat

def State.wr64 (s : State) (lo hi : Nat) (v : Nat) : State :=
  (s.wr lo (BitVec.ofNat 32 v)).wr hi (BitVec.ofNat 32 (v >>> 32))

def State.wrN (s : State) (a n : Nat) : State := s.wr a (BitVec.ofNat 32 n)

def State.rdN (s : State) (a : Nat) : Nat := (s.rd a).toNat

/-- Write consecutive registers from a list of words. -/
def State.wrWords (s : State) (a : Nat) (ws : List Nat) : State :=
  match ws with
  | [] => s
  | w :: rest => (s.wrN a w).wrWords (a + 4) rest

/-- Read `n` consecutive registers. -/
def State.rdWords (s : State) (a n : Nat) : List Nat := (List.range n).map (fun i => s.rdN (a + 4 * i))

/-! ### Time (R101, R2) -/

/-- The package TS in ns: the integer part of the accumulator, modulo 2^64. -/
def State.ts (s : State) : Nat := (s.clk.acc >>> 32) % 2 ^ 64

/-- CORECLK cycles since the release of HUB_COLD_N (R532: two CNCLK cycles each). -/
def State.core (s : State) : Nat := s.clk.cyc / 2

/-- A deadline of length B from a is missed once TS exceeds a + B (R110). -/
def State.past (s : State) (deadline : Nat) : Bool := decide (deadline < s.ts)

/-- A value nothing constrains; the counter that makes each one new advances. -/
def State.free (s : State) : Nat × State :=
  (Config.freeWord s.fresh, { s with fresh := s.fresh + 1 })

/-- Answer a next state. -/
def ok (s : State) : Outcome State Fault Refusal := .next s

/-- The hub runs: the root clock is there and HUB_COLD_N is released (R532, R534). -/
def State.runs (s : State) : Bool := s.clk.rootRuns && !s.clk.cold

/-- A command that only a running hub takes; otherwise nothing happens. -/
def State.act (s : State) (f : State → Outcome State Fault Refusal) : Outcome State Fault Refusal :=
  if s.runs then f s else ok s

/-- A command that neither reset lets happen (R540). -/
def State.awake (s : State) (f : State → Outcome State Fault Refusal) : Outcome State Fault Refusal :=
  if s.runs && !s.clk.warm then f s else ok s

/-- Apply an operation where a condition holds. -/
def State.when (s : State) (c : Bool) (f : State → State) : State := if c then f s else s

end Sys2Proof.Machine
end

