-- ==== Sys2Proof/Machine/Flits.lean ====
section
/-! DEFINITION. Flits of the cane network (R60 to R62, R69, R70, R72): the 40-bit word and its parity, which TYPE and ATTR a slot
class admits, the flits of an upstream message, the order of a message's flits. -/

namespace Sys2Proof.Machine

/-! ### The word (R61) -/

def flitType (f : Nat) : Nat := bitsOf f 1 3
def flitAttr (f : Nat) : Nat := bitsOf f 4 4
def flitPay (f : Nat) : Nat := bitsOf f 8 32

/-- An odd number of ones in the 40 bits. -/
def flitOdd (f : Nat) : Bool := popCount 40 f % 2 == 1

/-- A flit with its PAR. -/
def mkFlit (ty attr pay : Nat) : Nat :=
  let w := 2 * (ty % 8) + 16 * (attr % 16) + 2 ^ 8 * (pay % 2 ^ 32)
  w + (1 - popCount 40 w % 2)

def emptyFlit : Nat := mkFlit 0 0 0

/-- MARK word k of a payload as it reaches a station (R68): with the payload bits of `inv` inverted, and PAR too unless `par`. -/
def markFlit (k pay inv : Nat) (par : Bool) : Nat := mkFlit 7 k pay ^^^ (2 ^ 8 * (inv % 2 ^ 32) + b2n (!par))

/-! ### Which TYPE a slot admits (R60, R62, R70, R72) -/

/-- A flit of these types carries nothing: EMPTY, ABSENT. -/
def blankFlit (f : Nat) : Bool := flitAttr f == 0 && flitPay f == 0

/-- Is the TYPE of a flit, with its ATTR, allowed in upstream slot k: DATA takes the kinds 0 to 6, NOTICE the NOTE alone and in its slot 0
the echo, REDUCE the words of a reduction. -/
def legalUp (k f : Nat) : Bool :=
  let t := flitType f
  let a := flitAttr f
  if t = 0 ∨ t = 5 then blankFlit f
  else if k % 16 = 0 then t == 6
  else if k % 16 = 8 then (if k = 8 then t == 7 && a == 0 else t == 1 && a == 7)
  else if t = 1 ∨ t = 2 then decide (a < 7)
  else t == 3 || t == 4

/-- Sub-commands of CTR_CMD, STRIA_CMD and TRACE_CMD that are reserved (R191, R222, R265). -/
def reservedSub (kind sub : Nat) : Bool :=
  (kind == 5 && decide (3 < sub)) || (kind == 6 && decide (2 < sub)) || (kind == 7 && decide (4 < sub))

/-- The same downstream: COMMAND takes the kinds 0 to 7, less their reserved sub-commands, NOTICE the MARK words in its slots 0 to 2 and the
NOTE in the others. -/
def legalDown (k f : Nat) : Bool :=
  let t := flitType f
  let a := flitAttr f
  if t = 0 then blankFlit f
  else if k % 16 = 0 then (if k < 48 then t == 7 && a == k / 16 else t == 1 && a == 8)
  else if t = 1 ∨ t = 2 then decide (a < 8) && !reservedSub a (flitPay f % 16)
  else t == 3 || t == 4

/-! ### The flits of a message (R69, R72) -/

/-- Flit i of an upstream message: HEAD, then its body words, the last of them in the TAIL; a message without body is one SOLO flit. -/
def upFlit (m : UpMsg) (i : Nat) : Nat :=
  let l := m.words.length
  if i = 0 then mkFlit (if l = 0 then 1 else 2) m.kind (l + 2 ^ 16 * m.head)
  else mkFlit (if i = l then 4 else 3) ((i - 1) % 16) (m.words.getD (i - 1) 0)

/-- The flit a station last put into a slot of its own; EMPTY where nothing of a message is on its way. -/
def Station.lastFlit (x : Station) : Nat :=
  match x.sending, x.air.getLast? with
  | some m, _ => if x.sent = 0 then emptyFlit else upFlit m (x.sent - 1)
  | none, some m => upFlit m m.words.length
  | none, none => emptyFlit

/-- A BODY or TAIL flit goes on with a message. -/
def goesOn (f : Nat) : Bool := flitType f == 3 || flitType f == 4

/-- A flit begins a message. -/
def begins (f : Nat) : Bool := flitType f == 1 || flitType f == 2

/-- A flit out of the order in which its station sends: a message that begins within another, a body word where none is in progress or with
the index of another. -/
def outOfOrder (f e : Nat) : Bool := (begins f && goesOn e) || (goesOn f && (!goesOn e || flitAttr f != flitAttr e))

/-- A downstream flit that does not fit its place in its message. -/
def wrongPlace (f idx : Nat) : Bool := if idx = 0 then goesOn f else begins f || (goesOn f && flitAttr f != (idx - 1) % 16)

end Sys2Proof.Machine
end

