-- ==== Sys2Proof/Machine/Access.lean ====
section
/-! DEFINITION. Who may reach a register and what a plain access does: the class of an identity (R492 to R494), the
default rule of R496 with its refusals, the access types of R6, and the shadows of wide registers (R5). -/

namespace Sys2Proof.Machine

/-- The class of an identity (R492): 0 NONE, 1 TENANT, 2 OPERATOR, 3 CUSTODIAN. Gaffer cores pass every check. -/
def State.classOf (s : State) (m : Nat) : Nat :=
  if m = 0 ∨ m = 1 then 3
  else if m = 2 then s.rolsal.sessClass
  else if 3 ≤ m ∧ m ≤ 51 then
    if s.fb F.CUST_GRANT_VALID && s.fg F.CUST_GRANT_ID == m && (m == 3 || 36 ≤ m) then 3
    else bitsOf (s.rdN (R.PRIV_MAP (m / 16))) (2 * (m % 16)) 2
  else 0

/-- Does an identity pass the check a register asks for (R492: each class passes a lower class's checks). -/
def State.passes (s : State) (m : Nat) : Need → Bool
  | .open_ => true
  | .tenant => decide (1 ≤ s.classOf m)
  | .operator => decide (2 ≤ s.classOf m)
  | .custodian => decide (3 ≤ s.classOf m)
  | .byRule => true

/-- The register window target takes requests: no reset asserted, the OTP read complete (R539), and the 64 CORECLK after
a warm release past (R541). -/
def State.windowOpen (s : State) : Bool :=
  s.clk.rootRuns && !s.clk.cold && !s.clk.warm && s.clk.otpRead && s.clk.windowTakes

/-- A refused access is counted in PRIV_REJ and its offset recorded (R496). -/
def refuseAccess (m a : Nat) (s : State) : State :=
  ((s.fsat F.PRIV_REJ_COUNT 1).fs F.PRIV_REJ_LAST_ID m).fs F.PRIV_REJ_OFF_OFFSET a

/-- A master's access to register `a` that needs `n`: taken, refused and counted (R496), or not taken at all while the
window is closed (R540). -/
def State.gate (s : State) (m a : Nat) (n : Need) (f : State → State) : State :=
  if !s.windowOpen then s
  else if s.passes m n then f s
  else refuseAccess m a s

/-- A read that is refused returns 0 (R496). -/
def State.readGate (s : State) (m a : Nat) (n : Need) (f : State → Option Nat × State) : Option Nat × State :=
  if s.passes m n then f s else (some 0, refuseAccess m a s)

/-- What a write leaves in a register by its access types (R6): RW bits take the value, RWL bits where unlocked, W1C
bits clear and W1S bits set where the value has a 1; every other bit stays. -/
def writeByTypes (r : RegRow) (locked : Bool) (old v : Word) : Word :=
  let rw := BitVec.ofNat 32 (r.rw ||| (if locked then 0 else r.rwl))
  let w1c := BitVec.ofNat 32 r.w1c
  let w1s := BitVec.ofNat 32 r.w1s
  (((old &&& ~~~ rw) ||| (v &&& rw)) &&& ~~~ (v &&& w1c)) ||| (v &&& w1s)

/-- Is the RWL field of register `a` locked (R501). -/
def State.lockedAt (s : State) (a : Nat) : Bool :=
  if a = R.TIME_INC_LO ∨ a = R.TIME_INC_HI then s.fb F.TIME_CTL_LOCK
  else if R.BIND 0 ≤ a ∧ a < R.BIND 32 then s.fb F.BIND_CTL_LOCK
  else if a = R.RST_CTL then s.fb F.RST_CTL_LOCK
  else if R.PRIV_MAP 0 ≤ a ∧ a < R.PRIV_MAP 4 then s.fb F.PRIV_CTL_LOCK
  else false

/-- The plain write of a register by its access types; an address no row lists is ignored (R7). -/
def plainWrite (a : Nat) (v : Word) (s : State) : State :=
  match regRowAt a with
  | some r => s.wr a (writeByTypes r (s.lockedAt a) (s.rd a) v)
  | none => s

/-- The clearing a read of an RC field makes (R6). -/
def clearRc (a : Nat) (s : State) : State :=
  match regRowAt a with
  | some r => s.wr a (s.rd a &&& ~~~ (BitVec.ofNat 32 r.rc))
  | none => s

/-- A master's held low words or captured upper words of the wide register at `base` (R5). -/
def State.wideOf (s : State) (m base : Nat) (isRead : Bool) : Option (List Nat) :=
  (s.wide.find? (fun h => h.master == m && h.base == base && h.isRead == isRead)).map (·.words)

/-- Hold words for one master at one wide register; what was held before is replaced. -/
def holdWide (m base : Nat) (isRead : Bool) (ws : List Nat) (s : State) : State :=
  { s with wide := ⟨m, base, isRead, ws⟩ ::
      s.wide.filter (fun h => !(h.master == m && h.base == base && h.isRead == isRead)) }

/-- Drop what a master holds at a wide register. -/
def dropWide (m base : Nat) (isRead : Bool) (s : State) : State :=
  { s with wide := s.wide.filter (fun h => !(h.master == m && h.base == base && h.isRead == isRead)) }

/-- The value a read presents at the boundary (RWT_RSP_RDATA, R508). -/
def presentRead (v : Nat) (s : State) : State := { s with pins := { s.pins with lastRead := v } }

/-- The end of a read: a value answered at once is presented; the answer of a station access comes later. -/
def presentAnswer (r : Option Nat × State) : State :=
  match r.1 with
  | some v => presentRead v r.2
  | none => r.2

end Sys2Proof.Machine
end

