-- ==== Sys2Proof/Machine/Events.lean ====
section
/-! DEFINITION. Host memory requests (R510, R511), event entries (R385 to R388), interrupts (R389, R390) and the
completion of a command (R383, R400, R401): the shared operations every service ends in. -/

namespace Sys2Proof.Machine

/-! ### Host memory master -/

/-- Take a request tag. -/
def takeTag (s : State) : Nat × State := (s.bus.tag, { s with bus := { s.bus with tag := s.bus.tag + 1 } })

/-- Issue a host memory read of `len` bytes (R510). -/
def hostRead (ident addr len : Nat) (use : HostUse) (s : State) : State :=
  let (t, s) := takeTag s
  { s with bus := { s.bus with hostRd := s.bus.hostRd ++ [⟨t, ident, addr, [], len, use, s.ts⟩] } }

/-- Issue a host memory write (R510). -/
def hostWrite (ident addr : Nat) (bytes : List Nat) (use : HostUse) (s : State) : State :=
  let (t, s) := takeTag s
  { s with bus := { s.bus with hostWr := s.bus.hostWr ++ [⟨t, ident, addr, bytes, bytes.length, use, s.ts⟩] } }

/-- Issue one write in requests of at most 16 beats of 32 bytes, none of which crosses a 4 KiB boundary (R511): the
pieces end at multiples of 512 bytes. `fuel` bounds the pieces. -/
def hostWriteAll (ident : Nat) (use : HostUse) : Nat → Nat → List Nat → State → State
  | 0, _, _, s => s
  | fuel + 1, addr, bytes, s =>
    if bytes.isEmpty then s
    else
      let n := 512 - addr % 512
      hostWriteAll ident use fuel (addr + n) (bytes.drop n) (hostWrite ident addr (bytes.take n) use s)

/-- Write a byte list to host memory (R402, R511). -/
def hostWriteBytes (ident addr : Nat) (bytes : List Nat) (use : HostUse) (s : State) : State :=
  hostWriteAll ident use (bytes.length / 512 + 2) addr bytes s

/-! ### Interrupts -/

/-- Signal a vector: a pulse, or its pending bit while it is masked (R390). -/
def signalVec (v : Nat) (s : State) : State :=
  if bitOf (s.rd64 R.INT_MASK_LO R.INT_MASK_HI) v then
    s.wr64 R.INT_PEND_LO R.INT_PEND_HI (setBit (s.rd64 R.INT_PEND_LO R.INT_PEND_HI) v true)
  else { s with pins := { s.pins with hubInt := setBit s.pins.hubInt v true } }

/-- A ring enters ERROR, or a write to it fails (R390). -/
def signalRingErr (s : State) : State :=
  signalVec (s.fg F.INT_CTL_ERR_VEC) (s.fs F.INT_STAT_RING_ERR 1)

/-- The entries of event ring r acknowledged and neither signalled nor returned (U, R389). -/
def State.unsig (s : State) (r : Nat) : List (Nat × Nat) := mget s.rings.unsig r []

/-- The signalling condition of R389: ARMED, at least one entry, and COUNT entries or the timer passed. COUNT 0 acts as 1,
TIMER 0 disables the timer. -/
def State.signalDue (s : State) (r : Nat) : Bool :=
  let u := s.unsig r
  let cnt := max 1 (s.fg (F.EQ_MOD_COUNT r))
  let tmr := s.fg (F.EQ_MOD_TIMER r)
  s.fb (F.EQ_STAT_ARMED r) && !u.isEmpty &&
    (decide (cnt ≤ u.length) ||
      (tmr != 0 && (match u with | (_, t) :: _ => s.past (t + tmr * 1000) | [] => false)))

/-- Signal an event ring where the condition holds; ARMED and U become 0 (R389). -/
def trySignal (r : Nat) (s : State) : State :=
  if s.signalDue r then
    let s := (s.fs (F.EQ_STAT_ARMED r) 0)
    signalVec (s.fg (F.EQ_CFG_VEC r)) { s with rings := { s.rings with unsig := mput s.rings.unsig r [] } }
  else s

/-! ### Event rings -/

/-- Entries of a ring: 2^LOG2, where LOG2 outside 6 to 16 acts as 6 (R379, R396). -/
def ringSizeOf (log2 : Nat) : Nat := if 6 ≤ log2 ∧ log2 ≤ 16 then 2 ^ log2 else 64

def State.sqSize (s : State) (r : Nat) : Nat := ringSizeOf (s.fg (F.SQ_CFG_LOG2 r))
def State.eqSize (s : State) (r : Nat) : Nat := ringSizeOf (s.fg (F.EQ_CFG_LOG2 r))

/-- Ring states of R391. -/
def stDisabled : Nat := 0
def stRunning : Nat := 1
def stStopping : Nat := 2
def stError : Nat := 3
def stWarm : Nat := 4

def State.dueOf (s : State) (r : Nat) : List EvEntry := mget s.rings.due r []

def setDue (r : Nat) (l : List EvEntry) (s : State) : State :=
  { s with rings := { s.rings with due := mput s.rings.due r l } }

/-- Take a command off the accepted ones: its ring's OUTST falls by one, and a STOPPING ring with nothing outstanding
becomes DISABLED (R392). -/
def settleSq (r : Nat) (s : State) : State :=
  if s.fg (F.SQ_STAT_STATE r) == stStopping && mget s.rings.ahead r 0 == 0 &&
      !(s.rings.cmds.any (fun c => c.key.ring == r)) then
    s.fs (F.SQ_STAT_STATE r) stDisabled
  else s

def retireCmd (k : CmdKey) (s : State) : State :=
  let s := { s with rings := { s.rings with cmds := removeFirst (fun c => c.key == k) s.rings.cmds } }
  let s := s.fs (F.SQ_STAT_OUTST k.ring) ((s.rings.cmds.filter (fun c => c.key.ring == k.ring)).length)
  settleSq k.ring s

/-- A STOPPING event ring whose formed entries are all written and acknowledged becomes DISABLED (R392). -/
def settleEq (r : Nat) (s : State) : State :=
  if s.fg (F.EQ_STAT_STATE r) == stStopping && (s.dueOf r).isEmpty &&
      !(s.bus.hostWr.any (fun w => match w.use with | .event r' _ _ _ => r' == r | _ => false)) then
    s.fs (F.EQ_STAT_STATE r) stDisabled
  else s

/-- Drop an event for a ring that is disabled, in ERROR, in WARM or of a reset function (R388, R393): counted in
EVT_LOST; a COMPLETION ends its command. -/
def loseEvent (e : EvEntry) (s : State) : State :=
  let s := s.fsat F.EVT_LOST_COUNT 1
  match e.cmd with
  | some k => retireCmd k s
  | none => s

/-- Form an event for ring r (R386): entries keep the order of formation. A ring that is not running takes none: it is
lost (R388, R392). -/
def postEvent (r : Nat) (e : EvEntry) (s : State) : State :=
  if s.fg (F.EQ_STAT_STATE r) == stRunning then setDue r (s.dueOf r ++ [e]) s
  else loseEvent e s

/-- The 32 bytes of an entry (R385): FLAGS carries the phase and whether events were dropped before it. -/
def entryBytes (e : EvEntry) (phase : Nat) (lost : Nat) : List Nat :=
  [e.ty % 256, phase + (if lost = 0 then 0 else 2)] ++ toLe 2 (min lost 0xFFFF) ++ toLe 4 e.a ++ toLe 8 e.ts ++ toLe 16 e.b

/-- Write the oldest due event of ring r at its tail, or drop one, or leave a held COMPLETION (R386, R388). A ring full
of unreturned entries holds a COMPLETION and drops any other type. -/
def writeEventEntry (r : Nat) (s : State) : State :=
  match s.dueOf r with
  | [] => s
  | e :: rest =>
    let st := s.fg (F.EQ_STAT_STATE r)
    if st != stRunning && st != stStopping then loseEvent e (setDue r rest s)
    else
      let size := s.eqSize r
      let tail := s.fg (F.EQ_TAIL_INDEX r)
      let head := s.fg (F.EQ_HEAD_INDEX r)
      if (tail + 1) % size == head % size then
        match (e :: rest).find? (fun x => x.ty != 1) with
        | none => s
        | some x =>
          let s := setDue r (removeFirst (fun y => y == x) (e :: rest)) s
          let s := s.fsat (F.EQ_STAT_LOST r) 1
          { s with rings := { s.rings with lossPend := mmod s.rings.lossPend r 0 (fun n => min (n + 1) 0xFFFF) } }
      else
        let phase := s.fg (F.EQ_STAT_PHASE r)
        let lost := mget s.rings.lossPend r 0
        let base := s.rd64 (R.EQ_BASE_LO r) (R.EQ_BASE_HI r) / 4096 * 4096
        let s := setDue r rest s
        let s := { s with rings := { s.rings with lossPend := mput s.rings.lossPend r 0 } }
        let s := hostWrite (s.fg (F.EQ_CFG_OWNER r)) (base + 32 * tail) (entryBytes e phase lost)
          (.event r (e.ty == 1) e.cmd tail) s
        let s := s.fs (F.EQ_TAIL_INDEX r) ((tail + 1) % size)
        if tail + 1 == size then s.fs (F.EQ_STAT_PHASE r) (1 - phase) else s

/-- Change a command by its key. -/
def modCmd (k : CmdKey) (f : Cmd → Cmd) (s : State) : State :=
  { s with rings := { s.rings with cmds := replaceFirst (fun c => c.key == k) f s.rings.cmds } }

def State.cmd? (s : State) (k : CmdKey) : Option Cmd := s.rings.cmds.find? (fun c => c.key == k)

/-- A field of a command's descriptor (R397). -/
def Cmd.fld (c : Cmd) (off k : Nat) : Nat := leAt c.desc off k

def Cmd.opcode (c : Cmd) : Nat := c.fld 0 1

/-- The COMPLETION event of a command (R387, R400). RING_ERR is bit 22 of A. -/
def completionEvent (k : CmdKey) (opcode status user result ts ringErr : Nat) (cmd : Option CmdKey) : EvEntry :=
  ⟨1, opcode + 2 ^ 8 * status + 2 ^ 16 * k.ring + 2 ^ 22 * ringErr, ts,
    user + 2 ^ 64 * k.idx + 2 ^ 96 * (result % 2 ^ 32), cmd⟩

/-- Commands that report their tick (R400): RESULT is the entry's TS minus the tick's TS, saturating. -/
def reportsTick (opcode : Nat) : Bool := opcode == 0x40 || opcode == 0x41 || opcode == 0x42 || opcode == 0x43

/-- Complete a command with a status and a RESULT: its COMPLETION is formed for its ring's event ring (R387, R388). A
command of a reset function has its entry suppressed and counted (R393). -/
def completeCmd (k : CmdKey) (status result : Nat) (s : State) : State :=
  match s.cmd? k with
  | none => s
  | some c =>
    if c.phase == .completing then s
    else
      let s := modCmd k (fun c => { c with phase := .completing, status := status, result := result }) s
      let e := completionEvent k c.opcode status (c.fld 8 8) result s.ts 0 (some k)
      if c.suppressed then loseEvent e s else postEvent (s.fg (F.SQ_CFG_EQ k.ring)) e s

/-- Complete a command whose RESULT reports a tick (R400). -/
def completeTick (k : CmdKey) (status tick : Nat) (s : State) : State :=
  completeCmd k status (min (s.ts - tick) 0xFFFFFFFF) s

/-- End a command by writing its result to its host buffer first (R388, R402): the COMPLETION follows the last
acknowledgement. A command with no result bytes, or whose host accesses are suppressed, completes at once. -/
def finishWithBytes (k : CmdKey) (addr : Nat) (bytes : List Nat) (status result : Nat) (s : State) : State :=
  match s.cmd? k with
  | none => s
  | some c =>
    if bytes.isEmpty || c.suppressed then completeCmd k status result s
    else
      let s := modCmd k (fun c => { c with phase := .writing, status := status, result := result }) s
      hostWriteBytes c.owner addr bytes (.result k) s

/-- Is a result write of a command still outstanding. -/
def State.cmdWrites (s : State) (k : CmdKey) : Bool :=
  s.bus.hostWr.any (fun w => match w.use with | .result k' => k' == k | _ => false)

end Sys2Proof.Machine
end

