-- ==== Sys2Proof/Machine/Services.lean ====
section
/-! DEFINITION. The requests one service makes of another: what the slot image says of a unit (R91), perturbation and
budget scaling (R566, R571), forming a notice fan-out (R354, R355), requesting a reset ladder (R336 to R338), asking
Lehr for a dump (R292, R293). -/

namespace Sys2Proof.Machine

/-! ### What the slot image says -/

def State.stnImage? (s : State) (stn : Nat) : Option StationImage := mget? s.slot.stns stn

/-- A station the loaded image populates (R11). -/
def State.populated (s : State) (stn : Nat) : Bool := (s.stnImage? stn).isSome

def State.portImage (s : State) (u : Nat) : PortImage :=
  match s.stnImage? (u / 16) with
  | some i => i.ports.getD (u % 16) {}
  | none => {}

/-- Type of a unit (R19); 7 NONE where the image populates no such unit. -/
def State.unitType (s : State) (u : Nat) : Nat := (s.portImage u).ty

def State.unitPart (s : State) (u : Nat) : Nat := ((s.stnImage? (u / 16)).map (·.part)).getD 0

def State.unitCmask (s : State) (u : Nat) : Bool :=
  ((s.stnImage? (u / 16)).map (fun i => bitOf i.cmask (u % 16))).getD false

/-- Stations of a group (R72, R403): 0 STATION, 1 RIB, 2 PARTITION, 3 ALL. -/
def State.members (s : State) (group target : Nat) : List Nat :=
  (s.slot.stns.filter (fun p =>
    if group = 0 then p.1 == target
    else if group = 1 then p.1 / 64 == target
    else if group = 2 then p.2.part == target
    else true)).map (·.1)

/-! ### The gaffer cores (R457, R458) -/

/-- The firmware of core n is ready (R458). -/
def State.coreReady (s : State) (n : Nat) : Bool := if n = 0 then s.fb F.GAF_STAT_READY_0 else s.fb F.GAF_STAT_READY_1

/-- Core n runs its firmware: READY, and not halted by a debugger. -/
def State.coreUp (s : State) (n : Nat) : Bool := s.coreReady n && !s.fb (F.GAF_DBG_STAT_HALTED n)

/-- The continuity services stand still: a dump runs (R376), or core 1 does not run. -/
def State.contHeld (s : State) : Bool := s.lehr.running || !s.coreUp 1

/-! ### Perturbation -/

/-- A test perturbation is active (R36, R566): TEST_EN is 1 and an enable of PTB_CTL is 1, or withholding still runs at
a station (R574). -/
def State.perturbed (s : State) : Bool := s.fb F.PTB_STAT_ACTIVE

/-- Budget classes of R571. -/
inductive BudClass where
  | cmd | watch | service
  deriving DecidableEq, Repr

/-- The scaling factor in sixteenths a class of budgets is fixed with (R571): SCALE 0 acts as 16. -/
def State.scaleOf (s : State) (c : BudClass) : Nat :=
  let on := s.fb F.SEC_CTL_TEST_EN && s.fb F.PTB_CTL_BUD_EN &&
    (match c with
     | .cmd => s.fb F.PTB_BUDGET_CMD
     | .watch => s.fb F.PTB_BUDGET_WATCH
     | .service => s.fb F.PTB_BUDGET_SERVICE)
  let v := s.fg F.PTB_BUDGET_SCALE
  if on then (if v = 0 then 16 else v) else 16

/-- A non-zero budget of B ns scaled (R571). -/
def scaleBudget (f b : Nat) : Nat := if b = 0 then 0 else if f = 16 then b else max 1 (b * f / 16)

def State.scaled (s : State) (c : BudClass) (b : Nat) : Nat := scaleBudget (s.scaleOf c) b

/-! ### Hits of the central comparators (R215, R216) -/

/-- A sequencer event waits its turn; a disarmed sequencer takes none (R217). -/
def pushSeq (e : SeqEvent) (s : State) : State :=
  if s.fb F.SEQ_STAT_ARMED then { s with trace := { s.trace with events := s.trace.events ++ [e] } } else s

/-- Hits of the comparators of one source that watch the central hub. -/
def centralHits (src : Nat) (f : Nat → Bool) (s : State) : State :=
  (List.range 8).foldl (fun s c =>
    if s.fg (F.TRC_CMP_CTL_SRC c) == src && f c then pushSeq { cmp := c, central := true } s else s) s

/-! ### Notice fan-outs (R354, R355) -/

/-- The hub's own node ID (R14). -/
def State.node (s : State) : Nat := s.fg F.HUB_NODE_NODE

/-! ### The dump master and the fabric port (R14, R512, R514, R569) -/

/-- A perturbation of the ports acts in a CORECLK cycle: the first `hold` of every 16 (R569). -/
def State.portStall (s : State) (en hold : Fld) (core : Nat) : Bool :=
  s.fb F.SEC_CTL_TEST_EN && s.fb en && decide (core % 16 < s.fg hold)

/-- The dump master issues no request in this cycle. -/
def State.dmpStall (s : State) : Bool := s.portStall F.PTB_CTL_DMP_EN F.PTB_PORT_DMP_HOLD s.core

/-- The fabric port presents no bulk beat in this cycle. -/
def State.bulkStall (s : State) : Bool := s.portStall F.PTB_CTL_FAB_EN F.PTB_PORT_FAB_HOLD s.core

/-- The fabric port presents no notice beat in a CORECLK cycle. -/
def State.noticeStall (s : State) (core : Nat) : Bool :=
  s.fb F.PTB_PORT_FAB_NOTICE && s.portStall F.PTB_CTL_FAB_EN F.PTB_PORT_FAB_HOLD core

/-- A request of the dump master's read channel is issued, or waits behind a stall. -/
def issueRead (q : LineReq) (s : State) : State :=
  if s.dmpStall || !s.bus.rdWait.isEmpty then { s with bus := { s.bus with rdWait := s.bus.rdWait ++ [q] } }
  else { s with bus := { s.bus with dmpRd := s.bus.dmpRd ++ [q] } }

/-- The same of its write channel. -/
def issueWrite (q : LineReq) (s : State) : State :=
  if s.dmpStall || !s.bus.wrWait.isEmpty then { s with bus := { s.bus with wrWait := s.bus.wrWait ++ [q] } }
  else { s with bus := { s.bus with dmpWr := s.bus.dmpWr ++ [q] } }

/-- A bulk beat crosses the boundary: a line write is outstanding from then on. -/
def crossBulk (b : FabBeat) (s : State) : State :=
  match b with
  | .msg m => { s with bus := { s.bus with fabSent := s.bus.fabSent ++ [m] } }
  | .line q => { s with bus := { s.bus with fabWr := s.bus.fabWr ++ [{ q with issued := s.ts }] } }

/-- A bulk beat is presented, or waits behind a stall. -/
def presentBulk (b : FabBeat) (s : State) : State :=
  if s.bulkStall || !s.bus.bulkWait.isEmpty then { s with bus := { s.bus with bulkWait := s.bus.bulkWait ++ [b] } }
  else crossBulk b s

/-- Reads asked for and not answered; those that wait behind a stall are among them. -/
def BusState.reads (b : BusState) : List LineReq := b.dmpRd ++ b.fabRd ++ b.rdWait

def FabBeat.lines : FabBeat → List LineReq
  | .msg _ => []
  | .line q => [q]

/-- Line writes made and not acknowledged. -/
def BusState.writes (b : BusState) : List LineReq := b.dmpWr ++ b.fabWr ++ b.wrWait ++ b.bulkWait.flatMap (·.lines)

/-- The oldest read, the oldest write and the oldest bulk beat that wait leave, where their port is not stalled. -/
def readLeaves (s : State) : State :=
  match s.bus.rdWait with
  | q :: l => if s.dmpStall then s
    else { s with bus := { s.bus with rdWait := l, dmpRd := s.bus.dmpRd ++ [{ q with issued := s.ts }] } }
  | [] => s

def writeLeaves (s : State) : State :=
  match s.bus.wrWait with
  | q :: l => if s.dmpStall then s
    else { s with bus := { s.bus with wrWait := l, dmpWr := s.bus.dmpWr ++ [{ q with issued := s.ts }] } }
  | [] => s

def bulkLeaves (s : State) : State :=
  match s.bus.bulkWait with
  | b :: l => if s.bulkStall then s else crossBulk b { s with bus := { s.bus with bulkWait := l } }
  | [] => s

/-- In each CORECLK cycle one request of each channel that waits may leave (R513, R569). -/
def portsTick (s : State) : State := if s.clk.cyc % 2 = 1 then s else bulkLeaves (writeLeaves (readLeaves s))

/-- Budget in ns of a ladder step (R334); the CHIP step waits RST_BUD_COMPUTE for its answer. -/
def State.stepBudget (s : State) (step : Nat) : Nat :=
  s.scaled .service (1000 *
    (if step = 0 then s.fg F.RST_BUD_ENGINE_BUDGET
     else if step = 1 then s.fg F.RST_BUD_PART_BUDGET
     else s.fg F.RST_BUD_COMPUTE_BUDGET))

/-- ns left of a dump that runs or is pending (R355): START_TS + TOTAL − TS. -/
def State.dumpLeft (s : State) : Nat :=
  if s.lehr.running then s.lehr.startTs + s.lehr.total - s.ts
  else if s.lehr.asked.isEmpty then 0
  else s.scaled .service (1000 * s.fg F.LEHR_BUD_TOTAL_TOTAL)

/-- ns of TS that `n` CNCLK cycles take at the current TIME_INC (R101: one increment each two CNCLK cycles). -/
def State.cnclkNs (s : State) (n : Nat) : Nat := n * s.rd64 R.TIME_INC_LO R.TIME_INC_HI / 2 / 2 ^ 32

/-- EXPECT_NS of a FAULT or RESET notice (R355). -/
def State.expectNs (s : State) (stepBud : Nat) : Nat :=
  s.dumpLeft + stepBud + s.fg (F.RHT_BUD_BUDGET 3) * 1000000

/-- The 64 bytes of a PEER_NOTICE (R355). -/
def noticeBytes (s : State) (nclass nseq stepByte expect code unitW ctx epoch partMask seq fseq user : Nat) : List Nat :=
  toLe 1 0x03 ++ toLe 1 nclass ++ toLe 2 nseq ++ toLe 3 s.node ++ toLe 1 stepByte ++ toLe 8 s.ts ++ toLe 8 expect ++
  toLe 2 code ++ toLe 2 unitW ++ toLe 1 ctx ++ toLe 1 epoch ++ toLe 2 partMask ++ toLe 4 seq ++ toLe 4 fseq ++
  toLe 8 s.job.jobId ++ toLe 16 user

/-- The STEP byte (R355): step and its valid bit, MODE, NOPRIO (R357). -/
def State.stepByte (s : State) (step : Option Nat) : Nat :=
  (match step with | some k => k + 4 | none => 0) + 8 * s.fg F.RST_CTL_MODE + 16 * s.fg F.NOTICE_STAT_NOPRIO

/-- Form a fan-out (R354): it joins the queue of 4, or is dropped and counted. Answers whether it was formed. NSEQ counts
the fan-outs formed, this one included. -/
def formFanOut (nclass : Nat) (mk : Nat → List Nat) (budgetFrom : Nat) (cmd : Option CmdKey) (s : State) : Bool × State :=
  if s.notice.queue.length ≥ 4 then (false, s.fsat F.NOTICE_CNT_DROPPED 1)
  else
    let n := (s.notice.nseq + 1) % 2 ^ 16
    let f : FanOut := { nclass := nclass, bytes := mk n, left := s.job.peers, budgetFrom := budgetFrom, cmd := cmd }
    let s := { s with notice := { s.notice with nseq := n, queue := s.notice.queue ++ [f] } }
    (true, s.fs F.NOTICE_STAT_QUEUED s.notice.queue.length)

/-- Partitions a step resets, as PARTMASK (R355). -/
def partMaskOf (s : State) (step unit part : Nat) : Nat :=
  if step = 0 then 2 ^ s.unitPart unit else if step = 1 then 2 ^ part else 0xFFFF

/-- The automatic RESET notice of a step of code 1 or above (R341, R354). -/
def resetNotice (step unit part : Nat) (s : State) : State :=
  if step = 0 || !s.fb F.RST_CTL_AUTO_NOTICE then s
  else
    (formFanOut 1 (fun n => noticeBytes s 1 n (s.stepByte (some step)) (s.expectNs (s.stepBudget step)) 0 0 0 0
      (partMaskOf s step unit part) 0 0xFFFFFFFF 0) s.ts none s).2

/-! ### The reset request word (R338) -/

/-- The word of R338; PAR makes the number of ones odd. -/
def rstqWordOf (step seq unit part : Nat) : Nat :=
  let w := 0xA * 2 ^ 28 + step * 2 ^ 26 + seq * 2 ^ 24 + (if step = 0 then unit * 2 ^ 10 else 0) +
    (if step = 1 then part * 2 ^ 6 else 0)
  if popCount 32 w % 2 = 0 then w + 1 else w

/-- The idle word (R338). -/
def rstqIdle : Nat := 0x50000001

/-- Record a milestone of the ladder with RST_NUM `num` (R351): its TS and one REHEAT_MILESTONE event. A ladder that a
newer one has followed keeps its event and no longer owns RHT_TS. -/
def milestone (m step num ts late : Nat) (s : State) : State :=
  let s := if s.fg F.RST_NUM_NUM == num then s.wr64 (R.RHT_TS_LO m) (R.RHT_TS_HI m) ts else s
  let s := if s.fg F.RST_NUM_NUM == num then s.fs F.RHT_STAT_DONE (setBit (s.fg F.RHT_STAT_DONE) m true) else s
  postEvent (s.fg F.RST_CTL_EVT_RING) ⟨8, m + 8 * step + 32 * late, ts, num, none⟩ s

/-- Drive the request word by R338: the next word follows at least 4 CORECLK of the idle word; a request stays for at least 8, and
until ACCEPTED where its step still runs. -/
def driveRstq (s : State) : State :=
  let l := s.ladder
  let idle := s.pins.rstqWord == rstqIdle
  let put (w : Nat) (next : Option Nat) : State :=
    { s with pins := { s.pins with rstqWord := w }, ladder := { l with wordFrom := s.core, nextWord := next } }
  if idle then
    match l.nextWord with
    | some w => if l.wordFrom + 4 ≤ s.core then put w none else s
    | none => s
  else if (l.nextWord.isSome || !l.running || l.accepted.isSome) && decide (l.wordFrom + 8 ≤ s.core) then put rstqIdle l.nextWord
  else s

/-- Present a step of the ladder (R341, RESET_STEP_PRESENT): the counter advances, the request word is driven after the
idle word, a is this TS and the step's budget is fixed, and the step's own notice is formed. -/
def presentStep (step unit part : Nat) (s : State) : State :=
  let seq := (s.ladder.seq + 1) % 4
  let budget := s.stepBudget step
  let s := driveRstq { s with
    ladder := { s.ladder with step := step, unit := unit, part := part, seq := seq, start := s.ts, accepted := none,
                              nextWord := some (rstqWordOf step seq unit part), budget := budget } }
  let s := (s.fs F.RST_STAT_STEP (step + 1)).fs F.RHT_STAT_STEP (step + 1)
  let s := if step = 3 then s.fs F.RST_STAT_CHIP_REQ 1 else s
  let s := if step = 1 || step = 3 then
      { s with cont := { s.cont with copy := s.cont.copy.map (fun c =>
        if c.failing.isNone then { c with failing := some (4, s.ts) } else c) } }
    else s
  resetNotice step unit part s

/-- Does the COMPUTE step reset a unit (R334): every type but MEMCH, LINK and NONE, GENERIC only with its CMASK bit. -/
def State.computeResets (s : State) (u : Nat) : Bool :=
  let t := s.unitType u
  t == 0 || t == 1 || t == 4 || (t == 5 && s.unitCmask u)

/-- Is a request covered by a step (R337). -/
def State.covered (s : State) (step unit part : Nat) (q : ResetReq) : Bool :=
  if step = 3 then true
  else if q.step = 0 then
    if step = 0 then q.unit == unit
    else if step = 1 then s.unitPart q.unit == part
    else s.computeResets q.unit
  else if q.step = 1 then step == 1 && q.part == part
  else if q.step = 2 then step == 2
  else false

/-- The step a request is taken as: in compute-scoped mode PARTITION is taken as COMPUTE (R335). -/
def State.asMode (s : State) (q : ResetReq) : ResetReq :=
  if s.fg F.RST_CTL_MODE == 1 && q.step == 1 then { q with step := 2, part := 0 } else q

/-- Does a request name something it can reset (R336). -/
def State.resettable (s : State) (q : ResetReq) : Bool :=
  if q.step = 0 then
    let t := s.unitType q.unit
    t == 0 || t == 1 || t == 4 || t == 5
  else if q.step = 1 then decide (q.part < s.slot.npart)
  else true

/-- Start a ladder at a request's step (R341): RST_NUM counts it, RHT_STAT and every RHT_TS are cleared (R351), the first
step is presented and milestone REQUEST recorded. -/
def startLadder (q : ResetReq) (s : State) : State :=
  let q := s.asMode q
  let num := (s.fg F.RST_NUM_NUM + 1) % 2 ^ 32
  let s := s.fs F.RST_NUM_NUM num
  let s := s.wr R.RHT_STAT 0
  let s := (List.range 8).foldl (fun s m => s.wr64 (R.RHT_TS_LO m) (R.RHT_TS_HI m) 0) s
  let s := s.fs F.RST_STAT_CHIP_REQ 0
  let s := { s with ladder := { s.ladder with
    running := true, escalated := false, reheat := false
    ctx := (match q.src with | .policy _ c => c | _ => 0)
    reqUnit := (if q.step = 0 then some q.unit else none)
    cmds := (match q.src with | .command k => [(k, false)] | _ => []) } }
  let s := presentStep q.step q.unit q.part s
  let s := { s with ladder := { s.ladder with firstStart := s.ladder.start } }
  milestone 0 q.step num s.ladder.start 0 s

/-- How a reset request is taken (R336, R337). -/
inductive ResetTaken where
  | started | merged | queued | waits | refused
  deriving DecidableEq, Repr

/-- Merge a request with the running ladder: a RESET_REQUEST completes with the ladder's result (R337, R423). -/
def mergeReset (q : ResetReq) (s : State) : State :=
  match q.src with
  | .command k => { s with ladder := { s.ladder with cmds := s.ladder.cmds ++ [(k, true)] } }
  | _ => s

/-- Take a request that need not wait for a dump (R337): merged where covered, queued up to 4, else refused. -/
def takeReset (q0 : ResetReq) (s : State) : ResetTaken × State :=
  let q := s.asMode q0
  if !s.ladder.running then (.started, startLadder q s)
  else if s.covered s.ladder.step s.ladder.unit s.ladder.part q then (.merged, mergeReset q s)
  else if s.ladder.queue.length < 4 then
    let s := { s with ladder := { s.ladder with queue := s.ladder.queue ++ [q] } }
    (.queued, s.fs F.RST_STAT_QUEUED s.ladder.queue.length)
  else (.refused, s)

/-- Request a reset (R336): refused where it names nothing it can reset, waiting while a dump runs (R315). -/
def requestReset (q0 : ResetReq) (s : State) : ResetTaken × State :=
  let q := s.asMode q0
  if !s.resettable q then (.refused, s.fs F.RST_STAT_REQ_ERR 1)
  else if s.lehr.running || !s.lehr.asked.isEmpty then
    (.waits, ({ s with ladder := { s.ladder with waitDump := s.ladder.waitDump ++ [q] } }).fs F.RST_STAT_WAIT_DUMP 1)
  else takeReset q s

/-- At a ladder's end, the queued requests in order (R337, RESET_QUEUE_TAKE): those the completed step covers are merged
with its result, the next starts a ladder, the rest stay queued. `doneStep` is the step just completed, if one
completed. Commands merged here are answered with the ended ladder's commands. -/
def takeQueue (doneStep : Option (Nat × Nat × Nat)) : List ResetReq → List (CmdKey × Bool) → State →
    List (CmdKey × Bool) × State
  | [], ms, s => (ms, ({ s with ladder := { s.ladder with queue := [] } }).fs F.RST_STAT_QUEUED 0)
  | q :: qs, ms, s =>
    let cov := match doneStep with | some (st, u, p) => s.covered st u p q | none => false
    if cov then
      takeQueue doneStep qs (match q.src with | .command k => ms ++ [(k, true)] | _ => ms) s
    else
      let s := ({ s with ladder := { s.ladder with queue := qs } }).fs F.RST_STAT_QUEUED qs.length
      (ms, startLadder q s)

/-- Requests that waited for a dump are taken, in order, when it ends (R315). -/
def releaseWaiting (s : State) : State :=
  let qs := s.ladder.waitDump
  let s := ({ s with ladder := { s.ladder with waitDump := [] } }).fs F.RST_STAT_WAIT_DUMP 0
  qs.foldl (fun s q =>
    match takeReset q s with
    | (.refused, s) => (match q.src with | .command k => completeCmd k 0x05 0 s | _ => s)
    | (_, s) => s) s

/-! ### Asking Lehr for a dump (R292, R293) -/

/-- Gaffer core 0, which runs Lehr, can take a request: READY and not halted by a debugger (R293, R457, R458). -/
def State.lehrCoreUp (s : State) : Bool := s.coreUp 0

/-- Would Lehr accept a request now (R293). -/
def State.lehrTakes (s : State) : Bool :=
  s.fb F.LEHR_CTL_EN && !s.lehr.running && s.lehr.asked.isEmpty && s.lehrCoreUp

/-- Ask for a dump: the request goes to Lehr, or is refused and LEHR_STAT.REFUSED set (R293). -/
def askDump (q : DumpReq) (s : State) : Bool × State :=
  if s.lehrTakes then (true, { s with lehr := { s.lehr with asked := s.lehr.asked ++ [q] } })
  else (false, s.fs F.LEHR_STAT_REFUSED 1)

end Sys2Proof.Machine
end

