-- ==== Sys2Proof/Machine/Faults.lean ====
section
/-! DEFINITION. Fault records: their bytes (R279), the log and its events (R283), the policy of a context and its
actions (R284 to R286), forming a record centrally and at a station (R278, R281). -/

namespace Sys2Proof.Machine

/-! ### Codes and groups (R284) -/

def cDeadlineMiss : Nat := 0x0101
def cProgressStall : Nat := 0x0102
def cHeartbeatMiss : Nat := 0x0103
def cDumpDeadline : Nat := 0x0104
def cResetDeadline : Nat := 0x0105
def cServiceDeadline : Nat := 0x0106
def cUncorrectable : Nat := 0x0201
def cUnitTrap : Nat := 0x0202
def cUapProtocol : Nat := 0x0203
def cSlotMismatch : Nat := 0x0301
def cCaneParity : Nat := 0x0302
def cShearSelftest : Nat := 0x0303

/-- Group of a code (R284): none for a code outside the table. -/
def codeGroup (c : Nat) : Option Nat :=
  if 0x0101 ≤ c ∧ c ≤ 0x0103 then some 0
  else if 0x0201 ≤ c ∧ c ≤ 0x0203 then some 1
  else if 0x0104 ≤ c ∧ c ≤ 0x0106 then some 2
  else if (0x0301 ≤ c ∧ c ≤ 0x0305) ∨ (0x0401 ≤ c ∧ c ≤ 0x0403) ∨ (0x0501 ≤ c ∧ c ≤ 0x0502) then some 3
  else none

/-- The UNIT field (R279). -/
def unitField (u : Option Nat) : Nat := match u with | some n => n % 2 ^ 14 + 2 ^ 14 | none => 0

/-- The QUEUE byte (R279). -/
def FaultRec.queueByte (r : FaultRec) : Nat := r.queue % 64 + (if r.cmdValid then 64 else 0)

/-- FLAGS bits (R279). -/
def flPerturbed : Nat := 1
def flForced : Nat := 2
def flLostDetail : Nat := 4
def flTsApprox : Nat := 8
def flOvf : Nat := 16

/-- The 64 bytes of a record (R279). -/
def FaultRec.bytes (r : FaultRec) : List Nat :=
  toLe 2 r.code ++ toLe 2 (unitField r.unit) ++ toLe 1 r.ctx ++ toLe 1 r.epoch ++ toLe 1 r.queueByte ++ toLe 1 r.bclass ++
  toLe 4 r.seq ++ toLe 2 r.layer ++ toLe 2 r.op ++ toLe 8 r.ts ++ toLe 8 r.cutTs ++ toLe 4 r.fseq ++
  toLe 2 (min r.merged 0xFFFF) ++ toLe 1 r.flags ++ toLe 1 r.actions ++ toLe 8 r.detail0 ++ toLe 8 r.detail1 ++
  toLe 8 r.detail2

/-- A record from the bytes of a FAULT message (R281). -/
def FaultRec.ofBytes (b : List Nat) : FaultRec :=
  let u := leAt b 2 2
  { code := leAt b 0 2, unit := if bitOf u 14 then some (u % 2 ^ 14) else none, ctx := leAt b 4 1, epoch := leAt b 5 1,
    queue := leAt b 6 1 % 64, cmdValid := bitOf (leAt b 6 1) 6, bclass := leAt b 7 1 % 16, seq := leAt b 8 4,
    layer := leAt b 12 2, op := leAt b 14 2, ts := leAt b 16 8, cutTs := leAt b 24 8, fseq := leAt b 32 4,
    merged := leAt b 36 2, flags := leAt b 38 1, actions := leAt b 39 1, detail0 := leAt b 40 8, detail1 := leAt b 48 8,
    detail2 := leAt b 56 8 }

/-- The ACTIONS byte the policy of a context gives a code (R284); a code of no group has none. -/
def State.policyByte (s : State) (ctx code : Nat) : Nat :=
  let k := bitsOf (s.rdN (R.CTX_POL (ctx / 8))) (4 * (ctx % 8)) 4
  match codeGroup code with
  | some g => bitsOf (s.rdN (R.POLICY k)) (8 * g) 7
  | none => 0

/-! ### Readout requests (R153, R154) -/

/-- Refuse a readout request: CULLET_STAT.REFUSED, and a command completes BUSY (R154) with its tick in RESULT (R415). -/
def refuseReadout (q : ReadReq) (s : State) : State :=
  let s := s.fs F.CULLET_STAT_REFUSED 1
  match q.src with
  | .command k => completeTick k 0x05 q.tick s
  | _ => s

/-- Ask for a readout (R154): it starts next where none runs or waits; otherwise it waits, replacing a waiting request
that is not Lehr's. Answers whether it was taken. -/
def askReadout (q : ReadReq) (s : State) : Bool × State :=
  if s.cullet.running.isNone && s.cullet.next.isNone then (true, { s with cullet := { s.cullet with next := some q } })
  else match s.cullet.waiting with
    | none => (true, ({ s with cullet := { s.cullet with waiting := some q } }).fs F.CULLET_STAT_WAITING 1)
    | some w =>
      if w.src == .lehr then (false, refuseReadout q s)
      else (true, refuseReadout w { s with cullet := { s.cullet with waiting := some q } })

/-! ### Policy actions (R286) -/

/-- Strength of a class (R134): FREEZE, DRAIN, RUN_ON, LATCH. -/
def clsStrength (c : Nat) : Nat := if c = 1 then 3 else if c = 2 then 2 else if c = 3 then 1 else 0

/-- The cut that a dump asked for now may adopt (R298): the last one, where SHEAR_LAST.CLASS ranks at or above P0_CLASS, where no cut is open, its
tick at most 8,192 spine cycles back. `stop` says whether the policy that asks has CUT = STOP. -/
def State.adoptable (s : State) (stop : Bool) : Option TickLog :=
  s.shear.ticks.getLast?.filter (fun t => stop && s.shear.cuts.isEmpty &&
    decide (clsStrength (if s.fb F.LEHR_CTL_P0_CLASS then 2 else 1) ≤ clsStrength (s.rdN R.SHEAR_LAST % 4)) && decide (s.clk.cyc ≤ t.cyc + 8192))

/-- START_TS of the dump a policy asks for, as far as it is known when its notice is formed (R296, R298): the TS of spine cycle X − H where
the cut ticked at X may be adopted, else now. -/
def State.pendingDumpStart (s : State) (stop : Bool) : Nat :=
  match s.adoptable stop with
  | some t => t.start
  | none => s.ts

/-- What a policy's RESET value asks for (R284): 1 the unit, 2 its partition, 3 COMPUTE; 1 and 2 need a unit (R285). -/
def policyReset (s : State) (v : Nat) (unit : Option Nat) (ctx fseq : Nat) : Option ResetReq :=
  match v, unit with
  | 1, some u => some ⟨0, u, 0, .policy fseq ctx⟩
  | 2, some u => some ⟨1, 0, s.unitPart u, .policy fseq ctx⟩
  | 3, _ => some ⟨2, 0, 0, .policy fseq ctx⟩
  | _, _ => none

/-- Take a policy's NOTICE, DUMP and RESET actions, in that order (R286). Answers the ACTIONS byte of the record: the
policy's byte, with SUPPRESSED where an action was already in progress, refused or dropped; a RESET on a
RESET_DEADLINE record is merged with its ladder (R343). Bit 8 says that DUMP was taken. `fseq` is 0xFFFF_FFFF where
only the announcement has arrived. -/
def takeActions (r : FaultRec) (fseq : Nat) (s : State) : Nat × State :=
  let acts := s.policyByte r.ctx r.code
  let wantDump := bitOf acts 3
  let rq := policyReset s (bitsOf acts 4 2) r.unit r.ctx fseq
  let dumpWould := wantDump && s.lehrTakes
  let (sup1, s) :=
    if bitOf acts 6 && !s.coreReady 1 then (true, s)
    else if bitOf acts 6 then
      let busy := (match s.notice.running with | some f => f.nclass == 0 | none => false) ||
        s.notice.queue.any (fun f => f.nclass == 0)
      if busy then (true, s)
      else
        let left := if dumpWould then
            s.pendingDumpStart (bitsOf acts 0 2 == 2) + s.scaled .service (1000 * s.fg F.LEHR_BUD_TOTAL_TOTAL) - s.ts
          else s.dumpLeft
        let bud := match rq with | some q => s.stepBudget (s.asMode q).step | none => 0
        let expect := left + bud + s.fg (F.RHT_BUD_BUDGET 3) * 1000000
        let (formed, s) := formFanOut 0 (fun n => noticeBytes s 0 n (s.stepByte (rq.map (fun q => (s.asMode q).step)))
          expect r.code (unitField r.unit) r.ctx r.epoch
          (match rq with | some q => partMaskOf s (s.asMode q).step q.unit q.part | none => 0)
          r.seq fseq 0) r.ts none s
        (!formed, s)
    else (false, s)
  let (sup2, s) :=
    if wantDump then
      let (taken, s) := askDump ⟨s.fg F.LEHR_SCOPE_PARTMASK, false, r.unit, .policy r.ctx fseq, bitsOf acts 0 2 == 2, r.code, s.fg F.FLT_NEXT_FSEQ⟩ s
      (!taken, s)
    else (false, s)
  let (sup3, s) :=
    match rq with
    | some q =>
      if !s.coreReady 0 || (r.code = cResetDeadline && s.ladder.running) then (true, s) else
      match requestReset q s with
      | (.merged, s) => (true, s)
      | (.refused, s) => (true, s)
      | (_, s) => (false, s)
    | none => (false, s)
  (acts + (if sup1 || sup2 || sup3 then 128 else 0) + (if wantDump && !sup2 then 256 else 0), s)

/-- Phase P1 of the dump taken for a record reads the cut of a tick (R286, R298, R300): the P0 cut is known, or the dump is not accepted
yet and that cut is the one it may adopt. -/
def State.dumpReads (s : State) (tick : Nat) (stop : Bool) : Bool :=
  if s.lehr.running then s.lehr.tick == some tick
  else !s.lehr.asked.isEmpty && (match s.adoptable stop with | some t => t.ts == tick | none => false)

/-- Take SNAP when the record arrives (R286): a readout of the cut whose tick is CUT_TS; suppressed where CUT_TS is 0.
Where Lehr's P1 reads the same cut, SNAP adds no second readout. -/
def takeSnap (r : FaultRec) (acts : Nat) (s : State) : Nat × State :=
  if bitOf acts 2 then
    if r.cutTs = 0 then (acts ||| 128, s)
    else if bitOf acts 8 && s.dumpReads r.cutTs (bitsOf acts 0 2 == 2) then (acts, s)
    else
      let (taken, s) := askReadout ⟨r.cutTs, 3, 0, 0x3F, .policy r.fseq⟩ s
      (if taken then acts else acts ||| 128, s)
  else (acts, s)

/-! ### The log (R283) -/

/-- The FAULT event of a record (R387). -/
def faultEvent (r : FaultRec) : EvEntry :=
  ⟨2, r.fseq, r.ts, ofLe (toLe 2 r.code ++ toLe 2 (unitField r.unit) ++ toLe 1 r.ctx ++ toLe 1 r.epoch ++
    toLe 1 r.queueByte ++ toLe 1 r.actions ++ toLe 4 r.seq ++ toLe 2 r.layer ++ toLe 2 r.op), none⟩

/-- Number, log and post a record whose ACTIONS are settled (R283): entry FSEQ mod 256, WRAPPED where it overwrites a record (word 0 of one
holds its CODE, which is not 0), one
event to DL_CTL.EVT_RING and one to the context's own ring where that differs. -/
def logRecord (r : FaultRec) (s : State) : State :=
  let n := s.fg F.FLT_NEXT_FSEQ
  let r := { r with fseq := n }
  let s := if 256 ≤ n ∨ s.rdN (R.FLT_LOG (n % 256) 0) ≠ 0 then s.fs F.DL_STAT_WRAPPED 1 else s
  let s := s.wrWords (R.FLT_LOG (n % 256) 0) (wordsOf r.bytes)
  let s := s.fs F.FLT_NEXT_FSEQ ((n + 1) % 2 ^ 32)
  let s := if bitOf r.flags 4 then s.fs F.DL_STAT_OVF 1 else s
  let s := if bitOf r.flags 1 then s.fsat F.PTB_STAT_FORCED 1 else s
  let s := centralHits 5 (fun c =>
    let v := s.rdN (R.TRC_CMP_VAL_LO c) % 65536
    v == 0 || v == r.code) s
  let ring := s.fg F.DL_CTL_EVT_RING
  let s := postEvent ring (faultEvent r) s
  match mget? s.dl.ctxRing r.ctx with
  | some r2 => if r2 = ring then s else postEvent r2 (faultEvent r) s
  | none => s

/-- Log a record of the central hub's own: its actions are taken now (R286). -/
def logFault (r : FaultRec) (s : State) : State :=
  let r := { r with fseq := s.fg F.FLT_NEXT_FSEQ }
  let (acts, s) := takeActions r r.fseq s
  let (acts, s) := takeSnap r acts s
  logRecord { r with actions := acts % 256 } s

/-- Log a record from a station, or one formed for an announcement, whose actions `acts` have been taken (R286): the record's
own ACTIONS [1:0] stand (R279). -/
def logTaken (r : FaultRec) (acts : Nat) (s : State) : State :=
  let r := { r with fseq := s.fg F.FLT_NEXT_FSEQ }
  let (acts, s) := takeSnap r acts s
  logRecord { r with actions := acts % 256 - acts % 4 + r.actions % 4 } s

/-- FLAGS of a record formed now (R279): PERTURBED by R36's condition. -/
def State.formFlags (s : State) : Nat := if s.perturbed then flPerturbed else 0

/-- A fault the central hub forms in this cycle (R277, R279). -/
def centralFault (code ctx : Nat) (unit : Option Nat) (d0 d1 d2 : Nat) (s : State) : State :=
  logFault { code := code, ctx := ctx, unit := unit, ts := s.ts, flags := s.formFlags, detail0 := d0, detail1 := d1,
             detail2 := d2 } s

/-- SERVICE_DEADLINE of service k, which started at `start` (R277, R280). -/
def serviceMiss (k start : Nat) (s : State) : State := centralFault cServiceDeadline 0 none start k 0 s

end Sys2Proof.Machine
end

