-- ==== Sys2Proof/Machine/Station.lean ====
section
/-! DEFINITION. The shared operations of a station cell: its place in the state, spine time, the upstream queues (R69,
R71), counters (R175 to R183), attribution (R187), the shear trigger (R130), forming a fault (R278, R281), SH_CMD
(R139), boundary latches (R346). -/

namespace Sys2Proof.Machine

/-! ### Stations and ports -/

def State.stn (s : State) (n : Nat) : Station := mget s.stations n {}

def setStn (n : Nat) (x : Station) (s : State) : State := { s with stations := mput s.stations n x }

def modStn (n : Nat) (f : Station → Station) (s : State) : State := setStn n (f (s.stn n)) s

def Station.port (x : Station) (p : Nat) : Port := mget x.ports p {}

/-- The port of a unit (R11): station u / 16, port u mod 16. -/
def State.port (s : State) (u : Nat) : Port := (s.stn (u / 16)).port (u % 16)

def setPort (u : Nat) (p : Port) (s : State) : State :=
  modStn (u / 16) (fun x => { x with ports := mput x.ports (u % 16) p }) s

def modPort (u : Nat) (f : Port → Port) (s : State) : State := setPort u (f (s.port u)) s

/-- The type a station takes a port as: its strap, and NONE where its SLOT_LOAD says so (R22, R98). -/
def Port.ty (p : Port) : Nat := if p.asNone then 7 else p.strapTy

/-- The port's inputs are taken (R24): a unit is attached, powered and out of reset. -/
def Port.live (p : Port) : Bool := p.on && !p.rst && !p.cold && p.ty != 7

/-- The current command (R36): on the lowest-numbered ACTIVE queue. -/
def Port.current (p : Port) : Option (Nat × QRec) := p.queues.find? (fun q => !q.2.susp)

/-- Commands that take a cycle's increments (R31): every ACTIVE one, and the one that ended in this cycle; stale commands
are treated as not ACTIVE (R288). -/
def Port.takers (p : Port) (cyc : Nat) : List (Nat × QRec) :=
  (p.queues.filter (fun q => !q.2.susp && !q.2.stale)) ++
    (match p.ended with
     | some (c, q, r) => if c = cyc && !r.stale then [(q, r)] else []
     | none => [])

/-- Word w of the security page as the station has applied it (R499, R566): 0 SEC_EN, 1 PTB_CTL, 2 DUTY, 3 PTB_BUDGET. -/
def State.secWord (s : State) (n w : Nat) : Nat := (s.stn n).sec.getD w 0

/-- The station's perturbation state (R566). -/
def State.stnPert (s : State) (n : Nat) : Bool := s.secWord n 1 != 0

/-- DBG_SEC_EN as the station drives it (R499). -/
def State.dbgSec (s : State) (n : Nat) : Bool := bitOf (s.secWord n 0) 0

/-- A budget of the station's, scaled by word 3 where its class bit is set (R571): bit 8 CMD, bit 9 WATCH. -/
def State.stnScaled (s : State) (n bit b : Nat) : Nat :=
  let w := s.secWord n 3
  if bitOf w bit then scaleBudget (if bitsOf w 0 8 = 0 then 16 else bitsOf w 0 8) b else b

/-- The factor in sixteenths with which a progress period is fixed (R571). -/
def State.pwFactor (s : State) (n : Nat) : Nat :=
  let w := s.secWord n 3
  if bitOf w 9 then (if bitsOf w 0 8 = 0 then 16 else bitsOf w 0 8) else 16

/-- TS as a station holds it (R106, R108): its own accumulator from the load on, 0 until then. -/
def State.stnTs (s : State) (n : Nat) : Nat :=
  let x := s.stn n
  if x.accRuns then
    ((x.acc + s.rd64 (R.STN_TS_INC_LO n) (R.STN_TS_INC_HI n) * ((s.clk.cyc - x.accCyc) / 2)) >>> 32) % 2 ^ 64
  else 0

/-! ### Spine time (R59) -/

def State.spineCyc (s : State) : Nat := s.clk.cyc - s.spine.startCyc

/-- The frame of the current spine cycle. -/
def State.frameNow (s : State) : Nat := if s.spine.running then s.spineCyc / 512 else 0

/-- TS of a CNCLK cycle at the present TIME_INC (R101): one increment each two cycles, none while time is stopped. -/
def State.tsOfCyc (s : State) (c : Nat) : Nat :=
  let inc := if s.fb F.TIME_STAT_RUN then s.rd64 R.TIME_INC_LO R.TIME_INC_HI else 0
  ((s.clk.acc + inc * (c / 2) - inc * (s.clk.cyc / 2)) >>> 32) % 2 ^ 64

/-- TS of spine cycle c. -/
def State.tsOfSpine (s : State) (c : Nat) : Nat := s.tsOfCyc (s.spine.startCyc + c)

/-- The frame nearest to the present one whose low 32 bits are those of `f` (messages carry F [31:0], R75). -/
def State.frameOf (s : State) (f : Nat) : Nat :=
  let now := s.frameNow
  let g := now - now % 2 ^ 32 + f % 2 ^ 32
  if g + 2 ^ 31 < now then g + 2 ^ 32 else if now + 2 ^ 31 < g ∧ 2 ^ 32 ≤ g then g - 2 ^ 32 else g

/-- The spine cycle 512F of frame F has come. -/
def State.frameDue (s : State) (f : Nat) : Bool := s.spine.running && decide (512 * s.frameOf f ≤ s.spineCyc)

/-! ### Upstream queues (R69, R71) -/

def UpMsg.bytes (m : UpMsg) : Nat := 4 * (1 + m.words.length)

/-- Priority of a message kind (R71): FAULT, REGRD, CULLET, COUNTER, STRIA, ATTRIB, TRACE. -/
def kindRank (k : Nat) : Nat :=
  if k = 2 then 0 else if k = 5 then 1 else if k = 1 then 2 else if k = 3 then 3 else if k = 4 then 4
  else if k = 6 then 5 else 6

/-- Messages in the FIFO, the one being sent included. -/
def Station.queued (x : Station) : List UpMsg := x.sending.toList ++ x.fifo

/-- Bytes of the TRACE share in use: whole messages, less what has left of the one being sent. -/
def Station.traceUse (x : Station) : Nat :=
  ((x.fifo.filter (fun m => m.kind == 0)).map UpMsg.bytes).sum +
    (match x.sending with | some m => if m.kind = 0 then m.bytes - 4 * x.sent else 0 | none => 0)

/-- Bytes of the reserve in use: a message gives its room back in the cycle in which its last flit leaves. -/
def Station.reserveUse (x : Station) : Nat := ((x.queued.filter (fun m => m.kind != 0)).map UpMsg.bytes).sum

def traceShare : Nat := 2560
def reserveShare : Nat := 1536

/-- Insert a waiting message behind those of its own or an earlier rank (R71). -/
def insertRank (m : UpMsg) : List UpMsg → List UpMsg
  | [] => [m]
  | x :: xs => if kindRank m.kind < kindRank x.kind then m :: x :: xs else x :: insertRank m xs

/-- Offer the waiting messages the reserve can hold, in order (R71). -/
def Station.offerWaiting : Nat → Station → Station
  | 0, x => x
  | n + 1, x =>
    match x.wait with
    | m :: rest =>
      if x.reserveUse + m.bytes ≤ reserveShare then
        Station.offerWaiting n { x with fifo := x.fifo ++ [m], wait := rest }
      else x
    | [] => x

/-- The reserve can hold a message whole, and no message of its own or an earlier kind waits (R71): it can be formed. -/
def Station.canForm (x : Station) (kind bytes : Nat) : Bool :=
  decide (x.reserveUse + bytes ≤ reserveShare) && x.wait.all (fun m => decide (kindRank kind < kindRank m.kind))

/-- Offer a message other than TRACE: it enters the reserve, or waits and is never dropped (R71). -/
def Station.offer (x : Station) (m : UpMsg) : Station :=
  Station.offerWaiting (x.wait.length + 1) { x with wait := insertRank m x.wait }

def offerMsg (n : Nat) (m : UpMsg) (s : State) : State := modStn n (fun x => x.offer m) s

/-- The next message a station sends (R71): the oldest of the first kind in order. -/
def Station.pick (x : Station) : Option (UpMsg × List UpMsg) :=
  match (List.range 7).findSome? (fun r => x.fifo.find? (fun m => kindRank m.kind == r)) with
  | some m => some (m, removeFirst (fun y => y == m) x.fifo)
  | none => none

/-- One owned slot (R69): the next flit of the message in progress, or the first of the next; a message whose TAIL has
left is on its way. -/
def Station.sendFlit (x : Station) : Station :=
  let x := match x.sending with
    | some _ => x
    | none => match x.pick with
      | some (m, rest) => { x with sending := some m, sent := 0, fifo := rest }
      | none => x
  match x.sending with
  | none => x
  | some m =>
    if x.sent + 1 ≥ 1 + m.words.length then
      Station.offerWaiting (x.wait.length)
        { x with sending := none, sent := 0, badSend := false, air := (if x.badSend then x.air else x.air ++ [m]) }
    else { x with sent := x.sent + 1 }

/-- Take the oldest message of a kind that has arrived from a station. -/
def takeAir (n kind : Nat) (s : State) : Option (UpMsg × State) :=
  let x := s.stn n
  match x.air.find? (fun m => m.kind == kind) with
  | some m => some (m, setStn n { x with air := removeFirst (fun y => y == m) x.air } s)
  | none => none

/-- Take the oldest NOTE of a kind that has arrived from a station (R70: the kind is in bits [31:28]). -/
def takeNote (n kind : Nat) (s : State) : Option (Nat × State) :=
  let x := s.stn n
  match x.noteAir.find? (fun w => bitsOf w 28 4 == kind) with
  | some w => some (w, setStn n { x with noteAir := removeFirst (fun y => y == w) x.noteAir } s)
  | none => none

/-- A NOTE word (R70). -/
def noteWord (kind code port ctx : Nat) : Nat := code % 65536 + 2 ^ 16 * port + 2 ^ 20 * ctx + 2 ^ 28 * kind

/-- A NOTE leaves in the NOTICE slot of this cycle. -/
def sendNote (n : Nat) (w : Nat) (s : State) : State :=
  modStn n (fun x => { x with noteAir := x.noteAir ++ [w], noteCyc := some s.clk.cyc }) s

/-! ### Counters (R175 to R183) -/

/-- Record a carry out of bit 47 (R183): WRAP_PEND and a NOTE owed, or WRAP_MERGED where one of that counter is owed already, whatever
context it was configured with then. -/
def noteWrap (n code : Nat) (s : State) : State :=
  let x := s.stn n
  if x.wrapCtr.any (fun c => c % 2 ^ 20 == code % 2 ^ 20) then s.fsat (F.STN_CTR_STAT_WRAP_MERGED n) 1
  else setStn n { x with wrapCtr := code :: x.wrapCtr } s

/-- Add to a 48-bit counter in a register pair, modulo 2^48; a carry sets bit 16 of HI's field WRAP_PEND at bit 17 and
owes the NOTE `code` of station n. -/
def ctrAdd (n lo hi code d : Nat) (s : State) : State :=
  if d = 0 then s
  else
    let h := s.rdN hi
    let v := s.rdN lo + 2 ^ 32 * (h % 65536) + d
    let carry := decide (2 ^ 48 ≤ v)
    let s := s.wrN lo (v % 2 ^ 32)
    let s := s.wrN hi ((v >>> 32) % 65536 + (if carry || bitOf h 17 then 2 ^ 17 else 0))
    if carry then noteWrap n code s else s

def ctrVal (s : State) (lo hi : Nat) : Nat := s.rdN lo + 2 ^ 32 * (s.rdN hi % 65536)

/-- Always-on counter k of a unit (R175). -/
def aoAdd (u k d : Nat) (s : State) : State :=
  ctrAdd (u / 16) (R.STN_AO_LO (u / 16) (u % 16) k) (R.STN_AO_HI (u / 16) (u % 16) k) (k + 2 ^ 16 * (u % 16)) d s

def State.aoVal (s : State) (u k : Nat) : Nat :=
  ctrVal s (R.STN_AO_LO (u / 16) (u % 16) k) (R.STN_AO_HI (u / 16) (u % 16) k)

/-- Programmable counter i of a station: class 1 of R183, with the context of its configuration. -/
def pcAdd (n i d : Nat) (s : State) : State :=
  ctrAdd n (R.STN_PC_LO n i) (R.STN_PC_HI n i) (i + 64 + 2 ^ 20 * s.fg (F.STN_PC_CFG_HI_CTX n i)) d s

def State.pcVal (s : State) (n i : Nat) : Nat := ctrVal s (R.STN_PC_LO n i) (R.STN_PC_HI n i)

def pcSet (n i v : Nat) (s : State) : State :=
  let h := s.rdN (R.STN_PC_HI n i)
  (s.wrN (R.STN_PC_LO n i) (v % 2 ^ 32)).wrN (R.STN_PC_HI n i)
    ((v >>> 32) % 65536 + (if bitOf h 17 then 2 ^ 17 else 0))

/-- A sample of a programmable counter (R182): the value at the end of this cycle, or the finished command's value and
SAMPLED_AT_BOUNDARY where a BEGIN of this cycle reset it. -/
def State.pcSample (s : State) (n i : Nat) : Nat × Bool :=
  match mget? (s.stn n).boundary i with
  | some (c, v) => if c = s.clk.cyc then (v, true) else (s.pcVal n i, false)
  | none => (s.pcVal n i, false)

/-- Station event codes 0x80 to 0x83 (R177): PORTS, SCOPE and the context filter are ignored. -/
def pcStation (n code d : Nat) (s : State) : State :=
  (List.range 16).foldl (fun s i => if s.fg (F.STN_PC_CFG_LO_EVENT n i) == code then pcAdd n i d s else s) s

/-- A command-scoped counter adds for a queue in this cycle (R181): its command is ACTIVE, or ended in the cycle, and is not stale. -/
def Port.follows (p : Port) (cyc q : Nat) : Bool := (p.takers cyc).any (fun t => t.1 == q)

/-- A port event counted by code (R177, R178, R181): the contexts it carries, and for which CQUEUE a command-scoped counter counts it. -/
def pcEvent (u code : Nat) (ctxs : List Nat) (on : Nat → Bool) (s : State) : State :=
  let n := u / 16
  (List.range 16).foldl (fun s i =>
    if s.fg (F.STN_PC_CFG_LO_EVENT n i) != code then s
    else if s.fb (F.STN_PC_CFG_HI_CTX_EN n i) && !ctxs.contains (s.fg (F.STN_PC_CFG_HI_CTX n i)) then s
    else if s.fb (F.STN_PC_CFG_LO_SCOPE n i) then
      if s.fg (F.STN_PC_CFG_LO_CPORT n i) == u % 16 && on (s.fg (F.STN_PC_CFG_HI_CQUEUE n i)) &&
          (s.stn n).follow.contains i then pcAdd n i 1 s else s
    else if bitOf (s.fg (F.STN_PC_CFG_LO_PORTS n i)) (u % 16) then pcAdd n i 1 s else s) s

/-- The increments of one enabled cycle (R177, R178, R181): `inc` gives the amount of a code; `takers` the commands they are
attributed to (R31). -/
def pcIncr (u : Nat) (inc : Nat → Nat) (takers : List (Nat × QRec)) (s : State) : State :=
  let n := u / 16
  (List.range 16).foldl (fun s i =>
    let d := inc (s.fg (F.STN_PC_CFG_LO_EVENT n i))
    if d = 0 then s
    else
      let ctx := s.fg (F.STN_PC_CFG_HI_CTX n i)
      if s.fb (F.STN_PC_CFG_HI_CTX_EN n i) && !takers.any (fun t => t.2.ctx == ctx) then s
      else if s.fb (F.STN_PC_CFG_LO_SCOPE n i) then
        let q := s.fg (F.STN_PC_CFG_HI_CQUEUE n i)
        if s.fg (F.STN_PC_CFG_LO_CPORT n i) == u % 16 && takers.any (fun t => t.1 == q) && (s.stn n).follow.contains i
        then pcAdd n i d s else s
      else if bitOf (s.fg (F.STN_PC_CFG_LO_PORTS n i)) (u % 16) then pcAdd n i d s else s) s

/-- A qualifying BEGIN resets the command-scoped counters of its queue (R181 step 1), keeping the finished value for a
sample of the same cycle (R182); a BEGIN the context filter rejects leaves the counter with its last command's value. -/
def pcBegin (u queue ctx : Nat) (s : State) : State :=
  let n := u / 16
  (List.range 16).foldl (fun s i =>
    if s.fb (F.STN_PC_CFG_LO_SCOPE n i) && s.fg (F.STN_PC_CFG_LO_EVENT n i) != 0 &&
        s.fg (F.STN_PC_CFG_LO_CPORT n i) == u % 16 && s.fg (F.STN_PC_CFG_HI_CQUEUE n i) == queue then
      if s.fb (F.STN_PC_CFG_HI_CTX_EN n i) && s.fg (F.STN_PC_CFG_HI_CTX n i) != ctx then
        modStn n (fun x => { x with follow := x.follow.filter (· != i) }) s
      else
        let v := s.pcVal n i
        pcSet n i 0 (modStn n (fun x => { x with
          boundary := mput x.boundary i (s.clk.cyc, v), follow := i :: x.follow.filter (· != i) }) s)
    else s) s

/-- A unit reset discards the command a command-scoped counter follows: it holds its value (R181 step 4). -/
def pcUnitReset (u : Nat) (s : State) : State :=
  let n := u / 16
  (List.range 16).foldl (fun s i =>
    if s.fb (F.STN_PC_CFG_LO_SCOPE n i) && s.fg (F.STN_PC_CFG_LO_CPORT n i) == u % 16 then
      modStn n (fun x => { x with follow := x.follow.filter (· != i) }) s
    else s) s

/-! ### Attribution (R187 to R189) -/

def attrOther : Nat := 62
def attrOverflow : Nat := 63

def Station.attrCtxOn (x : Station) (ctx : Nat) : Bool := bitOf (x.attrCtx.getD (ctx / 32) 0) (ctx % 32)

/-- The entry of a key, if allocated. -/
def Station.attrFind (x : Station) (ctx layer op : Nat) : Option Nat :=
  (x.attr.find? (fun e => e.2.keyed && e.2.ctx == ctx && e.2.layer == layer && e.2.op == op)).map (·.1)

/-- A BEGIN looks up or takes an entry and adds to its CMDS (R187). -/
def attrBegin (u : Nat) (e : Event) (s : State) : State :=
  let n := u / 16
  let x := s.stn n
  if !x.attrEn || !x.attrCtxOn e.ctx then s
  else
    let free := (List.range 62).find? (fun i => (mget? x.attr i).isNone)
    let (i, ent) := match x.attrFind e.ctx e.layer e.op, free with
      | some i, _ => (i, mget x.attr i {})
      | none, some i => (i, { layer := e.layer, op := e.op, ctx := e.ctx, keyed := true })
      | none, none => (attrOverflow, mget x.attr attrOverflow {})
    let x := { x with attr := mput x.attr i { ent with cmds := min (ent.cmds + 1) 0xFFFF } }
    let s := setStn n x s
    let s := if i = attrOverflow then s.fs (F.STN_CTR_STAT_ATTR_OVF n) 1 else s
    s.fs (F.STN_CTR_STAT_ATTR_USED n) ((x.attr.filter (fun e => e.2.keyed)).length)

/-- Add to one 48-bit field of an entry, with its wrap (R183: class 2). -/
def attrField (n i field v d ctx : Nat) (s : State) : Nat × State :=
  let t := v + d
  if 2 ^ 48 ≤ t then (t % 2 ^ 48, noteWrap n (i + 128 + 256 * field + 2 ^ 20 * ctx) s) else (t, s)

/-- Charge one cycle's energy and bytes to the entry of the port's current command (R187); the command that ends in the
cycle is still its command (R31). -/
def attrCharge (u energy rd wr : Nat) (s : State) : State :=
  let n := u / 16
  let x := s.stn n
  if !x.attrEn || (energy = 0 && rd = 0 && wr = 0) then s
  else
    let p := s.port u
    let cur : Option QRec := match (p.takers s.clk.cyc).map (·.1) with
      | [] => none
      | q :: qs =>
        let low := qs.foldl min q
        ((p.takers s.clk.cyc).find? (fun t => t.1 == low)).map (·.2)
    let i := match cur with
      | none => attrOther
      | some r => if x.attrCtxOn r.ctx then (x.attrFind r.ctx r.layer r.op).getD attrOverflow else attrOther
    let e := mget x.attr i {}
    let (en, s) := attrField n i 0 e.energy energy e.ctx s
    let (r1, s) := attrField n i 1 e.rd rd e.ctx s
    let (w1, s) := attrField n i 2 e.wr wr e.ctx s
    modStn n (fun x => { x with attr := mput x.attr i { e with energy := en, rd := r1, wr := w1 } }) s

/-- Clear a station's table (R189). -/
def attrClear (n : Nat) (s : State) : State :=
  let s := modStn n (fun x => { x with attr := [] }) s
  (s.fs (F.STN_CTR_STAT_ATTR_USED n) 0).fs (F.STN_CTR_STAT_ATTR_OVF n) 0

/-- The 8 words of an entry (R188); entries 62 and 63 carry no key. VALID is set where the entry has been allocated or
charged. -/
def attrWords (x : Station) (i : Nat) : List Nat :=
  match mget? x.attr i with
  | none => List.replicate 8 0
  | some e =>
    [e.layer + 2 ^ 16 * e.op, e.ctx + 2 ^ 8 * (1 + (if e.keyed then 2 else 0)) + 2 ^ 16 * e.cmds,
     e.energy % 2 ^ 32, e.energy >>> 32, e.rd % 2 ^ 32, e.rd >>> 32, e.wr % 2 ^ 32, e.wr >>> 32]

/-! ### Shear triggers (R130, R135) -/

def State.shH (s : State) : Nat := s.fg F.SHEAR_TIMING_H
def State.shE (s : State) : Nat := s.fg F.SHEAR_TIMING_E
def State.shW (s : State) : Nat := s.fg F.SHEAR_TIMING_W

/-- What the hub knows of rib r: training, isolation, errors (R81, R82, R84). -/
def State.rib (s : State) (r : Nat) : RibState := mget s.spine.ribs r {}

/-- The tree is enabled (R135). -/
def State.treeOn (s : State) : Bool := s.fb F.SHEAR_STAT_ENABLED && s.fb F.SHEAR_STAT_LOCKED

/-- c(s) of a station, and e(s) = E − c(s), its stages to the root (R122, R128). -/
def State.shcomp (s : State) (n : Nat) : Nat := ((s.stnImage? n).map (·.shcomp)).getD 0
def State.stages (s : State) (n : Nat) : Nat := s.shE - s.shcomp n

/-- The registration cycle of a trigger that arises in spine cycle x (R130). -/
def State.regCycle (s : State) (x : Nat) : Nat := if (x + s.shH) % 2 = 0 then x else x + 1

/-- Class value of a station STOP request until SHEAR_CTL.STOP_CLASS decides it (R134). -/
def clsStop : Nat := 4

/-- A request decided by the root in its own cycle (R125, R130). -/
def addRequest (q : CutReq) (s : State) : State := { s with shear := { s.shear with reqs := s.shear.reqs ++ [q] } }

/-- A trigger registered at a station in spine cycle `r` drives its run of 4 cycles, or joins the run that the station has on the wire then
(R130). The root decides once for every stretch of cycles in which some run holds the wire inverted: runs that overlap or abut, decided
already or not, are one (R125). -/
def addRun (stop : Bool) (n r : Nat) (s : State) : State :=
  let same := s.shear.runs.filter (fun q => q.stop == stop)
  if same.any (fun q => q.stn == n && decide (r ≤ q.n + 3)) then s
  else
    let runs := (s.shear.runs.filter (fun q => decide (r ≤ q.n + 1024))) ++ [⟨stop, n, r⟩]
    let s := { s with shear := { s.shear with runs := runs } }
    if same.any (fun q => decide (r ≤ q.n + 4)) then s
    else addRequest { n := r, d := r + s.shE + 4, cls := (if stop then clsStop else 0), src := 0, last := r + 3 } s

/-- A station registers a trigger (R130, R135): none where its receiver or the tree is not locked, or where its branch is
isolated and the junction drives idle toward the root in its place (R149; DEDUCED). Answers the registration cycle. -/
def stnTrigger (n : Nat) (stop : Bool) (s : State) : Option Nat × State :=
  if s.treeOn && s.fb (F.STN_SH_STAT_LOCKED n) && !(s.rib (n / 64)).subst then
    let r := s.regCycle s.spineCyc
    (some r, addRun stop n r s)
  else (none, s)

/-- A trigger registered at the central hub in spine cycle x or the next even place (R130): decided at n + E + 4. -/
def centralTrigger (x cls src : Nat) (who : CutWho) (s : State) : State :=
  let r := s.regCycle x
  addRequest { n := r, d := r + s.shE + 4, cls := cls, src := src, last := r + 3, who := who } s

/-! ### Faults at a station (R278, R281) -/

/-- CUT of a station fault's policy (R285): groups G0 and G1 alone, from the station's copies. -/
def State.stnCut (s : State) (n ctx code : Nat) : Nat :=
  let k := bitsOf (s.rdN (R.STN_CTX_POL n (ctx / 8))) (4 * (ctx % 8)) 4
  match codeGroup code with
  | some 0 => s.fg (F.STN_POL_CUT_G0_CUT n k)
  | some 1 => s.fg (F.STN_POL_CUT_G1_CUT n k)
  | _ => 0

/-- Records of the reserve of 4 in use: FAULT messages not yet gone and places held (R71, R281). -/
def Station.faultPlaces (x : Station) : Nat :=
  ((x.queued ++ x.wait).filter (fun m => m.kind == 2)).length + x.faults.length

/-- The FAULT message of a record (R281): FSEQ is sent as 0, ACTIONS [1:0] hold the CUT the station acted on (R279). -/
def faultMsg (r : FaultRec) : UpMsg := ⟨2, 0, wordsOf { r with fseq := 0 }.bytes⟩

/-- Both the reserve and the announcement queue have room. -/
def Station.faultRoom (x : Station) : Bool := decide (x.faultPlaces < 4) && decide (x.announce.length < 8)

def announceWord (f : StnFault) : Nat := noteWord 0 f.r.code f.port f.r.ctx

/-- Send the overflow record once both have room again (R281). -/
def releaseOvf (n : Nat) (s : State) : State :=
  let x := s.stn n
  match x.ovf with
  | some f =>
    if x.faultRoom && f.wait.isNone then
      let r := { f.r with merged := s.fg (F.STN_FLT_OVF_COUNT n), flags := f.r.flags ||| flOvf }
      let x := { x with ovf := none, announce := x.announce ++ [announceWord f] }
      (setStn n (x.offer (faultMsg r)) s).wr (R.STN_FLT_OVF n) 0
    else s
  | none => s

/-- Offer a formed record, hold its place while it waits for its cut tick, or take the overflow entry or count (R281). An overflow record
that still waits for its own cut tick does not keep a later record from the room there is. -/
def placeFault (n : Nat) (f : StnFault) (s : State) : State :=
  let x := s.stn n
  if x.faultRoom then
    let x := { x with announce := x.announce ++ [announceWord f] }
    match f.wait with
    | some _ => setStn n { x with faults := x.faults ++ [f] } s
    | none => setStn n (x.offer (faultMsg f.r)) s
  else if x.ovf.isNone then
    (setStn n { x with ovf := some f } s).fs (F.STN_FLT_OVF_HELD n) 1
  else s.fsat (F.STN_FLT_OVF_COUNT n) 1

/-- A record with the identity of a port's command (R279). -/
def identify (r : FaultRec) (q : Option (Nat × QRec)) : FaultRec :=
  match q with
  | some (k, c) => { r with ctx := c.ctx, epoch := c.epoch, queue := k, cmdValid := true, bclass := c.bclass, seq := c.seq,
                            layer := c.layer, op := c.op }
  | none => r

/-- A station places a record it forms at unit u (R281, R285): a policy with CUT registers a trigger. -/
def placeFormed (u : Nat) (r : FaultRec) (s : State) : State :=
  let n := u / 16
  let cut := s.stnCut n r.ctx r.code
  let r := { r with actions := cut }
  if cut = 1 || cut = 2 then
    match stnTrigger n (cut == 2) s with
    | (some c, s) => placeFault n ⟨r, u % 16, some (c + s.shH - s.shW, c + s.shH)⟩ s
    | (none, s) => placeFault n ⟨r, u % 16, none⟩ s
  else placeFault n ⟨r, u % 16, none⟩ s

/-- A record a station forms (R279): its TS is this cycle's. -/
def State.stnRec (s : State) (u code : Nat) (q : Option (Nat × QRec)) (d0 d1 d2 flags : Nat) : FaultRec :=
  identify { code := code, unit := some u, ts := s.stnTs (u / 16),
             flags := (if s.stnPert (u / 16) then flPerturbed else 0) ||| flags, detail0 := d0, detail1 := d1, detail2 := d2 } q

def formFault (u code : Nat) (q : Option (Nat × QRec)) (d0 d1 d2 flags : Nat) (s : State) : State :=
  placeFormed u (s.stnRec u code q d0 d1 d2 flags) s

/-- Latch bit fields of R290: 0 UNCORR, 1 TRAP, 2 PROTO, 3 STALL. -/
def latchFld (n k : Nat) : Fld :=
  if k = 0 then F.STN_FLT_LATCH_LO_UNCORR n else if k = 1 then F.STN_FLT_LATCH_LO_TRAP n
  else if k = 2 then F.STN_FLT_LATCH_HI_PROTO n else F.STN_FLT_LATCH_HI_STALL n

def repeatFld (n k : Nat) : Fld :=
  if k = 0 then F.STN_FLT_REPEAT_LO_UNCORR n else if k = 1 then F.STN_FLT_REPEAT_LO_TRAP n
  else if k = 2 then F.STN_FLT_REPEAT_HI_PROTO n else F.STN_FLT_REPEAT_HI_STALL n

/-- A latched fault (R278): the first of its code at the port forms a record, later ones count. -/
def latchFault (u k code d0 d1 d2 : Nat) (s : State) : State :=
  let n := u / 16
  if bitOf (s.fg (latchFld n k)) (u % 16) then s.fsat (repeatFld n k) 1
  else
    let s := s.fs (latchFld n k) (setBit (s.fg (latchFld n k)) (u % 16) true)
    formFault u code (s.port u).current d0 d1 d2 0 s

/-- A protocol violation (R56): `row` is the row of R56's table, from 1; it counts in event PROTOCOL (R177) with the contexts and the
queue that what broke the contract carries (R178, R181). -/
def protoViolation (u row : Nat) (ctxs : List Nat) (queue : Option Nat) (s : State) : State :=
  let follows := (s.port u).follows s.clk.cyc
  latchFault u 2 cUapProtocol 0 row 0 (pcEvent u 0x0D ctxs (fun q => (queue.isNone || queue == some q) && follows q) s)

/-- The port's latches clear when UAP_RESET falls or UAP_ON rises (R278). -/
def clearLatches (u : Nat) (s : State) : State :=
  (List.range 4).foldl (fun s k => s.fs (latchFld (u / 16) k) (setBit (s.fg (latchFld (u / 16) k)) (u % 16) false)) s

/-! ### What a station does in a later cycle -/

/-- Note an action of a station for a later CNCLK cycle. -/
def addAct (n cyc : Nat) (a : StnAct) (s : State) : State := modStn n (fun x => { x with acts := x.acts ++ [(cyc, a)] }) s

/-- Take back the local drain noted for a port (R143). -/
def dropDrain (n p : Nat) (s : State) : State :=
  modStn n (fun x => { x with acts := x.acts.filter (fun a => a.2 != .drain p) }) s

/-! ### SH_CMD (R139, R140) -/

/-- SH_CMD code of a rank (R39): NONE 0, FREEZE 1, DRAIN 2, RUN_ON 3. -/
def shCode (rank : Nat) : Nat := if rank = 3 then 1 else if rank = 2 then 2 else if rank = 1 then 3 else 0

/-- Is a port in local breakpoint drain (R143): some CONTROL port of the station in local drain feeds it. -/
def State.localDrain (s : State) (u : Nat) : Bool :=
  let n := u / 16
  let t := (s.port u).ty
  (t == 0 || t == 4 || t == 5) && (List.range 16).any (fun c =>
    c != u % 16 && ((s.stn n).port c).bpDrain &&
      bitOf (bitsOf (s.rdN (R.STN_BP_FEED n (c / 2))) (16 * (c % 2)) 16) (u % 16))

/-- Drive SH_CMD of a port from its package state and local drain (R139); a change drops SH_ACK and, unless to NONE, sets
ACK_PEND in the cycle after (R140). -/
def driveSh (u : Nat) (s : State) : State :=
  let p := s.port u
  let v := if !p.on || p.rst then 0 else max p.pkg (if s.localDrain u then 2 else 0)
  if v = p.shCmd then s
  else
    let s := setPort u { p with shCmd := v, shSince := s.clk.cyc, offN := b2n (p.offCyc == some s.clk.cyc), ack := false
                                shLate := false } s
    if v = 0 then s.fs (F.STN_SH_STAT_ACK_PEND (u / 16)) (setBit (s.fg (F.STN_SH_STAT_ACK_PEND (u / 16))) (u % 16) false)
    else addAct (u / 16) (s.clk.cyc + 1) (.ackPend (u % 16)) s

/-- Drive every port of a station, and BP_DRAIN. -/
def driveStn (n : Nat) (s : State) : State :=
  let s := (List.range 16).foldl (fun s p => driveSh (16 * n + p) s) s
  s.fs (F.STN_SH_STAT_BP_DRAIN n) (b2n ((List.range 16).any (fun p => s.localDrain (16 * n + p))))

/-- A port is held (R273). -/
def State.held (s : State) (u : Nat) : Bool :=
  let p := s.port u
  p.shCmd == 3 || (p.ty == 1 && p.debugHalt != 0) || s.localDrain u

/-- A port's period index and period as fixed at the last restart of a (R274, R571). -/
def State.pwPeriod (s : State) (u : Nat) : Nat × Nat :=
  let n := u / 16
  let i := bitsOf (s.rdN (R.STN_PW_SEL n)) (2 * (u % 16)) 2
  (i, if i = 0 then 0 else scaleBudget (s.port u).pwScale (s.fg (F.STN_PW_PER_PERIOD n (i - 1))))

/-- PROGRESS_STALL: the port has made no progress for P; a restarts (R274, R280). -/
def expirePw (u : Nat) (s : State) : State :=
  let n := u / 16
  let p := s.port u
  let (i, per) := s.pwPeriod u
  if per = 0 || !p.pwRun || s.held u || decide (s.stnTs n ≤ p.pwFrom + per) then s
  else
    let s := latchFault u 3 cProgressStall p.pwFrom (per % 2 ^ 32 + 2 ^ 32 * i) 0 s
    modPort u (fun p => { p with pwFrom := s.stnTs n, pwScale := s.pwFactor n }) s

/-! ### Watchdogs of a port (R270 to R274) -/

/-- Free the watchdogs a predicate names (R270). -/
def freeWd (n : Nat) (f : Watchdog → Bool) (s : State) : State :=
  let x := s.stn n
  let w := x.wd.filter (fun e => !f e.2)
  (setStn n { x with wd := w } s).fs (F.STN_DL_STAT_WD_USED n) w.length

/-- DEADLINE_MISS of a watchdog (R271, R280): the record, the always-on counter, the programmable event; it is freed. -/
def missWd (n i : Nat) (w : Watchdog) (s : State) : State :=
  let u := 16 * n + w.port
  let s := freeWd n (fun v => v == w) s
  let s := modStn n (fun x => { x with wd := mdel x.wd i }) s
  let s := aoAdd u 5 1 s
  let s := pcEvent u 0x0B [w.cmd.ctx] (fun q => q == w.queue && (s.port u).follows s.clk.cyc q) s
  formFault u cDeadlineMiss (some (w.queue, w.cmd)) w.begun (w.budget + (if w.held then 2 ^ 37 else 0)) w.d 0 s

/-- Watchdogs of a port whose deadline has passed and which are not held, in watchdog order (R110, R271, R273). -/
def expireWd (u : Nat) (s : State) : State :=
  let n := u / 16
  let due := (s.stn n).wd.filter (fun w => w.2.port == u % 16 && w.2.rem.isNone && decide (w.2.d < s.stnTs n))
  due.foldl (fun s w => missWd n w.1 w.2 s) s

/-- Watchdogs of a port at the start and at the end of a hold (R273), and its progress watchdog (R274). A miss due in the cycle in which
the hold starts is reported first (R271). -/
def holdChange (u : Nat) (was : Bool) (s : State) : State :=
  let now := s.held u
  if was == now then s
  else if now then
    let s := expireWd u s
    let s := modStn (u / 16) (fun x => { x with wd := x.wd.map (fun w =>
      if w.2.port = u % 16 && w.2.rem.isNone then (w.1, { w.2 with rem := some (w.2.d - s.stnTs (u / 16)) }) else w) }) s
    modPort u (fun p => { p with pwRun := false }) s
  else
    let g := s.fg F.DL_GRACE_GRACE
    let s := modStn (u / 16) (fun x => { x with wd := x.wd.map (fun w =>
      match w.2.rem with
      | some r => if w.2.port = u % 16 then (w.1, { w.2 with d := s.stnTs (u / 16) + max r g, rem := none, held := true }) else w
      | none => w) }) s
    modPort u (fun p => { p with pwRun := p.current.isSome && s.fb (F.STN_TS_STAT_LOADED (u / 16)), pwFrom := s.stnTs (u / 16)
                                 pwScale := s.pwFactor (u / 16) }) s

/-- Change a station's shear or debug state and settle what follows: SH_CMD of its ports and their holds. -/
def withHolds (n : Nat) (f : State → State) (s : State) : State :=
  let was := (List.range 16).map (fun p => s.held (16 * n + p))
  let s := driveStn n (f s)
  (List.range 16).foldl (fun s p => holdChange (16 * n + p) (was.getD p false) s) s

/-- The station's epoch of a context (R288). -/
def State.stnEpoch (s : State) (n ctx : Nat) : Nat := bitsOf (s.rdN (R.STN_EPOCH n (ctx / 4))) (8 * (ctx % 4)) 8

/-! ### Boundary table (R345, R346) -/

/-- A boundary entry's words stand in the reset page. -/
def State.bnd (s : State) (n e w : Nat) : Nat := s.rdN (R.STN_RST_ENT n e w)

def State.bndKey (s : State) (n e : Nat) : Nat × Nat := (bitsOf (s.bnd n e 0) 0 4, bitsOf (s.bnd n e 0) 4 6)

def State.bndFind (s : State) (n p q : Nat) : Option Nat :=
  (List.range 64).find? (fun e => bitOf (s.bnd n e 0) 10 && s.bndKey n e == (p, q))

/-- The entry is the one touched last by an event. -/
def bndTouch (n e : Nat) (s : State) : State :=
  modStn n (fun x => { x with bndTouch := x.bndTouch.filter (· != e) ++ [e] }) s

/-- Allocate an entry at a BEGIN that is not stale: a free one, else the least recently touched whose queue is IDLE and
which holds no uncollected latch, else the port is UNTRACKED (R345). -/
def bndBegin (u q : Nat) (s : State) : State :=
  let n := u / 16
  let p := u % 16
  match s.bndFind n p q with
  | some e => bndTouch n e s
  | none =>
    let free := (List.range 64).find? (fun e => !bitOf (s.bnd n e 0) 10)
    let evict := (s.stn n).bndTouch.find? (fun e =>
      let k := s.bndKey n e
      !bitOf (s.bnd n e 0) 11 && (mget? (((s.stn n).port k.1).queues) k.2).isNone)
    let take (e : Nat) (s : State) : State :=
      bndTouch n e ((modStn n (fun x => { x with bndDone := mdel x.bndDone e }) s).wrWords (R.STN_RST_ENT n e 0)
        [p + 16 * q + 2 ^ 10, 0, 0, 0])
    match free, evict with
    | some e, _ => take e s
    | none, some e => take e s
    | none, none => s.fs (F.STN_RST_STAT_UNTRACKED n) (setBit (s.fg (F.STN_RST_STAT_UNTRACKED n)) p true)

/-- An END taken as a completion updates the entry's last completion (R345): DONE_VALID and SEQ; its context and epoch stand
beside the entry for a latch with nothing in flight. -/
def bndEnd (u q seq ctx epoch : Nat) (s : State) : State :=
  let n := u / 16
  match s.bndFind n (u % 16) q with
  | none => s
  | some e =>
    let s := modStn n (fun x => { x with bndDone := mput x.bndDone e (ctx, epoch) }) s
    bndTouch n e ((s.wrN (R.STN_RST_ENT n e 0) (setBit (s.bnd n e 0) 15 true)).wrN (R.STN_RST_ENT n e 1) seq)

/-- At a port's reset every entry of the port is latched, where its latch has been collected (R346). -/
def bndLatch (u : Nat) (s : State) : State :=
  let n := u / 16
  let p := u % 16
  let s := (List.range 64).foldl (fun s e =>
    let w0 := s.bnd n e 0
    if bitOf w0 10 && bitsOf w0 0 4 == p && !bitOf w0 11 then
      let fl := mget? (s.port u).queues (bitsOf w0 4 6)
      let done := bitOf w0 15
      let (ctx, ep, f, su, sq) := match fl with
        | some c => (c.ctx, c.epoch, true, c.susp, c.seq)
        | none => ((mget (s.stn n).bndDone e (0, 0)).1, (mget (s.stn n).bndDone e (0, 0)).2, false, false, 0)
      let w := w0 % 2 ^ 11 + 2 ^ 11 + (if done then 2 ^ 12 + 2 ^ 15 else 0) + (if f then 2 ^ 13 else 0) +
        (if su then 2 ^ 14 else 0) + 2 ^ 16 * ctx + 2 ^ 24 * ep
      let s := s.wrN (R.STN_RST_ENT n e 0) w
      let s := s.wrN (R.STN_RST_ENT n e 2) (if done then s.bnd n e 1 else 0)
      let s := s.wrN (R.STN_RST_ENT n e 3) sq
      if e < 32 then s.fs (F.STN_RST_LAT_LO_LAT n) (setBit (s.fg (F.STN_RST_LAT_LO_LAT n)) e true)
      else s.fs (F.STN_RST_LAT_HI_LAT n) (setBit (s.fg (F.STN_RST_LAT_HI_LAT n)) (e - 32) true)
    else s) s
  let un := s.fg (F.STN_RST_STAT_UNTRACKED n)
  let s := if bitOf un p then
      s.fs (F.STN_RST_STAT_LAT_UNTRACKED n) (setBit (s.fg (F.STN_RST_STAT_LAT_UNTRACKED n)) p true) else s
  let s := s.fs (F.STN_RST_SEEN_SEEN n) (setBit (s.fg (F.STN_RST_SEEN_SEEN n)) p true)
  s.fs (F.STN_RST_STAT_UNTRACKED n) (setBit un p false)

end Sys2Proof.Machine
end

