-- ==== Sys2Proof/Machine/Packets.lean ====
section
/-! DEFINITION. Trace packets at a station (R202 to R209, R226 to R239): packet bytes, the unit one event causes, the open
message, closing and refusal, GAPs, SYNC and the dictionary, comparator hits (R215, R216), the lossless hold (R220). -/

namespace Sys2Proof.Machine

/-! ### Encoding -/

/-- A VAR field (R229): groups of 7 bits, least significant first, in the fewest bytes. -/
def varBytesF : Nat → Nat → List Nat
  | 0, n => [n % 128]
  | k + 1, n => if n < 128 then [n] else (n % 128 + 128) :: varBytesF k (n / 128)

def varBytes (n : Nat) : List Nat := varBytesF 9 n

/-- Byte 0 of a packet (R228). -/
def pktHead (ty n : Nat) : Nat := ty + 16 * n

/-- The GAP packet of a loss (R239). -/
def gapBytes (cause : Nat) (l : Loss) : List Nat :=
  [pktHead 0xB 0, cause + (if l.count > 0xFFFFFFFF then 8 else 0)] ++ toLe 8 l.name ++ toLe 4 (min l.count 0xFFFFFFFF) ++
    toLe 8 l.first ++ varBytes (l.last - l.first)

/-- TS_DELTA before a packet at TS `ts` (R230, R231): ABS at a block's start, DELTA on a change, nothing otherwise. -/
def tsDelta (base : Option Nat) (ts : Nat) : List Nat :=
  match base with
  | none => pktHead 1 1 :: toLe 8 ts
  | some b => if b = ts then [] else pktHead 1 0 :: varBytes (ts - b)

/-- Source codes (R232). -/
def srcCmd : Nat := 0
def srcStale : Nat := 1
def srcItrace : Nat := 2
def srcDtrace : Nat := 3
def srcPort : Nat := 4
def srcStim : Nat := 5
def srcWriter : Nat := 6

/-- Add a loss of `count` packets or messages named by `name` at TS `ts` (R208): masks are ORed. -/
def addLoss (l : Option Loss) (name count first last : Nat) : Option Loss :=
  match l with
  | none => some ⟨name, count, first, last⟩
  | some o => some ⟨o.name ||| name, o.count + count, o.first, last⟩

/-! ### Capture conditions -/

def StnTrace.portCfg (t : StnTrace) (p : Nat) : Nat := t.ports.getD p 0
def StnTrace.ctxOn (t : StnTrace) (ctx : Nat) : Bool := bitOf (t.ctxEn.getD (ctx / 32) 0) (ctx % 32)

/-- Key of a source of a port. -/
def srcKey (p src : Nat) : Nat := 8 * p + src

/-- Mark a SYNC due for a source; where one is due already the lowest REASON stays (R232). -/
def syncDue (p src reason : Nat) (t : StnTrace) : StnTrace :=
  let s := mget t.srcs (srcKey p src) {}
  let d := match s.due with | some r => min r reason | none => reason
  { t with srcs := mput t.srcs (srcKey p src) { s with due := some d } }

/-- Sources of a port that its configuration enables (R202); PORT packets need any of them. -/
def enabledSrcs (cfg : Nat) (itrace : Bool) : List Nat :=
  let a := (if bitOf cfg 0 then [srcCmd] else []) ++ (if bitOf cfg 1 then [srcStale] else []) ++
    (if bitOf cfg 2 && itrace then [srcItrace] else []) ++ (if bitOf cfg 3 then [srcDtrace] else [])
  if a.isEmpty then [] else a ++ [srcPort]

def State.portSrcs (s : State) (n p : Nat) : List Nat :=
  enabledSrcs ((s.stn n).trace.portCfg p) (s.fb (F.DBG_CTL_ITRACE_EN n p))

/-- SYNC due for every enabled source of a port, or of a station (R205). -/
def syncPort (n p reason : Nat) (s : State) : State :=
  let l := s.portSrcs n p
  modStn n (fun x => { x with trace := l.foldl (fun t src => syncDue p src reason t) x.trace }) s

def syncStn (n reason : Nat) (s : State) : State :=
  (List.range 16).foldl (fun s p => syncPort n p reason s) s

/-- The SYNC of a source (R232): queue masks, last address or port state as at the end of the cycle before. -/
def syncBytes (pt : Port) (p src reason : Nat) (pert : Bool) : List Nat :=
  let mask (f : QRec → Bool) : Nat := (pt.queues.map (fun q => if f q.2 then 2 ^ q.1 else 0)).sum
  [pktHead 0 p, src + (if pert then 8 else 0) + 16 * reason] ++
    (if src = srcCmd then toLe 8 (mask (fun q => !q.susp)) ++ toLe 8 (mask (fun q => q.susp))
     else if src = srcItrace then b2n pt.itAddr.isSome :: toLe 8 (pt.itAddr.getD 0)
     else if src = srcPort then [b2n pt.on + 2 * b2n pt.rst + 4 * b2n pt.excl]
     else [])

/-! ### The open message -/

/-- Losses not covered by a GAP, as LOST_PORTS shows them (R225). -/
def StnTrace.lostPorts (t : StnTrace) : Nat :=
  ((t.loss1.map (·.name)).getD 0) ||| ((t.loss2.map (·.name)).getD 0)

def showLost (n : Nat) (s : State) : State :=
  s.fs (F.STN_TRC_STAT_LOST_PORTS n) (s.stn n).trace.lostPorts

/-- Hold running lossless cores when the TRACE share reaches HIGH (R220, LOSSLESS_HOLD). -/
def losslessHold (n : Nat) (s : State) : State :=
  let x := s.stn n
  let ports := (List.range 16).filter (fun p => bitOf (x.trace.portCfg p) 4 && (x.port p).ty == 1)
  if ports.isEmpty || s.fb (F.STN_TRC_STAT_HOLD n) || x.traceUse < 64 * x.trace.high then s
  else
    let s := ports.foldl (fun s p =>
      if s.fb (F.DBG_STAT_HALTED n p) then s
      else
        let s := modPort (16 * n + p) (fun q => { q with holdHalt := true, reqCyc := some (q.reqCyc.getD s.clk.cyc),
                                                         haltLate := q.haltLate && q.reqCyc.isSome,
                                                         pulses := q.pulses ++ [1] }) s
        s.fs (F.DBG_STAT_HALT_PENDING n p) 1) s
    (s.fs (F.STN_TRC_STAT_HOLD n) 1).fsat (F.STN_TRC_DROP_HOLDS n) 1

/-- RUN_REQ of the release (R220): to each core the hold halted, where nothing else holds it. RUN_REQ ends local drain
(R143) and the debug halt (R53). -/
def releaseHold (n : Nat) (s : State) : State :=
  let s := s.fs (F.STN_TRC_STAT_HOLD n) 0
  withHolds n (fun s => (List.range 16).foldl (fun s p =>
    let q := (s.stn n).port p
    if q.holdHalt then
      let go := s.fg (F.DBG_STAT_CAUSE n p) == 3
      setPort (16 * n + p) { q with holdHalt := false, pulses := (if go then q.pulses ++ [2] else q.pulses)
                                    bpDrain := (if go then false else q.bpDrain)
                                    debugHalt := (if go then 0 else q.debugHalt) } (s.when go (dropDrain n p))
    else s) s) s

/-- The TRACE share falls to LOW (R220, LOSSLESS_RELEASE). -/
def losslessRelease (n : Nat) (s : State) : State :=
  if s.fb (F.STN_TRC_STAT_HOLD n) && decide ((s.stn n).traceUse ≤ 64 * (s.stn n).trace.low) then releaseHold n s else s

/-- Close the open message and offer it (R203, R208): the GAPs of causes 1 and 2 stand at its head; refused where the
TRACE share cannot hold it, and its packets are then lost under cause 1. -/
def closeTrace (n : Nat) (s : State) : State :=
  let x := s.stn n
  let t := x.trace
  if t.openBytes.isEmpty then s
  else
    let gaps := (match t.loss1 with | some l => gapBytes 1 l | none => []) ++
      (match t.loss2 with | some l => gapBytes 2 l | none => [])
    let bs := gaps ++ t.openBytes
    let ws := wordsOf bs
    let m : UpMsg := ⟨0, 4 * ws.length - bs.length, ws⟩
    let t' := { t with openBytes := [], openPorts := 0, openPkts := 0, base := none }
    if x.traceUse + m.bytes ≤ traceShare then
      let s := setStn n { x with trace := { t' with loss1 := none, loss2 := none }, fifo := x.fifo ++ [m] } s
      losslessHold n (showLost n s)
    else
      let t' := { t' with loss1 := addLoss t.loss1 t.openPorts t.openPkts t.openFirst (t.base.getD (s.stnTs n)) }
      let s := setStn n { x with trace := (bitsSet 16 t.openPorts).foldl (fun t p =>
          [0, 1, 2, 3, 4].foldl (fun t src => syncDue p src 2 t) t) t' } s
      let s := (s.fsat (F.STN_TRC_DROP_MSGS n) 1).fsat (F.STN_TRC_DROP_PKTS n) t.openPkts
      showLost n (pcStation n 0x81 1 s)

/-- A unit's bytes would take the open message past 960 bytes (R203). -/
def fullWith (n : Nat) (body : List Nat) (s : State) : Bool :=
  let t := (s.stn n).trace
  decide (960 < t.openBytes.length + (tsDelta t.base (s.stnTs n)).length + body.length)

/-- Append a unit's packets at this cycle's TS to the open message (R203), which is closed first where they would take it
past 960 bytes. -/
def appendUnit (n p : Nat) (body : List Nat) (pkts : Nat) (s : State) : State :=
  let s := if fullWith n body s then closeTrace n s else s
  let t := (s.stn n).trace
  let first := t.openBytes.isEmpty
  modStn n (fun x => { x with trace := { t with
    openBytes := t.openBytes ++ tsDelta t.base (s.stnTs n) ++ body
    openPorts := setBit t.openPorts p true
    openPkts := t.openPkts + pkts
    openFirst := (if first then s.stnTs n else t.openFirst)
    openCyc := (if first then s.spineCyc else t.openCyc)
    base := some (s.stnTs n) } }) s

/-- What one packet of a source adds to a message (R203). -/
structure PktUnit where
  body : List Nat
  pkts : Nat
  dict : SMap DictEnt
  dictPtr : Nat
  st : SrcState
  deriving DecidableEq, Repr

/-- The unit of one packet of a source (R203): its SYNC where one is due or 4,096 packets have passed (R232), its DICT_DEF, the packet. `key` is
the dictionary key of a command packet (R233), and `mk` makes the packet from its entry. -/
def unitOf (u src : Nat) (key : Option DictEnt) (mk : Nat → List Nat) (pre : Port) (s : State) : PktUnit :=
  let p := u % 16
  let t := (s.stn (u / 16)).trace
  let st := mget t.srcs (srcKey p src) {}
  let due := if st.count ≥ 4096 then some (match st.due with | some r => min r 1 | none => 1) else st.due
  let sync := match due with | some r => syncBytes pre p src r (s.stnPert (u / 16)) | none => []
  let dict := if src = srcCmd && due.isSome then t.dict.map (fun e => (e.1, { e.2 with defined := setBit e.2.defined p false }))
    else t.dict
  let (dict, ptr, idx, def_) : SMap DictEnt × Nat × Nat × List Nat := match key with
    | none => (dict, t.dictPtr, 0, [])
    | some k =>
      let hit := dict.find? (fun e => e.2.ctx == k.ctx && e.2.epoch == k.epoch && e.2.layer == k.layer &&
        e.2.op == k.op && e.2.bclass == k.bclass)
      let (dict, ptr, idx, ent) := match hit with
        | some (i, e) => (dict, t.dictPtr, i, e)
        | none => (mput dict t.dictPtr { k with defined := 0 }, (t.dictPtr + 1) % 64, t.dictPtr, { k with defined := 0 })
      if bitOf ent.defined p then (dict, ptr, idx, [])
      else (mput dict idx { ent with defined := setBit ent.defined p true }, ptr, idx,
        [pktHead 5 p, idx, k.ctx, k.epoch] ++ toLe 2 k.layer ++ toLe 2 k.op ++ [k.bclass])
  { body := sync ++ def_ ++ mk idx, pkts := 1 + b2n due.isSome + b2n (!def_.isEmpty), dict := dict, dictPtr := ptr
    st := { count := (if due.isSome then 0 else st.count) + 1 + b2n (!def_.isEmpty), due := none } }

/-- Packet bytes formed in this cycle that count against the burst limit (R203). -/
def State.burstUsed (s : State) (n : Nat) : Nat :=
  let t := (s.stn n).trace
  if t.burstCyc = s.clk.cyc then t.burst else 0

/-- Form one packet of a source (R203): its unit joins the open message, or is dropped whole under BURST where it would take the cycle past 64
bytes. A message that it would take past 960 bytes is closed first, and what that loses comes before the unit (R208). The dictionary takes
the key either way (R233). -/
def formPacket (u src : Nat) (key : Option DictEnt) (mk : Nat → List Nat) (pre : Port) (s : State) : State :=
  let n := u / 16
  let p := u % 16
  let w := unitOf u src key mk pre s
  let s := if s.burstUsed n + w.body.length ≤ 64 && fullWith n w.body s then closeTrace n s else s
  let w := unitOf u src key mk pre s
  if s.burstUsed n + w.body.length > 64 then
    let s := modStn n (fun x => { x with trace := [0, 1, 2, 3, 4].foldl (fun t src => syncDue p src 2 t) { x.trace with
      dict := w.dict, dictPtr := w.dictPtr, loss2 := addLoss x.trace.loss2 (2 ^ p) w.pkts (s.stnTs n) (s.stnTs n) } }) s
    showLost n (s.fsat (F.STN_TRC_DROP_PKTS n) w.pkts)
  else
    let used := s.burstUsed n + w.body.length
    appendUnit n p w.body w.pkts (modStn n (fun x => { x with trace := { x.trace with
      burstCyc := s.clk.cyc, burst := used, dict := w.dict, dictPtr := w.dictPtr
      srcs := mput x.trace.srcs (srcKey p src) w.st } }) s)

/-- A GAP of cause 3 before the record that carried an overflow flag (R208, R237): outside the burst limit; the source's
SYNC follows. -/
def coreOvfGap (u src : Nat) (s : State) : State :=
  let n := u / 16
  let p := u % 16
  let s := appendUnit n p (gapBytes 3 ⟨p, 0, s.stnTs n, s.stnTs n⟩) 0 s
  modStn n (fun x => { x with trace := syncDue p src 2 x.trace }) s

/-- The port forms packets: capture runs, the port is neither excluded nor ignored (R203, R206, R207). -/
def State.capturing (s : State) (u : Nat) : Bool := (s.stn (u / 16)).trace.run && !(s.port u).excl

/-- A state packet of a port (R206, R207): POWER_GAP or EXCLUDED. -/
def portPacket (u : Nat) (bytes : List Nat) (pre : Port) (s : State) : State :=
  if (s.stn (u / 16)).trace.run && !(s.portSrcs (u / 16) (u % 16)).isEmpty then
    formPacket u srcPort none (fun _ => bytes) pre s
  else s

/-- A command packet of an accepted event (R235): type 2 BEGIN or RESUME, 3 END or SUSPEND, 4 ABORT. -/
def cmdPacket (u : Nat) (e : Event) (pre : Port) (s : State) : State :=
  let t := (s.stn (u / 16)).trace
  if s.capturing u && bitOf (t.portCfg (u % 16)) 0 && t.ctxOn e.ctx then
    let ty := if e.kind = 0 ∨ e.kind = 4 then 2 else if e.kind = 1 ∨ e.kind = 3 then 3 else 4
    let var_ := e.kind = 3 ∨ e.kind = 4
    formPacket u srcCmd (some ⟨e.ctx, e.epoch, e.layer, e.op, e.bclass, 0⟩)
      (fun i => [pktHead ty (u % 16), e.queue + (if var_ then 64 else 0), i] ++ toLe 4 e.seq) pre s
  else s

/-- The STALE packet of a stale event (R236), where TRC_PORT.STALE is 1 (R202, R288). -/
def stalePacket (u : Nat) (e : Event) (cur : Nat) (pre : Port) (s : State) : State :=
  let t := (s.stn (u / 16)).trace
  if s.capturing u && bitOf (t.portCfg (u % 16)) 1 then
    formPacket u srcStale none (fun _ => [pktHead 0xE (u % 16), e.kind, e.queue, e.ctx, e.epoch, cur] ++ toLe 4 e.seq ++
      toLe 2 e.layer ++ toLe 2 e.op ++ [e.bclass]) pre s
  else s

/-! ### Comparators at stations (R215, R216) -/

/-- Fields of a comparator's words: CTL, MATCH, MASK, PORTS, VAL_LO, VAL_HI, VMASK_LO, VMASK_HI (R224). -/
def cmpSrc (w : List Nat) : Nat := bitsOf (w.getD 0 0) 0 3
def cmpPorts (w : List Nat) (p : Nat) : Bool := bitsOf (w.getD 3 0) 0 16 == 0 || bitOf (w.getD 3 0) p
def cmpVal (w : List Nat) : Nat := w.getD 4 0 + 2 ^ 32 * w.getD 5 0
def cmpVmask (w : List Nat) : Nat := w.getD 6 0 + 2 ^ 32 * w.getD 7 0

/-- A CMD comparator's conditions on an event (R215). -/
def cmpCmd (w : List Nat) (p : Nat) (e : Event) : Bool :=
  let c := w.getD 0 0
  let m := w.getD 1 0
  let k := w.getD 2 0
  cmpSrc w == 1 && cmpPorts w p && bitOf c (3 + e.kind) &&
    ((bitsOf m 0 16 ^^^ e.layer) &&& bitsOf k 0 16) == 0 && ((bitsOf m 16 16 ^^^ e.op) &&& bitsOf k 16 16) == 0 &&
    (!bitOf c 20 || bitsOf c 21 8 == e.ctx)

/-- A PC or DATA comparator's conditions on an address. -/
def cmpAddr (w : List Nat) (src p addr : Nat) : Bool :=
  cmpSrc w == src && cmpPorts w p && ((addr ^^^ cmpVal w) &&& cmpVmask w) == 0

/-- Hits of the station's comparators are ORed into the pending mask; the first hit is kept (R216). -/
def stnHits (u : Nat) (f : List Nat → Bool) (ctx : Nat) (s : State) : State :=
  let n := u / 16
  let t := (s.stn n).trace
  let h := t.cmps.filter (fun c => f c.2)
  if h.isEmpty || (s.port u).excl then s
  else
    let first := t.hits == 0
    modStn n (fun x => { x with trace := { t with
      hits := h.foldl (fun m c => setBit m c.1 true) t.hits
      hitN := min 255 (t.hitN + h.length)
      hitPort := (if first then u % 16 else t.hitPort)
      hitCtx := (if first then ctx else t.hitCtx) } }) s

end Sys2Proof.Machine
end

