-- ==== Sys2Proof/Machine/Cells.lean ====
section
/-! DEFINITION. Stria cells: elements and their canonical words (R247, R248), keys (R251), histogram (R252), exact sums
(R253), digests (R255), absorption and merging (R250, R260), cell records, and the tiles of a station's engine (R256 to
R259). -/

namespace Sys2Proof.Machine

/-! ### Elements -/

/-- Format parameters (R46, R247): element bits, exponent bits, fraction bits, bias, whether exponent all ones is
Inf or NaN as IEEE 754 has it, whether all ones below the sign is NaN (OCP E4M3). Codes 10 to 14 are not floating. -/
structure FmtInfo where
  bits : Nat
  ebits : Nat := 0
  fbits : Nat := 0
  bias : Nat := 0
  ieee : Bool := false
  topNan : Bool := false
  deriving DecidableEq, Repr

def fmtInfo (f : Nat) : FmtInfo :=
  match f with
  | 0 => ⟨32, 8, 23, 127, true, false⟩
  | 1 => ⟨16, 5, 10, 15, true, false⟩
  | 2 => ⟨16, 8, 7, 127, true, false⟩
  | 3 => ⟨8, 4, 3, 7, false, true⟩
  | 4 => ⟨8, 5, 2, 15, true, false⟩
  | 5 => ⟨8, 4, 3, 7, false, true⟩
  | 6 => ⟨8, 5, 2, 15, true, false⟩
  | 7 => ⟨6, 3, 2, 3, false, false⟩
  | 8 => ⟨6, 2, 3, 1, false, false⟩
  | 9 => ⟨4, 2, 1, 1, false, false⟩
  | 10 => ⟨8, 0, 0, 0, false, false⟩
  | 11 => ⟨8, 0, 0, 0, false, false⟩
  | _ => ⟨32, 0, 0, 0, false, false⟩

def isMx (f : Nat) : Bool := decide (5 ≤ f ∧ f ≤ 10)
def isFloat (f : Nat) : Bool := decide (f ≤ 9)

/-- Canonical NaN of a format (R247). -/
def canonNan (f : Nat) : Nat :=
  match f with
  | 0 => 0x7FC00000 | 1 => 0x7E00 | 2 => 0x7FC0 | 3 => 0x7F | 4 => 0x7E | 5 => 0x7F | 6 => 0x7E | _ => 0

/-- What an element's value is (R247): a NaN, an infinity, or sign, m and e with |v| = m × 2^e. -/
inductive ElemVal where
  | nan
  | inf (neg : Bool)
  | fin (neg : Bool) (m : Nat) (e : Int)
  deriving DecidableEq, Repr

/-- The element's own value, before any MX scale. -/
def elemVal (f b : Nat) : ElemVal :=
  let i := fmtInfo f
  if isFloat f then
    let neg := bitOf b (i.bits - 1)
    let ex := bitsOf b i.fbits i.ebits
    let fr := bitsOf b 0 i.fbits
    if i.ieee && ex == 2 ^ i.ebits - 1 then (if fr = 0 then .inf neg else .nan)
    else if i.topNan && ex == 2 ^ i.ebits - 1 && fr == 2 ^ i.fbits - 1 then .nan
    else if ex = 0 then .fin neg fr (1 - (i.bias : Int) - i.fbits)
    else .fin neg (2 ^ i.fbits + fr) ((ex : Int) - i.bias - i.fbits)
  else
    let neg := bitOf b (i.bits - 1)
    .fin neg (if neg then 2 ^ i.bits - b else b) (if f = 10 then -6 else 0)

/-- The canonical word (R247): canonical NaN, and −0 as 0 unless it is kept. -/
def canonWord (f : Nat) (keep : Bool) (b : Nat) : Nat :=
  match elemVal f b with
  | .nan => canonNan f
  | _ => if isFloat f && b == 2 ^ ((fmtInfo f).bits - 1) && !keep then 0 else b

/-- The value of a canonical word with its MX scale (R248): scale 0xFF makes a NaN. -/
def scaledVal (f w scale : Nat) : ElemVal :=
  if isMx f then
    if scale = 0xFF then .nan
    else match elemVal f w with
      | .fin n m e => .fin n m (e + scale - 127)
      | v => v
  else elemVal f w

def isSubn (f w : Nat) : Bool :=
  isFloat f && bitsOf w (fmtInfo f).fbits (fmtInfo f).ebits == 0 && bitsOf w 0 (fmtInfo f).fbits != 0

/-- floor(log2 m) for m > 0. -/
def log2 (m : Nat) : Nat := Nat.log2 m

/-- The element form u of R251: key type F32 for codes 0 to 4, X32 for MX formats, I32 for INT8 and INT32. -/
def elemForm (f w : Nat) (v : ElemVal) : Nat :=
  if f ≤ 4 then
    match v with
    | .nan => 0
    | .inf n => 0x7F800000 + (if n then 2 ^ 31 else 0)
    | .fin n m e =>
      (if n then 2 ^ 31 else 0) +
        (if m = 0 then 0
         else
          let x : Int := log2 m + e
          if x < -126 then m * 2 ^ (e + 149).toNat
          else (x + 127).toNat * 2 ^ 23 + (m - 2 ^ log2 m) * 2 ^ (23 - log2 m))
  else if isMx f then
    match v with
    | .nan => 0
    | .inf n => 511 * 2 ^ 22 + (if n then 2 ^ 31 else 0)
    | .fin n m e =>
      (if n then 2 ^ 31 else 0) +
        (if m = 0 then 0 else ((log2 m + e + 256 : Int)).toNat * 2 ^ 22 + (m - 2 ^ log2 m) * 2 ^ (22 - log2 m))
  else if f = 11 then (if w < 128 then w else 2 ^ 32 - 256 + w)
  else w

def elemKey (f u : Nat) : Nat :=
  if f ≤ 10 then (if bitOf u 31 then 2 ^ 32 - 1 - u else u + 2 ^ 31) else (u ^^^ 2 ^ 31)

def elemMag (f u : Nat) : Nat :=
  if f ≤ 10 then u % 2 ^ 31 else (if bitOf u 31 then 2 ^ 32 - u else u)

/-! ### Digest (R255) -/

def rotl64 (x k : Nat) : Nat := ((x <<< k) % 2 ^ 64) ||| (x >>> (64 - k))

def mix (c w : Nat) : Nat :=
  let x := (c % 2 ^ 32) ^^^ (w % 2 ^ 32)
  let m := (x * 0xd6e8feb9) ^^^ rotl64 (c % 2 ^ 64) 29
  m ^^^ (m >>> 32)

/-! ### Absorbing and merging -/

def cnt48 : Nat := 2 ^ 48 - 1

/-- Add to a 48-bit count: the value and whether it saturated. -/
def satCnt (a d : Nat) : Nat × Bool := if a + d > cnt48 then (cnt48, true) else (a + d, false)

/-- 384-bit two's-complement addition: the sum and whether it overflowed (R253). -/
def add384 (a b : Nat) : Nat × Bool :=
  let t := (a + b) % 2 ^ 384
  let neg (x : Nat) : Bool := bitOf x 383
  (t, neg a == neg b && neg t != neg a)

/-- A value at the weight of the accumulator, as a 384-bit two's complement number. -/
def sumTerm (neg : Bool) (m : Nat) (e : Int) : Nat :=
  let x := m * 2 ^ (e + 160).toNat
  if neg && x != 0 then 2 ^ 384 - x % 2 ^ 384 else x % 2 ^ 384

/-- Histogram bin (R252): `lo` signed, given in its 10-bit field. -/
def histBin (loField step : Nat) (ex : Int) : Nat :=
  let lo : Int := if bitOf loField 9 then (loField : Int) - 1024 else loField
  let d := ex - lo
  if d < 0 then 0 else min 15 (1 + (d.toNat >>> step))

/-- Merge two cells field by field (R260). -/
def cellMerge (a b : Cell) : Cell :=
  let (c, s1) := satCnt a.count b.count
  let (na, s2) := satCnt a.nan b.nan
  let (pi, s3) := satCnt a.pinf b.pinf
  let (ni, s4) := satCnt a.ninf b.ninf
  let (ze, s5) := satCnt a.zero b.zero
  let (su, s6) := satCnt a.subn b.subn
  let h := List.zipWith (fun x y => x + y) a.hist b.hist
  let (sm, o) := add384 a.sum b.sum
  { count := c, nan := na, pinf := pi, ninf := ni, zero := ze, subn := su
    min := min a.min b.min, max := max a.max b.max, maxabs := max a.maxabs b.maxabs
    hist := h.map (fun x => min x 0xFFFFFFFF), sum := sm, digest := (a.digest + b.digest) % 2 ^ 64
    large := a.large || b.large || decide (2 ^ 40 ≤ c)
    sumOvf := a.sumOvf || b.sumOvf || o
    cntSat := a.cntSat || b.cntSat || s1 || s2 || s3 || s4 || s5 || s6
    histSat := a.histSat || b.histSat || h.any (fun x => decide (x > 0xFFFFFFFF)) }

/-- The cell of one element (R247 to R255), to be merged: `hist` is the slot's HIST word, `coord` its coordinate. -/
def elemCell (f : Nat) (keep : Bool) (hist scale coord raw : Nat) : Cell :=
  if f = 13 then { count := 1, digest := mix coord raw }
  else
    let w := canonWord f keep raw
    let v := scaledVal f w scale
    let u := elemForm f w v
    let term := mix coord w
    let c : Cell := { count := 1, digest := term, subn := b2n (isSubn f w) }
    match v with
    | .nan => { c with nan := 1, subn := b2n (isSubn f w && scale != 0xFF) }
    | .inf n => { c with pinf := b2n (!n), ninf := b2n n, min := elemKey f u, max := elemKey f u, maxabs := elemMag f u }
    | .fin n m e =>
      let c := { c with min := elemKey f u, max := elemKey f u, maxabs := elemMag f u }
      if m = 0 then { c with zero := 1 }
      else
        { c with
          hist := setAt 0 c.hist (histBin (bitsOf hist 0 10) (bitsOf hist 10 2) (log2 m + e)) 1
          sum := sumTerm n m e }

/-- Elements of a beat (R44, R46, R47): coordinates with their raw bits; RAW64 is taken apart by its own rule. -/
def beatLanes (b : Beat) : List (Nat × Nat) :=
  (bitsSet 8 b.mask).map (fun i => (i, bitsOf b.data (32 * i) (fmtInfo b.fmt).bits))

/-- All the elements of a beat as one cell, with the block's scale term where the block's first coordinate is in it
(R248). -/
def beatCell (b : Beat) (keep : Bool) (hist : Nat) : Cell :=
  if b.fmt = 14 then
    (List.range 4).foldl (fun c k =>
      if bitOf b.mask (2 * k) then
        let co := b.coord + k
        cellMerge c { count := 1, digest := (mix co (bitsOf b.data (64 * k) 32) +
          mix (co ||| 2 ^ 47) (bitsOf b.data (64 * k + 32) 32)) % 2 ^ 64 }
      else c) {}
  else
    let c := (beatLanes b).foldl (fun c l => cellMerge c (elemCell b.fmt keep hist b.scale (b.coord + l.1) l.2)) {}
    if isMx b.fmt then
      (beatLanes b).foldl (fun c l =>
        if (b.coord + l.1) % 32 = 0 then cellMerge c { digest := mix (((b.coord + l.1) / 32) ||| 2 ^ 47) b.scale } else c) c
    else c

/-- How many elements a beat holds. -/
def beatCount (b : Beat) : Nat := if b.fmt = 14 then popCount 8 b.mask / 2 else popCount 8 b.mask

/-! ### Records (R250) -/

/-- The 192 bytes of a cell as 48 words. -/
def cellWords (c : Cell) : List Nat :=
  let n64 (x : Nat) : List Nat := [x % 2 ^ 32, x >>> 32]
  n64 (c.count + 2 ^ 48 * (b2n c.large + 2 * b2n c.sumOvf + 4 * b2n c.cntSat + 8 * b2n c.histSat)) ++
    n64 c.nan ++ n64 c.pinf ++ n64 c.ninf ++ n64 c.zero ++ n64 c.subn ++ [c.min, c.max, c.maxabs, 0] ++ c.hist ++
    (List.range 12).map (fun i => bitsOf c.sum (32 * i) 32) ++ n64 c.digest ++ [0, 0]

/-- The cell of 48 words. -/
def cellOfWords (w : List Nat) : Cell :=
  let n64 (i : Nat) : Nat := w.getD i 0 + 2 ^ 32 * w.getD (i + 1) 0
  let f := n64 0
  { count := f % 2 ^ 48, large := bitOf f 48, sumOvf := bitOf f 49, cntSat := bitOf f 50, histSat := bitOf f 51
    nan := n64 2 % 2 ^ 48, pinf := n64 4 % 2 ^ 48, ninf := n64 6 % 2 ^ 48, zero := n64 8 % 2 ^ 48, subn := n64 10 % 2 ^ 48
    min := w.getD 12 0, max := w.getD 13 0, maxabs := w.getD 14 0, hist := (w.drop 16).take 16
    sum := ((List.range 12).map (fun i => w.getD (32 + i) 0 * 2 ^ (32 * i))).sum, digest := n64 44 }

/-! ### Watch slots (R244, R245) -/

/-- Slot words: CFG, SEL, LAYER, OP, HIST, STORE (R267). -/
def slArmed (w : List Nat) : Bool := bitOf (w.getD 0 0) 0
def slFmt (w : List Nat) : Nat := bitsOf (w.getD 0 0) 1 4
def slMode (w : List Nat) : Nat := bitsOf (w.getD 0 0) 5 2
def slKeep (w : List Nat) : Bool := bitOf (w.getD 0 0) 7
def slNsamp (w : List Nat) : Nat := bitsOf (w.getD 0 0) 8 8 + 1
def slPlog (w : List Nat) : Nat := bitsOf (w.getD 0 0) 16 5
def slBshift (w : List Nat) : Nat := bitsOf (w.getD 0 0) 21 5
def slHist (w : List Nat) : Nat := w.getD 4 0

/-- The cell of a beat's elements (R245), none where they are outside the slot's range. -/
def slCell (w : List Nat) (b : Beat) : Option Nat :=
  let m := slMode w
  let nb := 2 ^ (slPlog w - slBshift w)
  if (m = 1 ∨ m = 3) ∧ b.sample ≥ slNsamp w then none
  else if (m = 2 ∨ m = 3) ∧ b.pos ≥ 2 ^ slPlog w then none
  else some (if m = 0 then 0 else if m = 1 then b.sample else if m = 2 then b.pos >>> slBshift w
    else b.sample * nb + (b.pos >>> slBshift w))

/-- Does a slot select a beat of a command (R244), its format apart. -/
def slSelects (w : List Nat) (q : QRec) (b : Beat) : Bool :=
  slArmed w && bitsOf (w.getD 1 0) 0 8 == q.ctx && bitsOf (w.getD 1 0) 8 4 == b.out &&
    ((q.layer ^^^ bitsOf (w.getD 2 0) 0 16) &&& bitsOf (w.getD 2 0) 16 16) == 0 &&
    ((q.op ^^^ bitsOf (w.getD 3 0) 0 16) &&& bitsOf (w.getD 3 0) 16 16) == 0

/-! ### Tiles at a station (R257 to R259) -/

def tileOf (t : Tile) (p q sl : Nat) : Bool := t.port == p && t.queue == q && t.slot == sl

/-- Station entries in use, those of messages that wait for the reserve included (R258). -/
def Station.entriesUsed (x : Station) : Nat :=
  x.stria.entries.length +
    ((x.wait.filter (fun m => m.kind == 4 && !bitOf m.head 6)).map (fun m => bitsOf (m.words.getD 0 0) 9 7)).sum

/-- Skip a tile (R257): its free entries and queued pairs are discarded, counted once in STRIA_SKIP. -/
def skipTile (n p q sl : Nat) (rate : Bool) (s : State) : State :=
  let x := s.stn n
  let st := x.stria
  match st.tiles.find? (fun t => tileOf t p q sl) with
  | none => s
  | some t =>
    if t.skipRate || t.skipNocell then s
    else
      let st := { st with
        tiles := replaceFirst (fun t => tileOf t p q sl)
          (fun t => if rate then { t with skipRate := true } else { t with skipNocell := true }) st.tiles
        entries := st.entries.filter (fun e => !(e.port == p && e.queue == q && e.slot == sl && e.held.isNone))
        queues := mput st.queues p ((mget st.queues p []).filter (fun r => !(r.beat.queue == q && r.slot == sl))) }
      pcStation n 0x82 1 (setStn n { x with stria := st } s)

/-- Absorb one pair into its entry (R256, R257). -/
def absorbPair (n p : Nat) (r : Pair) (s : State) : State :=
  let x := s.stn n
  let w := mget x.stria.slots r.slot []
  match x.stria.tiles.find? (fun t => tileOf t p r.beat.queue r.slot) with
  | none => s
  | some t =>
    if t.skipRate || t.skipNocell then s
    else match slCell w r.beat with
      | none => modStn n (fun x => { x with stria := { x.stria with
          tiles := replaceFirst (fun t => tileOf t p r.beat.queue r.slot)
            (fun t => { t with range := min (t.range + beatCount r.beat) 0xFFFFFFFF }) x.stria.tiles } }) s
      | some c =>
        let mine (e : StnEntry) : Bool := e.port == p && e.queue == r.beat.queue && e.slot == r.slot && e.cell == c &&
          e.held.isNone && !e.ended
        let v := beatCell r.beat (slKeep w) (slHist w)
        if x.stria.entries.any mine then
          setStn n { x with stria := { x.stria with
            entries := replaceFirst mine (fun e => { e with val := cellMerge e.val v }) x.stria.entries } } s
        else if x.entriesUsed < 64 then
          setStn n { x with stria := { x.stria with
            entries := x.stria.entries ++ [⟨p, r.beat.queue, r.slot, c, v, none, false⟩] } } s
        else skipTile n p r.beat.queue r.slot false s

/-- TILE messages of a tile (R259): up to 5 entries each, LAST in the last one. -/
def tileMsgs (t : Tile) (aborted cut : Bool) : Nat → List StnEntry → List UpMsg
  | 0, _ => []
  | k + 1, es =>
    let last := decide (es.length ≤ 5)
    let w0 := t.port + 16 * b2n t.skipRate + 32 * b2n t.skipNocell + 64 * b2n aborted + 128 * b2n t.split +
      256 * b2n cut + 512 * (es.take 5).length
    let m : UpMsg := ⟨4, t.slot + (if last then 128 else 0),
      [w0, if last then t.range else 0] ++ (es.take 5).flatMap (fun e => e.cell :: cellWords e.val)⟩
    m :: (if last then [] else tileMsgs t aborted cut k (es.drop 5))

/-- End the tiles a predicate names (R258): queued pairs are absorbed first where the tile ends as at END, the entries
are sent and freed, or discarded where it aborts. Entries a read holds stay until they are contributed (R261). -/
def endTiles (n : Nat) (f : Tile → Bool) (aborted cut : Bool) (s : State) : State :=
  let ts := (s.stn n).stria.tiles.filter f
  ts.foldl (fun s t =>
    let qs := (mget (s.stn n).stria.queues t.port []).filter (fun r => r.beat.queue == t.queue && r.slot == t.slot)
    let s := if aborted then s else qs.foldl (fun s r => absorbPair n t.port r s) s
    let x := s.stn n
    let t := (x.stria.tiles.find? (fun u => tileOf u t.port t.queue t.slot)).getD t
    let mine (e : StnEntry) : Bool := e.port == t.port && e.queue == t.queue && e.slot == t.slot && e.held.isNone
    let skipped := t.skipRate || t.skipNocell
    let es := if aborted || skipped then [] else x.stria.entries.filter mine
    let st := { x.stria with
      tiles := x.stria.tiles.filter (fun u => !tileOf u t.port t.queue t.slot)
      entries := x.stria.entries.filter (fun e => !mine e)
      queues := mput x.stria.queues t.port ((mget x.stria.queues t.port []).filter
        (fun r => !(r.beat.queue == t.queue && r.slot == t.slot))) }
    let s := setStn n { x with stria := st } s
    (tileMsgs t aborted cut (es.length + 1) es).foldl (fun s m => offerMsg n m s) s) s

/-- One slot change at its apply cycle: the old tiles end as at END with CUT_SHORT (R258), then the words are in force. A copy of what the
station holds already changes nothing (R587). -/
def applySlot (n i : Nat) (copy : Bool) (ws : List Nat) (s : State) : State :=
  if copy && mget? (s.stn n).stria.slots i == some ws then s
  else
    let s := endTiles n (fun t => t.slot == i) false true s
    modStn n (fun x => { x with stria := { x.stria with
      slots := if slArmed ws then mput x.stria.slots i ws else mdel x.stria.slots i } }) s

/-- End the tiles of commands of a port that have ended, on one queue or on all, before the cycle is over: the port's reset, or the queue's
next command, comes. -/
def endedTiles (n p : Nat) (queue : Option Nat) (s : State) : State :=
  let mine (a : StnAct) : Bool := match a with | .tileEnd p' q _ => p' == p && (queue.isNone || queue == some q) | _ => false
  let l := (s.stn n).acts.filter (fun a => mine a.2)
  let s := modStn n (fun x => { x with acts := x.acts.filter (fun a => !mine a.2) }) s
  l.foldl (fun s a => match a.2 with
    | .tileEnd p q aborted => endTiles n (fun t => t.port == p && t.queue == q) aborted false s
    | _ => s) s

end Sys2Proof.Machine
end

