-- ==== Sys2Proof/Machine/Uap.lean ====
section
/-! DEFINITION. The unit attach ports (chapter 2): presence and reset, command events, increments, the shear
acknowledgement, the stria tap, control-core run control and trace records, protocol violations. -/

namespace Sys2Proof.Machine

open Host (Outcome)

/-! ### Watchdogs of a port -/

/-- A budgeted BEGIN takes the lowest free watchdog, or forms an UNWATCHABLE record (R270, R272). -/
def takeWd (u : Nat) (e : Event) (q : QRec) (s : State) : State :=
  let n := u / 16
  let x := s.stn n
  let b := s.stnScaled n 8 ((mget x.rowShadow e.ctx []).getD e.bclass 0)
  if b = 0 || !s.fb (F.STN_TS_STAT_LOADED n) then s
  else match (List.range 64).find? (fun i => (mget? x.wd i).isNone) with
    | some i =>
      let w : Watchdog := { port := u % 16, queue := e.queue, cmd := q, begun := s.stnTs n, budget := b, d := s.stnTs n + b,
                            rem := (if s.held u then some b else none) }
      let s := setStn n { x with wd := mput x.wd i w } s
      s.fs (F.STN_DL_STAT_WD_USED n) ((s.stn n).wd.length)
    | none => formFault u cDeadlineMiss (some (e.queue, q)) (s.stnTs n) (b + 2 ^ 36) (s.stnTs n + b) 0 s

/-! ### Presence and reset (R24) -/

/-- Show whether some port of a station is excluded (R225). -/
def showExcl (n : Nat) (s : State) : State :=
  s.fs (F.STN_TRC_STAT_EXCL n) (b2n ((s.stn n).ports.any (fun p => p.2.excl)))

/-- What a port's reset or power-off does at its station (R24, R139, R143, R181, R206, R258, R270, R346): a due miss is
reported first; the boundary is latched; watchdogs and tiles end; local drain of the core ends; SH_CMD goes to NONE. A port of type
NONE shows its station nothing (R19). -/
def portDown (u reason : Nat) (f : Port → Port) (s : State) : State :=
  let n := u / 16
  let pre := s.port u
  if pre.ty = 7 then modPort u f s
  else
    let s := expireWd u s
    let s := if pre.on && !pre.rst then portPacket u [pktHead 9 (u % 16), reason] pre s else s
    let s := bndLatch u s
    let s := freeWd n (fun w => w.port == u % 16) s
    let s := endTiles n (fun t => t.port == u % 16) true false (endedTiles n (u % 16) none s)
    let s := pcUnitReset u s
    showExcl n (withHolds n (fun s => modPort u (fun p =>
      { f p with pkg := 0, bpDrain := false, debugHalt := 0, holdHalt := false, pwRun := false, excl := false }) s) (dropDrain n (u % 16) s))

/-- The port starts afresh (R24, R28, R51, R205, R278): queue records and latches clear, the next packet of each source is
a SYNC, a control core's seven values are replayed, and local drain reaches a port that a core drains (R143). -/
def portUp (u : Nat) (f : Port → Port) (s : State) : State :=
  let n := u / 16
  let s := modPort u (fun p => { f p with queues := [], lastSeq := [], ended := none, ack := false, haltLate := false }) s
  if (s.port u).ty = 7 then s else
  let s := withHolds n (clearLatches u) s
  let p := s.port u
  let s := if p.ty = 1 then
      modPort u (fun p => { p with dbgWr := p.dbgWr ++ ((List.range 6).map (fun i => (i, p.cmps.getD i 0))) ++
        [(6, s.rdN (R.DBG_CTL n (u % 16)))] }) s
    else s
  if p.on && !p.rst then syncPort n (u % 16) 4 s else s

/-- The port is held in cold reset, by its cell or with the whole hub, or nothing is clocked: a change of its inputs is only
seen, and counts from the first cycle after (R24, R537). -/
def State.portHeld (s : State) (u : Nat) : Bool := !s.runs || (s.stn (u / 16)).cold

def holdPort (u : Nat) (f : Port → Port) (s : State) : State := modPort u (fun p => { f p with cold := true }) s

/-- The straps a unit's first power-up shows (R22) are those of the port for good. -/
def Port.strapIn (p : Port) (ty cv flat : Nat) : Port :=
  if p.strapped then p else { p with strapped := true, strapTy := ty, strapCv := cv, shFlat := flat }

/-- UAP_ON falls. -/
def execUapPowerOff (unit : Nat) (s : State) : Outcome State Fault Refusal :=
  if s.portHeld unit then ok (holdPort unit (fun p => { p with on := false, excl := false }) s)
  else if (s.port unit).on then
    let s := portDown unit 0 (fun p => { p with on := false }) s
    ok (modStn (unit / 16) (fun x => { x with offAt := mput x.offAt (unit % 16) (s.stnTs (unit / 16)) }) s)
  else ok s

/-- Do a port's straps differ from a type and a vector length of the slot image, where that gives it a type (R98). -/
def Port.differs (p : Port) (i : PortImage) : Bool := i.ty != 7 && (p.strapTy != i.ty || p.strapCv != i.cvLen)

/-- SLOT_IMAGE_MISMATCH of a port (R98), with the port's current command (R279). -/
def portMismatch (unit : Nat) (s : State) : State :=
  formFault unit cSlotMismatch (s.port unit).current 0 (unit / 16 + 2 ^ 11) 0 0 s

/-- UAP_ON rises. Where a SLOT_LOAD has been installed already, the straps shown for the first time are compared with it now. -/
def execUapPowerOn (unit ty cv flat : Nat) (s : State) : Outcome State Fault Refusal :=
  if s.portHeld unit then ok (holdPort unit (fun p => { p.strapIn ty cv flat with on := true }) s)
  else if (s.port unit).on then ok s
  else
    let first := !(s.port unit).strapped
    let s := portUp unit (fun p => { p.strapIn ty cv flat with on := true }) s
    let bad := first && s.fb (F.STN_SLOT_LOADED (unit / 16)) && (s.port unit).differs (s.portImage unit)
    ok (if bad then modPort unit (fun p => { p with asNone := true }) (portMismatch unit s) else s)

/-- UAP_RESET rises. -/
def execUapResetAssert (unit : Nat) (s : State) : Outcome State Fault Refusal :=
  let p := s.port unit
  if s.portHeld unit then ok (holdPort unit (fun p => { p with rst := true, excl := false }) s)
  else if p.rst then ok s
  else if p.on then ok (portDown unit 1 (fun p => { p with rst := true }) s)
  else ok (setPort unit { p with rst := true } s)

/-- UAP_RESET falls. While UAP_ON is 0 the station ignores it (R24). -/
def execUapResetRelease (unit : Nat) (s : State) : Outcome State Fault Refusal :=
  let p := s.port unit
  if s.portHeld unit then ok (holdPort unit (fun p => { p with rst := false }) s)
  else if !p.rst then ok s
  else if p.on then ok (portUp unit (fun p => { p with rst := false }) s)
  else ok (setPort unit { p with rst := false } s)

/-! ### Command events (R26 to R29) -/

/-- Does an event carry its command's identity (R28). -/
def sameIdentity (e : Event) (q : QRec) : Bool :=
  e.ctx == q.ctx && e.epoch == q.epoch && e.seq == q.seq && e.layer == q.layer && e.op == q.op && e.bclass == q.bclass

/-- The row of R56's table an event breaks, none where it is allowed (R27, R28). -/
def eventError (p : Port) (e : Event) : Option Nat :=
  match e.kind, mget? p.queues e.queue with
  | 0, some _ => some 2
  | 0, none =>
    match mget? p.lastSeq e.queue with
    | some l => let d := (e.seq + 2 ^ 32 - l) % 2 ^ 32
                if 1 ≤ d ∧ d < 2 ^ 31 then none else some 3
    | none => none
  | _, none => some 2
  | k, some q =>
    if (k = 1 ∨ k = 3) ∧ q.susp then some 2
    else if k = 4 ∧ !q.susp then some 2
    else if k > 4 then some 1
    else if sameIdentity e q then none else some 3

/-- The queue's record after an event (R27). -/
def moveQueue (e : Event) (stale drain : Bool) (cyc : Nat) (p : Port) : Port :=
  match e.kind, mget? p.queues e.queue with
  | 0, _ => { p with
      queues := mput p.queues e.queue ⟨e.ctx, e.epoch, e.seq, e.layer, e.op, e.bclass, false, stale, drain⟩
      lastSeq := mput p.lastSeq e.queue e.seq }
  | 1, some q => { p with queues := mdel p.queues e.queue, ended := some (cyc, e.queue, q) }
  | 2, some q => { p with queues := mdel p.queues e.queue, ended := (if q.susp then p.ended else some (cyc, e.queue, q)) }
  | 3, some q => { p with queues := mput p.queues e.queue { q with susp := true } }
  | 4, some q => { p with queues := mput p.queues e.queue { q with susp := false } }
  | _, _ => p

/-- Progress at a port, and the start of its progress watchdog (R274): it runs while a command is ACTIVE and the port is
not held, from the first cycle with LOADED set on (R108). Progress that comes after its period has passed comes late (R110). -/
def progress (u : Nat) (moved : Bool) (s : State) : State :=
  let s := expirePw u s
  let p := s.port u
  let runs := p.current.isSome && !s.held u && s.fb (F.STN_TS_STAT_LOADED (u / 16))
  let again := moved || (runs && !p.pwRun)
  setPort u { p with pwRun := runs, pwFrom := (if again then s.stnTs (u / 16) else p.pwFrom)
                     pwScale := (if again then s.pwFactor (u / 16) else p.pwScale) } s

/-- A stale event (R288): the queue moves, it is counted and traced, and it is progress; nothing else. -/
def staleEvent (u : Nat) (e : Event) (pre : Port) (s : State) : State :=
  let n := u / 16
  let s := s.fsat (F.STN_DL_CNT_STALE n) 1
  let s := pcEvent u 0x0C [e.ctx] (fun q => q == e.queue && (s.port u).follows s.clk.cyc q) s
  stalePacket u e (s.stnEpoch n e.ctx) pre s

/-- An accepted event that is not stale: counters, attribution, watchdog, boundary table, tiles, trace, comparators. A command-scoped
counter counts its own command's events, those that take it out of ACTIVE among them (R181). Beats of this cycle still belong to a command
that ends in it (R45): its tiles end when the cycle is over. -/
def freshEvent (u : Nat) (e : Event) (pre : Port) (s : State) : State :=
  let n := u / 16
  let cx := [e.ctx]
  let qu := fun q => q == e.queue
  let s := (match e.kind with
    | 0 =>
      let s := endedTiles n (u % 16) (some e.queue) s
      let s := pcEvent u 4 cx qu (attrBegin u e (pcBegin u e.queue e.ctx s))
      bndBegin u e.queue (match mget? (s.port u).queues e.queue with
        | some q => takeWd u e q s
        | none => s)
    | 1 =>
      let s := freeWd n (fun w => w.port == u % 16 && w.queue == e.queue) (pcEvent u 5 cx qu (aoAdd u 2 1 s))
      addAct n (s.clk.cyc + 1) (.tileEnd (u % 16) e.queue false) (bndEnd u e.queue e.seq e.ctx e.epoch s)
    | 2 =>
      let s := freeWd n (fun w => w.port == u % 16 && w.queue == e.queue) (pcEvent u 6 cx qu s)
      addAct n (s.clk.cyc + 1) (.tileEnd (u % 16) e.queue true) s
    | 3 => pcEvent u 7 cx qu s
    | _ => s)
  let s := if e.kind = 0 ∨ e.kind = 1 then s else
    (match s.bndFind n (u % 16) e.queue with | some b => bndTouch n b s | none => s)
  let s := cmdPacket u e pre s
  stnHits u (fun w => cmpCmd w (u % 16) e) e.ctx s

/-- A cycle in which UAP_CKEN is 0 (R25): the unit samples nothing in it (R40). -/
def seeCken (u : Nat) (cken : Bool) (s : State) : State :=
  let p := s.port u
  if cken || !p.live || p.offCyc == some s.clk.cyc then s
  else setPort u { p with offCyc := some s.clk.cyc, offN := p.offN + 1 } s

/-- The unit has sampled the value of SH_CMD before this cycle (R40): some cycle since the station began to drive it was enabled. -/
def Port.sampled (p : Port) (cyc : Nat) : Bool := decide (p.shSince + p.offN < cyc)

/-- A unit presents an event (R26): ignored in a cycle without an edge or while the port is not live (R24, R25), and after
FREEZE has been acknowledged (R41), which is then the row recorded (log entry 117). -/
def takeEvent (u : Nat) (cken : Bool) (e : Event) (s : State) : State :=
  let p := s.port u
  if !cken || !p.live then seeCken u cken s
  else if p.shCmd = 3 && p.ack then protoViolation u 7 [e.ctx] (some e.queue) s
  else match eventError p e with
    | some row => protoViolation u row [e.ctx] (some e.queue) s
    | none =>
      let s := expireWd u s
      let drained := p.shCmd = 2 ∧ e.kind = 0 ∧ p.sampled s.clk.cyc
      let stale := match e.kind, mget? p.queues e.queue with
        | 0, _ => e.epoch != s.stnEpoch (u / 16) e.ctx
        | _, some q => q.stale || e.epoch != s.stnEpoch (u / 16) e.ctx
        | _, none => false
      let s := setPort u (moveQueue e stale (decide drained) s.clk.cyc p) s
      let s := if stale then staleEvent u e p s else freshEvent u e p s
      let s := progress u true s
      if drained then protoViolation u 8 [e.ctx] (some e.queue) s else s

def execCmdEventBegin (unit : Nat) (cken : Bool) (ctx epoch seq layer op bclass queue : Nat) (s : State) :
    Outcome State Fault Refusal := s.act fun s =>
  ok (takeEvent unit cken ⟨0, ctx, epoch, seq, layer, op, bclass, queue⟩ s)

def execCmdEventEnd (unit : Nat) (cken : Bool) (ctx epoch seq layer op bclass queue : Nat) (s : State) :
    Outcome State Fault Refusal := s.act fun s =>
  ok (takeEvent unit cken ⟨1, ctx, epoch, seq, layer, op, bclass, queue⟩ s)

def execCmdEventAbort (unit : Nat) (cken : Bool) (ctx epoch seq layer op bclass queue : Nat) (s : State) :
    Outcome State Fault Refusal := s.act fun s =>
  ok (takeEvent unit cken ⟨2, ctx, epoch, seq, layer, op, bclass, queue⟩ s)

def execCmdEventSuspend (unit : Nat) (cken : Bool) (ctx epoch seq layer op bclass queue : Nat) (s : State) :
    Outcome State Fault Refusal := s.act fun s =>
  ok (takeEvent unit cken ⟨3, ctx, epoch, seq, layer, op, bclass, queue⟩ s)

def execCmdEventResume (unit : Nat) (cken : Bool) (ctx epoch seq layer op bclass queue : Nat) (s : State) :
    Outcome State Fault Refusal := s.act fun s =>
  ok (takeEvent unit cken ⟨4, ctx, epoch, seq, layer, op, bclass, queue⟩ s)

/-- An event of kind 5 to 7 (R56): ignored, a violation of row 1 whatever else it breaks (log entry 117). -/
def execEvKindReserved (unit : Nat) (cken : Bool) (s : State) : Outcome State Fault Refusal := s.act fun s =>
  if cken && (s.port unit).live then ok (protoViolation unit 1 [] none s) else ok (seeCken unit cken s)

/-! ### Increments (R30 to R32) -/

/-- The amount each programmable event adds for one enabled cycle (R177). -/
def incOf (busy stall errCorr errUncorr : Nat) (rds wrs : List Nat) (tx txTc rx rxTc energy trap : Nat) (code : Nat) : Nat :=
  if code = 0x01 then busy else if code = 0x02 then stall else if code = 0x03 then 1
  else if code = 0x08 then errCorr else if code = 0x09 then errUncorr else if code = 0x0A then trap
  else if 0x10 ≤ code ∧ code ≤ 0x14 then rds.getD (code - 0x10) 0
  else if code = 0x15 then rds.sum
  else if 0x18 ≤ code ∧ code ≤ 0x1C then wrs.getD (code - 0x18) 0
  else if code = 0x1D then wrs.sum
  else if 0x20 ≤ code ∧ code ≤ 0x27 then (if txTc = code - 0x20 then tx else 0)
  else if code = 0x28 then tx
  else if 0x30 ≤ code ∧ code ≤ 0x37 then (if rxTc = code - 0x30 then rx else 0)
  else if code = 0x38 then rx
  else if code = 0x40 then energy
  else 0

/-- Bytes of the memory levels ATTR_LEVELS selects (R187). -/
def levelBytes (levels : Nat) (bs : List Nat) : Nat :=
  ((List.range 5).map (fun l => if bitOf levels l then bs.getD l 0 else 0)).sum

/-- Count one enabled cycle's increments (R175, R177, R187), then form its faults in ascending code order (R278). -/
def execUnitIncrementCycle (unit : Nat) (cken busy stall : Bool) (errCorr : Nat) (errUncorr : Bool) (rds wrs : List Nat)
    (tx txTc rx rxTc energy : Nat) (trap : Bool) (fltCode : Nat) (s : State) : Outcome State Fault Refusal := s.act fun s =>
  let p := s.port unit
  if !cken || !p.live then ok (seeCken unit cken s)
  else
    let rds := (rds.take 5).map (· % 4096)
    let wrs := (wrs.take 5).map (· % 4096)
    let frozen := p.shCmd == 3 && p.ack
    let extra := busy || stall || rds.sum != 0 || wrs.sum != 0 || tx != 0 || rx != 0
    let both := !frozen && busy && stall
    let b := if frozen then 0 else if stall then 0 else b2n busy
    let st := if frozen then 0 else b2n stall
    let rds := if frozen then [] else rds
    let wrs := if frozen then [] else wrs
    let tx := if frozen then 0 else tx
    let rx := if frozen then 0 else rx
    let eu := b2n errUncorr
    let takers := p.takers s.clk.cyc
    let amounts := [b, st, 0, errCorr, eu, 0, rds.sum + rx, wrs.sum + tx]
    let s := (List.range 8).foldl (fun s k => aoAdd unit k (amounts.getD k 0) s) s
    let s := pcIncr unit (incOf b st errCorr eu rds wrs tx txTc rx rxTc energy (b2n trap)) takers s
    let lv := (s.stn (unit / 16)).attrLevels
    let s := attrCharge unit energy (levelBytes lv rds) (levelBytes lv wrs) s
    let s := progress unit (b != 0 || rds.sum != 0 || wrs.sum != 0 || tx != 0 || rx != 0) s
    let s := if errUncorr then latchFault unit 0 cUncorrectable (s.aoVal unit 4) 0 0 s else s
    let s := if trap then latchFault unit 1 cUnitTrap 0 fltCode 0 s else s
    let ctxs := takers.map (·.2.ctx)
    let s := if both then protoViolation unit 4 ctxs none s else s
    ok (if frozen && extra then protoViolation unit 7 ctxs none s else s)

/-! ### Shear acknowledgement (R40) -/

/-- SH_ACK rises: ACK_PEND clears (R140). -/
def execShAckRise (unit : Nat) (s : State) : Outcome State Fault Refusal := s.act fun s =>
  let p := s.port unit
  if p.live && p.shCmd != 0 then
    let f := F.STN_SH_STAT_ACK_PEND (unit / 16)
    ok ((setPort unit { p with ack := true } s).fs f (setBit (s.fg f) (unit % 16) false))
  else ok s

/-- Cycle c + SH_FLAT + 2 has come with SH_ACK still 0 under FREEZE or RUN_ON (R40): one violation. -/
def execShAckLate (unit : Nat) (s : State) : Outcome State Fault Refusal := s.act fun s =>
  let p := s.port unit
  if p.live && (p.shCmd == 3 || p.shCmd == 1) && !p.ack && !p.shLate && decide (p.shSince + p.shFlat + 2 ≤ s.clk.cyc) then
    ok (protoViolation unit 6 [] none (setPort unit { p with shLate := true } s))
  else ok s

/-! ### Stria tap (R44 to R48, R256) -/

/-- A beat that breaks R45, R46 or R47: no ACTIVE command, a reserved format, unequal RAW64 pairs, MX lanes in two blocks. -/
def beatBad (q : Option QRec) (b : Beat) : Bool :=
  (match q with | some r => r.susp | none => true) || b.fmt == 15 ||
    (b.fmt == 14 && (List.range 4).any (fun k => bitOf b.mask (2 * k) != bitOf b.mask (2 * k + 1))) ||
    (isMx b.fmt && (match bitsSet 8 b.mask with
      | [] => false
      | l :: ls => ls.any (fun i => (b.coord + i) / 32 != (b.coord + l) / 32)))

/-- The command a beat belongs to (R45): the one ACTIVE on ST_QUEUE, or which ends in this cycle. -/
def beatCmd (p : Port) (queue cyc : Nat) : Option QRec :=
  match mget? p.queues queue with
  | some q => some q
  | none => match p.ended with
    | some (c, q, r) => if c = cyc ∧ q = queue then some r else none
    | none => none

def modCount (slot : Nat) (f : SlotCount → SlotCount) (s : State) : State :=
  { s with stria := { s.stria with counts := mmod s.stria.counts slot {} f } }

/-- Queue one pair for one selecting slot (R256): the tile opens with its first pair; a full queue skips it for RATE. -/
def queuePair (u slot : Nat) (b : Beat) (s : State) : State :=
  let n := u / 16
  let p := u % 16
  let x := s.stn n
  let x := if x.stria.tiles.any (fun t => tileOf t p b.queue slot) then x
    else { x with stria := { x.stria with tiles := x.stria.tiles ++ [{ port := p, queue := b.queue, slot := slot }] } }
  match x.stria.tiles.find? (fun t => tileOf t p b.queue slot) with
  | none => s
  | some t =>
    let s := setStn n x s
    if t.skipRate || t.skipNocell then s
    else
      let q := mget x.stria.queues p []
      if q.length ≥ 4 then skipTile n p b.queue slot true s
      else setStn n { x with stria := { x.stria with queues := mput x.stria.queues p (q ++ [⟨slot, b, s.clk.cyc⟩]) } } s

/-- A beat on the tap: ignored with an empty mask, discarded with a violation where it breaks R45 to R47. -/
def execStriaTapBeat (unit : Nat) (cken : Bool) (mask data fmt coord sample pos queue out scale : Nat) (s : State) :
    Outcome State Fault Refusal := s.act fun s =>
  let p := s.port unit
  let b : Beat := ⟨mask, data, fmt, coord, sample, pos, queue, out, scale⟩
  let q := beatCmd p queue s.clk.cyc
  let ctxs := (q.map (·.ctx)).toList
  if !cken || !p.live then ok (seeCken unit cken s)
  else if mask = 0 then ok s
  else if p.shCmd = 3 && p.ack then ok (protoViolation unit 7 ctxs (some queue) s)
  else
    if beatBad q b then ok (protoViolation unit 9 ctxs (some queue) s)
    else match q with
      | none => ok s
      | some r =>
        if p.ty != 0 && p.ty != 5 then ok s
        else
          let sel := (s.stn (unit / 16)).stria.slots.filter (fun w => slSelects w.2 r b)
          ok (sel.foldl (fun s w =>
            if r.stale then modCount w.1 (fun c => { c with staleBeats := min (c.staleBeats + 1) 0xFFFFFFFF }) s
            else if slFmt w.2 != fmt then modCount w.1 (fun c => { c with fmtErr := min (c.fmtErr + 1) 0xFFFFFFFF }) s
            else queuePair unit w.1 b s) s)

/-- The engine takes one pair, round-robin from the port after the one last served, and absorbs it (R256). -/
def execStriaPairAbsorb (stn : Nat) (s : State) : Outcome State Fault Refusal := s.act fun s =>
  let x := s.stn stn
  match ((List.range 16).map (fun i => (x.stria.rr + 1 + i) % 16)).find? (fun p => !(mget x.stria.queues p []).isEmpty) with
  | none => ok s
  | some p =>
    match mget x.stria.queues p [] with
    | [] => ok s
    | r :: rest =>
      ok (absorbPair stn p r (setStn stn { x with stria := { x.stria with queues := mput x.stria.queues p rest, rr := p } } s))

/-! ### Control cores (R49 to R55, R143, R144) -/

/-- A DBG_CTL write (R51): the value goes to the core by DBG_WR index 6. What becomes enabled by it while capture
runs, ITRACE and where nothing else was the port's PORT source, starts with a SYNC (R205). -/
def writeDbgCtl (unit value : Nat) (s : State) : State :=
  let n := unit / 16
  let p := s.port unit
  if p.ty != 1 then s
  else
    let was := s.portSrcs n (unit % 16)
    let s := s.wrN (R.DBG_CTL n (unit % 16)) (value % 2 ^ 23)
    let s := setPort unit { p with dbgWr := p.dbgWr ++ [(6, value % 2 ^ 23)] } s
    let new := (s.portSrcs n (unit % 16)).filter (fun src => !was.contains src)
    if (s.stn n).trace.run then
      modStn n (fun x => { x with trace := new.foldl (fun t src => syncDue (unit % 16) src 0 t) x.trace }) s
    else s

/-- A completed comparator address (R50, R51): indices 6 and 7 are ignored. -/
def writeDbgAddr (unit v : Nat) (s : State) : State :=
  let p := s.port unit
  let i := s.fg (F.DBG_SEL_IDX (unit / 16) (unit % 16))
  if p.ty != 1 || i > 5 then s
  else setPort unit { p with cmps := setAt 0 p.cmps i v, dbgWr := p.dbgWr ++ [(i, v)] } s

/-- A DBG_CMD write (R52, R53): 1 HALT, 2 RUN, 3 STEP pulses; RUN ends the core's local drain, RUN and STEP its debug halt. A STEP while
the core runs has no effect and no bound (log entry 112). The bound runs from the first pulse that HALTED has not answered. -/
def writeDbgCmd (unit op : Nat) (s : State) : State :=
  let n := unit / 16
  let p := s.port unit
  if p.ty != 1 || op = 0 then s
  else
    let p := { p with pulses := p.pulses ++ [op], holdHalt := false }
    if op = 2 then
      withHolds n (fun s => setPort unit { p with bpDrain := false, debugHalt := 0 } s) (dropDrain n (unit % 16) s)
    else if op = 3 && !s.fb (F.DBG_STAT_HALTED n (unit % 16)) then setPort unit p s
    else
      let s := withHolds n (fun s => setPort unit { p with
        reqCyc := some (p.reqCyc.getD s.clk.cyc), haltLate := p.haltLate && p.reqCyc.isSome
        debugHalt := (if op = 3 then 0 else p.debugHalt) } s) s
      s.fs (F.DBG_STAT_HALT_PENDING n (unit % 16)) 1

def execDbgCtlWrite (unit value : Nat) (s : State) : Outcome State Fault Refusal := s.act fun s =>
  ok (writeDbgCtl unit value s)
def execDbgAddrWrite (unit value64 : Nat) (s : State) : Outcome State Fault Refusal := s.act fun s =>
  ok (writeDbgAddr unit value64 s)
def execDbgCmdHalt (unit : Nat) (s : State) : Outcome State Fault Refusal := s.act fun s =>
  ok (writeDbgCmd unit 1 s)
def execDbgCmdRun (unit : Nat) (s : State) : Outcome State Fault Refusal := s.act fun s =>
  ok (writeDbgCmd unit 2 s)
def execDbgCmdStep (unit : Nat) (s : State) : Outcome State Fault Refusal := s.act fun s =>
  ok (writeDbgCmd unit 3 s)

/-- HALTED rises or its cause changes (R52, R53): DBG_STAT shows it; causes 1 to 4 start local drain from the next cycle (R143) and, where
BP_CUT is set, register a LATCH trigger (R144). -/
def execCoreHaltedRise (unit cause hit : Nat) (s : State) : Outcome State Fault Refusal := s.act fun s =>
  let n := unit / 16
  let i := unit % 16
  let p := s.port unit
  if !p.live || p.ty != 1 then ok s
  else
    let was := s.fb (F.DBG_STAT_HALTED n i)
    let old := s.fg (F.DBG_STAT_CAUSE n i)
    let s := ((s.fs (F.DBG_STAT_HALTED n i) 1).fs (F.DBG_STAT_CAUSE n i) cause).fs (F.DBG_STAT_HIT n i) hit
    let s := s.fs (F.DBG_STAT_HALT_PENDING n i) 0
    let debug := decide (1 ≤ cause ∧ cause ≤ 4) && (!was || old != cause)
    let s := withHolds n (fun s => modPort unit (fun p => { p with
      reqCyc := none, haltLate := false
      debugHalt := (if debug then cause else p.debugHalt)
      holdHalt := p.holdHalt && decide (cause ≠ 1 ∧ cause ≠ 2) }) s) s
    let s := s.when debug (addAct n (s.clk.cyc + 1) (.drain i))
    ok (if debug && bitOf (s.fg (F.STN_SH_CTL_BP_CUT n)) i then (stnTrigger n false s).2 else s)

/-- HALTED falls (R53): CAUSE reads 0 while the core runs, HIT stays as last sampled (R50). -/
def execCoreHaltedFall (unit : Nat) (s : State) : Outcome State Fault Refusal := s.act fun s =>
  let n := unit / 16
  let i := unit % 16
  let p := s.port unit
  if !p.live || p.ty != 1 then ok s
  else
    let s := (s.fs (F.DBG_STAT_HALTED n i) 0).fs (F.DBG_STAT_CAUSE n i) 0
    ok (withHolds n (fun s => modPort unit (fun p => { p with debugHalt := 0 }) s) s)

/-- HALTED has not risen within 576 CNCLK of the pulse (R52): a violation; HALT_PENDING stays. -/
def execHaltedLate (unit : Nat) (s : State) : Outcome State Fault Refusal := s.act fun s =>
  let p := s.port unit
  match p.reqCyc with
  | some c =>
    if p.live && !p.excl && !p.haltLate && decide (c + 576 < s.clk.cyc) then
      ok (protoViolation unit 10 [] none (setPort unit { p with haltLate := true } s))
    else ok s
  | none => ok s

/-- The excluded interval begins (R207): EXCLUDED is written with this cycle's TS. -/
def beginExcl (unit : Nat) (s : State) : State :=
  let p := s.port unit
  let s := portPacket unit [pktHead 0xD (unit % 16)] p s
  showExcl (unit / 16) (setPort unit { s.port unit with excl := true } s)

/-- It ends: the port's next packet is a SYNC of REASON SECURE_EXIT, and a request held under R54 is acted on from now (R52, R499). -/
def endExcl (unit : Nat) (s : State) : State :=
  let s := modPort unit (fun p => { p with excl := false, afterSec := true, reqCyc := p.reqCyc.map (fun _ => s.clk.cyc) }) s
  showExcl (unit / 16) (syncPort (unit / 16) (unit % 16) 5 s)

/-- SECURE rises. -/
def execSecureEnter (unit : Nat) (s : State) : Outcome State Fault Refusal :=
  let p := s.port unit
  if s.portHeld unit then ok (holdPort unit (fun p => { p with excl := true }) s)
  else if !p.live || p.ty != 1 then ok s
  else
    let s := s.fs (F.DBG_STAT_SECURE (unit / 16) (unit % 16)) 1
    ok (if s.dbgSec (unit / 16) || p.excl then s else beginExcl unit s)

/-- SECURE falls. -/
def execSecureExit (unit : Nat) (s : State) : Outcome State Fault Refusal :=
  let p := s.port unit
  if s.portHeld unit then ok (holdPort unit (fun p => { p with excl := false }) s)
  else if !p.live || p.ty != 1 then ok s
  else
    let s := s.fs (F.DBG_STAT_SECURE (unit / 16) (unit % 16)) 0
    ok (if p.excl then endExcl unit s else s)

/-- Is a SYNC due before the source's next packet. -/
def StnTrace.syncNext (t : StnTrace) (p src : Nat) : Bool :=
  let s := mget t.srcs (srcKey p src) {}
  s.due.isSome || decide (s.count ≥ 4096)

/-- An instruction-flow record (R55, R237): PC_FLOW where traced; an overflow other than at a secure exit is a GAP first. FULL marks the
first record after the source's SYNC, of whatever kind; a count record has no address. -/
def execItRecord (unit : Nat) (cken : Bool) (itKind count addr64 : Nat) (ovf : Bool) (s : State) :
    Outcome State Fault Refusal := s.act fun s =>
  let n := unit / 16
  let i := unit % 16
  let p := s.port unit
  if !cken || !p.live then ok (seeCken unit cken s)
  else if p.ty != 1 then ok s
  else
    let traced := s.capturing unit && bitOf ((s.stn n).trace.portCfg i) 2 && s.fb (F.DBG_CTL_ITRACE_EN n i)
    let s := if traced then
        let s := if ovf && !p.afterSec then
            (coreOvfGap unit srcItrace s).fsat (F.STN_TRC_DROP_PKTS n) 0 else s
        let fresh := p.itFull || (s.stn n).trace.syncNext i srcItrace || (ovf && !p.afterSec)
        let va := varBytes (addr64 ^^^ p.itAddr.getD 0)
        let full := fresh || (itKind != 3 && decide (va.length > 8))
        let body := [pktHead 7 i, itKind + (if full then 4 else 0), count] ++
          (if itKind = 3 then [] else if full then toLe 8 addr64 else va)
        let s := formPacket unit srcItrace none (fun _ => body) p s
        modPort unit (fun p => { p with itFull := false, itAddr := (if itKind = 3 then p.itAddr else some addr64) }) s
      else s
    let s := modPort unit (fun p => { p with afterSec := false }) s
    ok (if itKind = 3 then s else stnHits unit (fun w => cmpAddr w 2 i addr64) 0 s)

/-- A data-access record (R55, R237): DATA_ACC where traced. -/
def execDtRecord (unit : Nat) (cken dtWr : Bool) (size addr64 data64 : Nat) (ovf : Bool) (s : State) :
    Outcome State Fault Refusal := s.act fun s =>
  let n := unit / 16
  let i := unit % 16
  let p := s.port unit
  if !cken || !p.live then ok (seeCken unit cken s)
  else if p.ty != 1 then ok s
  else
    let traced := s.capturing unit && bitOf ((s.stn n).trace.portCfg i) 3
    let s := if traced then
        let s := if ovf then coreOvfGap unit srcDtrace s else s
        let va := varBytes (addr64 ^^^ p.dtAddr.getD 0)
        let full := (s.stn n).trace.syncNext i srcDtrace || p.dtAddr.isNone || decide (va.length > 8)
        let body := [pktHead 8 i, b2n dtWr + 2 * size + (if full then 8 else 0)] ++
          (if full then toLe 8 addr64 else va) ++ toLe (2 ^ size) data64
        let s := formPacket unit srcDtrace none (fun _ => body) p s
        modPort unit (fun p => { p with dtAddr := some addr64 }) s
      else s
    ok (stnHits unit (fun w => cmpAddr w 3 i addr64) 0 s)

end Sys2Proof.Machine
end

