-- ==== Sys2Proof/Machine/Spine.lean ====
section
/-! DEFINITION. The spine as a sender (R59, R66, R72, R73) and the trace ring (R204 to R214, R226 to R240): which stations
a message reaches, blocks and what the ring does with them, central packets, GAPs, the capture state. -/

namespace Sys2Proof.Machine

/-! ### Which stations a message reaches -/

def modRib (r : Nat) (f : RibState → RibState) (s : State) : State :=
  { s with spine := { s.spine with ribs := mmod s.spine.ribs r {} f } }

def State.ribDegraded (s : State) (r : Nat) : Bool := s.fb (F.CANE_RIB_STAT_DEGRADED r)

/-- Isolated, or being restored (R81, R82). -/
def State.ribAbsent (s : State) (r : Nat) : Bool := s.fb (F.CANE_RIB_STAT_ABSENT r)

/-- A downstream COMMAND-slot message reaches a station (R587): frames run and its rib is neither DEGRADED nor cut off. -/
def State.reachable (s : State) (n : Nat) : Bool :=
  s.spine.running && s.populated n && !s.ribDegraded (n / 64) && !(s.rib (n / 64)).subst

/-- Is a station access answered as R74 has it for an unreachable station (R587). -/
def State.unreachable (s : State) (n : Nat) : Bool :=
  !s.spine.running || s.ribDegraded (n / 64) || (s.rib (n / 64)).subst

/-- The number of the first COMMAND slot at or after a spine cycle (R60): 15 in every 16 cycles. -/
def commandSlot (c : Nat) : Nat := 15 * (c / 16) + (c % 16 - 1)

/-- The ribs on which a message to a group is sent (R73, R84). -/
def State.ribsOf (s : State) (group target : Nat) : List Nat :=
  (List.range 16).filter (fun r => ((s.members group target).filter s.reachable).any (fun n => n / 64 == r))

/-- The COMMAND slot in which a message to these ribs begins (R68, R73): every queue must have come to it. -/
def State.headSlot (s : State) (ribs : List Nat) : Nat :=
  ribs.foldl (fun i r => max i (s.rib r).nextCmd) (commandSlot s.spineCyc)

/-- The apply or start frame the hub chooses (R75): the second after the one in which the TAIL of the last of its messages to a group
leaves, `flits` flits from now on. -/
def State.applyFrame (s : State) (group target flits : Nat) : Nat :=
  (s.headSlot (s.ribsOf group target) + (flits - 1)) / 480 + 2

/-- Put a COMMAND-slot message to a group at the end of the queue of each rib (R68, R72, R73). -/
def sendDownAs (copy : Bool) (group target kind head : Nat) (words : List Nat) (s : State) : State :=
  let l := (s.members group target).filter s.reachable
  let ribs := s.ribsOf group target
  let i := s.headSlot ribs + 1 + words.length
  let s := ribs.foldl (fun s r => modRib r (fun b => { b with nextCmd := i }) s) s
  l.foldl (fun s n =>
    modStn n (fun x => if x.cold then x else { x with inbox := x.inbox ++ [⟨kind, head, words, group, copy⟩] }) s) s

/-- Send a COMMAND-slot message to a group (R72, R73). -/
def sendDown (group target kind head : Nat) (words : List Nat) (s : State) : State := sendDownAs false group target kind head words s

/-- The spine's COMMAND slots reach a station (R85, R587): frames run, and no retrain has stopped its rib's slots. -/
def State.delivers (s : State) (n : Nat) : Bool := s.spine.running && !(s.rib (n / 64)).stopped

/-- Take the message at the front of a station's queue where it has this kind and sub-operation (R73: in order). -/
def takeInbox (n kind : Nat) (sub : DownMsg → Bool) (s : State) : Option (DownMsg × State) :=
  let x := s.stn n
  match x.inbox with
  | m :: rest => if s.delivers n && m.kind = kind && sub m then some (m, setStn n { x with inbox := rest } s) else none
  | [] => none

/-- Which position owns NOTICE slot j of frame f on a rib (R66); none for the echo's slot. -/
def State.noticeOwner (s : State) (r f j : Nat) : Option Nat :=
  if j = 0 then none
  else (mget? s.slot.ribs r).map (fun i => 64 * r + (31 * f + j - 1) % (i.lastPos + 1))

/-- The cycle in which a NOTICE slot of a station's own passes it (R64, R66): its flit enters the spine T(s) later. A slot takes one
NOTE. -/
def State.noticeSlot (s : State) (n : Nat) : Bool :=
  let c := s.spineCyc + ((s.stnImage? n).map (·.t)).getD 0
  c % 16 == 8 && s.noticeOwner (n / 64) (c / 512) (c % 512 / 16) == some n && (s.stn n).noteCyc != some s.clk.cyc

/-- Put a downstream NOTE to every station (R72): it reaches stations of DEGRADED ribs too, not isolated ones (R81, R84). -/
def sendNoteDown (w : Nat) (s : State) : State :=
  if s.spine.running then
    (s.slot.stns.map (·.1)).foldl (fun s n =>
      if (s.rib (n / 64)).subst || (s.stn n).cold then s else modStn n (fun x => { x with noteIn := x.noteIn ++ [w] }) s) s
  else s

/-! ### The ring (R210 to R213) -/

def State.trcCap (s : State) : Nat := s.fg F.TRC_CAP_SIZE_MIB * 2 ^ 20

def State.trcQuota (s : State) : Nat := min (s.fg F.TRC_QUOTA_Q * 4096) s.trcCap

def modTrc (f : TraceState → TraceState) (s : State) : State := { s with trace := f s.trace }

def State.trcUsed (s : State) : Nat := ((s.trace.blocks.map (fun b => 64 * b.lines))).sum

/-- TRC_OLD and TRC_RD follow the valid blocks and the blocks drained of them (R210). -/
def showTrcPtrs (s : State) : State :=
  let wr := s.rdN R.TRC_WR
  let posOf (bs : List Block) : Nat := match bs with | b :: _ => b.pos | [] => wr
  (s.wrN R.TRC_OLD (posOf s.trace.blocks)).wrN R.TRC_RD (posOf (s.trace.blocks.drop s.trace.drained))

/-- Under STOP the drained blocks are free: TRC_OLD follows TRC_RD (R211). -/
def freeDrained (s : State) : State :=
  if s.fb F.TRC_CTL_POLICY then
    showTrcPtrs (modTrc (fun t => { t with blocks := t.blocks.drop t.drained, drained := 0 }) s)
  else s

/-- A block freed while window 3 of the Rolsal port reads it ends that drain with cause OVERRUN (R485). -/
def drainOverrun (s : State) : State :=
  if s.rolsal.drain && s.rolsal.drnWord != 0 then
    { s with rolsal := { s.rolsal with drain := false, drnCause := 4, drnWord := 0 } }
  else s

/-- Under WRAP whole blocks are freed, oldest first, until `n` bytes fit (R211). -/
def wrapFree : Nat → Nat → State → State
  | 0, _, s => s
  | fuel + 1, n, s =>
    if s.trcUsed + n ≤ s.trcCap then s
    else match s.trace.blocks with
      | [] => s
      | _ :: rest =>
        let isOver := s.trace.drained == 0
        let s := modTrc (fun t => { t with blocks := rest, drained := t.drained - 1 }) s
        wrapFree fuel n (if isOver then drainOverrun (s.fs F.TRC_STAT_RD_OVERRUN 1) else s)

/-- The freeze window can open (R212): TRIG_FREEZE, armed, and some enabled rule with TRIGGER. -/
def State.trigArmed (s : State) : Bool :=
  s.fb F.TRC_CTL_TRIG_FREEZE && s.fb F.SEQ_STAT_ARMED &&
    (List.range 4).any (fun a => (List.range 2).any (fun b => s.fb (F.SEQ_RULE_EN a b) && s.fb (F.SEQ_RULE_TRIGGER a b)))

/-- Change the capture state (R217, R218): a change takes the next ACT_ID. -/
def setCapture (run : Bool) (s : State) : State :=
  if s.trace.capture == run then s
  else modTrc (fun t => { t with capture := run, actId := (t.actId + 1) % 256, actFrame := none }) s

/-- The ring becomes FROZEN (R212, R213): the window closes, STOP is sent, and at the window's end TRACE_TRIGGERED is
posted. -/
def freezeRing (post : Bool) (s : State) : State :=
  let s := setCapture false (modTrc (fun t => { t with window := none }) (s.fs F.TRC_STAT_FROZEN 1))
  if post then
    postEvent (s.fg F.TRC_CTL_EVT_RING) ⟨5, s.rdN R.TRC_TRIG_POS, s.ts, s.rd64 R.TRC_TRIG_TS_LO R.TRC_TRIG_TS_HI, none⟩ s
  else s

/-- An open freeze window ends with its condition (R212). -/
def endWindow (s : State) : State :=
  if s.trace.window.isSome && !s.trigArmed then modTrc (fun t => { t with window := none }) s else s

/-- How the ring answers a block. -/
inductive RingAns where
  | ok | ring | after
  deriving DecidableEq, Repr

/-- Does the ring take `n` bytes (R211, R212): room is made under WRAP; a refusal is counted as it has it. -/
def ringTakes (n : Nat) (trigger : Bool) (s : State) : RingAns × State :=
  let s := endWindow s
  if s.fb F.TRC_STAT_FROZEN then (.after, s.fsat F.TRC_DROP_AFTER_FREEZE 1)
  else if !s.fb F.TRC_CTL_ENABLE then (.ring, s)
  else
    let isOver := match s.trace.window with | some w => decide (w + n > s.trcQuota) | none => false
    if isOver then (.after, freezeRing true (s.fsat F.TRC_DROP_AFTER_FREEZE 1))
    else if s.fb F.TRC_CTL_POLICY then
      let s := freeDrained s
      let res := if trigger || s.trace.window.isSome || !s.trigArmed then 0 else s.trcQuota
      if s.trcUsed + n + res ≤ s.trcCap then (.ok, s) else (.ring, s.fs F.TRC_STAT_FULL 1)
    else
      let s := showTrcPtrs (wrapFree (s.trace.blocks.length) n s)
      if s.trcUsed + n ≤ s.trcCap then (.ok, s) else (.ring, s)

/-- Lines of a block with `k` packet bytes (R227). -/
def blockLines (k : Nat) : Nat := (16 + k + 63) / 64

/-- Store bytes at a ring offset, circularly over the capacity (R210). -/
def ringPut (cap pos : Nat) (bs : List Nat) (m : Mem) : Mem :=
  if cap = 0 then m
  else
    let n := cap - pos % cap
    memPutBytes (memPutBytes m (pos % cap) (bs.take n)) 0 (bs.drop n)

/-- Read bytes from a ring offset, circularly. -/
def ringGet (cap pos n : Nat) (m : Mem) : List Nat :=
  (List.range n).map (fun i => (memGet m (if cap = 0 then 0 else (pos + i) % cap)).toNat)

/-- Write a block the ring has taken (R227): header with the TS of its cycle, packets, zero padding. -/
def putBlockAt (ts btype src : Nat) (body : List Nat) (s : State) : State :=
  let n := blockLines body.length
  let wr := s.rdN R.TRC_WR
  let bs := padTo 64 (toLe 1 btype ++ toLe 1 n ++ toLe 2 src ++ toLe 2 body.length ++ toLe 2 s.trace.bseq ++ toLe 8 ts ++ body)
  let s := modTrc (fun t => { t with
    ring := ringPut s.trcCap wr bs t.ring, blocks := t.blocks ++ [⟨wr, n⟩], bseq := (t.bseq + 1) % 65536
    window := t.window.map (· + 64 * n) }) s
  showTrcPtrs (s.wrN R.TRC_WR (if s.trcCap = 0 then 0 else (wr + 64 * n) % s.trcCap))

def putBlock (btype src : Nat) (body : List Nat) (s : State) : State := putBlockAt s.ts btype src body s

/-! ### Packets as a decoder walks them -/

/-- Bytes of a VAR field (R229). -/
def varLen : List Nat → Nat
  | [] => 0
  | b :: bs => if b < 128 then 1 else 1 + varLen bs

/-- Length of the packet at the front (R228). -/
def packetLen (bs : List Nat) : Nat :=
  let b0 := bs.getD 0 0
  let b1 := bs.getD 1 0
  match b0 % 16 with
  | 0 => 2 + (match b1 % 8 with | 0 => 16 | 2 => 9 | 4 => 1 | 6 => 1 | _ => 0)
  | 1 => if b0 / 16 = 1 then 9 else 1 + varLen (bs.drop 1)
  | 2 => 7 | 3 => 7 | 4 => 7
  | 5 => 9
  | 6 => 7
  | 7 => if b1 % 4 = 3 then 3 else 3 + (if bitOf b1 2 then 8 else varLen (bs.drop 3))
  | 8 => 2 + (if bitOf b1 3 then 8 else varLen (bs.drop 2)) + 2 ^ bitsOf b1 1 2
  | 9 => 2
  | 10 => 10
  | 11 => 22 + varLen (bs.drop 22)
  | 12 => 9
  | 13 => 1
  | 14 => 15
  | _ => bs.length

/-- GAP packets among a message's packets. -/
def countGaps : Nat → List Nat → Nat
  | 0, _ => 0
  | fuel + 1, bs =>
    if bs.isEmpty then 0 else b2n (bs.getD 0 0 % 16 == 11) + countGaps fuel (bs.drop (max 1 (packetLen bs)))

/-- GAP packets written to the ring are counted (R224). -/
def countGapsWritten (n : Nat) (s : State) : State :=
  if n = 0 then s else (s.fsat F.TRC_GAPS_GAPS n).fs F.TRC_STAT_LOST 1

/-! ### Losses the ring writer accounts (R208, R209) -/

def lossKey (stn cause : Nat) : Nat := 8 * stn + cause

/-- A message of a station is lost under cause 4, 5 or 7. -/
def loseMsg (stn cause : Nat) (s : State) : State :=
  let k := lossKey stn cause
  let s := modTrc (fun t =>
    match addLoss (mget? t.lost k) stn 1 s.ts s.ts with
    | some l => { t with lost := mput t.lost k { l with name := stn } }
    | none => t) s
  s.fsat F.TRC_DROP_MSGS 1

/-- The losses of a station with no GAP yet, by cause. -/
def State.lossesOf (s : State) (stn : Nat) : SMap Loss := s.trace.lost.filter (fun l => l.1 / 8 == stn)

/-- TRACE_CMD (R222). -/
def sendTraceCmd (group target sub : Nat) (words : List Nat) (s : State) : State := sendDown group target 7 sub words s

/-- Packet bytes of a station's GAPs in a block of their own: ABS first (R230). -/
def gapBody (ls : SMap Loss) (ts : Nat) : List Nat :=
  tsDelta none ts ++ ls.flatMap (fun l => gapBytes (l.1 % 8) l.2)

/-- Write the GAPs of stations in one central block the ring has taken, and resynchronise each (R209). -/
def putGaps (ls : SMap Loss) (s : State) : State :=
  let s := putBlock 0xA2 0 (gapBody ls s.ts) s
  let s := modTrc (fun t => { t with lost := t.lost.filter (fun l => !ls.any (fun k => k.1 == l.1)) }) s
  let s := countGapsWritten ls.length s
  (ls.foldl (fun ns l => if ns.contains (l.1 / 8) then ns else ns ++ [l.1 / 8]) []).foldl
    (fun s n => sendTraceCmd 0 n 4 [0] s) s

/-! ### Central packets (R204, R206, R232) -/

def centralQueueMax : Nat := 2048

/-- A SYNC is due for a central source; the lowest REASON stays. -/
def centralSync (src reason : Nat) (s : State) : State :=
  modTrc (fun t =>
    let st := mget t.srcs src {}
    { t with srcs := mput t.srcs src { st with due := some (match st.due with | some r => min r reason | none => reason) } }) s

/-- The SYNC of a central source (R232). -/
def centralSyncBytes (src reason : Nat) (run trig pert : Bool) : List Nat :=
  [pktHead 0 0, src + (if pert then 8 else 0) + 16 * reason] ++ (if src = srcWriter then [b2n run + 2 * b2n trig] else [])

/-- The REASON of a source's SYNC before its next packet, the lowest of its causes; none where no SYNC is due (R205, R232). -/
def SrcState.dueNow (st : SrcState) : Option Nat :=
  if st.count ≥ 4096 then some (match st.due with | some r => min r 1 | none => 1) else st.due

/-- Fill a batch from the central queue (R227): at most 1,072 packet bytes. -/
def fillBatch : List CentralPkt → List Nat → Option Nat → SMap SrcState → List Nat × SMap SrcState × List CentralPkt
  | [], bs, _, srcs => (bs, srcs, [])
  | p :: ps, bs, base, srcs =>
    let st := mget srcs p.src {}
    let piece := tsDelta base p.ts ++
      (match st.dueNow with | some r => centralSyncBytes p.src r (bitOf p.shows 0) (bitOf p.shows 1) (bitOf p.shows 2) | none => []) ++ p.bytes
    if bs.length + piece.length > 1072 then (bs, srcs, p :: ps)
    else fillBatch ps (bs ++ piece) (some p.ts)
      (mput srcs p.src ⟨(if st.dueNow.isSome then 0 else st.count) + b2n (!p.bytes.isEmpty), none⟩)

/-- Write one batch of central packets, the GAP of cause 6 at its head, where the ring takes it (CENTRAL_BATCH_WRITE,
R210, R227). Packets a full or frozen ring does not take wait in the queue. -/
def writeBatch (s : State) : State :=
  let t := s.trace
  if (t.queue.isEmpty && t.stimLoss.isNone) || s.fb F.TRC_STAT_FROZEN || !s.fb F.TRC_CTL_ENABLE then s
  else
    let ts0 := match t.queue with | p :: _ => p.ts | [] => s.ts
    let head := tsDelta none ts0 ++ (match t.stimLoss with | some l => gapBytes 6 l | none => [])
    let (bs, srcs, rest) := fillBatch t.queue head (some ts0) t.srcs
    match ringTakes (64 * blockLines bs.length) false s with
    | (.ok, s) =>
      let s := putBlock 0xA2 0 bs s
      let s := modTrc (fun t => { t with queue := rest, srcs := srcs, stimLoss := none }) s
      countGapsWritten (b2n t.stimLoss.isSome) s
    | (_, s) => s

/-- What a SYNC in this cycle shows of the ring writer (R232). -/
def State.writerShows (s : State) : Nat := b2n (s.fb F.TRC_STAT_RUN) + 2 * b2n (s.fb F.TRC_STAT_TRIGGERED) + 4 * b2n s.perturbed

/-- A central packet is lost under cause 6 (R208): `name` is its stimulus port's bit, 0 for a packet of the ring writer's own. -/
def loseCentral (src name : Nat) (s : State) : State :=
  let s := modTrc (fun t => { t with stimLoss := addLoss t.stimLoss name 1 s.ts s.ts }) s
  centralSync src 2 (s.fsat F.TRC_GAPS_STIM_LOST 1)

/-- A central packet waits for the ring writer in the queue of 2 KiB, or is dropped where that is full (R204). -/
def centralPacket (src name : Nat) (bytes : List Nat) (s : State) : State :=
  if ((s.trace.queue.map (fun p => p.bytes.length)).sum) + bytes.length ≤ centralQueueMax then
    modTrc (fun t => { t with queue := t.queue ++ [⟨s.ts, bytes, src, s.writerShows⟩] }) s
  else loseCentral src name s

/-- Queue a packet of the ring writer's own. -/
def writerPacket (bytes : List Nat) (s : State) : State := centralPacket srcWriter 0 bytes s

/-- A STIM packet (R204, R240): formed while STIM_EN is 1 and capture runs. It matches STIM comparators, dropped or not (R215). -/
def stimPacket (port ident value : Nat) (s : State) : State :=
  if !s.fb F.TRC_CTL_STIM_EN || !s.fb F.TRC_STAT_RUN then s
  else
    let s := centralPacket srcStim (2 ^ port) ([pktHead 6 0, port, ident] ++ toLe 4 value) s
    centralHits 4 (fun c =>
      port == bitsOf (s.rdN (R.TRC_CMP_VAL_HI c)) 0 6 &&
        ((value ^^^ s.rdN (R.TRC_CMP_VAL_LO c)) &&& s.rdN (R.TRC_CMP_VMASK_LO c)) == 0) s

/-! ### Station blocks -/

/-- The packet bytes of a TRACE message (R226). -/
def traceBytes (m : UpMsg) : List Nat :=
  let bs := bytesOfWords m.words
  bs.take (bs.length - m.head % 4)

/-- Pieces of at most 32 losses, whose GAPs one block holds. -/
def lossPieces : Nat → SMap Loss → List (SMap Loss)
  | 0, _ => []
  | k + 1, ls => if ls.isEmpty then [] else ls.take 32 :: lossPieces k (ls.drop 32)

/-- Ring bytes of the GAP blocks of some losses. -/
def gapRoom (ls : SMap Loss) (ts : Nat) : Nat :=
  ((lossPieces (ls.length + 1) ls).map (fun l => 64 * blockLines (gapBody l ts).length)).sum

/-- The ring has room for `n` bytes without anything being freed or refused (R211, R212). -/
def State.ringRoom (s : State) (n : Nat) : Bool :=
  match s.trace.window with
  | some w => decide (w + n ≤ s.trcQuota)
  | none => !s.fb F.TRC_CTL_POLICY || decide (s.trcUsed + n + (if s.trigArmed then s.trcQuota else 0) ≤ s.trcCap)

/-- Write a station's message as a block whose header is of TS `ts` (R210). The GAPs of every affected station come first, in ascending station
ID and cause (R209), those of this station alone where not all fit; a refusal under cause 5 is a loss of the station. -/
def writeStationBlock (ts stn : Nat) (m : UpMsg) (s : State) : State :=
  let body := traceBytes m
  let n := 64 * blockLines body.length
  let s := freeDrained (endWindow (if s.trace.lost.isEmpty then s else writeBatch s))
  let ls := if s.ringRoom (gapRoom s.trace.lost s.ts + n) then s.trace.lost else s.lossesOf stn
  match ringTakes (gapRoom ls s.ts + n) false s with
  | (.ok, s) =>
    let s := (lossPieces (ls.length + 1) ls).foldl (fun s l => putGaps l s) s
    countGapsWritten (countGaps body.length body) (putBlockAt ts 0xA1 stn body s)
  | (.ring, s) => loseMsg stn 5 s
  | (.after, s) => s

/-- Write GAPs for cause 4 as soon as the ring takes them (R209). -/
def writeNetGaps (stn : Nat) (s : State) : State :=
  let ls := s.lossesOf stn
  if ls.isEmpty || s.fb F.TRC_STAT_FROZEN || !s.fb F.TRC_CTL_ENABLE then s
  else
    let s := writeBatch s
    match ringTakes (64 * blockLines (gapBody ls s.ts).length) false s with
    | (.ok, s) => putGaps ls s
    | (_, s) => s

/-- A TRACE message is discarded at the spine or cut short (R208 cause 4). -/
def netLoss (stn : Nat) (s : State) : State := writeNetGaps stn (loseMsg stn 4 s)

/-! ### TRIGGER (R212) -/

/-- The TRIGGER packet's block is written next, `rule` its RULE bits [2:0]: the state, then which rule (R240). Where a SYNC of the ring writer
is due, the central batch closed before it ends with that SYNC (R205, R227). The window opens, or with Q = 0 the ring freezes at the block.
A TRIGGER while the window is open or the ring frozen only counts; one the ring refuses is a central packet lost (R208). -/
def triggerAction (rule : Nat) (e : SeqEvent) (count : Nat) (s : State) : State :=
  let s := endWindow s
  if s.trace.window.isSome || s.fb F.TRC_STAT_FROZEN then s.fsat F.SEQ_STAT_EXTRA_TRIG 1
  else
    let s := if (mget s.trace.srcs srcWriter {}).dueNow.isSome then
        modTrc (fun t => { t with queue := t.queue ++ [⟨s.ts, [], srcWriter, s.writerShows⟩] }) s
      else s
    let s := writeBatch s
    let body := tsDelta none s.ts ++
      [pktHead 0xC 0, rule + 8 * e.cmp + 64 * b2n e.central] ++ toLe 2 (e.stn + 2 ^ 10 * e.port) ++ toLe 1 e.ctx ++ toLe 4 count
    match ringTakes (64 * blockLines body.length) true s with
    | (.ok, s) =>
      let pos := s.rdN R.TRC_WR
      let s := putBlock 0xA2 0 body s
      let s := modTrc (fun t => { t with
        srcs := mmod t.srcs srcWriter {} (fun c => { c with count := c.count + 1 }) }) s
      let s := ((s.wrN R.TRC_TRIG_POS pos).wr64 R.TRC_TRIG_TS_LO R.TRC_TRIG_TS_HI s.ts).fs F.TRC_STAT_TRIGGERED 1
      if s.trigArmed then
        if s.trcQuota = 0 then freezeRing true s
        else modTrc (fun t => { t with window := some (64 * blockLines body.length) }) s
      else s
    | (_, s) => loseCentral srcWriter 0 s

/-- An ABSENT packet (R206, R240): the rib, whether DEGRADED, the TS of the first frame of substitution. -/
def absentPacket (rib : Nat) (degraded : Bool) (tsStart : Nat) (s : State) : State :=
  writerPacket ([pktHead 0xA 0, rib + 16 * b2n degraded] ++ toLe 8 tsStart) s

end Sys2Proof.Machine
end

