-- ==== Sys2Proof/Machine/CaneOps.lean ====
section
/-! DEFINITION. Shared operations of the cane network: CRC-32C, the SLOT_LOAD of a station (R96), register accesses on
their way to a station (R74), messages lost or abandoned (R83, R585), errors and DEGRADED ribs (R83, R84), verification and
the load of station time (R97, R106). -/

namespace Sys2Proof.Machine

/-! ### CRC-32C -/

def crcBit (c : Nat) : Nat := if c % 2 = 1 then (c / 2) ^^^ 0x82F63B78 else c / 2

def crcByte (c b : Nat) : Nat := (List.range 8).foldl (fun c _ => crcBit c) (c ^^^ (b % 256))

/-- CRC-32C of a byte string: initial value and final inversion all ones, bits least significant first. -/
def crc32c (bs : List Nat) : Nat := (bs.foldl crcByte 0xFFFFFFFF) ^^^ 0xFFFFFFFF

/-! ### SLOT_LOAD (R96) -/

def PortImage.byte (p : PortImage) : Nat := p.ty + 8 * p.cvLen + 32 * p.gresp + 128 * b2n p.resumable

/-- Slot numbers in halves of words. -/
def slotPairs : List Nat → List Nat
  | a :: b :: rest => (a + 2 ^ 16 * b) :: slotPairs rest
  | [a] => [a]
  | [] => []

/-- Body words of a station's SLOT_LOAD. -/
def slotLoadWords (i : StationImage) : List Nat :=
  (i.t + 2 ^ 8 * i.shcomp + 2 ^ 16 * i.part + 2 ^ 20 * b2n i.ribEnd + 2 ^ 23 * i.slots.length) ::
    (wordsOf ((List.range 16).map (fun p => (i.ports.getD p {}).byte)) ++ slotPairs i.slots)

/-- A SLOT_LOAD goes to its station; while a bridge substitutes for a rib that is being restored it lets this message pass (R82). -/
def sendSlotLoad (n : Nat) (s : State) : State :=
  match s.stnImage? n with
  | some i =>
    let ws := slotLoadWords i
    let s := modRib (n / 64) (fun b => { b with nextCmd := s.headSlot [n / 64] + 1 + ws.length }) s
    modStn n (fun x => if x.cold then x else { x with inbox := x.inbox ++ [{ kind := 2, head := 0, words := ws }] }) s
  | none => s

/-! ### Accesses to stations (R74) -/

/-- Start of a station's page in the register file: 0 window, 1 deadline, 2 reset, 4 security. -/
def pageBase (page n : Nat) : Nat :=
  (if page = 0 then stationBase else if page = 1 then deadlinePageBase else if page = 2 then resetPageBase
   else securityPageBase) + 0x800 * n

/-- The hub's own REG_WR to a group (R74, R290, R361, R499). -/
def sendRegWr (group target page off : Nat) (words : List Nat) (s : State) : State :=
  sendDown group target 0 (off + 512 * page) words s

def outstanding (r : Nat) (s : State) : Nat := (s.spine.reads.filter (fun a => a.stn / 64 == r)).length

/-- Put one access on its rib: a write is posted; a read becomes a REG_RD with the next TAG. -/
def launch (a : StnAccess) (s : State) : State :=
  match a.data with
  | some ws => sendRegWr 0 a.stn a.page a.off ws s
  | none =>
    let t := s.spine.tag
    let s := { s with spine := { s.spine with tag := (t + 1) % 256, reads := s.spine.reads ++ [{ a with tag := t, sent := s.clk.cyc }] } }
    sendDown 0 a.stn 1 (a.off + 512 * b2n a.peek + 1024 * t + 2 ^ 18 * a.page) [] s

/-- Issue an access: at most 4 reads of a rib are outstanding and later accesses to it wait behind them (R74). -/
def issueAccess (a : StnAccess) (s : State) : State :=
  let r := a.stn / 64
  if outstanding r s ≥ 4 || s.spine.readQ.any (fun b => b.stn / 64 == r) then
    { s with spine := { s.spine with readQ := s.spine.readQ ++ [a] } }
  else launch a s

/-- Accesses that waited go, in order, as far as each rib's limit lets them. -/
def pumpAccess : List StnAccess → List StnAccess → State → State
  | [], kept, s => { s with spine := { s.spine with readQ := kept } }
  | a :: rest, kept, s =>
    let r := a.stn / 64
    if kept.any (fun b => b.stn / 64 == r) || outstanding r s ≥ 4 then pumpAccess rest (kept ++ [a]) s
    else pumpAccess rest kept (launch a s)

/-- Take an outstanding read by its TAG and station; waiting accesses move up. -/
def takeAccess (n tag : Nat) (s : State) : Option (StnAccess × State) :=
  match s.spine.reads.find? (fun a => a.tag == tag && a.stn == n) with
  | some a =>
    let s := { s with spine := { s.spine with reads := removeFirst (fun b => b == a) s.spine.reads } }
    some (a, pumpAccess s.spine.readQ [] s)
  | none => none

/-! ### Messages lost (R83, R585) -/

def modSlotCount (slot : Nat) (f : SlotCount → SlotCount) (s : State) : State :=
  { s with stria := { s.stria with counts := mmod s.stria.counts slot {} f } }

/-- A message of station n is discarded at the spine: the loss is that of its kind; a TILE message counts in its slot (R260). -/
def discardUp (n : Nat) (m : UpMsg) (s : State) : State :=
  if m.kind = 0 then netLoss n s
  else if m.kind = 4 && !bitOf m.head 6 then
    let k := m.head % 64
    (modSlotCount k (fun c => { c with lostMsgs := min (c.lostMsgs + 1) 0xFFFFFFFF }) s).fs (F.STRIA_SSTAT_LOST k) 1
  else s

/-- The message in progress is abandoned (R585); those behind it stay until the next SLOT_LOAD is installed. -/
def abandonUp (n : Nat) (s : State) : State :=
  let x := s.stn n
  let s := setStn n { x with sending := none, sent := 0, badSend := false, installed := false, loadPend := false } s
  match x.sending with
  | some m => if x.badSend then s else discardUp n m s
  | none => s

/-- The network no longer reaches a station, nor the station the spine (R81, R84, R585, R587): what is under way to it is not delivered, what
is under way from it is ABSENT at the spine. -/
def cutOff (n : Nat) (s : State) : State :=
  let x := s.stn n
  abandonUp n (x.air.foldl (fun s m => discardUp n m s) (setStn n { x with inbox := [], air := [], noteAir := [] } s))

def State.ribStations (s : State) (r : Nat) : List Nat := s.members 1 r

/-- Every populated rib's number. -/
def State.ribs (s : State) : List Nat := s.slot.ribs.map (·.1)

/-- Stations of live ribs: neither DEGRADED nor isolated. -/
def State.liveStations (s : State) : List Nat :=
  (s.slot.stns.map (·.1)).filter (fun n => !s.ribDegraded (n / 64) && !s.ribAbsent (n / 64))

/-- TIME_STAT.STN_LOADED (R106). -/
def showLoaded (s : State) : State :=
  let l := s.liveStations
  s.fs F.TIME_STAT_STN_LOADED (b2n (!l.isEmpty && l.all (fun n => s.fb (F.STN_TS_STAT_LOADED n))))

/-- The accumulator's value at a CNCLK cycle ahead, while it runs (R101). -/
def State.accAt (s : State) (cyc : Nat) : Nat :=
  let inc := if s.fb F.TIME_STAT_RUN then s.rd64 R.TIME_INC_LO R.TIME_INC_HI else 0
  s.clk.acc + inc * (cyc / 2) - inc * (s.clk.cyc / 2)

/-- Load the time of a group of stations (R106): 8 frames ahead, by REG_WR to STN_TS_INC_LO, INC_HI, FRAC and STAT. -/
def loadTime (group target : Nat) (s : State) : State :=
  if !s.fb F.TIME_STAT_RUN || !s.spine.running then s
  else
    let f := s.frameNow + 8
    let frac := s.accAt (s.spine.startCyc + 512 * f) % 2 ^ 32
    let s := sendRegWr group target 0 (0x5E0 / 4) [s.rdN R.TIME_INC_LO] s
    let s := sendRegWr group target 0 (0x5E4 / 4) [s.rdN R.TIME_INC_HI] s
    let s := sendRegWr group target 0 (0x5E8 / 4) [frac] s
    sendRegWr group target 0 (0x5EC / 4) [f % 65536] s

/-- Every station of every rib that is not DEGRADED has been verified (R97). -/
def State.allVerified (s : State) : Bool := s.ribs.all (fun r => s.ribDegraded r || (s.rib r).echoChecked)

/-- SLOT_STAT.LIVE is set when every such station has been verified, and the time of all stations is then loaded (R97, R106). -/
def checkLive (s : State) : State :=
  if s.fb F.SLOT_STAT_VALID && s.fb F.CANE_STAT_RUNNING && !s.fb F.SLOT_STAT_LIVE && s.allVerified then
    loadTime 3 0 (s.fs F.SLOT_STAT_LIVE 1)
  else s

/-- LOST is set in each armed slot when a rib is isolated or DEGRADED (R266). -/
def loseSlots (s : State) : State :=
  (List.range 64).foldl (fun s i =>
    if s.fb (F.STRIA_CFG_ARMED i) then s.fs (F.STRIA_SSTAT_LOST i) 1 else s) s

/-- Station entries of the stria engines are lost with a rib's stations (R266). -/
def dropEntries (n : Nat) (s : State) : State :=
  modStn n (fun x => { x with stria := { x.stria with entries := [], tiles := [], queues := [], settlePend := [] } }) s

/-- Training, retrain, restoration and verification of a rib end. -/
def endRibWork (r : Nat) (s : State) : State :=
  modRib r (fun b => { b with training := false, retrain := false, restoring := none, verifyLeft := [], verifyGot := [],
                              echoBad := 0, echoGood := 0, echoChecked := false, stopped := false })
    (s.fs F.CANE_CTL_RETRAIN (setBit (s.fg F.CANE_CTL_RETRAIN) r false))

/-- A rib becomes DEGRADED (R84): causes 1 to 6 of R86. Its retrain or restoration ends; a rib that is DEGRADED already only
shows the new cause. -/
def degradeRib (r cause tsStart : Nat) (s : State) : State :=
  let was := s.ribDegraded r
  let s := ((s.fs (F.CANE_RIB_STAT_DEGRADED r) 1).fs (F.CANE_RIB_STAT_CAUSE r) cause).fs F.CANE_STAT_DEGRADED
    (setBit (s.fg F.CANE_STAT_DEGRADED) r true)
  let s := endRibWork r s
  let s := (s.ribStations r).foldl (fun s n => cutOff n s) s
  if was then s
  else
    let s := (s.ribStations r).foldl (fun s n => dropEntries n s) s
    showLoaded (checkLive (loseSlots (absentPacket r true tsStart s)))

/-- The TS of the first frame in which a rib that is cut off now is substituted throughout (R240). -/
def State.nextFrameTs (s : State) : Nat := if s.spine.running then s.tsOfSpine (512 * (s.spine.frame + 1)) else s.ts

/-- `k` errors of a rib arrive (R83, R84): the first in a window of 16 frames raises CANE_PARITY, DEG_ERRS of them within 16
consecutive frames degrade the rib. -/
def ribErrors (r k slot : Nat) (s : State) : State :=
  let f := s.spine.frame
  let b := s.rib r
  let inWin := match b.errFrame with | some f0 => decide (f < f0 + 16) | none => false
  let frames := (b.errFrames.filter (fun g => decide (f < g + 16))) ++ List.replicate k f
  let s := modRib r (fun b => { b with errFrame := (if inWin then b.errFrame else some f), errFrames := frames }) s
  let s := if inWin then s else centralFault cCaneParity 0 none 0 (r + 16 * slot) 0 s
  let lim := s.fg F.CANE_ERR_LIM_DEG_ERRS
  if lim != 0 && decide (lim ≤ frames.length) then degradeRib r 1 s.nextFrameTs s else s

/-- The station that owns an upstream DATA slot of a rib (R65). -/
def State.slotOwner (s : State) (r slot : Nat) : Option Nat :=
  (s.slot.stns.find? (fun p => p.1 / 64 == r && p.2.slots.contains slot)).map (·.1)

/-! ### Verification and station time (R97, R106) -/

/-- The hub reads a station's STN_SLOT_CRC and STN_SLOT. -/
def readVerify (n : Nat) (s : State) : State :=
  let off (a : Nat) : Nat := (a - pageBase 0 n) / 4
  let s := issueAccess { tag := 0, stn := n, page := 0, off := off (R.STN_SLOT_CRC n), n := 1, peek := true, use := .verifyCrc } s
  issueAccess { tag := 0, stn := n, page := 0, off := off (R.STN_SLOT n), n := 1, peek := true, use := .verifySlot } s

/-- SLOT_LOADs to the stations of a rib, in ascending station ID; every one of them is still to be verified (R97). -/
def loadRib (r : Nat) (s : State) : State :=
  let l := s.ribStations r
  let s := l.foldl (fun s n => sendSlotLoad n s) s
  modRib r (fun b => { b with verifyLeft := l, verifyGot := [], echoChecked := false, echoGood := 0, echoBad := 0, stopped := false }) s

/-- The verification reads of a rib's stations. -/
def verifyRib (r : Nat) (s : State) : State := (s.ribStations r).foldl (fun s n => readVerify n s) s

end Sys2Proof.Machine
end

