-- ==== Sys2Proof/Machine/Time.lean ====
section
/-! DEFINITION. Timebase and gather (chapter 5): starting and locking time, loading and checking the stations' copies, the
rounds of a gather and the offset table. -/

namespace Sys2Proof.Machine

open Host (Outcome)

/-! ### The package timestamp (R101 to R103) -/

/-- TIME_CTL.START (R101, R106): ignored unless LOCK is set, or while RUN is 1. -/
def startTime (s : State) : State :=
  if !s.fb F.TIME_CTL_LOCK || s.fb F.TIME_STAT_RUN then s
  else
    let s := s.fs F.TIME_STAT_RUN 1
    if s.fb F.SLOT_STAT_LIVE then loadTime 3 0 s else s

def lockTime (s : State) : State := (s.fs F.TIME_CTL_LOCK 1).fs F.TIME_STAT_LOCKED 1

/-- A write that completes TIME_INC (R102). -/
def writeTimeInc (v : Nat) (s : State) : State :=
  if s.fb F.TIME_CTL_LOCK || s.fb F.TIME_STAT_RUN then s
  else if 0x100000000 ≤ v ∧ v ≤ 0x1AAAAAAAB then s.wr64 R.TIME_INC_LO R.TIME_INC_HI v
  else s.fs F.TIME_STAT_INC_ERR 1

def execTimeStart (id : Nat) (s : State) : Outcome State Fault Refusal := s.act fun s =>
  ok (s.gate id R.TIME_CTL .operator startTime)

def execTimeLock (id : Nat) (s : State) : Outcome State Fault Refusal := s.act fun s =>
  ok (s.gate id R.TIME_CTL .operator lockTime)

def execTimeIncWrite (id value64 : Nat) (s : State) : Outcome State Fault Refusal := s.act fun s =>
  ok (s.gate id R.TIME_INC_HI .operator (writeTimeInc value64))

/-! ### Station time (R106 to R108) -/

/-- Errors a station counts downstream (R83): STN_NET_ERR.DERR, station event NET_ERR (R177), and a NET_ERR NOTE owed. -/
def downErrors (n k : Nat) (s : State) : State :=
  if k = 0 || (s.stn n).cold then s
  else pcStation n 0x83 k (modStn n (fun x => { x with netErrDue := x.netErrDue + k }) (s.fsat (F.STN_NET_ERR_DERR n) k))

/-- LOADED is set: the progress watchdog of every command ACTIVE at a port that is not held runs from now on (R108, R274). -/
def startPw (n : Nat) (s : State) : State :=
  (List.range 16).foldl (fun s p =>
    let u := 16 * n + p
    if (s.port u).current.isSome && !s.held u then
      modPort u (fun p => { p with pwRun := true, pwFrom := s.stnTs n, pwScale := s.pwFactor n }) s
    else s) s

/-- A load is asked for again (R106, R108): LOADED falls, the station's TS is 0 and no watchdog of it runs until it is set. -/
def unload (n f : Nat) (s : State) : State :=
  let s := (s.fs (F.STN_TS_STAT_LOAD_FRAME n) f).fs (F.STN_TS_STAT_LOADED n) 0
  showLoaded (modStn n (fun x => { x with tsPend := true, accRuns := false
                                          ports := x.ports.map (fun p => (p.1, { p.2 with pwRun := false })) }) s)

/-- The load frame's MARK words have come (R106): the accumulator starts at (MARK TS, FRAC); a station that missed either
keeps LOADED at 0 and its rib is loaded again. -/
def execStationTsLoad (stn : Nat) (marksOk : Bool) (s : State) : Outcome State Fault Refusal := s.act fun s =>
  let x := s.stn stn
  if !x.tsPend || !s.spine.running || (s.rib (stn / 64)).subst || s.fg (F.STN_TS_STAT_LOAD_FRAME stn) != s.spine.frame % 65536 then ok s
  else if marksOk then
    let s := setStn stn { x with acc := s.spine.markTs * 2 ^ 32 + s.rdN (R.STN_TS_FRAC stn),
                                 accCyc := s.spine.startCyc + 512 * s.spine.frame, accRuns := true, tsPend := false } s
    ok (showLoaded (startPw stn (s.fs (F.STN_TS_STAT_LOADED stn) 1)))
  else
    ok (loadTime 1 (stn / 64) (setStn stn { x with tsPend := false } s))

/-- The MARK words of the spine's frame arrive (R68, R107), some of their bits inverted: a word whose parity fails is discarded and counted (R61,
R83); a good TS word that differs from a loaded station's own value replaces it, sets SLIP and owes a NET_ERR NOTE. -/
def execStationFrameMark (stn fInv : Nat) (fPar : Bool) (loInv : Nat) (loPar : Bool) (hiInv : Nat) (hiPar : Bool) (s : State) : Outcome State Fault Refusal := s.act fun s =>
  if (s.stn stn).cold || !s.spine.running || (s.rib (stn / 64)).subst then ok s else
  let f := markFlit 0 s.spine.frame fInv fPar
  let lo := markFlit 1 s.spine.markTs loInv loPar
  let hi := markFlit 2 (s.spine.markTs >>> 32) hiInv hiPar
  let s := downErrors stn (b2n (!flitOdd f) + b2n (!flitOdd lo) + b2n (!flitOdd hi)) s
  let x := s.stn stn
  let x := if flitOdd f then { x with frame := flitPay f, mark := s.clk.cyc } else x
  if !x.accRuns then ok (setStn stn x s)
  else
    let at_ := s.spine.startCyc + 512 * s.spine.frame
    let inc := s.rd64 (R.STN_TS_INC_LO stn) (R.STN_TS_INC_HI stn)
    let a := x.acc + inc * ((at_ - x.accCyc) / 2)
    let own := (a >>> 32) % 2 ^ 64
    let new := (if flitOdd lo then flitPay lo else own % 2 ^ 32) + 2 ^ 32 * (if flitOdd hi then flitPay hi else own >>> 32)
    let s := setStn stn { x with acc := new * 2 ^ 32 + a % 2 ^ 32, accCyc := at_ } s
    if new = own then ok s
    else ok ((modStn stn (fun x => { x with slipDue := true }) s).fs (F.STN_TS_STAT_SLIP stn) 1)

/-- A station enters pass-through mode (R58, R542, R585): slot table and shear lock released, capture off, the open
message discarded, the message in progress abandoned. A change of a stria slot whose frame will not come is in force at once
(log entry 110). Everything else is kept. -/
def enterPass (n : Nat) (s : State) : State :=
  let s := (s.stn n).stria.slotPend.foldl (fun s c => applySlot n (c.2.1 % 64) (64 ≤ c.2.1) c.2.2 s) (abandonUp n s)
  let s := modStn n (fun x => { x with passThrough := true, loadPend := false, cfgPend := [], samples := [], epochPend := [], reds := []
                                       stria := { x.stria with slotPend := [], settlePend := [] }, trace := { x.trace with
    run := false, actNext := [], cfgPend := [], openBytes := [], openPorts := 0, openPkts := 0, base := none } }) s
  let s := (s.fs (F.STN_NET_LOCKED n) 0).fs (F.STN_NET_DATA_SLOTS n) 0
  let s := (s.fs (F.STN_NET_T n) 0).fs (F.STN_SLOT_LOADED n) 0
  let s := ((s.fs (F.STN_SH_STAT_LOCKED n) 0).fs (F.STN_TRC_STAT_RUN n) 0).fs (F.STN_SH_CFG_VALID n) 0
  if s.fb (F.STN_TRC_STAT_HOLD n) then releaseHold n s else s

/-- No error-free MARK FRAME for 1,024 cycles (R542). -/
def execStationMarkTimeout (stn : Nat) (s : State) : Outcome State Fault Refusal := s.act fun s =>
  let x := s.stn stn
  if !x.passThrough && decide (x.mark + 1024 ≤ s.clk.cyc) then ok (enterPass stn s) else ok s

/-! ### Gather (R113 to R119) -/

def modGather (f : GatherState → GatherState) (s : State) : State := { s with gather := f s.gather }

/-- A gather message (R113). -/
def gatherBytes (kind index session t1 t2 t3 : Nat) : List Nat :=
  toLe 1 kind ++ toLe 1 index ++ toLe 2 session ++ toLe 4 0 ++ toLe 8 t1 ++ toLe 8 t2 ++ toLe 8 t3

/-- Gather messages cross the fabric port in the notice class (R114), in a cycle in which notices are not stalled (R569). -/
def sendFabric (node : Nat) (bytes : List Nat) (s : State) : State :=
  { s with bus := { s.bus with fabSent := s.bus.fabSent ++ [⟨true, node, bytes⟩] } }

/-- Begin a round with a set of peers. SESSION is the requester's own value, which the spec leaves open. -/
def beginRound (round : Nat) (peers : List (Nat × Nat)) (s : State) : State :=
  let (v, s) := s.free
  modGather (fun g => { g with
    round := some round, peers := peers.map (fun p => { node := p.1, ent := p.2 }), session := v % 65536
    start := s.ts, last := s.ts, sent := 0, open_ := [], between := false }) s

/-- The next GPING (R115): peers in the order of their entries, steps of 2,000 ns. T1 is the crossing TS, less the delay of
R572 while gather asymmetry is active. -/
def execGatherPingSend (s : State) : Outcome State Fault Refusal := s.awake fun s =>
  let g := s.gather
  let np := g.peers.length
  if !s.coreUp 1 || s.noticeStall s.core || g.round.isNone || np = 0 || g.sent ≥ 16 * np then ok s
  else
    let i := g.sent / np
    match g.peers[g.sent % np]? with
    | none => ok s
    | some p =>
      if s.ts < g.start + 2000 * i then ok s
      else
        let asym := s.fb F.SEC_CTL_TEST_EN && s.fb F.PTB_CTL_GATHER_EN
        let t1 := (s.ts + 2 ^ 64 - (if asym then s.fg F.PTB_GATHER_DELAY else 0)) % 2 ^ 64
        let s := sendFabric p.node (gatherBytes 1 i g.session t1 0 0) s
        ok (modGather (fun g => { g with sent := g.sent + 1, open_ := g.open_ ++ [(p.ent, i, s.ts)] }) s)

/-- The first CORECLK cycle from `c` on in which the fabric port presents a notice beat (R569). -/
def State.noticeFrom (s : State) (c : Nat) : Nat :=
  c + ((List.range 16).find? (fun k => !s.noticeStall (c + k))).getD 0

/-- A GPING is answered while time runs and its sender is in the job table, at most 64 CORECLK later (R114), or in the first cycle after
these that does not stall notices (R569). -/
def execGpingReceive (node index session t1 : Nat) (s : State) : Outcome State Fault Refusal := s.awake fun s =>
  if s.fb F.TIME_STAT_RUN && s.job.peers.contains node then
    let (v, s) := s.free
    let t3 := s.tsOfCyc (s.clk.cyc + 2 * (s.noticeFrom (s.core + v % 65) - s.core))
    ok (sendFabric node (gatherBytes 2 index session t1 s.ts t3) s)
  else ok (s.fsat F.GATHER_IGN_IGNORED 1)

/-- Two's complement of an integer in w bits. -/
def intField (w : Nat) (v : Int) : Nat := (v % Int.ofNat (2 ^ w)).toNat

/-- Signed value of a w-bit field. -/
def signedOf (w n : Nat) : Int := if bitOf n (w - 1) then Int.ofNat n - Int.ofNat (2 ^ w) else Int.ofNat n

/-- Signed 64-bit arithmetic (R115). -/
def wrap64 (v : Int) : Int := signedOf 64 (intField 64 v)

/-- A GPONG that matches an outstanding INDEX and SESSION within 50,000 ns of its GPING is kept (R115); any other is discarded. T1 is the one
it carries. -/
def execGpongReceive (node index session t1 t2 t3 : Nat) (s : State) : Outcome State Fault Refusal := s.awake fun s =>
  let g := s.gather
  match g.peers.find? (fun p => p.node == node) with
  | none => ok s
  | some p =>
    let mine (o : Nat × Nat × Nat) : Bool := o.1 == p.ent && o.2.1 == index
    if g.round.isSome && session = g.session && g.open_.any (fun o => mine o && decide (s.ts ≤ o.2.2 + 50000)) then
      let t4 := s.ts
      let e : Exchange := { idx := index, off2 := wrap64 (((t2 : Int) - t1) - ((t4 : Int) - t3))
                            rtt := wrap64 (((t4 : Int) - t1) - ((t3 : Int) - t2)), t1 := t1, t4 := t4 }
      ok (modGather (fun g => { g with
        open_ := removeFirst mine g.open_
        peers := replaceFirst (fun q => q.ent == p.ent) (fun q => { q with got := q.got ++ [e] }) g.peers }) s)
    else ok s

/-- The exchange a round keeps: least rtt, then lower INDEX. -/
def bestExchange : List Exchange → Option Exchange
  | [] => none
  | e :: es => match bestExchange es with
    | some b => if b.rtt < e.rtt ∨ (b.rtt = e.rtt ∧ b.idx < e.idx) then some b else some e
    | none => some e

/-- The `k` exchanges of least rtt. -/
def leastExchanges : Nat → List Exchange → List Exchange
  | 0, _ => []
  | k + 1, es => match bestExchange es with
    | some b => b :: leastExchanges k (removeFirst (fun e => e == b) es)
    | none => []

/-- Division rounded to the nearest, halves upward (R116: round). -/
def roundDiv (a b : Int) : Int := if b = 0 then 0 else Int.fdiv (2 * a + b) (2 * b)

/-- Words of an offset-table entry (R119). -/
def State.offEnt (s : State) (e w : Nat) : Nat := s.rdN (R.OFFSET_ENT e w)

def State.offStatus (s : State) (e : Nat) : Nat := bitsOf (s.offEnt e 0) 24 3

/-- Entries not EMPTY (GATHER_STAT.NENT). -/
def showNent (s : State) : State :=
  s.fs F.GATHER_STAT_NENT ((List.range 256).filter (fun e => s.offStatus e != 0)).length

/-- A peer's entry becomes NO_REPLY (R115, R118): what the spec keeps of it, and SPREAD too (log entry 111), stays. -/
def noReply (asym : Bool) (p : GatherPeer) (s : State) : State :=
  let e := p.ent
  let s := s.wrN (R.OFFSET_ENT e 0) (p.node + 2 ^ 24 * 3 + (if asym then 2 ^ 28 else 0))
  s.wrN (R.OFFSET_ENT e 7) (s.offEnt e 7 % 65536 + 2 ^ 16 * p.got.length + 2 ^ 24 * s.fg F.GATHER_STAT_GEN)

/-- Write a peer's entry at a round's end (R115, R116, R118), RTT_MIN modulo 2^32 (log entry 111). `first` is the first round of a GATHER. -/
def writeEntry (first asym : Bool) (p : GatherPeer) (s : State) : State :=
  let e := p.ent
  let old := s.offEnt e 0
  let gen := s.fg F.GATHER_STAT_GEN
  let pert := if asym then 2 ^ 28 else 0
  match bestExchange p.got with
  | none => noReply asym p s
  | some b =>
    let n := p.got.length
    let tref := intField 64 ((b.t1 : Int) + Int.fdiv ((b.t4 : Int) - b.t1) 2)
    let least := (leastExchanges 4 p.got).map (·.off2)
    let hi := least.foldl max (least.headD 0)
    let lo := least.foldl min (least.headD 0)
    let spread := if n < 4 then 0xFFFF else min ((hi - lo + 1) / 2).toNat 0xFFFF
    let oldOff := signedOf 64 (s.offEnt e 2 + 2 ^ 32 * s.offEnt e 3)
    let oldRef : Nat := s.offEnt e 4 + 2 ^ 32 * s.offEnt e 5
    let had := bitsOf old 24 3 == 1 || bitsOf old 24 3 == 2
    let rateOk := !first && had
    let rate := if rateOk then intField 32 (roundDiv ((b.off2 - oldOff) * 2 ^ 31) ((tref : Int) - oldRef)) else s.offEnt e 6
    s.wrWords (R.OFFSET_ENT e 0)
      [p.node + 2 ^ 24 * ((if n < 4 then 2 else 1) + (if rateOk then 8 else 0)) + pert, intField 32 b.rtt,
       intField 64 b.off2 % 2 ^ 32, intField 64 b.off2 >>> 32, tref % 2 ^ 32, (tref >>> 32) % 2 ^ 32, rate,
       spread + 2 ^ 16 * n + 2 ^ 24 * gen]

def State.gatherAsym (s : State) : Bool := s.fb F.SEC_CTL_TEST_EN && s.fb F.PTB_CTL_GATHER_EN

/-- Entries of the gather by STATUS. -/
def countStatus (st : Nat) (s : State) : Nat := (s.gather.peers.filter (fun p => s.offStatus p.ent == st)).length

/-- End a GATHER or a periodic round (R116, R118, R430): GEN advances, GATHER_DONE is posted, the command completes. No
register or binding of the spec names GATHER_DONE's ring: it is a free value. -/
def endGather (timeout : Bool) (s : State) : State :=
  let g := s.gather
  let periodic := g.round == some 0
  let s := s.fs F.GATHER_STAT_GEN ((s.fg F.GATHER_STAT_GEN + 1) % 256)
  let s := s.fs F.GATHER_STAT_BUSY 0
  let v := countStatus 1 s
  let f := countStatus 2 s
  let n := countStatus 3 s
  let gen := s.fg F.GATHER_STAT_GEN
  let (ring, s) := s.free
  let s := postEvent (ring % 64) ⟨7, gen + 256 * b2n periodic, s.ts, v + 2 ^ 16 * f + 2 ^ 32 * n, none⟩ s
  let s := modGather (fun g => { g with round := none, between := false, open_ := [], cmd := none }) s
  match g.cmd with
  | some k => completeCmd k (if timeout then 0x06 else if f + n = 0 then 0 else 0x01) (gen + 2 ^ 8 * v + 2 ^ 17 * n) s
  | none => s

/-- Every exchange of a round is over: all sent, each answered or past 50,000 ns. -/
def GatherState.isOver (g : GatherState) (ts : Nat) : Bool :=
  g.round.isSome && decide (g.sent ≥ 16 * g.peers.length) && g.open_.all (fun o => decide (o.2.2 + 50000 < ts))

/-- A peer's exchanges of a round are over: all sent, each answered or past 50,000 ns. -/
def GatherState.peerOver (g : GatherState) (ts : Nat) (p : GatherPeer) : Bool :=
  decide (15 * g.peers.length + ((g.peers.map (·.ent)).findIdx (· == p.ent)) < g.sent) &&
    g.open_.all (fun o => o.1 != p.ent || decide (o.2.2 + 50000 < ts))

/-- GATHER_BUDGET passes (R118): an entry whose second round is over keeps its result, an unfinished one becomes NO_REPLY, SERVICE_DEADLINE
is raised, the command ends with TIMEOUT. -/
def gatherMissed (s : State) : State :=
  let g := s.gather
  let s := g.peers.foldl (fun s p =>
    if g.round == some 2 && g.peerOver s.ts p then writeEntry false s.gatherAsym p s else noReply s.gatherAsym p s) s
  endGather true (serviceMiss 1 g.began (showNent s))

/-- The budget of the GATHER that runs has passed (R110). -/
def State.gatherLate (s : State) : Bool :=
  s.gather.cmd.isSome && s.fb F.GATHER_STAT_BUSY && s.past (s.gather.began + s.gather.budget)

/-- A round ends: its entries are written; after a GATHER's second round, or a periodic round, the gather ends. An end that comes after
the budget comes late (R110). -/
def execGatherRoundEnd (s : State) : Outcome State Fault Refusal := s.act fun s =>
  let g := s.gather
  if !g.isOver s.ts then ok s
  else if s.gatherLate then ok (gatherMissed s)
  else
    let s := g.peers.foldl (fun s p => writeEntry (g.round == some 1) s.gatherAsym p s) s
    let s := showNent s
    if g.round = some 1 then ok (modGather (fun g => { g with round := none, between := true, open_ := [] }) s)
    else ok (endGather false s)

/-- The second round begins 10,000,000 ns after the first (R116). -/
def execGatherSecondRound (s : State) : Outcome State Fault Refusal := s.awake fun s =>
  let g := s.gather
  if s.coreUp 1 && g.between && g.round.isNone && decide (g.start + 10000000 ≤ s.ts) then
    ok (beginRound 2 (g.peers.map (fun p => (p.node, p.ent))) s)
  else ok s

/-- A periodic round with every VALID or FEW entry (R116); with none, no round (log entry 111). -/
def execGatherPeriodicRound (s : State) : Outcome State Fault Refusal := s.awake fun s =>
  let per := s.fg F.GATHER_CTL_PERIOD
  if !s.coreUp 1 || per = 0 || s.fb F.GATHER_STAT_BUSY || !s.fb F.TIME_STAT_RUN || decide (s.ts < s.gather.last + per * 1000000000) then ok s
  else
    let es := (List.range 256).filter (fun e => s.offStatus e == 1 || s.offStatus e == 2)
    if es.isEmpty then ok (modGather (fun g => { g with last := s.ts }) s)
    else
      let s := modGather (fun g => { g with cmd := none, began := s.ts }) (s.fs F.GATHER_STAT_BUSY 1)
      ok (beginRound 0 (es.map (fun e => (s.offEnt e 0 % 2 ^ 24, e))) s)

/-- GATHER_BUDGET, where it has passed. -/
def execGatherTimeout (s : State) : Outcome State Fault Refusal := s.act fun s => ok (s.when s.gatherLate gatherMissed)

end Sys2Proof.Machine
end

