-- ==== Sys2Proof/Machine/Shear.lean ====
section
/-! DEFINITION. The shear tree (chapter 6): requests, cuts and their commit, what a station does at a cut tick, resume,
self-test, locking and the register and carrier triggers. CUT_TICK itself stands in Cuts, after the services it moves on. -/

namespace Sys2Proof.Machine

open Host (Outcome)

def modShear (f : ShearState → ShearState) (s : State) : State := { s with shear := f s.shear }

/-! ### Decision and commit (R125, R130, R131, R136) -/

def strongerCls (a b : Nat) : Nat := if clsStrength a ≥ clsStrength b then a else b

/-- The class a request stands for: a STOP is SHEAR_CTL.STOP_CLASS's (R134). -/
def State.reqClass (s : State) (c : Nat) : Nat := if c = clsStop then (if s.fb F.SHEAR_CTL_STOP_CLASS then 2 else 1) else c

/-- Root decisions and central requests among requests decided in one cycle (R125): one for each wire with a run. -/
def decisionCount (rs : List CutReq) : Nat :=
  b2n (rs.any (fun r => r.src == 0 && r.cls == clsStop)) + b2n (rs.any (fun r => r.src == 0 && r.cls != clsStop)) +
    (rs.filter (fun r => r.src != 0)).length

/-- Source bits of a list of requests, as SHEAR_LAST has them from bit 4. -/
def sourceBits (rs : List CutReq) : Nat := (List.range 6).foldl (fun v i => if rs.any (fun r => r.src == i) then v + 2 ^ i else v) 0

/-- SHEAR_STAT.OPEN follows the open cuts. -/
def showOpen (s : State) : State := s.fs F.SHEAR_STAT_OPEN (b2n (!s.shear.cuts.isEmpty))

/-- Requests decided in cycle `d` join the open cut whose commit is `d` or later, or open a cut with n = d − E − 4 (R131,
R136). -/
def decideRequests (d : Nat) (rs : List CutReq) (s : State) : State :=
  let cls := rs.foldl (fun c r => strongerCls c (s.reqClass r.cls)) (match rs with | r :: _ => s.reqClass r.cls | [] => 0)
  let bits := sourceBits rs
  let k := decisionCount rs
  let whos := (rs.map (·.who)).filter (fun w => w != .none)
  if s.shear.cuts.any (fun c => !c.committed && decide (d ≤ c.commit)) then
    let join (c : Cut) : Cut :=
      { c with cls := strongerCls c.cls cls, srcs := c.srcs ||| bits, joined := min (c.joined + k) 255, who := c.who ++ whos }
    modShear (fun h => { h with cuts := replaceFirst (fun c => !c.committed && decide (d ≤ c.commit)) join h.cuts }) s
  else
    let n := d - s.shE - 4
    showOpen (modShear (fun h => { h with cuts := h.cuts ++
      [{ n := n, commit := d + s.shW, tick := n + s.shH, cls := cls, srcs := bits, joined := min (k - 1) 255, who := whos }] }) s)

/-- The earliest decision cycle among the requests that has come. -/
def dueDecision (s : State) : Option Nat :=
  match s.shear.reqs.filter (fun r => decide (r.d ≤ s.spineCyc)) with
  | [] => none
  | r :: rs => some ((rs.map (·.d)).foldl min r.d)

def execShearRequestDecided (s : State) : Outcome State Fault Refusal := s.act fun s =>
  match dueDecision s with
  | none => ok s
  | some d =>
    if s.shear.cuts.any (fun c => !c.committed && decide (c.commit < d)) then ok s
    else
      let rs := s.shear.reqs.filter (fun r => r.d == d)
      ok (decideRequests d rs (modShear (fun h => { h with reqs := h.reqs.filter (fun r => r.d != d) }) s))

/-- Note a downward symbol that the root begins in spine cycle `c`. -/
def noteSymbol (c sym : Nat) (h : ShearState) : ShearState :=
  { h with symbols := (h.symbols ++ [(c, sym)]).drop (h.symbols.length + 1 - 16) }

/-- The commit: the class is fixed and the symbol starts 4 cycles later (R131). Requests decided up to the commit cycle join first (R136). -/
def execShearCommit (s : State) : Outcome State Fault Refusal := s.act fun s =>
  match s.shear.cuts.find? (fun c => !c.committed) with
  | none => ok s
  | some c =>
    if s.spineCyc < c.commit || s.shear.reqs.any (fun r => decide (r.d ≤ c.commit)) then ok s
    else
      ok (modShear (fun h => noteSymbol (c.commit + 4) c.cls { h with
        cuts := replaceFirst (fun c => !c.committed) (fun c => { c with committed := true }) h.cuts }) s)

/-! ### A station at a cut tick (R132, R137 to R139, R155, R157, R186) -/

/-- Rank of an SH_CMD code (R39, R139): FREEZE 3, DRAIN 2, RUN_ON 1. -/
def shRank (code : Nat) : Nat := if code = 1 then 3 else if code = 2 then 2 else if code = 3 then 1 else 0

/-- The response of a port to a class (R138), as a rank; 0 leaves the package state. -/
def mapResponse (cls ty gresp : Nat) : Nat :=
  if cls = 1 then
    (if ty = 0 || ty = 1 then 3 else if ty = 2 || ty = 3 then 1 else if ty = 4 then 2 else if ty = 5 then shRank gresp else 0)
  else if cls = 2 then
    (if ty = 0 || ty = 4 then 2 else if ty = 1 || ty = 2 || ty = 3 then 1
     else if ty = 5 then (if gresp = 3 then 1 else 2) else 0)
  else if cls = 3 then (if ty ≤ 5 then 1 else 0)
  else 0

/-- TS a station's accumulator holds in a CNCLK cycle. -/
def State.stnTsAt (s : State) (n cyc : Nat) : Nat :=
  let x := s.stn n
  if x.accRuns then
    ((x.acc + s.rd64 (R.STN_TS_INC_LO n) (R.STN_TS_INC_HI n) * ((cyc - x.accCyc) / 2)) >>> 32) % 2 ^ 64
  else 0

/-- A programmable counter as the cut copy takes it (R182, R186): its value at the end of the cycle before the tick. Where a BEGIN of that
cycle reset it, the finished command's value with SAMPLED_AT_BOUNDARY, bit 48; a BEGIN of the tick's own cycle comes after the sample. -/
def State.pcCut (s : State) (n i : Nat) : Nat :=
  match mget? (s.stn n).boundary i with
  | some (c, v) => if c + 1 = s.clk.cyc then v + 2 ^ 48 else if c = s.clk.cyc then v else s.pcVal n i
  | none => s.pcVal n i

/-- The cut copy of a station's counters: always-on counter k of port p at 8 p + k, programmable counter i at 128 + i. -/
def cutCopy (n : Nat) (s : State) : SMap Nat :=
  ((List.range 128).map (fun j => (j, s.aoVal (16 * n + j / 8) (j % 8)))) ++ ((List.range 16).map (fun i => (128 + i, s.pcCut n i)))

/-- Log entries after the matched one, saturating at 7 (R157). -/
def laterOf (log : List (Nat × Nat)) (hit : Option Nat) : Nat :=
  match hit with
  | some t => min 7 (log.filter (fun e => decide (t < e.1))).length
  | none => 0

/-- What a station does in the cycle in which it acts on a cut: strobe, restart of a group read, cut copy, package states,
the cut tick of the faults whose window holds it. -/
def stationTick (n cls tick : Nat) (s : State) : State :=
  let ts := s.stnTsAt n (s.spine.startCyc + tick)
  let x := s.stn n
  let off := (List.range 16).foldl (fun m p => if (x.port p).on then m else m + 2 ^ p) 0
  let strobes := (x.strobes ++ [(ts, off)]).drop (x.strobes.length + 1 - 8)
  let reading := match x.readout with | some r => r.reading | none => false
  let x := { x with
    strobes := strobes, cutTs := ts, cutCtr := cutCopy n s
    readout := (if reading then x.readout.map (fun r => { r with restarts := r.restarts + 1, later := laterOf strobes r.hit })
                else x.readout)
    faults := x.faults.map (fun f => match f.wait with
      | some (a, b) => if f.r.cutTs = 0 && decide (a ≤ tick) && decide (tick ≤ b) then { f with r := { f.r with cutTs := ts } } else f
      | none => f)
    ovf := x.ovf.map (fun f => match f.wait with
      | some (a, b) => if f.r.cutTs = 0 && decide (a ≤ tick) && decide (tick ≤ b) then { f with r := { f.r with cutTs := ts } } else f
      | none => f) }
  let s := setStn n x s
  let s := (s.fs (F.STN_CUL_STAT_LOG n) strobes.length).fs (F.STN_CTR_STAT_CUT_VALID n) 1
  let s := if reading then s.fsat (F.STN_CUL_RESTART_RESTARTS n) 1 else s
  withHolds n (fun s => (List.range 16).foldl (fun s p =>
    let u := 16 * n + p
    let q := s.port u
    if q.on && !q.rst then setPort u { q with pkg := max q.pkg (mapResponse cls q.ty (s.portImage u).gresp) } s else s) s) s

/-- Stations that act at the package's tick: locked, without SKEW (R132, R148), in no isolated branch (R149). -/
def State.actors (s : State) : List Nat :=
  (s.slot.stns.map (·.1)).filter (fun n => s.fb (F.STN_SH_STAT_LOCKED n) && !s.fb (F.STN_SH_STAT_SKEW n) && !(s.rib (n / 64)).subst)

/-- A port held in terminal FREEZE (R141, R142). -/
def State.terminal (s : State) (u : Nat) : Bool :=
  let p := s.port u
  p.pkg == 3 && (p.ty == 0 || (p.ty == 5 && !(s.portImage u).resumable))

/-- Every package state of a station becomes NONE but that of a port in terminal FREEZE (R142, R150). -/
def releasePkg (n : Nat) (s : State) : State :=
  withHolds n (fun s => (List.range 16).foldl (fun s p =>
    if s.terminal (16 * n + p) then s else modPort (16 * n + p) (fun q => { q with pkg := 0 }) s) s) s

/-- The first committed cut whose tick has come. -/
def dueCut (s : State) : Option Cut := s.shear.cuts.find? (fun c => c.committed && decide (c.tick ≤ s.spineCyc))

/-- The tick of a cut at the stations and in the central registers (R133, R151, R168): SHEAR_TICK, SHEAR_LAST, SHEAR_COUNT,
the tick log, the CUT comparators. -/
def tickCut (c : Cut) (s : State) : State :=
  let ts := s.tsOfSpine c.tick
  let log : TickLog := { ts := ts, cyc := s.spine.startCyc + c.tick, start := s.tsOfSpine (c.tick - s.shH), cls := c.cls, count := (s.fg F.SHEAR_COUNT_CUTS + 1) % 2 ^ 32, perturbed := s.perturbed,
                         skewed := s.fb F.SHEAR_STAT_SKEWED, transit := s.rdN R.CULLET_TRANSIT }
  let s := s.actors.foldl (fun s n => stationTick n c.cls c.tick s) s
  let s := modShear (fun h => { h with cuts := removeFirst (fun d => d == c) h.cuts
                                       ticks := (h.ticks ++ [log]).drop (h.ticks.length + 1 - 64) }) s
  let s := showOpen (s.wr64 R.SHEAR_TICK_LO R.SHEAR_TICK_HI ts)
  let s := s.wrN R.SHEAR_LAST (c.cls + 16 * c.srcs + 2 ^ 16 * c.joined)
  let s := s.fs F.SHEAR_COUNT_CUTS log.count
  centralHits 6 (fun _ => true) s

/-! ### RESUME (R142) -/

/-- Cycles of the symbols a RESUME keeps away from: every cut command and RESUME, but no TEST (R142). -/
def State.symbolCycles (s : State) : List Nat :=
  (s.shear.symbols.filter (fun y => y.2 != 5)).map (·.1) ++ ((s.shear.cuts.filter (fun c => !c.committed)).map (fun c => c.commit + 4)) ++
    ((s.shear.resumes.filter (·.driven)).map (·.issue))

def clearOf (c : Nat) (l : List Nat) : Bool := l.all (fun x => decide (x + 6 ≤ c) || decide (c + 6 ≤ x))

/-- The first even cycle from `c` that keeps 6 cycles from every listed symbol. -/
def firstClear : Nat → Nat → List Nat → Nat
  | 0, c, _ => c
  | fuel + 1, c, l => if clearOf c l then c else firstClear fuel (c + 2) l

/-- Register a RESUME at the central hub (R130, R142). -/
def registerResume (cmd : Option CmdKey) (s : State) : State :=
  let n := s.regCycle s.spineCyc
  modShear (fun h => { h with resumes := h.resumes ++ [{ issue := n + s.shH - s.shE - 4, cmd := cmd }] }) s

def execResumeIssue (s : State) : Outcome State Fault Refusal := s.act fun s =>
  match s.shear.resumes.find? (fun r => !r.driven) with
  | none => ok s
  | some r =>
    let l := s.symbolCycles
    let c := firstClear (6 * l.length + 6) r.issue l
    if c ≤ s.spineCyc then
      let drive (r : ResumeReq) : ResumeReq := { r with issue := c, driven := true }
      ok (modShear (fun h => { h with resumes := replaceFirst (fun r => !r.driven) drive h.resumes }) s)
    else ok s

def execResumeTick (s : State) : Outcome State Fault Refusal := s.act fun s =>
  match s.shear.resumes.find? (fun r => r.driven && decide (r.issue + s.shE + 4 ≤ s.spineCyc)) with
  | none => ok s
  | some r =>
    let ts := s.tsOfSpine (r.issue + s.shE + 4)
    let s := s.actors.foldl (fun s n => releasePkg n s) s
    let s := modShear (fun h => noteSymbol r.issue 4 { h with resumes := removeFirst (fun q => q == r) h.resumes }) s
    let s := s.wr64 R.SHEAR_RESUME_LO R.SHEAR_RESUME_HI ts
    match r.cmd with
    | some k => ok (completeTick k 0 ts s)
    | none => ok s

/-! ### Self-test (R147, R148) -/

/-- A failure of frame `f` is counted once in SHEAR_ERR.TEST_FAIL. -/
def countTestFail (f : Nat) (s : State) : State :=
  if mget? s.shear.failFrames 8 = some f then s
  else modShear (fun h => { h with failFrames := mput h.failFrames 8 f }) (s.fsat F.SHEAR_ERR_TEST_FAIL 1)

/-- The first failure of a cause in a window of 16 frames raises the fault (R148). -/
def testFailure (key f : Nat) (raise_ : State → State) (s : State) : State :=
  let s := countTestFail f s
  let inWin := match mget? s.shear.failFrames key with | some f0 => decide (f < f0 + 16) | none => false
  if inWin then s else raise_ (modShear (fun h => { h with failFrames := mput h.failFrames key f }) s)

/-- A station forms a record that names no unit (R148). -/
def formStnFault (n code d0 d1 d2 : Nat) (s : State) : State :=
  placeFault n ⟨{ code := code, ts := s.stnTs n, flags := (if s.stnPert n then flPerturbed else 0), detail0 := d0, detail1 := d1,
                  detail2 := d2 }, 0, none⟩ s

/-- A self-test failure at a station: row 0 or 1 of R148's table. -/
def stationTestFailure (n row : Nat) (s : State) : State :=
  testFailure (16 + 4 * n + row) s.frameNow (formStnFault n cShearSelftest 0 (n + 2 ^ 11 * row) 0) s

/-- A self-test failure at the root: row 2 names the station whose turn it was, row 3 the root. -/
def rootTestFailure (row stn : Nat) (s : State) : State :=
  testFailure row s.frameNow (centralFault cShearSelftest 0 none 0 (stn + 2 ^ 11 * row) 0) (s.fs F.SHEAR_STAT_UP_FAIL 1)

/-- The root sends the frame's TEST at 512 f + 256, or skips it near another symbol (R147). -/
def execSelftestTestSend (s : State) : Outcome State Fault Refusal := s.act fun s =>
  let f := s.frameNow
  let b := 512 * f + 256
  if !s.fb F.SHEAR_STAT_ENABLED || !s.spine.running || s.spineCyc < b || f < s.shear.testNext then ok s
  else
    let fixed := s.shear.resumes.map (fun r =>
      if r.driven then r.issue else firstClear (6 * s.symbolCycles.length + 6) r.issue s.symbolCycles)
    let near := !clearOf b ((s.shear.symbols.filter (fun y => y.2 != 5)).map (·.1) ++ ((s.shear.cuts.filter (·.committed)).map (fun c => c.commit + 4)) ++ fixed)
    let s := modShear (fun h => { h with testNext := f + 1, replied := none, testFrame := (if near then none else some f) }) s
    let s := s.when (!near) (modShear (noteSymbol b 5))
    ok (if near then s.fsat F.SHEAR_ERR_SKIPPED 1 else s)

/-- The station whose ID is f mod 1,024 sends the reply it registered at b + E + 4. -/
def execSelftestReply (stn : Nat) (s : State) : Outcome State Fault Refusal := s.act fun s =>
  match s.shear.testFrame with
  | none => ok s
  | some f =>
    if f % 1024 = stn && s.populated stn && s.fb (F.STN_SH_STAT_LOCKED stn) && decide (512 * f + 256 + s.shE + 4 ≤ s.spineCyc) then
      ok (modShear (fun h => { h with replied := some stn }) s)
    else ok s

/-- The root checks cycles b + 2E + 4 and b + 2E + 5; `wrong` is a reply seen at other cycles. A request run over them
skips the upward check of a frame in which a reply is expected. -/
def execSelftestRootCheck (wrong : Bool) (s : State) : Outcome State Fault Refusal := s.act fun s =>
  match s.shear.testFrame with
  | none => ok s
  | some f =>
    let c := 512 * f + 256 + 2 * s.shE + 4
    if s.spineCyc < c + 2 || !s.fb F.SHEAR_STAT_LOCKED then ok s
    else
      let stn := f % 1024
      let covered := s.shear.runs.any (fun r => decide (r.n + s.shE ≤ c + 1) && decide (c ≤ r.n + s.shE + 3))
      let expected := s.populated stn && !s.ribDegraded (stn / 64) && !(s.rib (stn / 64)).subst
      let replied := s.shear.replied
      let s := modShear (fun h => { h with testFrame := none, replied := none }) s
      if expected && covered then ok (s.fsat F.SHEAR_ERR_SKIPPED 1)
      else if expected && (wrong || replied != some stn) then ok (rootTestFailure 2 stn s)
      else ok s

/-- An inverted cycle upward outside every run and the expected reply (R125, R148). -/
def execUpwardDecodeError (s : State) : Outcome State Fault Refusal := s.act fun s =>
  if s.fb F.SHEAR_STAT_LOCKED then ok (rootTestFailure 3 0 (s.fsat F.SHEAR_ERR_DEC_ERR 1)) else ok s

/-! ### Symbols at a station (R126, R127) -/

/-- Wire B of a symbol, bit k in its cycle k, 1 where inverted (R126): LATCH, FREEZE, DRAIN, RUN_ON, RESUME, TEST. -/
def symbolB (sym : Nat) : Nat :=
  if sym = 1 then 15 else if sym = 2 then 3 else if sym = 3 then 12 else if sym = 4 then 9 else if sym = 5 then 6 else 0

/-- The symbol that two wires spell (R126): `a` holds wire A in the cycle before and in 4 cycles, `b` wire B in those 4, 1 where inverted. A
must be inverted in the 4 cycles alone and B match a row of the table; anything else, a stuck wire's pattern too, is a decode error (R127). -/
def decodeSymbol (a b : Nat) : Option Nat := if a = 30 then (List.range 6).find? (fun k => symbolB k == b) else none

/-- The cycle, in its frame, in which a station decodes the frame's TEST (R147): b + e(s) + 4. -/
def State.testCycle (s : State) (n : Nat) : Nat := 256 + s.stages n + 4

/-- What a station does when the cycle of a noted action has come. No symbol acts in an isolated branch (R149). -/
def runAct (n : Nat) (a : StnAct) (s : State) : State :=
  match a with
  | .ackPend p =>
    let q := (s.stn n).port p
    if q.shCmd = 0 || q.ack then s
    else s.fs (F.STN_SH_STAT_ACK_PEND n) (setBit (s.fg (F.STN_SH_STAT_ACK_PEND n)) p true)
  | .drain p => withHolds n (modPort (16 * n + p) (fun q => { q with bpDrain := true })) s
  | .tileEnd p q aborted => endTiles n (fun t => t.port == p && t.queue == q) aborted false s
  | .cut cls => if (s.rib (n / 64)).subst then s else stationTick n cls s.spineCyc s
  | .resume => if (s.rib (n / 64)).subst then s else releasePkg n s

/-- Take a station's noted actions whose cycle has come, in their order. -/
def runActs (n : Nat) (s : State) : State :=
  let due := (s.stn n).acts.filter (fun a => decide (a.1 ≤ s.clk.cyc))
  let s := modStn n (fun x => { x with acts := x.acts.filter (fun a => !decide (a.1 ≤ s.clk.cyc)) }) s
  due.foldl (fun s a => runAct n a.2 s) s

/-- An action `d` cycles from now; in this cycle where `d` is 0. -/
def actIn (n d : Nat) (a : StnAct) (s : State) : State := if d = 0 then runAct n a s else addAct n (s.clk.cyc + d) a s

/-- A station's receiver judges 4 cycles of its wires in the cycle after them (R126). A TEST in another cycle than expected, and a decode
error, are failures of the self-test (R148). A station with SKEW acts at its own decode cycle plus SHCOMP (R148); every other station's action
is CUT_TICK's or RESUME_TICK's (R133). No symbol acts in an isolated branch (R149). -/
def execStationShearDecode (stn a b : Nat) (s : State) : Outcome State Fault Refusal := s.act fun s =>
  if !s.fb (F.STN_SH_STAT_LOCKED stn) || (s.rib (stn / 64)).subst then ok s
  else match decodeSymbol a b with
    | none => ok (stationTestFailure stn 1 (s.fs (F.STN_SH_STAT_DEC_ERR stn) 1))
    | some sym =>
      if sym = 5 then
        if s.spineCyc % 512 = s.testCycle stn % 512 then ok s
        else ok (stationTestFailure stn 0 ((s.fs (F.STN_SH_STAT_SKEW stn) 1).fs F.SHEAR_STAT_SKEWED 1))
      else if !s.fb (F.STN_SH_STAT_SKEW stn) then ok s
      else ok (actIn stn (s.shcomp stn) (if sym = 4 then .resume else .cut sym) s)

/-! ### Locking and enabling (R124, R135) -/

/-- The last 64 cycles of a station's downward pair are idle, as far as the root's symbols go (R124). -/
def State.idleDown (s : State) (n : Nat) : Bool :=
  s.shear.symbols.all (fun y => decide (y.1 + s.stages n + 68 ≤ s.spineCyc) || decide (s.spineCyc ≤ y.1 + s.stages n))

/-- The last 64 cycles of the root's upward pair are idle, as far as the stations' runs go (R124). -/
def State.idleUp (s : State) : Bool :=
  s.shear.runs.all (fun r => decide (r.n + s.shE + 68 ≤ s.spineCyc) || decide (s.spineCyc ≤ r.n + s.shE))

/-- A receiver has seen 64 consecutive idle cycles (R124). A station's receiver locks after the hub's STN_SH_CFG write. -/
def execReceiverLock (root : Bool) (stn : Nat) (s : State) : Outcome State Fault Refusal := s.act fun s =>
  if !s.fb F.SHEAR_STAT_ENABLED then ok s
  else if root then ok (if s.idleUp then s.fs F.SHEAR_STAT_LOCKED 1 else s)
  else if s.populated stn && s.fb (F.STN_SH_CFG_VALID stn) && s.idleDown stn then ok (s.fs (F.STN_SH_STAT_LOCKED stn) 1)
  else ok s

/-- Commands that wait on a list of who. -/
def whoCmds (l : List CutWho) : List CmdKey :=
  l.filterMap (fun w => match w with | .command k _ _ _ => some k | .ledger k _ => some k | _ => none)

/-- SHEAR_CTL.ENABLE set (R135): ignored until SLOT_STAT.LIVE is 1. -/
def shearEnable (s : State) : State :=
  if s.fb F.SLOT_STAT_LIVE then (s.fs F.SHEAR_CTL_ENABLE 1).fs F.SHEAR_STAT_ENABLED 1 else s

/-- SHEAR_CTL.ENABLE cleared (R124, R135, R151): triggers stop and every lock is cleared; what had not committed makes no
cut, and the commands that wait for it end BUSY. -/
def shearDisable (s : State) : State :=
  let ks := whoCmds ((s.shear.reqs.map (·.who)) ++ (s.shear.cuts.filter (fun c => !c.committed)).flatMap (·.who)) ++
    s.shear.resumes.filterMap (·.cmd) ++ s.shear.cutAts.map (·.cmd) ++
    whoCmds ((s.shear.cuts.filter (·.committed)).flatMap (·.who))
  let s := ((s.fs F.SHEAR_CTL_ENABLE 0).fs F.SHEAR_STAT_ENABLED 0).fs F.SHEAR_STAT_LOCKED 0
  let s := (s.slot.stns.map (·.1)).foldl (fun s n => s.fs (F.STN_SH_STAT_LOCKED n) 0) s
  let s := modShear (fun h => { h with reqs := [], cuts := [], resumes := [], cutAts := [], testFrame := none, replied := none }) s
  let s := { s with cont := { s.cont with
    rcd := s.cont.rcd.filter (fun (j : RecordJob) => !ks.contains j.cmd)
    chk := s.cont.chk.filter (fun (j : CheckJob) => !ks.contains j.cmd) } }
  let s := (s.fs F.CONT_STAT_REC_BUSY (b2n s.cont.rcd.isSome)).fs F.CONT_STAT_CHK_BUSY (b2n s.cont.chk.isSome)
  ks.foldl (fun s k => completeCmd k 0x05 0 s) (showOpen s)

def execShearEnable (id : Nat) (s : State) : Outcome State Fault Refusal := s.act fun s =>
  ok (s.gate id R.SHEAR_CTL .operator shearEnable)

def execShearDisable (id : Nat) (s : State) : Outcome State Fault Refusal := s.act fun s =>
  ok (s.gate id R.SHEAR_CTL .operator shearDisable)

/-! ### Register and carrier triggers (R134, R151) -/

/-- A central trigger of a class now, while the tree takes triggers. -/
def triggerNow (cls src : Nat) (who : CutWho) (s : State) : State :=
  if s.treeOn then centralTrigger s.spineCyc cls src who s else s

/-- A write of SHEAR_TRIG.OP (R151): 0 to 3 a trigger of that class, 4 a RESUME, 5 to 7 nothing. -/
def shearTrig (op : Nat) (s : State) : State :=
  if op ≤ 3 then triggerNow op 4 .none s
  else if op = 4 && s.treeOn then registerResume none s
  else s

def execShearTrigLatch (id : Nat) (s : State) : Outcome State Fault Refusal := s.act fun s =>
  ok (s.gate id R.SHEAR_TRIG .operator (shearTrig 0))

def execShearTrigFreeze (id : Nat) (s : State) : Outcome State Fault Refusal := s.act fun s =>
  ok (s.gate id R.SHEAR_TRIG .operator (shearTrig 1))

def execShearTrigDrain (id : Nat) (s : State) : Outcome State Fault Refusal := s.act fun s =>
  ok (s.gate id R.SHEAR_TRIG .operator (shearTrig 2))

def execShearTrigRunOn (id : Nat) (s : State) : Outcome State Fault Refusal := s.act fun s =>
  ok (s.gate id R.SHEAR_TRIG .operator (shearTrig 3))

def execShearTrigResume (id : Nat) (s : State) : Outcome State Fault Refusal := s.act fun s =>
  ok (s.gate id R.SHEAR_TRIG .operator (shearTrig 4))

/-- The carrier's pair has held 1 and 0 for 4 cycles; `sampled` says whether they were 0 and 1 in the cycle before those. That cycle must
have been sampled since EXT_EN last became 1 or HUB_COLD_N was released (R134). -/
def execCarrierShearRequest (sampled : Bool) (s : State) : Outcome State Fault Refusal := s.act fun s =>
  let s := { s with pins := { s.pins with carReq := true, carReqN := false } }
  if s.fb F.SHEAR_CTL_EXT_EN && sampled && decide (s.pins.carFrom + 5 ≤ s.clk.cyc) then
    ok (triggerNow (if s.fb F.SHEAR_CTL_EXT_CLASS then clsStop else 0) 5 .none s)
  else ok s

/-- The pair has held equal values for 4 cycles. -/
def execCarrierShearPairError (level : Bool) (s : State) : Outcome State Fault Refusal := s.act fun s =>
  let s := { s with pins := { s.pins with carReq := level, carReqN := level } }
  ok (if s.fb F.SHEAR_CTL_EXT_EN then s.fs F.SHEAR_STAT_EXT_ERR 1 else s)

/-- Pending CUT_ATs whose trigger cycle X − H has come register their central triggers (R145). -/
def execCutAtTrigger (s : State) : Outcome State Fault Refusal := s.act fun s =>
  let due := s.shear.cutAts.filter (fun c => decide (c.x ≤ s.spineCyc + s.shH))
  let s := modShear (fun h => { h with cutAts := h.cutAts.filter (fun c => !decide (c.x ≤ s.spineCyc + s.shH)) }) s
  ok (due.foldl (fun s c =>
    if s.treeOn then
      let n := c.x - s.shH
      addRequest { n := n, d := n + s.shE + 4, cls := c.cls, src := 2, last := n + 3, who := .command c.cmd c.read 0x3F false } s
    else completeCmd c.cmd 0x05 0 s) s)

end Sys2Proof.Machine
end

