-- ==== Sys2Proof/Machine/Zrw.lean ====
section
/-! DEFINITION. The ZRW encoder and decoder (R328, R329) on lists of 64-bit words. -/

namespace Sys2Proof.Machine

/-- One item: its code and its operand word, where it has one. -/
structure ZrwItem where
  code : Nat
  operand : Option Nat := none
  deriving DecidableEq, Repr

/-- Leading words equal to `v`. -/
def leadCount (v : Nat) : List Nat → Nat
  | [] => 0
  | w :: ws => if w = v then 1 + leadCount v ws else 0

/-- The items of a word list (R329), from the preceding word. `fuel` bounds the items. -/
def zrwItems : Nat → Nat → List Nat → List ZrwItem
  | 0, _, _ => []
  | _, _, [] => []
  | fuel + 1, prev, w :: ws =>
    let z := min (leadCount 0 (w :: ws)) 0xFFFFFFFF
    let q := min (leadCount prev (w :: ws)) 0xFFFFFFFF
    if 33 ≤ z then ⟨3, some z⟩ :: zrwItems fuel 0 ((w :: ws).drop z)
    else if prev ≠ 0 ∧ 33 ≤ q then ⟨3, some (q + 2 ^ 32)⟩ :: zrwItems fuel prev ((w :: ws).drop q)
    else if w = 0 then ⟨0, none⟩ :: zrwItems fuel w ws
    else if w = prev then ⟨1, none⟩ :: zrwItems fuel w ws
    else ⟨2, some w⟩ :: zrwItems fuel w ws

/-- The control word of at most 32 items. -/
def zrwControl : List ZrwItem → Nat
  | [] => 0
  | i :: is => i.code + 4 * zrwControl is

/-- Groups of 32 items: a control word, then the operands. -/
def zrwGroups : Nat → List ZrwItem → List Nat
  | 0, _ => []
  | _, [] => []
  | fuel + 1, is => zrwControl (is.take 32) :: ((is.take 32).filterMap (·.operand) ++ zrwGroups fuel (is.drop 32))

/-- ZRW of a list of 64-bit words. -/
def zrwEncode (ws : List Nat) : List Nat := zrwGroups (ws.length + 1) (zrwItems (ws.length + 1) 0 ws)

/-- The decoder of R328: `n` words still due, the last word, the code's place in the control word, the stream left. Answers
none where it rejects. `fuel` bounds the codes and groups. -/
def zrwRun : Nat → Nat → Nat → Nat → Nat → List Nat → Option (List Nat)
  | 0, _, _, _, _, _ => none
  | fuel + 1, n, prev, k, ctl, ws =>
    if 32 ≤ k then
      if n = 0 then (if ws.isEmpty then some [] else none)
      else match ws with
        | c :: ws => zrwRun fuel n prev 0 c ws
        | [] => none
    else
      let code := bitsOf ctl (2 * k) 2
      if n = 0 then (if code = 0 then zrwRun fuel 0 prev (k + 1) ctl ws else none)
      else if code = 0 then (zrwRun fuel (n - 1) 0 (k + 1) ctl ws).map (fun l => 0 :: l)
      else if code = 1 then (zrwRun fuel (n - 1) prev (k + 1) ctl ws).map (fun l => prev :: l)
      else match ws with
        | [] => none
        | w :: ws =>
          if code = 2 then (zrwRun fuel (n - 1) w (k + 1) ctl ws).map (fun l => w :: l)
          else
            let c := w % 2 ^ 32
            if c = 0 || w / 2 ^ 33 != 0 || n < c then none
            else
              let v := if bitOf w 32 then prev else 0
              (zrwRun fuel (n - c) v (k + 1) ctl ws).map (fun l => List.replicate c v ++ l)

/-- Decode a stream of `n` words. -/
def zrwDecode (ws : List Nat) (n : Nat) : Option (List Nat) := zrwRun (2 * n + 70) n 0 32 0 ws

/-- 64-bit words of a byte list, lowest first; the last is zero-extended. -/
def words64 : Nat → List Nat → List Nat
  | 0, _ => []
  | n + 1, bs => ofLe (bs.take 8) :: words64 n (bs.drop 8)

def wordsOf64 (bs : List Nat) : List Nat := words64 ((bs.length + 7) / 8) bs

def bytesOf64 (ws : List Nat) : List Nat := ws.flatMap (toLe 8)

end Sys2Proof.Machine
end

