-- ==== Sys2Proof/Machine/Cullet.lean ====
section
/-! DEFINITION. Cullet readout (chapter 7): the station's part, the buffer, its directory and records, spilling; the line
writes it shares with every other user of the dump master and the fabric port (R14, R512, R514). The rows that a readout's
end moves on stand in Cuts. -/

namespace Sys2Proof.Machine

open Host (Outcome)

/-! ### Line requests (R14, R512, R514) -/

/-- The pieces of a byte list within 64-byte lines. -/
def linePieces : Nat → Nat → List Nat → List (Nat × List Nat)
  | 0, _, _ => []
  | fuel + 1, a, bs =>
    if bs.isEmpty then [] else (a, bs.take (64 - a % 64)) :: linePieces fuel (a + (64 - a % 64)) (bs.drop (64 - a % 64))

/-- Write one piece of a line: to the dump master where the address names this node, else to the fabric port. -/
def lineWrite (ident addr : Nat) (data : List Nat) (use : LineUse) (s : State) : State :=
  let (t, s) := takeTag s
  let q : LineReq := { tag := t, ident := ident, addr := addr, data := data, size := 0, use := use, issued := s.ts }
  if addr >>> 40 = s.node then issueWrite q s else presentBulk (.line q) s

def lineWrites (ident addr : Nat) (bs : List Nat) (use : LineUse) (s : State) : State :=
  (linePieces (bs.length / 64 + 2) addr bs).foldl (fun s p => lineWrite ident p.1 p.2 use s) s

/-- Read one line, or one word where `size` is 1, through the dump master where the address names this node. A read that names another
goes to the fabric port (R14), whose signals carry no read (R514): it stays without an answer (log entry 114). -/
def lineRead (ident addr size : Nat) (peek : Bool) (use : LineUse) (s : State) : State :=
  let (t, s) := takeTag s
  let q : LineReq := { tag := t, ident := ident, addr := addr, data := [], size := size, peek := peek, use := use, issued := s.ts }
  if addr >>> 40 = s.node then issueRead q s else { s with bus := { s.bus with fabRd := s.bus.fabRd ++ [q] } }

/-! ### Station side (R156 to R158) -/

/-- Bytes of a vector by CV_LEN (R22). -/
def cvBytes (cv : Nat) : Nat := if cv = 0 then 64 else if cv = 1 then 128 else 256

/-- A vector the station or a bridge forms for a port that is off (R38). -/
def formedVector (ty cv : Nat) (pert : Bool) : List Nat :=
  (ty + 8 * cv + 32 + 64 * b2n pert) :: 9 :: List.replicate (cvBytes cv - 2) 0

/-- Ports of group g that a TYPES mask selects, by a type of each. -/
def selectedPorts (types g : Nat) (ty : Nat → Nat) : List Nat :=
  ((List.range 4).map (· + 4 * g)).filter (fun p => ty p != 7 && bitOf types (ty p))

/-- The four 2-bit states and the vectors of a message as one UpMsg (R158). -/
def culletMsg (st g : Nat) (skew : Bool) (later rdtag : Nat) (body : List Nat) : UpMsg :=
  ⟨1, st + 2 ^ 8 * g + 2 ^ 10 * b2n skew + 2 ^ 11 * later + 2 ^ 14 * rdtag, wordsOf body⟩

/-- Bytes of the reserve a group's message can need. -/
def State.groupBytes (s : State) (n g types : Nat) : Nat :=
  let x := s.stn n
  4 + ((selectedPorts types g (fun p => (x.port p).ty)).map (fun p => cvBytes (x.port p).strapCv)).sum

/-- Start the read of the next group where the reserve can hold its message (R157). -/
def startGroup (n : Nat) (s : State) : State :=
  let x := s.stn n
  match x.readout with
  | some r =>
    match r.groups with
    | g :: _ =>
      if !r.reading && x.reserveUse + s.groupBytes n g r.types ≤ reserveShare then
        setStn n { x with readout := some { r with reading := true, restarts := 0, later := laterOf x.strobes r.hit } } s
      else s
    | [] => s
  | none => s

/-- STN_CUL_STAT.ACTIVE, SKEWMATCH and GROUPS_LEFT (R174). -/
def showReadout (n : Nat) (s : State) : State :=
  match (s.stn n).readout with
  | some r => ((s.fs (F.STN_CUL_STAT_ACTIVE n) 1).fs (F.STN_CUL_STAT_SKEWMATCH n) (b2n r.skew)).fs (F.STN_CUL_STAT_GROUPS_LEFT n)
      r.groups.length
  | none => (s.fs (F.STN_CUL_STAT_ACTIVE n) 0).fs (F.STN_CUL_STAT_GROUPS_LEFT n) 0

/-- The strobe nearest to X, the earlier of two equally near. -/
def nearest (x : Nat) : List (Nat × Nat) → Option (Nat × Nat)
  | [] => none
  | e :: es => match nearest x es with
    | none => some e
    | some b =>
      let d (v : Nat) : Nat := if v < x then x - v else v - x
      if d b.1 < d e.1 then some b else some e

/-- The strobe a CULLET_RD of tick `t` reads (R156): the strobe of that TS, else, at a station with SKEW, the nearest one within H CNCLK
cycles; and whether it was found that second way. -/
def matchStrobe (stn t : Nat) (s : State) : Option (Nat × Nat) × Bool :=
  let x := s.stn stn
  match x.strobes.find? (fun e => e.1 == t) with
  | some e => (some e, false)
  | none =>
    match nearest t x.strobes with
    | some e =>
      if s.fb (F.STN_SH_STAT_SKEW stn) && decide ((if e.1 < t then t - e.1 else e.1 - t) ≤ s.cnclkNs (s.fg (F.STN_SH_CFG_H stn) / 2))
      then (some e, true) else (none, false)
    | none => (none, false)

/-- The readout a CULLET_RD opens at a station: the groups that hold a port of a selected type, in rising order. -/
def openReadout (stn : Nat) (m : DownMsg) (s : State) : StnReadout :=
  let types := bitsOf m.head 2 6
  let hit := matchStrobe stn (m.words.getD 0 0 + 2 ^ 32 * m.words.getD 1 0) s
  { rdtag := m.head % 4, types := types, hit := hit.1.map (·.1), skew := hit.2,
    groups := (List.range 4).filter (fun g => !(selectedPorts types g (fun p => ((s.stn stn).port p).ty)).isEmpty),
    off := (hit.1.map (·.2)).getD 0 }

/-- The station matches a CULLET_RD against its strobe log (R156). A later CULLET_RD ends a readout still in progress. -/
def execStationCulletRd (stn : Nat) (s : State) : Outcome State Fault Refusal := s.act fun s =>
  match takeInbox stn 4 (fun _ => true) s with
  | none => ok s
  | some (m, s) =>
    let r := openReadout stn m s
    let s := modStn stn (fun x => { x with readout := (if r.groups.isEmpty then none else some r) }) s
    ok (showReadout stn (startGroup stn (s.fs (F.STN_CUL_STAT_SKEWMATCH stn) (b2n r.skew))))

/-- What group g's CULLET message holds of its four ports (R157, R158): a status of 0 not read, 1 read, 2 read after a later strobe,
3 lost, and the vector, whose byte 0 the station sets (R36). -/
def culletParts (stn g : Nat) (r : StnReadout) (vectors : List (List Nat)) (s : State) : List (Nat × List Nat) :=
  let x := s.stn stn
  let sel := selectedPorts r.types g (fun p => (x.port p).ty)
  let pert := s.stnPert stn
  let part (p : Nat) : Nat × List Nat :=
    let q := x.port p
    if !sel.contains p then (0, [])
    else match r.hit with
      | none => (3, [])
      | some t =>
        if 7 ≤ r.restarts then (3, [])
        else if bitOf r.off p then (if r.later = 0 then 1 else 2, formedVector q.ty q.strapCv pert)
        else if !q.on || decide (t < mget x.offAt p 0) then (3, [])
        else
          let k := cvBytes q.strapCv
          let v := ((vectors.getD (p % 4) []).map (· % 256) ++ List.replicate k 0).take k
          (if r.later = 0 then 1 else 2, (q.ty + 8 * q.strapCv + 64 * b2n pert) :: v.drop 1)
  (List.range 4).map (fun j => part (4 * g + j))

/-- LATER_N of a group's message: the readout's, where a part was read after a later strobe. -/
def culletLater (r : StnReadout) (parts : List (Nat × List Nat)) : Nat := if parts.any (fun p => p.1 == 2) then r.later else 0

/-- Form and offer a group's message, and raise the violation of every vector with a reserved wait reason (R37). -/
def culletSend (stn g : Nat) (r : StnReadout) (parts : List (Nat × List Nat)) (s : State) : State :=
  let st := (List.range 4).foldl (fun a j => a + 4 ^ j * (parts.getD j (0, [])).1) 0
  let s := offerMsg stn (culletMsg st g r.skew (culletLater r parts) r.rdtag (parts.flatMap (·.2))) s
  (List.range 4).foldl (fun s j =>
    let v := (parts.getD j (0, [])).2
    let named := if bitOf (v.getD 10 0) 6 then [v.getD 2 0] else []
    if 11 ≤ v.getD 1 0 % 16 then protoViolation (16 * stn + 4 * g + j) 5 named none s else s) s

/-- A group's read is complete: `vectors` holds the four capture registers' bytes of ports 4g to 4g + 3. The message is formed and
offered, and the next group's read starts. -/
def execStationCulletGroupDone (stn : Nat) (vectors : List (List Nat)) (s : State) : Outcome State Fault Refusal := s.act fun s =>
  let s := startGroup stn s
  let x := s.stn stn
  match x.readout with
  | none => ok s
  | some r =>
    match r.groups with
    | [] => ok s
    | g :: rest =>
      if !r.reading then ok s
      else
        let parts := culletParts stn g r vectors s
        let x := { x with readout := (if rest.isEmpty then none else some { r with groups := rest, reading := false }) }
        let s := culletSend stn g r parts (setStn stn x s)
        ok (showReadout stn (startGroup stn (s.fs (F.STN_CUL_STAT_LATER_N stn) (culletLater r parts))))

/-! ### The directory (R167) -/

def modCullet (f : CulletState → CulletState) (s : State) : State := { s with cullet := f s.cullet }

def culletBytes : Nat := 2 ^ 21

def State.dirW (s : State) (d w : Nat) : Nat := s.rdN (R.CULLET_DIR d w)

def setDirW (d w v : Nat) (s : State) : State := s.wrN (R.CULLET_DIR d w) v

/-- FLAGS bits of an entry: 4 PARTIAL, 5 PINNED, 6 SPILLED, 7 VALID. -/
def State.dirFlag (s : State) (d b : Nat) : Bool := bitOf (s.dirW d 3) b

def setDirFlag (d b : Nat) (v : Bool) (s : State) : State := setDirW d 3 (setBit (s.dirW d 3) b v) s

def State.validDirs (s : State) : List Nat := (List.range 8).filter (fun d => s.dirFlag d 7)

/-- CULLET_STAT.NVALID and CULLET_FREE. -/
def showCullet (s : State) : State :=
  let s := s.fs F.CULLET_STAT_NVALID s.validDirs.length
  s.fs F.CULLET_FREE_FREE (culletBytes - ((s.validDirs.map (fun d => s.dirW d 5)).sum))

def freeDir (d : Nat) (s : State) : State :=
  showCullet (modCullet (fun c => { c with order := c.order.filter (· != d) }) (setDirFlag d 7 false s))

def State.runDir (s : State) : Option Nat := s.cullet.running.map (·.dir)

/-- A SNAPSHOT other than `but` pins an entry (R167): its readout runs there, or its copy has not been written. -/
def State.snapPins (s : State) (d : Nat) (but : Option CmdKey) : Bool :=
  s.rings.cmds.any (fun c => c.opcode == 0x43 && some c.key != but && c.phase == .writing && c.point == d) ||
    (match s.cullet.running with
     | some r => r.dir == d && (match r.req.src with | .command k => ((s.cmd? k).map (·.opcode)) == some 0x43 | _ => false)
     | none => false)

/-- Lehr pins an entry, or keeps it until the container is read (R167, R300). -/
def State.lehrPins (s : State) (d : Nat) : Bool := s.lehr.p1Dir == some d || s.lehr.keepDir == some d

/-- Lehr's pin of an entry ends: PINNED stays while a SNAPSHOT holds it too. -/
def unpinDir (d : Nat) (s : State) : State := setDirFlag d 5 (s.snapPins d none) s

/-- The pin of SNAPSHOT k ends: PINNED stays while another, or Lehr, holds the entry too. -/
def unpinSnap (k : CmdKey) (d : Nat) (s : State) : State := showCullet (setDirFlag d 5 (s.snapPins d (some k) || s.lehrPins d) s)

/-- The oldest snapshot that is neither pinned nor running. -/
def State.oldestFreeable (s : State) : Option Nat :=
  s.cullet.order.find? (fun d => s.dirFlag d 7 && !s.dirFlag d 5 && s.runDir != some d)

/-- The buffer has `n` bytes free from its head on: no valid snapshot's records lie there. -/
def State.bufFits (s : State) (n : Nat) : Bool :=
  let h := s.cullet.head
  let own := match s.runDir with | some d => s.dirW d 5 | none => 0
  decide (own + n ≤ culletBytes) && s.validDirs.all (fun d =>
    s.dirW d 5 == 0 || s.runDir == some d || decide (n ≤ (s.dirW d 4 + culletBytes - h) % culletBytes))

/-- Free whole unpinned snapshots, oldest first, until `n` bytes fit or none is left (R167). -/
def makeRoom : Nat → Nat → State → State
  | 0, _, s => s
  | fuel + 1, n, s =>
    if s.bufFits n then s
    else match s.oldestFreeable with
      | some d => makeRoom fuel n (freeDir d s)
      | none => s

/-- Store bytes at the head of the buffer for entry d. -/
def bufAppend (d : Nat) (bs : List Nat) (s : State) : State :=
  let h := s.cullet.head
  let s := modCullet (fun c => { c with buf := ringPut culletBytes h bs c.buf, head := (h + bs.length) % culletBytes }) s
  showCullet (setDirW d 5 (s.dirW d 5 + bs.length) s)

/-- Records of an entry by state (R167): 0 OK, 1 LATER, 2 NOVEC, 3 LOST. -/
def countRecord (d stat : Nat) (s : State) : State :=
  let w := 9 + stat / 2
  let sh := 16 * (stat % 2)
  let v := min (bitsOf (s.dirW d w) sh 16 + 1) 0xFFFF
  setDirW d w (s.dirW d w - 2 ^ sh * bitsOf (s.dirW d w) sh 16 + 2 ^ sh * v) s

/-- The 16-byte header of a record (R168). -/
def recordHead (unit stat fmt clen captureTs : Nat) : List Nat :=
  toLe 2 unit ++ toLe 1 stat ++ toLe 1 fmt ++ toLe 2 clen ++ toLe 2 0 ++ toLe 8 captureTs

/-- A LOST record, and its count. Where not even its header fits, only the count tells of it. -/
def lostRecord (d unit cv : Nat) (s : State) : State :=
  let bs := recordHead unit 3 cv 0 0
  let s := makeRoom 8 16 s
  countRecord d 3 (if s.bufFits 16 then bufAppend d bs s else s)

/-- Bytes of spilled records not yet acknowledged, in the 64 KiB queue (R169). -/
def State.spillHeld (s : State) : Nat :=
  let held (l : List LineReq) : Nat := ((l.filter (fun q => q.use == .spill)).map (fun q => q.data.length)).sum
  held s.bus.writes

/-- Write one record to the buffer, or spill it, or lose it (R167, R169). -/
def putRecord (d unit cv stat : Nat) (bs : List Nat) (s : State) : State :=
  let n := bs.length
  let s := makeRoom 8 n s
  if s.bufFits n then countRecord d (stat % 4) (bufAppend d bs s)
  else if s.fb F.CULLET_CTL_SPILL_EN && s.fg F.CULLET_SPILL_LEN_LEN != 0 then
    if s.spillHeld + n > 65536 || s.cullet.spillPos + n > s.fg F.CULLET_SPILL_LEN_LEN * 65536 then
      lostRecord d unit cv (s.fs F.CULLET_STAT_SPILL_LOST 1)
    else
      let a := s.rd64 R.CULLET_SPILL_LO R.CULLET_SPILL_HI / 64 * 64 + s.cullet.spillPos
      let s := if s.dirFlag d 6 then s else setDirW d 7 (a >>> 32) (setDirW d 6 (a % 2 ^ 32) (setDirFlag d 6 true s))
      let s := setDirW d 8 (s.dirW d 8 + n) (modCullet (fun c => { c with spillPos := c.spillPos + n }) s)
      countRecord d (stat % 4) (lineWrites 0 a bs .spill s)
  else lostRecord d unit cv (s.fs F.CULLET_STAT_NOSPACE 1)

/-- The record of a vector: ZRW, or RAW where that is shorter (R168). -/
def vectorRecord (unit stat cv captureTs : Nat) (vec : List Nat) : List Nat :=
  let ws := wordsOf64 vec
  let z := zrwEncode ws
  if z.length ≤ ws.length then recordHead unit stat cv z.length captureTs ++ bytesOf64 z
  else recordHead unit stat (cv + 4) ws.length captureTs ++ bytesOf64 ws

/-! ### Readouts (R154, R155, R159) -/

/-- A GO written to CULLET_READ (R154, R173). -/
def culletGo (types : Nat) (s : State) : State :=
  if types % 64 = 0 || s.fg F.SHEAR_COUNT_CUTS == 0 then s
  else (askReadout ⟨s.rd64 R.SHEAR_TICK_LO R.SHEAR_TICK_HI, 3, 0, types % 64, .register⟩ s).2

def execCulletReadGo (id types : Nat) (s : State) : Outcome State Fault Refusal := s.act fun s =>
  ok (s.gate id R.CULLET_READ .operator (culletGo types))

/-- SOURCE of a directory entry. -/
def State.readSource (s : State) : ReadSource → Nat
  | .auto => 0
  | .register => 1
  | .lehr => 3
  | .policy _ => 4
  | .command k => match s.cmd? k with | some c => if c.opcode = 0x43 then 2 else 5 | none => 5

/-- Messages the slot image lets the hub expect: station and group. -/
def State.expectedGroups (s : State) (q : ReadReq) : List (Nat × Nat) :=
  (s.members q.group q.target).flatMap (fun n =>
    ((List.range 4).filter (fun g => !(selectedPorts q.types g (fun p => s.unitType (16 * n + p))).isEmpty)).map (fun g => (n, g)))

/-- A bridge answers for its isolated stations (R81): every selected port with the vector of R38. A rib that is DEGRADED too is sent no
CULLET_RD (R84). -/
def bridgeAnswers (q : ReadReq) (rdtag : Nat) (l : List (Nat × Nat)) (s : State) : State :=
  (l.filter (fun e => (s.rib (e.1 / 64)).subst && !s.ribDegraded (e.1 / 64))).foldl (fun s e =>
    let (n, g) := e
    let sel := selectedPorts q.types g (fun p => s.unitType (16 * n + p))
    let st := (List.range 4).foldl (fun a j => a + 4 ^ j * b2n (sel.contains (4 * g + j))) 0
    let body := sel.flatMap (fun p => formedVector (s.unitType (16 * n + p)) (s.portImage (16 * n + p)).cvLen s.perturbed)
    modStn n (fun x => { x with air := x.air ++ [culletMsg st g false 0 rdtag body] }) s) s

/-- Bytes of a snapshot's records in the buffer, in buffer order. -/
def State.dirBytes (s : State) (d : Nat) : List Nat := ringGet culletBytes (s.dirW d 4) (s.dirW d 5) s.cullet.buf

def State.dirEntryBytes (s : State) (d : Nat) : List Nat := bytesOfWords (s.rdWords (R.CULLET_DIR d 0) 16)

/-- What the end of a readout owes its requester (R415, R418): a SNAPSHOT's copy, or a command's completion. -/
def readoutOwed (q : ReadReq) (d : Nat) (s : State) : State :=
  match q.src with
  | .command k =>
    match s.cmd? k with
    | none => s
    | some c =>
      let st := if s.dirFlag d 4 then 1 else 0
      if c.opcode = 0x43 then
        let s := modCmd k (fun c => { c with point := d }) s
        let s := finishWithBytes k (c.fld 0x18 8) (s.dirEntryBytes d ++ s.dirBytes d) st q.tick s
        if (s.cmd? k).isSome then s else unpinSnap k d s
      else completeTick k st q.tick s
  | _ => s

/-- The readout ends (R159): what is missing becomes LOST; PARTIAL, END_TS; the waiting request is next. -/
def endReadout (s : State) : State :=
  match s.cullet.running with
  | none => s
  | some r =>
    let d := r.dir
    let s := r.left.foldl (fun s e =>
      (selectedPorts r.req.types e.2 (fun p => s.unitType (16 * e.1 + p))).foldl (fun s p =>
        lostRecord d (16 * e.1 + p) (s.portImage (16 * e.1 + p)).cvLen s) s) s
    let partial_ := s.dirW d 9 >>> 16 != 0 || s.dirW d 10 != 0
    let s := setDirFlag d 4 partial_ s
    let s := setDirW d 13 (s.ts >>> 32) (setDirW d 12 (s.ts % 2 ^ 32) s)
    let s := s.fs F.CULLET_STAT_BUSY 0
    let s := modCullet (fun c => { c with running := none, next := c.waiting, waiting := none }) (s.fs F.CULLET_STAT_WAITING 0)
    readoutOwed r.req d s

/-- The directory entry the next readout takes: one never used, else the oldest that may be freed (R167). -/
def State.nextDir (s : State) : Option Nat :=
  match (List.range 8).find? (fun d => !s.dirFlag d 7) with
  | some d => some d
  | none => s.oldestFreeable

/-- A readout begins in directory entry d, waiting for the groups `left` (R155, R159): its directory words, its deadline, and the
CULLET_RD to the stations. -/
def beginReadout (d : Nat) (q : ReadReq) (left : List (Nat × Nat)) (s : State) : State :=
  let log : TickLog := (s.shear.ticks.find? (fun t => t.ts == q.tick)).getD ⟨q.tick, 0, 0, 0, 0, false, false, 0⟩
  let src := s.readSource q.src
  let tag := (s.cullet.rdtag + 1) % 4
  let flags := log.cls + 4 * b2n log.skewed + 8 * b2n log.perturbed + 32 * b2n (src == 2 || src == 3) + 128
  let s := s.wrWords (R.CULLET_DIR d 0)
    [q.tick % 2 ^ 32, q.tick >>> 32, log.count, flags + 2 ^ 8 * src + 2 ^ 16 * q.types, s.cullet.head, 0, 0, 0, 0, 0, 0,
     log.transit, 0, 0, 0, 0]
  let deadline := if q.src == .lehr then s.lehr.p1Deadline else s.ts + s.scaled .service (1000 * s.fg F.CULLET_BUDGET_BUDGET)
  let r : Readout := { req := q, rdtag := tag, start := s.ts, deadline := deadline, dir := d, left := left }
  let s := modCullet (fun c => { c with running := some r, rdtag := tag, order := c.order ++ [d], spillPos := 0 }) s
  let s := (showCullet (s.fs F.CULLET_STAT_BUSY 1)).fs F.CULLET_STAT_DIR d
  let s := sendDown q.group q.target 4 (tag + 4 * q.types) [q.tick % 2 ^ 32, q.tick >>> 32] s
  bridgeAnswers q tag left s

/-- The readout asked for next starts (R155, R159, R167). -/
def execCulletReadoutStart (s : State) : Outcome State Fault Refusal := s.awake fun s =>
  match s.cullet.running, s.cullet.next with
  | none, some q =>
    match s.nextDir with
    | none => ok (refuseReadout q (modCullet (fun c => { c with next := c.waiting, waiting := none }) (s.fs F.CULLET_STAT_WAITING 0)))
    | some d =>
      let s := freeDir d (modCullet (fun c => { c with next := none }) s)
      let left := s.expectedGroups q
      let s := beginReadout d q left s
      ok (if left.isEmpty || !s.spine.running then endReadout s else s)
  | _, _ => ok s

/-- CAPTURE_TS of a record (R168). -/
def captureTs (ticks : List TickLog) (tick stat later : Nat) : Nat :=
  if stat = 0 then tick
  else if stat = 1 then ((ticks.dropWhile (fun t => t.ts != tick)).drop later).head?.elim 0 (·.ts)
  else 0

/-- Split a body into the vectors of the ports that carry one. -/
def takeVectors : List (Nat × Nat × Nat) → List Nat → List (Nat × Nat × Nat × List Nat)
  | [], _ => []
  | (u, cv, st) :: rest, body =>
    let k := if st = 1 || st = 2 then cvBytes cv else 0
    (u, cv, st, body.take k) :: takeVectors rest (body.drop k)

/-- A CULLET message of the running readout arrives: one record for each selected port (R159, R168). -/
def takeCulletMessage (n : Nat) (m : UpMsg) (s : State) : State :=
  match s.cullet.running with
  | none => s
  | some r =>
    let g := bitsOf m.head 8 2
    if bitsOf m.head 14 2 != r.rdtag || !r.left.contains (n, g) then s
    else
      let skew := bitOf m.head 10
      let later := bitsOf m.head 11 3
      let ports := (selectedPorts r.req.types g (fun p => s.unitType (16 * n + p))).map (fun p =>
        (16 * n + p, (s.portImage (16 * n + p)).cvLen, bitsOf m.head (2 * (p % 4)) 2))
      let s := modCullet (fun c => { c with running := some { r with left := r.left.filter (· != (n, g)) } }) s
      (takeVectors ports (bytesOfWords m.words)).foldl (fun s v =>
        let (u, cv, st, vec) := v
        if st = 0 then lostRecord r.dir u cv s
        else
          let stat := st - 1
          let byte := stat + 4 * b2n skew + 8 * (if stat = 1 then later else 0)
          let ts := captureTs s.shear.ticks r.req.tick stat later
          let s := setDirW r.dir 14 (s.dirW r.dir 14 + vec.length) s
          if stat < 2 then putRecord r.dir u cv stat (vectorRecord u byte cv ts vec) s
          else putRecord r.dir u cv stat (recordHead u byte cv 0 0) s) s

/-- Does a readout end now: every message has arrived, or its budget has run out. -/
def readoutOver (s : State) : Bool :=
  match s.cullet.running with
  | some r => r.left.isEmpty
  | none => false

end Sys2Proof.Machine
end

