-- ==== Sys2Proof/Machine/Counters.lean ====
section
/-! DEFINITION. Counters at the central hub and what stations do with CTR_CMDs (chapter 8): configuration, samples, reads,
wrap notes, attribution controls. The rows a read's end moves on stand in Cuts. -/

namespace Sys2Proof.Machine

open Host (Outcome)

def modCtr (f : CtrState → CtrState) (s : State) : State := { s with ctr := f s.ctr }

/-! ### Configuration (R179, R180) -/

/-- A reserved EVENT code (R177). -/
def eventReserved (e : Nat) : Bool :=
  !((e ≤ 0x0D) || (0x10 ≤ e && e ≤ 0x15) || (0x18 ≤ e && e ≤ 0x1D) || (0x20 ≤ e && e ≤ 0x28) || (0x30 ≤ e && e ≤ 0x38) ||
    e == 0x40 || (0x80 ≤ e && e ≤ 0x83))

/-- The hub's copy of counter i at station n. -/
def State.ctrCopy (s : State) (n i : Nat) : CtrCopy := mget s.ctr.copies (16 * n + i) {}

/-- Words of a CONFIG: the two configuration words, the owner in HI [21:16]. -/
def cfgWords (f i : Nat) (c : CtrCopy) : List Nat := [f, i, c.lo % 2 ^ 29, c.hi % 2 ^ 16 + 2 ^ 16 * c.owner]

/-- Counter i of a station has an owner from the acceptance of its configuration on (R179). -/
def ownCounter (n i owner : Nat) (s : State) : State :=
  modCtr (fun t => { t with copies := mmod t.copies (16 * n + i) {} (fun c => { c with owner := owner }) }) s

/-- Configure counter i at every station of a group (R179, R180): the copies and owners change at once, CONFIG names the
apply frame. EVENT OFF makes the counter FREE. Answers the apply frame. -/
def configureCounter (group target i lo hi owner : Nat) (ring : Option Nat) (s : State) : Nat × State :=
  let c : CtrCopy := if lo % 256 = 0 then { lo := lo, hi := hi, owner := 0x3F, ring := none } else { lo := lo, hi := hi, owner := owner, ring := ring }
  let f := s.applyFrame group target 5
  let s := (s.members group target).foldl (fun s n => modCtr (fun t => { t with copies := mput t.copies (16 * n + i) c }) s) s
  (f, sendDown group target 5 0 (cfgWords (f % 2 ^ 32) i c) s)

/-- A register-window write of STN_PC_CFG_i (R179, R201): operator class; a reserved EVENT is ignored. A station that cannot
be reached takes the copy later, and the write sets SW_ERR (R587). -/
def execStnPcCfgWrite (id stn ctr value64 : Nat) (s : State) : Outcome State Fault Refusal := s.act fun s =>
  ok (s.gate id (R.STN_PC_CFG_LO stn ctr) .operator (fun s =>
    if !s.populated stn || eventReserved (value64 % 256) then s
    else
      let s := if s.unreachable stn then s.fs F.CANE_STAT_SW_ERR 1 else s
      (configureCounter 0 stn ctr (value64 % 2 ^ 32) (value64 >>> 32 % 2 ^ 16) id none s).2))

/-- A master's write of one word of STN_PC_CFG_i: the other word stays as the hub's copy has it (R179, R201). -/
def pcCfgWord (id n i : Nat) (hi : Bool) (v : Nat) (s : State) : State :=
  let c := s.ctrCopy n i
  let (lo, h) := if hi then (c.lo, v % 2 ^ 16) else (v % 2 ^ 29, c.hi)
  if !hi && eventReserved (v % 256) then s
  else
    let s := if s.unreachable n then s.fs F.CANE_STAT_SW_ERR 1 else s
    (configureCounter 0 n i lo h id none s).2

def execStationCtrConfig (stn : Nat) (s : State) : Outcome State Fault Refusal := s.act fun s =>
  match takeInbox stn 5 (fun m => m.head % 16 == 0) s with
  | none => ok s
  | some (m, s) =>
    let w (k : Nat) : Nat := m.words.getD k 0
    ok (modStn stn (fun x => { x with cfgPend := x.cfgPend ++ [(w 0, w 1 % 16, w 2, w 3, b2n m.copy)] }) s)

/-- The cycle 512F − 1 of a frame has come. -/
def State.sampleDue (s : State) (f : Nat) : Bool := s.spine.running && decide (512 * s.frameOf f ≤ s.spineCyc + 1)

/-- Apply one configuration: the registers take it, the counter is zeroed and follows no command (R180, R181). A copy of what the station
holds already changes nothing (R587). -/
def applyCfg (n i lo hi : Nat) (copy : Bool) (s : State) : State :=
  if copy && s.rdN (R.STN_PC_CFG_LO n i) == lo % 2 ^ 29 && s.rdN (R.STN_PC_CFG_HI n i) == hi &&& 0x3FFF7F then s else
  let s := (s.wrN (R.STN_PC_CFG_LO n i) (lo % 2 ^ 29)).wrN (R.STN_PC_CFG_HI n i) (hi &&& 0x3FFF7F)
  pcSet n i 0 (modStn n (fun x => { x with follow := x.follow.filter (· != i), boundary := mdel x.boundary i }) s)

def execCounterConfigApply (stn : Nat) (s : State) : Outcome State Fault Refusal := s.act fun s =>
  let due := (s.stn stn).cfgPend.filter (fun c => s.sampleDue c.1)
  let s := modStn stn (fun x => { x with cfgPend := x.cfgPend.filter (fun c => !s.sampleDue c.1) }) s
  ok (due.foldl (fun s c => applyCfg stn c.2.1 c.2.2.1 c.2.2.2.1 (c.2.2.2.2 == 1) s) s)

/-! ### Samples at a station (R185, R186, R191) -/

/-- A pending sample of a station: frame, then 1 for a READ or 3 for an ATTR_DUMP, RTAG, word 1. -/
def addSample (n f sub rtag w : Nat) (s : State) : State :=
  modStn n (fun x => { x with samples := x.samples ++ [(f, [sub, rtag, w])] }) s

def execStationCtrRead (stn : Nat) (s : State) : Outcome State Fault Refusal := s.act fun s =>
  match takeInbox stn 5 (fun m => m.head % 16 == 1) s with
  | none => ok s
  | some (m, s) => ok (addSample stn (m.words.getD 0 0) 1 (bitsOf m.head 4 8) (m.words.getD 1 0) s)

def execStationCtrKeys (stn : Nat) (s : State) : Outcome State Fault Refusal := s.act fun s =>
  match takeInbox stn 5 (fun m => m.head % 16 == 2) s with
  | none => ok s
  | some (m, s) =>
    let keys := (List.range (m.words.length / 2)).map (fun k => (m.words.getD (2 * k) 0, m.words.getD (2 * k + 1) 0))
    ok (modStn stn (fun x => { x with keys := keys.take 64 }) s)

def execStationAttrDump (stn : Nat) (s : State) : Outcome State Fault Refusal := s.act fun s =>
  match takeInbox stn 5 (fun m => m.head % 16 == 3) s with
  | none => ok s
  | some (m, s) => ok (addSample stn (m.words.getD 0 0) 3 (bitsOf m.head 4 8) (m.words.getD 1 0) s)

/-- The two words of a sampled counter (R191). -/
def sampleWords (v : Nat) (boundary pend : Bool) : List Nat :=
  [v % 2 ^ 32, (v >>> 32) % 65536 + 2 ^ 16 * b2n boundary + 2 ^ 17 * b2n pend]

/-- The COUNTER messages of a READ: one for each set asked for. -/
def counterMessages (n rtag w : Nat) (s : State) : List UpMsg :=
  let x := s.stn n
  let cut := bitOf w 2
  let rst := s.fb (F.STN_CTR_STAT_RESTARTED n)
  let held := !cut || s.fb (F.STN_CTR_STAT_CUT_VALID n)
  let head (set_ : Nat) : Nat := rtag + 2 ^ 8 * b2n cut + 2 ^ 9 * b2n rst + 2 ^ 10 * set_
  let ports := (List.range 16).filter (fun p => bitOf w (16 + p) && (x.port p).ty != 7)
  let ao (p k : Nat) : List Nat :=
    sampleWords (if cut then mget x.cutCtr (8 * p + k) 0 else s.aoVal (16 * n + p) k) false (bitOf (s.rdN (R.STN_AO_HI n p k)) 17)
  let pc (i : Nat) : List Nat :=
    let v := mget x.cutCtr (128 + i) 0
    let (u, b) := if cut then (v % 2 ^ 48, bitOf v 48) else s.pcSample n i
    sampleWords u b (bitOf (s.rdN (R.STN_PC_HI n i)) 17)
  (if bitOf w 0 then
    [⟨3, head 0, if held then ports.flatMap (fun p => (List.range 8).flatMap (fun k => ao p k)) else []⟩] else []) ++
  (if bitOf w 1 then [⟨3, head 1, if held then (List.range 16).flatMap pc else []⟩] else [])

/-- Valid attribution entries in ascending order. -/
def validEntries (x : Station) : List Nat := (List.range 64).filter (fun i => (mget? x.attr i).isSome)

/-- The ATTRIB messages of an ATTR_DUMP: up to 32 entries each. -/
def attribMessages (n rtag : Nat) (s : State) : List UpMsg :=
  let x := s.stn n
  let es := validEntries x
  let msg (l : List Nat) : UpMsg := ⟨6, rtag + 2 ^ 8 * l.length, l.flatMap (attrWords x)⟩
  if es.length ≤ 32 then [msg es] else [msg (es.take 32), msg (es.drop 32)]

/-- Change the read with an RTAG. -/
def modRead (rtag : Nat) (f : CtrRead → CtrRead) (s : State) : State :=
  modCtr (fun t => { t with reads := replaceFirst (fun r => r.rtag == rtag) f t.reads }) s

/-- A sample of the cut copy is of the station's last strobe so far (R186). -/
def noteCutSample (n rtag : Nat) (s : State) : State :=
  modRead rtag (fun r => { r with recs := r.recs.map (fun (c : CtrRec) =>
    if c.stn = n && r.cut then { c with sampleTs := (s.stn n).cutTs } else c) }) s

/-- The samples whose frame has come are taken at the end of cycle 512F − 1. -/
def execCounterSample (stn : Nat) (s : State) : Outcome State Fault Refusal := s.act fun s =>
  let due := (s.stn stn).samples.filter (fun c => s.sampleDue c.1)
  let s := modStn stn (fun x => { x with samples := x.samples.filter (fun c => !s.sampleDue c.1) }) s
  ok (due.foldl (fun s c =>
    let rtag := c.2.getD 1 0
    let w := c.2.getD 2 0
    if c.2.getD 0 0 = 1 then (counterMessages stn rtag w s).foldl (fun s m => offerMsg stn m s) (noteCutSample stn rtag s)
    else
      let s := (attribMessages stn rtag s).foldl (fun s m => offerMsg stn m s) s
      if bitOf w 0 then attrClear stn s else s) s)

/-! ### Reads at the central hub (R191, R192) -/

def showCtrBusy (s : State) : State := s.fs F.CTR_STAT_BUSY (b2n (s.ctr.reads.any (fun r => r.cmd.isSome)))

/-- SAMPLE_TS of a sample at frame f (R192, R408): the TS of spine cycle 512F; a free value where frames are not running. -/
def sampleTsOf (f : Nat) (s : State) : Nat × State :=
  if s.spine.running then (s.tsOfSpine (512 * f), s)
  else
    let (v, s) := s.free
    (v % 2 ^ 64, s)

/-- Begin a COUNTER_READ, or an ENERGY_READ without reduction: `w` is word 1 of its CTR_CMD, `seen` the programmable counters that the
requester was found to own at every member when the command was accepted (R195, R196). Stations that cannot be reached are LOST at once
(R587). -/
def beginCtrRead (cmd : Option CmdKey) (group target : Nat) (energy : Bool) (w owner cls seen : Nat) (s : State) : State :=
  let f := s.applyFrame group target 3
  let rtag := (s.ctr.rtag + 1) % 256
  let sets := if energy then 1 else b2n (bitOf w 0) + b2n (bitOf w 1)
  let (v, s) := sampleTsOf f s
  let recs := (s.members group target).map (fun n =>
    let denied := if cls ≤ 1 then 0xFFFF - seen % 2 ^ 16 else 0
    if s.reachable n && !(s.rib (n / 64)).subst then ({ stn := n, owed := sets, denied := denied } : CtrRec)
    else { stn := n, owed := 0, flags := 1, denied := denied, sampleTs := v })
  let r : CtrRead := { rtag := rtag, cmd := cmd, frame := f, cut := !energy && bitOf w 2, energy := energy, recs := recs, owner := owner,
                       cls := cls, ports := w >>> 16,
                       deadline := s.tsOfSpine (512 * f) + s.scaled .service (1000 * s.fg F.CTR_BUDGET_BUDGET)
                       ctxs := (s.dl.ctxOwner.filter (fun c => c.2 == owner)).map (·.1) }
  let s := modCtr (fun t => { t with reads := t.reads ++ [r], rtag := rtag }) s
  showCtrBusy (sendDown group target 5 ((if energy then 3 else 1) + 16 * rtag) [f % 2 ^ 32, w] s)

/-- Entries of 8 bytes of a COUNTER message (R192): `index` numbers them, `hide` says which the requester may not see. -/
def ctrEntries : Nat → List Nat → (Nat → Nat) → (Nat → Bool) → List Nat
  | k, w0 :: w1 :: rest, index, hide =>
    (if hide k then 2 ^ 50 + 2 ^ 56 * index k
     else w0 + 2 ^ 32 * (w1 % 65536) + 2 ^ 48 * bitsOf w1 16 2 + 2 ^ 56 * index k) :: ctrEntries (k + 1) rest index hide
  | _, _, _, _ => []

/-- FLAGS of a record: 1 LOST, 2 RESTARTED, 4 CUT, 8 DENIED_ANY. -/
def recFlag (r : CtrRec) (f : Nat) (on : Bool) : CtrRec := if on then { r with flags := r.flags ||| f } else r

/-- A COUNTER message of station n fills its record. -/
def takeCounterMessage (n : Nat) (m : UpMsg) (s : State) : State :=
  match s.ctr.reads.find? (fun r => r.rtag == m.head % 256 && !r.energy) with
  | none => s
  | some r =>
    let rst := bitOf m.head 9
    let pcSet_ := bitOf m.head 10
    let ports := (List.range 16).filter (fun p => bitOf r.ports p && s.unitType (16 * n + p) != 7)
    let fill (c : CtrRec) : CtrRec :=
      if c.stn != n || c.owed = 0 then c
      else
        let hide (i : Nat) : Bool := if pcSet_ then bitOf c.denied i else decide (r.cls ≤ 1)
        let index (i : Nat) : Nat := if pcSet_ then 128 + i else 8 * (ports.getD (i / 8) 0) + i % 8
        let es := ctrEntries 0 m.words index hide
        let any := (List.range es.length).any hide
        let c := { c with owed := c.owed - 1, sampleTs := (if r.cut then c.sampleTs else s.tsOfSpine (512 * r.frame)) }
        let c := recFlag (recFlag (recFlag c 2 rst) 4 r.cut) 8 any
        if pcSet_ then { c with pc := es } else { c with ao := es }
    let s := modRead r.rtag (fun r => { r with recs := r.recs.map fill }) s
    if rst then s.fs F.CTR_STAT_RESTARTED 1 else s

/-- Pieces of 8 words. -/
def entryWords : Nat → List Nat → List (List Nat)
  | 0, _ => []
  | n + 1, ws => if ws.isEmpty then [] else ws.take 8 :: entryWords n (ws.drop 8)

/-- An ATTRIB message of station n fills its record; a tenant gets its own contexts' entries alone (R409). A message of
fewer than 32 entries, or one after which the station has no more of the read under way, is the station's last. -/
def takeAttribMessage (n : Nat) (m : UpMsg) (s : State) : State :=
  match s.ctr.reads.find? (fun r => r.rtag == m.head % 256 && r.energy) with
  | none => s
  | some r =>
    let x := s.stn n
    let more := (x.queued ++ x.wait ++ x.air).any (fun y => y.kind == 6 && y.head % 256 == m.head % 256)
    let es := entryWords (bitsOf m.head 8 6) m.words
    let mine (e : List Nat) : Bool := 2 ≤ r.cls || (bitOf (e.getD 1 0) 9 && r.ctxs.contains (e.getD 1 0 % 256))
    let rst := s.fb (F.STN_CTR_STAT_RESTARTED n)
    let fill (c : CtrRec) : CtrRec :=
      if c.stn != n || c.owed = 0 then c
      else
        let c := { c with attr := c.attr ++ es.filter mine, sampleTs := s.tsOfSpine (512 * r.frame), owed := (if more then 1 else 0) }
        recFlag (recFlag c 2 rst) 8 (es.any (fun e => !mine e))
    modRead r.rtag (fun r => { r with recs := r.recs.map fill }) s

/-- The bytes of a record (R192). -/
def recBytes (c : CtrRec) : List Nat :=
  if bitOf c.flags 0 then toLe 2 c.stn ++ [c.flags, 0, 0, 0, 0, 0] ++ toLe 8 c.sampleTs
  else toLe 2 c.stn ++ [c.flags, c.ao.length, c.pc.length, c.attr.length, 0, 0] ++ toLe 8 c.sampleTs ++
    (c.ao ++ c.pc).flatMap (toLe 8) ++ c.attr.flatMap bytesOfWords

/-- Stations whose messages are missing at the budget's end are LOST and have no entries. -/
def loseMissing (r : CtrRead) (s : State) : CtrRead :=
  { r with recs := r.recs.map (fun c =>
      if c.owed = 0 then c else { c with owed := 0, flags := (c.flags ||| 1), ao := [], pc := [], attr := [],
                                         sampleTs := s.tsOfSpine (512 * r.frame) }) }

/-- A read whose records are all settled ends: the result is written for a command, or kept for Lehr. -/
def endCtrRead (r : CtrRead) (s : State) : State :=
  let lost := r.recs.any (fun c => bitOf c.flags 0)
  let s := modCtr (fun t => { t with reads := removeFirst (fun q => q.rtag == r.rtag) t.reads }) s
  let s := showCtrBusy (if lost then s.fs F.CTR_STAT_LOST 1 else s)
  match r.cmd with
  | none =>
    if r.energy then { s with lehr := { s.lehr with attrRecs := some r.recs } }
    else { s with lehr := { s.lehr with ctrRecs := some r.recs } }
  | some k =>
    match s.cmd? k with
    | none => s
    | some c =>
      let bytes := r.recs.flatMap recBytes
      finishWithBytes k (c.fld (if r.energy then 0x20 else 0x18) 8) bytes (if lost then 1 else 0) bytes.length s

/-- End every read whose records are settled. -/
def settleReads (s : State) : State :=
  (s.ctr.reads.filter (fun r => r.recs.all (fun c => c.owed == 0))).foldl (fun s r => endCtrRead r s) s

/-! ### Wrap notes (R183, R184) -/

/-- The spine takes upstream slots from a station: frames run, it is loaded, its rib is not cut off. -/
def State.stnSends (s : State) (n : Nat) : Bool :=
  s.spine.running && (s.stn n).installed && !(s.rib (n / 64)).subst

/-- The least of the owed NOTE codes. -/
def leastCode : List Nat → Option Nat
  | [] => none
  | c :: cs => match leastCode cs with
    | some d => if d % 65536 < c % 65536 ∨ (d % 65536 = c % 65536 ∧ d < c) then some d else some c
    | none => some c

/-- The station sends its lowest owed COUNTER_WRAP NOTE in a NOTICE slot that no FAULT announcement takes, and clears
WRAP_PEND. -/
def execCounterWrapNoteSend (stn : Nat) (s : State) : Outcome State Fault Refusal := s.act fun s =>
  let x := s.stn stn
  if !s.stnSends stn || !s.noticeSlot stn || !x.announce.isEmpty then ok s
  else match leastCode x.wrapCtr with
    | none => ok s
    | some c =>
      let s := setStn stn { x with wrapCtr := removeFirst (fun d => d == c) x.wrapCtr } s
      let k := c % 64
      let cls := bitsOf c 6 2
      let hi := if cls = 0 then R.STN_AO_HI stn (bitsOf c 16 4) (k % 8) else R.STN_PC_HI stn (k % 16)
      let s := if cls ≤ 1 then s.wrN hi (setBit (s.rdN hi) 17 false) else s
      ok (sendNote stn (c % 2 ^ 28 + 2 ^ 28) s)

/-- A COUNTER_WRAP NOTE arrives and the hub posts its event (R184, R387). -/
def execCounterWrapNoteArrival (stn : Nat) (s : State) : Outcome State Fault Refusal := s.act fun s =>
  match takeNote stn 1 s with
  | none => ok s
  | some (w, s) =>
    if !s.fb F.CTR_CTL_WRAP_EN then ok s
    else
      let dflt := s.fg F.CTR_CTL_WRAP_RING
      let cls := bitsOf w 6 2
      let ctx := bitsOf w 20 8
      let ring := if cls = 1 then ((s.ctrCopy stn (w % 16)).ring).getD dflt
        else if cls = 2 then (mget? s.dl.ctxRing ctx).getD dflt else dflt
      ok (postEvent ring ⟨10, stn + 2 ^ 16 * (w % 65536), s.ts, bitsOf w 16 4 + 2 ^ 8 * ctx, none⟩ s)

/-! ### Attribution controls (R187, R189, R200) -/

/-- Give a station the attribution controls in force: a change of ATTR_EN clears its table. -/
def giveAttr (n : Nat) (s : State) : State :=
  let en := s.fb F.CTR_CTL_ATTR_EN
  let s := if (s.stn n).attrEn == en then s else attrClear n s
  modStn n (fun x => { x with attrEn := en, attrLevels := s.fg F.CTR_CTL_ATTR_LEVELS
                              attrCtx := (List.range 8).map (fun i => s.rdN (R.ATTR_CTX_EN i)) }) s

/-- The hub distributes the controls to every station it can reach. -/
def shareAttr (s : State) : State := ((s.members 3 0).filter s.reachable).foldl (fun s n => giveAttr n s) s

def ctrCtlWrite (v : Nat) (s : State) : State := shareAttr (plainWrite R.CTR_CTL (BitVec.ofNat 32 v) s)

def execCtrCtlWrite (id value : Nat) (s : State) : Outcome State Fault Refusal := s.act fun s =>
  ok (s.gate id R.CTR_CTL .operator (ctrCtlWrite value))

def attrCtxWrite (i v : Nat) (s : State) : State := shareAttr (s.wrN (R.ATTR_CTX_EN i) v)

def execAttrCtxEnWrite (id index8 value : Nat) (s : State) : Outcome State Fault Refusal := s.act fun s =>
  ok (s.gate id (R.ATTR_CTX_EN index8) .operator (attrCtxWrite index8 value))

end Sys2Proof.Machine
end

