-- ==== Sys2Proof/Machine/Trace.lean ====
section
/-! DEFINITION. Trace at the central hub and the station's TRACE_CMDs (chapter 9): ownership and the trace registers, the
ring's freeze and clear, the sequencer, capture state, comparators. STIM_WRITE stands with the heartbeats it is. -/

namespace Sys2Proof.Machine

open Host (Outcome)

/-! ### Freeze and clear (R213) -/

/-- Empty the ring: pointers, FROZEN, TRIGGERED, FULL, RD_OVERRUN, BSEQ (R227) and the per-station losses; ignored while RUN
is 1. -/
def clearRing (s : State) : State :=
  if s.fb F.TRC_STAT_RUN then s
  else
    let s := ((s.fs F.TRC_STAT_FROZEN 0).fs F.TRC_STAT_TRIGGERED 0).fs F.TRC_STAT_FULL 0
    let s := (s.fs F.TRC_STAT_RD_OVERRUN 0).wrN R.TRC_WR 0
    let s := modTrc (fun t => { t with blocks := [], bseq := 0, drained := 0, lost := [], wqLost := [], window := none }) s
    centralSync srcStim 7 (centralSync srcWriter 7 (showTrcPtrs s))

/-! ### The station's copies (R222) -/

def State.portCopy (s : State) (n : Nat) : List Nat := mget s.trace.portCopy n (List.replicate 16 0)

def sendPorts (n : Nat) (s : State) : State := sendTraceCmd 0 n 0 (s.portCopy n) s

def State.cmpWords (s : State) (c : Nat) : List Nat := s.rdWords (R.TRC_CMP_CTL c) 8

def sendCmp (group target c : Nat) (s : State) : State := sendTraceCmd group target 1 (c :: s.cmpWords c) s

def sendCtx (group target : Nat) (s : State) : State := sendTraceCmd group target 2 (s.rdWords (R.TRC_CTX_EN 0) 8) s

def sendParam (group target : Nat) (s : State) : State :=
  sendTraceCmd group target 3 [s.fg F.TRC_CTL_FLUSH + 2 ^ 4 * s.fg F.TRC_LL_HIGH + 2 ^ 12 * s.fg F.TRC_LL_LOW] s

/-- The whole trace configuration of one station, after its verification (R206, R587). -/
def resendTrace (n : Nat) (s : State) : State :=
  sendParam 0 n (sendCtx 0 n ((List.range 8).foldl (fun s c => sendCmp 0 n c s) (sendPorts n s)))

/-! ### Ownership (R221, R498) -/

/-- The ring passes to a tenant from another identity or from none (R498): cleared, and every configuration at reset. -/
def passToTenant (s : State) : State :=
  let s := clearRing s
  let s := (List.range 8).foldl (fun s c => s.wrWords (R.TRC_CMP_CTL c) (List.replicate 8 0)) s
  let s := (s.wrWords (R.SEQ_RULE 0 0) (List.replicate 8 0)).wr R.SEQ_LIMIT 0
  let s := s.wrWords (R.TRC_CTX_EN 0) (List.replicate 8 0)
  let ns := s.trace.portCopy.map (·.1)
  let s := modTrc (fun t => { t with portCopy := [] }) s
  let s := ns.foldl (fun s n => sendPorts n s) s
  sendCtx 3 0 ((List.range 8).foldl (fun s c => sendCmp 3 0 c s) s)

/-- An identity becomes the owner. -/
def takeRing (id cls : Nat) (s : State) : State :=
  if s.fg F.TRC_OWNER_ID == id then s
  else
    let s := s.fs F.TRC_OWNER_ID id
    if cls ≤ 1 then passToTenant s else s

/-- A register-window write of a trace register (R221, R224): an operator's takes ownership, a tenant owner's is taken
within R221's limits, any other is refused. -/
def trcGate (id a : Nat) (f : Bool → State → State) (s : State) : State :=
  if !s.windowOpen then s
  else
    let cls := s.classOf id
    if 2 ≤ cls then f false (takeRing id cls s)
    else if cls = 1 && s.fg F.TRC_OWNER_ID == id then f true s
    else refuseAccess id a s

/-! ### Register writes (R222, R224). `ten` says that a tenant owner writes. -/

def trcCtlWrite (v : Nat) (ten : Bool) (s : State) : State :=
  if ten then s
  else
    let s := s.wrN R.TRC_CTL (v % 2 ^ 14)
    let s := sendParam 3 0 s
    let s := if bitOf v 14 then freezeRing false s else s
    if bitOf v 15 then clearRing s else s

def execTrcCtlWrite (id value : Nat) (s : State) : Outcome State Fault Refusal := s.act fun s =>
  ok (trcGate id R.TRC_CTL (trcCtlWrite value) s)

def execTrcFreeze (id : Nat) (s : State) : Outcome State Fault Refusal := s.act fun s =>
  ok (trcGate id R.TRC_CTL (fun ten s => if ten then s else freezeRing false s) s)

def execTrcClear (id : Nat) (s : State) : Outcome State Fault Refusal := s.act fun s =>
  ok (trcGate id R.TRC_CTL (fun ten s => if ten then s else clearRing s) s)

/-- TRC_PORT_p of the selected station: a tenant sets CMD and STALE alone; LOSSLESS is for CONTROL ports (R220, R221). -/
def trcPortWrite (p v : Nat) (ten : Bool) (s : State) : State :=
  let n := s.fg F.TRC_SEL_STN
  if (ten && v % 32 / 4 != 0) || (bitOf v 4 && s.unitType (16 * n + p) != 1) then s
  else sendPorts n (modTrc (fun t => { t with portCopy := mput t.portCopy n (setAt 0 (s.portCopy n) p (v % 32)) }) s)

def execTrcPortWrite (id port value : Nat) (s : State) : Outcome State Fault Refusal := s.act fun s =>
  ok (trcGate id (R.TRC_PORT port) (trcPortWrite port value) s)

/-- Mask of a comparator word's defined bits. -/
def cmpMask (w : Nat) : Nat := if w = 0 then 2 ^ 29 else if w = 3 then 2 ^ 16 else 2 ^ 32

def trcCmpWrite (c w v : Nat) (ten : Bool) (s : State) : State :=
  if ten && w = 0 && !([0, 1, 4, 7].contains (v % 8)) then s
  else sendCmp 3 0 c (s.wrN (R.TRC_CMP_CTL c + 4 * w) (v % cmpMask w))

/-- One word of a comparator by a master: the low word of VAL or VMASK is held until the high word is written (R5). -/
def trcCmpReg (id c w v : Nat) (ten : Bool) (s : State) : State :=
  let a := R.TRC_CMP_CTL c + 4 * w
  if w = 4 || w = 6 then holdWide id a false [v] s
  else if w = 5 || w = 7 then
    let s := match s.wideOf id (a - 4) false with
      | some ws => trcCmpWrite c (w - 1) (ws.headD 0) ten (dropWide id (a - 4) false s)
      | none => s
    trcCmpWrite c w v ten s
  else trcCmpWrite c w v ten s

def execTrcCmpWrite (id cmp word value : Nat) (s : State) : Outcome State Fault Refusal := s.act fun s =>
  ok (trcGate id (R.TRC_CMP_CTL cmp + 4 * word) (trcCmpReg id cmp word value) s)

/-- A context bound to an identity (R197). -/
def State.boundTo (s : State) (ctx id : Nat) : Bool := mget s.dl.ctxOwner ctx 0x3F == id

def trcCtxWrite (id i v : Nat) (ten : Bool) (s : State) : State :=
  if ten && (List.range 32).any (fun j => bitOf v j && !s.boundTo (32 * i + j) id) then s
  else sendCtx 3 0 (s.wrN (R.TRC_CTX_EN i) v)

def execTrcCtxEnWrite (id index8 value : Nat) (s : State) : Outcome State Fault Refusal := s.act fun s =>
  ok (trcGate id (R.TRC_CTX_EN index8) (trcCtxWrite id index8 value) s)

/-- TRC_LL: LOW below HIGH, HIGH at most 40, else the write is ignored. -/
def trcLlWrite (v : Nat) (ten : Bool) (s : State) : State :=
  let hi := v % 64
  let lo := bitsOf v 8 6
  if ten || 40 < hi || hi ≤ lo then s else sendParam 3 0 (s.wrN R.TRC_LL (hi + 2 ^ 8 * lo))

def execTrcLlWrite (id value : Nat) (s : State) : Outcome State Fault Refusal := s.act fun s =>
  ok (trcGate id R.TRC_LL (trcLlWrite value) s)

/-- TRC_RD: any block start between TRC_OLD and TRC_WR; under STOP what lies before it is free (R211, R214). -/
def trcRdWrite (v : Nat) (ten : Bool) (s : State) : State :=
  let pos := v % 2 ^ 24 / 64 * 64
  if ten then s
  else match s.trace.blocks.findIdx? (fun b => b.pos == pos) with
    | some i => freeDrained (showTrcPtrs (modTrc (fun t => { t with drained := i }) s))
    | none =>
      if pos = s.rdN R.TRC_WR then freeDrained (showTrcPtrs (modTrc (fun t => { t with drained := t.blocks.length }) s)) else s

def execTrcRdWrite (id value : Nat) (s : State) : Outcome State Fault Refusal := s.act fun s =>
  ok (trcGate id R.TRC_RD (trcRdWrite value) s)

/-! ### The sequencer (R217) -/

/-- Arm at S0 with SEQ_COUNT 0; AUTO_START performs START. -/
def armSeq (s : State) : State :=
  let s := (((s.fs F.SEQ_CTL_ARM 1).fs F.SEQ_STAT_STATE 0).fs F.SEQ_STAT_ARMED 1).fs F.SEQ_STAT_EVENTS 0
  let s := modTrc (fun t => { t with events := [], timeFired := 0 }) (s.wr R.SEQ_COUNT 0)
  if s.fb F.SEQ_CTL_AUTO_START then setCapture true s else s

/-- STOP and disarm. -/
def disarmSeq (s : State) : State :=
  modTrc (fun t => { t with events := [] }) (((setCapture false s).fs F.SEQ_CTL_ARM 0).fs F.SEQ_STAT_ARMED 0)

/-- A write of SEQ_CTL: AUTO_START first, then ARM. -/
def seqCtlWrite (v : Nat) (s : State) : State :=
  let s := s.fs F.SEQ_CTL_AUTO_START (bitsOf v 1 1)
  if bitOf v 0 then armSeq s else disarmSeq s

/-- A master's write of a central trace register (R224), `ten` for a tenant owner: R221 lets it use what the functions above take
from it, and the sequencer's rules, limit and TRC_SEL (log entry). STIM_n is no part of this. -/
def trcRegWrite (id a v : Nat) (ten : Bool) (s : State) : State :=
  let o := a - R.TRC_CTL
  let plain := plainWrite a (BitVec.ofNat 32 v) s
  if o = 0 then trcCtlWrite v ten s
  else if o = 0x18 then trcRdWrite v ten s
  else if o = 0x34 then trcLlWrite v ten s
  else if o = 0x40 then seqCtlWrite v s
  else if o = 0x4C || (0x60 ≤ o && o < 0x80) || o = 0x300 then plain
  else if 0x80 ≤ o && o < 0xA0 then trcCtxWrite id ((o - 0x80) / 4) v ten s
  else if 0x100 ≤ o && o < 0x200 then trcCmpReg id ((o - 0x100) / 0x20) (o % 0x20 / 4) v ten s
  else if 0x340 ≤ o && o < 0x380 then trcPortWrite ((o - 0x340) / 4) v ten s
  else if ten then s else plain

def execSeqArm (id : Nat) (s : State) : Outcome State Fault Refusal := s.act fun s =>
  ok (trcGate id R.SEQ_CTL (fun _ s => armSeq s) s)

def execSeqDisarm (id : Nat) (s : State) : Outcome State Fault Refusal := s.act fun s =>
  ok (trcGate id R.SEQ_CTL (fun _ s => disarmSeq s) s)

/-- Does rule r of state st match an event. -/
def State.ruleMatches (s : State) (st r : Nat) (e : SeqEvent) : Bool :=
  s.fb (F.SEQ_RULE_EN st r) && bitOf (s.fg (F.SEQ_RULE_MATCH st r)) e.cmp &&
    (!s.fb (F.SEQ_RULE_CNT_COND st r) || decide (s.rdN R.SEQ_LIMIT ≤ s.rdN R.SEQ_COUNT))

/-- The actions of a rule in their order: COUNT, CNT_CLR, START, STOP, TRIGGER, NEXT. -/
def ruleActions (st r : Nat) (e : SeqEvent) (s : State) : State :=
  let s := if s.fb (F.SEQ_RULE_COUNT st r) then s.wrN R.SEQ_COUNT ((s.rdN R.SEQ_COUNT + 1) % 2 ^ 32) else s
  let s := if s.fb (F.SEQ_RULE_CNT_CLR st r) then s.wr R.SEQ_COUNT 0 else s
  let s := if s.fb (F.SEQ_RULE_START st r) then setCapture true s else s
  let s := if s.fb (F.SEQ_RULE_STOP st r) then setCapture false s else s
  let s := if s.fb (F.SEQ_RULE_TRIGGER st r) then triggerAction (st + 4 * r) e (s.rdN R.SEQ_COUNT) s else s
  s.fs F.SEQ_STAT_STATE (s.fg (F.SEQ_RULE_NEXT st r))

def execSequencerEvent (s : State) : Outcome State Fault Refusal := s.act fun s =>
  match s.trace.events with
  | [] => ok s
  | e :: rest =>
    let s := modTrc (fun t => { t with events := rest }) s
    if !s.fb F.SEQ_STAT_ARMED then ok s
    else
      let s := s.fsat F.SEQ_STAT_EVENTS 1
      let st := s.fg F.SEQ_STAT_STATE
      if s.ruleMatches st 0 e then ok (ruleActions st 0 e s)
      else if s.ruleMatches st 1 e then ok (ruleActions st 1 e s)
      else ok s

/-- A TIME comparator whose VAL the TS has reached fires once per arming (R215). -/
def fireTime (c : Nat) (s : State) : State :=
  if s.fg (F.TRC_CMP_CTL_SRC c) == 7 && !bitOf s.trace.timeFired c && decide (cmpVal (s.cmpWords c) ≤ s.ts) then
    pushSeq { cmp := c, central := true } (modTrc (fun t => { t with timeFired := setBit t.timeFired c true }) s)
  else s

def execTimeComparatorMatch (s : State) : Outcome State Fault Refusal := s.act fun s =>
  if !s.fb F.SEQ_STAT_ARMED then ok s else ok ((List.range 8).foldl (fun s c => fireTime c s) s)

/-- A station sends its pending hits in a NOTICE slot that no FAULT or COUNTER_WRAP takes (R216). -/
def execTriggerNoteSend (stn : Nat) (s : State) : Outcome State Fault Refusal := s.act fun s =>
  let x := s.stn stn
  if !s.stnSends stn || !s.noticeSlot stn || !x.announce.isEmpty || !x.wrapCtr.isEmpty || x.trace.hits = 0 then ok s
  else
    let w := noteWord 2 (x.trace.hits + 2 ^ 8 * x.trace.hitN) x.trace.hitPort x.trace.hitCtx
    ok (sendNote stn w (setStn stn { x with trace := { x.trace with hits := 0, hitN := 0, hitPort := 0, hitCtx := 0 } } s))

/-- Each hit of a TRIGGER NOTE is an event, in ascending comparator order. -/
def execTriggerNoteArrival (stn : Nat) (s : State) : Outcome State Fault Refusal := s.act fun s =>
  match takeNote stn 2 s with
  | none => ok s
  | some (w, s) => ok ((bitsSet 8 w).foldl (fun s c =>
      pushSeq { cmp := c, central := false, stn := stn, port := bitsOf w 16 4, ctx := bitsOf w 20 8 } s) s)

/-! ### The ring writer's rows (R210, R227) -/

def execCentralBatchWrite (s : State) : Outcome State Fault Refusal := s.act fun s =>
  ok (writeBatch s)

/-- Ring back-pressure is active (R568). -/
def State.ringHeld (s : State) : Bool :=
  s.fb F.SEC_CTL_TEST_EN && s.fb F.PTB_CTL_RING_EN && s.fg F.PTB_RING_HOLD != 0

/-- Bytes of blocks in the writer queue. -/
def State.wqBytes (s : State) : Nat := (s.trace.wq.map (fun m => 64 * blockLines (traceBytes m.2.1).length)).sum

/-- Losses of cause 7 whose place in the order of a station's blocks has come. -/
def bringLoss (stn : Nat) (l : Option Loss) (s : State) : State :=
  match l with
  | none => s
  | some l => modTrc (fun t => match addLoss (mget? t.lost (lossKey stn 7)) stn l.count l.first l.last with
    | some o => { t with lost := mput t.lost (lossKey stn 7) { o with name := stn } }
    | none => t) s

/-- A message finds the writer queue full (R208 cause 7): the GAP comes behind what the queue holds of its station. -/
def loseQueued (stn : Nat) (s : State) : State :=
  (modTrc (fun t => match addLoss (mget? t.wqLost stn) stn 1 s.ts s.ts with
    | some o => { t with wqLost := mput t.wqLost stn { o with name := stn } }
    | none => t) s).fsat F.TRC_DROP_MSGS 1

/-- A TRACE message's TAIL has arrived: a block is written, or waits in the 16 KiB writer queue of a perturbed writer. What the station has
lost at that queue comes before it (R209). -/
def execTraceMessageArrival (stn : Nat) (s : State) : Outcome State Fault Refusal := s.act fun s =>
  match takeAir stn 0 s with
  | none => ok s
  | some (m, s) =>
    if s.ringHeld || !s.trace.wq.isEmpty then
      if s.wqBytes + 64 * blockLines (traceBytes m).length ≤ 16384 then
        ok (modTrc (fun t => { t with wq := t.wq ++ [(stn, m, mget? t.wqLost stn)], wqLost := mdel t.wqLost stn }) s)
      else ok (loseQueued stn s)
    else
      let l := mget? s.trace.wqLost stn
      ok (writeStationBlock s.ts stn m (bringLoss stn l (modTrc (fun t => { t with wqLost := mdel t.wqLost stn }) s)))

/-! ### At stations (R203, R218, R222) -/

/-- A message closes FLUSH frames after the cycle of its first packet (R203); 0 acts as 1. -/
def execTraceMessageFlush (stn : Nat) (s : State) : Outcome State Fault Refusal := s.act fun s =>
  let t := (s.stn stn).trace
  if !t.openBytes.isEmpty && decide (t.openCyc + 512 * max 1 t.flush ≤ s.spineCyc) then ok (closeTrace stn s) else ok s

/-- At START a port already off or in reset forms POWER_GAP, an excluded one EXCLUDED (R203). -/
def startPort (stn p : Nat) (s : State) : State :=
  let u := 16 * stn + p
  let q := s.port u
  if q.ty = 7 then s
  else if !q.on then portPacket u [pktHead 9 p, 0] q s
  else if q.rst then portPacket u [pktHead 9 p, 1] q s
  else if q.excl then portPacket u [pktHead 0xD p] q s
  else s

/-- One change of the capture state at a station (R218). START makes every enabled source write a SYNC, and forms
POWER_GAP and EXCLUDED for ports already in that state; STOP closes the open message and ends every hold. -/
def applyAction (stn : Nat) (run : Bool) (act : Nat) (s : State) : State :=
  let was := (s.stn stn).trace.run
  let s := modStn stn (fun x => { x with trace := { x.trace with run := run, actId := act } }) s
  let s := s.fs (F.STN_TRC_STAT_RUN stn) (b2n run)
  if run then
    if was then s else (List.range 16).foldl (fun s p => startPort stn p s) (syncStn stn 0 s)
  else
    let s := closeTrace stn s
    if s.fb (F.STN_TRC_STAT_HOLD stn) then releaseHold stn s else s

/-- The changes of the capture state whose frame has come are applied (R218), each two frames after the one in which it was first seen. -/
def execCaptureStateApply (stn : Nat) (s : State) : Outcome State Fault Refusal := s.act fun s =>
  let due := (s.stn stn).trace.actNext.filter (fun c => s.frameDue c.2.2)
  let s := modStn stn (fun x => { x with trace := { x.trace with actNext := x.trace.actNext.filter (fun c => !s.frameDue c.2.2) } }) s
  ok (due.foldl (fun s c => applyAction stn c.1 c.2.1 s) s)

/-- A TRACE_CMD of SUB `sub` is received and waits for the next frame boundary. -/
def pendTrace (n sub : Nat) (s : State) : State :=
  match takeInbox n 7 (fun m => m.head % 16 == sub) s with
  | none => s
  | some (m, s) => modStn n (fun x => { x with trace := { x.trace with cfgPend := x.trace.cfgPend ++ [(s.frameNow + 1, sub, m.words)] } }) s

def execStationTracePorts (stn : Nat) (s : State) : Outcome State Fault Refusal := s.act fun s =>
  ok (pendTrace stn 0 s)

def execStationTraceCmp (stn : Nat) (s : State) : Outcome State Fault Refusal := s.act fun s =>
  ok (pendTrace stn 1 s)

def execStationTraceCtx (stn : Nat) (s : State) : Outcome State Fault Refusal := s.act fun s =>
  ok (pendTrace stn 2 s)

def execStationTraceParam (stn : Nat) (s : State) : Outcome State Fault Refusal := s.act fun s =>
  ok (pendTrace stn 3 s)

/-- RESYNC: a SYNC for every enabled source (R205). -/
def execStationTraceResync (stn : Nat) (s : State) : Outcome State Fault Refusal := s.act fun s =>
  match takeInbox stn 7 (fun m => m.head % 16 == 4) s with
  | none => ok s
  | some (_, s) => ok (syncStn stn 3 s)

/-- Apply one received configuration. A clear of LOSSLESS ends every hold (R220). -/
def applyTrace (n sub : Nat) (ws : List Nat) (s : State) : State :=
  let t := (s.stn n).trace
  if sub = 0 then
    let was := (List.range 16).map (fun p => s.portSrcs n p)
    let cleared := (List.range 16).any (fun p => bitOf (t.portCfg p) 4 && !bitOf (ws.getD p 0) 4)
    let s := modStn n (fun x => { x with trace := { t with ports := ws.take 16 } }) s
    let s := if t.run then
        (List.range 16).foldl (fun s p =>
          let new := (s.portSrcs n p).filter (fun src => !(was.getD p []).contains src)
          modStn n (fun x => { x with trace := new.foldl (fun t src => syncDue p src 0 t) x.trace }) s) s
      else s
    if s.fb (F.STN_TRC_STAT_HOLD n) && cleared then releaseHold n s else s
  else if sub = 1 then
    let c := ws.getD 0 0 % 8
    let w := ws.drop 1
    let ctl := w.getD 0 0
    let mine := (s.members (bitsOf ctl 8 2) (bitsOf ctl 10 10)).contains n
    modStn n (fun x => { x with trace := { t with cmps := (if mine && ctl % 8 != 0 then mput t.cmps c w else mdel t.cmps c) } }) s
  else if sub = 2 then modStn n (fun x => { x with trace := { t with ctxEn := ws.take 8 } }) s
  else
    let v := ws.getD 0 0
    modStn n (fun x => { x with trace := { t with flush := bitsOf v 0 4, high := bitsOf v 4 6, low := bitsOf v 12 6 } }) s

/-- At a frame boundary the station applies what it received before it (R222). -/
def execTraceConfigApply (stn : Nat) (s : State) : Outcome State Fault Refusal := s.act fun s =>
  let due := (s.stn stn).trace.cfgPend.filter (fun c => s.frameDue c.1)
  let s := modStn stn (fun x => { x with trace := { x.trace with cfgPend := x.trace.cfgPend.filter (fun c => !s.frameDue c.1) } }) s
  ok (due.foldl (fun s c => applyTrace stn c.2.1 c.2.2 s) s)

end Sys2Proof.Machine
end

