-- ==== Sys2Proof/Machine/Reduce.lean ====
section
/-! DEFINITION. Marver reductions (R75 to R78): requests, what each station contributes by SOURCE (R140, R193, R262), the
sample at the start frame, the combination of the contributions. REDUCTION_RESULT, whose end moves services on,
stands in Cuts. -/

namespace Sys2Proof.Machine

open Host (Outcome)

/-! ### Requests (R75) -/

def redWord (v : RedValue) : Nat := v.w + 2 ^ 4 * v.op + 2 ^ 8 * v.source

/-- Send the front request of the list, where it has not been sent: its start frame is the second after the one in which its TAIL leaves
(R75). A list above 253 values goes as two messages with one tag, and the TAIL is the second's. -/
def sendReduction (s : State) : State :=
  match s.spine.reds with
  | [] => s
  | r :: rest =>
    if r.startFrame.isSome || !s.spine.running then s
    else
      let ws := r.values.map redWord
      let f := s.applyFrame 3 0 (if ws.length ≤ 253 then 3 + ws.length else 6 + ws.length)
      let tag := (s.spine.redTag + 1) % 256
      let s := { s with spine := { s.spine with redTag := tag, reds := { r with startFrame := some f, tag := tag } :: rest } }
      let head := [f % 2 ^ 32, r.group + 2 ^ 2 * r.target]
      if ws.length ≤ 253 then sendDown 3 0 3 tag (head ++ ws) s
      else sendDown 3 0 3 tag (head ++ ws.drop 253) (sendDown 3 0 3 (tag + 2 ^ 8) (head ++ ws.take 253) s)

/-- Ask for a reduction: they run one at a time, in request order. -/
def requestReduction (group target : Nat) (values : List RedValue) (use : RedUse) (s : State) : State :=
  let r : Reduction := { tag := 0, group := group, target := target, values := values, use := use }
  sendReduction { s with spine := { s.spine with reds := s.spine.reds ++ [r] } }

/-- A station receives a REDUCE_REQ (R75): a second message with the tag of one that announced MORE joins it. -/
def execStationReduceReq (stn : Nat) (s : State) : Outcome State Fault Refusal := s.act fun s =>
  match takeInbox stn 3 (fun _ => true) s with
  | none => ok s
  | some (m, s) =>
    let tag := m.head % 256
    let more := bitOf m.head 8
    let mg := m.words.getD 1 0
    let ws := m.words.drop 2
    let x := s.stn stn
    let reds := if x.reds.any (fun r => r.tag == tag && r.more) then
        x.reds.map (fun r => if r.tag == tag && r.more then { r with words := r.words ++ ws, more := more, frame := s.frameNow } else r)
      else x.reds ++ [⟨tag, m.words.getD 0 0, mg % 4, bitsOf mg 2 10, ws, more, s.frameNow⟩]
    ok (setStn stn { x with reds := reds } s)

/-- A message with MORE and no partner within 4 frames leaves no valid request (R75). -/
def execReducePartnerTimeout (stn : Nat) (s : State) : Outcome State Fault Refusal := s.act fun s =>
  ok (modStn stn (fun x => { x with reds := x.reds.filter (fun r => !(r.more && decide (r.frame + 4 ≤ s.frameNow))) }) s)

/-! ### Contributions (R77, R193, R262) -/

/-- Field of a held cell by R262. -/
def striaField (c : Cell) (f : Nat) : Nat :=
  match f with
  | 0 => c.count | 1 => c.nan | 2 => c.pinf | 3 => c.ninf | 4 => c.zero | 5 => c.subn
  | 6 => c.min | 7 => c.max | 8 => c.maxabs | 9 => c.sum | 10 => c.digest
  | 11 => b2n c.sumOvf + 2 * b2n c.cntSat + 4 * b2n c.histSat
  | _ => if 16 ≤ f then c.hist.getD (f - 16) 0 else 0

/-- An entry is held for the read of the last settle (R261): its slot and its RTAG. -/
def Station.holdsEntry (x : Station) (e : StnEntry) : Bool :=
  e.slot == x.stria.settled.1 && e.held == some x.stria.settled.2

/-- The merge of a station's held entries for a cell; none where it holds no entry. -/
def Station.heldCell (x : Station) (cell : Nat) : Cell :=
  (x.stria.entries.filter (fun e => x.holdsEntry e && e.cell == cell)).foldl (fun c e => cellMerge c e.val) {}

/-- What a station supplies for a SOURCE; none where it cannot (R193). -/
def State.sourceVal (s : State) (n src : Nat) : Option Nat :=
  let x := s.stn n
  let dom := src >>> 20
  let cut := bitOf src 11
  let held := s.fb (F.STN_CTR_STAT_CUT_VALID n)
  if dom = 1 then
    let k := src % 8
    let mode := bitsOf src 9 2
    let port := bitsOf src 16 4
    let ports := (List.range 16).filter (fun p => (x.port p).ty != 7 &&
      (mode == 0 || (mode == 1 && p == port) || (mode == 2 && (x.port p).ty == bitsOf src 13 3)))
    if (mode = 1 && ports.isEmpty) || (cut && !held) then none
    else some ((ports.map (fun p => if cut then mget x.cutCtr (8 * p + k) 0 else s.aoVal (16 * n + p) k)).sum)
  else if dom = 2 then
    let i := src % 16
    if cut then (if held then some (mget x.cutCtr (128 + i) 0 % 2 ^ 48) else none) else some (s.pcSample n i).1
  else if dom = 3 then
    match x.keys[src % 64]? with
    | none => none
    | some (w0, w1) =>
      let special := bitsOf w0 8 8
      let i := if special = 1 then some attrOther else if special = 2 then some attrOverflow
        else x.attrFind (w0 % 256) (bitsOf w1 0 16) (bitsOf w1 16 16)
      match i with
      | none => some 0
      | some i =>
        let e := mget x.attr i {}
        let f := bitsOf src 8 2
        some (if f = 0 then e.energy else if f = 1 then e.rd else if f = 2 then e.wr else e.cmds)
  else if src = 0x000600 then some (popCount 16 (s.fg (F.STN_SH_STAT_ACK_PEND n)))
  else if bitsOf src 17 3 = 7 then some (striaField (x.heldCell (src % 2 ^ 12)) (bitsOf src 12 5))
  else none

/-- Does a station hold the valid request of a reduction: the whole of it, where it came as two messages (R75, R77). -/
def Station.holdsRed (x : Station) (r : Reduction) : Bool :=
  x.reds.any (fun q => q.tag == r.tag && !q.more && q.start == r.startFrame.getD 0 % 2 ^ 32 && q.words.length == r.values.length)

/-- A reduction's sample at one station is taken (R75): the station can be reached and holds the request. -/
def State.contributes (s : State) (r : Reduction) (n : Nat) : Bool := s.reachable n && (s.stn n).holdsRed r

/-- The front reduction's sample (R75): every station with a valid request supplies its values, a non-member the identity;
one without marks every word MISS. The held entries that a station has contributed are freed (R261), and a clearing ENERGY_READ
clears the tables of the members that sampled at this cycle (R189). -/
def execReductionSample (s : State) : Outcome State Fault Refusal := s.act fun s =>
  match s.spine.reds with
  | [] => ok s
  | r :: rest =>
    match r.startFrame with
    | none => ok s
    | some f =>
      if !s.sampleDue f || !r.samples.isEmpty then ok s
      else
        let mem := s.members r.group r.target
        let ident (v : RedValue) : Nat := if v.op = 3 then 0xFFFFFFFF else 0
        let one (n : Nat) : List (Option Nat) :=
          if !s.contributes r n then r.values.map (fun _ => none)
          else if mem.contains n then r.values.map (fun v => s.sourceVal n v.source)
          else r.values.map (fun v => some (ident v))
        let all := s.slot.stns.map (·.1)
        let samples := all.map (fun n => (n, one n))
        let took := all.filter (s.contributes r)
        let s := { s with spine := { s.spine with reds := { r with samples := samples } :: rest } }
        let s := all.foldl (fun s n => modStn n (fun x => { x with reds := x.reds.filter (fun q => q.tag != r.tag) }) s) s
        match r.use with
        | .stria _ cells =>
          ok (took.foldl (fun s n => modStn n (fun x => { x with stria := { x.stria with
            entries := x.stria.entries.filter (fun e => !(x.holdsEntry e && cells.contains e.cell)) } }) s) s)
        | .command k =>
          match s.cmd? k with
          | some c => if c.opcode = 0x13 && bitOf (c.fld 0x12 1) 1 then ok ((mem.filter took.contains).foldl (fun s n => attrClear n s) s) else ok s
          | none => ok s
        | .lehr => ok s

/-! ### Combination (R77, R78) -/

/-- One stage: the combined word and whether it set SAT. -/
def redStage (v : RedValue) (a b : Nat) : Nat × Bool :=
  let m := 2 ^ (32 * v.w)
  if v.op = 0 then ((a + b) % m, decide (m ≤ a + b))
  else if v.op = 1 then
    let t := (a + b) % m
    let neg (x : Nat) : Bool := bitOf x (32 * v.w - 1)
    (t, neg a == neg b && neg t != neg a)
  else if v.op = 2 then (max a b, false)
  else if v.op = 3 then (min a b, false)
  else (a ||| b, false)

/-- Combine a list of contributions in stage order. -/
def redFold (v : RedValue) : Nat → Bool → List Nat → Nat × Bool
  | a, sat, [] => (a, sat)
  | a, sat, b :: bs =>
    let (t, o) := redStage v a b
    redFold v t (sat || o) bs

/-- Value i of a reduction and its flags: 1 SAT, 2 MISS. Each rib combines from its end upward, then the spine over the ribs; a rib that is
`gone`, DEGRADED or isolated when its words are due, gives the identity with MISS (R78). -/
def redValue (gone : Nat → Bool) (r : Reduction) (i : Nat) : Nat × Nat :=
  match r.values[i]? with
  | none => (0, 2)
  | some v =>
    let ident := if v.op = 3 then 0xFFFFFFFF else 0
    let parts := r.samples.map (fun p => (p.1, if gone (p.1 / 64) then none else p.2.getD i none))
    let ribs := (List.range 16).map (fun k => ((parts.filter (fun p => p.1 / 64 == k)).map (fun p => p.2.getD ident)).reverse)
    let done := (ribs.filter (fun l => !l.isEmpty)).map (fun l => redFold v (l.headD ident) false (l.drop 1))
    let (val, sat) := redFold v ident false (done.map (·.1))
    let miss := parts.any (fun p => p.2.isNone)
    (val, b2n (sat || done.any (·.2)) + 2 * b2n miss)

/-- Frame and slot of the last word of each value from frame F on (R76): 32 REDUCE slots in a frame, no value across one. -/
def redPlace : Nat → Nat → List RedValue → List (Nat × Nat)
  | _, _, [] => []
  | f, j, v :: vs =>
    let (f, j) := if j + v.w > 32 then (f + 1, 0) else (f, j)
    (f, j + v.w - 1) :: redPlace f (j + v.w) vs

/-- The next value of the front reduction is complete (R78), by its time. -/
def redDue (r : Reduction) (s : State) : Bool :=
  match r.startFrame with
  | none => false
  | some f =>
    !r.samples.isEmpty && (match (redPlace f 0 r.values)[r.results.length]? with
      | some (g, j) => decide (512 * g + 16 * j + 2 ≤ s.spineCyc)
      | none => false)

/-- Record the next value's result: LOST where the spine discarded a word of it (R78). -/
def redStep (gone : Nat → Bool) (r : Reduction) : Reduction :=
  let i := r.results.length
  let (v, fl) := redValue gone r i
  { r with results := r.results ++ [(v, fl + 4 * b2n (r.lost.contains i))] }

/-- The value whose word upstream REDUCE slot j of frame g carries, and the word's place in it (R76). -/
def redWordAt (r : Reduction) (g j : Nat) : Option (Nat × Nat) :=
  match r.startFrame with
  | none => none
  | some f =>
    (List.zip (List.range r.values.length) (List.zip r.values (redPlace f 0 r.values))).findSome? (fun p =>
      let w := p.2.1.w
      let (h, e) := p.2.2
      if h = g && decide (e + 1 ≤ j + w) && decide (j ≤ e) then some (p.1, j + w - 1 - e) else none)

/-- Every value with MISS, as a reduction without frames answers (R587). -/
def missAll (values : List RedValue) : List (Nat × Nat) := values.map (fun v => (if v.op = 3 then 0xFFFFFFFF else 0, 2))

/-- The bytes of a reduction result (R408). -/
def redBytes (ts : Nat) (values : List RedValue) (results : List (Nat × Nat)) : List Nat :=
  toLe 8 ts ++ toLe 2 values.length ++ toLe 6 0 ++
    (List.zip values results).flatMap (fun p => toLe 8 p.2.1 ++ toLe 1 p.2.2 ++ toLe 3 p.1.source ++ toLe 4 0)

/-- A COUNTER_REDUCE or an ENERGY_READ with REDUCE ends (R408). -/
def endReduceCmd (k : CmdKey) (ts : Nat) (values : List RedValue) (results : List (Nat × Nat)) (s : State) : State :=
  match s.cmd? k with
  | none => s
  | some c =>
    let part := results.any (fun r => bitOf r.2 1 || bitOf r.2 2)
    let bytes := redBytes ts values results
    finishWithBytes k (c.fld (if c.opcode = 0x13 then 0x20 else 0x18) 8) bytes (if part then 1 else 0) bytes.length s

end Sys2Proof.Machine
end

