-- ==== Sys2Proof/Machine/Stria.lean ====
section
/-! DEFINITION. The stria tensor watch at the central hub and its slot messages at stations (R244 to R267): arming and
disarming, the merge of TILE messages, settles and fences, the read procedure. -/

namespace Sys2Proof.Machine

open Host (Outcome)

def modStria (f : StriaState → StriaState) (s : State) : State := { s with stria := f s.stria }

/-! ### Slots at the hub (R244 to R246, R260, R265) -/

/-- The six words of a slot as the hub holds them. -/
def State.slotWords (s : State) (i : Nat) : List Nat := s.rdWords (R.STRIA_CFG i) 6

def State.slotCells (s : State) (i : Nat) : Nat := s.fg (F.STRIA_STORE_NCELL i)
def State.slotBase (s : State) (i : Nat) : Nat := s.fg (F.STRIA_STORE_BASE i)

/-- NCELL of a CFG word (R245). -/
def ncellOf (cfg : Nat) : Nat :=
  let w := [cfg]
  let nb := 2 ^ (slPlog w - slBshift w)
  if slMode w = 0 then 1 else if slMode w = 1 then slNsamp w else if slMode w = 2 then nb else slNsamp w * nb

/-- STRIA_STAT (R267). -/
def showStria (s : State) : State :=
  let armed := ((List.range 64).filter (fun i => s.fb (F.STRIA_CFG_ARMED i))).length
  let used := ((List.range 64).map (fun i => s.slotCells i)).sum
  (((s.fs F.STRIA_STAT_ARMED armed).fs F.STRIA_STAT_FREE (8192 - used)).fs F.STRIA_STAT_BUSY (b2n s.stria.running.isSome)).fs
    F.STRIA_STAT_WAITING (b2n (!s.stria.waiting.isEmpty))

/-- The runs allocated to slots other than `i`. -/
def State.otherRuns (s : State) (i : Nat) : List (Nat × Nat) :=
  ((List.range 64).filter (fun j => j != i && s.slotCells j != 0)).map (fun j => (s.slotBase j, s.slotCells j))

/-- The lowest base at which `n` cells are free beside the runs given: 0 or the end of a run (log entry 45). -/
def firstRun (n : Nat) (runs : List (Nat × Nat)) : Option Nat :=
  let cands := 0 :: runs.map (fun r => r.1 + r.2)
  let fits (b : Nat) : Bool := decide (b + n ≤ 8192) && runs.all (fun r => decide (b + n ≤ r.1) || decide (r.1 + r.2 ≤ b))
  (cands.filter fits).foldl (fun m b => match m with | none => some b | some a => some (min a b)) none

/-- Set the store cells of a slot to the identity, and its counts, LOST and PERTURBED as at an arming or a CLEAR. -/
def clearSlot (i : Nat) (s : State) : State :=
  let b := s.slotBase i
  let n := s.slotCells i
  let s := modStria (fun t => { t with cells := t.cells.filter (fun c => !(decide (b ≤ c.1) && decide (c.1 < b + n)))
                                       counts := mput t.counts i {} }) s
  ((s.fs (F.STRIA_SSTAT_LOST i) 0).fs (F.STRIA_SSTAT_TILES i) 0).fs (F.STRIA_SSTAT_PERTURBED i) (b2n s.perturbed)

/-- Every armed slot, and the read that runs, is marked while a perturbation is active (R263). -/
def markPerturbed (s : State) : State :=
  let s := modStria (fun t => { t with running := t.running.map (fun r => { r with perturbed := true }) }) s
  (List.range 64).foldl (fun s i => if s.fb (F.STRIA_CFG_ARMED i) then s.fs (F.STRIA_SSTAT_PERTURBED i) 1 else s) s

/-- Send a slot's words to a group (R265): word 0 names the apply frame, words 1 to 6 are the slot's; its number stands in HEAD [11:4],
where a SETTLE has its RTAG (log entry 110). -/
def sendSlot (copy : Bool) (group target f i : Nat) (s : State) : State :=
  sendDownAs copy group target 6 (16 * i) (f % 2 ^ 32 :: s.slotWords i) s

/-- Arm slot i (R265): the words, owner and allocation are the hub's at once; the store is set to the identity at the apply
frame, at once while frames are not running (R587). Answers the apply frame, or none where it is in force already. -/
def armSlot (i base owner : Nat) (cfg sel layer op hist : Nat) (s : State) : Option Nat × State :=
  let s := s.wrWords (R.STRIA_CFG i) [cfg / 2 * 2 + 1, sel, layer, op, hist, base + 2 ^ 16 * ncellOf cfg]
  let s := showStria (s.fs (F.STRIA_SSTAT_OWNER i) owner)
  if s.spine.running then
    let f := s.applyFrame 3 0 8
    (some f, sendSlot false 3 0 f i (modStria (fun t => { t with clears := t.clears.filter (·.2 != i) ++ [(f, i)] }) s))
  else (none, clearSlot i s)

/-- Disarm slot i (R265); FREE releases its allocation and owner (R412). -/
def disarmSlot (i : Nat) (free : Bool) (s : State) : Option Nat × State :=
  let s := s.fs (F.STRIA_CFG_ARMED i) 0
  let f := s.applyFrame 3 0 8
  let s' := if s.spine.running then sendSlot false 3 0 f i s else s
  let s' := if free then (s'.fs (F.STRIA_STORE_NCELL i) 0).fs (F.STRIA_SSTAT_OWNER i) 0x3F else s'
  (if s.spine.running then some f else none, showStria s')

/-- At a frame boundary: stores of newly armed slots are set to the identity, and arm and disarm commands complete at their
apply cycle (R404). -/
def striaFrame (s : State) : State :=
  let due := s.stria.clears.filter (fun c => s.frameDue c.1)
  let s := modStria (fun t => { t with clears := t.clears.filter (fun c => !s.frameDue c.1) }) s
  let s := due.foldl (fun s c => clearSlot c.2 s) s
  let cs := s.stria.applies.filter (fun c => s.frameDue c.1)
  let s := modStria (fun t => { t with applies := t.applies.filter (fun c => !s.frameDue c.1) }) s
  cs.foldl (fun s c => match s.cmd? c.2 with | some m => completeCmd c.2 0 m.result s | none => s) s

/-! ### Slots at a station -/

def execStationStriaSlot (stn : Nat) (s : State) : Outcome State Fault Refusal := s.act fun s =>
  match takeInbox stn 6 (fun m => m.head % 16 == 0) s with
  | none => ok s
  | some (m, s) => ok (modStn stn (fun x => { x with stria := { x.stria with
      slotPend := x.stria.slotPend ++ [(m.words.getD 0 0, bitsOf m.head 4 6 + 64 * b2n m.copy, m.words.drop 1)] } }) s)

def execStriaSlotApply (stn : Nat) (s : State) : Outcome State Fault Refusal := s.act fun s =>
  let due := (s.stn stn).stria.slotPend.filter (fun c => s.sampleDue c.1)
  let s := modStn stn (fun x => { x with stria := { x.stria with
    slotPend := x.stria.slotPend.filter (fun c => !s.sampleDue c.1) } }) s
  ok (due.foldl (fun s c => applySlot stn (c.2.1 % 64) (64 ≤ c.2.1) c.2.2 s) s)

/-! ### Settles at a station (R261) -/

def execStationStriaSettle (stn : Nat) (s : State) : Outcome State Fault Refusal := s.act fun s =>
  match takeInbox stn 6 (fun m => m.head % 16 == 1) s with
  | none => ok s
  | some (m, s) =>
    let w2 := m.words.getD 2 0
    ok (modStn stn (fun x => { x with stria := { x.stria with settlePend := x.stria.settlePend ++
      [(m.words.getD 0 0, m.words.getD 1 0 % 64, bitsOf w2 0 12, bitsOf w2 16 13, bitsOf m.head 4 8)] } }) s)

/-- The FENCE message: RTAG, the number of held entries, the bitmap of their cells. -/
def fenceMsg (slot first rtag : Nat) (held : List StnEntry) : UpMsg :=
  let word (k : Nat) : Nat := ((List.range 32).filter (fun b => held.any (fun e => e.cell == first + 32 * k + b))).foldl
    (fun v b => v + 2 ^ b) 0
  ⟨4, slot + 64, (rtag + 2 ^ 8 * held.length) :: (List.range 128).map word⟩

/-- One settle at the end of cycle 512F − 1: the pairs presented before 512F are absorbed, the entries in range are held and
their tiles marked SPLIT, and the FENCE message is formed. -/
def settleStn (n f slot first cnt rtag : Nat) (s : State) : State :=
  let edge := s.spine.startCyc + 512 * s.frameOf f
  let s := (List.range 16).foldl (fun s p =>
    let q := mget (s.stn n).stria.queues p []
    let mine (r : Pair) : Bool := r.slot == slot && decide (r.cyc < edge)
    let s := modStn n (fun x => { x with stria := { x.stria with queues := mput x.stria.queues p (q.filter (fun r => !mine r)) } }) s
    (q.filter mine).foldl (fun s r => absorbPair n p r s) s) s
  let x := s.stn n
  let hit (e : StnEntry) : Bool := e.slot == slot && decide (first ≤ e.cell) && decide (e.cell < first + cnt) && e.held.isNone
  let held := x.stria.entries.filter hit
  let st := { x.stria with
    settled := (slot, rtag)
    entries := x.stria.entries.map (fun e => if hit e then { e with held := some rtag } else e)
    tiles := x.stria.tiles.map (fun t =>
      if held.any (fun e => tileOf t e.port e.queue e.slot) then { t with split := true } else t) }
  offerMsg n (fenceMsg slot first rtag held) (setStn n { x with stria := st } s)

def execStriaSettle (stn : Nat) (s : State) : Outcome State Fault Refusal := s.act fun s =>
  let due := (s.stn stn).stria.settlePend.filter (fun c => s.sampleDue c.1)
  let s := modStn stn (fun x => { x with stria := { x.stria with
    settlePend := x.stria.settlePend.filter (fun c => !s.sampleDue c.1) } }) s
  ok (due.foldl (fun s c => settleStn stn c.1 c.2.1 c.2.2.1 c.2.2.2.1 c.2.2.2.2 s) s)

/-- Return one held entry: into the open entry of its key, or open again where its tile still stands; where the tile has
ended its partial goes to the hub in a TILE message that ends nothing (log entry 46). -/
def returnHeld (n : Nat) (e : StnEntry) (s : State) : State :=
  let x := s.stn n
  let e' := { e with held := none }
  let same (o : StnEntry) : Bool := o.port == e.port && o.queue == e.queue && o.slot == e.slot && o.cell == e.cell && o.held.isNone
  if x.stria.entries.any same then
    setStn n { x with stria := { x.stria with entries := replaceFirst same (fun o => { o with val := cellMerge o.val e.val }) x.stria.entries } } s
  else if x.stria.tiles.any (fun t => tileOf t e.port e.queue e.slot) then
    setStn n { x with stria := { x.stria with entries := x.stria.entries ++ [e'] } } s
  else offerMsg n ⟨4, e.slot, [e.port + 128 + 512, 0] ++ e.cell :: cellWords e.val⟩ s

def execStationStriaRelease (stn : Nat) (s : State) : Outcome State Fault Refusal := s.act fun s =>
  match takeInbox stn 6 (fun m => m.head % 16 == 2) s with
  | none => ok s
  | some (m, s) =>
    let rtag := bitsOf m.head 4 8
    let held := (s.stn stn).stria.entries.filter (fun e => e.held == some rtag)
    let s := modStn stn (fun x => { x with stria := { x.stria with entries := x.stria.entries.filter (fun e => e.held != some rtag) } }) s
    ok (held.foldl (fun s e => returnHeld stn e s) s)

/-! ### Merging in the store (R260) -/

/-- Merge one cell into the store cell of a slot; a cell outside its allocation goes nowhere. -/
def mergeStore (slot cell : Nat) (c : Cell) (s : State) : State :=
  if cell < s.slotCells slot then
    modStria (fun t => { t with cells := mmod t.cells (s.slotBase slot + cell) {} (fun o => cellMerge o c) }) s
  else s

/-- The entries of a TILE message. -/
def tileEntries (ws : List Nat) : List (Nat × Cell) :=
  (List.range (bitsOf (ws.getD 0 0) 9 7)).map (fun i =>
    let e := ws.drop (2 + 49 * i)
    (e.getD 0 0 % 4096, cellOfWords ((e.drop 1).take 48)))

/-- Merge a TILE message (R260): its entries, and in the LAST message of a tile the outcome. The tiles that an arming of an
armed slot ends belong to the store it clears (R265). -/
def mergeTile (m : UpMsg) (s : State) : State :=
  let slot := m.head % 64
  let w0 := m.words.getD 0 0
  if s.slotCells slot = 0 || (bitOf w0 8 && s.fb (F.STRIA_CFG_ARMED slot)) then s
  else
    let s := (tileEntries m.words).foldl (fun s e => mergeStore slot e.1 e.2 s) s
    if !bitOf m.head 7 then s
    else
      let b (i : Nat) : Nat := b2n (bitOf w0 i)
      let s := modStria (fun t => { t with counts := mmod t.counts slot {} (fun c => { c with
        tiles := c.tiles + 1, skipRate := min (c.skipRate + b 4) 0xFFFFFFFF, skipNocell := min (c.skipNocell + b 5) 0xFFFFFFFF
        aborted := min (c.aborted + b 6) 0xFFFFFFFF, split := min (c.split + b 7) 0xFFFFFFFF
        rangeElems := c.rangeElems + m.words.getD 1 0 }) }) s
      let s := (s.fsat (F.STRIA_SKIPS_RATE slot) (b 4)).fsat (F.STRIA_SKIPS_NOCELL slot) (b 5)
      s.fs (F.STRIA_SSTAT_TILES slot) ((s.fg (F.STRIA_SSTAT_TILES slot) + 1) % 2 ^ 16)

/-- Bytes the deferral buffer holds (R261). -/
def StriaRead.deferBytes (r : StriaRead) : Nat := (r.deferred.map (fun d => d.2.bytes)).sum

/-- A TILE message arrives: deferred behind its station's FENCE of the running read of its slot, merged otherwise. Where the
buffer of 64 KiB is full the message is merged and the result is LIVE. -/
def execStriaTileMessageArrival (stn : Nat) (s : State) : Outcome State Fault Refusal := s.act fun s =>
  match takeAir stn 4 s with
  | none => ok s
  | some (m, t) =>
    if bitOf m.head 6 then ok s
    else match t.stria.running with
      | some r =>
        if r.slot == m.head % 64 && (mget? r.fences stn).isSome then
          if r.deferBytes + m.bytes ≤ 65536 then
            ok (modStria (fun q => { q with running := some { r with deferred := r.deferred ++ [(stn, m)] } }) t)
          else
            let t := if r.overflow then t else t.fsat F.STRIA_DEFER_OVERFLOWS 1
            ok (mergeTile m (modStria (fun q => { q with running := some { r with live := true, overflow := true } }) t))
        else ok (mergeTile m t)
      | none => ok (mergeTile m t)

/-! ### Reading (R261 to R264) -/

/-- The 28 values of one held cell (R262). -/
def cellValues (cell : Nat) : List RedValue :=
  let src (f : Nat) : Nat := 0x0E0000 ||| f * 2 ^ 12 ||| cell
  (List.range 6).map (fun f => ⟨2, 0, src f⟩) ++ [⟨1, 3, src 6⟩, ⟨1, 2, src 7⟩, ⟨1, 2, src 8⟩, ⟨12, 1, src 9⟩, ⟨2, 0, src 10⟩, ⟨1, 4, src 11⟩] ++
    (List.range 16).map (fun i => ⟨1, 0, src (16 + i)⟩)

/-- The cell of 28 reduced values with their flags (R262): SAT saturates a count or a bin and sets its sticky flag. -/
def cellOfValues (vs : List (Nat × Nat)) : Cell :=
  let v (i : Nat) : Nat := (vs.getD i (0, 0)).1
  let sat (i : Nat) : Bool := bitOf (vs.getD i (0, 0)).2 0
  let cnt (i : Nat) : Nat := if sat i then cnt48 else min (v i) cnt48
  let past (i : Nat) : Bool := sat i || decide (cnt48 < v i)
  let bin (i : Nat) : Nat := if sat (12 + i) then 0xFFFFFFFF else v (12 + i)
  { count := cnt 0, nan := cnt 1, pinf := cnt 2, ninf := cnt 3, zero := cnt 4, subn := cnt 5
    min := v 6, max := v 7, maxabs := v 8, hist := (List.range 16).map bin, sum := v 9, digest := v 10
    large := decide (2 ^ 40 ≤ cnt 0), sumOvf := bitOf (v 11) 0 || sat 9
    cntSat := bitOf (v 11) 1 || (List.range 6).any past, histSat := bitOf (v 11) 2 || (List.range 16).any (fun i => sat (12 + i)) }

/-- Ask for the reductions of the next cells of the running read: 9 cells each. -/
def nextCells (r : StriaRead) (s : State) : State :=
  let cs := r.cells.take 9
  requestReduction 3 0 (cs.flatMap cellValues) (.stria r.rtag cs) s

/-- FLAGS of a result (R263). -/
def State.striaFlags (s : State) (r : StriaRead) : Nat :=
  let c := mget s.stria.counts r.slot {}
  let lost := r.lost || s.fb (F.STRIA_SSTAT_LOST r.slot)
  let part := lost || c.skipRate != 0 || c.skipNocell != 0 || c.aborted != 0 || c.lostMsgs != 0 || c.staleBeats != 0
  let pert := s.perturbed || r.perturbed || s.fb (F.STRIA_SSTAT_PERTURBED r.slot)
  b2n r.live + 2 * b2n lost + 4 * b2n pert + 8 * b2n r.clear + 16 * b2n part

/-- The result bytes: the header of R263 and the records of the range. -/
def striaResult (r : StriaRead) (ts flags : Nat) (s : State) : List Nat :=
  let c := mget s.stria.counts r.slot {}
  let cfg := s.rdN (R.STRIA_CFG r.slot)
  toLe 2 r.slot ++ toLe 1 (bitsOf cfg 1 4 + 16 * bitsOf cfg 5 2 + 64 * bitsOf cfg 7 1) ++ toLe 1 flags ++ toLe 2 r.first ++
  toLe 2 r.n ++ toLe 8 ts ++ toLe 8 c.tiles ++ toLe 4 c.skipRate ++ toLe 4 c.skipNocell ++ toLe 4 c.aborted ++ toLe 4 c.split ++
  toLe 8 c.rangeElems ++ toLe 4 c.staleBeats ++ toLe 4 c.fmtErr ++ toLe 4 c.lostMsgs ++
  toLe 2 (s.rdN (R.STRIA_HIST r.slot) % 2 ^ 12) ++ toLe 2 0 ++
  (List.range r.n).flatMap (fun i => bytesOfWords (cellWords (mget s.stria.cells (s.slotBase r.slot + r.first + i) {})))

/-- Is a read of a slot running or waiting (R414). -/
def State.slotReading (s : State) (i : Nat) : Bool :=
  s.stria.waiting.any (fun r => r.slot == i) || (match s.stria.running with | some r => r.slot == i | none => false)

/-- The STRIA_RESULT event of a finished read (R264, R387), then the completion: OK, or PARTIAL for any flag but CLEARED. -/
def finishStriaCmd (k : CmdKey) (slot flags ts : Nat) (s : State) : State :=
  let s := postEvent (s.fg (F.SQ_CFG_EQ k.ring)) ⟨4, slot + 2 ^ 8 * flags, s.ts, ts, none⟩ s
  completeCmd k (if flags - flags % 16 + flags % 8 = 0 then 0 else 1) 0 s

/-- The result of a read of a command: written to its buffer; the event and the completion follow the last
acknowledgement, or come at once where nothing is written. -/
def writeStriaResult (k : CmdKey) (slot flags ts : Nat) (bytes : List Nat) (s : State) : State :=
  match s.cmd? k with
  | none => s
  | some c =>
    if c.suppressed then finishStriaCmd k slot flags ts s
    else
      let s := modCmd k (fun c => { c with phase := .writing, table := [slot, flags, ts] }) s
      hostWriteBytes c.owner (c.fld 0x18 8) bytes (.result k) s

/-- The result, the clear, the deferred messages, the RELEASE: steps 7 and 8 of R261. The read no longer runs. -/
def concludeRead (r : StriaRead) (s : State) : State :=
  let (ts, s) := sampleTsOf r.frame s
  let flags := s.striaFlags r
  let bytes := striaResult r ts flags s
  let s := if r.clear then
      let b := s.slotBase r.slot + r.first
      let s := modStria (fun t => { t with cells := t.cells.filter (fun c => !(decide (b ≤ c.1) && decide (c.1 < b + r.n)))
                                           counts := mput t.counts r.slot {} }) s
      ((s.fs (F.STRIA_SSTAT_LOST r.slot) 0).fs (F.STRIA_SSTAT_TILES r.slot) 0).fs (F.STRIA_SSTAT_PERTURBED r.slot) (b2n s.perturbed)
    else s
  let s := r.deferred.foldl (fun s d => mergeTile d.2 s) s
  let s := if s.spine.running then sendDown 3 0 6 (2 + 16 * r.rtag) [] s else s
  let s := modStria (fun t => { t with running := none }) s
  match r.cmd with
  | some k => writeStriaResult k r.slot flags ts bytes s
  | none => { s with lehr := { s.lehr with striaOut := s.lehr.striaOut ++ [(r.slot, bytes)] } }

/-- Start one read (R261): its settle message, its deadline from the TS of 512F; stations that cannot be reached are LOST at
once, and with frames not running every station is (R587). Answers whether it has already ended. -/
def startRead (r : StriaRead) (s : State) : Bool × State :=
  let rtag := (s.stria.rtag + 1) % 256
  let f := s.applyFrame 3 0 4
  let all := s.members 3 0
  let left := all.filter s.reachable
  let lost := decide (left.length < all.length)
  let s := modStria (fun t => { t with rtag := rtag }) s
  if !s.spine.running then
    (true, concludeRead { r with rtag := rtag, lost := true } s)
  else if left.isEmpty then (true, concludeRead { r with rtag := rtag, frame := f, lost := true } s)
  else
    let deadline := s.tsOfSpine (512 * f) + s.scaled .service (1000 * s.fg F.STRIA_BUDGET_BUDGET)
    let r := { r with rtag := rtag, frame := f, left := left, lost := lost, deadline := deadline, perturbed := s.perturbed }
    let s := modStria (fun t => { t with running := some r }) s
    (false, sendDown 3 0 6 (1 + 16 * rtag) [f % 2 ^ 32, r.slot, r.first + 2 ^ 16 * r.n] s)

/-- Every fence is in or lost: the reductions of the held cells, or the end of the read where nothing is held. -/
def fencesDone (r : StriaRead) (s : State) : State :=
  let cells := ((List.range r.n).map (fun i => r.first + i)).filter (fun c => r.fences.any (fun f => f.2.contains c))
  let r := { r with cells := cells }
  let s := modStria (fun t => { t with running := some r }) s
  if cells.isEmpty then concludeRead r s else nextCells r s

/-- The body of STRIA_ARM once no read of its slot runs or waits (R411, R414): BUSY where the store has no run. -/
def armCmd (k : CmdKey) (s : State) : State :=
  match s.cmd? k with
  | none => s
  | some c =>
    let i := c.fld 0x10 1 % 64
    let cfg := c.fld 0x14 4
    match firstRun (ncellOf cfg) (s.otherRuns i) with
    | none => completeCmd k 5 0 s
    | some base =>
      let res := base + 2 ^ 16 * ncellOf cfg
      let (f, s) := armSlot i base c.owner cfg (c.fld 0x18 4) (c.fld 0x1C 4) (c.fld 0x20 4) (c.fld 0x24 4) s
      match f with
      | none => completeCmd k 0 res s
      | some f => modStria (fun t => { t with applies := t.applies ++ [(f, k)] })
          (modCmd k (fun c => { c with phase := .running 0, result := res }) s)

/-- The body of STRIA_DISARM (R412, R414). -/
def disarmCmd (k : CmdKey) (s : State) : State :=
  match s.cmd? k with
  | none => s
  | some c =>
    let (f, s) := disarmSlot (c.fld 0x10 1 % 64) (bitOf (c.fld 0x11 1) 0) s
    match f with
    | none => completeCmd k 0 0 s
    | some f => modStria (fun t => { t with applies := t.applies ++ [(f, k)] }) (modCmd k (fun c => { c with phase := .running 0 }) s)

/-- Take an ARM or DISARM now, or hold it behind the read of its slot (R414). -/
def changeSlot (k : CmdKey) (s : State) : State :=
  match s.cmd? k with
  | none => s
  | some c =>
    if s.slotReading (c.fld 0x10 1 % 64) then modStria (fun t => { t with held := t.held ++ [k] }) s
    else if c.opcode = 0x30 then armCmd k s else disarmCmd k s

/-- Start waiting reads while none runs. -/
def pumpReads : Nat → State → State
  | 0, s => s
  | k + 1, s =>
    match s.stria.running, s.stria.waiting with
    | none, r :: rest => pumpReads k (startRead r (modStria (fun t => { t with waiting := rest }) s)).2
    | _, _ => s

/-- After a read: the next one, and the slot changes that were held. -/
def afterRead (s : State) : State :=
  if s.stria.running.isSome then showStria s
  else
    let s := pumpReads (s.stria.waiting.length + 1) s
    let hs := s.stria.held
    showStria (hs.foldl (fun s k => changeSlot k s) (modStria (fun t => { t with held := [] }) s))

/-- Ask for a read of `n` cells from `first` of a slot: reads run one at a time, in request order. -/
def askRead (slot first n : Nat) (clear : Bool) (cmd : Option CmdKey) (s : State) : State :=
  afterRead (modStria (fun t => { t with waiting := t.waiting ++ [{ slot := slot, first := first, n := n, clear := clear, cmd := cmd }] }) s)

/-- The cells of one reduction of the running read are in (R261, R262): merged into the store; MISS or LOST marks the result. -/
def striaReduced (rtag : Nat) (cells : List Nat) (results : List (Nat × Nat)) (s : State) : State :=
  match s.stria.running with
  | none => s
  | some r =>
    if r.rtag != rtag then s else
    let lost := results.any (fun v => bitOf v.2 1 || bitOf v.2 2)
    let s := (List.zip (List.range cells.length) cells).foldl (fun s p =>
      mergeStore r.slot p.2 (cellOfValues ((results.drop (28 * p.1)).take 28)) s) s
    let r := { r with lost := r.lost || lost, cells := r.cells.drop cells.length }
    let s := modStria (fun t => { t with running := some r }) s
    if r.cells.isEmpty then afterRead (concludeRead r s) else nextCells r s

/-- The cells of a fence: those set in its bitmap (R261). -/
def fenceCells (first : Nat) (ws : List Nat) : List Nat :=
  (List.range 128).flatMap (fun k => (bitsSet 32 (ws.getD (1 + k) 0)).map (fun b => first + 32 * k + b))

/-- A FENCE arrives (R261). One that comes after STRIA_BUDGET comes late (R110): the stations still missing are LOST. -/
def execStriaFenceArrival (stn : Nat) (s : State) : Outcome State Fault Refusal := s.act fun s =>
  match takeAir stn 4 s with
  | none => ok s
  | some (m, t) =>
    if !bitOf m.head 6 then ok s
    else match t.stria.running with
      | none => ok t
      | some r =>
        if !r.left.contains stn || m.words.getD 0 0 % 256 != r.rtag then ok t
        else
          if s.past r.deadline then ok (afterRead (fencesDone { r with left := [], lost := true } t)) else
          let r := { r with left := r.left.filter (· != stn), fences := mput r.fences stn (fenceCells r.first m.words) }
          let t := modStria (fun q => { q with running := some r }) t
          ok (if r.left.isEmpty then afterRead (fencesDone r t) else t)

/-- STRIA_BUDGET passes: the stations whose FENCE is missing are LOST and the read goes on. -/
def execStriaFenceTimeout (s : State) : Outcome State Fault Refusal := s.act fun s =>
  match s.stria.running with
  | none => ok s
  | some r =>
    if r.left.isEmpty || !s.past r.deadline then ok s
    else ok (afterRead (fencesDone { r with left := [], lost := true } s))

/-- A running read when frames stop (R587), or when the hub is warm reset (R266): its missing stations are LOST; reductions not
yet done give nothing. -/
def abortRead (s : State) : State :=
  match s.stria.running with
  | none => s
  | some r => concludeRead { r with left := [], lost := true, cells := [] } s

end Sys2Proof.Machine
end

