-- ==== Sys2Proof/Machine/Window.lean ====
section
/-! DEFINITION. The register window target's part in station accesses (R5, R74): wide station registers, the shadows and held
words of each master, the messages an access becomes. The same serves the station page apertures (R290, R361, R499). -/

namespace Sys2Proof.Machine

/-- Words of the value whose low word stands at byte offset `b` of a station page (R74): 1 where it is not wide. -/
def wideSpan (page b : Nat) : Nat :=
  if page = 0 then
    if b < 0x480 && b % 8 == 0 then 2
    else if b = 0x520 then 8
    else if 0x600 ≤ b && b % 0x20 == 0xC then 2
    else 1
  else if page = 1 then
    if 0x200 ≤ b && b < 0x600 && b % 16 == 8 then 2
    else if 0x600 ≤ b && b < 0x680 && b % 8 == 0 then 2
    else 1
  else 1

/-- Byte offset of the low word of the wide value that holds an upper word at `b`, where there is one. -/
def wideBase (page b : Nat) : Option Nat :=
  ((List.range 7).map (fun k => b - 4 * (k + 1))).find? (fun a => decide (a < b) && decide (b < a + 4 * wideSpan page a) && a % 4 == 0 &&
    decide (1 < wideSpan page a))

/-- A read of a station page (R74): from the master's shadow, as a REG_RD, or 0 with SW_ERR where the station cannot be
reached. The next read of a low word ends the shadow that the last one left. A station the image does not populate has no window (R11, R7). `use` says, from the register address and the words, what the
answer is for. -/
def pageRead (id page n b : Nat) (peek : Bool) (use : Nat → Nat → StnUse) (s : State) : Option Nat × State :=
  if !s.populated n then (some 0, s)
  else
    let shadow := match wideBase page b with
      | some a => (s.wideOf id (pageBase page n + a) true).map (fun ws => ws.getD ((b - a) / 4 - 1) 0)
      | none => none
    match shadow with
    | some v => (some v, s)
    | none =>
      let s := s.when (decide (1 < wideSpan page b)) (dropWide id (pageBase page n + b) true)
      if s.unreachable n then (some 0, s.fs F.CANE_STAT_SW_ERR 1)
      else (none, issueAccess { tag := 0, stn := n, page := page, off := b / 4, n := wideSpan page b, peek := peek,
                                use := use (pageBase page n + b) (wideSpan page b) } s)

/-- A master's write of a station page: the low word of a wide register is held, its highest word sends both. -/
def winWrite (id page n b v : Nat) (s : State) : State :=
  if !s.populated n then s
  else if 1 < wideSpan page b then holdWide id (pageBase page n + b) false [v] s
  else
    let low := match wideBase page b with
      | some a => if wideSpan page a == 2 then (s.wideOf id (pageBase page n + a) false).map (fun ws => (a, ws)) else none
      | none => none
    let (off, ws, s) := match low with
      | some (a, ws) => (a / 4, ws ++ [v], dropWide id (pageBase page n + a) false s)
      | none => (b / 4, [v], s)
    if s.unreachable n then s.fs F.CANE_STAT_SW_ERR 1
    else issueAccess { tag := 0, stn := n, page := page, off := off, n := ws.length, peek := false, use := .posted, data := some ws } s

end Sys2Proof.Machine
end

