-- ==== Sys2Proof/Machine/Deadlines.lean ====
section
/-! DEFINITION. Deadlines, hang detection, fault records and placement epochs (chapter 12): budget rows, watchdogs,
heartbeats, the path of a record from its station to the log, epoch changes, the deadline page aperture. -/

namespace Sys2Proof.Machine

open Host (Outcome)

def modDl (f : DeadlineState → DeadlineState) (s : State) : State := { s with dl := f s.dl }

/-! ### Budget rows (R268, R269) -/

/-- The context that holds a row once every load in flight has applied. -/
def State.rowCtx (s : State) (r : Nat) : Option Nat :=
  match (s.dl.rowLoads.filter (fun l => l.1 == r)).getLast? with
  | some l => if l.2.2.1.all (· == 0) then none else some l.2.1
  | none => if s.fb (F.BUD_ROW_VALID r) then some (s.fg (F.BUD_ROW_CTX r)) else none

/-- The central copies show a row from its apply cycle. -/
def showRow (r ctx : Nat) (bs : List Nat) (s : State) : State :=
  let valid := !bs.all (· == 0)
  let s := if valid then (s.fs (F.BUD_ROW_CTX r) ctx).fs (F.BUD_ROW_VALID r) 1 else s.wr (R.BUD_ROW r) 0
  let s := (List.range 16).foldl (fun s b => s.wr64 (R.BUD_LO r b) (R.BUD_HI r b) (bs.getD b 0 % 2 ^ 36)) s
  s.fs F.DL_STAT_ROWS ((List.range 32).filter (fun i => s.fb (F.BUD_ROW_VALID i))).length

/-- A station's shadow takes a row: the 16 budgets of its context. -/
def giveRow (n ctx : Nat) (bs : List Nat) (s : State) : State :=
  modStn n (fun x => { x with rowShadow := if bs.all (· == 0) then mdel x.rowShadow ctx else mput x.rowShadow ctx bs }) s

/-- Load or free a context's row (R268): BUSY without a free row, ABSENT where there is no row to free; committed at the apply
frame, at once while frames are not running (R587). -/
def loadRow (k : CmdKey) (ctx : Nat) (bs : List Nat) (s : State) : State :=
  let mine := (List.range 32).find? (fun r => s.rowCtx r == some ctx)
  let freed := bs.all (· == 0)
  let row := match mine with
    | some r => some r
    | none => if freed then none else (List.range 32).find? (fun r => (s.rowCtx r).isNone)
  match row with
  | none => completeCmd k (if freed then 7 else 5) 0 s
  | some r =>
    let res := r + 2 ^ 8 * b2n freed
    if s.spine.running then
      modDl (fun d => { d with rowLoads := d.rowLoads ++ [(r, ctx, bs, some k, s.applyFrame 3 0 1)] })
        (modCmd k (fun c => { c with phase := .running 1, result := res }) s)
    else completeCmd k 0 res (showRow r ctx bs s)

/-- Loaded rows are committed at the end of cycle 512F − 1, at every station that can be reached and in the central copies;
their commands complete after the apply cycle. -/
def execBudgetRowApply (s : State) : Outcome State Fault Refusal := s.act fun s =>
  let due := s.dl.rowLoads.filter (fun l => s.sampleDue l.2.2.2.2)
  let s := modDl (fun d => { d with rowLoads := d.rowLoads.filter (fun l => !s.sampleDue l.2.2.2.2) }) s
  ok (due.foldl (fun s l =>
    let s := ((s.members 3 0).filter s.reachable).foldl (fun s n => giveRow n l.2.1 l.2.2.1 s) s
    let s := showRow l.1 l.2.1 l.2.2.1 s
    match l.2.2.2.1 with
    | some k => modDl (fun d => { d with applies := d.applies ++ [(l.2.2.2.2, k)] }) s
    | none => s) s)

/-- Commands of this chapter whose apply frame has come complete. -/
def deadlineFrame (s : State) : State :=
  let due := s.dl.applies.filter (fun c => s.frameDue c.1)
  let s := modDl (fun d => { d with applies := d.applies.filter (fun c => !s.frameDue c.1) }) s
  due.foldl (fun s c => match s.cmd? c.2 with | some m => completeCmd c.2 0 m.result s | none => s) s

/-! ### Watchdogs (R270 to R275) -/

/-- Budget watchdogs of a unit's port whose deadline has passed (R271). -/
def execBudgetWatchdogExpiry (unit : Nat) (s : State) : Outcome State Fault Refusal := s.act fun s =>
  ok (expireWd unit s)

/-- A port's progress watchdog, where its period has passed. -/
def execProgressWatchdogExpiry (unit : Nat) (s : State) : Outcome State Fault Refusal := s.act fun s =>
  ok (expirePw unit s)

/-! ### Heartbeats (R276) -/

/-- a of a heartbeat watchdog is set to now, with its period fixed again (R571). -/
def beatHb (n : Nat) (s : State) : State :=
  let s := s.wr64 (R.HB_LAST_LO n) (R.HB_LAST_HI n) s.ts
  modDl (fun d => { d with hbScale := mput d.hbScale n (s.scaleOf .watch)
                           hbArmed := if s.fb (F.HB_CTL_EN n) && s.fg (F.HB_PER_PERIOD n) != 0 then n :: d.hbArmed.filter (· != n)
                             else d.hbArmed.filter (· != n) }) s

/-- HEARTBEAT_MISS of watchdog n (R276, R280): it forms no further record until the next write to STIM_n. -/
def expireHb (n : Nat) (s : State) : State :=
  let a := s.rd64 (R.HB_LAST_LO n) (R.HB_LAST_HI n)
  let per := s.fg (F.HB_PER_PERIOD n)
  if !s.dl.hbArmed.contains n || per = 0 || !s.fb (F.HB_CTL_EN n) || !s.past (a + scaleBudget (mget s.dl.hbScale n 16) per) then s
  else
    let s := modDl (fun d => { d with hbArmed := d.hbArmed.filter (· != n) }) s
    centralFault cHeartbeatMiss (s.fg (F.HB_CTL_CTX n))
      (if s.fb (F.HB_CTL_UNIT_VALID n) then some (s.fg (F.HB_CTL_UNIT n)) else none)
      a (per + 2 ^ 32 * n + 2 ^ 40 * mget s.dl.hbWriter n 0x3F) 0 s

/-- A write of HB_CTL_n: EN is ignored while the period is 0; EN = 1 arms the watchdog from now. -/
def hbCtlWrite (n v : Nat) (s : State) : State :=
  let v := if s.fg (F.HB_PER_PERIOD n) = 0 then v / 2 * 2 else v
  let s := plainWrite (R.HB_CTL n) (BitVec.ofNat 32 v) s
  if bitOf v 0 then beatHb n (modDl (fun d => { d with hbWriter := mput d.hbWriter n 0x3F }) s)
  else modDl (fun d => { d with hbArmed := d.hbArmed.filter (· != n) }) s

def execHbCtlWrite (id index32 value : Nat) (s : State) : Outcome State Fault Refusal := s.act fun s =>
  ok (s.gate id (R.HB_CTL index32) .operator (hbCtlWrite index32 value))

/-- A write to STIM_n, by any master: a heartbeat, which comes late where the period has passed (R110), and a STIM packet where trace takes
one (R204, R276). -/
def stimWrite (id n v : Nat) (s : State) : State :=
  let s := expireHb n s
  let s := modDl (fun d => { d with hbWriter := mput d.hbWriter n id }) s
  stimPacket n id v (beatHb n (s.wrN (R.STIM n) v))

def execStimWrite (id stim value : Nat) (s : State) : Outcome State Fault Refusal := s.act fun s =>
  ok (s.gate id (R.STIM stim) .open_ (stimWrite id stim value))

/-- Heartbeat watchdog n, where its period has passed. -/
def execHeartbeatWatchdogExpiry (index32 : Nat) (s : State) : Outcome State Fault Refusal := s.act fun s => ok (expireHb index32 s)

/-! ### Latches, records and announcements at a station (R278, R281) -/

/-- The latch bits a write acknowledges (R278): word 2 UNCORR and TRAP, word 3 PROTO and STALL. -/
def ackLatches (n : Nat) (hi : Bool) (v : Nat) (s : State) : State :=
  plainWrite (if hi then R.STN_FLT_LATCH_HI n else R.STN_FLT_LATCH_LO n) (BitVec.ofNat 32 v) s

/-- A write to STN_FLT_LATCH arrives at the station and clears the latches it names. -/
def execFaultLatchAck (stn : Nat) (s : State) : Outcome State Fault Refusal := s.act fun s =>
  match takeInbox stn 0 (fun m => m.head % 2 ^ 12 == 512 + 2 || m.head % 2 ^ 12 == 512 + 3) s with
  | none => ok s
  | some (m, s) => ok (ackLatches stn (m.head % 512 == 3) (m.words.getD 0 0) s)

/-- Records that waited for their cut are completed at n + H and offered (R281), with the first tick that the station itself had in their
window, or 0 (R137); a tick of the window that is due and not taken yet is waited for. -/
def completeFaults (n : Nat) (s : State) : State :=
  let ready (f : StnFault) : Bool := match f.wait with
    | some (a, b) => decide (b ≤ s.spineCyc) && !s.shear.cuts.any (fun c => decide (a ≤ c.tick) && decide (c.tick ≤ b))
    | none => true
  let fix (f : StnFault) : StnFault := { f with wait := none }
  let x := s.stn n
  let done := (x.faults.filter ready).map fix
  let x := { x with faults := x.faults.filter (fun f => !ready f)
                    ovf := match x.ovf with | some f => if ready f then some (fix f) else some f | none => none }
  releaseOvf n (done.foldl (fun s f => offerMsg n (faultMsg f.r) s) (setStn n x s))

def execFaultRecordCompletion (stn : Nat) (s : State) : Outcome State Fault Refusal := s.act fun s =>
  ok (completeFaults stn s)

/-- A FAULT announcement leaves in the station's NOTICE slot (R71, R281). -/
def execFaultNoteSend (stn : Nat) (s : State) : Outcome State Fault Refusal := s.act fun s =>
  let x := s.stn stn
  if !s.stnSends stn || !s.noticeSlot stn then ok s
  else match x.announce with
    | [] => ok s
    | w :: rest => ok (releaseOvf stn (sendNote stn w (setStn stn { x with announce := rest } s)))

/-! ### Pairing at the central hub (R282, R286) -/

/-- FLT_WAIT in ns of TS. -/
def State.fltWait (s : State) : Nat := 1000 * s.fg F.FLT_WAIT_WAIT

def samePend (stn code port : Nat) (p : PendFault) : Bool := p.stn == stn && p.code == code && p.port == port

/-- An announcement: it pairs with a record logged unannounced, or opens a pending entry and takes the policy's NOTICE, DUMP
and RESET. The record of a station's SHEAR_SELFTEST names no unit (R148), so RESET 1 and 2 are ignored (R285). -/
def execFaultNoteArrival (stn : Nat) (s : State) : Outcome State Fault Refusal := s.act fun s =>
  match takeNote stn 0 s with
  | none => ok s
  | some (w, s) =>
    let code := w % 65536
    let port := bitsOf w 16 4
    let ctx := bitsOf w 20 8
    let paired (p : PendFault) : Bool := samePend stn code port p && !s.past (p.ts + s.fltWait)
    if s.dl.logged.any paired then ok (modDl (fun d => { d with logged := removeFirst paired d.logged }) s)
    else
      let r : FaultRec := { code := code, unit := if code = cShearSelftest then none else some (16 * stn + port), ctx := ctx, ts := s.ts }
      let (acts, s) := takeActions r 0xFFFFFFFF s
      ok (modDl (fun d => { d with pend := d.pend ++ [⟨stn, code, port, ctx, s.ts, acts⟩] }) s)

/-- A FAULT message: it closes the oldest pending entry of its code and port, is discarded where such an entry closed without its record
within the last FLT_WAIT, or is logged unannounced. -/
def execFaultMessageArrival (stn : Nat) (s : State) : Outcome State Fault Refusal := s.act fun s =>
  match takeAir stn 2 s with
  | none => ok s
  | some (m, s) =>
    let r := FaultRec.ofBytes (bytesOfWords m.words)
    let port := match r.unit with | some u => u % 16 | none => 0
    let key := samePend stn r.code port
    let late (p : PendFault) : Bool := key p && !s.past (p.ts + s.fltWait)
    match s.dl.pend.find? key with
    | some p => ok (logTaken r p.acts (modDl (fun d => { d with pend := removeFirst key d.pend }) s))
    | none =>
      if s.dl.closed.any late then
        ok ((s.fsat F.FLT_DISC_LATE 1).fs F.DL_STAT_LATE 1)
      else
        let (acts, s) := takeActions r (s.fg F.FLT_NEXT_FSEQ) s
        let s := modDl (fun d => { d with logged := d.logged ++ [⟨stn, r.code, port, r.ctx, s.ts, 0⟩] }) s
        ok (logTaken r acts s)

/-- A pending entry open FLT_WAIT is closed by a record of the hub's own. -/
def execFaultPendingTimeout (s : State) : Outcome State Fault Refusal := s.act fun s =>
  let due (p : PendFault) : Bool := s.past (p.ts + s.fltWait)
  match s.dl.pend.find? due with
  | none => ok s
  | some p =>
    let s := modDl (fun d => { d with pend := removeFirst due d.pend, closed := d.closed ++ [{ p with ts := s.ts }] }) s
    ok (logTaken { code := p.code, unit := some (16 * p.stn + p.port), ctx := p.ctx, ts := p.ts, flags := flLostDetail + flTsApprox }
      p.acts (s.fs F.DL_STAT_LOST_DETAIL 1))

/-- Logged and closed entries end after FLT_WAIT. -/
def execFaultLoggedEntryExpiry (s : State) : Outcome State Fault Refusal := s.act fun s =>
  let live (p : PendFault) : Bool := !s.past (p.ts + s.fltWait)
  ok (modDl (fun d => { d with logged := d.logged.filter live, closed := d.closed.filter live }) s)

/-! ### Policies at the stations (R284, R290) -/

/-- The words of the station copies: the CTX_POL words, and the CUT fields of the policies. -/
def State.polWords (s : State) : List Nat := s.rdWords (R.CTX_POL 0) 32
def State.cutWords (s : State) : List Nat :=
  (List.range 16).map (fun k => bitsOf (s.rdN (R.POLICY k)) 0 2 + 4 * bitsOf (s.rdN (R.POLICY k)) 8 2)

/-- Send every policy copy to a group. -/
def sendPolicies (group target : Nat) (s : State) : State :=
  sendRegWr group target 1 0x30 s.cutWords (sendRegWr group target 1 0x10 s.polWords s)

def ctxPolWrite (i v : Nat) (s : State) : State := sendPolicies 3 0 (s.wrN (R.CTX_POL i) v)

def policyWrite (k v : Nat) (s : State) : State := sendPolicies 3 0 (plainWrite (R.POLICY k) (BitVec.ofNat 32 v) s)

/-! ### Epochs (R287, R288) -/

/-- The current epoch of a context. -/
def State.ctxEpoch (s : State) (ctx : Nat) : Nat := bitsOf (s.rdN (R.CTX_EPOCH (ctx / 4))) (8 * (ctx % 4)) 8

/-- Put an epoch into the word that holds it. -/
def putEpoch (a ctx v : Nat) (s : State) : State := s.fs ⟨a, 8 * (ctx % 4), 8⟩ v

def setCtxEpoch (ctx v : Nat) (s : State) : State := putEpoch (R.CTX_EPOCH (ctx / 4)) ctx v s

/-- A command becomes stale (R288): its watchdog is freed and counted, its tiles end as at ABORT. -/
def makeStale (n p q : Nat) (s : State) : State :=
  let k := ((s.stn n).wd.filter (fun w => w.2.port == p && w.2.queue == q)).length
  let s := (freeWd n (fun w => w.port == p && w.queue == q) s).fsat (F.STN_DL_CNT_RELEASED n) k
  let s := endTiles n (fun t => t.port == p && t.queue == q) true false s
  modPort (16 * n + p) (fun pt => { pt with queues := pt.queues.map (fun e => if e.1 = q then (e.1, { e.2 with stale := true }) else e) }) s

/-- A context's epoch changes at a station: commands under another epoch become stale. -/
def stnSetEpoch (n ctx v : Nat) (s : State) : State :=
  let s := putEpoch (R.STN_EPOCH n (ctx / 4)) ctx v s
  (List.range 16).foldl (fun s p =>
    ((s.port (16 * n + p)).queues.filter (fun q => q.2.ctx == ctx && q.2.epoch != v && !q.2.stale)).foldl
      (fun s q => makeStale n p q.1 s) s) s

/-- The binding of a context as CONTEXT_BIND reports it (R434). -/
def State.binding (s : State) (ctx : Nat) : Nat :=
  mget s.dl.ctxOwner ctx 0x3F + (match mget? s.dl.ctxRing ctx with | some r => 2 ^ 8 * r + 2 ^ 14 | none => 0) +
    2 ^ 16 * s.ctxEpoch ctx

/-- Does a CONTEXT_BIND change an epoch, as things will stand once those before it have applied. -/
def State.bindChanges (s : State) (c : Cmd) : Bool :=
  let ctx := c.fld 0x10 1
  bitOf (c.fld 0x11 1) 2 && (c.fld 0x14 1 != s.ctxEpoch ctx || s.dl.epochCtx == ctx ||
    s.dl.epochWait.any (fun k => match s.cmd? k with | some d => d.fld 0x10 1 == ctx | none => false))

/-- CONTEXT_BIND runs (R432): CHECK, then owner and ring at once, then the epoch under R287; while frames are not running the
epoch is applied at once (R587). Answers whether a change is now in flight. -/
def runBind (k : CmdKey) (s : State) : State :=
  match s.cmd? k with
  | none => s
  | some c =>
    let ctx := c.fld 0x10 1
    let fl := c.fld 0x11 1
    let before := s.binding ctx
    if bitOf fl 3 && c.fld 0x15 1 != s.ctxEpoch ctx then completeCmd k 8 before s
    else
      let own := c.fld 0x12 1 % 64
      let owners := if own = 0x3F then mdel s.dl.ctxOwner ctx else mput s.dl.ctxOwner ctx own
      let rings := if bitOf (c.fld 0x13 1) 7 then mput s.dl.ctxRing ctx (c.fld 0x13 1 % 64) else mdel s.dl.ctxRing ctx
      let s := if bitOf fl 0 then modDl (fun d => { d with ctxOwner := owners }) s else s
      let s := if bitOf fl 1 then modDl (fun d => { d with ctxRing := rings }) s else s
      let v := c.fld 0x14 1
      if bitOf fl 2 && v != s.ctxEpoch ctx then
        if s.spine.running then
          let s := modCmd k (fun c => { c with phase := .running 1, result := before }) s
          modDl (fun d => { d with epochCtx := ctx, epochVal := v, epochFrame := none, epochSent := 0, epochCmd := some k })
            (s.fs F.DL_STAT_EPOCH_BUSY 1)
        else completeCmd k 0 before (setCtxEpoch ctx v s)
      else completeCmd k 0 before s

/-- Run the CONTEXT_BINDs that waited for the change in flight, in order, until one starts a change. -/
def pumpBinds : Nat → State → State
  | 0, s => s
  | fuel + 1, s =>
    if s.fb F.DL_STAT_EPOCH_BUSY then s
    else match s.dl.epochWait with
      | [] => s
      | k :: rest => pumpBinds fuel (runBind k (modDl (fun d => { d with epochWait := rest }) s))

/-- Accept a CONTEXT_BIND: one that changes an epoch waits behind a change in flight. -/
def askBind (k : CmdKey) (s : State) : State :=
  match s.cmd? k with
  | none => s
  | some c =>
    if s.fb F.DL_STAT_EPOCH_BUSY && s.bindChanges c then
      modDl (fun d => { d with epochWait := d.epochWait ++ [k] }) (modCmd k (fun c => { c with phase := .running 0 }) s)
    else runBind k s

/-- A change that has applied is kept while a station may still report that it missed it (R287). -/
def keepEpoch (s : State) : State :=
  let live (f : Nat) : Bool := decide (s.frameNow ≤ f + 4)
  modDl (fun d => { d with epochPast := d.epochPast.filter (fun e => live e.1) ++
    (match d.epochFrame with | some f => if live f then [(f, d.epochCtx, d.epochVal)] else [] | none => []) }) s

/-- The change in flight has taken effect in CTX_EPOCH. -/
def endEpoch (s : State) : State :=
  let s := keepEpoch s
  let s := (setCtxEpoch s.dl.epochCtx s.dl.epochVal s).fs F.DL_STAT_EPOCH_BUSY 0
  let s := match s.dl.epochCmd with
    | some k => (match s.cmd? k with | some c => completeCmd k 0 c.result s | none => s)
    | none => s
  pumpBinds (s.dl.epochWait.length + 1) (modDl (fun d => { d with epochCmd := none }) s)

/-- EPOCH_SET leaves in a NOTICE slot j of 4 to 15 of frame f0, and again in frame f0 + 1 (R287). -/
def execEpochSetSend (s : State) : Outcome State Fault Refusal := s.act fun s =>
  let j := s.spineCyc % 512 / 16
  if !s.fb F.DL_STAT_EPOCH_BUSY || !s.spine.running || j < 4 || 15 < j then ok s
  else
    let f := s.frameNow
    let w := s.dl.epochVal + 2 ^ 8 * s.dl.epochCtx + 2 ^ 28
    if s.dl.epochSent = 0 then
      ok (sendNoteDown w (modDl (fun d => { d with epochSent := 1, epochFrame := some f }) s))
    else if s.dl.epochSent = 1 && s.dl.epochFrame == some (f - 1) && decide (0 < f) then
      ok (sendNoteDown (w + 2 ^ 16) (modDl (fun d => { d with epochSent := 2 }) s))
    else ok s

/-- A station receives EPOCH_SET: f0 is the frame of arrival minus COPY, and it applies at 512(f0 + 2). -/
def execStationEpochNote (stn : Nat) (s : State) : Outcome State Fault Refusal := s.act fun s =>
  let x := s.stn stn
  match x.noteIn with
  | [] => ok s
  | w :: rest =>
    if bitsOf w 28 4 != 1 then ok s
    else
      let e := (s.frameNow - bitsOf w 16 1 + 2, bitsOf w 8 8, w % 256)
      ok (setStn stn { x with noteIn := rest, epochPend := if x.epochPend.contains e then x.epochPend else x.epochPend ++ [e] } s)

/-- At 512(f0 + 2) the epoch changes, at every station that took the note and in the central copy. -/
def execEpochApply (s : State) : Outcome State Fault Refusal := s.act fun s =>
  let s := (s.slot.stns.map (·.1)).foldl (fun s n =>
    let due := (s.stn n).epochPend.filter (fun e => s.frameDue e.1)
    let s := modStn n (fun x => { x with epochPend := x.epochPend.filter (fun e => !s.frameDue e.1) }) s
    due.foldl (fun s e => stnSetEpoch n e.2.1 e.2.2 s) s) s
  match s.dl.epochFrame with
  | some f => if s.fb F.DL_STAT_EPOCH_BUSY && s.frameDue (f + 2) then ok (endEpoch s) else ok s
  | none => ok s

/-- The changes in whose frames f0 to f0 + 4 the hub stands, oldest first: context and epoch. -/
def State.recentEpochs (s : State) : List (Nat × Nat) :=
  let live (f : Nat) : Bool := decide (s.frameNow ≤ f + 4)
  (s.dl.epochPast.filter (fun e => live e.1)).map (·.2) ++
    (match s.dl.epochFrame with
     | some f => if s.fb F.DL_STAT_EPOCH_BUSY && live f then [(s.dl.epochCtx, s.dl.epochVal)] else []
     | none => [])

/-- A NET_ERR NOTE of a station in frames f0 to f0 + 4 of a change (R287): the hub writes the epoch itself. -/
def lateEpoch (n : Nat) (s : State) : State :=
  s.recentEpochs.foldl (fun s e =>
    let word := Fld.put ⟨0, 8 * (e.1 % 4), 8⟩ (s.rd (R.CTX_EPOCH (e.1 / 4))) e.2
    sendRegWr 0 n 1 (0x40 + e.1 / 4) [word.toNat] (modDl (fun d => { d with lateStations := n :: d.lateStations.filter (· != n) }) s)) s

/-- HUB_WARM takes a change whose apply cycle has not passed into CTX_EPOCH; its command ends without a completion (R287). -/
def warmEpoch (s : State) : State :=
  let s := if s.fb F.DL_STAT_EPOCH_BUSY then setCtxEpoch s.dl.epochCtx s.dl.epochVal s else s
  modDl (fun d => { d with epochFrame := none, epochSent := 0, epochCmd := none, epochWait := [], epochPast := [], lateStations := [], applies := [] })
    (s.fs F.DL_STAT_EPOCH_BUSY 0)

/-! ### The deadline page aperture (R290) -/

/-- May a master write this word of the deadline page: STN_PW_SEL, STN_PW_PER_k and the W1C registers. -/
def dlPageWritable (b : Nat) : Bool := b == 0 || b == 8 || b == 0xC || b == 0x1C || (0x20 ≤ b && b < 0x2C)

/-- An access through the aperture at 0x09_3000 becomes a message to station DL_STN_SEL. -/
def dlPageRead (id b : Nat) (peek : Bool) (use : Nat → Nat → StnUse) (s : State) : Option Nat × State :=
  pageRead id 1 (s.fg F.DL_STN_SEL_STN) b peek use s

def dlPageWrite (id b v : Nat) (s : State) : State :=
  if dlPageWritable b then winWrite id 1 (s.fg F.DL_STN_SEL_STN) b v s else s

def execDeadlinePageAccess (id off : Nat) (isWrite : Bool) (value : Nat) (peek : Bool) (s : State) : Outcome State Fault Refusal := s.act fun s =>
  let a := 0x093000 + off
  if 0x800 ≤ off || off % 4 != 0 || !s.windowOpen then ok s
  else if isWrite then ok (s.gate id a .operator (dlPageWrite id off value))
  else ok (presentAnswer (s.readGate id a .operator (dlPageRead id off peek (.master id))))

end Sys2Proof.Machine
end

