-- ==== Sys2Proof/Machine/Mailboxes.lean ====
section
/-! DEFINITION. Mailboxes (chapter 19): channels and their binding, posting, claiming and answering, doorbells, crossing,
resets of an identity, requests from remote hubs. -/

namespace Sys2Proof.Machine

open Host (Outcome)

/-! ### Channels and roles (R437 to R440) -/

def State.chan (s : State) (c : Nat) : MbxChan := mget s.mbx.chans c {}

def setChan (c : Nat) (x : MbxChan) (s : State) : State := { s with mbx := { s.mbx with chans := mput s.mbx.chans c x } }

def MbxChan.dir (x : MbxChan) (d : Nat) : MbxDir := if d = 0 then x.d0 else x.d1

def State.mdir (s : State) (c d : Nat) : MbxDir := (s.chan c).dir d

def State.bound (s : State) (c : Nat) : Bool := s.fb (F.BIND_VALID c)
def State.chLo (s : State) (c : Nat) : Nat := min (s.fg (F.BIND_ID_A c)) (s.fg (F.BIND_ID_B c))
def State.chHi (s : State) (c : Nat) : Nat := max (s.fg (F.BIND_ID_A c)) (s.fg (F.BIND_ID_B c))
def State.senderOf (s : State) (c d : Nat) : Nat := if d = 0 then s.chLo c else s.chHi c
def State.receiverOf (s : State) (c d : Nat) : Nat := if d = 0 then s.chHi c else s.chLo c

/-- Put a direction of a channel; a crossing begins in the cycle after the second GO takes effect and ends with it (R447). -/
def setMdir (c d : Nat) (x : MbxDir) (s : State) : State :=
  let ch := s.chan c
  let ch := if d = 0 then { ch with d0 := x } else { ch with d1 := x }
  let crossed := ch.d0.go && ch.d1.go && !ch.d0.claimed && !ch.d1.claimed
  let since := if crossed then (match ch.crossFrom with | some t => some t | none => some (s.core + 1)) else none
  setChan c { ch with crossFrom := since } s

def modMdir (c d : Nat) (f : MbxDir → MbxDir) (s : State) : State := setMdir c d (f (s.mdir c d)) s

/-! ### Doorbells (R445, R446) -/

/-- The MBX_IRQ outputs of control-core identities: levels. -/
def driveMbxIrq (i : Nat) (s : State) : State :=
  if 36 ≤ i ∧ i ≤ 51 then
    let on := (s.rd (R.DB_PEND i) &&& ~~~ s.rd (R.DB_MASK i)) != 0
    { s with pins := { s.pins with mbxIrq := setBit s.pins.mbxIrq (i - 36) on } }
  else s

/-- Signal bits of a doorbell word that have become signalled: a pulse for a host function with EN, a level otherwise. -/
def signalDb (i : Nat) (was : Word) (s : State) : State :=
  let now := s.rd (R.DB_PEND i) &&& ~~~ s.rd (R.DB_MASK i)
  let s := driveMbxIrq i s
  if 3 ≤ i ∧ i ≤ 35 ∧ (now &&& ~~~ was) != 0 ∧ s.fb (F.DB_CFG_EN i) then signalVec (s.fg (F.DB_CFG_VEC i)) s else s

/-- Change a doorbell word or its mask and signal what follows. -/
def withDb (i : Nat) (f : State → State) (s : State) : State :=
  signalDb i (s.rd (R.DB_PEND i) &&& ~~~ s.rd (R.DB_MASK i)) (f s)

/-- Set bit b of the doorbell word of identity i. -/
def ringDb (i b : Nat) (s : State) : State :=
  withDb i (fun s => s.wrN (R.DB_PEND i) (setBit (s.rdN (R.DB_PEND i)) b true)) s

/-! ### Posting, claiming and answering (R441 to R444) -/

/-- An ignored access by a bound identity (R440). -/
def mbxErr (c d : Nat) (s : State) : State := modMdir c d (fun x => { x with err := true }) s

/-- An access by an identity that is not bound (R440). -/
def mbxRej (id : Nat) (s : State) : State := (s.fsat F.MBX_REJ_COUNT 1).fs F.MBX_REJ_LAST_ID id

/-- A valid answer takes effect: GO clears, ACK is VALID, the sender's doorbell rings; the answer to a sender that has been
reset reads back SENDER_GONE and rings nothing (R443, R450). -/
def takeAnswer (c d code : Nat) (s : State) : State :=
  let x := s.mdir c d
  if !x.go then s
  else
    let s := setMdir c d { x with go := false, claimed := false, valid := true, delayed := none
                                  code := (if x.senderGone then 0x0E else code), senderGone := false } s
    if x.senderGone then s else ringDb (s.senderOf c d) c s

/-- May a receiver write this code (R443). -/
def ackCodeOk (code : Nat) : Bool := decide (code ≤ 2) || decide (0x10 ≤ code)

/-- The receiver writes ACK (R443); while mailbox perturbation is active the answer takes effect later (R570). -/
def writeAck (c d code : Nat) (s : State) : State :=
  let x := s.mdir c d
  if !x.go || !ackCodeOk code || x.delayed.isSome then mbxErr c d s
  else
    let delay := if s.fb F.SEC_CTL_TEST_EN && s.fb F.PTB_CTL_MBX_EN then s.fg F.PTB_MBX_DELAY else 0
    if delay = 0 then takeAnswer c d code s
    else setMdir c d { x with delayed := some (s.core + delay, code) } s

/-- The sender posts (R441): GO is set, the last answer and claim are cleared, the receiver's doorbell rings. -/
def postGo (c d node : Nat) (s : State) : State :=
  let x := s.mdir c d
  if x.go then mbxErr c d s
  else
    let s := setMdir c d { x with go := true, valid := false, claimed := false, srcNode := node, senderGone := false } s
    ringDb (s.receiverOf c d) c s

/-- The sender retracts an unclaimed message (R444). -/
def retract (c d : Nat) (s : State) : State :=
  let x := s.mdir c d
  if x.go && !x.claimed then setMdir c d { x with go := false, retracted := true, delayed := none } s else mbxErr c d s

/-- A dump request by mailbox (R292 to R294): gaffer core 0's firmware claims it and answers REJECTED, DUMP_DENIED or
DUMP_BUSY at once, or hands it to Lehr. -/
def mbxDump (c d : Nat) (s : State) : State :=
  let x := s.mdir c d
  let w0 := x.msg.getD 0 0
  let w1 := x.msg.getD 1 0
  let s := setMdir c d { x with claimed := true } s
  if w0 % 256 != 0x50 || w0 / 2 ^ 24 != 0 || w1 / 2 ^ 16 != 0 || (x.msg.drop 2).any (· != 0) then writeAck c d 0x01 s
  else if s.classOf (s.senderOf c d) < 2 then writeAck c d 0x12 s
  else
    let scope := if w1 = 0 then s.fg F.LEHR_SCOPE_PARTMASK else w1
    let unit := if bitOf w0 9 then some (bitsOf w0 10 14) else none
    let (taken, s) := askDump ⟨scope, bitOf w0 8, unit, .mailbox c d, false, 0, 0⟩ s
    if taken then s else writeAck c d 0x11 s

/-- Is a post one for Lehr (R294): on channel MBX_CH, to gaffer core 0, while MBX_EN is 1 and the core's firmware runs. -/
def State.lehrChannel (s : State) (c d : Nat) : Bool :=
  s.fb F.LEHR_CTL_MBX_EN && s.fg F.LEHR_CTL_MBX_CH == c && s.receiverOf c d == 0 && s.fb F.GAF_STAT_READY_0

/-- A write of CTL_d by a bound identity. -/
def writeMbxCtl (id c d v node : Nat) (s : State) : State :=
  if id != s.senderOf c d then mbxErr c d s
  else
    let s := if bitOf v 0 then
        let was := (s.mdir c d).go
        let s := postGo c d node s
        if !was && s.lehrChannel c d then mbxDump c d s else s
      else s
    if bitOf v 1 then retract c d s else s

/-! ### Register accesses to a channel (R439, R440) -/

/-- Direction and register at a channel offset: registers 0 to 15 message words, 16 CTL, 17 ACK, 18 STAT, 19 SRCNODE. -/
def mbxReg (o : Nat) : Option (Nat × Nat) :=
  if o % 4 != 0 then none
  else if o < 0x40 then some (0, o / 4)
  else if o < 0x80 then some (1, (o - 0x40) / 4)
  else if o < 0x90 then some (0, 16 + (o - 0x80) / 4)
  else if o < 0xA0 then some (1, 16 + (o - 0x90) / 4)
  else none

def mbxStat (x : MbxDir) : Nat :=
  b2n x.claimed + 2 * b2n x.peerReset + 4 * b2n x.err + 8 * b2n x.retracted + 16 * b2n x.crossed

/-- The value a register of a direction shows its sender (R440). -/
def mbxShow (x : MbxDir) (r : Nat) : Nat :=
  if r < 16 then x.msg.getD r 0
  else if r = 16 then b2n x.go
  else if r = 17 then x.code + 2 ^ 8 * b2n x.valid
  else if r = 18 then mbxStat x
  else x.srcNode

/-- A read of a channel register by an identity: the value it sees and the state after it. A read of word 0 by the receiver
claims the message (R442). -/
def mbxRead (id c o : Nat) (peek : Bool) (s : State) : Nat × State :=
  if !s.bound c then (0, s)
  else
    let isBound := id == s.chLo c || id == s.chHi c
    let cust := decide (3 ≤ s.classOf id) && !isBound
    if !isBound && !cust then (0, mbxRej id s)
    else if o = 0xA0 then (s.chLo c + 2 ^ 8 * s.chHi c + 2 ^ 16, s)
    else match mbxReg o with
      | none => (0, s)
      | some (d, r) =>
        let x := s.mdir c d
        if r < 16 && id == s.receiverOf c d then
          if x.go then (x.msg.getD r 0, if r = 0 && !peek then setMdir c d { x with claimed := true } s else s) else (0, s)
        else (mbxShow x r, s)

/-- A write of a channel register by an identity. -/
def mbxWrite (id c o v node : Nat) (s : State) : State :=
  if !s.bound c then s
  else
    let isBound := id == s.chLo c || id == s.chHi c
    if !isBound then (if 3 ≤ s.classOf id then s else mbxRej id s)
    else match mbxReg o with
      | none => s
      | some (d, r) =>
        let x := s.mdir c d
        let sender := id == s.senderOf c d
        if r < 16 then
          if sender && !x.go then setMdir c d { x with msg := setAt 0 x.msg r v } s else mbxErr c d s
        else if r = 16 then writeMbxCtl id c d v node s
        else if r = 17 then (if sender then mbxErr c d s else writeAck c d (v % 256) s)
        else if r = 18 then setMdir c d { x with
            peerReset := x.peerReset && !bitOf v 1, err := x.err && !bitOf v 2
            retracted := x.retracted && !bitOf v 3, crossed := x.crossed && !bitOf v 4 } s
        else mbxErr c d s

/-- An access needs no class: the register's own rules decide (R440). -/
def mbxGate (id c o : Nat) (f : State → State) (s : State) : State := s.gate id (R.MBX_CH c + o) .open_ f

/-- Offset of a direction's CTL register. -/
def ctlOff (d : Nat) : Nat := 0x80 + 0x10 * d

def execMbxGo (id ch dir : Nat) (s : State) : Outcome State Fault Refusal := s.act fun s =>
  ok (mbxGate id ch (ctlOff dir) (mbxWrite id ch (ctlOff dir) 1 0) s)

def execMbxRetract (id ch dir : Nat) (s : State) : Outcome State Fault Refusal := s.act fun s =>
  ok (mbxGate id ch (ctlOff dir) (mbxWrite id ch (ctlOff dir) 2 0) s)

def execMbxClaim (id ch dir : Nat) (s : State) : Outcome State Fault Refusal := s.act fun s =>
  ok (mbxGate id ch (0x40 * dir) (fun s =>
    let (v, s) := mbxRead id ch (0x40 * dir) false s
    presentRead v s) s)

def execMbxAck (id ch dir code : Nat) (s : State) : Outcome State Fault Refusal := s.act fun s =>
  ok (mbxGate id ch (ctlOff dir + 4) (mbxWrite id ch (ctlOff dir + 4) code 0) s)

/-- In the 65th crossed cycle direction 1 is acknowledged CROSS_DEFER (R447). -/
def execMbxCrossDefer (ch : Nat) (s : State) : Outcome State Fault Refusal := s.act fun s =>
  match (s.chan ch).crossFrom with
  | none => ok s
  | some t =>
    if s.core < t + 64 then ok s
    else
      let s := modMdir ch 1 (fun x => { x with go := false, valid := true, code := 0x07, crossed := true, delayed := none }) s
      ok (ringDb (s.chHi ch) ch s)

/-- A delayed answer takes effect (R570). -/
def execMbxAckDelayedEffect (ch dir : Nat) (s : State) : Outcome State Fault Refusal := s.act fun s =>
  match (s.mdir ch dir).delayed with
  | some (t, code) => if t ≤ s.core then ok (takeAnswer ch dir code s) else ok s
  | none => ok s

/-! ### Doorbell accesses -/

/-- A doorbell word and its mask are open to their identity and to the custodian class (R445). -/
def dbGate (id target a : Nat) (f : State → State) (s : State) : State :=
  s.gate id a (if id = target then .open_ else .custodian) f

def clearDb (i v : Nat) (s : State) : State := withDb i (fun s => plainWrite (R.DB_PEND i) (BitVec.ofNat 32 v) s) s

def writeDbMask (i v : Nat) (s : State) : State := withDb i (fun s => s.wrN (R.DB_MASK i) v) s

def execDoorbellClear (id target value : Nat) (s : State) : Outcome State Fault Refusal := s.act fun s =>
  ok (dbGate id target (R.DB_PEND target) (clearDb target value) s)

def execDoorbellMaskWrite (id target value : Nat) (s : State) : Outcome State Fault Refusal := s.act fun s =>
  ok (dbGate id target (R.DB_MASK target) (writeDbMask target value) s)

/-! ### Binding (R438) -/

/-- A write of BIND_c: ignored with ERR for equal or reserved identities or a posted message; a change clears the channel. -/
def writeBind (c v : Nat) (s : State) : State :=
  if s.fb F.BIND_CTL_LOCK then s
  else
    let a := v % 64
    let b := bitsOf v 8 6
    let valid := bitOf v 16
    let bad := (valid && (a == b || decide (53 ≤ a) || decide (53 ≤ b))) || (s.mdir c 0).go || (s.mdir c 1).go
    if bad then s.fs F.BIND_STAT_ERR 1
    else
      let w := BitVec.ofNat 32 (a + 2 ^ 8 * b + 2 ^ 16 * b2n valid)
      if s.rd (R.BIND c) = w then s else setChan c {} (s.wr (R.BIND c) w)

def lockBind (s : State) : State := (s.fs F.BIND_CTL_LOCK 1).fs F.BIND_STAT_LOCKED 1

def execMbxBindWrite (id ch value : Nat) (s : State) : Outcome State Fault Refusal := s.act fun s =>
  ok (s.gate id (R.BIND ch) .operator (writeBind ch value))

def execMbxBindLock (id : Nat) (s : State) : Outcome State Fault Refusal := s.act fun s =>
  ok (s.gate id R.BIND_CTL .operator lockBind)

/-! ### Resets of an identity (R448 to R451) -/

/-- One direction of a channel at the reset of the identities `ids`: RX_RESET where its receiver is reset; otherwise the
unclaimed message of a reset sender is retracted with PEER_RESET, a claimed one stays. -/
def resetDir (ids : List Nat) (c d : Nat) (s : State) : State :=
  let x := s.mdir c d
  if !s.bound c || !x.go then s
  else if ids.contains (s.receiverOf c d) then
    ringDb (s.senderOf c d) 31 (setMdir c d { x with go := false, claimed := false, valid := true, code := 0x0D, delayed := none
                                                     senderGone := false } s)
  else if ids.contains (s.senderOf c d) then
    if x.claimed then setMdir c d { x with senderGone := true, delayed := none } s
    else ringDb (s.receiverOf c d) c (setMdir c d { x with go := false, peerReset := true, delayed := none } s)
  else s

/-- Identities are reset (R448): their doorbell words clear and their masks are set, then every direction is settled. -/
def resetIdentities (ids : List Nat) (s : State) : State :=
  let s := ids.foldl (fun s i => driveMbxIrq i ((s.wr (R.DB_PEND i) 0).wrN (R.DB_MASK i) 0xFFFFFFFF)) s
  (List.range 32).foldl (fun s c => resetDir ids c 1 (resetDir ids c 0 s)) s

/-- HUB_WARM and HUB_COLD clear every channel and doorbell without a report (R453); the registers follow their own rows. -/
def clearMailboxes (s : State) : State :=
  { s with mbx := {}, pins := { s.pins with mbxIrq := 0 } }

/-! ### Remote hubs (R452) -/

/-- May identity 52 reach this offset through MBX_REQ. -/
def remoteOffset (a : Nat) : Bool :=
  decide (0x020000 ≤ a) && decide (a < 0x023000) && a % 4 == 0 &&
    (!(decide (0x022000 ≤ a) && decide (a < 0x022000 + 16 * 53)) || (a - 0x022000) / 16 == 52)

/-- A read of the mailbox block by identity 52. -/
def remoteRead (a : Nat) (peek : Bool) (s : State) : Nat × State :=
  if a < 0x022000 then mbxRead 52 ((a - 0x020000) / 0x100) (a % 0x100) peek s
  else if a = R.DB_PEND 52 ∨ a = 0x022800 then (s.rdN (R.DB_PEND 52), s)
  else if a = R.DB_MASK 52 ∨ a = 0x022804 then (s.rdN (R.DB_MASK 52), s)
  else if a = R.MBX_REJ then (0, refuseAccess 52 a s)
  else (0, s)

/-- A write of the mailbox block by identity 52. -/
def remoteWrite (node a v : Nat) (s : State) : State :=
  if a < 0x022000 then mbxWrite 52 ((a - 0x020000) / 0x100) (a % 0x100) v node s
  else if a = R.DB_PEND 52 ∨ a = 0x022800 then clearDb 52 v s
  else if a = R.DB_MASK 52 ∨ a = 0x022804 then writeDbMask 52 v s
  else if a = R.MBX_REJ then refuseAccess 52 a s
  else s

/-- The 32 bytes of an MBX_RSP. -/
def mbxRspBytes (s : State) (status tag off data : Nat) : List Nat :=
  toLe 1 7 ++ toLe 1 status ++ toLe 2 tag ++ toLe 3 s.node ++ toLe 1 0 ++ toLe 4 off ++ toLe 4 data ++ toLe 8 s.job.jobId ++ toLe 8 0

/-- A bulk message leaves through the fabric port (R515, R569). -/
def sendBulk (node : Nat) (bytes : List Nat) (s : State) : State := presentBulk (.msg ⟨false, node, bytes⟩) s

/-- An MBX_REQ from a node of the job is applied as identity 52 and answered; others are refused. -/
def execMbxReqReceive (node mop tag off32 value job64 : Nat) (s : State) : Outcome State Fault Refusal := s.awake fun s =>
  if !s.windowOpen then ok s
  else if !s.job.peers.contains node || job64 != s.job.jobId || 2 < mop then
    ok (sendBulk node (mbxRspBytes s 1 tag off32 0) s)
  else if !remoteOffset off32 then ok (sendBulk node (mbxRspBytes s 2 tag off32 0) s)
  else if mop = 1 then
    let s := remoteWrite node off32 value s
    ok (sendBulk node (mbxRspBytes s 0 tag off32 0) s)
  else
    let (v, s) := remoteRead off32 (mop == 2) s
    ok (sendBulk node (mbxRspBytes s 0 tag off32 v) s)

/-- An MBX_RSP answers a request of the gaffer firmware's: it is handed to the firmware. -/
def execMbxRspReceive (node status tag off32 value : Nat) (s : State) : Outcome State Fault Refusal := s.awake fun s =>
  if s.windowOpen then ok { s with mbx := { s.mbx with rsps := s.mbx.rsps ++ [(node, status, tag, off32, value)] } } else ok s

end Sys2Proof.Machine
end

