-- ==== Sys2Proof/Machine/Lines.lean ====
section
/-! DEFINITION. Runs of line reads and outstanding requests of the dump master, the fabric port and the host memory master
(R369, R510 to R514): what is outstanding, taking an answer, abandoning, and the tables a command reads (R402). -/

namespace Sys2Proof.Machine

/-! ### Outstanding requests -/

def lineMax : Nat := 1024
def hostMax : Nat := 64

def modBus (f : BusState → BusState) (s : State) : State := { s with bus := f s.bus }

/-- A request that becomes outstanding when an earlier one is answered is issued then: its time counts from now. -/
def reissue {α : Type} (k : Nat) (f : α → α) (l : List α) : List α := l.take (k - 1) ++ ((l.drop (k - 1)).take 1).map f ++ l.drop k

/-- The oldest outstanding line request with a tag, and the list without it. -/
def takeLine (tag now : Nat) (l : List LineReq) : Option (LineReq × List LineReq) :=
  match (l.take lineMax).find? (fun q => q.tag % lineMax == tag % lineMax) with
  | some q =>
    let l' := removeFirst (fun p => p == q) l
    some (q, if lineMax < l.length then reissue lineMax (fun p => { p with issued := now }) l' else l')
  | none => none

/-- The oldest outstanding host request with a tag, and the list without it. -/
def takeHost (tag now : Nat) (l : List HostReq) : Option (HostReq × List HostReq) :=
  match (l.take hostMax).find? (fun q => q.tag % hostMax == tag % hostMax) with
  | some q =>
    let l' := removeFirst (fun p => p == q) l
    some (q, if hostMax < l.length then reissue hostMax (fun p => { p with issued := now }) l' else l')
  | none => none

/-- The answer times of an access, in ns of TS: Lehr and the cullet spill (R304, R306), Rolsal window 1 (R481) and the
continuity services (R369, R374). -/
def State.rdTmo (s : State) (ident : Nat) : Nat :=
  1000 * (if ident = 1 then s.fg F.CONT_TMO_RD_TMO else s.fg F.LEHR_TMO_RD_TMO)

def State.wrTmo (s : State) (ident : Nat) : Nat :=
  1000 * (if ident = 1 then s.fg F.CONT_TMO_WR_TMO else s.fg F.LEHR_TMO_WR_TMO)

/-! ### Runs of reads -/

/-- Ask for the next lines of a run while fewer than 1,024 reads are outstanding. -/
def pumpJob (who : Reader) (ident : Nat) : Nat → LineJob → State → LineJob × State
  | 0, j, s => (j, s)
  | fuel + 1, j, s =>
    if j.next < j.n && s.bus.reads.length < lineMax then
      pumpJob who ident fuel { j with next := j.next + 1 } (lineRead ident (j.addr + j.stride * j.next) 0 false (.read who) s)
    else (j, s)

def startJob (who : Reader) (ident addr n stride : Nat) (s : State) : LineJob × State :=
  pumpJob who ident lineMax { addr := addr, n := n, stride := stride } s

/-- Abandon the outstanding reads of a reader (R304, R314, R374). -/
def abandonReads (who : Reader) (s : State) : State :=
  let others (l : List LineReq) : List LineReq := l.filter (fun q => q.use != .read who)
  modBus (fun b => { b with dmpRd := others b.dmpRd, fabRd := others b.fabRd, rdWait := others b.rdWait }) s

def LineJob.isOver (j : LineJob) : Bool := decide (j.n ≤ j.done)

/-- The line of a run that an address names. -/
def LineJob.lineOf (j : LineJob) (addr : Nat) : Nat := if j.stride = 0 then 0 else (addr - j.addr) / j.stride

/-- A line is answered: its bytes are kept, or the answer is an error. -/
def LineJob.take (j : LineJob) (addr : Nat) (data : List Nat) (err : Bool) : LineJob :=
  if err then { j with done := j.done + 1, err := true }
  else { j with done := j.done + 1, got := mput j.got (j.lineOf addr) data }

/-- The bytes of a run whose lines all arrived, in order. -/
def LineJob.bytes (j : LineJob) : List Nat := j.got.flatMap (·.2)

def LineJob.good (j : LineJob) : Bool := j.got.length == j.n

/-! ### Tables of commands (R402) -/

/-- Read the next piece of a command's table: at most 512 bytes, not across a multiple of 512. -/
def fetchMore (k : CmdKey) (s : State) : State :=
  match s.cmd? k with
  | none => s
  | some c =>
    let a := c.table.getD 0 0 + c.buf.length
    let n := min (512 - a % 512) (c.table.getD 1 0 - c.buf.length)
    hostRead c.owner a n (.table k) s

/-- Read the table of `len` bytes a command names, piece by piece. A command whose host accesses are suppressed reads nothing
(R393), and ends at the next cycle (`settleTables`). -/
def fetchTable (k : CmdKey) (addr len : Nat) (s : State) : State :=
  let s := modCmd k (fun c => { c with table := [addr, len], buf := [] }) s
  match s.cmd? k with
  | some c => if c.suppressed then s else fetchMore k s
  | none => s

end Sys2Proof.Machine
end

