-- ==== Sys2Proof/Machine/Continuity.lean ====
section
/-! DEFINITION. The continuity services (chapter 16): stream map, step ledger, restore check, region digests, MIRROR_VERIFY and
spare fill. Their cuts end in CUT_TICK, their reads and writes in the answer rows of the ports (DumpMaster). -/

namespace Sys2Proof.Machine

open Host (Outcome)

def modCont (f : ContState → ContState) (s : State) : State := { s with cont := f s.cont }

def cRestoreSkew : Nat := 0x0401
def cMirrorMismatch : Nat := 0x0402
def cFillAborted : Nat := 0x0403

/-- CONT_STAT follows the services (R376, R378). -/
def showCont (s : State) : State :=
  let c := s.cont
  let s := s.fs F.CONT_STAT_REC_BUSY (b2n c.rcd.isSome)
  let s := s.fs F.CONT_STAT_CHK_BUSY (b2n c.chk.isSome)
  let s := s.fs F.CONT_STAT_MV_BUSY (b2n c.mv.isSome)
  let s := s.fs F.CONT_STAT_COPY_BUSY (b2n c.copy.isSome)
  let s := s.fs F.CONT_STAT_SCANNING (b2n c.scan.isSome)
  let partner (d : DigestJob) : Bool := match d.use with | .partner _ _ => true | _ => false
  let s := s.fs F.CONT_STAT_RX_Q (min 4 (c.digests.filter partner).length)
  s.fs F.CONT_STAT_WAIT_DUMP (b2n (s.lehr.running &&
    (c.rcd.isSome || c.chk.isSome || c.mv.isSome || c.copy.isSome || c.scan.isSome || !c.digests.isEmpty)))

/-! ### The stream map (R363) -/

def State.mapStreams (s : State) : List Nat := (List.range 64).filter (fun i => s.fb (F.STREAM_MAP_VALID i))

def State.mapCrc (s : State) : Nat := crc32c (bytesOfWords (s.rdWords (R.STREAM_MAP 0) 64))

/-- A ledger command runs: the map and the budgets ignore writes (R378). -/
def State.ledgerRuns (s : State) : Bool := s.cont.rcd.isSome || s.cont.chk.isSome

def writeStreamMap (i v : Nat) (s : State) : State :=
  if s.ledgerRuns then s
  else
    let s := plainWrite (R.STREAM_MAP i) (BitVec.ofNat 32 v) s
    s.wrN R.MAP_CRC s.mapCrc

def execStreamMapWrite (id strm value : Nat) (s : State) : Outcome State Fault Refusal := s.act fun s =>
  ok (s.gate id (R.STREAM_MAP (strm % 64)) .operator (writeStreamMap (strm % 64) value))

/-! ### Cuts and stream reads (R365 steps 1 to 3) -/

/-- Ask for the cut of a ledger command, or answer that the tree takes no trigger. -/
def ledgerCut (k : CmdKey) (check : Bool) (s : State) : Bool × State :=
  if s.treeOn then (true, triggerNow 0 4 (.ledger k check) s) else (false, s)

/-- Read every mapped stream, four words each, through the capture pages; streams the hub knows to be absent are not read. -/
def readStreams (check : Bool) (sr : StreamRead) (s : State) : StreamRead × State :=
  let present (i : Nat) : Bool :=
    let u := s.fg (F.STREAM_MAP_UNIT i)
    let p := s.portImage u
    s.populated (u / 16) && p.ty != 7 && p.cvLen == 2 && s.reachable (u / 16) && !s.unreachable (u / 16)
  let here := s.mapStreams.filter present
  let owed := here.flatMap (fun i => (List.range 4).map (fun w => (i, w)))
  let sr := { sr with owed := owed, vals := [], absent := s.mapStreams.filter (fun i => !present i) }
  let s := owed.foldl (fun s o =>
    let u := s.fg (F.STREAM_MAP_UNIT o.1)
    issueAccess { tag := 0, stn := u / 16, page := 3, off := 32 * (u % 16) + 4 * s.fg (F.STREAM_MAP_SLOT o.1) + o.2, n := 1, peek := true,
                  use := .stream check o.1 o.2 } s) s
  (sr, s)

/-- One word of a stream is answered, or the station answers ABSENT. -/
def StreamRead.take (sr : StreamRead) (strm word : Nat) (v : Option Nat) : StreamRead :=
  if !sr.owed.contains (strm, word) then sr
  else
    let sr := { sr with owed := sr.owed.filter (· != (strm, word)) }
    match v with
    | some x => { sr with vals := mput sr.vals strm (mget sr.vals strm 0 + 2 ^ (32 * word) * (x % 2 ^ 32)) }
    | none => { sr with absent := if sr.absent.contains strm then sr.absent else sr.absent ++ [strm] }

/-- The value of a stream that was read. -/
def StreamRead.value (sr : StreamRead) (strm : Nat) : Option Nat :=
  if sr.absent.contains strm then none else mget? sr.vals strm

/-! ### LEDGER_RECORD (R364, R365) -/

def endRecord (status result : Nat) (s : State) : State :=
  match s.cont.rcd with
  | none => s
  | some j => completeCmd j.cmd status result (showCont (modCont (fun c => { c with rcd := none }) s))

/-- The 1,088 bytes of an entry (R364): the CRC covers every byte but its own field. -/
def ledgerEntry (idx : Nat) (c : Cmd) (sr : StreamRead) (s : State) : List Nat :=
  let read := s.mapStreams.filter (fun i => (sr.value i).isSome)
  let mask := read.foldl (fun m i => m + 2 ^ i) 0
  let head := toLe 4 0x4744454C ++ toLe 4 idx ++ toLe 8 (c.fld 0x10 8) ++ toLe 8 (c.fld 0x18 8) ++ toLe 4 (c.fld 0x20 4) ++
    toLe 4 (s.rdN R.MAP_CRC) ++ toLe 8 mask ++ toLe 8 (sr.tick.getD 0) ++ toLe 8 s.job.jobId ++
    toLe 1 (b2n s.perturbed + 2 * b2n (!sr.absent.isEmpty)) ++ toLe 3 0
  let body := (List.range 64).flatMap (fun i => toLe 16 ((sr.value i).getD 0))
  head ++ toLe 4 (crc32c (head ++ body)) ++ body

def State.ledgerAddr (s : State) (idx : Nat) : Nat := s.rd64 R.LEDGER_BASE_LO R.LEDGER_BASE_HI / 65536 * 65536 + idx % 4096 * 1088

/-- Step 4: form and write the entry. -/
def writeRecord (j : RecordJob) (s : State) : State :=
  match s.cmd? j.cmd with
  | none => modCont (fun c => { c with rcd := none }) s
  | some c =>
    let idx := s.fg F.LEDGER_NEXT_INDEX
    let s := modCont (fun t => { t with rcd := some { j with phase := 4 } }) s
    lineWrites 1 (s.ledgerAddr idx) (ledgerEntry idx c j.sr s) (.ledgerWrite j.cmd) s

/-- A record's next step, as far as it may take one now: a dump holds its cuts and its writes (R376). -/
def runRecord (s : State) : State :=
  match s.cont.rcd with
  | none => s
  | some j =>
    if j.phase = 0 && !s.contHeld then
      if j.sr.tries ≥ 3 then endRecord 0x05 0 s
      else
        match ledgerCut j.cmd false s with
        | (true, s) => modCont (fun c => { c with rcd := some { j with phase := 1, sr := { j.sr with tries := j.sr.tries + 1 } } }) s
        | (false, s) => endRecord 0x05 0 s
    else if j.phase = 3 && !s.contHeld then writeRecord j s
    else s

/-- Begin a LEDGER_RECORD that its row has accepted. -/
def beginRecord (k : CmdKey) (s : State) : State :=
  let j : RecordJob := { cmd := k, start := s.ts, deadline := s.ts + s.scaled .service (1000 * s.fg F.CONT_BUD_REC_BUDGET) }
  runRecord (showCont (modCont (fun c => { c with rcd := some j }) s))

/-- The reads of one cut are over: consistent unless another cut has ticked (R365 step 3). -/
def recordReads (j : RecordJob) (s : State) : State :=
  if s.fg F.SHEAR_COUNT_CUTS == j.sr.count then
    runRecord (modCont (fun c => { c with rcd := some { j with phase := 3 } }) s)
  else runRecord (modCont (fun c => { c with rcd := some { j with phase := 0 } }) s)

/-- The budget of the running LEDGER_RECORD, where TS has passed it (R110, R365). -/
def expireRecord (s : State) : State :=
  match s.cont.rcd with
  | none => s
  | some j => if s.past j.deadline then endRecord 0x06 0 (serviceMiss 4 j.start s) else s

/-- A line of the entry is acknowledged, or its write has failed. -/
def ledgerAck (k : CmdKey) (good : Bool) (s : State) : State :=
  let s := expireRecord s
  match s.cont.rcd with
  | none => s
  | some j =>
    if j.cmd != k || j.phase != 4 then s
    else if !good then endRecord 0x06 0 s
    else if s.bus.writes.any (fun q => q.use == .ledgerWrite k) then s
    else
      let idx := s.fg F.LEDGER_NEXT_INDEX
      endRecord (if j.sr.absent.isEmpty then 0 else 1) idx (s.fs F.LEDGER_NEXT_INDEX ((idx + 1) % 2 ^ 32))

def execLedgerRecordTimeout (s : State) : Outcome State Fault Refusal := s.act fun s =>
  ok (expireRecord s)

/-! ### The scan (R366) -/

def runScan (s : State) : State :=
  match s.cont.scan with
  | none => s
  | some j =>
    if s.contHeld then s
    else
      let (j, s) := pumpJob .scan 1 lineMax j s
      modCont (fun c => { c with scan := some j }) s

/-- A write of CONT_CTL: LEDGER_EN going from 0 to 1 starts a scan; going to 0 it ends one. -/
def writeContCtl (v : Nat) (s : State) : State :=
  let was := s.fb F.CONT_CTL_LEDGER_EN
  let s := plainWrite R.CONT_CTL (BitVec.ofNat 32 v) s
  let on := s.fb F.CONT_CTL_LEDGER_EN
  if !was && on then
    showCont (runScan (modCont (fun c => { c with scan := some { addr := s.ledgerAddr 0, n := 4096, stride := 1088 } }) s))
  else if was && !on then showCont (modCont (fun c => { c with scan := none }) (abandonReads .scan s))
  else s

def execLedgerScanStart (id value : Nat) (s : State) : Outcome State Fault Refusal := s.act fun s =>
  ok (s.gate id R.CONT_CTL .operator (writeContCtl value))

/-- INDEX of a slot's header where the scan takes it. -/
def scanIndex (jobId slot : Nat) (bs : List Nat) : Option Nat :=
  let idx := leAt bs 4 4
  if leAt bs 0 4 = 0x4744454C && leAt bs 0x30 8 = jobId && idx % 4096 = slot then some idx else none

def execLedgerScanDone (s : State) : Outcome State Fault Refusal := s.act fun s =>
  match s.cont.scan with
  | none => ok s
  | some j =>
    if j.isOver then
      let found := j.got.filterMap (fun l => scanIndex s.job.jobId l.1 l.2)
      let next := if found.isEmpty then 0 else (found.foldl max 0 + 1) % 2 ^ 32
      ok (showCont (modCont (fun c => { c with scan := none }) (s.fs F.LEDGER_NEXT_INDEX next)))
    else ok s

/-! ### LEDGER_CHECK (R367, R368) -/

def endCheck (status result : Nat) (s : State) : State :=
  match s.cont.chk with
  | none => s
  | some j => completeCmd j.cmd status result (showCont (modCont (fun c => { c with chk := none }) (abandonReads .check s)))

/-- MAGIC, INDEX and JOB_ID of an entry hold (R364). -/
def entryNamed (s : State) (idx : Nat) (bs : List Nat) : Bool :=
  leAt bs 0 4 == 0x4744454C && leAt bs 4 4 == idx && leAt bs 0x30 8 == s.job.jobId

def entryCrcOk (bs : List Nat) : Bool := leAt bs 0x3C 4 == crc32c (bs.take 0x3C ++ bs.drop 0x40)

/-- A signed field of `w` bits as an integer, and its two's complement. -/
def asInt (w n : Nat) : Int := if n % 2 ^ w ≥ 2 ^ (w - 1) then Int.ofNat (n % 2 ^ w) - Int.ofNat (2 ^ w) else Int.ofNat (n % 2 ^ w)

/-- A signed 128-bit difference saturated to 64 bits. -/
def sat64 (d : Nat) : Nat :=
  let i := asInt 128 d
  if i > Int.ofNat (2 ^ 63 - 1) then 2 ^ 63 - 1 else if i < - Int.ofNat (2 ^ 63) then 2 ^ 63 else d % 2 ^ 64

/-- One 64-byte stream entry of the result (R368). -/
def streamEntry (s : State) (i recorded : Nat) (restored : Option Nat) : List Nat :=
  let d := match restored with | some r => (r + 2 ^ 128 - recorded) % 2 ^ 128 | none => 0
  toLe 1 i ++ toLe 1 (b2n (d != 0) + 2 * b2n restored.isNone) ++ toLe 2 (s.fg (F.STREAM_MAP_UNIT i)) ++
    toLe 1 (s.fg (F.STREAM_MAP_SLOT i)) ++ toLe 11 0 ++ toLe 16 recorded ++ toLe 16 (restored.getD 0) ++ toLe 16 d

/-- The header of the result. -/
def checkHeader (e : List Nat) (rflags nstream posDelta checkTs : Nat) : List Nat :=
  toLe 4 (leAt e 4 4) ++ toLe 1 rflags ++ toLe 1 nstream ++ toLe 2 0 ++ toLe 8 (leAt e 8 8) ++ toLe 8 (leAt e 0x10 8) ++ toLe 8 posDelta ++
    toLe 4 (leAt e 0x18 4) ++ toLe 4 0 ++ toLe 8 (leAt e 0x28 8) ++ toLe 8 checkTs ++ toLe 8 0

/-- The result of a check: written to the host; the skew's event and record before it. -/
def concludeCheck (j : CheckJob) (s : State) : State :=
  match s.cmd? j.cmd with
  | none => showCont (modCont (fun c => { c with chk := none }) s)
  | some c =>
    let e := j.entry
    let s := showCont (modCont (fun t => { t with chk := none }) s)
    if leAt e 0x1C 4 != s.rdN R.MAP_CRC then
      finishWithBytes j.cmd (c.fld 0x28 8) (checkHeader e (1 + 2 + 16 * b2n s.perturbed) 0 0 0) 1 256 s
    else
      let mask := leAt e 0x20 8
      let streams := bitsSet 64 mask
      let recorded (i : Nat) : Nat := leAt e (0x40 + 16 * i) 16
      let delta (i : Nat) : Nat := match j.sr.value i with | some r => (r + 2 ^ 128 - recorded i) % 2 ^ 128 | none => 0
      let skewed := streams.filter (fun i => delta i != 0)
      let posValid := bitOf (c.fld 0x10 1) 1
      let pos := if posValid then (c.fld 0x20 8 + 2 ^ 64 - leAt e 0x10 8) % 2 ^ 64 else 0
      let posSkew := pos != 0
      let absent := !j.sr.absent.isEmpty
      let rflags := 1 + 4 * b2n (!skewed.isEmpty) + 8 * b2n posSkew + 16 * b2n s.perturbed + 32 * b2n absent
      let tick := j.sr.tick.getD 0
      let bytes := checkHeader e rflags streams.length pos tick ++ streams.flatMap (fun i => streamEntry s i (recorded i) (j.sr.value i))
      let n := skewed.length
      let s := if skewed.isEmpty && !posSkew then s
        else
          let s := postEvent (s.fg F.CONT_CTL_EVT_RING)
            ⟨9, leAt e 4 4, tick, leAt e 8 8 + 2 ^ 64 * (n + 128 * b2n posSkew), none⟩ s
          let first := match skewed with | i :: _ => i | [] => 0
          let d2 := match skewed with | i :: _ => sat64 (delta i) | [] => pos
          centralFault cRestoreSkew 0 none (leAt e 8 8) (first + 2 ^ 6 * n + 2 ^ 13 * b2n posSkew + 2 ^ 32 * leAt e 4 4) d2 s
      finishWithBytes j.cmd (c.fld 0x28 8) bytes (b2n absent) (n + 128 * b2n posSkew) s

/-- A check's next step, as far as it may take one now. -/
def runCheck (s : State) : State :=
  match s.cont.chk with
  | none => s
  | some j =>
    if s.contHeld then s
    else if j.phase = 5 then
      let (q, s) := pumpJob .check 1 lineMax j.job s
      modCont (fun c => { c with chk := some { j with job := q } }) s
    else if j.phase = 0 then
      if j.sr.tries ≥ 3 then endCheck 0x05 0 s
      else
        match ledgerCut j.cmd true s with
        | (true, s) => modCont (fun c => { c with chk := some { j with phase := 1, sr := { j.sr with tries := j.sr.tries + 1 } } }) s
        | (false, s) => endCheck 0x05 0 s
    else s

/-- Look at the entry of an index next; with none left the command completes ABSENT. -/
def lookAt (j : CheckJob) (idx : Nat) (s : State) : State :=
  if j.left = 0 then endCheck 0x07 0 s
  else
    let q : LineJob := { addr := s.ledgerAddr idx, n := 17 }
    runCheck (modCont (fun c => { c with chk := some { j with idx := idx, left := j.left - 1, job := q } }) s)

/-- Begin a LEDGER_CHECK that its row has accepted (R367). -/
def beginCheck (k : CmdKey) (s : State) : State :=
  match s.cmd? k with
  | none => s
  | some c =>
    let next := s.fg F.LEDGER_NEXT_INDEX
    let byStep := bitOf (c.fld 0x10 1) 0
    let key := c.fld 0x18 4
    let back := (next + 2 ^ 32 - key) % 2 ^ 32
    let j : CheckJob := { cmd := k, start := s.ts, deadline := s.ts + s.scaled .service (1000 * s.fg F.CONT_BUD_CHK_BUDGET) }
    let s := showCont (modCont (fun t => { t with chk := some j }) s)
    if byStep then lookAt { j with left := 4096 } ((next + 2 ^ 32 - 1) % 2 ^ 32) s
    else if back = 0 || 4096 < back then endCheck 0x07 0 s
    else lookAt { j with left := 1 } key s

/-- The lines of one entry are in: the entry is taken, or the next one is looked at. -/
def checkEntry (j : CheckJob) (s : State) : State :=
  match s.cmd? j.cmd with
  | none => s
  | some c =>
    let bs := j.job.bytes
    let named := j.job.good && entryNamed s j.idx bs
    let s := if named && !entryCrcOk bs then s.fs F.CONT_STAT_TORN 1 else s
    let wanted := !bitOf (c.fld 0x10 1) 0 || leAt bs 8 8 == c.fld 0x18 8
    if named && entryCrcOk bs && wanted then
      let j := { j with entry := bs, phase := 0 }
      let s := modCont (fun t => { t with chk := some j }) s
      if leAt bs 0x1C 4 != s.rdN R.MAP_CRC then concludeCheck j s else runCheck s
    else lookAt j ((j.idx + 2 ^ 32 - 1) % 2 ^ 32) s

/-- The reads of a check's cut are over. -/
def checkReads (j : CheckJob) (s : State) : State :=
  if s.fg F.SHEAR_COUNT_CUTS == j.sr.count then concludeCheck j s
  else runCheck (modCont (fun c => { c with chk := some { j with phase := 0 } }) s)

/-- The budget of the running LEDGER_CHECK, where TS has passed it (R110, R368). -/
def expireCheck (s : State) : State :=
  match s.cont.chk with
  | none => s
  | some j => if s.past j.deadline then endCheck 0x06 0 (serviceMiss 5 j.start s) else s

def execLedgerCheckTimeout (s : State) : Outcome State Fault Refusal := s.act fun s =>
  ok (expireCheck s)

/-! ### What a cut and a capture page answer move on -/

/-- The cut a ledger command asked for has ticked: its streams are read. -/
def ledgerTick (check : Bool) (tick count : Nat) (s : State) : State :=
  let s := expireCheck (expireRecord s)
  if check then
    match s.cont.chk with
    | none => s
    | some j =>
      let (sr, s) := readStreams true { j.sr with tick := some tick, count := count } s
      let j := { j with phase := 2, sr := sr }
      let s := modCont (fun c => { c with chk := some j }) s
      if sr.owed.isEmpty then checkReads j s else s
  else
    match s.cont.rcd with
    | none => s
    | some j =>
      let (sr, s) := readStreams false { j.sr with tick := some tick, count := count } s
      let j := { j with phase := 2, sr := sr }
      let s := modCont (fun c => { c with rcd := some j }) s
      if sr.owed.isEmpty then recordReads j s else s

/-- A capture page word is answered (R363, R74). -/
def streamWord (check : Bool) (strm word : Nat) (v : Option Nat) (s : State) : State :=
  let s := expireCheck (expireRecord s)
  if check then
    match s.cont.chk with
    | none => s
    | some j =>
      if j.phase != 2 then s
      else
        let j := { j with sr := j.sr.take strm word v }
        let s := modCont (fun c => { c with chk := some j }) s
        if j.sr.owed.isEmpty then checkReads j s else s
  else
    match s.cont.rcd with
    | none => s
    | some j =>
      if j.phase != 2 then s
      else
        let j := { j with sr := j.sr.take strm word v }
        let s := modCont (fun c => { c with rcd := some j }) s
        if j.sr.owed.isEmpty then recordReads j s else s

/-! ### Region digests (R369) -/

/-- Address and length of a region obey R369. -/
def regionOk (addr len : Nat) : Bool :=
  addr % 64 == 0 && len % 64 == 0 && len != 0 && decide (addr % 2 ^ 40 + len ≤ 2 ^ 40)

/-- The front region's reads go on. -/
def runDigest (s : State) : State :=
  match s.cont.digests with
  | [] => s
  | d :: rest =>
    if s.contHeld || d.job.err then s
    else
      let (q, s) := pumpJob .digest 1 lineMax d.job s
      modCont (fun c => { c with digests := { d with job := q } :: rest }) s

/-- Ask the digest unit for a region: served in order of request. -/
def askDigest (use : DigestUse) (addr len : Nat) (s : State) : State :=
  let d : DigestJob := { use := use, addr := addr, len := len, job := { addr := addr, n := len / 64 } }
  showCont (runDigest (modCont (fun c => { c with digests := c.digests ++ [d] }) s))

/-- Take a use's region off the unit, abandoning its reads where it is in front. -/
def dropDigest (use : DigestUse → Bool) (s : State) : State :=
  let s := match s.cont.digests with
    | d :: _ => if use d.use then abandonReads .digest s else s
    | [] => s
  showCont (runDigest (modCont (fun c => { c with digests := c.digests.filter (fun d => !use d.use) }) s))

/-- A line's words join the sum. -/
def digestLine (d : DigestJob) (addr : Nat) (data : List Nat) (err : Bool) : DigestJob :=
  if err then { d with job := { d.job with done := d.job.done + 1, err := true } }
  else
    let ws := wordsOf data
    let c0 := 16 * d.job.lineOf addr
    let sum := (List.zip (List.range ws.length) ws).foldl (fun a p => (a + mix (c0 + p.1) p.2) % 2 ^ 64) d.acc
    { d with job := { d.job with done := d.job.done + 1 }, acc := sum }

/-- The 64 bytes of a DIGEST_REQ or DIGEST_RSP (R370). -/
def digestBytes (s : State) (kind status tag addr len digest ts : Nat) : List Nat :=
  toLe 1 kind ++ toLe 1 status ++ toLe 2 tag ++ toLe 3 s.node ++ toLe 1 0 ++ toLe 8 s.job.jobId ++ toLe 8 addr ++ toLe 8 len ++
    toLe 8 digest ++ toLe 8 ts ++ toLe 16 0

/-- A partner's request (R371). -/
def execDigestReqReceive (node tag job64 addr64 len64 : Nat) (s : State) : Outcome State Fault Refusal := s.awake fun s =>
  if !s.windowOpen then ok s
  else
    let answer (st : Nat) (s : State) : State := sendBulk node (digestBytes s 5 st tag addr64 len64 0 0) s
    let lo := s.rd64 R.MV_RX_BASE_LO R.MV_RX_BASE_HI
    let hi := lo + s.fg F.MV_RX_LEN_MIB * 2 ^ 20
    let partner (d : DigestJob) : Bool := match d.use with | .partner _ _ => true | _ => false
    if !s.fb F.CONT_CTL_MV_RX_EN || !s.job.peers.contains node || job64 != s.job.jobId then ok (answer 1 s)
    else if !regionOk addr64 len64 || addr64 >>> 40 != s.node || addr64 < lo || hi < addr64 + len64 then ok (answer 4 s)
    else if (s.cont.digests.filter partner).length ≥ 4 then ok (answer 2 s)
    else ok (askDigest (.partner node tag) addr64 len64 s)

/-! ### MIRROR_VERIFY (R370, R372) -/

/-- End a MIRROR_VERIFY with its 64-byte record. -/
def endVerify (result status : Nat) (j : VerifyJob) (s : State) : State :=
  let s := dropDigest (fun u => u == .verify) (modCont (fun c => { c with mv := none }) s)
  match s.cmd? j.cmd with
  | none => s
  | some c =>
    let ps := (j.rsp.map (·.1)).getD 0
    let dl := match j.mine with | some (true, d) => d | _ => 0
    let dp := match j.rsp with | some (0, d) => d | _ => 0
    let bytes := toLe 1 result ++ toLe 1 ps ++ toLe 2 (c.fld 0x28 2) ++ toLe 3 j.node ++ toLe 1 0 ++ toLe 8 (c.fld 0x20 8) ++ toLe 8 dl ++
      toLe 8 dp ++ toLe 8 j.start ++ toLe 8 s.ts ++ toLe 16 0
    finishWithBytes j.cmd (c.fld 0x30 8) bytes status (result + 2 ^ 8 * ps) s

/-- Both answers are in: the verify is decided. -/
def decideVerify (s : State) : State :=
  match s.cont.mv with
  | none => s
  | some j =>
    match j.mine, j.rsp with
    | some (good, d), some (ps, dp) =>
      if ps = 1 then endVerify (if good then 3 else 2) 0x03 j s
      else if !good then endVerify 2 1 j s
      else if ps != 0 then endVerify 3 1 j s
      else if d == dp then endVerify 0 0 j s
      else endVerify 1 0 j (centralFault cMirrorMismatch 0 none d dp j.node s)
    | _, _ => s

/-- Send the partner's DIGEST_REQ once, unless a dump holds it. -/
def runVerify (s : State) : State :=
  match s.cont.mv with
  | none => s
  | some j =>
    if j.sent || s.contHeld then s
    else
      match s.cmd? j.cmd with
      | none => s
      | some c =>
        let s := modCont (fun t => { t with mv := some { j with sent := true } }) s
        sendBulk j.node (digestBytes s 4 0 (c.fld 0x28 2) (c.fld 0x18 8) (c.fld 0x20 8) 0 0) s

/-- Begin a MIRROR_VERIFY that its row has accepted. -/
def beginVerify (k : CmdKey) (s : State) : State :=
  match s.cmd? k with
  | none => s
  | some c =>
    let j : VerifyJob := { cmd := k, node := c.fld 0x18 8 >>> 40, start := s.ts,
                           deadline := s.ts + s.scaled .service (1000000 * s.fg F.CONT_BUD_MV_BUDGET) }
    runVerify (askDigest .verify (c.fld 0x10 8) (c.fld 0x20 8) (modCont (fun t => { t with mv := some j }) s))

/-- The budget of the running MIRROR_VERIFY, where TS has passed it (R110, R372). -/
def expireVerify (s : State) : State :=
  match s.cont.mv with
  | none => s
  | some j => if s.past j.deadline then endVerify (if j.rsp.isNone then 4 else 2) 0x06 j (serviceMiss 6 j.start s) else s

def execMirrorVerifyTimeout (s : State) : Outcome State Fault Refusal := s.act fun s =>
  ok (expireVerify s)

/-! ### COPY (R373 to R375) -/

/-- An exposure entry (R375). -/
def shardEntry (h : Shard) : List Nat := toLe 4 h.sid ++ toLe 1 h.state ++ toLe 3 0 ++ toLe 8 h.acked ++ toLe 8 h.src ++ toLe 8 h.dst

def CopyJob.shards (j : CopyJob) : List Shard := j.plan.getD []

def CopyJob.here (j : CopyJob) : Option Shard := j.shards[j.cur]?

/-- Change the shard in work. -/
def CopyJob.modHere (j : CopyJob) (f : Shard → Shard) : CopyJob :=
  { j with plan := j.plan.map (fun l => (List.zip (List.range l.length) l).map (fun p => if p.1 = j.cur then f p.2 else p.2)) }

/-- End a fill (R373 to R375): cause 0 complete; the fault record of causes 1 to 4; the exposure record; the completion. -/
def finishCopy (cause failTs : Nat) (j : CopyJob) (s : State) : State :=
  let j := if cause != 0 && 0 < j.written then j.modHere (fun h => if h.state = 2 then { h with state := 1 } else h) else j
  let s := dropDigest (fun u => u == .copySrc || u == .copyDst) (abandonReads .copy (modCont (fun c => { c with copy := none }) s))
  match s.cmd? j.cmd with
  | none => s
  | some c =>
    let open_ := j.shards.filter (fun h => h.state != 0)
    let room := (c.fld 0x28 4 - 64) / 32
    let listed := open_.take room
    let here := j.here.getD ⟨0, 0, 0, 0, 2, 0⟩
    let s := if 1 ≤ cause && cause ≤ 4 then centralFault cFillAborted 0 none j.start (cause + 2 ^ 32 * listed.length) failTs s
      else if cause = 5 then serviceMiss 7 j.start s
      else s
    let result := if cause = 0 then 0 else if cause = 6 then 2 else if cause = 5 then 3 else 1
    let node := if cause = 1 || cause = 4 then s.node else if cause = 2 || cause = 3 then here.dst >>> 40 else 0
    let filled := (j.shards.filter (fun h => h.state == 0)).length
    let head := toLe 1 result ++ toLe 1 cause ++ toLe 1 (b2n (listed.length < open_.length) + 2 * b2n s.perturbed) ++ toLe 1 0 ++
      toLe 4 (c.fld 0x18 4) ++ toLe 4 filled ++ toLe 4 listed.length ++ toLe 8 j.start ++ toLe 8 failTs ++ toLe 3 node ++ toLe 1 0 ++
      toLe 4 (if cause = 0 then 0 else here.sid) ++ toLe 24 0
    let status := if cause = 0 then (if open_.isEmpty then 0 else 1) else if cause = 5 then 0x06 else 0x0A
    finishWithBytes j.cmd (c.fld 0x20 8) (head ++ listed.flatMap shardEntry) status filled s

/-- End a fill whose cause has come (R374). -/
def settleCopy (s : State) : State :=
  match s.cont.copy with
  | none => s
  | some j => match j.failing with
    | some (cause, t) => finishCopy cause t j s
    | none => s

/-- A cause of R374 arises now. -/
def failCopy (cause : Nat) (s : State) : State :=
  match s.cont.copy with
  | none => s
  | some j =>
    let f := match j.failing with | some f => f | none => (cause, s.ts)
    settleCopy (modCont (fun c => { c with copy := some { j with failing := some f } }) s)

/-- The budget of the running COPY, where TS has passed it (R110, R374 code 5). -/
def expireCopy (s : State) : State :=
  match s.cont.copy with
  | none => s
  | some j => if s.past j.deadline then failCopy 5 s else s

/-- Ask for the next source lines: reads and writes of the fill together stay within 1,024. -/
def pumpCopy (s : State) : State :=
  match s.cont.copy with
  | none => s
  | some j =>
    if s.contHeld || j.verifying || j.failing.isSome then s
    else
      let writes := (s.bus.writes.filter (fun q => q.use == .copyWrite j.cmd)).length
      let (q, s) := pumpJob .copy 1 (lineMax - writes) j.job s
      modCont (fun c => { c with copy := some { j with job := q } }) s

/-- Begin the shard in work, or end the fill after the last one. -/
def beginShard (s : State) : State :=
  match s.cont.copy with
  | none => s
  | some j =>
    match j.here with
    | none => finishCopy 0 0 j s
    | some h =>
      let q : LineJob := { addr := h.src, n := h.len / 64 }
      pumpCopy (modCont (fun c => { c with copy := some { j with job := q, written := 0, verifying := false, sent := false, dsrc := none,
                                                                  ddst := none } }) s)

/-- The shard in work is done with: the next one begins. -/
def closeShard (state : Nat) (s : State) : State :=
  match s.cont.copy with
  | none => s
  | some j =>
    let j := j.modHere (fun h => { h with state := state })
    beginShard (modCont (fun c => { c with copy := some { j with cur := j.cur + 1 } }) s)

/-- The plan is in (R373): checked whole before anything is written. -/
def copyPlan (k : CmdKey) (s : State) : State :=
  match s.cmd? k, s.cont.copy with
  | some c, some j =>
    let shards := (List.range (c.fld 0x18 4)).map (fun i =>
      ({ sid := leAt c.buf (32 * i) 4, src := leAt c.buf (32 * i + 8) 8, dst := leAt c.buf (32 * i + 16) 8,
         len := leAt c.buf (32 * i + 24) 8 } : Shard))
    let good (h : Shard) : Bool := h.src >>> 40 == s.node && regionOk h.src h.len && regionOk h.dst h.len
    if shards.all good then beginShard (modCont (fun t => { t with copy := some { j with plan := some shards } }) s)
    else completeCmd k 0x04 0 (showCont (modCont (fun t => { t with copy := none }) s))
  | _, _ => s

/-- Begin a COPY that its row has accepted: its plan is read. -/
def beginCopy (k : CmdKey) (s : State) : State :=
  match s.cmd? k with
  | none => s
  | some c =>
    let j : CopyJob := { cmd := k, start := s.ts, deadline := s.ts + s.scaled .service (1000000 * s.fg F.CONT_BUD_COPY_BUDGET) }
    fetchTable k (c.fld 0x10 8) (32 * c.fld 0x18 4) (showCont (modCont (fun t => { t with copy := some j }) s))

/-- A fill verifies its shard (R373): both digests, a remote one by DIGEST_REQ, unless a dump holds that. -/
def runShardVerify (s : State) : State :=
  match s.cont.copy with
  | none => s
  | some j =>
    match j.here with
    | none => s
    | some h =>
      if !j.verifying || j.sent || h.dst >>> 40 = s.node || s.contHeld then s
      else
        let s := modCont (fun c => { c with copy := some { j with sent := true } }) s
        sendBulk (h.dst >>> 40) (digestBytes s 4 0 (j.cur % 65536) h.dst h.len 0 0) s

def beginShardVerify (s : State) : State :=
  match s.cont.copy with
  | none => s
  | some j =>
    match j.here with
    | none => s
    | some h =>
      let s := modCont (fun c => { c with copy := some { j with verifying := true } }) s
      let s := askDigest .copySrc h.src h.len s
      let s := if h.dst >>> 40 = s.node then askDigest .copyDst h.dst h.len s else s
      runShardVerify s

/-- Both digests of a shard are in, or cannot be: FILLED, or VERIFY_FAIL with its record. -/
def decideShard (s : State) : State :=
  match s.cont.copy with
  | none => s
  | some j =>
    match j.here, j.dsrc, j.ddst with
    | some h, some (ga, a), some (gb, b) =>
      if ga && gb && a == b then closeShard 0 s
      else closeShard 3 (centralFault cMirrorMismatch 0 none a b (h.dst >>> 40 + 2 ^ 24 + 2 ^ 32 * h.sid) s)
    | _, _, _ => s

/-- A source line arrives, or fails (R374 cause 1). -/
def copyLine (addr : Nat) (data : List Nat) (err : Bool) (s : State) : State :=
  let s := expireCopy s
  match s.cont.copy with
  | none => s
  | some j =>
    if j.failing.isSome then s
    else if err then failCopy 1 s
    else match j.here with
      | none => s
      | some h =>
        let i := j.job.lineOf addr
        let s := modCont (fun c => { c with copy := some { j with written := j.written + 1, job := { j.job with done := j.job.done + 1 } } }) s
        pumpCopy (lineWrite 1 (h.dst + 64 * i) data (.copyWrite j.cmd) s)

/-- A destination line is acknowledged, or fails (R374 cause 2). -/
def copyAck (k : CmdKey) (good : Bool) (s : State) : State :=
  let s := expireCopy s
  match s.cont.copy with
  | none => s
  | some j =>
    if j.cmd != k || j.verifying then s
    else if !good then failCopy 2 s
    else
      let j := j.modHere (fun h => { h with acked := h.acked + 64 })
      let s := modCont (fun c => { c with copy := some j }) s
      match j.here, s.cmd? k with
      | some h, some c =>
        if h.acked < h.len then pumpCopy s
        else if bitOf (c.fld 0x1C 1) 0 then beginShardVerify s
        else closeShard 0 s
      | _, _ => s

def execCopyTimeout (s : State) : Outcome State Fault Refusal := s.act fun s =>
  ok (expireCopy s)

def execContAbortCopy (id : Nat) (s : State) : Outcome State Fault Refusal := s.act fun s =>
  ok (s.gate id R.CONT_ABORT .operator (failCopy 6))

/-! ### Answers of the digest unit and of partners -/

/-- The front region is over (R369): its digest or ERR goes to whom it serves; a partner's answer waits while a dump runs. -/
def execRegionDigestDone (s : State) : Outcome State Fault Refusal := s.act fun s =>
  let s := expireCopy (expireVerify s)
  match s.cont.digests with
  | [] => ok s
  | d :: rest =>
    if !d.job.err && !d.job.isOver then ok s
    else
      let good := !d.job.err
      let v := if good then d.acc else 0
      let pop (s : State) : State := showCont (runDigest (modCont (fun c => { c with digests := rest }) (abandonReads .digest s)))
      match d.use with
      | .partner node tag =>
        if s.lehr.running then ok s
        else ok (sendBulk node (digestBytes s 5 (if good then 0 else 3) tag d.addr d.len v s.ts) (pop s))
      | .verify =>
        ok (decideVerify (modCont (fun c => { c with mv := c.mv.map (fun j => { j with mine := some (good, v) }) }) (pop s)))
      | .copySrc =>
        ok (decideShard (modCont (fun c => { c with copy := c.copy.map (fun j => { j with dsrc := some (good, v) }) }) (pop s)))
      | .copyDst =>
        ok (decideShard (modCont (fun c => { c with copy := c.copy.map (fun j => { j with ddst := some (good, v) }) }) (pop s)))

/-- A DIGEST_RSP arrives (R372): for the MIRROR_VERIFY or the shard in verify whose request it echoes; any other is
discarded. -/
def execDigestRspReceive (node status tag addr64 len64 digest64 : Nat) (s : State) : Outcome State Fault Refusal := s.awake fun s =>
  if !s.windowOpen then ok s
  else
    let s := expireCopy (expireVerify s)
    let forVerify := match s.cont.mv with
      | some j => match s.cmd? j.cmd with
        | some c => j.sent && j.rsp.isNone && j.node == node && c.fld 0x28 2 == tag && c.fld 0x18 8 == addr64 && c.fld 0x20 8 == len64
        | none => false
      | none => false
    let forShard := match s.cont.copy with
      | some j => match j.here with
        | some h => j.verifying && j.sent && j.ddst.isNone && h.dst >>> 40 == node && j.cur % 65536 == tag && h.dst == addr64 && h.len == len64
        | none => false
      | none => false
    if forVerify then
      ok (decideVerify (modCont (fun c => { c with mv := c.mv.map (fun j => { j with rsp := some (status, digest64) }) }) s))
    else if forShard then
      ok (decideShard (modCont (fun c => { c with copy := c.copy.map (fun j => { j with ddst := some (status == 0, digest64) }) }) s))
    else ok s

/-! ### Dumps and resets (R376) -/

/-- What a dump held goes on. -/
def contResume (s : State) : State :=
  showCont (runShardVerify (pumpCopy (runVerify (runDigest (runScan (runCheck (runRecord s)))))))

/-- HUB_WARM: every service ends with no completion and no record. -/
def warmCont (s : State) : State :=
  let c := s.cont
  let ran := c.rcd.isSome || c.chk.isSome || c.mv.isSome || c.copy.isSome || c.scan.isSome || !c.digests.isEmpty
  let s := if ran then s.fs F.CONT_STAT_INTERRUPTED 1 else s
  showCont { s with cont := {} }

/-- A line of a run of the continuity services is answered, or is not in time. -/
def contLine (who : Reader) (addr : Nat) (data : List Nat) (err : Bool) (s : State) : State :=
  match who with
  | .lehr => s
  | .scan =>
    match s.cont.scan with
    | none => s
    | some j => runScan (modCont (fun c => { c with scan := some (j.take addr data err) }) s)
  | .check =>
    match s.cont.chk with
    | none => s
    | some j =>
      if s.past j.deadline then expireCheck s
      else
        let j := { j with job := j.job.take addr data err }
        let s := modCont (fun c => { c with chk := some j }) s
        if j.job.isOver then checkEntry j s else runCheck s
  | .digest =>
    match s.cont.digests with
    | [] => s
    | d :: rest => runDigest (modCont (fun c => { c with digests := digestLine d addr data err :: rest }) s)
  | .copy => copyLine addr data err s

end Sys2Proof.Machine
end

