-- ==== Sys2Proof/Machine/Container.lean ====
section
/-! DEFINITION. The dump container (chapter 14): its header, table, sections and seal, and the writes that carry it to each
copy in the order of R322. -/

namespace Sys2Proof.Machine

def modLehr (f : LehrState → LehrState) (s : State) : State := { s with lehr := f s.lehr }

def State.lehrPhase (s : State) : Nat := s.fg F.LEHR_STAT_PHASE

/-- Bytes of the KEEP area (R311). -/
def keepBytes : Nat := 2 ^ 18

/-! ### Header, preamble, table entry (R321, R323, R324) -/

/-- START source of the running dump. -/
def DumpSource.code : DumpSource → Nat
  | .policy _ _ => 0
  | .command _ => 1
  | .mailbox _ _ => 2
  | .register => 3

def contHeader (s : State) (state copyflags nsect contLen : Nat) : List Nat :=
  let l := s.lehr
  let q : DumpReq := l.req.getD ⟨0, false, none, .register, false, 0, 0⟩
  toLe 4 0x5248454C ++ toLe 2 3 ++ toLe 2 128 ++ toLe 1 state ++ toLe 1 copyflags ++ toLe 6 0 ++
  toLe 4 (s.fg F.LEHR_NUM_NUM) ++ toLe 4 (s.rdN R.HUB_ID) ++ toLe 4 s.node ++ toLe 2 nsect ++ toLe 1 q.src.code ++
  toLe 1 (s.fg F.LEHR_CTL_P0_CLASS + 2 * s.fg F.LEHR_STAT_NOCUT + 4 * b2n l.adopted + 8 * b2n q.noScratch) ++
  toLe 8 l.startTs ++ toLe 8 (l.tick.getD 0) ++ toLe 2 q.scope ++ toLe 2 (unitField q.unit) ++ toLe 4 l.trig ++
  toLe 8 contLen ++ toLe 8 (s.rd64 R.SLOT_BUILD_LO R.SLOT_BUILD_HI) ++ toLe 4 (s.rdN R.GAF_FW_VER) ++ toLe 1 s.slot.horizon ++
  toLe 1 s.slot.npart ++ toLe 50 0

def preamble (s : State) (x : DumpSect) (raw stored crc : Nat) : List Nat :=
  toLe 4 0x54434553 ++ toLe 1 x.ty ++ toLe 1 x.enc ++ toLe 1 x.sflags ++ toLe 1 0 ++ toLe 4 (s.fg F.LEHR_NUM_NUM) ++ toLe 8 raw ++
    toLe 8 stored ++ toLe 4 crc

/-- The preamble as it stands once the body is written. -/
def closedPreamble (s : State) (x : DumpSect) : List Nat := preamble s x x.raw x.body.length (crc32c x.body)

def tableEntry (x : DumpSect) (loc off crc : Nat) : List Nat :=
  toLe 1 x.ty ++ toLe 1 x.enc ++ toLe 1 loc ++ toLe 1 x.sflags ++ toLe 4 crc ++ toLe 8 off ++ toLe 8 x.body.length ++ toLe 8 x.aux

/-- The next 64-byte boundary. -/
def up64 (n : Nat) : Nat := (n + 63) / 64 * 64

/-- A section of ZRW-encoded bytes. -/
def zrwSect (ty sflags aux : Nat) (bytes : List Nat) : DumpSect :=
  let ws := wordsOf64 bytes
  { ty := ty, enc := 1, sflags := sflags, aux := aux, raw := 8 * ws.length, body := bytesOf64 (zrwEncode ws) }

def rawSect (ty sflags aux : Nat) (bytes : List Nat) : DumpSect :=
  { ty := ty, enc := 0, sflags := sflags, aux := aux, raw := bytes.length, body := bytes }

/-! ### Writes of a copy (R306, R309 to R311, R322) -/

/-- Number of a copy among a dump's, which its outstanding writes carry. -/
def State.copyId (s : State) (i : Nat) : Nat := 4 * s.fg F.LEHR_NUM_NUM + i

def State.copyBusy (s : State) (i : Nat) : Bool :=
  s.bus.writes.any (fun q => q.use == .dumpWrite (s.copyId i)) ||
    s.bus.hostWr.any (fun q => q.use == .dump (s.copyId i))

def modDest (i : Nat) (f : DumpDest → DumpDest) (s : State) : State :=
  modLehr (fun l => { l with dests := (List.zip (List.range l.dests.length) l.dests).map (fun p => if p.1 = i then f p.2 else p.2) }) s

/-- Issue a copy's next writes: each only once every one before it has been acknowledged. -/
def pumpDest (i : Nat) : Nat → State → State
  | 0, s => s
  | fuel + 1, s =>
    match s.lehr.dests[i]? with
    | none => s
    | some d =>
      if !d.alive || s.copyBusy i then s
      else match d.queue with
        | [] => s
        | (off, bs) :: rest =>
          let s := modDest i (fun d => { d with queue := rest }) s
          let s := if d.ty = 3 then modLehr (fun l => { l with keep := memPutBytes l.keep off bs }) s
            else if d.ty = 2 then hostWriteBytes 3 (d.addr + off) bs (.dump (s.copyId i)) s
            else lineWrites 0 (d.addr + off) bs (.dumpWrite (s.copyId i)) s
          pumpDest i fuel s

/-- Queue writes of a copy and issue what can go. -/
def pushWrites (i : Nat) (ws : List (Nat × List Nat)) (s : State) : State :=
  let s := modDest i (fun d => { d with queue := d.queue ++ ws }) s
  pumpDest i ((((s.lehr.dests[i]?).map (fun d => d.queue.length)).getD 0) + 1) s

def destIds (s : State) : List Nat := List.range s.lehr.dests.length

/-- Open headers (R309, R322 step 1). -/
def writeOpen (i : Nat) (s : State) : State := pushWrites i [(0, contHeader s 0 0 0 0)] s

/-- Which sections a KEEP container lists and where: 0 in the area, 1 the cullet buffer, 2 the trace ring, none at all (R311,
R332). -/
def keepLoc (ty : Nat) : Option Nat := if ty = 6 then none else if ty = 2 then some 1 else if ty = 3 then some 2 else some 0

/-- Add a closed section to a KEEP copy: one that does not fit is omitted and the dump is PARTIAL (R311). -/
def placeKeep (i : Nat) (x : DumpSect) (s : State) : State :=
  match s.lehr.dests[i]?, keepLoc x.ty with
  | some d, some 0 =>
    let n := up64 (32 + x.body.length)
    if d.off + n + 192 > keepBytes && x.ty != 9 then modLehr (fun l => { l with incomplete := true }) s
    else
      let s := modDest i (fun d => { d with off := d.off + n, table := d.table ++ [tableEntry x 0 d.off (crc32c x.body)] }) s
      let s := modLehr (fun l => { l with keepSects := l.keepSects ++ [x] }) s
      pushWrites i [(d.off, closedPreamble s x ++ x.body)] s
  | some _, some loc =>
    let off := if loc = 1 then s.lehr.p1Dir.getD 0 else s.rdN R.TRC_OLD
    let s := if loc = 1 then modLehr (fun l => { l with keepDir := l.p1Dir }) s else s
    modLehr (fun l => { l with keepSects := l.keepSects ++ [x] })
      (modDest i (fun d => { d with table := d.table ++ [tableEntry x loc off (crc32c x.body)] }) s)
  | _, _ => s

/-! ### The seal (R330) -/

/-- Result of the seal (R307). -/
def LehrState.sealResult (l : LehrState) (noCut : Bool) : Nat :=
  if l.aborted then 2 else if l.incomplete || l.trunc || l.late != 0 || noCut then 1 else 0

/-- The sealed message of one copy, for its header and table. -/
def sealedMessage (head : List Nat) (table : List (List Nat)) (body16 : List Nat) : List Nat :=
  (head.drop 0x10).take 0x28 ++ (head.drop 0x40).take 0x40 ++
    table.flatMap (fun e => e.take 2 ++ (e.drop 3).take 5 ++ (e.drop 0x10).take 0x10) ++ body16

/-- Length of a copy with its SEAL section. -/
def DumpDest.contLen (d : DumpDest) : Nat := d.off + 192

/-- The CLOSED header of a copy (R322 step 4). -/
def closedHeader (d : DumpDest) (s : State) : List Nat := contHeader s 1 0 (d.table.length + 1) d.contLen

/-- The SEAL section of a copy. -/
def sealSect (d : DumpDest) (s : State) : DumpSect :=
  let l := s.lehr
  let key := if s.fb F.LEHR_CTL_SIGN then s.otp.devKey else none
  let flags := b2n l.single + 2 * s.fg F.LEHR_STAT_NOCUT + 4 * b2n l.trunc + 8 * b2n l.pert + 16 * b2n key.isSome + 32 * b2n (d.ty == 3)
  let body16 := toLe 1 (l.sealResult (s.fb F.LEHR_STAT_NOCUT)) ++ toLe 1 flags ++ toLe 1 l.late ++ toLe 5 0 ++ toLe 8 l.ended
  let digest := sha256 (sealedMessage (closedHeader d s) d.table body16)
  let sig := match key with
    | some k => toLe 32 (Config.ed25519Public k) ++ toLe 64 (Config.ed25519Sign k digest)
    | none => List.replicate 96 0
  rawSect 9 0 0 (body16 ++ digest ++ sig)

/-- Steps 3 and 4 of R322 for a copy. -/
def writeTable (i : Nat) (s : State) : State :=
  match s.lehr.dests[i]? with
  | none => s
  | some d =>
    let x : DumpSect := rawSect 9 0 0 (List.replicate 144 0)
    let entries := d.table ++ [tableEntry x 0 d.off 0]
    pushWrites i [(0x80, padTo 512 entries.flatten), (0, closedHeader d s)] s

/-- The writes of steps 5 to 7 of R322. -/
def sealWrites (x : DumpSect) (d : DumpDest) (s : State) : List (Nat × List Nat) :=
  [(d.off, preamble s x 0 0 0), (d.off + 32, x.body ++ List.replicate 16 0), (d.off, closedPreamble s x),
   (0x80 + 32 * d.table.length, tableEntry x 0 d.off (crc32c x.body)), (8, [2])]

/-- Steps 5 to 7 of R322 for a copy. -/
def writeSeal (i : Nat) (s : State) : State :=
  match s.lehr.dests[i]? with
  | none => s
  | some d =>
    let x := sealSect d s
    let s := if d.ty = 3 then modLehr (fun l => { l with keepSects := l.keepSects ++ [x], keepHead := closedHeader d s }) s else s
    pushWrites i (sealWrites x d s) s

/-! ### A copy fails (R310) -/

/-- KEEP takes over: what it keeps of the sections formed so far, and what the dump has written since (R310, R311). -/
def clearKeep (s : State) : State :=
  let s := match s.lehr.keepDir with
    | some d => if s.lehr.running && s.lehr.p1Dir == some d then s else unpinDir d s
    | none => s
  modLehr (fun l => { l with keep := [], keepSects := [], keepHead := [], keepDir := none }) s

def takeKeep (slot : Nat) (s : State) : State :=
  let i := s.lehr.dests.length
  let s := clearKeep (s.fs F.LEHR_STAT_KEEP_ON 1)
  let s := modLehr (fun l => { l with dests := l.dests ++ [{ slot := slot, ty := 3, size := keepBytes }] }) s
  let s := writeOpen i s
  let s := s.lehr.formed.foldl (fun s x => placeKeep i x s) s
  let s := if 5 ≤ s.lehrPhase then writeTable i s else s
  if 6 ≤ s.lehrPhase then writeSeal i s else s

/-- A copy fails: it is written no more and its slot shows FAILED. -/
def failDest (i : Nat) (s : State) : State :=
  match s.lehr.dests[i]? with
  | none => s
  | some d =>
    if !d.alive then s
    else
      let s := modDest i (fun d => { d with alive := false, queue := [], opened := none }) s
      let s := if d.slot < 4 then s.fs (F.LEHR_DEST_CFG_FAILED d.slot) 1 else s
      let s := if i = 1 then s.fs F.LEHR_STAT_MIRROR_ON 0 else s
      if s.lehr.dests.any (·.alive) then modLehr (fun l => { l with single := true }) s
      else takeKeep 4 s

/-! ### Sections (R320, R324) -/

/-- Open a section: its preamble goes to each copy but KEEP, which takes it when it closes. -/
def openSect (ty enc : Nat) (s : State) : State :=
  let x : DumpSect := { ty := ty, enc := enc }
  let s := modLehr (fun l => { l with current := some x }) s
  (destIds s).foldl (fun s i =>
    match s.lehr.dests[i]? with
    | some d =>
      if !d.alive || d.ty = 3 then s
      else pushWrites i [(d.off, preamble s x 0 0 0)] (modDest i (fun d => { d with opened := some d.off }) s)
    | none => s) s

/-- Append to the open section; a copy it would overrun fails, and the dump is TRUNCATED (R310). -/
def appendSect (bs : List Nat) (s : State) : State :=
  match s.lehr.current with
  | none => s
  | some x =>
    let s := modLehr (fun l => { l with current := some { x with body := x.body ++ bs } }) s
    (destIds s).foldl (fun s i =>
      match s.lehr.dests[i]? with
      | some d =>
        match d.alive, d.opened with
        | true, some o =>
          if up64 (o + 32 + x.body.length + bs.length) > d.size then failDest i (modLehr (fun l => { l with trunc := true }) s)
          else if bs.isEmpty then s
          else pushWrites i [(o + 32 + x.body.length, bs)] s
        | _, _ => s
      | none => s) s

/-- Close the open section with its final values. -/
def closeSect (sflags aux raw : Nat) (s : State) : State :=
  match s.lehr.current with
  | none => s
  | some x =>
    let x := { x with sflags := sflags, aux := aux, raw := raw }
    let s := modLehr (fun l => { l with current := none, formed := l.formed ++ [x] }) s
    (destIds s).foldl (fun s i =>
      match s.lehr.dests[i]? with
      | some d =>
        if !d.alive then s
        else if d.ty = 3 then placeKeep i x s
        else match d.opened with
          | some o =>
            let len := x.body.length
            let pad := up64 (32 + len) - (32 + len)
            let s := modDest i (fun d => { d with opened := none, off := o + up64 (32 + len),
                                                  table := d.table ++ [tableEntry x 0 o (crc32c x.body)] }) s
            pushWrites i ((if pad = 0 then [] else [(o + 32 + len, List.replicate pad 0)]) ++ [(o, closedPreamble s x)]) s
          | none => s
      | none => s) s

/-- A whole section at once. -/
def addSect (x : DumpSect) (s : State) : State :=
  let s := if x.sflags % 4 != 0 then modLehr (fun l => { l with incomplete := true, trunc := l.trunc || bitOf x.sflags 0 }) s else s
  closeSect x.sflags x.aux x.raw (appendSect x.body (openSect x.ty x.enc s))

/-! ### The host copy of a KEEP container (R332) -/

/-- Sections of the copy, one after another from 0x280. -/
def hostSects (s : State) : Nat → List DumpSect → List (List Nat) × List Nat
  | _, [] => ([], [])
  | off, x :: xs =>
    let bs := padTo 64 (closedPreamble s x ++ x.body)
    let (es, body) := hostSects s (off + bs.length) xs
    (tableEntry x 0 off (crc32c x.body) :: es, bs ++ body)

/-- The bytes DUMP_STATUS copies; none where there is no KEEP container. -/
def State.keepCopy (s : State) : List Nat :=
  let l := s.lehr
  if l.keepHead.isEmpty then []
  else
    let num := leAt l.keepHead 0x10 4
    let t := { s with regs := (s.fs F.LEHR_NUM_NUM num).regs }
    let (es, body) := hostSects t 0x280 l.keepSects
    let head := l.keepHead.take 8 ++ [2, 1] ++ (l.keepHead.drop 0x0A).take 0x2E ++ toLe 8 (0x280 + body.length) ++ l.keepHead.drop 0x40
    head ++ padTo 512 es.flatten ++ body

end Sys2Proof.Machine
end

