-- ==== Sys2Proof/Machine/Lehr.lean ====
section
/-! DEFINITION. The Lehr crash-dump service (chapter 13): requests, destinations, phases P0 to P5, deadlines, aborts. The
firmware's own progress (`lehrRun`) is taken at each tick and after each answer that moves it on. -/

namespace Sys2Proof.Machine

open Host (Outcome)

/-! ### Destinations (R308, R309) -/

/-- Values of a slot break R308's table. -/
def State.destBad (s : State) (d : Nat) : Bool :=
  let ty := s.fg (F.LEHR_DEST_CFG_TYPE d)
  let addr := s.rd64 (R.LEHR_DEST_ADDR_LO d) (R.LEHR_DEST_ADDR_HI d)
  let size := s.fg (F.LEHR_DEST_SIZE_MIB d)
  if ty = 3 then false
  else addr % 65536 != 0 || (ty == 0 && (addr >>> 40 != s.node || decide (4096 < size))) || (ty == 1 && addr >>> 40 == s.node)

def checkDest (d : Nat) (s : State) : State := s.fs (F.LEHR_DEST_CFG_BAD d) (b2n (s.destBad d))

/-- A write of a destination slot: word 0 CFG, 1 ADDR as one 64-bit value, 3 SIZE. HELD and FAILED are cleared by 1, also
while a dump runs; the rest is ignored then (R318). -/
def writeDest (d w v : Nat) (s : State) : State :=
  if s.lehr.running then
    if w = 0 then plainWrite (R.LEHR_DEST_CFG d) (BitVec.ofNat 32 (s.rdN (R.LEHR_DEST_CFG d) % 8 + v / 8 % 4 * 8)) s else s
  else
    let s := if w = 0 then plainWrite (R.LEHR_DEST_CFG d) (BitVec.ofNat 32 v) s
      else if w = 1 then s.wr64 (R.LEHR_DEST_ADDR_LO d) (R.LEHR_DEST_ADDR_HI d) v
      else if w = 3 then plainWrite (R.LEHR_DEST_SIZE d) (BitVec.ofNat 32 v) s
      else s
    checkDest d s

def execLehrDestWrite (id index4 word value64 : Nat) (s : State) : Outcome State Fault Refusal := s.act fun s =>
  ok (s.gate id (R.LEHR_DEST_CFG (index4 % 4)) .operator (writeDest (index4 % 4) word value64))

def State.destUsable (s : State) (d : Nat) : Bool :=
  s.fb (F.LEHR_DEST_CFG_EN d) && !s.fb (F.LEHR_DEST_CFG_HELD d) && !s.fb (F.LEHR_DEST_CFG_BAD d) &&
    (decide (2 ≤ s.fg (F.LEHR_DEST_CFG_TYPE d)) || s.fg (F.LEHR_DEST_SIZE_MIB d) != 0)

/-- Choose the copies (R309) and write their open headers. -/
def chooseDests (s : State) : State :=
  let usable := (List.range 4).filter s.destUsable
  let chosen := if s.fb F.LEHR_CTL_MIRROR_EN then usable.take 2 else usable.take 1
  let slots := if chosen.isEmpty then [4] else chosen
  let dest (d : Nat) : DumpDest :=
    if d = 4 then { slot := 4, ty := 3, size := keepBytes }
    else
      let ty := s.fg (F.LEHR_DEST_CFG_TYPE d)
      { slot := d, ty := ty, addr := s.rd64 (R.LEHR_DEST_ADDR_LO d) (R.LEHR_DEST_ADDR_HI d),
        size := (if ty = 3 then keepBytes else s.fg (F.LEHR_DEST_SIZE_MIB d) * 2 ^ 20) }
  let dests := slots.map dest
  let keep := dests.any (fun d => d.ty == 3)
  let s := if keep then clearKeep s else s
  let s := modLehr (fun l => { l with dests := dests }) s
  let s := s.fs F.LEHR_STAT_PRIMARY (slots.headD 0 % 4)
  let s := s.fs F.LEHR_STAT_MIRROR (slots.getD 1 0 % 4)
  let s := s.fs F.LEHR_STAT_MIRROR_ON (b2n (1 < slots.length))
  let s := s.fs F.LEHR_STAT_KEEP_ON (b2n keep)
  let s := dests.foldl (fun s d => if d.slot < 4 then s.fs (F.LEHR_DEST_CFG_FAILED d.slot) 0 else s) s
  (destIds s).foldl (fun s i => writeOpen i s) s

/-! ### Deadlines (R295 to R297) -/

/-- START_TS + TOTAL − SEAL_RES and START_TS + TOTAL. -/
def LehrState.sealLimit (l : LehrState) : Nat := l.startTs + l.total - l.sealRes
def LehrState.totalLimit (l : LehrState) : Nat := l.startTs + l.total

/-- Enter a phase (0 for P0) whose own deadline is `own`, where it has one. -/
def enterPhase (p : Nat) (own : Option Nat) (s : State) : State :=
  let l := s.lehr
  let (dl, lim) := match own with
    | some d => if l.sealLimit < d then (l.sealLimit, true) else (d, false)
    | none => (if p = 5 then l.totalLimit else l.sealLimit, true)
  modLehr (fun l => { l with deadline := dl, atLimit := lim, lateP5 := false }) (s.fs F.LEHR_STAT_PHASE (p + 1))

/-- DUMP_DEADLINE (R297). -/
def lateDump (p deadline : Nat) (atLimit : Bool) (s : State) : State :=
  let s := modLehr (fun l => { l with late := setBit l.late p true }) (s.fs F.LEHR_STAT_DEADLINE 1)
  let ctx := match s.lehr.req with | some ⟨_, _, _, .policy c _, _, _, _⟩ => c | _ => 0
  centralFault cDumpDeadline ctx none s.lehr.startTs (p + 8 * b2n atLimit + 2 ^ 32 * s.fg F.LEHR_NUM_NUM) deadline s

/-! ### The end of a dump (R307, R312, R314) -/

/-- End the dump with a result: holds, LAST registers, the event, the DUMP command, what the dump held back. -/
def finishDump (result : Nat) (sealed : Bool) (s : State) : State :=
  let l := s.lehr
  let alive := l.dests.filter (·.alive)
  let num := s.fg F.LEHR_NUM_NUM
  let s := if sealed && !l.aborted then
      alive.foldl (fun s d => if d.slot < 4 then s.fs (F.LEHR_DEST_CFG_HELD d.slot) 1 else s) s
    else s
  let mirror := sealed && decide (1 < l.dests.length) && (match l.dests[1]? with | some d => d.alive && d.slot < 4 | none => false) &&
    s.fb F.LEHR_STAT_MIRROR_ON
  let status := result + 4 * b2n l.single + 8 * s.fg F.LEHR_STAT_NOCUT + 16 * b2n l.trunc + 32 * b2n l.pert + 2 ^ 8 * l.late +
    2 ^ 16 * s.fg F.LEHR_STAT_PRIMARY + 2 ^ 18 * s.fg F.LEHR_STAT_MIRROR + 2 ^ 20 * b2n mirror
  let ended := if l.ended = 0 then s.ts else l.ended
  let s := s.wr64 R.LEHR_LAST_START_LO R.LEHR_LAST_START_HI l.startTs
  let s := s.wr64 R.LEHR_LAST_SEAL_LO R.LEHR_LAST_SEAL_HI ended
  let s := s.wr64 R.LEHR_LAST_BYTES_LO R.LEHR_LAST_BYTES_HI ((alive.head?.map (·.contLen)).getD 0)
  let s := s.wrN R.LEHR_LAST_STATUS status
  let s := s.fs F.LEHR_STAT_PHASE 0
  let s := match l.p1Dir with
    | some d => if l.keepDir == some d then s else unpinDir d s
    | none => s
  let s := modLehr (fun l => { asked := l.asked, keep := l.keep, keepSects := l.keepSects, keepHead := l.keepHead, keepDir := l.keepDir }) s
  let s := postEvent (s.fg F.LEHR_CTL_EVT_RING) ⟨3, num, ended, l.startTs + 2 ^ 64 * status, none⟩ s
  let code := if result = 0 then 0 else if result = 1 then 1 else if result = 2 then 0x0A else 0x06
  let s := match l.req with
    | some ⟨_, _, _, .command k, _, _, _⟩ => completeCmd k code num s
    | _ => s
  contResume (releaseWaiting s)

/-! ### P5 and P4 (R306, R307) -/

/-- Every copy still alive has had all its writes acknowledged. -/
def State.copiesDone (s : State) : Bool :=
  (destIds s).all (fun i => match s.lehr.dests[i]? with | some d => !d.alive || (d.queue.isEmpty && !s.copyBusy i) | none => true)

/-- A KEEP copy alone with nothing in it is nothing written anywhere (R310). -/
def State.nothingWritten (s : State) : Bool :=
  s.lehr.dests.all (fun d => !d.alive || (d.slot == 4 && decide (1 < s.lehr.dests.length) && d.table.isEmpty))

def enterP5 (s : State) : State :=
  let s := enterPhase 5 none s
  let s := modLehr (fun l => { l with ended := s.ts }) s
  if s.nothingWritten then finishDump 3 false s
  else (destIds s).foldl (fun s i => match s.lehr.dests[i]? with | some d => if d.alive then writeSeal i s else s | none => s) s

def enterP4 (s : State) : State :=
  let s := enterPhase 4 none s
  (destIds s).foldl (fun s i =>
    match s.lehr.dests[i]? with
    | some d =>
      if !d.alive then s
      else if d.ty != 3 && d.off + 192 > d.size then failDest i (modLehr (fun l => { l with trunc := true }) s)
      else writeTable i s
    | none => s) s

/-! ### P3 (R302 to R304, R326) -/

/-- Records of a CULLET body after its directory entry: unit, state, vector bytes. `fuel` bounds the records. -/
def culletRecords : Nat → List Nat → List (Nat × Nat × List Nat)
  | 0, _ => []
  | fuel + 1, bs =>
    if bs.length < 16 then []
    else
      let stat := leAt bs 2 1 % 4
      let fmt := leAt bs 3 1
      let n := leAt bs 4 2
      let body := (bs.drop 16).take (8 * n)
      let want := cvBytes (fmt % 4) / 8
      let vec := if bitOf fmt 2 then body else match zrwDecode (wordsOf64 body) want with | some ws => bytesOf64 ws | none => []
      (leAt bs 0 2 % 2 ^ 14, stat, if stat < 2 then vec else []) :: culletRecords fuel (bs.drop (16 + 8 * n))

/-- The P1 records the dump holds. -/
def State.p1Records (s : State) : List (Nat × Nat × List Nat) :=
  match s.lehr.formed.find? (fun x => x.ty == 2) with
  | some x => culletRecords (x.body.length / 16) (x.body.drop 64)
  | none => []

/-- Records that the log holds: the last 256, FSEQ counting modulo 2^32 (R283, R301). -/
def State.logHeld (s : State) : Nat :=
  let next := s.fg F.FLT_NEXT_FSEQ
  if 256 ≤ next ∨ s.rdN (R.FLT_LOG (next % 256) 0) ≠ 0 then 256 else next

/-- FSEQ of the oldest record that the log holds. -/
def State.logFirst (s : State) : Nat := (s.fg F.FLT_NEXT_FSEQ + 2 ^ 32 - s.logHeld) % 2 ^ 32

/-- The fault record that started the dump, where the log still holds it (R301). -/
def State.startRecord (s : State) : Option (List Nat) :=
  let n := s.lehr.trig
  let back := (s.fg F.FLT_NEXT_FSEQ + 2 ^ 32 - n) % 2 ^ 32
  if n = 0xFFFFFFFF || back = 0 || s.logHeld < back then none
  else some (bytesOfWords (s.rdWords (R.FLT_LOG (n % 256) 0) 16))

/-- Flags GATED and LIVE of a unit's windows (R304). -/
def State.unitFlags (s : State) (recs : List (Nat × Nat × List Nat)) (u : Nat) : Nat :=
  let vec := match recs.find? (fun r => r.1 == u) with | some r => r.2.2 | none => []
  let gated := bitOf (vec.getD 0 0) 5 || (!vec.isEmpty && vec.getD 1 0 % 16 == 9)
  let frozen := s.lehr.tick.isSome && mapResponse s.lehr.cutCls (s.unitType u) (s.portImage u).gresp == 3
  4 * b2n gated + 8 * b2n (!frozen)

def State.planWins (s : State) (t : Nat) : List (Nat × Nat × Nat) :=
  (List.range (min 8 (s.fg (F.LEHR_PLAN_CFG_NWIN t)))).map (fun w => (w, s.rdN (R.LEHR_PLAN_OFF t w), s.rdN (R.LEHR_PLAN_LEN t w)))

def State.planBase (s : State) (t : Nat) : Nat := s.rd64 (R.LEHR_PLAN_BASE_LO t) (R.LEHR_PLAN_BASE_HI t)

/-- A plan entry keeps R302's multiples of 64. -/
def State.planGood (s : State) (t : Nat) : Bool :=
  s.planBase t % 64 == 0 && s.rdN (R.LEHR_PLAN_STRIDE t) % 64 == 0 && (s.planWins t).all (fun w => w.2.1 % 64 == 0 && w.2.2 % 64 == 0)

/-- The plan windows of a unit whose base is known. -/
def State.unitWins (s : State) (recs : List (Nat × Nat × List Nat)) (u base : Nat) : List P3Item :=
  (s.planWins (s.unitType u)).map (fun w => .win u w.1 0 ((base + w.2.1) % 2 ^ 64) w.2.2 (s.unitFlags recs u))

/-- What the plan has P3 read, in order (R302). -/
def State.planItems (s : State) (scope : Nat) (recs : List (Nat × Nat × List Nat)) : List P3Item :=
  s.slot.stns.flatMap (fun p => (List.range 16).flatMap (fun i =>
    let u := 16 * p.1 + i
    let t := s.unitType u
    if t ≤ 5 && bitOf scope p.2.part && s.planGood t && s.fg (F.LEHR_PLAN_CFG_NWIN t) != 0 then
      if s.fb (F.LEHR_PLAN_CFG_MODE t) then [.tbl u]
      else if s.planBase t = 0 then []
      else s.unitWins recs u (s.planBase t + u * s.rdN (R.LEHR_PLAN_STRIDE t))
    else []))

/-- CTX_STATUS and the descriptor whose context records are read (R303, R326). -/
def State.ctxWindow (s : State) (q : DumpReq) (recs : List (Nat × Nat × List Nat)) : Nat × Option Nat :=
  if q.noScratch || q.scope = 0 then (6, none)
  else if s.fg F.LEHR_CTXWIN_MAX = 0 then (5, none)
  else match q.unit with
    | none => (1, none)
    | some u =>
      match recs.find? (fun r => r.1 == u && r.2.1 == 0) with
      | none => (2, none)
      | some (_, _, vec) =>
        if s.unitType u != 0 then (2, none)
        else if !bitOf (vec.getD 0x0A 0) 6 then (3, none)
        else
          let seqOk := match q.src with
            | .policy _ _ => (match s.startRecord with | some r => leAt r 8 4 == leAt vec 4 4 | none => false)
            | _ => true
          if seqOk then (0, some (leAt vec 0x20 8)) else (4, none)

/-- A window's index entry (R326). -/
def windowEntry (u idx flags tag addr len present off : Nat) : List Nat :=
  toLe 2 u ++ toLe 1 idx ++ toLe 1 flags ++ toLe 2 tag ++ toLe 2 0 ++ toLe 8 addr ++ toLe 4 len ++ toLe 4 present ++ toLe 8 off

/-- Extents of the lines that arrived: runs of consecutive lines. -/
def lineRuns : SMap (List Nat) → List (Nat × List Nat)
  | [] => []
  | (i, bs) :: rest =>
    match lineRuns rest with
    | (j, cs) :: more => if j = i + 1 then (i, bs ++ cs) :: more else (i, bs) :: (j, cs) :: more
    | [] => [(i, bs)]

def extentBytes (e : Nat × List Nat) : List Nat :=
  let z := zrwEncode (wordsOf64 e.2)
  toLe 4 (64 * e.1) ++ toLe 4 e.2.length ++ toLe 4 z.length ++ toLe 4 0 ++ bytesOf64 z

/-- Close a window: its extents join the body, its entry the index. ERR, TIMEOUT and TRUNCATED make the dump PARTIAL. -/
def closeWindow (u idx tag addr len flags : Nat) (j : LineJob) (cut : Bool) (s : State) : State :=
  let bs := (lineRuns j.got).flatMap extentBytes
  let off := match s.lehr.current with | some x => x.body.length | none => 0
  let fl := flags ||| (b2n j.err + 2 * b2n j.tmo + 16 * b2n cut + 32 * b2n j.got.isEmpty)
  let bad := fl % 4 != 0 || bitOf fl 4
  let e := windowEntry u idx fl tag addr len (64 * j.got.length) (if j.got.isEmpty then 0 else off)
  appendSect bs (modLehr (fun l => { l with windows := l.windows ++ [e], incomplete := l.incomplete || bad, trunc := l.trunc || bitOf fl 4 }) s)

/-- Context records of a descriptor (R303): up to MAX, ended by LEN 0 or by an unaligned record. -/
def ctxRecords (u maxLen flags : Nat) : Nat → Nat → List Nat → List P3Item
  | 0, _, _ => []
  | n + 1, i, bs =>
    let addr := leAt bs 0 8
    let len := leAt bs 8 4
    if len = 0 || addr % 64 != 0 || len % 64 != 0 then []
    else
      let cut := decide (maxLen < len)
      .win u (0x80 + i) (leAt bs 12 2) addr (if cut then maxLen else len) (flags + 16 * b2n cut) :: ctxRecords u maxLen flags n (i + 1) (bs.drop 16)

/-- The last item's reads are over: what they give. -/
def closeItem (cut : Bool) (s : State) : State :=
  match s.lehr.item3, s.lehr.job with
  | some it, some j =>
    let s := modLehr (fun l => { l with item3 := none, job := none }) s
    match it with
    | .win u idx tag addr len flags => closeWindow u idx tag addr len flags j cut s
    | .tbl u =>
      let base := leAt j.bytes ((s.planBase (s.unitType u) + 8 * u) % 64) 8
      if !j.good then
        (s.unitWins s.p1Records u 0).foldl (fun s w => match w with
          | .win u idx tag addr len flags => closeWindow u idx tag addr len flags { j with got := [] } cut s
          | _ => s) s
      else if base = 0 then s
      else modLehr (fun l => { l with todo := s.unitWins s.p1Records u base ++ l.todo }) s
    | .desc addr =>
      if !j.good then s
      else
        let u := s.lehr.ctxUnit
        let recs := ctxRecords u (s.fg F.LEHR_CTXWIN_MAXLEN * 65536) (s.unitFlags s.p1Records u) (min 4 (s.fg F.LEHR_CTXWIN_MAX)) 0
          (j.bytes.drop (addr % 64))
        modLehr (fun l => { l with todo := recs ++ l.todo }) s
  | _, _ => s

/-- P3 ends: the index closes the body (R326). -/
def endP3 (s : State) : State :=
  let ws := s.lehr.windows
  let off := match s.lehr.current with | some x => x.body.length | none => 0
  let bad := ws.any (fun w => w.getD 3 0 % 4 != 0 || bitOf (w.getD 3 0) 4)
  let cut := ws.any (fun w => bitOf (w.getD 3 0) 4)
  let s := appendSect ws.flatten s
  let len := match s.lehr.current with | some x => x.body.length | none => 0
  enterP4 (closeSect (b2n cut + 2 * b2n bad + 4 * b2n ws.isEmpty) (off + 2 ^ 32 * ws.length) len s)

/-- Windows P3 never reached are listed with no data (R304). -/
def listRest (s : State) : State :=
  let items := s.lehr.todo
  let s := modLehr (fun l => { l with todo := [] }) s
  items.foldl (fun s it => match it with
    | .win u idx tag addr len flags => closeWindow u idx tag addr len flags {} false s
    | .tbl u => (s.unitWins s.p1Records u 0).foldl (fun s w => match w with
        | .win u idx tag addr len flags => closeWindow u idx tag addr len flags {} false s
        | _ => s) s
    | .desc _ => s) s

/-- Go on with P3: the running read, else the next item. -/
def runP3 : Nat → State → State
  | 0, s => s
  | fuel + 1, s =>
    match s.lehr.job with
    | some j =>
      if j.isOver || j.tmo then runP3 fuel (closeItem false s)
      else
        let (j, s) := pumpJob .lehr 0 lineMax j s
        modLehr (fun l => { l with job := some j }) s
    | none =>
      match s.lehr.todo with
      | [] => endP3 s
      | it :: rest =>
        let s := modLehr (fun l => { l with todo := rest, item3 := some it }) s
        let start (addr n : Nat) (s : State) : State :=
          let (j, s) := startJob .lehr 0 addr n 64 s
          modLehr (fun l => { l with job := some j }) s
        match it with
        | .win u idx tag addr len flags =>
          if bitOf flags 2 || len = 0 then
            runP3 fuel (closeWindow u idx tag addr len flags {} false (modLehr (fun l => { l with item3 := none }) s))
          else start addr (len / 64) s
        | .tbl u => start ((s.planBase (s.unitType u) + 8 * u) / 64 * 64) 1 s
        | .desc addr => start (addr / 64 * 64) ((addr % 64 + 16 * min 4 (s.fg F.LEHR_CTXWIN_MAX) + 63) / 64) s

def enterP3 (s : State) : State :=
  let l := s.lehr
  let q : DumpReq := l.req.getD ⟨0, true, none, .register, false, 0, 0⟩
  let s := enterPhase 3 (some (s.ts + l.buds.getD 2 0)) s
  let recs := s.p1Records
  let (status, desc) := s.ctxWindow q recs
  let none_ := q.noScratch || q.scope = 0
  let types := List.range 6
  let bad := if none_ then 0 else (types.filter (fun t => !s.planGood t)).foldl (fun m t => m + 2 ^ t) 0
  let noBase := if none_ then 0 else
    (types.filter (fun t => s.planGood t && !s.fb (F.LEHR_PLAN_CFG_MODE t) && s.planBase t == 0)).foldl (fun m t => m + 2 ^ t) 0
  let first := match desc with | some a => [P3Item.desc ((a + s.fg F.LEHR_CTXWIN_OFF) % 2 ^ 64)] | none => []
  let todo := if none_ then [] else first ++ s.planItems q.scope recs
  let s := modLehr (fun l => { l with todo := todo, ctxStatus := status, badPlan := bad, noBase := noBase, ctxUnit := q.unit.getD 0 }) s
  let s := openSect 6 0 s
  let s := appendSect (toLe 1 status ++ toLe 1 bad ++ toLe 1 noBase ++ toLe 1 0 ++ toLe 2 (q.unit.getD 0) ++ toLe 10 0) s
  runP3 (todo.length + 64) s

/-! ### P2 (R301, R325) -/

/-- FSEQ of the record that started the dump, where its number was not known at the request. -/
def State.findTrig (s : State) (q : DumpReq) : Nat :=
  let since := min s.logHeld ((s.fg F.FLT_NEXT_FSEQ + 2 ^ 32 - q.from_) % 2 ^ 32)
  let from_ := s.fg F.FLT_NEXT_FSEQ + 2 ^ 32 - since
  let fits (n : Nat) : Bool :=
    let r := FaultRec.ofBytes (bytesOfWords (s.rdWords (R.FLT_LOG (n % 256) 0) 16))
    r.code == q.code && r.unit == q.unit
  ((List.range since).map (fun k => (from_ + k) % 2 ^ 32)).find? fits |>.getD 0xFFFFFFFF

def faultSection (s : State) : State :=
  let s := match s.lehr.req with
    | some q => (match q.src with
      | .policy _ 0xFFFFFFFF => modLehr (fun l => { l with trig := s.findTrig q }) s
      | _ => s)
    | none => s
  let first := s.logFirst
  let recs := (List.range s.logHeld).map (fun i => bytesOfWords (s.rdWords (R.FLT_LOG ((first + i) % 256) 0) 16))
  let start := s.startRecord.getD (List.replicate 64 0)
  let pert := (start :: recs).any (fun r => bitOf (r.getD 38 0) 0)
  let s := modLehr (fun l => { l with pert := l.pert || pert }) s
  addSect (zrwSect 1 (4 * b2n recs.isEmpty) (first + 2 ^ 32 * recs.length) (start ++ recs.flatten)) s

def traceSection (s : State) : State :=
  let s := freezeRing false s
  let s := modLehr (fun l => { l with freezeTs := s.ts }) s
  let head := toLe 4 (s.rdN R.TRC_CAP) ++ toLe 4 (s.rdN R.TRC_STAT) ++ toLe 4 (s.rdN R.TRC_DROP) ++ toLe 4 (s.rdN R.TRC_GAPS) ++
    toLe 4 (s.rdN R.TRC_OLD) ++ toLe 4 (s.rdN R.TRC_WR) ++ toLe 4 (s.rdN R.TRC_RD) ++ toLe 4 (s.rdN R.TRC_TRIG_POS) ++
    toLe 8 (s.rd64 R.TRC_TRIG_TS_LO R.TRC_TRIG_TS_HI) ++ toLe 8 s.ts ++ toLe 16 0
  let blocks := s.trace.blocks.flatMap (fun b => ringGet s.trcCap b.pos (64 * b.lines) s.trace.ring)
  addSect (rawSect 3 (4 * b2n s.trace.blocks.isEmpty) s.trace.blocks.length (head ++ blocks)) s

def counterSection (cut : Bool) (s : State) : State :=
  let l := s.lehr
  let recs := l.ctrRecs.getD []
  let attr := l.attrRecs.getD []
  let lost := (recs.filter (fun r => bitOf r.flags 0)).length
  let other := (recs.filter (fun r => !bitOf r.flags 0 && some r.sampleTs != l.tick)).length
  let lostAny := lost != 0 || attr.any (fun r => bitOf r.flags 0)
  addSect (zrwSect 4 (b2n cut + 2 * b2n lostAny + 4 * b2n (recs.isEmpty && attr.isEmpty))
    (recs.length + 2 ^ 16 * other + 2 ^ 32 * lost + 2 ^ 48 * b2n l.attrRecs.isSome) (recs.flatMap recBytes ++ attr.flatMap recBytes)) s

def striaSection (cut : Bool) (s : State) : State :=
  let out := s.lehr.striaOut
  let flags := out.map (fun r => r.2.getD 3 0)
  let part := flags.any (fun f => bitOf f 1)
  let s := modLehr (fun l => { l with pert := l.pert || flags.any (fun f => bitOf f 2) }) s
  addSect (zrwSect 5 (b2n cut + 2 * b2n part + 4 * b2n out.isEmpty) out.length (out.flatMap (·.2))) s

/-- Ledger entries asked for: the newest of them that the ledger has. -/
def State.ledgerWanted (s : State) : Nat :=
  if s.fb F.CONT_CTL_LEDGER_EN && s.cont.scan.isNone then min (min 16 (s.fg F.LEHR_CTL_LEDGER_N)) (s.fg F.LEDGER_NEXT_INDEX) else 0

def ledgerSection (cut : Bool) (s : State) : State :=
  let l := s.lehr
  let want := s.ledgerWanted
  let n := l.gath.length / 1088
  let entries := (List.range n).map (fun i => (l.gath.drop (1088 * i)).take 1088)
  let s := modLehr (fun l => { l with pert := l.pert || entries.any (fun e => bitOf (e.getD 0x38 0) 0), gath := [], gathN := 0 }) s
  addSect (zrwSect 7 (b2n cut + 2 * b2n (n < want) + 4 * b2n (n = 0)) (s.fg F.LEDGER_NEXT_INDEX - want + 2 ^ 32 * n) l.gath) s

def perturbSection (s : State) : State :=
  if s.perturbed || s.lehr.pert then
    let ws := s.rdWords R.PTB_CTL 10
    addSect (rawSect 8 0 ws.length (bytesOfWords ws)) (modLehr (fun l => { l with pert := true }) s)
  else s

/-- Go on with P2's items in order: 3 counters, 4 stria, 5 ledger, 6 perturbation. -/
def runP2 : Nat → State → State
  | 0, s => s
  | fuel + 1, s =>
    let l := s.lehr
    if l.item = 3 then
      if l.ctrRecs.isSome && (l.attrRecs.isSome || !s.fb F.LEHR_CTL_ATTR_EN) then
        runP2 fuel (counterSection false (modLehr (fun l => { l with item := 4 }) s))
      else s
    else if l.item = 4 then
      if l.striaAsked ≤ l.striaOut.length then runP2 fuel (striaSection false (modLehr (fun l => { l with item := 5 }) s)) else s
    else if l.item = 5 then
      match l.job with
      | some j =>
        if j.isOver || j.tmo then
          let bytes := if j.good then j.bytes else []
          runP2 fuel (modLehr (fun l => { l with job := none, gath := l.gath ++ bytes, gathN := l.gathN + 1 }) s)
        else
          let (j, s) := pumpJob .lehr 0 lineMax j s
          modLehr (fun l => { l with job := some j }) s
      | none =>
        let want := s.ledgerWanted
        if want ≤ l.gathN then runP2 fuel (ledgerSection false (modLehr (fun l => { l with item := 6 }) s))
        else
          let (j, s) := startJob .lehr 0 (s.ledgerAddr (s.fg F.LEDGER_NEXT_INDEX - want + l.gathN)) 17 64 s
          modLehr (fun l => { l with job := some j }) s
    else enterP3 (perturbSection s)

def enterP2 (s : State) : State :=
  let s := enterPhase 2 (some (s.ts + s.lehr.buds.getD 1 0)) s
  let s := traceSection (faultSection s)
  let cut := s.lehr.tick.isSome
  let s := beginCtrRead none 3 0 false (3 + 4 * b2n cut + 2 ^ 16 * 0xFFFF) 0 3 0xFFFF s
  let s := if s.fb F.LEHR_CTL_ATTR_EN then beginCtrRead none 3 0 true 0 0 3 0xFFFF s else s
  let slots := (List.range 64).filter (fun i => s.fb (F.STRIA_CFG_ARMED i))
  let s := modLehr (fun l => { l with item := 3, striaAsked := slots.length, striaOut := [] }) s
  let s := slots.foldl (fun s i => askRead i 0 (s.slotCells i) false none s) s
  runP2 64 (settleReads s)

/-! ### P1 (R300) -/

/-- A readout of the P0 cut's tick runs or is still to start. -/
def State.p1Pending (s : State) (tick : Nat) : Bool :=
  let is (q : Option ReadReq) : Bool := match q with | some q => q.tick == tick | none => false
  is s.cullet.next || is s.cullet.waiting

/-- The directory entry of P1's snapshot, once it has one. -/
def State.p1Find (s : State) (tick : Nat) : Option Nat :=
  match s.cullet.running with
  | some r => if r.req.tick = tick then some r.dir else none
  | none =>
    if s.p1Pending tick then none
    else s.cullet.order.reverse.find? (fun d => s.dirW d 0 + 2 ^ 32 * s.dirW d 1 == tick)

/-- The CULLET section of the snapshot (R325); `spilled` are the bytes read back from the spill area. -/
def culletSection (cut : Bool) (spilled : List Nat) (s : State) : State :=
  match s.lehr.p1Dir with
  | none => s
  | some d =>
    let recs := s.dirW d 9 % 65536 + s.dirW d 9 / 65536 + s.dirW d 10 % 65536 + s.dirW d 10 / 65536
    let s := modLehr (fun l => { l with pert := l.pert || s.dirFlag d 3 }) s
    addSect (rawSect 2 (b2n cut + 2 * b2n (s.dirFlag d 4) + 4 * b2n (recs = 0)) recs (s.dirEntryBytes d ++ s.dirBytes d ++ spilled)) s

/-- Go on with P1: the readout, then the records it spilled, then the section. -/
def runP1 (s : State) : State :=
  match s.lehr.tick with
  | none => enterP2 s
  | some tick =>
    match s.lehr.job with
    | some j =>
      if j.isOver || j.tmo then
        let d := s.lehr.p1Dir.getD 0
        let a := s.dirW d 6 + 2 ^ 32 * s.dirW d 7
        let bytes := if j.good then (j.bytes.drop (a % 64)).take (s.dirW d 8) else []
        enterP2 (culletSection (!j.good) bytes (modLehr (fun l => { l with job := none }) s))
      else
        let (j, s) := pumpJob .lehr 0 lineMax j s
        modLehr (fun l => { l with job := some j }) s
    | none =>
      let s := if s.lehr.p1Dir.isNone then
          match s.p1Find tick with
          | some d => setDirFlag d 5 true (modLehr (fun l => { l with p1Dir := some d }) s)
          | none => s
        else s
      match s.lehr.p1Dir with
      | none => if s.p1Pending tick || s.cullet.running.isSome then s else enterP2 (modLehr (fun l => { l with incomplete := true }) s)
      | some d =>
        if s.runDir == some d then s
        else if s.dirFlag d 6 && s.dirW d 8 != 0 then
          if s.spillHeld != 0 then s
          else
            let a := s.dirW d 6 + 2 ^ 32 * s.dirW d 7
            let (j, s) := startJob .lehr 0 (a / 64 * 64) ((a % 64 + s.dirW d 8 + 63) / 64) 64 s
            modLehr (fun l => { l with job := some j }) s
        else enterP2 (culletSection false [] s)

/-! ### P0 (R298, R299) -/

/-- P0 ends at a cut's tick: START_TS is the registration cycle of its first trigger (R296). -/
def lehrTick (tick startTs cls : Nat) (s : State) : State :=
  if s.lehrPhase != 1 then s
  else
    let s := modLehr (fun l => { l with tick := some tick, startTs := startTs, cutCls := cls }) s
    let own := tick + s.lehr.buds.getD 0 0
    let s := enterPhase 1 (some own) s
    let s := modLehr (fun l => { l with p1Deadline := l.deadline }) s
    let runs := match s.cullet.running with | some r => r.req.tick == tick | none => false
    let s := if runs || s.p1Pending tick then s else (askReadout ⟨tick, 3, 0, 0x3F, .lehr⟩ s).2
    runP1 s

/-- No cut can be made (R299). -/
def lehrNoCut (s : State) : State :=
  let s := s.fs F.LEHR_STAT_NOCUT 1
  enterP2 (lateDump 0 s.ts false s)

/-- The cut Lehr asked for is still to tick. -/
def State.lehrCutComing (s : State) : Bool :=
  s.shear.reqs.any (fun r => r.who == .lehr) || s.shear.cuts.any (fun c => c.who.contains .lehr)

/-! ### Running on, deadlines -/

/-- Lehr's stria reads end at once (R301): the running one with its missing stations LOST, the others not at all. -/
def endStriaReads (s : State) : State :=
  let s := modStria (fun t => { t with waiting := t.waiting.filter (fun r => r.cmd.isSome) }) s
  match s.stria.running with
  | some r => if r.cmd.isNone then afterRead (abortRead s) else s
  | none => s

/-- Lehr's counter reads end at once: what is missing is LOST. -/
def endCtrReads (s : State) : State :=
  (s.ctr.reads.filter (fun r => r.cmd.isNone)).foldl (fun s r => endCtrRead (loseMissing r s) s) s

/-- A phase stops where it stands and the next one begins (R297). -/
def stopPhase (p : Nat) (s : State) : State :=
  if p = 1 then
    match s.lehr.tick, s.lehr.p1Dir with
    | some _, some d =>
      let spilling := s.lehr.job.isSome
      let s := abandonReads .lehr (modLehr (fun l => { l with job := none }) s)
      let s := match s.cullet.running with | some r => if r.dir = d && r.req.src == .lehr then endReadout s else s | none => s
      enterP2 (culletSection (spilling || s.runDir == some d) [] s)
    | _, _ =>
      let gone (q : Option ReadReq) : Option ReadReq := q.filter (fun (q : ReadReq) => q.src != .lehr)
      let s := modCullet (fun c => { c with next := gone c.next, waiting := gone c.waiting }) s
      enterP2 (modLehr (fun l => { l with incomplete := true }) (s.fs F.CULLET_STAT_WAITING (b2n s.cullet.waiting.isSome)))
  else if p = 2 then
    let item := s.lehr.item
    let s := abandonReads .lehr (modLehr (fun l => { l with job := none }) s)
    let s := endStriaReads (endCtrReads s)
    let s := if item ≤ 3 then counterSection true s else s
    let s := if item ≤ 4 then striaSection true s else s
    let s := if item ≤ 5 then ledgerSection true s else s
    enterP3 (perturbSection (modLehr (fun l => { l with item := 6 }) s))
  else if p = 3 then endP3 (listRest (closeItem true (abandonReads .lehr s)))
  else enterP5 s

/-- The seal writes of every copy, as they stand now. -/
def State.sealsDue (s : State) : List (List (Nat × List Nat)) := s.lehr.dests.map (fun d => sealWrites (sealSect d s) d s)

/-- The seal shows a deadline of P5 that passed before it was complete (R297, R307, R330): every copy's seal is formed and written again, in
place of what is still to be written of the one formed before (`old`). -/
def sealAgain (old : List (List (Nat × List Nat))) (s : State) : State :=
  (destIds s).foldl (fun s i => match s.lehr.dests[i]? with
    | some d =>
      if !d.alive then s
      else
        let s := modDest i (fun d => { d with queue := d.queue.filter (fun w => !(old.getD i []).contains w) }) s
        writeSeal i (if d.ty = 3 then modLehr (fun l => { l with keepSects := l.keepSects.filter (fun x => x.ty != 9) }) s else s)
    | none => s) s

/-- The phase's deadline, where TS has passed it (R110, R297). -/
def missPhase (s : State) : State :=
  let l := s.lehr
  let ph := s.lehrPhase
  if !l.running || ph < 2 || !s.past l.deadline then s
  else if ph = 6 then
    if l.lateP5 then s
    else sealAgain s.sealsDue (lateDump 5 l.deadline true (modLehr (fun l => { l with lateP5 := true }) s))
  else stopPhase (ph - 1) (lateDump (ph - 1) l.deadline l.atLimit s)

def execLehrPhaseDeadline (s : State) : Outcome State Fault Refusal := s.act fun s => ok (missPhase s)

/-- The firmware goes on as far as it can now. What comes after a phase's deadline finds the phase stopped (R110). -/
def lehrRun (s : State) : State :=
  if !s.lehr.running || !s.lehrCoreUp then s
  else
    let s := missPhase s
    let p := s.lehrPhase
    if p = 1 then (if s.lehrCutComing then s else lehrNoCut s)
    else if p = 2 then runP1 s
    else if p = 3 then runP2 64 s
    else if p = 4 then runP3 64 s
    else if p = 5 then (if s.copiesDone then enterP5 s else s)
    else if s.copiesDone then
      if s.lehr.dests.any (·.alive) then finishDump (s.lehr.sealResult (s.fb F.LEHR_STAT_NOCUT)) true s
      else finishDump 3 false s
    else s

/-! ### Requests (R292 to R294) -/

/-- A write of LEHR_START with GO (R292). -/
def lehrStart (v : Nat) (s : State) : State :=
  if bitOf v 0 then
    (askDump ⟨s.fg F.LEHR_SCOPE_PARTMASK, bitOf v 1, if bitOf v 2 then some (bitsOf v 3 14) else none, .register, false, 0, 0⟩ s).2
  else s

def execLehrStartWrite (id value : Nat) (s : State) : Outcome State Fault Refusal := s.act fun s =>
  ok (s.gate id R.LEHR_START .operator (lehrStart value))

/-- SUPPRESSED in the record that asked for a dump which Lehr then refuses (R293): in the entry that waits for the record, or in the log,
where it stands at or after the FSEQ that was next at the request. -/
def suppressDump (q : DumpReq) (s : State) : State :=
  let mine (p : PendFault) : Bool := p.code == q.code && bitOf p.acts 8 && (q.unit.isNone || q.unit == some (16 * p.stn + p.port))
  if s.dl.pend.any mine then
    { s with dl := { s.dl with pend := replaceFirst mine (fun p => { p with acts := p.acts % 256 ||| 128 }) s.dl.pend } }
  else
    let n := (s.fg F.FLT_NEXT_FSEQ + 2 ^ 32 - q.from_) % 2 ^ 32
    match (List.range (min n 256)).find? (fun k =>
        s.rdN (R.FLT_LOG ((q.from_ + k) % 256) 0) == q.code + 2 ^ 16 * unitField q.unit) with
    | some k => s.fs ⟨R.FLT_LOG ((q.from_ + k) % 256) 9, 31, 1⟩ 1
    | none => s

/-- A dump request refused (R293): LEHR_STAT.REFUSED, and who asked is answered. -/
def refuseDump (q : DumpReq) (s : State) : State :=
  let s := s.fs F.LEHR_STAT_REFUSED 1
  let s := match q.src with
    | .command k => completeCmd k 0x05 0 s
    | .mailbox c d => writeAck c d 0x11 s
    | .policy _ _ => suppressDump q s
    | _ => s
  if s.lehr.running || !s.lehr.asked.isEmpty then s else releaseWaiting s

/-- A dump begins (R295): its number, its budgets fixed, phase P0, its destinations chosen, and whether it takes a cut already made. -/
def beginDump (q : DumpReq) (s : State) : State :=
  let s := s.fs F.LEHR_NUM_NUM ((s.fg F.LEHR_NUM_NUM + 1) % 2 ^ 32)
  let us (b : Nat) : Nat := s.scaled .service (1000 * b)
  let trig := match q.src with | .policy _ n => n | _ => 0xFFFFFFFF
  let s := modLehr (fun l =>
    { asked := l.asked, running := true, req := some q, trig := trig, acceptTs := s.ts, startTs := s.ts,
      total := us (s.fg F.LEHR_BUD_TOTAL_TOTAL), sealRes := us (s.fg F.LEHR_SEAL_RES_RES),
      buds := [us (s.fg F.LEHR_BUD_P1_BUDGET), us (s.fg F.LEHR_BUD_P2_BUDGET), us (s.fg F.LEHR_BUD_P3_BUDGET)],
      keep := l.keep, keepSects := l.keepSects, keepHead := l.keepHead, keepDir := l.keepDir }) s
  let s := match q.src with | .mailbox c d => writeAck c d 0x10 s | _ => s
  let s := showCont ((s.fs F.LEHR_STAT_NOCUT 0).fs F.LEHR_STAT_PHASE 1)
  chooseDests (if (s.adoptable q.stopCut).isSome then modLehr (fun l => { l with adopted := true }) s else s)

/-- The cut of a dump (R295): the one it adopts, one asked of the shear tree, or none. -/
def cutDump (s : State) : State :=
  if s.lehr.adopted then
    match s.shear.ticks.getLast? with
    | some t => lehrTick t.ts t.start t.cls s
    | none => lehrNoCut s
  else if s.treeOn then centralTrigger (s.spineCyc + 1) (if s.fb F.LEHR_CTL_P0_CLASS then 2 else 1) 3 .lehr s
  else lehrNoCut s

/-- Lehr takes the oldest request: refused where EN is 0 or its core is halted, else the dump begins. -/
def execDumpAccept (s : State) : Outcome State Fault Refusal := s.awake fun s =>
  match s.lehr.asked with
  | [] => ok s
  | q :: rest =>
    let s := modLehr (fun l => { l with asked := rest }) s
    if s.lehr.running || !s.fb F.LEHR_CTL_EN || !s.lehrCoreUp then ok (refuseDump q s) else ok (cutDump (beginDump q s))

/-! ### Aborts and interruptions (R314, R317) -/

/-- Stop the running dump at once; P5 seals what has been written. -/
def abortDump (s : State) : State :=
  if !s.lehr.running || s.lehrPhase = 6 then s
  else
    let s := abandonReads .lehr s
    let s := endStriaReads (endCtrReads s)
    let s := modLehr (fun l => { l with aborted := true, job := none }) s
    let s := match s.lehr.current with
      | some x =>
        if x.ty = 6 then
          let off := x.body.length
          let ws := s.lehr.windows
          let s := modLehr (fun l => { l with trunc := true }) s
          let len := off + 32 * ws.length
          closeSect (1 + 2 + 4 * b2n ws.isEmpty) (off + 2 ^ 32 * ws.length) len (appendSect ws.flatten s)
        else s
      | none => s
    let s := match s.lehr.p1Dir with | some d => unpinDir d s | none => s
    let s := if s.lehrPhase = 5 then s else enterP4 s
    enterP5 s

def execLehrAbortWrite (id : Nat) (s : State) : Outcome State Fault Refusal := s.act fun s =>
  ok (s.gate id R.LEHR_ABORT .operator abortDump)

/-- HUB_WARM: no seal, the headers stay as they are (R317). -/
def warmLehr (s : State) : State :=
  let l := s.lehr
  let s := modLehr (fun l => { keep := l.keep, keepSects := l.keepSects, keepHead := l.keepHead, keepDir := l.keepDir }) s
  if l.running then
    let s := s.fs F.LEHR_STAT_INTERRUPTED 1
    let s := s.wrN R.LEHR_LAST_STATUS (3 + 4 * b2n l.single + 8 * s.fg F.LEHR_STAT_NOCUT + 16 * b2n l.trunc + 32 * b2n l.pert + 2 ^ 8 * l.late +
      2 ^ 16 * s.fg F.LEHR_STAT_PRIMARY + 2 ^ 18 * s.fg F.LEHR_STAT_MIRROR)
    s.fs F.LEHR_STAT_PHASE 0
  else s

/-- The watchdog of gaffer core 0 expires: an abort whose result is FAILED (R317). -/
def lehrWatchdog (s : State) : State :=
  if !s.lehr.running then s
  else
    let s := endStriaReads (endCtrReads (abandonReads .lehr s))
    finishDump 3 false (modLehr (fun l => { l with aborted := true }) s)

/-- A line of Lehr's is answered, or is not in time: the rest of its window's reads are then abandoned (R304). -/
def lehrLine (addr : Nat) (data : List Nat) (err : Bool) (s : State) : State :=
  match s.lehr.job with
  | none => s
  | some j => lehrRun (modLehr (fun l => { l with job := some (j.take addr data err) }) s)

def lehrLate (s : State) : State :=
  match s.lehr.job with
  | none => s
  | some j => lehrRun (modLehr (fun l => { l with job := some { j with tmo := true } }) (abandonReads .lehr s))

/-- A write of a copy is acknowledged, or fails it (R310). -/
def dumpAck (copy : Nat) (good : Bool) (s : State) : State :=
  let i := copy % 4
  if !s.lehr.running || copy / 4 != s.fg F.LEHR_NUM_NUM then s
  else
    let s := if good then pumpDest i ((((s.lehr.dests[i]?).map (fun d => d.queue.length)).getD 0) + 1) s else failDest i s
    lehrRun s

/-! ### KEEP (R311, R312) -/

def releaseKeep (s : State) : State := if s.lehr.running && s.fb F.LEHR_STAT_KEEP_ON then s else clearKeep s

/-- A word of the KEEP aperture (R318): the area's 4 KiB page LEHR_KEEP_APT.BASE. -/
def State.keepWord (s : State) (i : Nat) : Nat := ofLe (memGetBytes s.lehr.keep (s.fg F.LEHR_KEEP_APT_BASE * 4096 + 4 * i) 4)

end Sys2Proof.Machine
end

