-- ==== Sys2Proof/Machine/Cuts.lean ====
section
/-! DEFINITION. What a cut's tick, a cullet message, a counter message and a reduction result set going: the services that wait
for them (R153, R159, R192, R78, R295, R365). -/

namespace Sys2Proof.Machine

open Host (Outcome)

/-! ### CUT_TICK (R132) -/

/-- GROUP and TARGET of a GRP field (R403). -/
def grpGroup (g : Nat) : Nat := g % 4
def grpTarget (g : Nat) : Nat := bitsOf g 2 10

/-- One waiter of a cut at its tick: a command completes, or asks for its readout (R415, R418); Lehr's P0 ends (R295); a ledger
command reads its streams (R365). -/
def tickWho (tick startTs cls count : Nat) (w : CutWho) (s : State) : State :=
  match w with
  | .none => s
  | .command k read types snap =>
    match s.cmd? k with
    | none => s
    | some c =>
      if !read && !snap then completeTick k 0 tick s
      else
        let grp := if snap then c.fld 0x12 2 else 3
        (askReadout ⟨tick, grpGroup grp, grpTarget grp, types, .command k⟩ s).2
  | .lehr => lehrTick tick startTs cls s
  | .ledger _ check => ledgerTick check tick count s

/-- Does CULLET_CTL.AUTO read a cut of this class (R173). -/
def State.autoReads (s : State) (cls : Nat) : Bool :=
  let a := s.fg F.CULLET_CTL_AUTO
  a == 2 || (a == 1 && cls != 0)

def execCutTick (s : State) : Outcome State Fault Refusal := s.act fun s =>
  match dueCut s with
  | none => ok s
  | some c =>
    let tick := s.tsOfSpine c.tick
    let start := s.tsOfSpine (c.tick - s.shH)
    let s := tickCut c s
    let count := s.fg F.SHEAR_COUNT_CUTS
    let s := s.when (s.autoReads c.cls) (fun s => (askReadout ⟨tick, 3, 0, 0x3F, .auto⟩ s).2)
    ok (c.who.foldl (fun s w => tickWho tick start c.cls count w s) s)

/-! ### Readouts (R159) -/

/-- The budget of the running readout, where TS has passed it (R110, R159). -/
def expireReadout (s : State) : State :=
  match s.cullet.running with
  | some r => if s.past r.deadline then lehrRun (endReadout s) else s
  | none => s

def execCulletMessageArrival (stn : Nat) (s : State) : Outcome State Fault Refusal := s.act fun s =>
  match takeAir stn 1 s with
  | none => ok s
  | some (m, s) =>
    let s := takeCulletMessage stn m (expireReadout s)
    ok (if readoutOver s then lehrRun (endReadout s) else s)

def execCulletReadoutTimeout (s : State) : Outcome State Fault Refusal := s.act fun s => ok (expireReadout s)

/-! ### Counter reads (R191, R192) -/

/-- Reads whose budget has passed have what has come, and the rest is LOST (R110, R192). -/
def expireReads (s : State) : State :=
  (s.ctr.reads.filter (fun r => s.past r.deadline)).foldl (fun s r => modRead r.rtag (fun r => loseMissing r s) s) s

def execCounterMessageArrival (stn : Nat) (s : State) : Outcome State Fault Refusal := s.act fun s =>
  match takeAir stn 3 s with
  | none => ok s
  | some (m, s) => ok (lehrRun (settleReads (takeCounterMessage stn m (expireReads s))))

def execAttribMessageArrival (stn : Nat) (s : State) : Outcome State Fault Refusal := s.act fun s =>
  match takeAir stn 6 s with
  | none => ok s
  | some (m, s) => ok (lehrRun (settleReads (takeAttribMessage stn m (expireReads s))))

/-- The reads whose budget has passed end with what has come. -/
def execCounterReadTimeout (s : State) : Outcome State Fault Refusal := s.act fun s =>
  ok (lehrRun (settleReads (expireReads s)))

/-! ### Reductions (R78) -/

/-- A reduction has ended: its command completes, or the stria read goes on (R262, R408). -/
def reductionEnds (r : Reduction) (s : State) : State :=
  match r.use with
  | .command k => endReduceCmd k (s.tsOfSpine (512 * r.startFrame.getD 0)) r.values r.results s
  | .stria rtag cells => striaReduced rtag cells r.results s
  | .lehr => s

/-- The next value of the front reduction, the one with this TAG, completes (R78). With its last value the reduction ends and the next one is sent. -/
def execReductionResult (tag : Nat) (s : State) : Outcome State Fault Refusal := s.act fun s =>
  match s.spine.reds with
  | [] => ok s
  | r :: rest =>
    if redDue r s && r.tag == tag then
      let r := redStep (fun k => s.ribDegraded k || (s.rib k).subst) r
      if r.results.length < r.values.length then ok { s with spine := { s.spine with reds := r :: rest } }
      else ok (lehrRun (reductionEnds r (sendReduction { s with spine := { s.spine with reds := rest } })))
    else ok s

/-- Reductions end at once with MISS when frames stop (R587). -/
def missReductions (s : State) : State :=
  let rs := s.spine.reds
  rs.foldl (fun s r => reductionEnds { r with results := missAll r.values } s)
    { s with spine := { s.spine with reds := [] } }

/-- Counter reads in progress lose what is missing when frames stop, or on a rib that is cut off (R587). -/
def loseCtrReads (gone : Nat → Bool) (s : State) : State :=
  let lose (r : CtrRead) : CtrRead :=
    { r with recs := r.recs.map (fun (c : CtrRec) =>
        if c.owed = 0 || !gone c.stn then c
        else { c with owed := 0, flags := (c.flags ||| 1), ao := [], pc := [], attr := [], sampleTs := s.tsOfSpine (512 * r.frame) }) }
  settleReads (modCtr (fun t => { t with reads := t.reads.map lose }) s)

end Sys2Proof.Machine
end

