-- ==== Sys2Proof/Machine/Reset.lean ====
section
/-! DEFINITION. Reset ladders (R334 to R344), the discard collection and its report (R345 to R349), reheat (R351 to R353). -/

namespace Sys2Proof.Machine

open Host (Outcome)

def modLadder (f : LadderState → LadderState) (s : State) : State := { s with ladder := f s.ladder }

/-! ### Requests (R336) -/

/-- A write of RST_REQ (R336): GO asks for a ladder at the step named; a request refused or merged is ignored. -/
def rstReq (v : Nat) (s : State) : State :=
  if bitOf v 20 && s.coreReady 0 then
    let step := bitsOf v 0 2
    (requestReset ⟨step, if step = 0 then bitsOf v 2 14 else 0, if step = 1 then bitsOf v 16 4 else 0, .register⟩ s).2
  else s

def execRstReqGo (id value : Nat) (s : State) : Outcome State Fault Refusal := s.act fun s =>
  ok (s.gate id R.RST_REQ .operator (rstReq value))

/-! ### The end of a ladder -/

/-- RESULT of RESET_REQUEST (R424). -/
def resetResult (step : Nat) (escalated merged : Bool) (num : Nat) : Nat :=
  step + 4 * b2n escalated + 8 * b2n merged + 2 ^ 16 * (num % 2 ^ 16)

/-- Complete the commands of a ladder (R422, R423). -/
def answerReset (cmds : List (CmdKey × Bool)) (step : Nat) (bad escalated : Bool) (num : Nat) (s : State) : State :=
  cmds.foldl (fun s c => completeCmd c.1 (if bad then 0x09 else 0) (resetResult step escalated c.2 num) s) s

/-- The ladder ends: STEP reads idle and the word returns to idle (R338, R342). -/
def endLadder (s : State) : State :=
  driveRstq ((modLadder (fun l => { l with running := false, nextWord := none, cmds := [] }) s).fs F.RST_STAT_STEP 0)

/-! ### Discard collection (R347) -/

/-- Is unit `u` in the scope of a step (R334, R347). -/
def State.inScope (s : State) (step unit part u : Nat) : Bool :=
  s.unitType u != 7 &&
    (if step = 0 then u == unit
     else if step = 1 then s.unitPart u == part
     else s.computeResets u)

/-- The ports of a station in a step's scope. -/
def State.scopePorts (s : State) (step unit part n : Nat) : List Nat :=
  (List.range 16).filter (fun p => s.inScope step unit part (16 * n + p))

def modCollect (num : Nat) (f : Collect → Collect) (s : State) : State :=
  modLadder (fun l => { l with collects := replaceFirst (fun c => c.num == num) f l.collects }) s

/-- Word offset in the reset page (R361) of each word the collection reads. -/
def collectOff (what entry : Nat) : Nat :=
  if what < 4 then what else 64 + 4 * entry + (if what = 4 then 0 else what - 3)

/-- Read one word of a station's reset page for the collection of ladder `num`. -/
def collectRead (num n what entry : Nat) (s : State) : State :=
  issueAccess { tag := 0, stn := n, page := 2, off := collectOff what entry, n := 1, peek := false,
                use := .collect num what entry } s

/-- A REHEAT_MILESTONE of REPORTED, and the commands of the ladder complete (R348, R422). -/
def reported (c : Collect) (s : State) : State :=
  let s := modLadder (fun l => { l with collects := removeFirst (fun d => d.num == c.num) l.collects }) s
  answerReset c.cmds c.step c.escalated c.escalated c.num (milestone 3 c.step c.num s.ts 0 s)

/-- One entry of the report (R349), keyed for its order by unit and queue. -/
def reportEntry (u q flags ctx epoch done flight : Nat) : Nat × List Nat :=
  (64 * u + q, toLe 2 u ++ toLe 1 q ++ toLe 1 flags ++ toLe 1 ctx ++ toLe 1 epoch ++ toLe 2 0 ++ toLe 4 done ++ toLe 4 flight)

/-- The entries a station gives (R349): NOT_RESET and UNKNOWN for its ports in scope, and its latched queues. -/
def stationEntries (s : State) (c : Collect) (x : CollectStation) : List (Nat × List Nat) :=
  let ports := (s.scopePorts c.step c.unit c.part x.stn).flatMap (fun p =>
    let u := 16 * x.stn + p
    if !bitOf x.seen p then [reportEntry u 0 16 0 0 0 0]
    else if bitOf x.stat (16 + p) then [reportEntry u 0 8 0 0 0 0]
    else [])
  let queues := (x.words.filter (fun w => w.2.1 == 0)).map (fun w =>
    let h := w.2.2
    let at_ (k : Nat) : Nat := match x.words.find? (fun y => y.1 == w.1 && y.2.1 == k) with | some y => y.2.2 | none => 0
    let flags := bitsOf h 12 3
    reportEntry (16 * x.stn + bitsOf h 0 4) (bitsOf h 4 6) flags (bitsOf h 16 8) (bitsOf h 24 8)
      (if bitOf flags 0 then at_ 2 else 0) (if bitOf flags 1 then at_ 3 else 0))
  ports ++ queues

/-- Insert by key, behind equal keys. -/
def insertKey (e : Nat × List Nat) : List (Nat × List Nat) → List (Nat × List Nat)
  | [] => [e]
  | x :: xs => if e.1 < x.1 then e :: x :: xs else x :: insertKey e xs

/-- The report of an ended collection (R348): its bytes and whether it was truncated. -/
def reportBytes (s : State) (c : Collect) : List Nat × Bool :=
  let heard := c.stns.filter (·.answered)
  let lost := c.stns.length - heard.length
  let ents := (heard.flatMap (stationEntries s c)).foldl (fun l e => insertKey e l) []
  let room := (s.fg F.RST_DISC_LEN_LEN * 65536 - 64) / 16
  let listed := ents.take room
  let trunc := decide (listed.length < ents.length)
  let unknown := ents.any (fun e => bitOf (e.2.getD 3 0) 3)
  let flags := b2n trunc + 2 * b2n (lost != 0) + 4 * b2n unknown + 8 * b2n c.escalated
  (toLe 4 c.num ++ toLe 1 c.step ++ toLe 1 flags ++ toLe 2 (if c.step = 1 then c.part else 0) ++ toLe 8 c.reqTs ++
    toLe 8 c.doneTs ++ toLe 4 listed.length ++ toLe 2 (if c.step = 0 then c.unit + 2 ^ 14 else 0) ++ toLe 2 lost ++ toLe 32 0 ++
    listed.flatMap (·.2), trunc)

/-- The oldest ended collection writes its report where none is being written (R348, R511: identity 3); with RST_DISC_LEN 0
nothing is written. -/
def runReports (s : State) : State :=
  if s.ladder.collects.any (·.writing) then s
  else match s.ladder.collects.find? (·.isOver) with
    | none => s
    | some c =>
      if s.fg F.RST_DISC_LEN_LEN = 0 then reported c s
      else
        let (bytes, trunc) := reportBytes s c
        let s := s.when trunc (fun s => s.fs F.RST_STAT_REPORT_TRUNC 1)
        let s := modCollect c.num (fun d => { d with writing := true }) s
        hostWriteBytes 3 (s.rd64 R.RST_DISC_LO R.RST_DISC_HI / 64 * 64) bytes .report s

/-- The last write of the running report has been answered: REPORTED, and the next report goes. -/
def reportAck (s : State) : State :=
  if s.bus.hostWr.any (fun w => w.use == .report) then s
  else match s.ladder.collects.find? (·.writing) with
    | none => s
    | some c => runReports (reported c s)

/-- A collection ends: the stations that have not answered are lost. -/
def endCollect (num : Nat) (s : State) : State := runReports (modCollect num (fun c => { c with isOver := true }) s)

/-- DISCARD_COLLECT (R347): every station that holds a port of the scope is read; one out of the hub's reach never answers. -/
def beginCollect (c : Collect) (s : State) : State :=
  let stns := (s.slot.stns.map (·.1)).filter (fun n => !(s.scopePorts c.step c.unit c.part n).isEmpty)
  let c := { c with stns := stns.map (fun n => { stn := n }) }
  let s := modLadder (fun l => { l with collects := l.collects ++ [c] }) s
  if stns.isEmpty then endCollect c.num s
  else stns.foldl (fun s n =>
    if s.reachable n then (List.range 4).foldl (fun s w => collectRead c.num n w 0 s) s else s) s

/-- Clear by W1C what has been read of a station in scope (R347 step 3). -/
def collectClear (c : Collect) (x : CollectStation) (s : State) : State :=
  let ports := (s.scopePorts c.step c.unit c.part x.stn).foldl (fun m p => setBit m p true) 0
  let ents := (x.words.filter (fun w => w.2.1 == 0)).foldl (fun m w => setBit m w.1 true) 0
  let put (off v : Nat) (s : State) : State :=
    if v = 0 then s
    else issueAccess { tag := 0, stn := x.stn, page := 2, off := off, n := 1, peek := false, use := .posted, data := some [v] } s
  put 3 (ents / 2 ^ 32) (put 2 (ents % 2 ^ 32) (put 1 (x.seen &&& ports) (put 0 (2 ^ 16 * ((x.stat / 2 ^ 16) &&& ports)) s)))

/-- The answer of a station to one word of the collection of ladder `num` (REGRD_ARRIVAL). -/
def collectWord (num n what entry v : Nat) (s : State) : State :=
  match s.ladder.collects.find? (fun c => c.num == num && !c.isOver) with
  | none => s
  | some c =>
    if s.past c.deadline then endCollect num s else
    match c.stns.find? (fun x => x.stn == n && !x.answered) with
    | none => s
    | some x =>
      let x := { x with waiting := x.waiting - 1 }
      let x := if what = 0 then { x with stat := v } else if what = 1 then { x with seen := v }
        else if what = 2 then { x with latLo := v } else if what = 3 then { x with latHi := v } else x
      let mine := what = 4 && bitOf v 11 && (s.scopePorts c.step c.unit c.part n).contains (bitsOf v 0 4)
      let x := if mine then { x with words := x.words ++ [(entry, 0, v)], waiting := x.waiting + 2 }
        else if 4 < what then { x with words := x.words ++ [(entry, what - 3, v)] } else x
      let s := s.when mine (fun s => collectRead num n 6 entry (collectRead num n 5 entry s))
      let lats := if x.waiting = 0 && !x.entries then bitsSet 64 (x.latLo + 2 ^ 32 * x.latHi) else []
      let x := if x.waiting = 0 then { x with entries := true, waiting := lats.length } else x
      let s := lats.foldl (fun s e => collectRead num n 4 e s) s
      let done := x.waiting = 0
      let x := { x with answered := done }
      let s := modCollect num (fun c => { c with stns := replaceFirst (fun y => y.stn == n) (fun _ => x) c.stns }) s
      if done then
        let s := collectClear c x s
        if (c.stns.all (fun y => y.answered || y.stn == n)) then endCollect num s else s
      else s

def execResetCollectTimeout (s : State) : Outcome State Fault Refusal := s.act fun s =>
  match s.ladder.collects.find? (fun c => !c.isOver && s.past c.deadline) with
  | some c => ok (endCollect c.num s)
  | none => ok s

/-! ### Answers of the reset controller (R338 to R342) -/

/-- The queue is taken at a ladder's end (R337): what the completed step covers is answered with the ladder's commands. -/
def endWithQueue (done : Option (Nat × Nat × Nat)) (s : State) : List (CmdKey × Bool) × State :=
  takeQueue done s.ladder.queue [] s

/-- The CHIP step ends its ladder (R342): the commands are answered at once, with what the queue merges. -/
def endChip (accepted : Bool) (s : State) : State :=
  let l := s.ladder
  let num := s.fg F.RST_NUM_NUM
  let (ms, s) := endWithQueue (if accepted then some (3, l.unit, l.part) else none) (endLadder s)
  answerReset (l.cmds ++ ms) 3 (l.escalated || !accepted) l.escalated num s

/-- The RESET_DEADLINE record of the step in force (R343), and RST_STAT.ESCALATED. -/
def resetDeadline (refused noAccept : Bool) (s : State) : State :=
  let l := s.ladder
  let s := (modLadder (fun l => { l with escalated := true }) s).fs F.RST_STAT_ESCALATED 1
  centralFault cResetDeadline l.ctx (if l.step ≤ 1 then l.reqUnit else none) l.start
    (l.step + 4 * b2n refused + 8 * b2n noAccept + 2 ^ 32 * s.fg F.RST_NUM_NUM) (l.start + l.budget) s

/-- The next wider step (R341): compute-scoped mode omits PARTITION, and takes a unit that COMPUTE does not reset to CHIP. -/
def State.widerStep (s : State) : Nat × Nat :=
  let l := s.ladder
  if l.step = 0 then
    if s.fg F.RST_CTL_MODE = 0 then (1, s.unitPart l.unit)
    else if s.computeResets l.unit then (2, 0) else (3, 0)
  else if l.step = 1 then (2, 0)
  else (3, 0)

/-- RESET_ESCALATE (R341): the record is formed and the wider step presented; no step is wider than CHIP (R342). -/
def escalate (refused : Bool) (s : State) : State :=
  if s.ladder.step = 3 then endChip false (resetDeadline refused s.ladder.accepted.isNone s)
  else
    let (step, part) := s.widerStep
    presentStep step 0 part (resetDeadline refused s.ladder.accepted.isNone s)

/-- ACCEPTED with the step's SEQ: milestone ASSERTED of the step is kept; the CHIP step ends here. -/
def resetAccepted (seq : Nat) (s : State) : State :=
  let l := s.ladder
  if l.running && l.nextWord.isNone && seq == l.seq && l.accepted.isNone then
    if l.step = 3 && s.past (l.start + l.budget) then escalate false s
    else
    let s := modLadder (fun l => { l with accepted := some s.ts }) s
    if l.step = 3 then
      endChip true (milestone 1 3 (s.fg F.RST_NUM_NUM) s.ts 0 s)
    else driveRstq s
  else s

def execResetAnswerAccepted (seq : Nat) (s : State) : Outcome State Fault Refusal := s.act fun s =>
  ok (resetAccepted seq s)

/-- The step is over: milestones ASSERTED and RELEASED are kept and the reheat begins (R352), its budgets scaled as they are now (R571). -/
def releaseStep (s : State) : State :=
  let l := s.ladder
  let num := s.fg F.RST_NUM_NUM
  let s := milestone 2 l.step num s.ts 0 (milestone 1 l.step num (l.accepted.getD s.ts) 0 s)
  modLadder (fun x => { x with reheat := true, reheatStep := l.step, releasedTs := s.ts, rhtScale := s.scaleOf .service }) s

/-- DONE with the step's SEQ in time (R341): the reheat begins, the ladder ends, the queue is taken and the collection starts. -/
def resetDone (seq : Nat) (s : State) : State :=
  let l := s.ladder
  if l.running && l.nextWord.isNone && seq == l.seq && l.step != 3 then
    if s.past (l.start + l.budget) then escalate false s
    else
      let num := s.fg F.RST_NUM_NUM
      let s := releaseStep s
      let scale := s.ladder.rhtScale
      let doneTs := s.ts
      let (ms, s) := endWithQueue (some (l.step, l.unit, l.part)) (endLadder s)
      beginCollect { num := num, step := l.step, unit := l.unit, part := l.part, escalated := l.escalated,
                     reqTs := l.firstStart, doneTs := doneTs,
                     deadline := doneTs + scaleBudget scale (1000 * s.fg F.RST_COLLECT_BUDGET), stns := [],
                     cmds := l.cmds ++ ms } s
  else s

def execResetAnswerDone (seq : Nat) (s : State) : Outcome State Fault Refusal := s.act fun s =>
  ok (resetDone seq s)

/-- REFUSED with the step's SEQ. -/
def resetRefused (seq : Nat) (s : State) : State :=
  if s.ladder.running && s.ladder.nextWord.isNone && seq == s.ladder.seq then
    escalate (!s.past (s.ladder.start + s.ladder.budget)) s
  else s

def execResetAnswerRefused (seq : Nat) (s : State) : Outcome State Fault Refusal := s.act fun s =>
  ok (resetRefused seq s)

def execResetAnswerInvalid (s : State) : Outcome State Fault Refusal := s.act fun s =>
  ok (s.fs F.RST_STAT_CARRIER_ERR 1)

/-- The budget of a step passes (R110, R341). -/
def stepOverrun (chip : Bool) (s : State) : State :=
  if s.ladder.running && (s.ladder.step == 3) == chip && s.past (s.ladder.start + s.ladder.budget) then escalate false s else s

def execResetStepDeadline (s : State) : Outcome State Fault Refusal := s.act fun s =>
  ok (stepOverrun false s)

def execChipStepNoAccept (s : State) : Outcome State Fault Refusal := s.act fun s =>
  ok (stepOverrun true s)

/-! ### Reheat (R351 to R353) -/

/-- The deadline of milestone m of the reheat (R353). -/
def State.markDeadline (s : State) (m : Nat) : Nat :=
  s.ladder.releasedTs + scaleBudget s.ladder.rhtScale (1000000 * s.fg (F.RHT_BUD_BUDGET (m - 4)))

/-- Has milestone m of the running reheat a deadline that is not met yet. -/
def State.markOpen (s : State) (m : Nat) : Bool :=
  s.ladder.reheat && (s.ladder.reheatStep == 1 || s.ladder.reheatStep == 2) && !bitOf (s.fg F.RHT_STAT_DONE) m &&
    !bitOf (s.fg F.RHT_STAT_LATE) m

/-- A missed milestone (R353). -/
def markLate (m : Nat) (s : State) : State :=
  serviceMiss 3 s.ladder.releasedTs (s.fs F.RHT_STAT_LATE (setBit (s.fg F.RHT_STAT_LATE) m true))

/-- A carrier mark (R352): taken once, while the reheat runs; an ENGINE step takes READY only. A mark past its deadline is late.
READY ends the reheat and makes its fan-out. -/
def reheatMark (m : Nat) (s : State) : State :=
  let l := s.ladder
  if l.reheat && decide (4 ≤ m) && (l.reheatStep != 0 || m == 7) && !bitOf (s.fg F.RHT_STAT_DONE) m then
    let s := if s.markOpen m && s.past (s.markDeadline m) then markLate m s else s
    let s := milestone m l.reheatStep (s.fg F.RST_NUM_NUM) s.ts (b2n (bitOf (s.fg F.RHT_STAT_LATE) m)) s
    if m = 7 then
      let s := modLadder (fun l => { l with reheat := false }) s
      if s.fb F.RST_CTL_AUTO_NOTICE then
        (formFanOut 2 (fun n => noticeBytes s 2 n (s.stepByte (some l.reheatStep)) 0 0 0 0 0
          (partMaskOf s l.reheatStep l.unit l.part) 0 0xFFFFFFFF 0) s.ts none s).2
      else s
    else s
  else s

/-- REHEAT_MARK is taken from identities 3 and 36 to 51 and from the operator class (R352). -/
def execReheatMarkWrite (id value : Nat) (s : State) : Outcome State Fault Refusal := s.act fun s =>
  ok (s.gate id R.REHEAT_MARK (if id = 3 ∨ (36 ≤ id ∧ id ≤ 51) then .open_ else .operator) (reheatMark (bitsOf value 0 3)))

def execReheatMilestoneDeadline (s : State) : Outcome State Fault Refusal := s.act fun s =>
  match [4, 5, 6, 7].find? (fun m => s.markOpen m && s.past (s.markDeadline m)) with
  | some m => ok (markLate m s)
  | none => ok s

/-- The reheat budgets of a mode (R353). -/
def loadReheat (mode : Nat) (s : State) : State :=
  let v := if mode = 0 then [2000, 3000, 3500, 4000] else [1500, 1500, 2500, 3000]
  (List.range 4).foldl (fun s i => s.fs (F.RHT_BUD_BUDGET i) (v.getD i 0)) s

/-- A write of RST_CTL (R335): where MODE is not locked, its budgets are loaded. -/
def rstCtlWrite (v : Nat) (s : State) : State :=
  let locked := s.fb F.RST_CTL_LOCK
  let s := plainWrite R.RST_CTL (BitVec.ofNat 32 v) s
  if locked then s else loadReheat (s.fg F.RST_CTL_MODE) s

def execRstModeWrite (id value : Nat) (s : State) : Outcome State Fault Refusal := s.act fun s =>
  ok (s.gate id R.RST_CTL .operator (rstCtlWrite value))

/-! ### HUB_WARM (R360) -/

/-- The ladder and its collections end; the word is idle; a reheat is kept. -/
def warmLadder (s : State) : State :=
  let s := modLadder (fun l => { l with
    running := false, cmds := [], queue := [], waitDump := [], collects := [], nextWord := none,
    wordFrom := if s.pins.rstqWord == rstqIdle then l.wordFrom else s.core }) s
  let s := { s with pins := { s.pins with rstqWord := rstqIdle } }
  ((s.fs F.RST_STAT_STEP 0).fs F.RST_STAT_QUEUED 0).fs F.RST_STAT_WAIT_DUMP 0

end Sys2Proof.Machine
end

