-- ==== Sys2Proof/Machine/Notice.lean ====
section
/-! DEFINITION. Peer notices: the fan-out that runs (R354 to R356), notices received (R358) and the senders tracked (R359). -/

namespace Sys2Proof.Machine

open Host (Outcome)

def cPeerReset : Nat := 0x0501
def cPeerSilent : Nat := 0x0502

def modNotice (f : NoticeState → NoticeState) (s : State) : State := { s with notice := f s.notice }

/-- NOTICE_STAT's counts of the fan-outs and the senders tracked (R360). -/
def showNotice (s : State) : State :=
  ((s.fs F.NOTICE_STAT_BUSY (b2n s.notice.running.isSome)).fs F.NOTICE_STAT_QUEUED s.notice.queue.length).fs
    F.NOTICE_STAT_TRACKED s.notice.tracked.length

/-- A budget of the running fan-out is missed (R356): SERVICE_DEADLINE of service 2, and LATE. -/
def fanOutMiss (f : FanOut) (s : State) : State := serviceMiss 2 f.budgetFrom (s.fs F.NOTICE_STAT_LATE 1)

/-- Note the budgets of a fan-out that have passed: the first while no notice has left, the last while one has still to leave. -/
def checkFanOut (f : FanOut) (s : State) : FanOut × State :=
  let late1 := !f.firstLeft && !f.missed && s.past (f.budgetFrom + f.firstBud)
  let s := s.when late1 (fanOutMiss f)
  let late2 := !f.left.isEmpty && !f.missedLast && s.past (f.budgetFrom + f.lastBud)
  let s := s.when late2 (fanOutMiss f)
  ({ f with missed := f.missed || late1, missedLast := f.missedLast || late2 }, s)

/-- The running fan-out, or its end when no notice is left: NOTICE_SEND completes OK, or TIMEOUT where a budget was missed
(R428). -/
def keepFanOut (f : FanOut) (s : State) : State :=
  if f.left.isEmpty then
    let s := showNotice (modNotice (fun n => { n with running := none }) s)
    match f.cmd with
    | some k => completeCmd k (if f.missed || f.missedLast then 0x06 else 0) (leAt f.bytes 2 2) s
    | none => s
  else showNotice (modNotice (fun n => { n with running := some f }) s)

/-- The next fan-out starts (R354): its budgets are fixed (R571). -/
def execNoticeFanoutStart (s : State) : Outcome State Fault Refusal := s.awake fun s =>
  match s.notice.running, s.notice.queue with
  | none, f :: rest =>
    if !s.coreUp 1 then ok s else
    let s := modNotice (fun n => { n with queue := rest }) s
    let f := { f with started := true, firstBud := s.scaled .service (1000 * s.fg F.NOTICE_CTL_FIRST_BUD),
                      lastBud := s.scaled .service (1000 * s.fg F.NOTICE_CTL_LAST_BUD) }
    ok (keepFanOut f s)
  | _, _ => ok s

/-- One PEER_NOTICE leaves the port (R356): at most one in 8 CORECLK, and none in a cycle in which notices are stalled (R569). -/
def execPeerNoticeSend (s : State) : Outcome State Fault Refusal := s.awake fun s =>
  let free := match s.notice.lastSend with | some c => decide (c + 8 ≤ s.core) | none => true
  match s.notice.running with
  | some f =>
    match f.left with
    | node :: rest =>
      if free && s.coreUp 1 && !s.noticeStall s.core then
        let (f, s) := checkFanOut f s
        let s := { s with bus := { s.bus with fabSent := s.bus.fabSent ++ [⟨true, node, f.bytes⟩] } }
        let s := modNotice (fun n => { n with lastSend := some s.core }) s
        ok (keepFanOut { f with firstLeft := true, left := rest } s)
      else ok s
    | [] => ok s
  | none => ok s

def execNoticeFanoutDeadline (s : State) : Outcome State Fault Refusal := s.act fun s =>
  match s.notice.running with
  | some f => let (f, s) := checkFanOut f s; ok (keepFanOut f s)
  | none => ok s

/-! ### Reception (R358, R359) -/

/-- Track the sender of a FAULT or RESET notice (R359): a later notice replaces the deadline; 64 senders at most. -/
def trackSender (node expect : Nat) (s : State) : State :=
  let t : Tracked := ⟨node, s.ts, s.ts + expect⟩
  if s.notice.tracked.any (fun x => x.node == node) then
    modNotice (fun n => { n with tracked := replaceFirst (fun x => x.node == node) (fun _ => t) n.tracked }) s
  else if s.notice.tracked.length < 64 then modNotice (fun n => { n with tracked := n.tracked ++ [t] }) s
  else s.fsat F.NOTICE_CNT_UNTRACKED 1

def untrack (node : Nat) (s : State) : State :=
  modNotice (fun n => { n with tracked := n.tracked.filter (fun x => x.node != node) }) s

/-- PEER_SILENT (R359): a deadline that has passed ends the tracking of its sender. -/
def peerSilent (t : Tracked) (s : State) : State :=
  centralFault cPeerSilent 0 none t.receipt t.node t.deadline (showNotice (untrack t.node s))

/-- A sender whose deadline has passed is silent, whatever comes from it now (R110). -/
def expireSender (node : Nat) (s : State) : State :=
  match s.notice.tracked.find? (fun t => t.node == node && s.past t.deadline) with
  | some t => peerSilent t s
  | none => s

/-- The fill's destination node, for the shard in work (R374 cause 3). -/
def State.copyDstNode (s : State) : Option Nat := (s.cont.copy.bind (fun (j : CopyJob) => j.here)).map (fun h => h.dst >>> 40)

/-- A PEER_NOTICE of the job is received (R358): logged, posted, recorded and tracked. -/
def takeNotice (node : Nat) (bytes : List Nat) (s : State) : State :=
  let e := s.notice.received % 64
  let cls := leAt bytes 1 1 % 4
  let ts := leAt bytes 8 8
  let expect := leAt bytes 16 8
  let s := (if cls ≤ 2 then expireSender node s else s).wrWords (R.NOTICE_LOG e 0) (wordsOf bytes)
  let s := modNotice (fun n => { n with received := n.received + 1 }) s
  let s := postEvent (s.fg F.NOTICE_CTL_RX_RING) ⟨6, e + 2 ^ 6 * cls + 2 ^ 8 * node, s.ts, ts + 2 ^ 64 * expect, none⟩ s
  if cls ≤ 1 then
    let s := centralFault cPeerReset 0 none ts (node + 2 ^ 24 * cls + 2 ^ 26 * (leAt bytes 7 1 % 8)) expect s
    let s := showNotice (trackSender node expect s)
    if s.copyDstNode == some node then failCopy 3 s else s
  else if cls = 2 then showNotice (untrack node s)
  else s

def execPeerNoticeReceive (node : Nat) (bytes : List Nat) (s : State) : Outcome State Fault Refusal := s.awake fun s =>
  if bytes.length != 64 || leAt bytes 0 1 != 3 then ok s
  else if s.fb F.NOTICE_CTL_RX_EN && s.job.peers.contains node && leAt bytes 0x28 8 == s.job.jobId then
    ok (takeNotice node bytes s)
  else ok (s.fsat F.NOTICE_CNT_IGNORED 1)

def execPeerSilentExpiry (s : State) : Outcome State Fault Refusal := s.act fun s =>
  match s.notice.tracked.find? (fun t => s.past t.deadline) with
  | some t => ok (peerSilent t s)
  | none => ok s

/-- Loading a new job table drops the tracking of the nodes it does not hold (R429). -/
def dropUntabled (s : State) : State :=
  showNotice (modNotice (fun n => { n with tracked := n.tracked.filter (fun x => s.job.peers.contains x.node) }) s)

/-- HUB_WARM (R395): the commands that wait are gone; fan-outs and tracking stay. -/
def warmNotice (s : State) : State :=
  modNotice (fun n => { n with running := n.running.map (fun (f : FanOut) => { f with cmd := none }),
                               queue := n.queue.map (fun (f : FanOut) => { f with cmd := none }) }) s

end Sys2Proof.Machine
end

