-- ==== Sys2Proof/Machine/Rings.lean ====
section
/-! DEFINITION. Descriptor rings (R379 to R395): doorbells, set-up and states, fetch turns, errors, event entries, the interrupts'
mask and timer, function and core-group resets (R393, R519), HUB_WARM (R394). Acceptance of descriptors stands in Checks, the answers of
host memory in HostIo. -/

namespace Sys2Proof.Machine

open Host (Outcome)

def modRings (f : RingState → RingState) (s : State) : State := { s with rings := f s.rings }

/-! ### Doorbells (R381, R382, R386) -/

/-- An access of a doorbell page by a master other than the ring's OWNER (R381). -/
def ringRej (id : Nat) (s : State) : State := (s.fsat F.RING_REJ_COUNT 1).fs F.RING_REJ_LAST_ID id

/-- An access of a doorbell page register, for the OWNER of its ring alone (R381). -/
def dbOwner (id owner : Nat) (f : State → State) (s : State) : State :=
  if !s.windowOpen then s else if id = owner then f s else ringRej id s

/-- Descriptors pending between head and tail. -/
def State.sqPending (s : State) (r : Nat) : Nat :=
  (s.fg (F.SQ_TAIL_INDEX r) + s.sqSize r - s.fg (F.SQ_HEAD_INDEX r)) % s.sqSize r

/-- A write of SQ_DB (R382): the tail moves forward to the value, unless that leaves more than size − 1 pending. -/
def sqDoorbell (r v : Nat) (s : State) : State :=
  let t := v % 65536
  let size := s.sqSize r
  let step := (t + size - s.fg (F.SQ_TAIL_INDEX r)) % size
  if t < size && s.fb (F.SQ_CTL_EN r) && decide (s.sqPending r + step ≤ size - 1) then s.fs (F.SQ_TAIL_INDEX r) t
  else s.fs (F.SQ_STAT_DB_ERR r) 1

def execSqDoorbell (id ring value : Nat) (s : State) : Outcome State Fault Refusal := s.act fun s =>
  ok (dbOwner id (s.fg (F.SQ_CFG_OWNER (ring % 64))) (sqDoorbell (ring % 64) value) s)

/-- A write of EQ_DB (R386, R389): entries are returned up to the new head; ARM re-arms, and signals at once where the condition is
met. A bad head has no effect but DB_ERR. -/
def eqDoorbell (r v : Nat) (s : State) : State :=
  let h := v % 65536
  let size := s.eqSize r
  let tail := s.fg (F.EQ_TAIL_INDEX r)
  let used := (tail + size - s.fg (F.EQ_HEAD_INDEX r)) % size
  let back := (h + size - s.fg (F.EQ_HEAD_INDEX r)) % size
  if size ≤ h || used < back then s.fs (F.EQ_STAT_DB_ERR r) 1
  else
    let s := s.fs (F.EQ_HEAD_INDEX r) h
    let left := (tail + size - h) % size
    let u := (s.unsig r).filter (fun e => decide ((e.1 + size - h) % size < left))
    let s := modRings (fun t => { t with unsig := mput t.unsig r u }) s
    if bitOf v 16 then trySignal r (s.fs (F.EQ_STAT_ARMED r) 1) else s

def execEqDoorbell (id ring value : Nat) (s : State) : Outcome State Fault Refusal := s.act fun s =>
  ok (dbOwner id (s.fg (F.EQ_CFG_OWNER (ring % 64))) (eqDoorbell (ring % 64) value) s)

/-- Reads of the mirrors SQ_HEAD_M and EQ_TAIL_M (R381). -/
def sqHeadM (s : State) (r : Nat) : Nat :=
  s.fg (F.SQ_HEAD_INDEX r) + 2 ^ 16 * s.fg (F.SQ_CTL_EN r) + 2 ^ 17 * s.fg (F.SQ_STAT_STATE r)

def eqTailM (s : State) (r : Nat) : Nat :=
  s.fg (F.EQ_TAIL_INDEX r) + 2 ^ 16 * s.fg (F.EQ_STAT_PHASE r) + 2 ^ 17 * s.fg (F.EQ_STAT_STATE r)

/-! ### Set-up and states (R391, R392, R395) -/

/-- Descriptor reads outstanding for a ring. -/
def State.fetching (s : State) (r : Nat) : Nat :=
  (s.bus.hostRd.filter (fun q => match q.use with | .fetch r' _ _ => r' == r | _ => false)).length

/-- Forget the descriptors read and not accepted: only the reads outstanding are still owed to the ring. -/
def dropFetched (r : Nat) (s : State) : State :=
  let n := s.fetching r
  modRings (fun t => { t with fetched := t.fetched.filter (fun d => d.1.ring != r), ahead := mput t.ahead r n }) s

/-- CTL.ZERO (R395): in DISABLED, ERROR or WARM the ring starts afresh, DISABLED. -/
def zeroSq (r : Nat) (s : State) : State :=
  let st := s.fg (F.SQ_STAT_STATE r)
  if st == stDisabled || st == stError || st == stWarm then
    let s := ((s.fs (F.SQ_STAT_STATE r) stDisabled).fs (F.SQ_CTL_EN r) 0).fs (F.SQ_STAT_OUTST r) 0
    dropFetched r (((s.fs (F.SQ_HEAD_INDEX r) 0).fs (F.SQ_TAIL_INDEX r) 0).wr (R.SQ_ERRINFO r) 0)
  else s

def zeroEq (r : Nat) (s : State) : State :=
  let st := s.fg (F.EQ_STAT_STATE r)
  if st == stDisabled || st == stError || st == stWarm then
    let s := ((s.fs (F.EQ_STAT_STATE r) stDisabled).fs (F.EQ_CTL_EN r) 0).fs (F.EQ_STAT_LOST r) 0
    let s := ((s.fs (F.EQ_HEAD_INDEX r) 0).fs (F.EQ_TAIL_INDEX r) 0).fs (F.EQ_STAT_PHASE r) 1
    modRings (fun t => { t with unsig := mput t.unsig r [], lossPend := mput t.lossPend r 0 }) s
  else s

/-- EN written 1: from DISABLED, and from WARM whose commands the host has dealt with (R392, R394). -/
def enableSq (r : Nat) (s : State) : State :=
  let st := s.fg (F.SQ_STAT_STATE r)
  if st == stDisabled || st == stWarm then
    let s := s.fs (F.SQ_STAT_OUTST r) ((s.rings.cmds.filter (fun c => c.key.ring == r)).length)
    (s.fs (F.SQ_CTL_EN r) 1).fs (F.SQ_STAT_STATE r) stRunning
  else s

def enableEq (r : Nat) (s : State) : State :=
  let st := s.fg (F.EQ_STAT_STATE r)
  if st == stDisabled || st == stWarm then
    ((s.fs (F.EQ_CTL_EN r) 1).fs (F.EQ_STAT_STATE r) stRunning).fs (F.EQ_STAT_ARMED r) 1
  else s

/-- EN written 0 to a running ring or one in ERROR: STOPPING, and DISABLED when nothing of it is outstanding. -/
def disableSq (r : Nat) (s : State) : State :=
  let st := s.fg (F.SQ_STAT_STATE r)
  if st == stRunning || st == stError then
    settleSq r (dropFetched r ((s.fs (F.SQ_CTL_EN r) 0).fs (F.SQ_STAT_STATE r) stStopping))
  else s

def disableEq (r : Nat) (s : State) : State :=
  let st := s.fg (F.EQ_STAT_STATE r)
  if st == stRunning || st == stError then settleEq r ((s.fs (F.EQ_CTL_EN r) 0).fs (F.EQ_STAT_STATE r) stStopping) else s

/-- A write of SQ_CTL or EQ_CTL: ZERO first, then EN. -/
def writeSqCtl (r v : Nat) (s : State) : State :=
  let s := if bitOf v 1 then zeroSq r s else s
  if bitOf v 0 then enableSq r s else disableSq r s

def writeEqCtl (r v : Nat) (s : State) : State :=
  let s := if bitOf v 1 then zeroEq r s else s
  if bitOf v 0 then enableEq r s else disableEq r s

/-- BASE and CFG are written only while EN is 0 (R379). -/
def writeRingSetup (eq : Bool) (r a v : Nat) (s : State) : State :=
  if s.fb (if eq then F.EQ_CTL_EN r else F.SQ_CTL_EN r) then s else plainWrite a (BitVec.ofNat 32 v) s

/-- Who may write a ring's set-up registers (R380). -/
def ringNeed (id : Nat) : Need := if id = 3 then .open_ else .operator

def writeCtl (eq : Bool) (id r v : Nat) (s : State) : State :=
  s.gate id (if eq then R.EQ_CTL r else R.SQ_CTL r) (ringNeed id) (if eq then writeEqCtl r v else writeSqCtl r v)

def execRingEnable (id : Nat) (eq : Bool) (ring : Nat) (s : State) : Outcome State Fault Refusal := s.act fun s =>
  ok (writeCtl eq id (ring % 64) 1 s)

def execRingDisable (id : Nat) (eq : Bool) (ring : Nat) (s : State) : Outcome State Fault Refusal := s.act fun s =>
  ok (writeCtl eq id (ring % 64) 0 s)

def execRingZero (id : Nat) (eq : Bool) (ring : Nat) (en : Bool) (s : State) : Outcome State Fault Refusal := s.act fun s =>
  ok (writeCtl eq id (ring % 64) (2 + b2n en) s)

/-! ### Fetching (R383) -/

/-- How many more descriptors a ring may have read now: what is pending, its 16 and the hub's 256. -/
def State.fetchRoom (s : State) (r : Nat) : Nat :=
  if s.fb (F.SQ_CTL_EN r) && s.fg (F.SQ_STAT_STATE r) == stRunning && s.fg (F.EQ_STAT_STATE (s.fg (F.SQ_CFG_EQ r))) != stError then
    let ahead := mget s.rings.ahead r 0
    let mine := (s.rings.cmds.filter (fun c => c.key.ring == r)).length
    let all := s.rings.cmds.length + (s.rings.ahead.map (·.2)).sum
    min (min (s.sqPending r - ahead) (16 - mine - ahead)) (256 - all)
  else 0

/-- Ask for one descriptor of a ring. -/
def fetchOne (r : Nat) (s : State) : State :=
  let size := s.sqSize r
  let idx := (s.fg (F.SQ_HEAD_INDEX r) + mget s.rings.ahead r 0) % size
  let base := s.rd64 (R.SQ_BASE_LO r) (R.SQ_BASE_HI r) / 4096 * 4096
  let s := modRings (fun t => { t with ahead := mmod t.ahead r 0 (· + 1) }) s
  hostRead (s.fg (F.SQ_CFG_OWNER r)) (base + 64 * idx) 64 (.fetch r idx 1) s

/-- The next ring in turn that has room reads up to 4 descriptors. -/
def execRingFetchTurn (s : State) : Outcome State Fault Refusal := s.awake fun s =>
  match ((List.range 64).map (fun i => (s.rings.turn + i) % 64)).find? (fun r => s.fetchRoom r != 0) with
  | none => ok s
  | some r =>
    let n := min 4 (s.fetchRoom r)
    ok (modRings (fun t => { t with turn := (r + 1) % 64 }) ((List.range n).foldl (fun s _ => fetchOne r s) s))

/-- A descriptor read fails (R391): the ring enters ERROR, its index is answered ABORTED with RING_ERR. A ring that has stopped meanwhile
only drops the read. -/
def fetchFailed (r idx : Nat) (s : State) : State :=
  if s.fg (F.SQ_STAT_STATE r) == stRunning then
    let s := (s.fs (F.SQ_STAT_STATE r) stError).wrN (R.SQ_ERRINFO r) (idx + 2 ^ 16)
    let s := signalRingErr (dropFetched r s)
    postEvent (s.fg (F.SQ_CFG_EQ r)) (completionEvent ⟨r, idx⟩ 0 0x0A 0 0 s.ts 1 none) s
  else settleSq r (modRings (fun t => { t with ahead := mmod t.ahead r 0 (· - 1) }) s)

def execDescriptorFetchError (tag : Nat) (s : State) : Outcome State Fault Refusal := s.act fun s =>
  match takeHost tag s.ts s.bus.hostRd with
  | some (q, rest) =>
    match q.use with
    | .fetch r idx _ => ok (fetchFailed r idx (modBus (fun b => { b with hostRd := rest }) s))
    | _ => ok s
  | none => ok s

/-- A descriptor arrives: it waits for its acceptance, in ring order. -/
def descriptorArrives (r idx : Nat) (bytes : List Nat) (s : State) : State :=
  if s.fg (F.SQ_STAT_STATE r) == stRunning then
    modRings (fun t => { t with fetched := t.fetched ++ [(⟨r, idx⟩, bytes)] }) s
  else settleSq r (modRings (fun t => { t with ahead := mmod t.ahead r 0 (· - 1) }) s)

/-! ### Event entries and interrupts (R386 to R391) -/

def execEventEntryWrite (ring : Nat) (s : State) : Outcome State Fault Refusal := s.awake fun s =>
  ok (settleEq (ring % 64) (writeEventEntry (ring % 64) s))

/-- An event write failed (R391): the ring enters ERROR and what was formed for it and not written is lost. -/
def eqFailed (r : Nat) (s : State) : State :=
  let s := signalRingErr (s.fs (F.EQ_STAT_STATE r) stError)
  (s.dueOf r).foldl (fun s e => loseEvent e s) (setDue r [] s)

/-- An event write is acknowledged: the entry joins U, its command is completed (R383, R388, R389). -/
def entryAcked (r : Nat) (cmd : Option CmdKey) (pos : Nat) (good : Bool) (s : State) : State :=
  let s := match cmd with | some k => retireCmd k s | none => s
  if good then
    let size := s.eqSize r
    let left := (s.fg (F.EQ_TAIL_INDEX r) + size - s.fg (F.EQ_HEAD_INDEX r)) % size
    let s := if (pos + size - s.fg (F.EQ_HEAD_INDEX r)) % size < left then
        modRings (fun t => { t with unsig := mput t.unsig r (s.unsig r ++ [(pos, s.ts)]) }) s
      else s
    settleEq r (trySignal r s)
  else if s.fg (F.EQ_STAT_STATE r) == stRunning || s.fg (F.EQ_STAT_STATE r) == stStopping then eqFailed r s
  else signalRingErr s

/-- The moderation timer of a ring passes (R389). -/
def execEqInterruptTimer (s : State) : Outcome State Fault Refusal := s.act fun s =>
  match (List.range 64).find? (fun r => s.signalDue r) with
  | some r => ok (trySignal r s)
  | none => ok s

/-- A write of INT_MASK (R390): a vector that is pending and no longer masked pulses once. -/
def writeMask (hi : Bool) (v : Nat) (s : State) : State :=
  let s := s.wrN (if hi then R.INT_MASK_HI else R.INT_MASK_LO) v
  let mask := s.rd64 R.INT_MASK_LO R.INT_MASK_HI
  let pend := s.rd64 R.INT_PEND_LO R.INT_PEND_HI
  let free := (bitsSet 64 pend).filter (fun i => !bitOf mask i)
  let s := s.wr64 R.INT_PEND_LO R.INT_PEND_HI (free.foldl (fun p i => setBit p i false) pend)
  { s with pins := { s.pins with hubInt := free.foldl (fun p i => setBit p i true) s.pins.hubInt } }

def execIntMaskWrite (id : Nat) (hi : Bool) (value : Nat) (s : State) : Outcome State Fault Refusal := s.act fun s =>
  ok (s.gate id (if hi then R.INT_MASK_HI else R.INT_MASK_LO) .operator (writeMask hi value))

/-! ### Function and core-group resets (R393, R519) -/

/-- The rings of a reset function stop and its commands run on inside the hub, their host writes and entries suppressed. -/
def stopFunction (i : Nat) (s : State) : State :=
  let mine := (List.range 64).filter (fun r => s.fg (F.SQ_CFG_OWNER r) == i)
  let evs := (List.range 64).filter (fun r => s.fg (F.EQ_CFG_OWNER r) == i)
  let keep (l : List HostReq) : List HostReq := l.take hostMax ++ (l.drop hostMax).filter (fun q => q.ident != i)
  let s := modBus (fun b => { b with hostRd := keep b.hostRd, hostWr := keep b.hostWr }) s
  let s := modRings (fun t => { t with cmds := t.cmds.map (fun (c : Cmd) =>
    if mine.contains c.key.ring && c.phase != .completing then { c with suppressed := true } else c) }) s
  let s := mine.foldl (fun s r => disableSq r s) s
  let s := evs.foldl (fun s r => (s.dueOf r).foldl (fun s e => loseEvent e s) (setDue r [] s)) s
  evs.foldl (fun s r => disableEq r s) s

/-- A command of a reset function that only waited for host writes the hub no longer issues ends now. -/
def settleSuppressed (s : State) : State :=
  (s.rings.cmds.filter (fun c => c.suppressed && c.phase == .writing && !s.cmdWrites c.key)).foldl
    (fun s c => completeCmd c.key c.status c.result (s.when (c.opcode == 0x43) (unpinSnap c.key c.point))) s

def execFunctionReset (ident : Nat) (s : State) : Outcome State Fault Refusal := s.act fun s =>
  if 3 ≤ ident ∧ ident ≤ 35 then ok (resetIdentities [ident] (settleSuppressed (stopFunction ident s))) else ok s

/-- A rise of CC_RST[g] resets identity 36 + g (R448). -/
def execControlGroupReset (group : Nat) (s : State) : Outcome State Fault Refusal := s.act fun s =>
  if group < 16 then ok (resetIdentities [36 + group] s) else ok s

/-! ### HUB_WARM (R394) -/

/-- Every ring enters WARM; its oldest command left without a completion and their number are recorded. -/
def warmRings (s : State) : State :=
  let s := (List.range 64).foldl (fun s r =>
    let left := s.rings.cmds.filter (fun c => c.key.ring == r)
    let s := ((s.fs (F.SQ_CTL_EN r) 0).fs (F.SQ_STAT_STATE r) stWarm).fs (F.SQ_STAT_OUTST r) left.length
    let s := match left with | c :: _ => s.wrN (R.SQ_ERRINFO r) (c.key.idx + 3 * 2 ^ 16) | [] => s
    (s.fs (F.EQ_CTL_EN r) 0).fs (F.EQ_STAT_STATE r) stWarm) s
  modRings (fun _ => {}) s

end Sys2Proof.Machine
end

