-- ==== Sys2Proof/Machine/Checks.lean ====
section
/-! DEFINITION. Acceptance of a descriptor (R383, R397 to R404): the five checks of R398 in their order, the tenant limits of the
service chapters, and the command a good descriptor becomes. -/

namespace Sys2Proof.Machine

open Host (Outcome)

/-! ### Check 1: the body of each opcode (R397, R404 to R435) -/

/-- Every bit of `k` bytes. -/
def full (k : Nat) : Nat := 2 ^ (8 * k) - 1

/-- Class of an opcode (O or T) and the fields of its body as (offset, mask): every other bit of the body is reserved. -/
def opcodeBody (op : Nat) : Option (Bool × List (Nat × Nat)) :=
  match op with
  | 0x01 => some (false, [])
  | 0x02 => some (false, [])
  | 0x10 => some (false, [(0x10, 0xFFF), (0x12, 0xF), (0x14, 0x1FFFFFFF), (0x18, 0xFF7F)])
  | 0x11 => some (false, [(0x10, 0xFFF), (0x12, 0xFFFF), (0x14, 7), (0x18, full 8), (0x20, full 4)])
  | 0x12 => some (false, [(0x10, 0xFFF), (0x12, 0xFF), (0x18, full 8)] ++ (List.range 8).map (fun i => (0x20 + 4 * i, 0xFFFFFF)))
  | 0x13 => some (false, [(0x10, 0xFFF), (0x12, 0x3F), (0x13, 0xFF), (0x18, full 8), (0x20, full 8), (0x28, full 4)])
  | 0x20 => some (false, [(0x10, full 8), (0x18, full 2)])
  | 0x21 => some (false, [(0x10, 1)])
  | 0x22 => some (false, [(0x10, 1)])
  | 0x23 => some (false, [(0x10, full 8), (0x18, full 4)])
  | 0x24 => some (false, [(0x10, full 4)])
  | 0x30 => some (false, [(0x10, 0x3F), (0x14, 0x03FFFFFE), (0x18, 0xFFF), (0x1C, full 4), (0x20, full 4), (0x24, 0xFFF)])
  | 0x31 => some (false, [(0x10, 0x3F), (0x11, 1)])
  | 0x32 => some (false, [(0x10, 0x3F), (0x11, 1), (0x12, full 2), (0x14, full 2), (0x18, full 8), (0x20, full 4)])
  | 0x40 => some (true, [(0x10, 7)])
  | 0x41 => some (true, [(0x10, 0xF), (0x11, 0xFF), (0x18, full 8)])
  | 0x42 => some (true, [])
  | 0x43 => some (true, [(0x10, 3), (0x11, 0x3F), (0x12, 0xFFF), (0x18, full 8), (0x20, full 4)])
  | 0x50 => some (true, [(0x10, full 2), (0x12, 3), (0x14, 0x3FFF)])
  | 0x51 => some (true, [])
  | 0x52 => some (true, [(0x10, 7), (0x11, 3), (0x18, full 8), (0x20, full 4)])
  | 0x60 => some (true, [(0x10, 3), (0x11, 0xF), (0x12, 0x3FFF)])
  | 0x61 => some (true, [(0x10, full 8)])
  | 0x70 => some (true, [(0x10, full 8), (0x18, full 8), (0x20, full 4)])
  | 0x71 => some (true, [(0x10, 3), (0x18, full 8), (0x20, full 8), (0x28, full 8)])
  | 0x72 => some (true, [(0x10, full 8), (0x18, full 8), (0x20, full 8), (0x28, full 2), (0x30, full 8)])
  | 0x73 => some (true, [(0x10, full 8), (0x18, full 4), (0x1C, 1), (0x20, full 8), (0x28, full 4)])
  | 0x80 => some (true, [(0x10, full 8), (0x18, full 2)])
  | 0x81 => some (true, [(0x10, full 16)])
  | 0x82 => some (true, [(0x10, full 8), (0x18, full 2), (0x1A, 1), (0x1C, full 3), (0x20, full 8)])
  | 0x90 => some (true, [(0x10, 0xFF), (0x18, full 8)])
  | 0x91 => some (true, [(0x10, 0xFF), (0x11, 0xF), (0x12, 0x3F), (0x13, 0xBF), (0x14, 0xFF), (0x15, 0xFF)])
  | 0xA0 => some (true, [(0x10, 0x3FF), (0x12, 0xFF), (0x13, 3), (0x14, full 2), (0x16, full 2), (0x18, full 4), (0x20, full 8)])
  | _ => none

/-- The bits of the 48-byte body that an opcode's fields name. -/
def bodyMask (fs : List (Nat × Nat)) : Nat := (fs.map (fun f => f.2 * 2 ^ (8 * (f.1 - 0x10)))).sum

/-- HVER is 0x03 and every reserved byte and bit is 0 (R9). -/
def Cmd.formOk (c : Cmd) (fs : List (Nat × Nat)) : Bool :=
  c.fld 1 1 == 3 && c.fld 2 6 == 0 && (c.fld 0x10 48 &&& bodyMask fs) == c.fld 0x10 48

/-! ### Check 3: the field rules -/

def Cmd.grp (c : Cmd) (off : Nat) : Nat × Nat := (grpGroup (c.fld off 2), grpTarget (c.fld off 2))

/-- A GRP field of R403. -/
def grpOk (g : Nat × Nat) : Bool :=
  if g.1 = 0 then true else if g.1 = 3 then g.2 == 0 else decide (g.2 < 16)

/-- A GRP that names no station (R403). -/
def State.grpAbsent (s : State) (g : Nat × Nat) : Bool := g.1 != 3 && (s.members g.1 g.2).isEmpty

/-- Host addresses of an opcode (R402). -/
def hostAddrs (op : Nat) : List Nat :=
  if op = 0x11 || op = 0x12 || op = 0x32 || op = 0x43 || op = 0x52 || op = 0x90 then [0x18]
  else if op = 0x13 then [0x18, 0x20]
  else if op = 0x20 || op = 0x23 || op = 0x61 || op = 0x80 || op = 0x82 then [0x10]
  else if op = 0x71 then [0x28]
  else if op = 0x72 then [0x30]
  else if op = 0x73 then [0x10, 0x20]
  else if op = 0xA0 then [0x20]
  else []

/-- A SOURCE that COUNTER_REDUCE accepts (R193, R407). -/
def sourceOk (src cls : Nat) : Bool :=
  let dom := src >>> 20
  if dom = 1 then src &&& 0x11F8 == 0 && bitsOf src 9 2 != 3
  else if dom = 2 then src &&& 0xFF7F0 == 0
  else src == 0x000600 && decide (2 ≤ cls)

def Cmd.sources (c : Cmd) : List Nat := (List.range (c.fld 0x12 1)).map (fun i => c.fld (0x20 + 4 * i) 4)

/-- Cells a STRIA_READ names: 0 stands for every cell from FIRST (R413). -/
def State.striaCount (s : State) (c : Cmd) : Nat :=
  if c.fld 0x14 2 = 0 then s.slotCells (c.fld 0x10 1) - c.fld 0x12 2 else c.fld 0x14 2

/-- A TS in the target's time base (R120): local, or a peer's through offset-table entry e. -/
def State.toPeer (s : State) (e : Nat) (t : Nat) : Int :=
  let off2 : Int := signedOf 64 ((s.offEnt e 2 + 2 ^ 32 * s.offEnt e 3 : Nat))
  let tref : Nat := s.offEnt e 4 + 2 ^ 32 * s.offEnt e 5
  let rate : Int := if bitOf (s.offEnt e 0) 27 then signedOf 32 (s.offEnt e 6) else 0
  (t : Int) + Int.fdiv off2 2 + Int.fdiv (rate * ((t : Int) - (tref : Int))) (2 ^ 32)

/-- A CUT_AT's clock: local TS, or the peer's (R145). -/
def State.cutAtTime (s : State) (c : Cmd) (t : Nat) : Int := if bitOf (c.fld 0x10 1) 3 then s.toPeer (c.fld 0x11 1) t else (t : Int)

/-- Does the entry a CUT_AT names convert (R416): PEER off, or STATUS VALID or FEW. -/
def State.cutAtEntry (s : State) (c : Cmd) : Bool :=
  !bitOf (c.fld 0x10 1) 3 || s.offStatus (c.fld 0x11 1) == 1 || s.offStatus (c.fld 0x11 1) == 2

/-- The field rules of an opcode (R398 step 3, R402 to R435). -/
def State.fieldsOk (s : State) (c : Cmd) : Bool :=
  let op := c.opcode
  let g := c.grp 0x10
  (hostAddrs op).all (fun o => c.fld o 8 % 64 == 0) &&
  (if op = 0x10 then grpOk g && !eventReserved (c.fld 0x14 1)
   else if op = 0x11 then
    let sets := c.fld 0x14 1
    grpOk g && sets != 0 && decide ((s.members g.1 g.2).length *
      (16 + (if bitOf sets 0 then 64 * popCount 16 (c.fld 0x12 2) else 0) + (if bitOf sets 1 then 128 else 0)) ≤ c.fld 0x20 4)
   else if op = 0x12 then
    let n := c.fld 0x12 1
    grpOk g && decide (1 ≤ n) && decide (n ≤ 8) && c.sources.all (fun v => sourceOk v c.cls) &&
      c.fld (0x20 + 4 * n) (4 * (8 - n)) == 0
   else if op = 0x13 then
    let fl := c.fld 0x12 1
    let n := c.fld 0x13 1
    let k := popCount 4 (fl / 4)
    grpOk g && (if bitOf fl 0 then decide (1 ≤ n) && decide (n ≤ 64) && k != 0 && decide (16 + 16 * n * k ≤ c.fld 0x28 4)
      else n == 0 && c.fld 0x18 8 == 0 && decide ((s.members g.1 g.2).length * 2064 ≤ c.fld 0x28 4))
   else if op = 0x20 then decide (1 ≤ c.fld 0x18 2) && decide (c.fld 0x18 2 ≤ 256)
   else if op = 0x23 then c.fld 0x18 4 % 64 == 0 && decide (1088 ≤ c.fld 0x18 4)
   else if op = 0x30 then
    let w := [c.fld 0x14 4]
    slFmt w != 15 && decide (slPlog w ≤ 22) && decide (slBshift w ≤ slPlog w) && decide (ncellOf (c.fld 0x14 4) ≤ 4096)
   else if op = 0x32 then
    let cells := s.slotCells (c.fld 0x10 1)
    decide (c.fld 0x14 2 ≤ 4096) && (cells == 0 || decide (c.fld 0x12 2 + c.fld 0x14 2 ≤ cells)) &&
      decide (64 + 192 * s.striaCount c ≤ c.fld 0x20 4)
   else if op = 0x41 then
    (bitOf (c.fld 0x10 1) 3 || c.fld 0x11 1 == 0) &&
      (!s.cutAtEntry c || decide ((c.fld 0x18 8 : Int) ≤ s.cutAtTime c s.ts + 2 ^ 40))
   else if op = 0x43 then
    let g := c.grp 0x12
    grpOk g && g.1 != 0 && c.fld 0x11 1 != 0 && decide (2097216 ≤ c.fld 0x20 4)
   else if op = 0x50 then bitOf (c.fld 0x12 1) 1 || c.fld 0x14 2 == 0
   else if op = 0x52 then decide (64 + (if bitOf (c.fld 0x10 1) 1 then s.keepCopy.length else 0) ≤ c.fld 0x20 4)
   else if op = 0x60 then
    let step := c.fld 0x10 1
    (step == 1 || c.fld 0x11 1 == 0) && (step == 0 || c.fld 0x12 2 == 0) &&
      !(step == 0 && (s.unitType (c.fld 0x12 2) == 2 || s.unitType (c.fld 0x12 2) == 3))
   else if op = 0x71 then
    (bitOf (c.fld 0x10 1) 0 || c.fld 0x1C 4 == 0) && (bitOf (c.fld 0x10 1) 1 || c.fld 0x20 8 == 0)
   else if op = 0x72 then
    regionOk (c.fld 0x10 8) (c.fld 0x20 8) && regionOk (c.fld 0x18 8) (c.fld 0x20 8) && c.fld 0x10 8 >>> 40 == s.node &&
      c.fld 0x18 8 >>> 40 != s.node
   else if op = 0x73 then decide (1 ≤ c.fld 0x18 4) && decide (c.fld 0x18 4 ≤ 65536) && decide (64 ≤ c.fld 0x28 4)
   else if op = 0x80 then decide (1 ≤ c.fld 0x18 2) && decide (c.fld 0x18 2 ≤ 256)
   else if op = 0x82 then decide (c.fld 0x18 2 ≤ 8192)
   else if op = 0x91 then (decide (3 ≤ c.fld 0x12 1) && decide (c.fld 0x12 1 ≤ 51)) || c.fld 0x12 1 == 0x3F
   else if op = 0xA0 then
    let n := c.fld 0x16 2
    decide (c.fld 0x12 1 ≤ 2) && decide (c.fld 0x14 2 < 512) &&
      (if bitOf (c.fld 0x13 1) 0 then n == 1 && !bitOf (c.fld 0x13 1) 1 && c.fld 0x20 8 == 0
       else decide (1 ≤ n) && decide (n ≤ 256) && decide (c.fld 0x14 2 + n ≤ 512) && c.fld 0x18 4 == 0)
   else true)

/-! ### Checks 2 and 4, and the tenant limits -/

/-- The ring's ownership for a trace command (R221, R410): who may give it. -/
def State.traceMay (s : State) (op owner cls : Nat) : Bool :=
  decide (2 ≤ cls) || s.fg F.TRC_OWNER_ID == owner || ((op == 0x20 || op == 0x21) && s.fg F.TRC_OWNER_ID == 0x3F)

/-- Does everything a command names exist (R398 step 4). -/
def State.exists_ (s : State) (c : Cmd) : Bool :=
  let op := c.opcode
  if op = 0x10 || op = 0x11 || op = 0x12 || op = 0x13 then !s.grpAbsent (c.grp 0x10)
  else if op = 0x31 then s.fb (F.STRIA_CFG_ARMED (c.fld 0x10 1)) || s.slotCells (c.fld 0x10 1) != 0
  else if op = 0x32 then s.slotCells (c.fld 0x10 1) != 0
  else if op = 0x41 then s.cutAtEntry c
  else if op = 0x43 then !s.grpAbsent (c.grp 0x12)
  else if op = 0x50 then !bitOf (c.fld 0x12 1) 1 || s.unitType (c.fld 0x14 2) != 7
  else if op = 0x51 then s.lehr.running
  else if op = 0x52 then !bitOf (c.fld 0x10 1) 1 || !s.keepCopy.isEmpty
  else if op = 0x60 then
    if c.fld 0x10 1 = 0 then s.unitType (c.fld 0x12 2) != 7
    else if c.fld 0x10 1 = 1 then decide (c.fld 0x11 1 < s.slot.npart)
    else true
  else if op = 0x61 then s.fg F.RST_NUM_NUM != 0
  else if op = 0x70 || op = 0x71 then s.fb F.CONT_CTL_LEDGER_EN
  else if op = 0x72 then s.job.peers.contains (c.fld 0x18 8 >>> 40)
  else if op = 0x81 then !s.job.peers.isEmpty
  else if op = 0xA0 then s.populated (c.fld 0x10 2)
  else true

/-- What a tenant may do of the shared services (R179, R195, R196, R246, R409). -/
def State.tenantMay (s : State) (c : Cmd) : Bool :=
  let op := c.opcode
  let g := c.grp 0x10
  let mine (i : Nat) : Bool := (s.members g.1 g.2).all (fun n => (s.ctrCopy n i).owner == c.owner)
  if 2 ≤ c.cls then true
  else if op = 0x10 then
    bitOf (c.fld 0x18 1) 6 && decide (c.fld 0x14 1 < 0x80) && s.boundTo (c.fld 0x19 1) c.owner &&
      (s.members g.1 g.2).all (fun n => (s.ctrCopy n (c.fld 0x12 1)).owner == c.owner || (s.ctrCopy n (c.fld 0x12 1)).owner == 0x3F)
  else if op = 0x12 then c.sources.all (fun v => v >>> 20 == 2 && mine (v % 16))
  else if op = 0x13 then !bitOf (c.fld 0x12 1) 1
  else if op = 0x30 then
    let i := c.fld 0x10 1
    let o := s.fg (F.STRIA_SSTAT_OWNER i)
    s.boundTo (c.fld 0x18 1) c.owner && (o == c.owner || (o == 0x3F && s.slotCells i == 0))
  else if op = 0x31 || op = 0x32 then s.fg (F.STRIA_SSTAT_OWNER (c.fld 0x10 1)) == c.owner
  else true

/-- Is a drain of the ring running, by ring or through Rolsal window 3 (R410). -/
def State.draining (s : State) : Bool :=
  s.rolsal.drain || s.rings.cmds.any (fun c => c.opcode == 0x23 && c.phase != .accepted && c.phase != .completing)

/-- Continuity and job services in use (R429). -/
def State.jobBusy (s : State) (c : Cmd) : Bool :=
  s.gather.cmd.isSome || s.fb F.GATHER_STAT_BUSY || s.notice.running.isSome || !s.notice.queue.isEmpty || s.cont.mv.isSome ||
    s.cont.copy.isSome || !s.cont.digests.isEmpty || s.lehr.running || !s.lehr.asked.isEmpty ||
    (bitOf (c.fld 0x1A 1) 0 && s.fb F.CONT_CTL_LEDGER_EN)

/-- Can the service not take the command now (R398 step 5). -/
def State.serviceBusy (s : State) (c : Cmd) : Bool :=
  let op := c.opcode
  if op = 0x60 && !s.coreReady 0 then true
  else if [0x70, 0x71, 0x72, 0x73, 0x80, 0x81].contains op && !s.coreReady 1 then true
  else if op = 0x21 then bitOf (c.fld 0x10 1) 0 && s.fb F.TRC_STAT_RUN
  else if op = 0x23 then s.draining
  else if op = 0x40 || op = 0x42 || op = 0x43 then !s.treeOn
  else if op = 0x41 then !s.treeOn || !s.fb F.TIME_STAT_RUN || decide (8 ≤ s.shear.cutAts.length)
  else if op = 0x50 then !s.lehrTakes
  else if op = 0x52 then bitOf (c.fld 0x10 1) 1 && s.lehr.running && s.fb F.LEHR_STAT_KEEP_ON
  else if op = 0x70 then s.cont.scan.isSome || s.cont.rcd.isSome
  else if op = 0x71 then s.cont.scan.isSome || s.cont.chk.isSome
  else if op = 0x72 then s.cont.mv.isSome
  else if op = 0x73 then s.cont.copy.isSome
  else if op = 0x80 then s.fb F.GATHER_STAT_BUSY
  else if op = 0x82 then s.jobBusy c
  else false

/-- The status of the first check a command fails at acceptance (R398); none where it passes them all. -/
def State.descCheck (s : State) (c : Cmd) : Option Nat :=
  match opcodeBody c.opcode with
  | none => some 4
  | some (o, fs) =>
    let trc := decide (0x20 ≤ c.opcode) && decide (c.opcode ≤ 0x24)
    if !c.formOk fs then some 4
    else if c.cls = 0 || (o && decide (c.cls < 2)) || (trc && !s.traceMay c.opcode c.owner c.cls) then some 3
    else if !s.fieldsOk c then some 4
    else if !s.exists_ c then some 7
    else if !s.tenantMay c then some 3
    else if s.serviceBusy c then some 5
    else none

/-! ### Acceptance -/

/-- The least number from `lo` to `hi` that satisfies a monotone test, by halving. -/
def leastFrom (p : Nat → Bool) : Nat → Nat → Nat → Nat
  | 0, lo, _ => lo
  | fuel + 1, lo, hi =>
    if hi ≤ lo then lo
    else if p ((lo + hi) / 2) then leastFrom p fuel lo ((lo + hi) / 2) else leastFrom p fuel ((lo + hi) / 2 + 1) hi

/-- The first even spine cycle from the present one whose TS, local or converted, is at least a target (R145, R111, R120). -/
def State.cutAtCycle (s : State) (c : Cmd) : Nat :=
  let x0 := (s.spineCyc + 1) / 2 * 2
  x0 + 2 * leastFrom (fun i => decide ((c.fld 0x18 8 : Int) ≤ s.cutAtTime c (s.tsOfSpine (x0 + 2 * i)))) 48 0 (2 ^ 47)

/-- What acceptance itself settles of a command that passes every check: a CUT_AT's tick X, TIMEOUT and LATE where X − H has passed (R145);
the owner of a counter that COUNTER_CONFIG names (R179); the counters a tenant's COUNTER_READ may see (R195, R196, R436). -/
def settleAccepted (c : Cmd) (s : State) : State :=
  let g := c.grp 0x10
  if c.opcode = 0x41 then
    let x := s.cutAtCycle c
    if x < s.spineCyc + s.shH then completeCmd c.key 6 0 (s.fs F.SHEAR_STAT_LATE 1)
    else modCmd c.key (fun c => { c with point := x }) s
  else if c.opcode = 0x10 then
    let owner := if c.fld 0x14 1 = 0 then 0x3F else c.owner
    (s.members g.1 g.2).foldl (fun s n => ownCounter n (c.fld 0x12 1 % 16) owner s) s
  else if c.opcode = 0x11 then
    let mine (i : Nat) : Bool := decide (2 ≤ c.cls) || (s.members g.1 g.2).all (fun n => (s.ctrCopy n i).owner == c.owner)
    modCmd c.key (fun c => { c with point := (List.range 16).foldl (fun m i => m + 2 ^ i * b2n (mine i)) 0 }) s
  else s

/-- What a refusal leaves behind beside its COMPLETION: CTR_STAT.DENIED (R200), LEHR_STAT.REFUSED (R293). -/
def markRefusal (op st : Nat) (s : State) : State :=
  if st = 3 && (op == 0x10 || op == 0x12 || op == 0x13) then s.fs F.CTR_STAT_DENIED 1
  else if st = 5 && op == 0x50 then s.fs F.LEHR_STAT_REFUSED 1
  else s

/-- Accept one descriptor read for a ring at its head (R383): the head moves past it, the command takes its ring's OWNER and class
(R399) and the contexts bound to that owner (R197, in `point` but for CUT_AT and COUNTER_READ, where it holds X and the counters seen); one that fails a check completes at once with RESULT 0. -/
def acceptDesc (k : CmdKey) (bytes : List Nat) (s : State) : State :=
  let r := k.ring
  let owner := s.fg (F.SQ_CFG_OWNER r)
  let c : Cmd := { key := k, desc := bytes.take 64, owner := owner, cls := s.classOf owner, startTs := s.ts,
                   point := ((s.dl.ctxOwner.filter (fun e => e.2 == owner)).map (fun e => 2 ^ e.1)).sum }
  let s := s.fs (F.SQ_HEAD_INDEX r) ((k.idx + 1) % s.sqSize r)
  let s := modRings (fun t => { t with cmds := t.cmds ++ [c], fetched := removeFirst (fun d => d.1 == k) t.fetched,
                                       ahead := mmod t.ahead r 0 (· - 1) }) s
  let s := s.fs (F.SQ_STAT_OUTST r) ((s.rings.cmds.filter (fun c => c.key.ring == r)).length)
  match s.descCheck c with
  | some st => completeCmd k st 0 (markRefusal c.opcode st s)
  | none => settleAccepted c s

/-- The next descriptor that stands at the head of a running ring is accepted. -/
def execDescriptorAccept (s : State) : Outcome State Fault Refusal := s.awake fun s =>
  match s.rings.fetched.find? (fun d => s.fg (F.SQ_STAT_STATE d.1.ring) == stRunning && s.fg (F.SQ_HEAD_INDEX d.1.ring) == d.1.idx) with
  | some (k, bytes) => ok (acceptDesc k bytes s)
  | none => ok s

end Sys2Proof.Machine
end

