-- ==== Sys2Proof/Machine/Commands.lean ====
section
/-! DEFINITION. The work of each command from its start (R384, R404 to R435): one row per opcode. A row names its command by ring and
descriptor index; the tables a command reads arrive by HOST_READ_RETURN, and its result's acknowledgements come to HostIo. -/

namespace Sys2Proof.Machine

open Host (Outcome)

/-! ### Starting (R384) -/

/-- The commands accepted before one on its ring. -/
def State.earlier (s : State) (k : CmdKey) : List Cmd :=
  (s.rings.cmds.takeWhile (fun c => c.key != k)).filter (fun c => c.key.ring == k.ring)

/-- The COMPLETION of a command has been formed and its entry written. -/
def State.written (s : State) (c : Cmd) : Bool :=
  c.phase == .completing && !(s.dueOf (s.fg (F.SQ_CFG_EQ c.key.ring))).any (fun e => e.cmd == some c.key)

/-- A command may start: those accepted before it on its ring have started, and no FENCE before it is unwritten. -/
def State.mayStart (s : State) (k : CmdKey) : Bool :=
  (s.earlier k).all (fun c => c.phase != .accepted && (c.opcode != 0x02 || s.written c))

/-- Start an accepted command of an opcode. -/
def startCmd (k : CmdKey) (op : Nat) (body : Cmd → State → State) (s : State) : State :=
  match s.cmd? k with
  | none => s
  | some c =>
    if c.phase == .accepted && c.opcode == op && s.mayStart k then body c (modCmd k (fun c => { c with phase := .running 0 }) s)
    else s

def execNop (ring idx : Nat) (s : State) : Outcome State Fault Refusal := s.act fun s =>
  ok (startCmd ⟨ring, idx⟩ 0x01 (fun c s => completeCmd c.key 0 0 s) s)

/-- FENCE ends once every earlier command of its ring is completed and its entry acknowledged (R384). -/
def execFence (ring idx : Nat) (s : State) : Outcome State Fault Refusal := s.act fun s =>
  ok (if (s.earlier ⟨ring, idx⟩).isEmpty then startCmd ⟨ring, idx⟩ 0x02 (fun c s => completeCmd c.key 0 0 s) s else s)

/-! ### Counters (R405 to R409) -/

/-- Members of a group on DEGRADED or isolated ribs. -/
def State.cutOff (s : State) (g : Nat × Nat) : Nat :=
  ((s.members g.1 g.2).filter (fun n => s.ribDegraded (n / 64) || s.ribAbsent (n / 64))).length

def counterConfig (c : Cmd) (s : State) : State :=
  let g := c.grp 0x10
  let res := (s.members g.1 g.2).length + 2 ^ 16 * s.cutOff g
  let (f, s) := configureCounter g.1 g.2 (c.fld 0x12 1) (c.fld 0x14 4) (c.fld 0x18 2) c.owner (some c.key.ring) s
  if s.spine.running then
    modCtr (fun t => { t with applies := t.applies ++ [(f, c.key)] }) (modCmd c.key (fun c => { c with result := res }) s)
  else completeCmd c.key 0 res s

def execCounterConfig (ring idx : Nat) (s : State) : Outcome State Fault Refusal := s.act fun s =>
  ok (startCmd ⟨ring, idx⟩ 0x10 counterConfig s)

def counterRead (c : Cmd) (s : State) : State :=
  let g := c.grp 0x10
  settleReads (beginCtrRead (some c.key) g.1 g.2 false (c.fld 0x14 1 % 8 + 2 ^ 16 * c.fld 0x12 2) c.owner c.cls c.point s)

def execCounterRead (ring idx : Nat) (s : State) : Outcome State Fault Refusal := s.act fun s =>
  ok (startCmd ⟨ring, idx⟩ 0x11 counterRead s)

/-- A reduction for a command: with frames not running every value is a MISS at once (R587). -/
def reduceFor (c : Cmd) (g : Nat × Nat) (vs : List RedValue) (s : State) : State :=
  if s.spine.running then requestReduction g.1 g.2 vs (.command c.key) s
  else
    let (v, s) := sampleTsOf 0 s
    endReduceCmd c.key v vs (missAll vs) s

def counterReduce (c : Cmd) (s : State) : State :=
  reduceFor c (c.grp 0x10) (c.sources.map (fun v => { w := if v = 0x000600 then 1 else 2, op := 0, source := v })) s

def execCounterReduce (ring idx : Nat) (s : State) : Outcome State Fault Refusal := s.act fun s =>
  ok (startCmd ⟨ring, idx⟩ 0x12 counterReduce s)

/-- The key list of an ENERGY_READ is in (R409): KEYS body words with reserved bits, or of a reserved SPECIAL, are BAD_DESC; a
tenant's key outside the contexts bound to it at acceptance (R197) is DENIED. The members get KEYS, then the reduction. -/
def energyReduce (c : Cmd) (s : State) : State :=
  let g := c.grp 0x10
  let n := c.fld 0x13 1
  let ws := wordsOf (c.buf.take (8 * n))
  let w0 (i : Nat) : Nat := ws.getD (2 * i) 0
  let fl := bitsOf (c.fld 0x12 1) 2 4
  if (List.range n).any (fun i => 2 < w0 i / 256) then completeCmd c.key 4 0 s
  else if c.cls ≤ 1 && (List.range n).any (fun i => w0 i / 256 != 0 || !bitOf c.point (w0 i)) then
    completeCmd c.key 3 0 (s.fs F.CTR_STAT_DENIED 1)
  else
    let vs := (List.range n).flatMap (fun i => ((List.range 4).filter (fun f => bitOf fl f)).map (fun f =>
      ({ w := if f = 3 then 1 else 2, op := 0, source := 0x300000 + 2 ^ 8 * f + i } : RedValue)))
    reduceFor c g vs (sendDown g.1 g.2 5 2 ws s)

/-- ENERGY_READ: its key list first with REDUCE, the tables without. -/
def energyRead (c : Cmd) (s : State) : State :=
  let g := c.grp 0x10
  if bitOf (c.fld 0x12 1) 0 then fetchTable c.key (c.fld 0x18 8) (8 * c.fld 0x13 1) s
  else
    let s := beginCtrRead (some c.key) g.1 g.2 true (bitsOf (c.fld 0x12 1) 1 1) c.owner c.cls 0xFFFF s
    settleReads (modRead s.ctr.rtag (fun r => { r with ctxs := bitsSet 256 c.point }) s)

def execEnergyRead (ring idx : Nat) (s : State) : Outcome State Fault Refusal := s.act fun s =>
  ok (startCmd ⟨ring, idx⟩ 0x13 energyRead s)

/-! ### Trace (R410) -/

/-- RESULT of TRACE_ARM and TRACE_STOP. -/
def State.trcResult (s : State) : Nat := s.trace.actId + 2 ^ 8 * s.fg F.TRC_STAT_RUN

/-- A register a TRACE_CONFIG pair may name: RW and W1S registers of R224 but SEQ_CTL. -/
def trcPairOk (off : Nat) : Bool :=
  let o := off - R.TRC_CTL
  decide (R.TRC_CTL ≤ off) && off % 4 == 0 &&
    (o == 0 || o == 0xC || o == 0x18 || o == 0x34 || o == 0x4C || o == 0x300 || (decide (0x60 ≤ o) && decide (o < 0xA0)) ||
      (decide (0x100 ≤ o) && decide (o < 0x200)) || (decide (0x340 ≤ o) && decide (o < 0x380)))

/-- A register whose write sends TRACE_CMD messages (R222). -/
def trcPairSends (off : Nat) : Bool :=
  let o := off - R.TRC_CTL
  o == 0 || o == 0x34 || (decide (0x80 ≤ o) && decide (o < 0xA0)) || (decide (0x100 ≤ o) && decide (o < 0x200)) ||
    (decide (0x340 ≤ o) && decide (o < 0x380))

/-- Wait for a frame's first cycle, or end at once where frames do not run. -/
def traceWait (k : CmdKey) (f res : Nat) (s : State) : State :=
  if s.spine.running then
    modTrc (fun t => { t with waits := t.waits ++ [(k, f)] }) (modCmd k (fun c => { c with result := res }) s)
  else completeCmd k 0 res s

/-- The pairs are in: all are checked, then all are applied in order as register writes of the ring's OWNER. -/
def traceConfig (c : Cmd) (s : State) : State :=
  let n := c.fld 0x18 2
  let pairs := (List.range n).map (fun i => (leAt c.buf (8 * i) 4, leAt c.buf (8 * i + 4) 4))
  if !pairs.all (fun p => trcPairOk p.1) then completeCmd c.key 4 0 s
  else if !s.traceMay 0x20 c.owner c.cls then completeCmd c.key 3 0 s
  else
    let s := takeRing c.owner c.cls s
    let s := pairs.foldl (fun s p => trcRegWrite c.owner p.1 p.2 (decide (c.cls ≤ 1)) s) s
    if pairs.any (fun p => trcPairSends p.1) then traceWait c.key (s.applyFrame 3 0 1) n s else completeCmd c.key 0 n s

def execTraceConfig (ring idx : Nat) (s : State) : Outcome State Fault Refusal := s.act fun s =>
  ok (startCmd ⟨ring, idx⟩ 0x20 (fun c s => fetchTable c.key (c.fld 0x10 8) (8 * c.fld 0x18 2) s) s)

/-- A change of the capture state is waited for until its apply cycle: first sent in the next frame, applied two frames later
(R218). -/
def captureWait (k : CmdKey) (was : Bool) (s : State) : State :=
  if s.trace.capture != was && s.fb F.TRC_CTL_ENABLE then traceWait k (s.frameNow + 3) s.trcResult s
  else completeCmd k 0 s.trcResult s

/-- TRACE_ARM: CLEAR first; re-arming a FROZEN ring keeps its contents and resumes the writer (R213, R205). -/
def traceArm (c : Cmd) (s : State) : State :=
  if !s.traceMay 0x21 c.owner c.cls then completeCmd c.key 3 0 s
  else if bitOf (c.fld 0x10 1) 0 && s.fb F.TRC_STAT_RUN then completeCmd c.key 5 0 s
  else
    let s := takeRing c.owner c.cls s
    let s := if bitOf (c.fld 0x10 1) 0 then clearRing s else s
    let s := if s.fb F.TRC_STAT_FROZEN then
        centralSync srcStim 7 (centralSync srcWriter 7 ((s.fs F.TRC_STAT_FROZEN 0).fs F.TRC_STAT_TRIGGERED 0))
      else s
    captureWait c.key s.trace.capture (armSeq s)

def execTraceArm (ring idx : Nat) (s : State) : Outcome State Fault Refusal := s.act fun s =>
  ok (startCmd ⟨ring, idx⟩ 0x21 traceArm s)

def traceStop (c : Cmd) (s : State) : State :=
  if !s.traceMay 0x22 c.owner c.cls then completeCmd c.key 3 0 s
  else
    let s := takeRing c.owner c.cls s
    let was := s.trace.capture
    let s := disarmSeq s
    let s := if bitOf (c.fld 0x10 1) 0 then s.fs F.TRC_OWNER_ID 0x3F else s
    captureWait c.key was s

def execTraceStop (ring idx : Nat) (s : State) : Outcome State Fault Refusal := s.act fun s =>
  ok (startCmd ⟨ring, idx⟩ 0x22 traceStop s)

/-- The number of the block at TRC_RD among all blocks written (modulo 2^16). -/
def State.drainOrd (s : State) : Nat := (s.trace.bseq + 2 ^ 16 - s.trace.blocks.length % 2 ^ 16 + s.trace.drained) % 2 ^ 16

/-- The next block of a drain is written, or the drain ends: at TRC_WR or its byte limit (R214). -/
def drainNext (k : CmdKey) (s : State) : State :=
  match s.cmd? k with
  | none => s
  | some c =>
    match s.trace.blocks.drop s.trace.drained with
    | [] => completeCmd k 0 c.result s
    | b :: _ =>
      let n := 64 * b.lines
      if c.fld 0x18 4 < c.result + n then completeCmd k 0 c.result s
      else if c.suppressed then completeCmd k 0 c.result s
      else
        let s := modCmd k (fun c => { c with phase := .writing, point := s.drainOrd, table := [n] }) s
        hostWriteBytes c.owner (c.fld 0x10 8 + c.result) (ringGet s.trcCap b.pos n s.trace.ring) (.result k) s

/-- A drained block has been acknowledged: TRC_RD moves past it, unless WRAP or a write has moved TRC_RD meanwhile (R410). -/
def drainAcked (k : CmdKey) (s : State) : State :=
  match s.cmd? k with
  | none => s
  | some c =>
    if s.drainOrd = c.point && s.trace.drained < s.trace.blocks.length then
      let s := freeDrained (showTrcPtrs (modTrc (fun t => { t with drained := t.drained + 1 }) s))
      drainNext k (modCmd k (fun c => { c with phase := .running 0, result := c.result + c.table.headD 0 }) s)
    else completeCmd k 1 c.result s

def traceDrain (c : Cmd) (s : State) : State :=
  if !s.traceMay 0x23 c.owner c.cls then completeCmd c.key 3 0 s
  else if s.rolsal.drain || s.rings.cmds.any (fun d => d.key != c.key && d.opcode == 0x23 && d.phase != .accepted && d.phase != .completing) then
    completeCmd c.key 5 0 s
  else drainNext c.key (takeRing c.owner c.cls s)

def execTraceDrain (ring idx : Nat) (s : State) : Outcome State Fault Refusal := s.act fun s =>
  ok (startCmd ⟨ring, idx⟩ 0x23 traceDrain s)

def traceMark (c : Cmd) (s : State) : State :=
  if !s.traceMay 0x24 c.owner c.cls then completeCmd c.key 3 0 s
  else
    let s := takeRing c.owner c.cls s
    if s.fb F.TRC_CTL_STIM_EN && s.fb F.TRC_STAT_RUN then completeCmd c.key 0 0 (stimPacket 32 c.key.ring (c.fld 0x10 4) s)
    else completeCmd c.key 2 0 s

def execTraceMark (ring idx : Nat) (s : State) : Outcome State Fault Refusal := s.act fun s =>
  ok (startCmd ⟨ring, idx⟩ 0x24 traceMark s)

/-! ### Stria (R411 to R414) -/

def execStriaArm (ring idx : Nat) (s : State) : Outcome State Fault Refusal := s.act fun s =>
  ok (startCmd ⟨ring, idx⟩ 0x30 (fun c s => changeSlot c.key s) s)

/-- STRIA_DISARM: what was there at acceptance may be gone behind a FENCE. -/
def execStriaDisarm (ring idx : Nat) (s : State) : Outcome State Fault Refusal := s.act fun s =>
  ok (startCmd ⟨ring, idx⟩ 0x31 (fun c s => if s.exists_ c then changeSlot c.key s else completeCmd c.key 7 0 s) s)

def striaReadCmd (c : Cmd) (s : State) : State :=
  if !s.exists_ c then completeCmd c.key 7 0 s
  else if !s.fieldsOk c then completeCmd c.key 4 0 s
  else askRead (c.fld 0x10 1) (c.fld 0x12 2) (s.striaCount c) (bitOf (c.fld 0x11 1) 0) (some c.key) s

def execStriaRead (ring idx : Nat) (s : State) : Outcome State Fault Refusal := s.act fun s =>
  ok (startCmd ⟨ring, idx⟩ 0x32 striaReadCmd s)

/-! ### Cuts (R415 to R418) -/

def cutCmd (c : Cmd) (s : State) : State :=
  if !s.treeOn then completeCmd c.key 5 0 s
  else centralTrigger s.spineCyc (c.fld 0x10 1 % 4) 1 (.command c.key (bitOf (c.fld 0x10 1) 2) 0x3F false) s

def execCut (ring idx : Nat) (s : State) : Outcome State Fault Refusal := s.act fun s =>
  ok (startCmd ⟨ring, idx⟩ 0x40 cutCmd s)

/-- CUT_AT (R145): its tick X was found at acceptance, whatever its offset entry has become; late where X − H has passed since, behind a FENCE
(log entry 113). -/
def cutAtCmd (c : Cmd) (s : State) : State :=
  if !s.treeOn || 8 ≤ s.shear.cutAts.length then completeCmd c.key 5 0 s
  else
    let x := c.point
    if x < s.spineCyc + s.shH then completeCmd c.key 6 0 (s.fs F.SHEAR_STAT_LATE 1)
    else
      let cut : CutAt := { cmd := c.key, x := x, cls := c.fld 0x10 1 % 4, read := bitOf (c.fld 0x10 1) 2 }
      modShear (fun h => { h with cutAts := h.cutAts ++ [cut] }) s

def execCutAt (ring idx : Nat) (s : State) : Outcome State Fault Refusal := s.act fun s =>
  ok (startCmd ⟨ring, idx⟩ 0x41 cutAtCmd s)

def execResume (ring idx : Nat) (s : State) : Outcome State Fault Refusal := s.act fun s =>
  ok (startCmd ⟨ring, idx⟩ 0x42 (fun c s => if s.treeOn then registerResume (some c.key) s else completeCmd c.key 5 0 s) s)

def snapshotCmd (c : Cmd) (s : State) : State :=
  if !s.treeOn then completeCmd c.key 5 0 s
  else centralTrigger s.spineCyc (c.fld 0x10 1 % 4) 1 (.command c.key true (c.fld 0x11 1) true) s

def execSnapshot (ring idx : Nat) (s : State) : Outcome State Fault Refusal := s.act fun s =>
  ok (startCmd ⟨ring, idx⟩ 0x43 snapshotCmd s)

/-! ### Dumps (R419 to R421) -/

def dumpCmd (c : Cmd) (s : State) : State :=
  let fl := c.fld 0x12 1
  let q : DumpReq := { scope := c.fld 0x10 2, noScratch := bitOf fl 0, unit := if bitOf fl 1 then some (c.fld 0x14 2) else none,
                       src := .command c.key }
  match askDump q s with
  | (true, s) => s
  | (false, s) => completeCmd c.key 5 0 s

def execDump (ring idx : Nat) (s : State) : Outcome State Fault Refusal := s.act fun s =>
  ok (startCmd ⟨ring, idx⟩ 0x50 dumpCmd s)

def dumpAbortCmd (c : Cmd) (s : State) : State :=
  if s.lehr.running then completeCmd c.key 0 (s.fg F.LEHR_NUM_NUM) (abortDump s) else completeCmd c.key 7 0 s

def execDumpAbort (ring idx : Nat) (s : State) : Outcome State Fault Refusal := s.act fun s =>
  ok (startCmd ⟨ring, idx⟩ 0x51 dumpAbortCmd s)

/-- The 64-byte status record of R421. -/
def dumpRecord (s : State) : List Nat :=
  toLe 4 (s.rdN R.LEHR_STAT) ++ toLe 4 (s.rdN R.LEHR_LAST_STATUS) ++ toLe 4 (s.rdN R.LEHR_NUM) ++ toLe 4 0 ++
    bytesOfWords (s.rdWords R.LEHR_LAST_START_LO 6) ++ bytesOfWords ((List.range 4).map (fun d => s.rdN (R.LEHR_DEST_CFG d))) ++
    toLe 4 s.keepCopy.length ++ toLe 4 0

/-- RELEASE and RELEASE_KEEP take effect after the copy (R312, R311). -/
def dumpReleases (c : Cmd) (s : State) : State :=
  let fl := c.fld 0x10 1
  let s := if bitOf fl 0 then s.fs (F.LEHR_DEST_CFG_HELD (c.fld 0x11 1 % 4)) 0 else s
  if bitOf fl 2 then releaseKeep s else s

def dumpStatusCmd (c : Cmd) (s : State) : State :=
  let copy := bitOf (c.fld 0x10 1) 1
  if copy && s.keepCopy.isEmpty then completeCmd c.key 7 0 s
  else if s.serviceBusy c then completeCmd c.key 5 0 s
  else
    let bytes := dumpRecord s ++ (if copy then s.keepCopy else [])
    let s := if c.suppressed then dumpReleases c s else s
    finishWithBytes c.key (c.fld 0x18 8) bytes 0 bytes.length s

def execDumpStatus (ring idx : Nat) (s : State) : Outcome State Fault Refusal := s.act fun s =>
  ok (startCmd ⟨ring, idx⟩ 0x52 dumpStatusCmd s)

/-! ### Reset and reheat (R422 to R425) -/

def resetRequestCmd (c : Cmd) (s : State) : State :=
  match requestReset ⟨c.fld 0x10 1, c.fld 0x12 2, c.fld 0x11 1, .command c.key⟩ s with
  | (.refused, s) => completeCmd c.key 5 0 s
  | (_, s) => s

def execResetRequest (ring idx : Nat) (s : State) : Outcome State Fault Refusal := s.act fun s =>
  ok (startCmd ⟨ring, idx⟩ 0x60 resetRequestCmd s)

def reheatStatusCmd (c : Cmd) (s : State) : State :=
  if !s.exists_ c then completeCmd c.key 7 0 s
  else
    let bytes := toLe 4 (s.rdN R.RST_STAT) ++ toLe 4 (s.rdN R.RHT_STAT) ++ toLe 4 (s.rdN R.RST_NUM) ++ toLe 4 0 ++
      (List.range 8).flatMap (fun m => toLe 8 (s.rd64 (R.RHT_TS_LO m) (R.RHT_TS_HI m))) ++
      (List.range 4).flatMap (fun b => toLe 4 (s.rdN (R.RHT_BUD b))) ++ toLe 32 0
    finishWithBytes c.key (c.fld 0x10 8) bytes 0 (s.rdN R.RHT_STAT) s

def execReheatStatus (ring idx : Nat) (s : State) : Outcome State Fault Refusal := s.act fun s =>
  ok (startCmd ⟨ring, idx⟩ 0x61 reheatStatusCmd s)

/-! ### Continuity (R426) -/

/-- Begin a continuity command whose service takes it now. -/
def contCmd (begin_ : CmdKey → State → State) (c : Cmd) (s : State) : State :=
  if !s.exists_ c then completeCmd c.key 7 0 s
  else if s.serviceBusy c then completeCmd c.key 5 0 s
  else begin_ c.key s

def execLedgerRecord (ring idx : Nat) (s : State) : Outcome State Fault Refusal := s.act fun s =>
  ok (startCmd ⟨ring, idx⟩ 0x70 (contCmd beginRecord) s)

def execLedgerCheck (ring idx : Nat) (s : State) : Outcome State Fault Refusal := s.act fun s =>
  ok (startCmd ⟨ring, idx⟩ 0x71 (contCmd beginCheck) s)

def execMirrorVerify (ring idx : Nat) (s : State) : Outcome State Fault Refusal := s.act fun s =>
  ok (startCmd ⟨ring, idx⟩ 0x72 (contCmd beginVerify) s)

def execCopy (ring idx : Nat) (s : State) : Outcome State Fault Refusal := s.act fun s =>
  ok (startCmd ⟨ring, idx⟩ 0x73 (contCmd beginCopy) s)

/-! ### Fabric and job (R427 to R430) -/

/-- GATHER: its budget runs from its start (R118); the list is read first. -/
def gatherCmd (c : Cmd) (s : State) : State :=
  if s.fb F.GATHER_STAT_BUSY then completeCmd c.key 5 0 s
  else
    let budget := s.scaled .service (1000 * s.fg F.GATHER_BUDGET_BUDGET)
    let s := modGather (fun g => { g with cmd := some c.key, began := s.ts, budget := budget, peers := [], round := none,
                                          between := false }) (s.fs F.GATHER_STAT_BUSY 1)
    fetchTable c.key (c.fld 0x10 8) (4 * c.fld 0x18 2) s

def execGather (ring idx : Nat) (s : State) : Outcome State Fault Refusal := s.act fun s =>
  ok (startCmd ⟨ring, idx⟩ 0x80 gatherCmd s)

/-- A GATHER gives way: its list cannot be used. -/
def dropGather (s : State) : State :=
  modGather (fun g => { g with cmd := none, round := none, between := false, peers := [] }) (s.fs F.GATHER_STAT_BUSY 0)

def noRepeats : List Nat → Bool
  | [] => true
  | x :: xs => !xs.contains x && noRepeats xs

/-- Insert a peer in order of its offset-table entry. -/
def insertEnt (p : Nat × Nat) : List (Nat × Nat) → List (Nat × Nat)
  | [] => [p]
  | q :: qs => if p.2 < q.2 then p :: q :: qs else q :: insertEnt p qs

/-- The list of a GATHER is in (R427): checked whole, NODE written into each named entry, then the first round (R115). -/
def gatherList (c : Cmd) (s : State) : State :=
  let ws := wordsOf (c.buf.take (4 * c.fld 0x18 2))
  let peers := ws.map (fun w => (w % 2 ^ 24, w >>> 24))
  let good := noRepeats (peers.map (·.1)) && noRepeats (peers.map (·.2)) &&
    peers.all (fun p => p.1 != s.node && s.job.peers.contains p.1)
  if !good then completeCmd c.key 4 0 (dropGather s)
  else
    let s := peers.foldl (fun s p => s.wrN (R.OFFSET_ENT p.2 0) (s.offEnt p.2 0 / 2 ^ 24 * 2 ^ 24 + p.1)) s
    beginRound 1 (peers.foldl (fun l p => insertEnt p l) []) s

def noticeSendCmd (c : Cmd) (s : State) : State :=
  if s.job.peers.isEmpty then completeCmd c.key 7 0 s
  else
    match formFanOut 3 (fun n => noticeBytes s 3 n (s.stepByte none) 0 0 0 0 0 0 0 0xFFFFFFFF (c.fld 0x10 16)) s.ts (some c.key) s with
    | (true, s) => s
    | (false, s) => completeCmd c.key 5 0 s

def execNoticeSend (ring idx : Nat) (s : State) : Outcome State Fault Refusal := s.act fun s =>
  ok (startCmd ⟨ring, idx⟩ 0x81 noticeSendCmd s)

/-- The job table is in (R429): checked, then table, JOB_ID and node are replaced together. -/
def jobTable (c : Cmd) (s : State) : State :=
  let ws := wordsOf (c.buf.take (4 * c.fld 0x18 2))
  let node := if bitOf (c.fld 0x1A 1) 0 then c.fld 0x1C 3 else s.node
  if !(ws.all (fun w => decide (w < 2 ^ 24) && w != node && w != s.node) && noRepeats ws) then completeCmd c.key 4 0 s
  else if s.jobBusy c then completeCmd c.key 5 0 s
  else
    let moved := node != s.node
    let s := dropUntabled ({ s with job := { peers := ws, jobId := c.fld 0x20 8 } }.fs F.HUB_NODE_NODE node)
    let s := if bitOf (c.fld 0x1A 1) 0 then s.fs F.HUB_NODE_VALID 1 else s
    let s := if moved then (List.range 4).foldl (fun s d => checkDest d s) s else s
    completeCmd c.key 0 ws.length s

def jobTableCmd (c : Cmd) (s : State) : State :=
  if s.jobBusy c then completeCmd c.key 5 0 s
  else if c.fld 0x18 2 = 0 then jobTable c s
  else fetchTable c.key (c.fld 0x10 8) (4 * c.fld 0x18 2) s

def execJobTableLoad (ring idx : Nat) (s : State) : Outcome State Fault Refusal := s.act fun s =>
  ok (startCmd ⟨ring, idx⟩ 0x82 jobTableCmd s)

/-! ### Budgets and contexts (R431 to R434) -/

/-- The 16 budgets are in (R431). -/
def budgetTable (c : Cmd) (s : State) : State :=
  let bs := (List.range 16).map (fun b => leAt c.buf (8 * b) 8)
  if bs.any (fun b => 2 ^ 36 ≤ b) then completeCmd c.key 4 0 s else loadRow c.key (c.fld 0x10 1) bs s

def execBudgetTableLoad (ring idx : Nat) (s : State) : Outcome State Fault Refusal := s.act fun s =>
  ok (startCmd ⟨ring, idx⟩ 0x90 (fun c s => fetchTable c.key (c.fld 0x18 8) 128 s) s)

def execContextBind (ring idx : Nat) (s : State) : Outcome State Fault Refusal := s.act fun s =>
  ok (startCmd ⟨ring, idx⟩ 0x91 (fun c s => askBind c.key s) s)

/-! ### Station access (R435) -/

/-- One word of a STATION_ACCESS read is answered; the last ends the command. A word not answered OK reads 0. -/
def accessWord (k : CmdKey) (i : Nat) (v : Option Nat) (s : State) : State :=
  match s.cmd? k with
  | none => s
  | some c =>
    let d : Cmd := { c with buf := setAt 0 c.buf i (v.getD 0), point := c.point - 1, result := c.result + b2n v.isSome,
                            status := if v.isSome then c.status else 1 }
    let s := modCmd k (fun _ => d) s
    if d.point = 0 then finishWithBytes k (c.fld 0x20 8) (bytesOfWords d.buf) d.status d.result s else s

/-- A write by one REG_WR, as the page's chapter has it for a master: what it ignores changes nothing. -/
def accessWrite (c : Cmd) (n page off v : Nat) (s : State) : State :=
  if page = 0 && 0x120 ≤ off && off < 0x140 then pcCfgWord c.owner n ((off - 0x120) / 2) (off % 2 == 1) v s
  else if s.unreachable n then s.fs F.CANE_STAT_SW_ERR 1
  else if page = 0 || (page = 1 && dlPageWritable (4 * off)) then
    issueAccess { tag := 0, stn := n, page := page, off := off, n := 1, peek := false, use := .posted, data := some [v] } s
  else s

/-- STATION_ACCESS: one REG_RD or REG_WR for each word. A station that cannot be reached is settled at once, PARTIAL (R587). -/
def stationAccess (c : Cmd) (s : State) : State :=
  let n := c.fld 0x10 2
  let page := c.fld 0x12 1
  let off := c.fld 0x14 2
  let words := c.fld 0x16 2
  if !s.populated n then completeCmd c.key 7 0 s
  else if bitOf (c.fld 0x13 1) 0 then
    let far := s.unreachable n
    completeCmd c.key (b2n far) (b2n (!far)) (accessWrite c n page off (c.fld 0x18 4) s)
  else
    let s := modCmd c.key (fun c => { c with buf := List.replicate words 0, point := words }) s
    if s.unreachable n then
      (List.range words).foldl (fun s i => accessWord c.key i none s) (s.fs F.CANE_STAT_SW_ERR 1)
    else
      (List.range words).foldl (fun s i => issueAccess
        { tag := 0, stn := n, page := page, off := off + i, n := 1, peek := bitOf (c.fld 0x13 1) 1, use := .cmdWord c.key i } s) s

def execStationAccess (ring idx : Nat) (s : State) : Outcome State Fault Refusal := s.act fun s =>
  ok (startCmd ⟨ring, idx⟩ 0xA0 stationAccess s)

end Sys2Proof.Machine
end

