-- ==== Sys2Proof/Machine/HostIo.lean ====
section
/-! DEFINITION. Answers of the host memory master (R402, R510, R511): read data and acknowledgements move on what each request was
for; errors, and answers that do not come within RING_TMO (R391), end it. -/

namespace Sys2Proof.Machine

open Host (Outcome)

/-- The time a host request has to be answered in, in ns of TS: RING_TMO (R391, R402), for a HOST dump write Lehr's (R310). -/
def State.hostTmo (s : State) (u : HostUse) : Nat :=
  match u with
  | .dump _ => s.wrTmo 0
  | _ => 1000 * s.fg F.RING_TMO_TMO

def State.hostLate (s : State) (q : HostReq) : Bool := s.past (q.issued + s.hostTmo q.use)

/-- The oldest outstanding request that is late, taken out. -/
def State.lateHost (s : State) (l : List HostReq) : Option (HostReq × List HostReq) :=
  match (l.take hostMax).find? s.hostLate with
  | some q => takeHost q.tag s.ts l
  | none => none

/-! ### Tables (R402) -/

/-- A command's table is in: what its opcode does with it. -/
def tableRead (k : CmdKey) (s : State) : State :=
  match s.cmd? k with
  | none => s
  | some c =>
    let op := c.opcode
    if op = 0x13 then energyReduce c s
    else if op = 0x20 then traceConfig c s
    else if op = 0x73 then copyPlan k s
    else if op = 0x80 then gatherList c s
    else if op = 0x82 then jobTable c s
    else budgetTable c s

/-- A table read has failed: the command ends with TIMEOUT and its service gives way. -/
def tableFailed (k : CmdKey) (s : State) : State :=
  match s.cmd? k with
  | none => s
  | some c =>
    let s := if c.opcode = 0x80 then dropGather s
      else if c.opcode = 0x73 then showCont (modCont (fun t => { t with copy := none }) s)
      else s
    completeCmd k 0x06 0 s

/-- Opcodes that read a table (R402). -/
def readsTable (op : Nat) : Bool := [0x13, 0x20, 0x73, 0x80, 0x82, 0x90].contains op

/-- A command of a reset function whose table the hub reads no further ends now, and its service gives way (R393). -/
def settleTables (s : State) : State :=
  (s.rings.cmds.filter (fun c => c.suppressed && c.phase == .running 0 && readsTable c.opcode && decide (c.buf.length < c.table.getD 1 0) &&
    !s.bus.hostRd.any (fun q => q.use == .table c.key))).foldl (fun s c => tableFailed c.key s) s

/-- A host read is over: with its data, or with none where it failed. A table of a command that has ended meanwhile is dropped. -/
def readOver (q : HostReq) (data : Option (List Nat)) (s : State) : State :=
  match q.use with
  | .fetch r idx _ =>
    (match data with | some d => descriptorArrives r idx d s | none => fetchFailed r idx s)
  | .table k =>
    (match s.cmd? k with
    | some c =>
      if c.phase != .running 0 then s
      else match data with
        | none => tableFailed k s
        | some d =>
          let s := modCmd k (fun c => { c with buf := c.buf ++ d }) s
          if c.suppressed then tableFailed k s
          else if c.buf.length + d.length < c.table.getD 1 0 then fetchMore k s else tableRead k s
    | none => s)
  | _ => s

/-- The data of a read, as long as it asked for. -/
def HostReq.fit (q : HostReq) (data : List Nat) : List Nat := ((data ++ List.replicate q.len 0).take q.len).map (· % 256)

/-- Read data arrives; an ERR beat fails the request (R510). -/
def execHostReadReturn (tag : Nat) (data : List Nat) (err : Bool) (s : State) : Outcome State Fault Refusal := s.act fun s =>
  match takeHost tag s.ts s.bus.hostRd with
  | some (q, rest) =>
    ok (readOver q (if err || s.hostLate q then none else some (q.fit data)) (modBus (fun b => { b with hostRd := rest }) s))
  | none => ok s

def execHostReadTimeout (s : State) : Outcome State Fault Refusal := s.act fun s =>
  match s.lateHost s.bus.hostRd with
  | some (q, rest) => ok (readOver q none (modBus (fun b => { b with hostRd := rest }) s))
  | none => ok s

/-! ### Results (R388, R402) -/

/-- The last result write of a command is answered: the command ends as its chapter has it. A failed write makes it TIMEOUT, with
RESULT 0 unless RESULT is a tick or the bytes a drain has delivered. -/
def resultWritten (k : CmdKey) (s : State) : State :=
  match s.cmd? k with
  | none => s
  | some c =>
    let bad := c.failed
    let op := c.opcode
    if op = 0x23 then (if bad then completeCmd k 6 c.result s else drainAcked k s)
    else if op = 0x32 then
      (if bad then completeCmd k 6 0 s else finishStriaCmd k (c.table.getD 0 0) (c.table.getD 1 0) (c.table.getD 2 0) s)
    else if op = 0x43 then completeTick k c.status c.result (unpinSnap k c.point s)
    else if bad then completeCmd k 6 0 s
    else completeCmd k c.status c.result (if op = 0x52 then dumpReleases c s else s)

/-- A result write of a command is answered. -/
def resultAcked (k : CmdKey) (good : Bool) (s : State) : State :=
  let s := if good then s else modCmd k (fun c => { c with failed := true }) s
  match s.cmd? k with
  | some c => if c.phase == .writing && !s.cmdWrites k then resultWritten k s else s
  | none => s

/-- A host write is answered, or has failed. -/
def writeOver (q : HostReq) (good : Bool) (s : State) : State :=
  match q.use with
  | .event r _ cmd pos => entryAcked r cmd pos good s
  | .result k => resultAcked k good s
  | .report => reportAck s
  | .dump copy => dumpAck copy good s
  | _ => s

def execHostWriteAck (tag : Nat) (err : Bool) (s : State) : Outcome State Fault Refusal := s.act fun s =>
  match takeHost tag s.ts s.bus.hostWr with
  | some (q, rest) => ok (writeOver q (!err && !s.hostLate q) (modBus (fun b => { b with hostWr := rest }) s))
  | none => ok s

def execHostWriteTimeout (s : State) : Outcome State Fault Refusal := s.act fun s =>
  match s.lateHost s.bus.hostWr with
  | some (q, rest) => ok (writeOver q false (modBus (fun b => { b with hostWr := rest }) s))
  | none => ok s

end Sys2Proof.Machine
end

