-- ==== Sys2Proof/Machine/Gaffer.lean ====
section
/-! DEFINITION. The gaffer cores (chapter 20): release, reset and readiness, the work they take, watchdogs, debug halts, the memory
port, signed patches, the scrubber and breakpoint units. What the firmware itself computes is in the chapters of its services. -/

namespace Sys2Proof.Machine

open Host (Outcome)

/-- HUB_WATCHDOG and PATCH_INTEGRITY (R462, R467). -/
def cHubWatchdog : Nat := 0x0304
def cPatchIntegrity : Nat := 0x0305

/-! ### A core and its fields -/

def State.gcore (s : State) (n : Nat) : GafCore := if n = 0 then s.gaf.core0 else s.gaf.core1

def modGaf (f : GafState → GafState) (s : State) : State := { s with gaf := f s.gaf }

def modCore (n : Nat) (f : GafCore → GafCore) (s : State) : State :=
  modGaf (fun g => if n = 0 then { g with core0 := f g.core0 } else { g with core1 := f g.core1 }) s

def fRun (n : Nat) : Fld := if n = 0 then F.GAF_CTL_RUN_0 else F.GAF_CTL_RUN_1
def fReady (n : Nat) : Fld := if n = 0 then F.GAF_STAT_READY_0 else F.GAF_STAT_READY_1
def fHalted (n : Nat) : Fld := if n = 0 then F.GAF_STAT_HALTED_0 else F.GAF_STAT_HALTED_1
def fExp (n : Nat) : Fld := if n = 0 then F.GAF_WDT_STAT_EXP_0 else F.GAF_WDT_STAT_EXP_1
def fPaused (n : Nat) : Fld := if n = 0 then F.GAF_WDT_STAT_PAUSED_0 else F.GAF_WDT_STAT_PAUSED_1
def fPer (n : Nat) : Fld := if n = 0 then F.GAF_WDT_PER_PER_0 else F.GAF_WDT_PER_PER_1

/-- The watchdog period of core n in ns of TS; 0 acts as 10,000 µs (R467, R470). Watchdog periods are not scaled (R571). -/
def State.wdPeriod (s : State) (n : Nat) : Nat := 1000 * (if s.fg (fPer n) = 0 then 10000 else s.fg (fPer n))

def State.coreHalted (s : State) (n : Nat) : Bool := s.fb (F.GAF_DBG_STAT_HALTED n)

/-- The watchdog of core n has passed its deadline (R467): it counts while the core runs. -/
def State.wdPast (s : State) (n : Nat) : Bool :=
  s.fb (fRun n) && (s.gcore n).wdRem.isNone && s.past (s.gcore n).wdDead

/-! ### SRAM (R455) -/

/-- SRAM words by index: the firmware area below 0x8000, the patch code area from 0x8000, staging from 0xC000, KEEP from 0x10000. -/
def sramFw : Nat := 0x8000
def sramStage : Nat := 0xC000
def sramKeep : Nat := 0x10000

/-- The bytes stored below the blob pointer; a word nothing has stored reads 0 in no check that passes. -/
def State.stageBytes (s : State) : List Nat :=
  bytesOfWords ((List.range (s.fg F.GAF_BLOB_WPTR_WPTR / 4)).map (fun i => mget s.gaf.sram (sramStage + i) 0))

/-! ### Release and reset (R458, R459) -/

/-- A core starts at its reset vector: its watchdog starts afresh. -/
def startCore (n : Nat) (s : State) : State := modCore n (fun _ => { wdFrom := s.ts, wdDead := s.ts + s.wdPeriod n }) s

/-- What a debugger sees of a core that is no longer halted. -/
def clearHalt (n : Nat) (s : State) : State :=
  let s := ((s.fs (F.GAF_DBG_STAT_HALTED n) 0).fs (F.GAF_DBG_STAT_CAUSE n) 0).fs (F.GAF_DBG_STAT_HIT n) 0
  ((s.fs (F.GAF_DBG_STAT_DEFERRED n) 0).fs (fHalted n) 0).fs (fPaused n) 0

/-- Release a core: the words its firmware works on are its own from now on. Ignored while a blob's checks run. -/
def releaseCore (n : Nat) (s : State) : State :=
  if s.fb (fRun n) || s.fb F.GAF_PATCH_STAT_BUSY then s
  else
    let s := modGaf (fun g => { g with sram := g.sram.filter (fun p => decide (sramFw ≤ p.1)) }) s
    startCore n (s.fs (fRun n) 1)

/-- Commands being served by a core end with TIMEOUT. -/
def timeoutServed (ops : List Nat) (s : State) : State :=
  let ks := (s.rings.cmds.filter (fun c => ops.contains c.opcode && c.phase != .accepted && c.phase != .completing)).map (·.key)
  ks.foldl (fun s k => completeCmd k 0x06 0 s) s

/-- The services of core n are left as HUB_WARM leaves them; a running dump ends as an abort whose result is FAILED (R459). -/
def dropServices (n : Nat) (s : State) : State :=
  if n = 0 then
    let s := warmLadder (timeoutServed [0x50, 0x60] s)
    lehrWatchdog (modLehr (fun l => { l with asked := [] }) s)
  else
    let s := warmNotice (timeoutServed [0x70, 0x71, 0x72, 0x73, 0x80, 0x81] s)
    let s := warmCont (dropGather s)
    { s with mbx := { s.mbx with rsps := [] } }

/-- A core is reset (R459): not READY, not halted, its services dropped, its identity reset for the mailboxes. -/
def resetCore (n : Nat) (s : State) : State :=
  let s := clearHalt n (s.fs (fReady n) 0)
  let s := modCore n (fun _ => {}) s
  resetIdentities [n] (dropServices n s)

/-- A write of RUN_n by a master: the operator class may set it, only the custodian class may clear it (R464). -/
def writeRun (id n : Nat) (on : Bool) (s : State) : State :=
  if on then releaseCore n s
  else if !s.fb (fRun n) then s
  else if s.classOf id < 3 then refuseAccess id R.GAF_CTL s
  else resetCore n (s.fs (fRun n) 0)

def writeGafCtl (id v : Nat) (s : State) : State := writeRun id 1 (bitOf v 1) (writeRun id 0 (bitOf v 0) s)

def execGafRelease (id core : Nat) (s : State) : Outcome State Fault Refusal := s.act fun s =>
  ok (s.gate id R.GAF_CTL .operator (writeRun id core true))

def execGafReset (id core : Nat) (s : State) : Outcome State Fault Refusal := s.act fun s =>
  ok (s.gate id R.GAF_CTL .operator (writeRun id core false))

/-- Mailbox messages posted for Lehr and not yet claimed (R294). -/
def State.lehrPosts (s : State) : List (Nat × Nat) :=
  (List.range 32).flatMap (fun c => ((List.range 2).filter (fun d =>
    s.bound c && s.lehrChannel c d && (s.mdir c d).go && !(s.mdir c d).claimed)).map (fun d => (c, d)))

/-- What waited for a core goes on: Lehr's mailbox requests and the running dump, or the services of core 1. -/
def coreGoesOn (n : Nat) (s : State) : State :=
  if !s.coreUp n then s
  else if n = 0 then lehrRun (s.lehrPosts.foldl (fun s p => if s.lehrChannel p.1 p.2 then mbxDump p.1 p.2 s else s) s)
  else contResume s

/-- The firmware of a released core sets READY (R458). -/
def execGafReady (core : Nat) (s : State) : Outcome State Fault Refusal := s.awake fun s =>
  if s.fb (fRun core) && !s.coreReady core && !s.coreHalted core then ok (coreGoesOn core (s.fs (fReady core) 1)) else ok s

/-! ### The work of a core (R457) -/

/-- Posted messages of channels bound to identity n. -/
def State.postsTo (s : State) (n : Nat) : Bool :=
  (List.range 32).any (fun c => s.bound c && (List.range 2).any (fun d =>
    s.receiverOf c d == n && (s.mdir c d).go && !(s.mdir c d).claimed))

/-- The pending items of a core, highest priority first. -/
def State.pendingWork (s : State) (n : Nat) : List Nat :=
  let items := if n = 0 then
      [s.lehr.running || !s.lehr.asked.isEmpty || !s.lehrPosts.isEmpty,
       s.ladder.running || s.ladder.reheat || !s.ladder.collects.isEmpty, s.postsTo 0]
    else
      [s.notice.running.isSome || !s.notice.queue.isEmpty, s.fb F.GATHER_STAT_BUSY,
       s.cont.digests.any (fun d => match d.use with | .partner _ _ => true | _ => false) || !s.mbx.rsps.isEmpty,
       s.cont.rcd.isSome || s.cont.chk.isSome || s.cont.mv.isSome || s.cont.copy.isSome, s.postsTo 1]
  ((List.range items.length).filter (fun i => items.getD i false)).map (· + 1)

/-- A core that runs and handles nothing takes its highest-priority item (R457). -/
def execGafServiceDispatch (core : Nat) (s : State) : Outcome State Fault Refusal := s.awake fun s =>
  if !s.coreUp core || (s.gcore core).work.isSome then ok s
  else match s.pendingWork core with
    | [] => ok s
    | w :: _ => ok (coreGoesOn core (modCore core (fun c => { c with work := some w }) s))

/-! ### Watchdogs (R467, R468) -/

/-- The firmware yields: its handler ends and its watchdog restarts; one that is past its deadline has expired. -/
def execGafYield (core : Nat) (s : State) : Outcome State Fault Refusal := s.awake fun s =>
  if !s.fb (fRun core) || s.coreHalted core || s.wdPast core then ok s
  else ok (modCore core (fun c => { c with wdFrom := s.ts, wdDead := s.ts + s.wdPeriod core, pausedEver := false, work := none }) s)

/-- The watchdog of core n expires: the core is reset and restarts at once, and HUB_WATCHDOG is formed. The PC of a running core is
free. -/
def wdExpire (n : Nat) (s : State) : State :=
  let c := s.gcore n
  let dump := n == 0 && s.lehr.running
  let (pc, s) := s.free
  let s := startCore n (resetCore n (s.fsat (fExp n) 1))
  centralFault cHubWatchdog 0 none (pc % 2 ^ 32) (n + 2 * b2n c.pausedEver + 4 * b2n dump) c.wdFrom s

def execGafWatchdogExpiry (core : Nat) (s : State) : Outcome State Fault Refusal := s.awake fun s =>
  if s.wdPast core then ok (wdExpire core s) else ok s

/-! ### Halts (R465, R468, R484) -/

/-- STATUS holds what R456 gives it: IE, EXC, IRQ and CAUSE, which is 0 to 5. -/
def statusOf (v : Nat) : Nat := v % 8 + 16 * (v / 8 % 6)

/-- The registers a debugger finds: what the firmware left in them is free. -/
def freeRegs : Nat → State → SMap Nat × State
  | 0, s => ([], s)
  | k + 1, s =>
    let (m, s) := freeRegs k s
    let (v, s) := s.free
    (mput m (k + 1) (if k + 1 = 33 then statusOf v else v % 2 ^ 32), s)

def takeRegs (n : Nat) (s : State) : State :=
  let (m, s) := freeRegs 33 s
  modCore n (fun c => { c with regs := m }) s

/-- A core halts (R465): its watchdog pauses with its remainder. -/
def haltCore (n cause hit : Nat) (s : State) : State :=
  let s := ((s.fs (F.GAF_DBG_STAT_HALTED n) 1).fs (F.GAF_DBG_STAT_CAUSE n) cause).fs (F.GAF_DBG_STAT_HIT n) hit
  let s := ((s.fs (F.GAF_DBG_STAT_DEFERRED n) 0).fs (fHalted n) 1).fs (fPaused n) 1
  takeRegs n (modCore n (fun c => { c with
    deferFrom := none, wdRem := some (match c.wdRem with | some m => m | none => c.wdDead - s.ts), pausedEver := true }) s)

/-- A halt, unless the watchdog expires with it (R468). -/
def haltOrExpire (n cause hit : Nat) (s : State) : State := if s.wdPast n then wdExpire n s else haltCore n cause hit s

/-- A request to a core that is held in reset or not READY is ignored (R465). -/
def dbgErr (n : Nat) (s : State) : State := s.fs (F.GAF_DBG_STAT_ERR n) 1

/-- A HALT request: at once, or deferred while the core is inside a locked or reserved sequence. -/
def haltReq (n : Nat) (inSeq : Bool) (s : State) : State :=
  if !s.coreReady n then dbgErr n s
  else if s.coreHalted n || (s.gcore n).deferFrom.isSome then s
  else if inSeq then modCore n (fun c => { c with deferFrom := some s.core }) (s.fs (F.GAF_DBG_STAT_DEFERRED n) 1)
  else haltOrExpire n 3 0 s

/-- A halted core resumes: its watchdog has what remained, but at least 1,000,000 ns. -/
def runCore (n : Nat) (s : State) : State :=
  if !s.coreHalted n then s
  else
    let m := max ((s.gcore n).wdRem.getD 0) 1000000
    coreGoesOn n (modCore n (fun c => { c with wdDead := s.ts + m, wdRem := none, regs := [] }) (clearHalt n s))

def runReq (n : Nat) (s : State) : State := if !s.coreReady n then dbgErr n s else runCore n s

/-- One instruction retires and the core halts again: what it leaves in the registers is free. -/
def stepReq (n : Nat) (s : State) : State :=
  if !s.coreReady n then dbgErr n s
  else if !s.coreHalted n then s
  else takeRegs n ((s.fs (F.GAF_DBG_STAT_CAUSE n) 4).fs (F.GAF_DBG_STAT_HIT n) 0)

/-- A write of GAF_DBG_CTL_n. Whether the core is inside a sequence is its own state: free where no command says it. -/
def writeGafDbg (n v : Nat) (s : State) : State :=
  let s := if bitOf v 0 then (let (x, s) := s.free; haltReq n (bitOf x 0) s) else s
  let s := if bitOf v 1 then runReq n s else s
  if bitOf v 2 then stepReq n s else s

def execGafDbgHalt (id core : Nat) (inSeq : Bool) (s : State) : Outcome State Fault Refusal := s.act fun s =>
  ok (s.gate id (R.GAF_DBG_CTL core) .custodian (haltReq core inSeq))

def execGafDbgRun (id core : Nat) (s : State) : Outcome State Fault Refusal := s.act fun s =>
  ok (s.gate id (R.GAF_DBG_CTL core) .custodian (runReq core))

def execGafDbgStep (id core : Nat) (s : State) : Outcome State Fault Refusal := s.act fun s =>
  ok (s.gate id (R.GAF_DBG_CTL core) .custodian (stepReq core))

/-- The sequence ends within 256 CORECLK: the deferred halt takes effect (R484). -/
def execDeferredHaltTake (core : Nat) (s : State) : Outcome State Fault Refusal := s.act fun s =>
  match (s.gcore core).deferFrom with
  | some t => if s.core ≤ t + 256 then ok (haltOrExpire core 3 0 s) else ok s
  | none => ok s

/-- 256 CORECLK have passed: the halt is forced (R484). -/
def execLockedHaltForce (core : Nat) (s : State) : Outcome State Fault Refusal := s.act fun s =>
  match (s.gcore core).deferFrom with
  | some t => if t + 256 ≤ s.core then ok (haltOrExpire core 3 0 s) else ok s
  | none => ok s

/-- Units 0 to 15 whose KIND is PATCH. -/
def State.isPatch (s : State) (u : Nat) : Bool := s.fb (F.GAF_PU_CFG_KIND u)

/-- A running core fetches a break instruction (R463, R465): a BREAK unit's, whose word is then its PC, or one in SRAM (unit 16 and
above), for which the spec names no HIT. -/
def execGafBreakHit (core unit : Nat) (s : State) : Outcome State Fault Refusal := s.act fun s =>
  if !s.fb (fRun core) || s.coreHalted core then ok s
  else if 16 ≤ unit then
    let (h, s) := s.free
    ok (haltOrExpire core 1 (h % 16) s)
  else if !s.fb (F.GAF_PU_CFG_EN unit) || s.isPatch unit then ok s
  else
    let was := s.wdPast core
    let s := haltOrExpire core 1 unit s
    if was then ok s
    else ok (modCore core (fun c => { c with
      regs := mput c.regs 32 (32 * s.fg (F.GAF_PU_CFG_LINE unit) + 4 * s.fg (F.GAF_PU_CFG_WORD unit)) }) s)

/-! ### Registers of a halted core (R456, R465) -/

/-- A signalled doorbell bit of the core's identity interrupts it (R446). -/
def State.gafIrq (s : State) (n : Nat) : Bool := (s.rd (R.DB_PEND n) &&& ~~~ s.rd (R.DB_MASK n)) != 0

/-- STATUS with IRQ set where a doorbell bit is signalled (R456); a service event of the firmware's is in what the halt found. -/
def State.statusNow (s : State) (n v : Nat) : Nat := v ||| 4 * b2n (s.gafIrq n)

/-- A read of GAF_DBG_DATA_n: the selected register, or 0 with ERR while the core runs. -/
def readDbgData (n : Nat) (s : State) : Nat × State :=
  if !s.coreHalted n then (0, dbgErr n s)
  else
    let i := s.fg (F.GAF_DBG_SEL_IDX n)
    let v := mget (s.gcore n).regs i 0
    (if i = 33 then s.statusNow n v else v, s)

/-- A write of GAF_DBG_DATA_n: G0 discards it, STATUS keeps its reserved bits 0. -/
def writeDbgData (n v : Nat) (s : State) : State :=
  let i := s.fg (F.GAF_DBG_SEL_IDX n)
  if !s.coreHalted n then dbgErr n s
  else if i = 0 || 33 < i then s
  else modCore n (fun c => { c with regs := mput c.regs i (if i = 33 then v % 8 + 16 * bitsOf v 4 4 else v % 2 ^ 32) }) s

def execGafDbgDataWrite (id core value : Nat) (s : State) : Outcome State Fault Refusal := s.act fun s =>
  ok (s.gate id (R.GAF_DBG_DATA core) .custodian (writeDbgData core value))

/-! ### The debug memory port (R464) -/

/-- An address outside the map, or a write to ROM: ERR of both cores. -/
def portErr (s : State) : State := dbgErr 1 (dbgErr 0 s)

def stepAddr (s : State) : State := s.fs F.GAF_MEM_ADDR_ADDR (s.fg F.GAF_MEM_ADDR_ADDR + 4)

/-- The SRAM word an address names. -/
def sramIndex (a : Nat) : Option Nat :=
  if 0x10000000 ≤ a ∧ a < 0x10080000 then some ((a - 0x10000000) / 4) else none

/-- Is a core's firmware running, which owns the firmware area. -/
def State.fwRuns (s : State) : Bool := s.fb F.GAF_CTL_RUN_0 || s.fb F.GAF_CTL_RUN_1

/-- An SRAM word: the KEEP area is Lehr's; a word of the firmware area is free while a core runs; a word nothing has stored is free
and stays as it is found. -/
def readSram (i : Nat) (s : State) : Nat × State :=
  if sramKeep ≤ i then (ofLe (memGetBytes s.lehr.keep (4 * (i - sramKeep)) 4), s)
  else if i < sramFw && s.fwRuns then (let (v, s) := s.free; (v % 2 ^ 32, s))
  else match mget? s.gaf.sram i with
    | some v => (v, s)
    | none => let (v, s) := s.free; (v % 2 ^ 32, modGaf (fun g => { g with sram := mput g.sram i (v % 2 ^ 32) }) s)

def writeSram (i v : Nat) (s : State) : State :=
  if sramKeep ≤ i then modLehr (fun l => { l with keep := memPutBytes l.keep (4 * (i - sramKeep)) (toLe 4 v) }) s
  else if i < sramFw && s.fwRuns then s
  else modGaf (fun g => { g with sram := mput g.sram i (v % 2 ^ 32) }) s

/-- A read of GAF_MEM_DATA. -/
def readGafMem (s : State) : Nat × State :=
  let a := s.fg F.GAF_MEM_ADDR_ADDR / 4 * 4
  let s := stepAddr s
  if a < 0x40000 then (Config.romWord (a / 4) % 2 ^ 32, s)
  else match sramIndex a with
    | some i => readSram i s
    | none => (0, portErr s)

/-- A write of GAF_MEM_DATA: taken in SRAM only. -/
def writeGafMem (v : Nat) (s : State) : State :=
  let a := s.fg F.GAF_MEM_ADDR_ADDR / 4 * 4
  let s := stepAddr s
  match sramIndex a with
  | some i => writeSram i v s
  | none => portErr s

def execGafMemAccess (id : Nat) (isWrite : Bool) (value : Nat) (s : State) : Outcome State Fault Refusal := s.act fun s =>
  ok (s.gate id R.GAF_MEM_DATA .custodian (fun s =>
    if isWrite then writeGafMem value s
    else
      let (v, s) := readGafMem s
      presentRead v s))

/-! ### Patch blobs (R460, R461) -/

def restartBlob (s : State) : State := s.fs F.GAF_BLOB_WPTR_WPTR 0

/-- Four blob bytes at the pointer; past 64 KiB they are ignored. -/
def writeBlob (v : Nat) (s : State) : State :=
  let p := s.fg F.GAF_BLOB_WPTR_WPTR
  if 65536 ≤ p then s
  else (modGaf (fun g => { g with sram := mput g.sram (sramStage + p / 4) (v % 2 ^ 32) }) s).fs F.GAF_BLOB_WPTR_WPTR (p + 4)

/-- APPLY is ignored while a core runs. -/
def applyBlob (s : State) : State := if s.fwRuns then s else s.fs F.GAF_PATCH_STAT_BUSY 1

def writePatchCtl (v : Nat) (s : State) : State :=
  let s := if bitOf v 0 then restartBlob s else s
  if bitOf v 1 then applyBlob s else s

def execPatchRestart (id : Nat) (s : State) : Outcome State Fault Refusal := s.act fun s =>
  ok (s.gate id R.GAF_PATCH_CTL .custodian restartBlob)

def execPatchBlobWrite (id value : Nat) (s : State) : Outcome State Fault Refusal := s.act fun s =>
  ok (s.gate id R.GAF_BLOB_DATA .custodian (writeBlob value))

def execPatchApply (id : Nat) (s : State) : Outcome State Fault Refusal := s.act fun s =>
  ok (s.gate id R.GAF_PATCH_CTL .custodian applyBlob)

/-- The entries of a blob (R460), 48 bytes each. -/
def blobEntries (b : List Nat) : List (List Nat) :=
  (List.range (leAt b 6 1)).map (fun i => (b.drop (32 + 48 * i)).take 48)

def blobSum (b : List Nat) : Nat := 32 + 48 * leAt b 6 1 + leAt b 0x14 4 + 96

/-- The check of R461 a blob fails first; none where it passes them all. -/
def State.blobCheck (s : State) (b : List Nat) : Option Nat :=
  let nent := leAt b 6 1
  let codeOff := leAt b 0x10 4
  let codeLen := leAt b 0x14 4
  let len := leAt b 8 4
  let level := leAt b 0x0E 2
  let es := blobEntries b
  let key := (b.drop (len - 96)).take 32
  let hash := mget s.otp.vals 6 0
  if leAt b 0 4 != 0x48435450 || leAt b 4 2 != 3 || 16 < nent || leAt b 7 1 != 0 || leAt b 0x18 8 != 0 || level = 0 || 4095 < level ||
      es.any (fun e => leAt e 0 2 / 2 ^ 13 != 0 || leAt e 2 1 / 16 != 0 || leAt e 3 1 != 0 || leAt e 8 8 != 0) then some 1
  else if len != blobSum b || s.fg F.GAF_BLOB_WPTR_WPTR < len || codeLen % 64 != 0 || 61440 < codeLen || codeOff % 64 != 0 ||
      65536 < codeOff + codeLen then some 2
  else if leAt b 0x0C 2 != s.fg F.GAF_FW_VER_ROM_BUILD then some 3
  else if es.any (fun e => 8192 ≤ leAt e 0 2) || !noRepeats (es.map (fun e => leAt e 0 2)) || !noRepeats (es.map (fun e => leAt e 2 1)) ||
      es.any (fun e => crc32c ((e.drop 16).take 32) != leAt e 4 4) then some 4
  else if hash = 0 || ofLe (sha256 key) != hash || !Config.ed25519Verify (ofLe key) (b.take (len - 64)) (ofLe ((b.drop (len - 64)).take 64)) then some 5
  else if level < mget s.otp.vals 7 0 then some 6
  else none

/-- How many units are enabled as PATCH. -/
def showUnits (s : State) : State :=
  s.fs F.GAF_PATCH_STAT_UNITS ((List.range 16).filter (fun u => s.isPatch u && s.fb (F.GAF_PU_CFG_EN u))).length

/-- The words of a unit's patch RAM line. -/
def State.patchLine (s : State) (u : Nat) : List Nat := (List.range 8).map (fun i => mget s.gaf.patch (8 * u + i) 0)

def putLine (u : Nat) (ws : List Nat) (s : State) : State :=
  modGaf (fun g => { g with patch := (List.range 8).foldl (fun m i => mput m (8 * u + i) (ws.getD i 0 % 2 ^ 32)) g.patch }) s

/-- Apply one entry: its line, its unit as PATCH, enabled, with its CRC. -/
def applyEntry (e : List Nat) (s : State) : State :=
  let u := leAt e 2 1
  let s := putLine u (wordsOf ((e.drop 16).take 32)) s
  (s.wrN (R.GAF_PU_CFG u) (leAt e 0 2 + 2 ^ 16 + 2 ^ 17)).wrN (R.GAF_PU_CRC u) (leAt e 4 4)

/-- Apply a blob that has passed every check (R461): the units no entry names are disabled and hold no PATCH. -/
def installBlob (b : List Nat) (s : State) : State :=
  let es := blobEntries b
  let named := es.map (fun e => leAt e 2 1)
  let s := ((List.range 16).filter (fun u => !named.contains u)).foldl
    (fun s u => (s.fs (F.GAF_PU_CFG_EN u) 0).fs (F.GAF_PU_CFG_KIND u) 0) s
  let s := showUnits (es.foldl (fun s e => applyEntry e s) s)
  let code := wordsOf ((b.drop (32 + 48 * leAt b 6 1)).take (leAt b 0x14 4))
  let at_ := sramFw + leAt b 0x10 4 / 4
  let s := modGaf (fun g => { g with sram := (List.range code.length).foldl (fun m i => mput m (at_ + i) (code.getD i 0)) g.sram }) s
  (s.fs F.GAF_FW_VER_PATCH_LEVEL (leAt b 0x0E 2)).fs F.GAF_FW_VER_PATCHED (b2n (leAt b 6 1 != 0 || leAt b 0x14 4 != 0))

/-- The checks end (R461, R462). -/
def execPatchChecksDone (s : State) : Outcome State Fault Refusal := s.awake fun s =>
  if !s.fb F.GAF_PATCH_STAT_BUSY then ok s
  else
    let b := s.stageBytes
    let s := s.fs F.GAF_PATCH_STAT_BUSY 0
    match s.blobCheck b with
    | none => ok (installBlob b (s.fs F.GAF_PATCH_STAT_CHECK 0))
    | some k => ok (centralFault cPatchIntegrity 0 none (leAt b 0x0E 2) k 0 (s.fs F.GAF_PATCH_STAT_CHECK k))

/-! ### The scrubber and breakpoint units (R462, R463) -/

/-- The scrubber rechecks the line of one unit. `line` gives the line's words where a soft error has changed them. -/
def execPatchScrub (unit : Nat) (line : List Nat) (s : State) : Outcome State Fault Refusal := s.act fun s =>
  if !(s.isPatch unit && s.fb (F.GAF_PU_CFG_EN unit)) then ok s
  else
    let s := if line.isEmpty then s else putLine unit line s
    let found := crc32c (bytesOfWords (s.patchLine unit))
    let stored := s.fg (F.GAF_PU_CRC_CRC unit)
    if found = stored then ok s
    else
      let s := showUnits (s.fs (F.GAF_PU_CFG_EN unit) 0)
      ok (centralFault cPatchIntegrity 0 none stored (8 + 2 ^ 8 * unit) found (s.fs F.GAF_FW_VER_PATCH_FAULT 1))

/-- A write of GAF_PU_CFG_u: ignored with ERR for a PATCH unit. -/
def writeUnit (u v : Nat) (s : State) : State :=
  if s.isPatch u then s.fs F.GAF_PATCH_STAT_ERR 1 else s.wrN (R.GAF_PU_CFG u) (v % 2 ^ 17)

def execPatchUnitWrite (id unit value : Nat) (s : State) : Outcome State Fault Refusal := s.act fun s =>
  ok (s.gate id (R.GAF_PU_CFG unit) .custodian (writeUnit unit value))

/-! ### The end of a debug session, and HUB_WARM (R466, R470) -/

/-- Every BREAK unit is disabled, every halted core is released and a deferred halt is dropped. -/
def endGafDebug (s : State) : State :=
  let s := (List.range 16).foldl (fun s u => if s.isPatch u then s else s.fs (F.GAF_PU_CFG_EN u) 0) s
  [0, 1].foldl (fun s n => runCore n (modCore n (fun c => { c with deferFrom := none }) (s.fs (F.GAF_DBG_STAT_DEFERRED n) 0))) s

/-- HUB_WARM: READY, the debug registers and the BREAK units are cleared; a released core restarts. -/
def warmGaffer (s : State) : State :=
  let s := (List.range 16).foldl (fun s u => if s.isPatch u then s else s.wrN (R.GAF_PU_CFG u) 0) s
  [0, 1].foldl (fun s n =>
    let s := clearHalt n (s.fs (fReady n) 0)
    if s.fb (fRun n) then startCore n s else modCore n (fun _ => {}) s) s

end Sys2Proof.Machine
end

