-- ==== Sys2Proof/Machine/Secure.lean ====
section
/-! DEFINITION. SEC_CTL, the station security page and test perturbation (R498 to R500, R565 to R575), and what ends with a custodian
session. -/

namespace Sys2Proof.Machine

open Host (Outcome)

/-! ### The station security page (R499, R566) -/

/-- The page number of the security page in a REG_WR's HEAD: bit 11, SPAGE. -/
def secPage : Nat := 4

/-- Every live station holds the current SEC_EN. -/
def State.secApplied (s : State) : Bool := s.liveStations.all (fun n => s.secWord n 0 % 2 == s.fg F.SEC_CTL_SEC_EN)

/-- Every live station holds the current PTB_CTL. -/
def State.ptbApplied (s : State) : Bool := s.liveStations.all (fun n => s.secWord n 1 == s.rdN R.PTB_CTL)

/-- Is a perturbation active (R566, R574): TEST_EN and an enable, or withholding that still runs at a station after TEST_EN has cleared. -/
def State.ptbOn (s : State) : Bool :=
  if s.fb F.SEC_CTL_TEST_EN then s.rdN R.PTB_CTL != 0
  else s.fb F.PTB_STAT_ACTIVE && s.liveStations.any (fun n => bitOf (s.secWord n 1) 0)

/-- The set of active perturbations has become empty or non-empty (R232): RESYNC to every station, a SYNC for each central source. -/
def resyncAll (s : State) : State := centralSync srcWriter 3 (centralSync srcStim 3 (sendTraceCmd 3 0 4 [0] s))

/-- PTB_STAT.ACTIVE, APPLIED and EVER, PRIV_STAT.SEC_APPLIED and CANE_STAT.PERTURBED as they stand now. -/
def showApplied (s : State) : State :=
  let s := (s.fs F.PRIV_STAT_SEC_APPLIED (b2n s.secApplied)).fs F.PTB_STAT_APPLIED (b2n s.ptbApplied)
  let s := s.fs F.CANE_STAT_PERTURBED (b2n (s.fb F.SEC_CTL_TEST_EN && s.fb F.PTB_CTL_SLOT_EN))
  let on := s.ptbOn
  let was := s.fb F.PTB_STAT_ACTIVE
  let s := s.fs F.PTB_STAT_ACTIVE (b2n on)
  let s := if on then s.fs F.PTB_STAT_EVER 1 else s
  let s := if on && !was then markPerturbed s else s
  if on == was then s else resyncAll s

/-- Send a word of the page to a group. -/
def sendSec (group target word v : Nat) (s : State) : State := sendRegWr group target secPage word [v] s

/-- Everything of the page to one station after its SLOT_LOAD verification (R499, R587): what it holds already changes nothing. -/
def resendSec (n : Nat) (s : State) : State :=
  let s := sendSec 0 n 1 (s.rdN R.PTB_CTL) (sendSec 0 n 0 (s.fg F.SEC_CTL_SEC_EN) s)
  showApplied (sendSec 0 n 3 (s.rdN R.PTB_BUDGET) (sendSec 0 n 2 (s.rdN R.PTB_SLOT) s))

/-! ### SEC_EN (R499) -/

/-- Change SEC_EN and distribute it. -/
def setSecEn (on : Bool) (s : State) : State :=
  if s.fb F.SEC_CTL_SEC_EN == on then s
  else showApplied (sendSec 3 0 0 (b2n on) (s.fs F.SEC_CTL_SEC_EN (b2n on)))

def execSecEnWrite (id : Nat) (on : Bool) (s : State) : Outcome State Fault Refusal := s.act fun s =>
  ok (s.gate id R.SEC_CTL .custodian (setSecEn on))

/-- DBG_SEC_EN changes at the CONTROL ports of a station: a rise in secure state ends the excluded interval, a fall begins one. -/
def driveSec (n : Nat) (on : Bool) (s : State) : State :=
  (List.range 16).foldl (fun s i =>
    let u := 16 * n + i
    let p := s.port u
    if !p.live || p.ty != 1 || !s.fb (F.DBG_STAT_SECURE n i) then s
    else if on then (if p.excl then endExcl u s else s)
    else if p.excl then s else beginExcl u s) s

/-- The station applies the next security word it has received, at a frame boundary (R499, R566). -/
def execStationSecurityApply (stn : Nat) (s : State) : Outcome State Fault Refusal := s.act fun s =>
  match takeInbox stn 0 (fun m => bitOf m.head 11 && decide (m.head % 512 < 4)) s with
  | none => ok s
  | some (m, s) =>
    let w := m.head % 512
    let v := m.words.headD 0
    let was := s.dbgSec stn
    let s := modStn stn (fun x => { x with sec := setAt 0 x.sec w v }) s
    let s := if w = 0 && was != bitOf v 0 then driveSec stn (bitOf v 0) s else s
    ok (showApplied s)

/-! ### Perturbation (R565 to R571) -/

/-- A write of PTB_CTL: ignored while TEST_EN is 0; a change is distributed. -/
def writePtbCtl (v : Nat) (s : State) : State :=
  if !s.fb F.SEC_CTL_TEST_EN || s.rdN R.PTB_CTL = v % 128 then s
  else showApplied (sendSec 3 0 1 (v % 128) (s.wrN R.PTB_CTL (v % 128)))

def execPtbCtlWrite (id value : Nat) (s : State) : Outcome State Fault Refusal := s.act fun s =>
  ok (s.gate id R.PTB_CTL .custodian (writePtbCtl value))

/-- A write of PTB_STAT: ignored while TEST_EN is 0 (R565); EVER is cleared only while no perturbation is active (R566). -/
def writePtbStat (v : Nat) (s : State) : State :=
  if !s.fb F.SEC_CTL_TEST_EN then s
  else
    let s := showApplied s
    plainWrite R.PTB_STAT (BitVec.ofNat 32 (if s.fb F.PTB_STAT_ACTIVE then setBit v 2 false else v)) s

/-- A write of a parameter: PTB_SLOT and PTB_BUDGET go to the stations, which find their group in PTB_SLOT. -/
def writePtbParam (a v : Nat) (s : State) : State :=
  if !s.fb F.SEC_CTL_TEST_EN then s
  else
    let s := plainWrite a (BitVec.ofNat 32 v) s
    if a = R.PTB_SLOT then sendSec 3 0 2 (s.rdN R.PTB_SLOT) s
    else if a = R.PTB_BUDGET then sendSec 3 0 3 (s.rdN R.PTB_BUDGET) s
    else s

/-- The parameter registers: 0 PTB_SLOT, 1 PTB_RING, 2 PTB_PORT, 3 PTB_MBX, 4 PTB_BUDGET, 5 PTB_GATHER, 6 PTB_FORCE_ARG. -/
def ptbParam (k : Nat) : Nat := R.PTB_SLOT + 4 * (k % 7)

def execPtbParamWrite (id reg value : Nat) (s : State) : Outcome State Fault Refusal := s.act fun s =>
  ok (s.gate id (ptbParam reg) .custodian (writePtbParam (ptbParam reg) value))

/-- Does slot withholding apply at a station, and the owned slots of every 16 it withholds (R567). -/
def State.withholds (s : State) (n : Nat) : Nat :=
  let w := s.secWord n 2
  if bitOf (s.secWord n 1) 0 && (s.members (grpGroup w) (grpTarget w)).contains n then bitsOf w 16 4 else 0

/-! ### TEST_EN (R565, R574) -/

/-- Delayed answers take effect in the cycle in which TEST_EN clears. -/
def flushAcks (s : State) : State :=
  (List.range 32).foldl (fun s c => (List.range 2).foldl (fun s d =>
    match (s.mdir c d).delayed with
    | some (_, code) => takeAnswer c d code s
    | none => s) s) s

/-- TEST_EN clears: PTB_CTL becomes 0 in that cycle and the change is distributed; the other registers keep their values. -/
def endTest (s : State) : State :=
  if !s.fb F.SEC_CTL_TEST_EN then s
  else
    let changed := s.rdN R.PTB_CTL != 0
    let s := flushAcks ((s.fs F.SEC_CTL_TEST_EN 0).wr R.PTB_CTL 0)
    showApplied (if changed then sendSec 3 0 1 0 s else s)

def setTestEn (on : Bool) (s : State) : State := if on then s.fs F.SEC_CTL_TEST_EN 1 else endTest s

def execTestEnWrite (id : Nat) (on : Bool) (s : State) : Outcome State Fault Refusal := s.act fun s =>
  ok (s.gate id R.SEC_CTL .custodian (setTestEn on))

def writeSecCtl (v : Nat) (s : State) : State := setTestEn (bitOf v 1) (setSecEn (bitOf v 0) s)

/-- The end of a custodian session, HUB_COLD and HUB_WARM (R500). -/
def endCustodian (s : State) : State := endTest (setSecEn false (s.fs F.CUST_GRANT_VALID 0))

/-! ### Forced faults (R573) -/

/-- A write of PTB_FORCE: a code of G0 or G1 with a unit goes to the unit's station, any other is formed centrally. -/
def writePtbForce (v : Nat) (s : State) : State :=
  if !s.fb F.SEC_CTL_TEST_EN then s
  else
    let code := v % 2 ^ 16
    let ctx := s.fg F.PTB_FORCE_ARG_CTX
    let u := s.fg F.PTB_FORCE_ARG_UNIT
    let named := s.fb F.PTB_FORCE_ARG_UNIT_VALID
    match codeGroup code with
    | none => s.fs F.PTB_STAT_ERR 1
    | some g =>
      if named && decide (g ≤ 1) then sendSec 0 (u / 16) 4 (code + 2 ^ 16 * ctx + 2 ^ 24 * (u % 16)) s
      else logFault { code := code, ctx := ctx, unit := (if named then some u else none), ts := s.ts, flags := s.formFlags ||| flForced } s

def execPtbForceWrite (id value : Nat) (s : State) : Outcome State Fault Refusal := s.act fun s =>
  ok (s.gate id R.PTB_FORCE .custodian (writePtbForce value))

/-- The latch of a code, where it has one (R278, R290). -/
def latchOf (code : Nat) : Option Nat :=
  if code = cUncorrectable then some 0 else if code = cUnitTrap then some 1 else if code = cUapProtocol then some 2
  else if code = cProgressStall then some 3 else none

/-- The station forms the forced record at a frame boundary, as if it had detected the fault at that port: it carries the port's
current command and the context of the request. -/
def execForcedFaultStation (stn : Nat) (s : State) : Outcome State Fault Refusal := s.act fun s =>
  match takeInbox stn 0 (fun m => bitOf m.head 11 && m.head % 512 == 4) s with
  | none => ok s
  | some (m, s) =>
    let v := m.words.headD 0
    let code := v % 2 ^ 16
    let u := 16 * stn + bitsOf v 24 4
    let r := { s.stnRec u code (s.port u).current 0 0 0 flForced with ctx := bitsOf v 16 8 }
    match latchOf code with
    | none => ok (placeFormed u r s)
    | some k =>
      if bitOf (s.fg (latchFld stn k)) (u % 16) then ok (s.fsat (repeatFld stn k) 1)
      else ok (placeFormed u r (s.fs (latchFld stn k) (setBit (s.fg (latchFld stn k)) (u % 16) true)))

end Sys2Proof.Machine
end

