-- ==== Sys2Proof/Machine/Session.lean ====
section
/-! DEFINITION. Rolsal sessions (R472, R486 to R491): challenge, certificates, verification, renewal, and everything that ends with a
session. -/

namespace Sys2Proof.Machine

open Host (Outcome)

def modRs (f : RolsalState → RolsalState) (s : State) : State := { s with rolsal := f s.rolsal }

def modAuth (f : AuthState → AuthState) (s : State) : State := modRs (fun r => { r with auth := f r.auth }) s

def State.hasSession (s : State) : Bool := s.rolsal.auth.st == 3

/-- A request the port accepts counts for the idle timer (R490). -/
def rsAccept (s : State) : State := modRs (fun r => { r with lastReq := s.ts }) s

/-- Abandon the pending access (R478): its answer, if one is out, is discarded. -/
def rsAbandon (s : State) : State := modRs (fun r => { r with acc := none, lastRead := none, kept := none, fresh := false }) s

/-! ### The end of a session (R490, R500) -/

/-- End a window 3 drain with a cause (R485). -/
def endDrain (cause : Nat) (s : State) : State :=
  if s.rolsal.drain then modRs (fun r => { r with drain := false, drnCause := cause, drnWord := 0, drnStop := false }) s else s

/-- The session ends, where one exists. -/
def endSession (s : State) : State :=
  if !s.hasSession then s
  else
    let cust := s.rolsal.sessClass == 3
    let s := endDrain 5 (rsAbandon s)
    let s := modRs (fun r => { r with
      sessClass := 0, count := 0, renewDue := false, mode := r.mode % 8 + 8, lastWrite := none
      auth := { r.auth with st := 0, sk := 0, serials := [], expires := none } }) s
    let s := endGafDebug (resetIdentities [2] s)
    if cust then endCustodian s else s

/-- 64 ones on RSIO (R472). -/
def lineReset (s : State) : State :=
  let s := rsAbandon (endSession s)
  modRs (fun r => { r with
    wdataPar := false, accErr := false, accTmo := false, accCause := 0, lockout := false, protoErrs := 0
    mode := r.mode % 8 + 8, lastWrite := none, response := 7, data := 0 }) s

/-- The port follows the line while the hub is out of reset and its clock runs. -/
def State.portAlive (s : State) : Bool := s.clk.rootRuns && !s.clk.cold && !s.clk.warm

def execRolsalLineReset (s : State) : Outcome State Fault Refusal := s.act fun s =>
  if s.portAlive then ok (lineReset s) else ok s

/-! ### Challenge and response (R487) -/

/-- A 256-bit value of the hub's internal random source. -/
def randomKey (s : State) : Nat × State := let (v, s) := s.free; (v % 2 ^ 256, s)

/-- BEGIN: ends any session and draws a new challenge; ignored while a failure's wait runs (R488). -/
def authBegin (s : State) : State :=
  if s.ts < s.rolsal.auth.waitUntil then s
  else
    let s := endSession s
    let (nh, s) := randomKey s
    let (eh, s) := randomKey s
    let pub := Config.x25519 eh 9 % 2 ^ 256
    let out := toLe 32 nh ++ toLe 32 pub ++ toLe 8 (mget s.otp.vals 1 0) ++ toLe 4 s.node ++ toLe 4 0
    modAuth (fun a => { a with st := 1, challenged := false, out := out, nh := nh, eh := eh, pub := pub, wptr := 0, input := [], hsig := 0 }) s

/-- Four input bytes; past 512 they are ignored. -/
def authIn (v : Nat) (s : State) : State :=
  modAuth (fun a => if 512 ≤ a.wptr then a else { a with wptr := a.wptr + 4, input := a.input ++ toLe 4 v }) s

/-- VERIFY: outside CHALLENGED it is going to fail, and a session does not outlast it. -/
def authVerify (s : State) : State :=
  let ch := s.rolsal.auth.st == 1
  modAuth (fun a => { a with st := 2, challenged := ch }) (endSession s)

/-- A write of AUTH_CTL: BEGIN, VERIFY, END. -/
def writeAuthCtl (v : Nat) (s : State) : State :=
  let s := if bitOf v 0 then authBegin s else s
  let s := if bitOf v 1 then authVerify s else s
  if bitOf v 2 then endSession s else s

/-- Has the session outlived IDLE_TMO ms without a request accepted, 0 acting as 1,000, or the smallest MAX_SESSION of its chain (R490). -/
def State.sessIdle (s : State) : Bool :=
  s.hasSession && s.past (s.rolsal.lastReq + (if s.rolsal.idleTmo = 0 then 1000 else s.rolsal.idleTmo) * 1000000)

def State.sessOld (s : State) : Bool := s.hasSession && (s.rolsal.auth.expires.map s.past).getD false

/-- A session that is past its end has ended before any request that comes later (R110, R490). -/
def expireSession (s : State) : State := if s.sessIdle || s.sessOld then endSession s else s

/-- A write to window 0, which the port always accepts outside LOCKOUT (R477). -/
def win0 (f : State → State) (s : State) : State :=
  if s.portAlive && !s.rolsal.lockout then f (modRs (fun r => { r with response := 6, data := 0 }) (rsAccept (expireSession s)))
  else modRs (fun r => { r with response := 7, data := 0 }) s

def execAuthBegin (s : State) : Outcome State Fault Refusal := s.act fun s =>
  ok (win0 authBegin s)
def execAuthInWrite (value : Nat) (s : State) : Outcome State Fault Refusal := s.act fun s =>
  ok (win0 (authIn value) s)
def execAuthVerify (s : State) : Outcome State Fault Refusal := s.act fun s =>
  ok (win0 authVerify s)
def execAuthEnd (s : State) : Outcome State Fault Refusal := s.act fun s =>
  ok (win0 endSession s)

/-! ### Verification (R486, R488) -/

def asciiBytes (t : String) : List Nat := t.toList.map (fun c => c.toNat)

/-- The certificates of the input, leaf first. -/
def certsOf (a : AuthState) : List (List Nat) :=
  (List.range (leAt a.input 0 1)).map (fun i => (a.input.drop (4 + 160 * i)).take 160)

/-- MAGIC, FORMAT, CLASS and reserved fields of a certificate (R486). -/
def certForm (c : List Nat) : Bool :=
  leAt c 0 4 == 0x54524344 && leAt c 4 2 == 3 && (leAt c 6 1 == 1 || leAt c 6 1 == 2) && decide (leAt c 7 1 < 2) && leAt c 0x0F 1 == 0 &&
    leAt c 0x1C 4 == 0

/-- The transcript T (R487). -/
def State.transcript (s : State) (a : AuthState) : List Nat :=
  let n := leAt a.input 0 1
  toLe 32 a.nh ++ toLe 32 a.pub ++ ((a.input.drop (4 + 160 * n)).take 32) ++ toLe 8 (mget s.otp.vals 1 0) ++ toLe 3 s.node ++ [0] ++
    sha256 ((a.input.drop 4).take (160 * n))

/-- Does a certificate chain run from the anchor to the leaf (R488, BAD_CHAIN). -/
def chainOk (anchor : Nat) (cs : List (List Nat)) : Bool :=
  match cs with
  | [c] => ofLe (sha256 ((c.drop 0x40).take 32)) == anchor
  | [c, d] => ofLe (sha256 ((d.drop 0x40).take 32)) == anchor && leAt d 7 1 == 1 && leAt d 0x20 32 == leAt c 0x40 32 &&
      decide (leAt c 6 1 ≤ leAt d 6 1)
  | _ => false

/-- The check of R488 that fails first. -/
def State.authCheck (s : State) (a : AuthState) : Option Nat :=
  let n := leAt a.input 0 1
  let cs := certsOf a
  let anchor := mget s.otp.vals 3 0
  let leaf := cs.headD []
  let rsig := leAt a.input (4 + 160 * n + 32) 64
  if !a.challenged || !(n == 1 || n == 2) || a.wptr != 4 + 160 * n + 96 || leAt a.input 1 3 != 0 || !cs.all certForm then some 1
  else if anchor = 0 then some 2
  else if !chainOk anchor cs then some 3
  else if !cs.all (fun c => Config.ed25519Verify (leAt c 0x40 32) (c.take 0x60) (leAt c 0x60 64)) then some 4
  else if !cs.all (fun c => (leAt c 0x0C 3 == 0xFFFFFF || leAt c 0x0C 3 == s.node) &&
      (leAt c 0x10 8 == 0 || leAt c 0x10 8 == mget s.otp.vals 1 0)) then some 5
  else if !cs.all (fun c => decide (mget s.otp.vals 4 0 ≤ leAt c 8 4)) then some 6
  else if !Config.ed25519Verify (leAt leaf 0x20 32) (asciiBytes "ROLSAL-D" ++ s.transcript a) rsig then some 7
  else none

/-- A failure: FAILS saturates, and from the fourth in a row BEGIN waits (R488). -/
def authFail (err : Nat) (s : State) : State :=
  modAuth (fun a =>
    let fails := satAdd 8 a.fails 1
    { a with st := 0, err := err, fails := fails
             waitUntil := if 4 ≤ fails then s.ts + min (2 ^ (fails - 4)) 64 * 1000000000 else a.waitUntil }) s

/-- The smallest non-zero MAX_SESSION of a chain, in seconds (R490). -/
def maxSession (cs : List (List Nat)) : Option Nat :=
  (cs.map (fun c => leAt c 0x18 4)).foldl (fun m x => if x = 0 then m else match m with | some y => some (min x y) | none => some x) none

/-- The session is established: K is X25519 of eh and Ed, SK its hash with T; HSIG is 0 without a device key (R503). -/
def authGrant (s : State) : State :=
  let a := s.rolsal.auth
  let n := leAt a.input 0 1
  let t := s.transcript a
  let cls := leAt (((certsOf a).headD [])) 6 1
  let k := Config.x25519 a.eh (leAt a.input (4 + 160 * n) 32) % 2 ^ 256
  let sk := ofLe (sha256 (asciiBytes "ROLSAL-K" ++ toLe 32 k ++ t))
  let hsig := match s.otp.devKey with
    | some d => Config.ed25519Sign d (asciiBytes "ROLSAL-H" ++ t ++ [cls]) % 2 ^ 512
    | none => 0
  modRs (fun r => { r with
    sessClass := cls + 1, count := 0, renewDue := false
    auth := { r.auth with st := 3, eh := 0, sk := sk, hsig := hsig, seq := 0, fails := 0, serials := (certsOf a).map (fun c => leAt c 8 4)
                          expires := (maxSession (certsOf a)).map (fun m => s.ts + m * 1000000000) } }) s

def execAuthVerifyDone (s : State) : Outcome State Fault Refusal := s.act fun s =>
  let a := s.rolsal.auth
  if a.st != 2 then ok s
  else match s.authCheck a with
    | some e => ok (authFail e s)
    | none => ok (authGrant s)

/-! ### Renewal and expiry (R489, R490) -/

/-- The MAC for renewal n: bytes 0 to 3 of SHA-256 over SK and n. -/
def renewMac (sk n : Nat) : Nat := ofLe ((sha256 (toLe 32 sk ++ toLe 4 n)).take 4)

/-- A write of AUTH_RENEW: the right MAC renews, a wrong one ends the session. -/
def authRenew (mac : Nat) (s : State) : State :=
  let a := s.rolsal.auth
  if !s.hasSession then s
  else if mac = renewMac a.sk a.seq then
    modRs (fun r => { r with count := 0, renewDue := false, auth := { r.auth with seq := (r.auth.seq + 1) % 2 ^ 32 } }) s
  else authFail 8 (endSession s)

def execAuthRenewWrite (mac : Nat) (s : State) : Outcome State Fault Refusal := s.act fun s =>
  ok (win0 (authRenew mac) s)

/-- IDLE_TMO ms have passed since the last request accepted. -/
def execRolsalIdleTimeout (s : State) : Outcome State Fault Refusal := s.act fun s =>
  if s.sessIdle then ok (endSession s) else ok s

/-- The smallest MAX_SESSION of the chain has passed. -/
def execRolsalSessionExpiry (s : State) : Outcome State Fault Refusal := s.act fun s =>
  if s.sessOld then ok (endSession s) else ok s

/-- RS_SESS.END from the register window (R491): a custodian session needs a writer of the custodian class. -/
def rsSessEnd (id : Nat) (s : State) : State :=
  if s.rolsal.sessClass == 3 && decide (s.classOf id < 3) then s else endSession s

def execRsSessEndWrite (id : Nat) (s : State) : Outcome State Fault Refusal := s.act fun s =>
  ok (s.gate id R.RS_SESS .operator (rsSessEnd id))

/-! ### HUB_COLD and HUB_WARM (R473, R491) -/

/-- The port after a reset of the hub: in LOCKOUT, every field at reset, FAILS and its wait kept by HUB_WARM. -/
def resetPort (warm : Bool) (s : State) : State :=
  let s := endSession s
  let a := s.rolsal.auth
  { s with rolsal := { auth := if warm then { fails := a.fails, waitUntil := a.waitUntil } else {} } }

end Sys2Proof.Machine
end

