-- ==== Sys2Proof/Machine/Privilege.lean ====
section
/-! DEFINITION. The privilege map, the custodian grant and the one-time-programmable memory (chapter 22). -/

namespace Sys2Proof.Machine

open Host (Outcome)

/-! ### PRIV_MAP and CUST_GRANT (R493, R494) -/

/-- Field j of PRIV_MAP_k after a write: 0b11 keeps it, and only identities 3 to 51 have one. -/
def mapField (old v k j : Nat) : Nat :=
  let i := 16 * k + j
  if i < 3 ∨ 51 < i then 0
  else if bitsOf v (2 * j) 2 = 3 then bitsOf old (2 * j) 2
  else bitsOf v (2 * j) 2

def mapWord (old v k : Nat) : Nat := ((List.range 16).map (fun j => mapField old v k j * 4 ^ j)).sum

/-- Is some identity of 3 to 51 at OPERATOR. -/
def State.someOperator (s : State) : Bool :=
  (List.range 49).any (fun i => bitsOf (s.rdN (R.PRIV_MAP ((i + 3) / 16))) (2 * ((i + 3) % 16)) 2 == 2)

/-- A write of PRIV_MAP_k: ignored under the lock, and where it would leave no identity at OPERATOR. -/
def writePrivMap (k v : Nat) (s : State) : State :=
  if s.fb F.PRIV_CTL_LOCK then s
  else
    let t := s.wrN (R.PRIV_MAP k) (mapWord (s.rdN (R.PRIV_MAP k)) v k)
    if t.someOperator then t else s

def execPrivMapWrite (id index4 value : Nat) (s : State) : Outcome State Fault Refusal := s.act fun s =>
  ok (s.gate id (R.PRIV_MAP index4) .operator (writePrivMap index4 value))

/-- PRIV_CTL.LOCK (R501). -/
def lockPriv (s : State) : State := (s.fs F.PRIV_CTL_LOCK 1).fs F.PRIV_STAT_MAP_LOCKED 1

/-- A write of CUST_GRANT: only identity 2 while it holds CUSTODIAN; it names identity 3 or one of 36 to 51. -/
def writeCustGrant (id v : Nat) (s : State) : State :=
  if !(id == 2 && s.classOf 2 == 3) then refuseAccess id R.CUST_GRANT s
  else
    let i := v % 64
    if i = 3 ∨ (36 ≤ i ∧ i ≤ 51) then s.wrN R.CUST_GRANT (v % 128) else s

def execCustGrantWrite (id value : Nat) (s : State) : Outcome State Fault Refusal := s.act fun s =>
  ok (if s.windowOpen then writeCustGrant id value s else s)

/-! ### The one-time-programmable memory (R502, R503) -/

/-- Bytes of a field's value as it is programmed. -/
def otpBits (f : Nat) : Nat := if f = 1 then 64 else if f = 4 then 32 else if f = 7 then 12 else 256

/-- Fields that are programmed once, and fields that are only raised. -/
def otpOnce (f : Nat) : Bool := f == 1 || f == 3 || f == 5 || f == 6
def otpRaise (f : Nat) : Bool := f == 4 || f == 7

def State.otpVal (s : State) (f : Nat) : Nat := mget s.otp.vals f 0

/-- Is a field set or raised at least once. -/
def State.otpSet (s : State) (f : Nat) : Bool := if f = 2 then s.otp.devKey.isSome else (mget? s.otp.vals f).isSome

/-- PROVISIONED, KEY_PRESENT and SET as the shadow has them (R504). -/
def showOtp (s : State) : State :=
  let prov := b2n (s.otpVal 3 != 0)
  let s := (s.fs F.PRIV_STAT_PROVISIONED prov).fs F.OTP_STAT_PROVISIONED prov
  let s := s.fs F.OTP_STAT_KEY_PRESENT (b2n s.otp.devKey.isSome)
  s.fs F.OTP_STAT_SET (((List.range 7).map (fun i => if s.otpSet (i + 1) then 2 ^ i else 0)).sum)

/-- The ERR an operation ends with (R502). -/
def State.otpErr (s : State) (cls op f v : Nat) : Nat :=
  if cls < 2 || (op != 1 && cls < 3 && s.fb F.OTP_STAT_PROVISIONED) then 1
  else if f = 0 || 7 < f || (op = 2 && f = 2) || (op = 3 && f != 2) then 5
  else if op = 1 then 0
  else if op = 3 then (if s.otp.devKey.isSome then 2 else 0)
  else if otpOnce f then (if s.otpSet f then 2 else 0)
  else if v ≤ s.otpVal f then 3
  else if 31 ≤ mget s.otp.raises f 0 then 4
  else 0

/-- The value in OTP_DATA_0 to OTP_DATA_7, least significant word first. -/
def State.otpData (s : State) : Nat := ofLe (bytesOfWords (s.rdWords (R.OTP_DATA 0) 8))

/-- A write of OTP_CTL: FIELD and OP are kept; GO starts the operation unless one runs. An operation of a class below OPERATOR ends
DENIED (R502); without GO the write is one of R496. -/
def writeOtpCtl (id v : Nat) (s : State) : State :=
  let f := v % 16
  let op := bitsOf v 4 2
  let runs := bitOf v 6 && op != 0
  if s.classOf id < 2 && !runs then refuseAccess id R.OTP_CTL s
  else
    let s := s.wrN R.OTP_CTL (v % 64)
    if !runs || s.fb F.OTP_STAT_BUSY then s
    else
      let x := s.otpData % 2 ^ otpBits f
      { s with otp := { s.otp with running := some ⟨op, f, x, s.otpErr (s.classOf id) op f x, s.ts⟩ } }.fs F.OTP_STAT_BUSY 1

def otpGo (op f : Nat) : Nat := f % 16 + 16 * op + 64

def execOtpRead (id field : Nat) (s : State) : Outcome State Fault Refusal := s.act fun s =>
  ok (s.gate id R.OTP_CTL .open_ (writeOtpCtl id (otpGo 1 field)))

def execOtpProgram (id field : Nat) (s : State) : Outcome State Fault Refusal := s.act fun s =>
  ok (s.gate id R.OTP_CTL .open_ (writeOtpCtl id (otpGo 2 field)))

def execOtpGenkey (id field : Nat) (s : State) : Outcome State Fault Refusal := s.act fun s =>
  ok (s.gate id R.OTP_CTL .open_ (writeOtpCtl id (otpGo 3 field)))

/-- A raise of DBG_MIN_SERIAL ends a session whose chain holds a lower SERIAL (R502). -/
def revoke (s : State) : State :=
  if s.rolsal.auth.serials.any (fun x => decide (x < s.otpVal 4)) then endSession s else s

/-- Store the value read back after programming: the field stays as read. -/
def otpStore (o : OtpOp) (back : Nat) (s : State) : State :=
  let t := { s.otp with vals := mput s.otp.vals o.fld back
                        raises := (if otpRaise o.fld then mmod s.otp.raises o.fld 0 (· + 1) else s.otp.raises) }
  let s := { s with otp := t }
  if o.fld = 4 then revoke s else s

/-- The operation takes effect; answers its ERR. `back` gives the words read back after programming where they are not the value. -/
def otpApply (o : OtpOp) (back : List Nat) (s : State) : Nat × State :=
  if o.err != 0 then (o.err, s)
  else if o.op = 1 then
    let v := if o.fld = 2 then (match s.otp.devKey with | some k => Config.ed25519Public k % 2 ^ 256 | none => 0) else s.otpVal o.fld
    (0, s.wrWords (R.OTP_DATA 0) (wordsOf (toLe 32 v)))
  else if o.op = 3 then
    let (k, s) := randomKey s
    (0, { s with otp := { s.otp with devKey := some k } })
  else
    let b := if back.isEmpty then o.value else ofLe (bytesOfWords back) % 2 ^ otpBits o.fld
    (if b = o.value then 0 else 6, otpStore o b s)

/-- The operation ends (R502). -/
def execOtpOperationDone (back : List Nat) (s : State) : Outcome State Fault Refusal := s.awake fun s =>
  match s.otp.running with
  | none => ok s
  | some o =>
    let (e, s) := otpApply o back { s with otp := { s.otp with running := none } }
    ok (showOtp ((s.fs F.OTP_STAT_BUSY 0).fs F.OTP_STAT_ERR e))

end Sys2Proof.Machine
end

