-- ==== Sys2Proof/Machine/SlotImg.lean ====
section
/-! DEFINITION. The slot image (R87 to R94, R99): the image store, its checks in the order of R94, and what a validated image tells
the hub. -/

namespace Sys2Proof.Machine

open Host (Outcome)

/-! ### The store (R93) -/

def slotMax : Nat := 49152

/-- `n` bytes of a buffer from address `a` on, in one pass. -/
def memRun : Nat → Nat → Mem → List Nat
  | 0, _, _ => []
  | n + 1, a, [] => 0 :: memRun n (a + 1) []
  | n + 1, a, (k, v) :: rest =>
    if k = a then v.toNat :: memRun n (a + 1) rest
    else 0 :: memRun n (a + 1) ((k, v) :: rest)

/-- The bytes of the store: as far as SLOT_WPTR, and as far as something an earlier image left there; the rest is 0. -/
def State.slotBytes (s : State) : List Nat :=
  memRun (max (s.fg F.SLOT_WPTR_WPTR) ((s.slot.store.getLast?.map (fun e => e.1 + 1)).getD 0)) 0 s.slot.store

/-- Writes of the slot registers are taken only while frames neither run nor are enabled (R93). -/
def State.slotOpen (s : State) : Bool := !s.fb F.CANE_CTL_ENABLE && !s.fb F.CANE_STAT_RUNNING

/-- The hub has no valid image: what R100, R86 and SHEAR_TIMING show of one reads 0. -/
def dropImage (s : State) : State :=
  let s := { s with slot := { store := s.slot.store } }
  let s := ((s.fs F.SLOT_STAT_VALID 0).fs F.SLOT_STAT_MATCH 0).fs F.SLOT_STAT_LIVE 0
  let s := (((s.wr R.SLOT_INFO 0).wr R.SLOT_CRC 0).wr R.SLOT_BUILD_LO 0).wr R.SLOT_BUILD_HI 0
  let s := s.wr R.SHEAR_TIMING 0
  (List.range 16).foldl (fun s r =>
    ((s.fs (F.CANE_RIB_STAT_POP r) 0).fs (F.CANE_RIB_STAT_BRIDGED r) 0).fs (F.CANE_RIB_STAT_LAST_POS r) 0) s

def slotRestart (s : State) : State :=
  if s.slotOpen && !s.fb F.SLOT_STAT_BUSY then dropImage (s.fs F.SLOT_WPTR_WPTR 0) else s

/-- VALIDATE begins the checks and clears the status (R94); SLOT_KEY_HASH, field 5 of the one-time-programmable memory, is the one of
this moment (R502). -/
def slotValidate (s : State) : State :=
  if s.slotOpen && !s.fb F.SLOT_STAT_BUSY then
    let h := s.otpVal 5
    let s := (((dropImage (s.fs F.SLOT_STAT_BUSY 1)).fs F.SLOT_STAT_SIGNED 0).fs F.SLOT_STAT_ERR 0).fs F.SLOT_STAT_WHERE 0
    { s with slot := { s.slot with keyHash := h } }
  else s

def slotCtlWrite (v : Nat) (s : State) : State :=
  (s.when (bitOf v 0) slotRestart).when (bitOf v 1) slotValidate

def slotDataWrite (v : Nat) (s : State) : State :=
  if !s.slotOpen || s.fb F.SLOT_STAT_BUSY then s
  else
    let p := s.fg F.SLOT_WPTR_WPTR
    if slotMax ≤ p then s.fs F.SLOT_STAT_ERR 11
    else { s with slot := { s.slot with store := memPutBytes s.slot.store p (toLe 4 v) } }.fs F.SLOT_WPTR_WPTR (p + 4)

def execSlotRestart (id : Nat) (s : State) : Outcome State Fault Refusal := s.act fun s =>
  ok (s.gate id R.SLOT_CTL .operator slotRestart)

def execSlotValidate (id : Nat) (s : State) : Outcome State Fault Refusal := s.act fun s =>
  ok (s.gate id R.SLOT_CTL .operator slotValidate)

def execSlotDataWrite (id value : Nat) (s : State) : Outcome State Fault Refusal := s.act fun s =>
  ok (s.gate id R.SLOT_DATA .operator (slotDataWrite value))

/-! ### The parts of an image (R87 to R91) -/

/-- An image's bytes with the figures its checks share: the ribs populated and where its parts begin. -/
structure ImageView where
  b : List Nat
  ribmask : Nat
  nstn : Nat
  horizon : Nat
  npart : Nat
  ribs : List Nat
  tables : Nat := 320
  recs : Nat
  len : Nat
  signed : Bool
  lim : Nat                             -- SLOT_WPTR
  deriving DecidableEq, Repr

def viewOf (b : List Nat) (lim : Nat) : ImageView :=
  let ribs := bitsSet 16 (leAt b 0x0E 2)
  { b := b, ribmask := leAt b 0x0E 2, nstn := leAt b 0x0C 2, horizon := leAt b 0x11 1, npart := leAt b 0x12 1, ribs := ribs,
    recs := 320 + 512 * ribs.length, len := leAt b 0x08 4, signed := bitOf (leAt b 0x13 1) 0, lim := lim }

def ImageView.byte (v : ImageView) (o : Nat) : Nat := leAt v.b o 1

/-- End of the station records. -/
def ImageView.recEnd (v : ImageView) : Nat := v.recs + 32 * v.nstn

/-- Offset of the CRC. -/
def ImageView.crcAt (v : ImageView) : Nat := v.len - 4

def ImageView.ribAt (r : Nat) : Nat := 64 + 16 * r

def ImageView.stnAt (v : ImageView) (i : Nat) : Nat := v.recs + 32 * i

def ImageView.sid (v : ImageView) (i : Nat) : Nat := leAt v.b (v.stnAt i) 2 % 1024

/-- The record of a station, by its place. -/
def ImageView.find (v : ImageView) (sid : Nat) : Option Nat := (List.range v.nstn).find? (fun i => v.sid i == sid)

def ImageView.bridged (v : ImageView) (r : Nat) : Bool := bitOf (v.byte (ImageView.ribAt r)) 1
def ImageView.bridge (v : ImageView) (r : Nat) : Nat := v.byte (ImageView.ribAt r + 1) % 8
def ImageView.lastPos (v : ImageView) (r : Nat) : Nat := v.byte (ImageView.ribAt r + 2)

/-- Byte k of the slot table of the j-th populated rib. -/
def ImageView.owner (v : ImageView) (j k : Nat) : Nat := v.byte (v.tables + 512 * j + k)

/-! ### The checks (R94) -/

/-- Offsets of the fields that fail, of a list of fields each with its condition. -/
def failing (l : List (Nat × Bool)) : List Nat := (l.filter (fun p => !p.2)).map (·.1)

/-- Are `n` bytes from an offset zero. -/
def ImageView.zero (v : ImageView) (o n : Nat) : Bool := leAt v.b o n == 0

def ImageView.badHeader (v : ImageView) : List Nat :=
  failing [(0, leAt v.b 0 4 == 0x49544C53), (4, leAt v.b 4 2 == 3), (6, leAt v.b 6 2 == 64),
    (0x13, v.byte 0x13 < 2), (0x20, v.zero 0x20 32)]

def ImageView.badLength (v : ImageView) : List Nat :=
  failing [(8, decide (v.len ≤ v.lim) && v.len == v.recEnd + 96 * b2n v.signed + 4)]

def ImageView.badCrc (v : ImageView) : List Nat :=
  failing [(v.crcAt, leAt v.b v.crcAt 4 == crc32c (v.b.take v.crcAt))]

/-- The signature block against the hash of the slot key (R92): offsets of FLAGS, of the key and of the signature. -/
def ImageView.badSignature (v : ImageView) (keyHash : Nat) : List Nat :=
  let key := (v.b.drop v.recEnd).take 32
  let good := Config.ed25519Verify (ofLe key) (v.b.take v.recEnd) (leAt v.b (v.recEnd + 32) 64)
  if keyHash != 0 then
    if !v.signed then [0x13]
    else failing [(v.recEnd, ofLe (sha256 key) == keyHash), (v.recEnd + 32, good)]
  else failing [(v.recEnd + 32, !v.signed || good)]

/-- Offsets of the header's limits that fail (R94). More than two ribs on a bridge is an error of BRMASK (log entry 118). -/
def ImageView.badLimits (v : ImageView) : List Nat :=
  let br := v.ribs.filter v.bridged
  let mask := (List.range 8).foldl (fun m b => m + 2 ^ b * b2n (br.any (fun r => v.bridge r == b))) 0
  let atMost := (List.range 8).all (fun b => decide ((br.filter (fun r => v.bridge r == b)).length ≤ 2))
  failing [(0x0E, v.ribmask != 0), (0x10, v.byte 0x10 == mask && atMost),
    (0x11, if br.isEmpty then decide (48 ≤ v.horizon ∧ v.horizon ≤ 80) else v.horizon == 80),
    (0x12, decide (1 ≤ v.npart ∧ v.npart ≤ 16))]

/-- Offsets of a rib record that fail (R94). A gap in the positions of its stations is an error of LAST_POS (log entry 118). -/
def ImageView.badRib (v : ImageView) (r : Nat) : List Nat :=
  let o := ImageView.ribAt r
  let f := v.byte o
  if !v.ribs.contains r then
    failing [(o, f == 0), (o + 1, v.byte (o + 1) == 0), (o + 2, v.byte (o + 2) == 0), (o + 3, v.byte (o + 3) == 0),
      (o + 4, v.byte (o + 4) == 0), (o + 5, v.zero (o + 5) 11)]
  else
    let mine := (List.range v.nstn).filter (fun i => v.sid i / 64 == r)
    let last := v.lastPos r
    let tEnd := match v.find (64 * r + last) with | some i => v.byte (v.stnAt i + 3) | none => 256
    failing [(o, bitOf f 0 && f < 8 && !(bitOf f 1 && bitOf f 2)),
      (o + 1, v.byte (o + 1) < 8 && (bitOf f 1 || v.byte (o + 1) == 0)),
      (o + 2, last < 64 && mine.length == last + 1 && (List.range (last + 1)).all (fun p => (v.find (64 * r + p)).isSome)),
      (o + 3, v.byte (o + 3) == tEnd),
      (o + 4, v.byte (o + 4) ≤ 16 && (bitOf f 1 || v.byte (o + 4) == 0)),
      (o + 5, v.zero (o + 5) 11)]

def ImageView.badRibs (v : ImageView) : List Nat := (List.range 16).flatMap v.badRib

/-- A port byte as R91 has it. -/
def portByteOk (b : Nat) : Bool :=
  let t := b % 8
  if t = 7 then b == 7
  else t != 6 && bitsOf b 3 2 != 3 && (if t = 5 then bitsOf b 5 2 != 0 else b < 32)

def ImageView.badStation (v : ImageView) (i : Nat) : List Nat :=
  let o := v.stnAt i
  let sid := v.sid i
  let r := sid / 64
  let t := 2 * (sid % 64 + 2) + v.byte (o + 2) + (if v.bridged r then 24 else 2)
  let cm := leAt v.b (o + 0x18) 2
  failing ([(o, leAt v.b o 2 < 1024 && v.ribs.contains r && (i == 0 || v.sid (i - 1) < sid)),
    (o + 3, v.byte (o + 3) == t), (o + 4, v.byte (o + 4) ≤ v.horizon), (o + 5, v.byte (o + 5) < v.npart),
    (o + 6, v.byte (o + 6) == b2n (sid % 64 == v.lastPos r)), (o + 7, v.byte (o + 7) == 0)] ++
    (List.range 16).map (fun p => (o + 8 + p, portByteOk (v.byte (o + 8 + p)))) ++
    [(o + 0x18, (List.range 16).all (fun p => !bitOf cm p || v.byte (o + 8 + p) % 8 == 5)), (o + 0x1A, v.zero (o + 0x1A) 6)])

def ImageView.badStations (v : ImageView) : List Nat :=
  let all := List.range v.nstn
  failing [(0x12, (List.range v.npart).all (fun k => all.any (fun i => v.byte (v.stnAt i + 5) == k)))] ++ all.flatMap v.badStation

/-- Slots of the j-th populated rib that a position owns. -/
def ImageView.slotsOf (v : ImageView) (j p : Nat) : List Nat := (List.range 512).filter (fun k => v.owner j k == p)

def ImageView.badSlots (v : ImageView) : List Nat :=
  let ribs := (List.range v.ribs.length).zip v.ribs
  ribs.flatMap (fun x => failing ((List.range 512).map (fun k =>
    let b := v.owner x.1 k
    (v.tables + 512 * x.1 + k, b == 0xFF || (k % 8 != 0 && b ≤ v.lastPos x.2))))) ++
  ribs.flatMap (fun x => (List.range (v.lastPos x.2 + 1)).flatMap (fun p =>
    if (v.slotsOf x.1 p).isEmpty then (match v.find (64 * x.2 + p) with | some i => [v.stnAt i] | none => []) else []))

/-- The first check that fails: its code and the lowest offset among the fields that fail under it. -/
def firstFailure : Nat → List (List Nat) → Option (Nat × Nat)
  | _, [] => none
  | k, l :: rest =>
    match l with
    | [] => firstFailure (k + 1) rest
    | o :: os => some (k, os.foldl min o)

def ImageView.check (v : ImageView) (keyHash : Nat) : Option (Nat × Nat) :=
  firstFailure 1 [v.badHeader, v.badLength, v.badCrc, v.badSignature keyHash, v.badLimits, v.badRibs, v.badStations, v.badSlots]

/-! ### A validated image -/

def ImageView.rib (v : ImageView) (r : Nat) : RibImage :=
  let o := ImageView.ribAt r
  { bridged := v.bridged r, half := bitsOf (v.byte o) 2 1, bridge := v.bridge r, lastPos := v.lastPos r, tEnd := v.byte (o + 3),
    pad := v.byte (o + 4) }

def portImageOf (b : Nat) : PortImage := { ty := b % 8, cvLen := bitsOf b 3 2, gresp := bitsOf b 5 2, resumable := bitOf b 7 }

def ImageView.stn (v : ImageView) (i : Nat) : StationImage :=
  let o := v.stnAt i
  let sid := v.sid i
  let j := ((List.range v.ribs.length).find? (fun j => v.ribs.getD j 16 == sid / 64)).getD 0
  { seg := v.byte (o + 2), t := v.byte (o + 3), shcomp := v.byte (o + 4), part := v.byte (o + 5), ribEnd := bitOf (v.byte (o + 6)) 0
    ports := (List.range 16).map (fun p => portImageOf (v.byte (o + 8 + p))), cmask := leAt v.b (o + 0x18) 2
    slots := v.slotsOf j (sid % 64) }

/-- Compensation target of an image (R128). -/
def ImageView.compTarget (v : ImageView) : Nat := if v.byte 0x10 = 0 then 16 else 28

/-- The image is valid: VALID is set and the hub takes what it holds; SHEAR_TIMING shows its horizon, its compensation target
and its settling time (R128, R129). -/
def installImage (v : ImageView) (s : State) : State :=
  let s := { s with slot := { store := s.slot.store, horizon := v.horizon, npart := v.npart, brmask := v.byte 0x10
                              ribs := v.ribs.map (fun r => (r, v.rib r))
                              stns := (List.range v.nstn).map (fun i => (v.sid i, v.stn i)) } }
  let s := (s.fs F.SLOT_STAT_VALID 1).fs F.SLOT_STAT_SIGNED (b2n v.signed)
  let s := ((s.fs F.SLOT_INFO_HORIZON v.horizon).fs F.SLOT_INFO_NPART v.npart).fs F.SLOT_INFO_BRMASK (v.byte 0x10)
  let s := (s.fs F.SHEAR_TIMING_H v.horizon).fs F.SHEAR_TIMING_E v.compTarget
  let s := s.fs F.SHEAR_TIMING_W (v.horizon - 2 * v.compTarget - 12)
  let s := (s.wrN R.SLOT_CRC (leAt v.b v.crcAt 4)).wr64 R.SLOT_BUILD_LO R.SLOT_BUILD_HI (leAt v.b 0x18 8)
  v.ribs.foldl (fun s r =>
    ((s.fs (F.CANE_RIB_STAT_POP r) 1).fs (F.CANE_RIB_STAT_BRIDGED r) (b2n (v.bridged r))).fs (F.CANE_RIB_STAT_LAST_POS r) (v.lastPos r)) s

/-- The checks end (R94). -/
def execSlotValidationDone (s : State) : Outcome State Fault Refusal := s.awake fun s =>
  if !s.fb F.SLOT_STAT_BUSY then ok s
  else
    let v := viewOf s.slotBytes (s.fg F.SLOT_WPTR_WPTR)
    let s := s.fs F.SLOT_STAT_BUSY 0
    match v.check s.slot.keyHash with
    | some (e, o) => ok ((s.fs F.SLOT_STAT_ERR e).fs F.SLOT_STAT_WHERE o)
    | none => ok (installImage v s)

/-- HUB_WARM keeps the store, SLOT_WPTR and VALID (R99), and SIGNED and WHERE too (log entry 118); checks that run end without a result. -/
def warmSlot (s : State) : State :=
  (((s.fs F.SLOT_STAT_MATCH 0).fs F.SLOT_STAT_LIVE 0).fs F.SLOT_STAT_ERR 0).fs F.SLOT_STAT_BUSY 0

end Sys2Proof.Machine
end

