-- ==== Sys2Proof/Machine/Cane.lean ====
section
/-! DEFINITION. The cane network (chapters 3 and 4): frames, station accesses and their answers, upstream slots, errors, isolation and
restoration, training, the loading of stations and its verification. -/

namespace Sys2Proof.Machine

open Host (Outcome)

def modSpine (f : SpineState → SpineState) (s : State) : State := { s with spine := f s.spine }

/-! ### What a station access does at its station (R74, R290, R361) -/

/-- 2-bit fields of 16 ports as one word. -/
def pairsWord (f : Nat → Nat) : Nat := (List.range 16).foldl (fun w p => w + 4 ^ p * (f p % 4)) 0

def bitsWord (f : Nat → Bool) : Nat := (List.range 16).foldl (fun w p => w + 2 ^ p * b2n (f p)) 0

/-- STN_CTR_WRAP: carries whose NOTE is owed, by class (R183, R201). -/
def wrapWord (x : Station) : Nat :=
  let owed (k : Nat) : List Nat := x.wrapCtr.filter (fun c => bitsOf c 6 2 == k)
  bitsWord (fun i => (owed 1).any (fun c => c % 16 == i)) + 2 ^ 16 * b2n (!(owed 0).isEmpty) + 2 ^ 17 * b2n (!(owed 2).isEmpty)

/-- Word w of watchdog entry i (R290). -/
def wdWord (x : Station) (i w : Nat) : Nat :=
  match mget? x.wd i with
  | none => 0
  | some d =>
    if w = 0 then d.port + 2 ^ 4 * d.queue + 2 ^ 10 + 2 ^ 11 * b2n d.rem.isSome
    else if w = 1 then d.cmd.seq
    else if w = 2 then d.d % 2 ^ 32 else d.d >>> 32

/-- The comparator address DBG_SEL selects (R50). -/
def State.dbgAddr (s : State) (u : Nat) : Nat :=
  let i := s.fg (F.DBG_SEL_IDX (u / 16) (u % 16))
  if i > 5 then 0 else (s.port u).cmps.getD i 0

/-- A word of the station window as the station holds it. -/
def State.winWord (s : State) (n b : Nat) : Nat :=
  let x := s.stn n
  let plain := s.rdN (stationBase + 0x800 * n + b)
  if 0x400 ≤ b ∧ b < 0x480 then
    let (v, bd) := s.pcSample n ((b - 0x400) / 8)
    if b % 8 = 0 then v % 2 ^ 32 else (v >>> 32) % 2 ^ 16 + 2 ^ 16 * b2n bd + 2 ^ 17 * bitsOf plain 17 1
  else if b = 0x508 then wrapWord x
  else if 0x520 ≤ b ∧ b < 0x540 then (attrWords x (s.fg (F.STN_ATTR_SEL_ENTRY n))).getD ((b - 0x520) / 4) 0
  else if b = 0x5C8 then pairsWord (fun p => shCode (x.port p).shCmd)
  else if b = 0x5F0 then setBit plain 9 (((s.stnImage? n).map (·.ribEnd)).getD false)
  else if b = 0x5FC then plain - plain % 1024 + n
  else if 0x600 ≤ b then
    let u := 16 * n + (b - 0x600) / 32
    if (s.port u).ty != 1 then 0
    else if b % 32 = 0xC then s.dbgAddr u % 2 ^ 32
    else if b % 32 = 0x10 then s.dbgAddr u >>> 32
    else plain
  else plain

/-- A word of a page of a station. -/
def State.stnWord (s : State) (n page b : Nat) : Nat :=
  let a := pageBase page n + b
  if (regRowAt a).isNone then 0
  else if page = 0 then s.winWord n b
  else if page = 1 ∧ 0x200 ≤ b ∧ b < 0x600 then wdWord (s.stn n) ((b - 0x200) / 16) ((b / 4) % 4)
  else if page = 1 ∧ 0x600 ≤ b ∧ b < 0x680 then
    let f := ((s.stn n).port ((b - 0x600) / 8)).pwFrom
    if b % 8 = 0 then f % 2 ^ 32 else f >>> 32
  else s.rdN a

/-- The words an access reads, and the clearing of RC fields by a read that is no peek (R6). -/
def readStn (n page off k : Nat) (peek : Bool) (s : State) : List Nat × State :=
  let at_ (i : Nat) : Nat := 4 * (off + i)
  ((List.range k).map (fun i => s.stnWord n page (at_ i)),
   if peek then s else (List.range k).foldl (fun s i => clearRc (pageBase page n + at_ i) s) s)

/-- A port's stream is absent at its station (R363): no unit by the image, a vector of another length, off at the last strobe. -/
def State.streamAbsent (s : State) (n p : Nat) : Bool :=
  let i := s.portImage (16 * n + p)
  let off := match (s.stn n).strobes.getLast? with | some e => e.2 | none => 0
  i.ty == 7 || i.cvLen != 2 || bitOf off p

/-- A REGRD: tag and status in HEAD [31:16] (R74). -/
def regrd (tag status : Nat) (ws : List Nat) : UpMsg := ⟨5, tag + 2 ^ 8 * status, ws⟩

/-- Words of the REGRD that answers a REG_RD (R74). -/
def regrdWords (page off : Nat) : Nat := if page = 3 then 1 else wideSpan page (4 * off)

/-- The station processes a REG_RD, once its REGRD can be formed (R71: the reserve can hold it whole). `cap` is the word the unit's capture register presents for a capture page access, which waits
behind a group read (R363). -/
def execStationRegRd (stn cap : Nat) (s : State) : Outcome State Fault Refusal := s.act fun s =>
  match takeInbox stn 1 (fun _ => true) s with
  | none => ok s
  | some (m, t) =>
    let off := m.head % 512
    let page := bitsOf m.head 18 2
    let tag := bitsOf m.head 10 8
    if !(s.stn stn).canForm 5 (4 + 4 * regrdWords page off) then ok s
    else if page = 3 then
      if ((t.stn stn).readout.map (·.reading)).getD false then ok s
      else
        let gone := t.streamAbsent stn (off / 32)
        ok (offerMsg stn (regrd tag (b2n gone) [if gone then 0 else cap]) t)
    else
      let (ws, t) := readStn stn page off (wideSpan page (4 * off)) (bitOf m.head 9) t
      ok (offerMsg stn (regrd tag 0 ws) t)

/-- Clearing LAT bits frees the latches of their entries (R361). -/
def freeLatches (n base v : Nat) (s : State) : State :=
  (bitsSet 32 v).foldl (fun s e =>
    let w := s.bnd n (base + e) 0
    s.wrN (R.STN_RST_ENT n (base + e) 0) (setBit w 11 false)) s

/-- Every context of a STN_EPOCH word that changes (R287). -/
def writeEpochWord (n i v : Nat) (s : State) : State :=
  (List.range 4).foldl (fun s j =>
    let e := bitsOf v (8 * j) 8
    if s.stnEpoch n (4 * i + j) == e then s else stnSetEpoch n (4 * i + j) e s) s

/-- One word of the deadline page, written by the hub or by a master (R290). A write for an epoch change under way is the late one. -/
def writeDlWord (n b v : Nat) (s : State) : State :=
  let a := deadlinePageBase + 0x800 * n + b
  if b = 8 ∨ b = 0xC then ackLatches n (b == 0xC) v s
  else if 0x40 ≤ b ∧ b < 0x100 then s.wrN a v
  else if 0x100 ≤ b ∧ b < 0x200 then
    let s := writeEpochWord n ((b - 0x100) / 4) v s
    if s.dl.lateStations.contains n then
      modDl (fun d => { d with lateStations := d.lateStations.filter (· != n) }) (s.fs (F.STN_DL_STAT_EPOCH_LATE n) 1)
    else s
  else plainWrite a (BitVec.ofNat 32 v) s

def writeRstWord (n b v : Nat) (s : State) : State :=
  let s := plainWrite (resetPageBase + 0x800 * n + b) (BitVec.ofNat 32 v) s
  if b = 8 then freeLatches n 0 v s else if b = 0xC then freeLatches n 32 v s else s

/-- A word of a control core's debug block (R50): the high word completes an address (R5, R51). -/
def writeDbgWord (n b v : Nat) (s : State) : State :=
  let u := 16 * n + (b - 0x600) / 32
  let k := b % 32
  if (s.port u).ty != 1 then s
  else if k = 0 then writeDbgCtl u v s
  else if k = 8 then s.fs (F.DBG_SEL_IDX n (u % 16)) v
  else if k = 0xC then setPort u { s.port u with dbgLo := some v } s
  else if k = 0x10 then
    let lo := (s.port u).dbgLo.getD (s.dbgAddr u % 2 ^ 32)
    writeDbgAddr u (lo + 2 ^ 32 * v) (setPort u { s.port u with dbgLo := none } s)
  else if k = 0x18 then writeDbgCmd u (v % 4) s
  else s

/-- A word of the station window. STN_SH_CFG, written by the hub after verification, releases the package states (R135, R150); a time
load goes to a rib or to all (R106), an operator's write of STN_TS_STAT to one station. A write of STN_BP_FEED acts on a local drain that holds
(log entry 119). -/
def writeWinWord (n grp b v : Nat) (s : State) : State :=
  let a := stationBase + 0x800 * n + b
  if 0x600 ≤ b then writeDbgWord n b v s
  else if 0x5A0 ≤ b ∧ b < 0x5C0 then withHolds n (fun s => s.wrN a v) s
  else if b = 0x5C0 then releasePkg n (s.wrN a (v % 2 ^ 25))
  else if grp ≠ 0 ∧ 0x5E0 ≤ b ∧ b < 0x5EC then s.wrN a v
  else if grp ≠ 0 ∧ b = 0x5EC then unload n v s
  else plainWrite a (BitVec.ofNat 32 v) s

def writeStnWord (n page grp b v : Nat) (s : State) : State :=
  if page = 0 then writeWinWord n grp b v s else if page = 1 then writeDlWord n b v s else if page = 2 then writeRstWord n b v s else s

/-- The words of a REG_WR, lowest first. -/
def writeStn (n page grp : Nat) : Nat → List Nat → State → State
  | _, [], s => s
  | b, v :: vs, s => writeStn n page grp (b + 4) vs (writeStnWord n page grp b v s)

/-- Is a REG_WR one of the pages this operation acts on; the security page and the latch acknowledgements are taken by their own
commands. -/
def plainRegWr (m : DownMsg) : Bool :=
  !bitOf m.head 11 && m.head % 2 ^ 12 != 512 + 2 && m.head % 2 ^ 12 != 512 + 3

/-- The station acts on a REG_WR (R73, R74). -/
def execStationRegWr (stn : Nat) (s : State) : Outcome State Fault Refusal := s.act fun s =>
  match takeInbox stn 0 plainRegWr s with
  | none => ok s
  | some (m, s) => ok (writeStn stn (bitsOf m.head 9 2) m.grp (4 * (m.head % 512)) m.words s)

/-! ### Answers (R74, R97) -/

/-- A station fails verification (R97 step 4). -/
def verifyFail (n : Nat) (s : State) : State :=
  let r := n / 64
  if !(s.rib r).verifyLeft.contains n then s
  else
    let s := s.fs F.SLOT_MISMATCH_VERIFY (setBit (s.fg F.SLOT_MISMATCH_VERIFY) r true)
    let s := (s.fs F.SLOT_STAT_ERR 10).fs F.SLOT_STAT_WHERE n
    let s := centralFault cSlotMismatch 0 none 0 (n + 2 ^ 10) 0 s
    degradeRib r 5 s.nextFrameTs s

/-- The STN_SH_CFG word (R135). -/
def State.shCfgWord (s : State) : Nat := s.shH + 2 ^ 8 * s.shE + 2 ^ 16 * s.shW + 2 ^ 24

/-- Every copy the hub holds of a station's configuration, after its verification (R587), marked as a copy: what the station holds already
changes nothing there. -/
def resendStation (n : Nat) (s : State) : State :=
  let s := sendRegWr 0 n 0 (0x5C0 / 4) [s.shCfgWord] s
  let s := modStn n (fun x => { x with rowShadow := [] }) s
  let s := (List.range 32).foldl (fun s r =>
    match s.rowCtx r with
    | some ctx => giveRow n ctx ((List.range 16).map (fun b => s.rd64 (R.BUD_LO r b) (R.BUD_HI r b))) s
    | none => s) s
  let s := sendPolicies 0 n s
  let s := (List.range 64).foldl (fun s i => sendRegWr 0 n 1 (0x40 + i) [s.rdN (R.CTX_EPOCH i)] s) s
  let s := (List.range 16).foldl (fun s i =>
    match mget? s.ctr.copies (16 * n + i) with
    | some c => sendDownAs true 0 n 5 0 (cfgWords (s.applyFrame 0 n 5 % 2 ^ 32) i c) s
    | none => s) s
  let s := resendTrace n s
  let s := (List.range 64).foldl (fun s i =>
    if s.fb (F.STRIA_CFG_ARMED i) then sendSlot true 0 n (s.applyFrame 0 n 8) i s else s) s
  resendSec n (giveAttr n s)

/-- A retrain with frames running ends (R85): every station of the rib has been verified, and two consecutive echoes were right. -/
def retrainEnds (r : Nat) (s : State) : State :=
  let b := s.rib r
  if b.retrain && b.echoChecked && decide (2 ≤ b.echoGood) then
    modRib r (fun b => { b with retrain := false }) (s.fs F.CANE_CTL_RETRAIN (setBit (s.fg F.CANE_CTL_RETRAIN) r false))
  else s

/-- A rib's last station has been verified (R97 steps 5 and 6): the echo criterion applies from the next frame, LIVE is settled, and
the time of a rib that joins a live package is loaded (R106). -/
def ribVerified (r : Nat) (s : State) : State :=
  let was := s.fb F.SLOT_STAT_LIVE
  let s := retrainEnds r (modRib r (fun b => { b with echoChecked := true, echoBad := 0, echoFrom := s.frameNow + 1 }) s)
  let s := checkLive s
  showApplied (showLoaded (s.when was (loadTime 1 r)))

/-- A station's two words are right. -/
def stationVerified (n : Nat) (s : State) : State :=
  let r := n / 64
  let s := modRib r (fun b => { b with verifyLeft := b.verifyLeft.filter (· != n), verifyGot := b.verifyGot.filter (· != n) }) s
  let s := resendStation n s
  s.when (s.rib r).verifyLeft.isEmpty (ribVerified r)

/-- The answer to one of a station's two verification reads (R97 step 3). -/
def verifyWord (crc : Bool) (n v : Nat) (s : State) : State :=
  let r := n / 64
  if !(s.rib r).verifyLeft.contains n then s
  else
    let good := if crc then
        (match s.stnImage? n with | some i => v == crc32c (bytesOfWords (slotLoadWords i)) | none => false)
      else bitOf v 10 && v % 1024 == n
    if !good then verifyFail n s
    else if (s.rib r).verifyGot.contains n then stationVerified n s
    else modRib r (fun b => { b with verifyGot := b.verifyGot ++ [n] }) s

/-- An answer to a window 1 read of the Rolsal port (R481). -/
def rolsalAnswer (n base words : Nat) (good : Bool) (ws : List Nat) (s : State) : State :=
  match s.rolsal.acc with
  | some a =>
    if a.n = n then
      let s := modRs (fun p => { p with acc := some { a with answer := some (good, ws.headD 0) } }) s
      if 1 < words && good then holdWide 2 base true (ws.drop 1) s else s
    else s
  | none => s

/-- A read is answered: the words go to what waits for them. -/
def answered (a : StnAccess) (good : Bool) (ws : List Nat) (s : State) : State :=
  let w := if good then ws.headD 0 else 0
  match a.use with
  | .posted => s
  | .master id base n =>
    let s := presentRead w s
    if !good then s.fs F.CANE_STAT_SW_ERR 1
    else if 1 < n then holdWide id base true (ws.drop 1) s else s
  | .rolsal n base words => rolsalAnswer n base words good ws (s.when (!good) (fun s => s.fs F.CANE_STAT_SW_ERR 1))
  | .verifyCrc => if good then verifyWord true a.stn w s else s
  | .verifySlot => if good then verifyWord false a.stn w s else s
  | .cmdWord k i => accessWord k i (if good then some w else none) s
  | .collect num what entry => if good then collectWord num a.stn what entry w s else s
  | .stream check strm word => streamWord check strm word (if good then some w else none) s

/-- An access to a station that the network no longer reaches (R74, R587): a read answers 0, a write is discarded; SW_ERR is set. -/
def failAccess (a : StnAccess) (s : State) : State :=
  match a.use with
  | .rolsal n base words => rolsalAnswer n base words true (List.replicate words 0) (s.fs F.CANE_STAT_SW_ERR 1)
  | .verifyCrc => s
  | .verifySlot => s
  | .collect _ _ _ => s
  | .stream c strm w => streamWord c strm w none s
  | _ => answered a false [] (s.fs F.CANE_STAT_SW_ERR 1)

/-- Settle the accesses outstanding at, or waiting for, stations that are out of reach. -/
def settleAccesses (gone : Nat → Bool) (s : State) : State :=
  let l := (s.spine.reads ++ s.spine.readQ).filter (fun a => gone a.stn)
  let s := modSpine (fun p => { p with reads := p.reads.filter (fun a => !gone a.stn), readQ := p.readQ.filter (fun a => !gone a.stn) }) s
  l.foldl (fun s a => failAccess a s) (pumpAccess s.spine.readQ [] s)

/-- Stations out of reach are LOST to a stria read without their FENCE (R587). -/
def loseFences (gone : Nat → Bool) (s : State) : State :=
  match s.stria.running with
  | none => s
  | some r =>
    let left := r.left.filter (fun n => !gone n)
    if left.length = r.left.length then s
    else
      let r := { r with left := left, lost := true }
      let s := modStria (fun t => { t with running := some r }) s
      if left.isEmpty then afterRead (fencesDone r s) else s

/-- Everything that waits for stations out of reach is settled (R587). -/
def settleGone (gone : Nat → Bool) (s : State) : State := loseFences gone (loseCtrReads gone (settleAccesses gone s))

/-- A REGRD arrives whole at the spine. One of a rib that is DEGRADED or cut off, or that no read waits for, is discarded. -/
def execRegrdArrival (stn : Nat) (s : State) : Outcome State Fault Refusal := s.act fun s =>
  match takeAir stn 5 s with
  | none => ok s
  | some (m, s) =>
    if s.unreachable stn then ok s
    else match takeAccess stn (m.head % 256) s with
      | none => ok s
      | some (a, s) => ok (lehrRun (answered a (bitsOf m.head 8 2 == 0) m.words s))

/-- The bound of R74 on a read of w words, in CNCLK; a FAULT message queued ahead adds its 17 slots. -/
def State.readBound (s : State) (n w : Nat) : Nat :=
  match s.stnImage? n with
  | none => 0
  | some i =>
    let d := max 1 (i.slots.length * (16 - s.withholds n) / 16)
    let f := ((s.stn n).queued.filter (fun m => m.kind == 2)).length
    2 + 2 * i.t + 4 + 512 * ((257 + w + d - 1) / d + 1) + 512 * ((17 * f + d - 1) / d)

/-- A verification read has not been answered within its bound (R97 step 4). -/
def execSlotVerifyTimeout (stn : Nat) (s : State) : Outcome State Fault Refusal := s.act fun s =>
  let late (a : StnAccess) : Bool := a.stn == stn && (a.use == .verifyCrc || a.use == .verifySlot) &&
    decide (a.sent + s.readBound stn 1 < s.clk.cyc)
  if s.spine.reads.any late then
    let s := modSpine (fun p => { p with reads := p.reads.filter (fun a => !(a.stn == stn && (a.use == .verifyCrc || a.use == .verifySlot))) }) s
    ok (verifyFail stn s)
  else ok s

/-! ### Accesses of masters to the station window (R74) -/

/-- A read of the station window. -/
def stationRead (id a : Nat) (peek : Bool) (use : Nat → Nat → StnUse) (s : State) : Option Nat × State :=
  pageRead id 0 ((a - stationBase) / 0x800) ((a - stationBase) % 0x800) peek use s

/-- Does a register take a master's write at all (R6). -/
def writable (a : Nat) : Bool :=
  match regRowAt a with
  | some r => r.rw + r.rwl + r.w1c + r.w1s + r.wo != 0
  | none => false

/-- A write of the station window: a counter configuration goes through the hub's copy (R179, R201), a register that takes no write is
left alone. -/
def stationWrite (id a v : Nat) (s : State) : State :=
  let n := (a - stationBase) / 0x800
  let b := (a - stationBase) % 0x800
  if b % 4 != 0 || !writable a || !s.populated n then s
  else if 0x480 ≤ b ∧ b < 0x500 then pcCfgWord id n ((b - 0x480) / 8) (b % 8 == 4) v s
  else winWrite id 0 n b v s

def execStationWindowRead (id addr : Nat) (peek : Bool) (s : State) : Outcome State Fault Refusal := s.act fun s =>
  if addr < stationBase ∨ deadlinePageBase ≤ addr ∨ !s.windowOpen then ok s
  else if addr % 4 != 0 then ok (presentRead 0 s)
  else ok (presentAnswer (s.readGate id addr .operator (stationRead id addr peek (.master id))))

/-- A write of a station window. A misaligned one is ignored before the class is looked at (log entry 116). -/
def execStationWindowWrite (id addr value : Nat) (s : State) : Outcome State Fault Refusal := s.act fun s =>
  ok (if addr < stationBase ∨ deadlinePageBase ≤ addr ∨ addr % 4 ≠ 0 then s else s.gate id addr .operator (stationWrite id addr value))

/-! ### Upstream slots (R65, R69, R71, R567) -/

/-- `n` of a station's own DATA slots: each carries a flit, unless withholding takes the slot. -/
def sendSlots : Nat → Nat → Station → Station
  | 0, _, x => x
  | n + 1, duty, x =>
    let held := decide (x.withhold % 16 < duty)
    let x := { x with withhold := (x.withhold + 1) % 16 }
    sendSlots n duty (if held then x else x.sendFlit)

def execStationUpstreamSend (stn n : Nat) (s : State) : Outcome State Fault Refusal := s.act fun s =>
  if !s.stnSends stn then ok s
  else ok (releaseOvf stn (losslessRelease stn (modStn stn (sendSlots n (s.withholds stn)) s)))

/-! ### Errors (R83, R84) -/

/-- What is wrong with a flit that came in an upstream slot of a rib (R61, R62, R83): 0 parity, 1 framing, a reduction's flags that do not
follow its schedule among it; none where nothing is. -/
def State.upError (s : State) (rib slot f : Nat) : Option Nat :=
  let bad :=
    if slot % 16 = 0 then
      let here := (s.spine.reds.head?).bind (fun r => (redWordAt r s.frameNow (slot / 16)).map (fun p => (p, (r.values[p.1]?).map (·.w))))
      flitType f == 6 && (match here with
        | some (p, w) => bitOf f 4 != (p.2 == 0) || bitOf f 5 != (some (p.2 + 1) == w)
        | none => true)
    else if slot % 16 = 8 then false
    else match s.slotOwner rib slot with
      | some n => outOfOrder f (s.stn n).lastFlit
      | none => outOfOrder f emptyFlit
  if !flitOdd f then some 0 else if !legalUp slot f || bad then some 1 else none

/-- The spine discards what a flit in error was part of (R83): a word of the reduction that runs, whose value is LOST, a NOTE, or the message
in progress, of which the flit may be the TAIL. -/
def dropUp (rib slot : Nat) (s : State) : State :=
  if slot % 16 = 0 then
    match s.spine.reds with
    | r :: rest =>
      (match redWordAt r s.frameNow (slot / 16) with
       | some (i, _) => modSpine (fun p => { p with reds := { r with lost := r.lost ++ [i] } :: rest }) s
       | none => s)
    | [] => s
  else if slot % 16 = 8 then
    match s.noticeOwner rib s.frameNow (slot / 16) with
    | some n => modStn n (fun x => { x with noteAir := x.noteAir.drop 1 }) s
    | none => s
  else match s.slotOwner rib slot with
    | none => s
    | some n =>
      let x := s.stn n
      match x.sending, x.air.getLast? with
      | some m, _ => if x.badSend then s else discardUp n m (setStn n { x with badSend := true } s)
      | none, some m => discardUp n m (setStn n { x with air := x.air.dropLast } s)
      | none, none => s

/-- A flit reaches the spine in a slot of a rib (R83): in error, it is counted, and the flit and the message containing it are discarded. -/
def execUpstreamFlitError (rib slot flit : Nat) (s : State) : Outcome State Fault Refusal := s.act fun s =>
  if !s.spine.running || (mget? s.slot.ribs rib).isNone || s.ribDegraded rib || (s.rib rib).subst then ok s
  else match s.upError rib slot flit with
    | none => ok s
    | some k =>
      let s := if k = 0 then s.fsat (F.CANE_RIB_ERR_PAR rib) 1 else s.fsat (F.CANE_RIB_ERR_FRAMING rib) 1
      ok (ribErrors rib 1 slot (dropUp rib slot s))

/-- A flit reaches a station in a downstream slot (R83): in error, it is counted, and the message or the NOTE
containing it is discarded there. An error in a MARK word is STATION_FRAME_MARK's. -/
def execStationDownstreamError (got : DownFlit) (s : State) : Outcome State Fault Refusal := s.act fun s =>
  let stn := got.stn
  let note := got.slot % 16 == 0
  let bad := !flitOdd got.flit || !legalDown got.slot got.flit || (!note && wrongPlace got.flit got.idx)
  if !s.spine.running || (s.rib (stn / 64)).subst || !bad || (note && decide (got.slot < 48)) then ok s
  else if note then ok (downErrors stn 1 (modStn stn (fun x => { x with noteIn := x.noteIn.drop 1 }) s))
  else if (s.rib (stn / 64)).stopped then ok s
  else ok (downErrors stn 1 (modStn stn (fun x => { x with inbox := x.inbox.drop 1 }) s))

/-- A flit arrives in a slot the station owns. -/
def execStationSlotCollision (stn : Nat) (s : State) : Outcome State Fault Refusal := s.act fun s =>
  if !s.stnSends stn then ok s
  else
    let s := modStn stn (fun x => { x with netErrDue := x.netErrDue + 1 }) (s.fsat (F.STN_NET_ERR_COLL stn) 1)
    ok (pcStation stn 0x83 1 s)

/-- The NET_ERR NOTE of errors counted, or else of a slip (CODE 0), in a NOTICE slot no FAULT announcement takes. -/
def execNetErrNoteSend (stn : Nat) (s : State) : Outcome State Fault Refusal := s.act fun s =>
  let x := s.stn stn
  if !s.stnSends stn || !s.noticeSlot stn || !x.announce.isEmpty then ok s
  else if x.netErrDue != 0 then
    ok (sendNote stn (noteWord 3 (min x.netErrDue 0xFFFF) 0 0) (setStn stn { x with netErrDue := 0 } s))
  else if x.slipDue then ok (sendNote stn (noteWord 3 0 0 0) (setStn stn { x with slipDue := false } s))
  else ok s

/-- A NET_ERR NOTE arrives: counted, its errors weighed (R83, R84); one from a slip sets TIME_STAT.SLIP (R107); in an epoch change
the hub writes the station's epoch itself (R287). -/
def execNetErrNoteArrival (stn : Nat) (s : State) : Outcome State Fault Refusal := s.act fun s =>
  match takeNote stn 3 s with
  | none => ok s
  | some (w, s) =>
    let k := w % 65536
    let s := s.fsat (F.CANE_RIB_ERR_NET_NOTES (stn / 64)) 1
    let s := if k = 0 then s.fs F.TIME_STAT_SLIP 1 else ribErrors (stn / 64) k (s.spineCyc % 512) s
    ok (lateEpoch stn s)

/-! ### Isolation (R81, R82) -/

/-- The isolation input of a rib's switch is asserted. -/
def State.isoAsked (s : State) (r : Nat) : Bool :=
  match mget? s.slot.ribs r with
  | none => false
  | some i => if i.bridged then bitOf s.pins.brIso i.bridge else bitOf s.pins.seamIso i.half

/-- ISO_STAT and the ribs' ABSENT bits as the switches stand. -/
def showIso (s : State) : State :=
  let s := (s.fs F.ISO_STAT_SEAM_ISO s.pins.seamIso).fs F.ISO_STAT_BR_ISO s.pins.brIso
  let on (p : RibImage → Bool) : Bool := s.slot.ribs.any (fun e => (s.rib e.1).subst && p e.2)
  let seam := (List.range 2).foldl (fun m h => m + 2 ^ h * b2n (on (fun i => !i.bridged && i.half == h))) 0
  let br := (List.range 8).foldl (fun m b => m + 2 ^ b * b2n (on (fun i => i.bridged && i.bridge == b))) 0
  let s := (s.fs F.ISO_STAT_SEAM_SUBST seam).fs F.ISO_STAT_BR_SUBST br
  (List.range 16).foldl (fun s r => s.fs (F.CANE_RIB_STAT_ABSENT r) (b2n (s.rib r).subst)) s

/-- A switch begins to substitute for a rib at a frame boundary (R81, R206, R266, R585): nothing is forwarded in either direction. The next
SLOT_LOAD of each of its stations restores it. -/
def startSubst (r : Nat) (s : State) : State :=
  let s := modRib r (fun b => { b with subst := true, training := false, restoring := none, verifyLeft := [], verifyGot := []
                                       echoChecked := false, echoBad := 0, echoGood := 0, stopped := false }) s
  let s := (s.ribStations r).foldl (fun s n =>
    modStn n (fun x => { x with noteIn := [], renew := true }) (dropEntries n (cutOff n s))) s
  showLoaded (checkLive (loseSlots (absentPacket r false (s.tsOfSpine (512 * s.spine.frame)) (showIso s))))

/-- A rib's switch forwards again. -/
def endSubst (r : Nat) (s : State) : State :=
  showLoaded (showIso (modRib r (fun b => { b with subst := false, restoring := none }) s))

/-- The pins as driven. -/
def setIso (seam on : Bool) (point : Nat) (s : State) : State :=
  { s with pins := if seam then { s.pins with seamIso := setBit s.pins.seamIso (point % 2) on }
                   else { s.pins with brIso := setBit s.pins.brIso (point % 8) on } }

def execIsolationAssert (seam : Bool) (point : Nat) (s : State) : Outcome State Fault Refusal :=
  let s := setIso seam true point s
  if !s.runs then ok s else
  ok (showIso (s.ribs.foldl (fun s r => if s.isoAsked r then modRib r (fun b => { b with restoring := none }) s else s) s))

/-- The input falls (R82): the spine trains the rib while the switch keeps substituting; without frames it forwards at once. -/
def releaseRib (r : Nat) (s : State) : State :=
  if !(s.rib r).subst || s.isoAsked r then s
  else if s.spine.running then
    modRib r (fun b => { b with restoring := some s.frameNow, training := true, echoGood := 0, echoBad := 0 }) s
  else endSubst r s

def execIsolationRelease (seam : Bool) (point : Nat) (s : State) : Outcome State Fault Refusal :=
  let s := setIso seam false point s
  if !s.runs then ok s else
  ok (showIso (s.ribs.foldl (fun s r => releaseRib r s) s))

def execRestorationTimeout (rib : Nat) (s : State) : Outcome State Fault Refusal := s.act fun s =>
  match (s.rib rib).restoring with
  | some f => if f + 512 ≤ s.frameNow then ok (degradeRib rib 4 s.nextFrameTs s) else ok s
  | none => ok s

/-! ### Training (R85, R95) -/

/-- CANE_CTL.TRAIN: every populated rib, or all 16 rib ports without a valid image; the bridges take their PAD. -/
def caneTrain (s : State) : State :=
  if s.fb F.CANE_CTL_ENABLE || s.fb F.CANE_CTL_TRAIN then s
  else
    let valid := s.fb F.SLOT_STAT_VALID
    let ribs := if valid then s.ribs else List.range 16
    let pad (b : Nat) : Nat := match s.slot.ribs.find? (fun e => e.2.bridged && e.2.bridge == b) with | some e => e.2.pad | none => 0
    let s := modSpine (fun p => { p with pads := (List.range 8).map (fun b => (b, pad b)) }) s
    ribs.foldl (fun s r => modRib r (fun b => { b with training := true, trainBad := false }) s) (s.fs F.CANE_CTL_TRAIN 1)

/-- CANE_CTL.RETRAIN of one rib: with frames running its slots stop and its stations pass flits through (R585). -/
def caneRetrain (r : Nat) (s : State) : State :=
  if !s.fb F.SLOT_STAT_VALID || (mget? s.slot.ribs r).isNone || bitOf (s.fg F.CANE_CTL_RETRAIN) r then s
  else
    let s := s.fs F.CANE_CTL_RETRAIN (setBit (s.fg F.CANE_CTL_RETRAIN) r true)
    let run := s.spine.running
    let s := modRib r (fun b => { b with training := true, trainBad := false, retrain := true, stopped := run, verifyLeft := []
                                         verifyGot := [], echoChecked := false, echoBad := 0, echoGood := 0
                                         restoring := if b.subst then some s.frameNow else none }) s
    if run then
      settleAccesses (fun n => n / 64 == r) ((s.ribStations r).foldl (fun s n => enterPass n s) s)
    else s

def execCaneTrain (id : Nat) (s : State) : Outcome State Fault Refusal := s.act fun s =>
  ok (s.gate id R.CANE_CTL .operator caneTrain)

def execCaneRetrain (id rib : Nat) (s : State) : Outcome State Fault Refusal := s.act fun s =>
  ok (s.gate id R.CANE_CTL .operator (caneRetrain rib))

/-- A rib trained to another length than the image has (R95). -/
def tEndMismatch (r : Nat) (s : State) : State :=
  centralFault cSlotMismatch 0 none 0 r 0 (s.fs F.SLOT_MISMATCH_TEND (setBit (s.fg F.SLOT_MISMATCH_TEND) r true))

def State.tEndDiffers (s : State) (r : Nat) : Bool :=
  match mget? s.slot.ribs r with
  | some i => s.fg (F.CANE_RIB_STAT_T_END r) != i.tEnd
  | none => false

/-- All ribs have ended their training (R85, R95). A rib that matches has its TEND bit cleared (log entry 118). -/
def trainingEnds (s : State) : State :=
  let s := s.fs F.CANE_CTL_TRAIN 0
  if !s.fb F.SLOT_STAT_VALID then (s.fs F.CANE_STAT_TRAINED 0).fs F.SLOT_STAT_MATCH 0
  else
    let good := s.ribs.filter (fun r => !(s.rib r).trainBad)
    let bad := good.filter s.tEndDiffers
    let s := good.foldl (fun s r => s.fs F.SLOT_MISMATCH_TEND (setBit (s.fg F.SLOT_MISMATCH_TEND) r false)) s
    let s := bad.foldl (fun s r => tEndMismatch r s) s
    let s := match bad with
      | [] => s
      | r :: _ => (s.fs F.SLOT_STAT_ERR 9).fs F.SLOT_STAT_WHERE r
    (s.fs F.CANE_STAT_TRAINED (b2n (good.length == s.ribs.length))).fs F.SLOT_STAT_MATCH (b2n bad.isEmpty)

/-- A retrain has trained its rib to the image's length: the rib is not DEGRADED any more (R84, R95). -/
def undegrade (r : Nat) (s : State) : State :=
  let s := s.fs F.SLOT_MISMATCH_TEND (setBit (s.fg F.SLOT_MISMATCH_TEND) r false)
  (s.fs (F.CANE_RIB_STAT_DEGRADED r) 0).fs F.CANE_STAT_DEGRADED (setBit (s.fg F.CANE_STAT_DEGRADED) r false)

/-- A retrain or a restoration has trained its rib to the image's length; its stations are loaded where frames run (R82, R85). A rib that was
DEGRADED when it was isolated stays so until a retrain, and no SLOT_LOAD reaches it (R84). -/
def retrained (r : Nat) (s : State) : State :=
  let s := s.when (s.rib r).retrain (undegrade r)
  if !s.spine.running then endRibWork r s
  else if s.ribDegraded r then s
  else
    let s := loadRib r s
    if (s.rib r).subst then s else verifyRib r s

/-- The 16 exchanges of a rib end: `trips` are the round trips the spine measured, `parityOk` whether odd parity held on every
flit. -/
def execTrainingComplete (rib : Nat) (trips : List Nat) (parityOk : Bool) (s : State) : Outcome State Fault Refusal := s.act fun s =>
  if !(s.rib rib).training then ok s
  else
    let good := parityOk && trips.length == 16 && trips.all (fun t => t == trips.headD 0)
    let s := modRib rib (fun b => { b with training := false, trainBad := !good }) s
    let s := if good then s.fs (F.CANE_RIB_STAT_T_END rib) ((trips.headD 0 - 2) / 2)
      else if s.fb F.SLOT_STAT_VALID then degradeRib rib 3 s.nextFrameTs s
      else s.fs (F.CANE_RIB_STAT_T_END rib) 0
    if s.fb F.CANE_CTL_TRAIN && !(s.rib rib).retrain then
      ok (if (List.range 16).any (fun r => (s.rib r).training && !(s.rib r).retrain) then s else trainingEnds s)
    else if !good then ok s
    else if s.tEndDiffers rib then
      ok (degradeRib rib 6 s.nextFrameTs (((tEndMismatch rib s).fs F.SLOT_STAT_ERR 9).fs F.SLOT_STAT_WHERE rib))
    else ok (retrained rib s)

/-! ### Frames (R59, R66, R68, R86) -/

/-- Spine cycles the shear tree holds, counted from a new cycle 0 that lies `d` cycles after the old one (R59); the self-test
and its windows count the new frames (R147, R148). -/
def rebaseShear (d : Nat) (h : ShearState) : ShearState :=
  { h with
    reqs := h.reqs.map (fun r => { r with n := r.n - d, d := r.d - d, last := r.last - d })
    cuts := h.cuts.map (fun c => { c with n := c.n - d, commit := c.commit - d, tick := c.tick - d })
    cutAts := h.cutAts.map (fun c => { c with x := c.x - d })
    resumes := h.resumes.map (fun r => { r with issue := r.issue - d })
    symbols := h.symbols.map (fun y => (y.1 - d, y.2))
    runs := (h.runs.filter (fun r => decide (d ≤ r.n + 4))).map (fun r => { r with n := r.n - d })
    testNext := 0
    testFrame := none
    replied := none
    failFrames := [] }

/-- A record that waits for its cut, in the new count of spine cycles. -/
def rebaseWait (d : Nat) (f : StnFault) : StnFault := { f with wait := f.wait.map (fun w => (w.1 - d, w.2 - d)) }

/-- What a station holds in the new count: its records that wait, its open TRACE message, its reductions. -/
def rebaseStn (d : Nat) (x : Station) : Station :=
  { x with
    faults := x.faults.map (rebaseWait d), ovf := x.ovf.map (rebaseWait d)
    noteCyc := none
    trace := { x.trace with openCyc := 0 }
    reds := x.reds.map (fun r => { r with frame := 0 }) }

/-- Spine cycle 0 begins at CNCLK cycle `start` (R59, R104): what counts spine cycles or windows of frames goes on from it. -/
def startSpine (start : Nat) (s : State) : State :=
  let d := start - s.spine.startCyc
  let s := s.stations.foldl (fun s e => modStn e.1 (rebaseStn d) s) s
  let s := modShear (rebaseShear d) s
  modSpine (fun p => { p with
    running := true, startCyc := start, frame := 0, stopAsked := false
    ribs := p.ribs.map (fun b => (b.1, { b.2 with nextCmd := 0, errFrame := none, errFrames := [], restoring := b.2.restoring.map (fun _ => 0) })) }) s

/-- CANE_CTL.ENABLE written 1 (R86, R97): frame 0 begins, at the first CNCLK cycle of a CORECLK cycle (R104), and the stations
of every rib that is not DEGRADED are loaded. -/
def caneEnable (s : State) : State :=
  if s.fb F.CANE_CTL_ENABLE || s.fb F.CANE_STAT_RUNNING || s.fb F.CANE_CTL_TRAIN || !s.fb F.SLOT_STAT_VALID || !s.fb F.SLOT_STAT_MATCH
  then s
  else
    let s := (s.fs F.CANE_CTL_ENABLE 1).fs F.CANE_STAT_RUNNING 1
    let s := startSpine (s.clk.cyc + s.clk.cyc % 2) s
    let s := modSpine (fun p => { p with markTs := s.tsOfSpine 0 }) (s.wr64 R.CANE_FRAME_LO R.CANE_FRAME_HI 0)
    let s := s.ribs.foldl (fun s r => if s.isoAsked r && !(s.rib r).subst then startSubst r s else s) s
    s.ribs.foldl (fun s r => if s.ribDegraded r || (s.rib r).subst then s else verifyRib r (loadRib r s)) s

/-- CANE_CTL.ENABLE written 0: frames stop at the end of the current one. -/
def caneDisable (s : State) : State :=
  modSpine (fun p => { p with stopAsked := p.running }) (s.fs F.CANE_CTL_ENABLE 0)

def caneCtlWrite (v : Nat) (s : State) : State :=
  let s := if bitOf v 0 then caneEnable s else if s.fb F.CANE_CTL_ENABLE then caneDisable s else s
  let s := s.when (bitOf v 1) caneTrain
  (bitsSet 16 (v >>> 16)).foldl (fun s r => caneRetrain r s) s

def execCaneEnable (id : Nat) (s : State) : Outcome State Fault Refusal := s.act fun s =>
  ok (s.gate id R.CANE_CTL .operator caneEnable)

def execCaneDisable (id : Nat) (s : State) : Outcome State Fault Refusal := s.act fun s =>
  ok (s.gate id R.CANE_CTL .operator caneDisable)

/-- A command that waited for a frame completes. -/
def completeWait (k : CmdKey) (s : State) : State :=
  match s.cmd? k with
  | none => s
  | some c => completeCmd k 0 (if c.opcode = 0x21 || c.opcode = 0x22 then s.trcResult else c.result) s

/-- Counter configurations and trace changes whose frame has come complete. -/
def waitsFrame (s : State) : State :=
  let due := (s.ctr.applies.filter (fun c => s.frameDue c.1)).map (·.2) ++ (s.trace.waits.filter (fun c => s.frameDue c.2)).map (·.1)
  let s := modCtr (fun t => { t with applies := t.applies.filter (fun c => !s.frameDue c.1) }) s
  let s := modTrc (fun t => { t with waits := t.waits.filter (fun c => !s.frameDue c.2) }) s
  due.foldl (fun s k => completeWait k s) s

/-- Where frames stop, what waits for one takes effect and completes at once (R587). -/
def settleFrames (s : State) : State :=
  let rows := s.dl.rowLoads
  let due := rows.filterMap (·.2.2.2.1) ++ s.dl.applies.map (·.2) ++ s.ctr.applies.map (·.2) ++ s.stria.applies.map (·.2) ++
    s.trace.waits.map (·.1)
  let clears := s.stria.clears
  let s := modDl (fun d => { d with rowLoads := [], applies := [] }) s
  let s := modTrc (fun t => { t with waits := [] }) (modStria (fun t => { t with clears := [], applies := [] })
    (modCtr (fun t => { t with applies := [] }) s))
  let s := clears.foldl (fun s c => clearSlot c.2 s) s
  let s := rows.foldl (fun s l => showRow l.1 l.2.1 l.2.2.1 s) s
  let s := due.foldl (fun s k => completeWait k s) s
  if s.fb F.DL_STAT_EPOCH_BUSY then endEpoch s else s

/-- Frames stop (R585, R587): messages in progress are abandoned, and everything that needs a station is settled. -/
def stopFrames (s : State) : State :=
  let s := modSpine (fun p => { p with running := false, stopAsked := false }) (s.fs F.CANE_STAT_RUNNING 0)
  let s := (s.slot.stns.map (·.1)).foldl (fun s n => abandonUp n (modStn n (fun x => { x with inbox := [] }) s)) s
  let s := s.ribs.foldl (fun s r =>
    let b := s.rib r
    let s := if b.training && (b.retrain || s.fb F.CANE_CTL_TRAIN) then modRib r (fun b => { b with restoring := none, stopped := false, echoChecked := false }) s
      else endRibWork r s
    releaseRib r s) s
  let s := settleFrames (settleAccesses (fun _ => true) s)
  let s := missReductions (loseCtrReads (fun _ => true) s)
  let s := afterRead (abortRead s)
  lehrRun (if s.cullet.running.isSome then endReadout s else s)

def execFramesStop (s : State) : Outcome State Fault Refusal := s.act fun s =>
  if !s.spine.running || !s.spine.stopAsked || decide (s.spineCyc < 512 * (s.spine.frame + 1)) then ok s
  else
    let s := stopFrames s
    ok (showLoaded ((s.slot.stns.map (·.1)).foldl (fun s n => enterPass n s) s))

/-- The echo of frame f of a rib (R66, R84, R82): `got` is what arrived in NOTICE slot 0 of the frame that has ended. -/
def takeEcho (f r : Nat) (got : Option Nat) (s : State) : State :=
  let b := s.rib r
  if b.training || b.stopped || (b.subst && b.restoring.isNone) then s
  else
    let good := got == some (f % 2 ^ 32)
    let s := modRib r (fun b => if good then { b with echoGood := b.echoGood + 1, echoBad := 0 }
                                else { b with echoGood := 0, echoBad := b.echoBad + b2n (b.echoChecked && decide (b.echoFrom ≤ f)) }) s
    let b := s.rib r
    if b.subst then (if 2 ≤ b.echoGood then (endSubst r s).when (!s.ribDegraded r) (verifyRib r) else s)
    else if b.echoChecked && 2 ≤ b.echoBad then degradeRib r 2 (s.tsOfSpine (512 * (f + 1))) s
    else retrainEnds r s

/-- The echo that a rib end forms for frame f (R66): a loaded station's own, none from one without power or in pass-through mode (R58). -/
def State.ribEcho (s : State) (r f : Nat) : Option Nat :=
  match mget? s.slot.ribs r with
  | none => none
  | some i =>
    let x := s.stn (64 * r + i.lastPos)
    if x.installed && !x.cold then some (f % 2 ^ 32) else none

/-- SEQ_ACTION of frame f at a station (R218): a change of the capture state is applied two frames later. -/
def takeAction (f n : Nat) (s : State) : State :=
  let x := s.stn n
  let t := x.trace
  let run := s.trace.capture
  let id := s.trace.actId
  let seen := match t.actNext.getLast? with | some c => (c.1, c.2.1) | none => (t.run, t.actId)
  if x.passThrough || x.cold || (s.rib (n / 64)).subst || seen == (run, id) then s
  else
    let late := match s.trace.actFrame with | some g => decide (g < f) | none => false
    let s := setStn n { x with trace := { t with actNext := t.actNext ++ [(run, id, f + 2)] } } s
    s.when late (fun s => s.fs (F.STN_TRC_STAT_ACT_LATE n) 1)

/-- The spine sends the capture state in frame f while tracing is enabled. -/
def sendAction (f : Nat) (s : State) : State :=
  if !s.fb F.TRC_CTL_ENABLE then s
  else
    let s := modTrc (fun t => { t with actFrame := some (t.actFrame.getD f) }) (s.fs F.TRC_STAT_RUN (b2n s.trace.capture))
    (s.slot.stns.map (·.1)).foldl (fun s n => takeAction f n s) s

/-- The next frame begins. A rib that `echoes` lists is one whose MARK FRAME echo of the frame that ends did not arrive as its rib end formed
it: with the number listed instead, or, above 2^32 − 1, not at all. -/
def execFrameBoundary (echoes : List (Nat × Nat)) (s : State) : Outcome State Fault Refusal := s.act fun s =>
  if !s.spine.running || s.spine.stopAsked || decide (s.spineCyc < 512 * (s.spine.frame + 1)) then ok s
  else
    let f0 := s.spine.frame
    let f := f0 + 1
    let s := modSpine (fun p => { p with frame := f, markTs := s.tsOfSpine (512 * f) }) (s.wr64 R.CANE_FRAME_LO R.CANE_FRAME_HI f)
    let s := (s.ribs.filter (fun r => !s.ribDegraded r || (s.rib r).restoring.isSome)).foldl (fun s r => takeEcho f0 r (match mget? echoes r with | some v => some v | none => s.ribEcho r f0) s) s
    let s := s.ribs.foldl (fun s r => if s.isoAsked r && !(s.rib r).subst then startSubst r s else s) s
    let s := settleGone s.unreachable s
    let s := (s.slot.stns.map (·.1)).foldl (fun s n =>
      if (s.stn n).loadPend then modStn n (fun x => { x with loadPend := false, installed := true }) s else s) s
    let s := waitsFrame (deadlineFrame (striaFrame s))
    ok (lehrRun (showApplied (sendAction f s)))

/-! ### Loading a station (R96 to R98, R198, R291, R362) -/

/-- What the restoration of an isolated rib leaves of a station's state (R149, R198, R205, R233, R266, R291, R362): its sources start with a
SYNC of REASON RESTORED, or of a lower one. -/
def restoreStation (n : Nat) (s : State) : State :=
  let s := (List.range 16).foldl (fun s p => (List.range 8).foldl (fun s k => (s.wr (R.STN_AO_LO n p k) 0).wr (R.STN_AO_HI n p k) 0) s) s
  let s := (List.range 16).foldl (fun s i => (s.wr (R.STN_PC_LO n i) 0).wr (R.STN_PC_HI n i) 0) s
  let s := attrClear n s
  let s := (s.fs (F.STN_CTR_STAT_RESTARTED n) 1).fs (F.STN_CTR_STAT_CUT_VALID n) 0
  let s := freeWd n (fun _ => true) s
  let s := (((s.wr (R.STN_FLT_LATCH_LO n) 0).wr (R.STN_FLT_LATCH_HI n) 0).wr (R.STN_FLT_REPEAT_LO n) 0).wr (R.STN_FLT_REPEAT_HI n) 0
  let s := (List.range 64).foldl (fun s e => s.wrWords (R.STN_RST_ENT n e 0) [0, 0, 0, 0]) (s.wr (R.STN_FLT_OVF n) 0)
  let s := ((s.wr (R.STN_RST_LAT_LO n) 0).wr (R.STN_RST_LAT_HI n) 0).fs (F.STN_RST_STAT_UNTRACKED n) 0
  let s := s.fs (F.STN_RST_STAT_LAT_UNTRACKED n) 0xFFFF
  let s := withHolds n (fun s => modStn n (fun x => { x with
    ports := x.ports.map (fun p => (p.1, { p.2 with pkg := 0 })) }) s) s
  let s := modStn n (fun x => { x with wrapCtr := [], cutCtr := [], boundary := [], follow := [], bndTouch := [], bndDone := [], faults := [], ovf := none, announce := [], rowShadow := [] }) s
  let s := modStn n (fun x => { x with trace := { x.trace with dict := [], dictPtr := 0 } }) s
  syncStn n 6 s

/-- Install one port of a SLOT_LOAD: NONE by the image, or by a difference of the straps, which is a fault (R98). A port whose straps
are not known yet takes the image's. -/
def installPort (n p : Nat) (i : PortImage) (s : State) : State :=
  let u := 16 * n + p
  let q := s.port u
  let q := if q.strapped || i.ty = 7 then q else { q with strapTy := i.ty, strapCv := i.cvLen }
  let bad := q.strapped && q.differs i
  let s := setPort u { q with asNone := i.ty == 7 || bad } s
  s.when bad (portMismatch u)

/-- What a SLOT_LOAD leaves of its header word in the station's registers, and the station it leaves: out of pass-through, its tables
in use from the next frame boundary. -/
def loadTables (n : Nat) (m : DownMsg) (s : State) : State :=
  let w0 := m.words.headD 0
  let s := ((s.fs (F.STN_NET_T n) w0).fs (F.STN_NET_LOCKED n) 1).fs (F.STN_NET_DATA_SLOTS n) (bitsOf w0 23 9)
  let s := ((s.fs (F.STN_SLOT_LOADED n) 1).fs (F.STN_SLOT_SHCOMP n) (bitsOf w0 8 8)).fs (F.STN_SLOT_PART n) (bitsOf w0 16 4)
  let s := (s.wrN (R.STN_SLOT_CRC n) (crc32c (bytesOfWords m.words))).fs (F.STN_SH_STAT_LOCKED n) 0
  let s := s.fs (F.STN_SH_CFG_VALID n) 0
  modStn n (fun x => { x with passThrough := false, loadPend := true, installed := false, withhold := 0, mark := s.clk.cyc
                              renew := false }) s

/-- A station installs its SLOT_LOAD; it uses its slots from the next frame boundary. -/
def execStationSlotLoad (stn : Nat) (s : State) : Outcome State Fault Refusal := s.act fun s =>
  match takeInbox stn 2 (fun _ => true) s with
  | none => ok s
  | some (m, s) =>
    let s := loadTables stn m (s.when (s.stn stn).renew (restoreStation stn))
    let ports := (bytesOfWords ((m.words.drop 1).take 4)).map portImageOf
    ok ((List.range 16).foldl (fun s p => installPort stn p (ports.getD p {}) s) s)

end Sys2Proof.Machine
end

