-- ==== Sys2Proof/Machine/Domain.lean ====
section
/-! DEFINITION. Clock, cold reset and warm reset of the hub and of the cells (R531 to R545, R521, R554, R557). -/

namespace Sys2Proof.Machine

open Host (Outcome)

def modClk (f : ClockState → ClockState) (s : State) : State := { s with clk := f s.clk }

def modPins (f : PinState → PinState) (s : State) : State := { s with pins := f s.pins }

/-! ### The cells (R537, R542) -/

/-- A port while its cell is held in cold reset: its straps, its inputs, its SH_CMD register. No response to what it drove before
is awaited any more (R140: ACK_PEND is reset). -/
def Port.held (p : Port) : Port :=
  { strapped := p.strapped, strapTy := p.strapTy, strapCv := p.strapCv, shFlat := p.shFlat, on := p.on, rst := p.rst
    shCmd := p.shCmd, ack := p.ack, shLate := true, excl := p.excl, cold := true }

/-- Is an address of the register file one of station n's, on any of its pages. -/
def ofStation (n a : Nat) : Bool := decide (stationBase ≤ a) && (a - stationBase) % 0x200000 / 0x800 == n

/-- A cell in cold reset holds every register at its reset value; a message wholly sent is past it and still arrives. Its FIFO is lost with its
power, and the hub accounts the messages in it (R585). -/
def coldCell (n : Nat) (s : State) : State :=
  let s := abandonUp n s
  let x := s.stn n
  let s := (x.fifo ++ x.wait).foldl (fun s m => discardUp n m s) s
  let s := { s with regs := s.regs.filter (fun r => !ofStation n r.1) }
  setStn n { ports := x.ports.map (fun p => (p.1, p.2.held)), cold := true, pgood := x.pgood, air := x.air, noteAir := x.noteAir, renew := x.renew } s

/-- A cell leaves cold reset: the first cycle of each of its ports (R24), which take a kept SH_CMD as their package state (R542); one that is off or in reset drives NONE (R24). -/
def warmCell (n : Nat) (s : State) : State :=
  let s := modStn n (fun x => { x with
    cold := false, mark := s.clk.cyc
    ports := x.ports.map (fun e => (e.1, { e.2 with cold := false, shSince := s.clk.cyc
                                                    pkg := (if e.2.on && !e.2.rst then e.2.shCmd else 0) })) }) s
  (s.stn n).ports.foldl (fun s e =>
    let u := 16 * n + e.1
    let s := portUp u id s
    s.fs (F.DBG_STAT_SECURE n e.1) (b2n (s.port u).excl)) s

/-- Power-good of the cell's region falls. -/
def execCellColdResetAssert (stn : Nat) (s : State) : Outcome State Fault Refusal :=
  if !(s.stn stn).pgood then ok s
  else ok (showLoaded (coldCell stn (modStn stn (fun x => { x with pgood := false }) s)))

/-- It rises: the region's power-on resets the SH_CMD registers; the cell leaves cold reset unless the hub is in cold reset itself. -/
def execCellColdResetRelease (stn : Nat) (s : State) : Outcome State Fault Refusal :=
  if (s.stn stn).pgood then ok s
  else
    let s := modStn stn (fun x => { x with pgood := true, ports := x.ports.map (fun p => (p.1, { p.2 with shCmd := 0 })) }) s
    ok (if s.runs then warmCell stn s else s)

/-! ### One-time-programmable memory at a reset (R540) -/

/-- A running operation is abandoned; a program may have set some of its bits (free value). -/
def abandonOtp (s : State) : State :=
  match s.otp.running with
  | none => s
  | some o =>
    let s := { s with otp := { s.otp with running := none } }
    if o.err != 0 || o.op ≤ 1 then s
    else
      let (m, s) := randomKey s
      if o.op = 3 then
        let (k, s) := s.free
        if k % 2 = 1 then { s with otp := { s.otp with devKey := some m } } else s
      else if o.value &&& m = 0 then s else otpStore o (o.value &&& m) s

/-! ### Cold reset (R539, R543, R544) -/

/-- HUB_COLD_N is asserted: everything the hub domain and the cells hold goes to its reset value. The queue of commands, the
programmed fields, the carrier's inputs, the cells' straps and SH_CMD registers, and the outside world's record of what was sent stay. -/
def coldReset (s : State) : State :=
  let s := abandonOtp s
  { pending := s.pending, otp := s.otp, fresh := s.fresh
    clk := { cold := true }
    bus := { fabSent := s.bus.fabSent, tag := s.bus.tag }
    pins := { seamIso := s.pins.seamIso, brIso := s.pins.brIso, carReq := s.pins.carReq, carReqN := s.pins.carReqN
              carIdle := s.pins.carIdle }
    stations := s.stations.map (fun e =>
      (e.1, { ports := e.2.ports.map (fun p => (p.1, p.2.held)), cold := true, pgood := e.2.pgood })) }

/-- HUB_COLD_N is asserted; the carrier keeps the root running throughout (R531). -/
def execHubColdAssert (s : State) : Outcome State Fault Refusal := ok (coldReset s)

/-- The central straps take effect (R335, R357, R507, R557). -/
def takeStraps (scope prio : Bool) (s : State) : State :=
  let s := modPins (fun p => { p with rstScopeMode := scope, fabricPrioVc := prio }) s
  let s := loadReheat (b2n scope) (s.fs F.RST_CTL_MODE (b2n scope))
  let s := (s.fs F.RST_STAT_NOPRIO (b2n (!prio))).fs F.NOTICE_STAT_NOPRIO (b2n (!prio))
  (s.fs F.HUB_STAT_STRAP_SCOPE (b2n scope)).fs F.HUB_STAT_STRAP_PRIO (b2n prio)

/-- HUB_COLD_N is released: the dividers start, the straps are sampled, the cells of powered regions leave cold reset, the read
of the one-time-programmable memory begins. Scan mode's behaviour is undefined (R523). -/
def execHubColdRelease (scope prio scan : Bool) (s : State) : Outcome State Fault Refusal :=
  if !s.clk.cold then ok s
  else if scan then .fault .scanMode
  else
    let s := takeStraps scope prio (modClk (fun _ => {}) s)
    let s := showIso (s.fs F.HUB_STAT_RST_CAUSE 1)
    ok ((s.stations.filter (fun e => e.2.pgood)).foldl (fun s e => warmCell e.1 s) s)

/-! ### Warm reset (R540 to R544) -/

/-- The registers HUB_WARM returns to their reset value (R553). SHEAR_TIMING is not one (log entry 120). -/
def dropWarmRegs (s : State) : State :=
  { s with regs := s.regs.filter (fun r => match regRowAt r.1 with | some w => !w.warmReset | none => true) }

/-- The locks of R501 are released (R554). -/
def releaseLocks (s : State) : State :=
  ((s.fs F.TIME_STAT_LOCKED 0).fs F.RST_CTL_LOCK 0).fs F.PRIV_STAT_MAP_LOCKED 0

/-- Trace at a warm reset (R223): what still waits for the ring writer is counted as dropped (R208). -/
def warmTrace (s : State) : State :=
  let s := ((disarmSeq s).fs F.SEQ_STAT_STATE 0).fs F.TRC_STAT_RUN 0
  let s := (s.fs F.TRC_STAT_FROZEN 1).fs F.SEQ_CTL_ARM 0
  let s := (s.fsat F.TRC_GAPS_STIM_LOST (s.trace.queue.filter (fun p => !p.bytes.isEmpty)).length).fsat F.TRC_DROP_AFTER_FREEZE s.trace.wq.length
  let s := modTrc (fun t => { t with queue := [], wq := [], wqLines := 0, window := none, waits := [] }) s
  s.stations.foldl (fun s e => if s.fb (F.STN_TRC_STAT_HOLD e.1) then releaseHold e.1 s else s) s

/-- The running services of the central hub end (R394, R317, R360, R376, R287, R171, R266): rings first, since no interrupted
command has a completion. -/
def endServices (s : State) : State :=
  let s := warmNotice (warmLadder (warmLehr (warmCont (warmRings s))))
  let s := dropGather s
  let s := warmEpoch s
  let s := if s.cullet.running.isSome then endReadout (modCullet (fun c => { c with waiting := none }) s) else s
  let s := modCullet (fun c => { c with running := none, next := none, waiting := none }) (s.fs F.CULLET_STAT_WAITING 0)
  let s := showCtrBusy (modCtr (fun c => { c with reads := [] }) s)
  let s := modStria (fun t => { t with waiting := [], held := [] }) s
  modSpine (fun p => { p with reads := [], readQ := [], reds := [] }) s

/-- The network at a warm reset (R542): frames stop at once; of a rib only its switch keeps a state. -/
def warmCane (s : State) : State :=
  let s := stopFrames (shearDisable s)
  modSpine (fun p => { p with ribs := p.ribs.map (fun e => (e.1, { isoAsked := e.2.isoAsked, subst := e.2.subst })) }) s

/-- What the ribs' status shows while an image is valid. -/
def showRibs (s : State) : State :=
  s.slot.ribs.foldl (fun s e =>
    ((s.fs (F.CANE_RIB_STAT_POP e.1) 1).fs (F.CANE_RIB_STAT_BRIDGED e.1) (b2n e.2.bridged)).fs (F.CANE_RIB_STAT_LAST_POS e.1) e.2.lastPos) s

/-- The hub's boundary under a warm reset (R540): requests outstanding are answered to nobody. -/
def warmPorts (s : State) : State :=
  let s := modPins (fun p => { p with hubInt := 0, mbxIrq := 0, rstqWord := rstqIdle, lastRead := 0 }) s
  { s with bus := { fabSent := s.bus.fabSent, tag := s.bus.tag }, wide := [] }

/-- HUB_WARM_N takes effect. -/
def warmReset (s : State) : State :=
  let s := warmTrace (warmCane (endServices s))
  let s := warmGaffer (clearMailboxes (endCustodian (resetPort true (abandonOtp s))))
  let s := releaseLocks (dropWarmRegs (warmSlot (s.fs F.OTP_STAT_BUSY 0)))
  showLoaded (showIso (showRibs (warmPorts s)))

/-- The assertion acts: a second one before the window has opened again is part of one warm reset (R543). -/
def warmAssert (s : State) : State :=
  let s := if s.clk.windowTakes then warmReset s else s
  modClk (fun c => { c with warm := true, windowTakes := false }) s

/-- The release (R541, R557). -/
def warmRelease (s : State) : State :=
  let s := (s.fs F.HUB_STAT_RST_CAUSE 2).fsat F.HUB_STAT_WARM_COUNT 1
  let s := s.wr64 R.HUB_WARM_TS_LO R.HUB_WARM_TS_HI s.ts
  modClk (fun c => { c with warm := false, warmRelease := s.core }) s

/-- A warm reset within 64 CORECLK of the release of HUB_COLD_N waits until that is complete (R543): `warmPend` counts the
edges of HUB_WARM_N that wait. -/
def State.coldStarts (s : State) : Bool := !s.clk.otpRead && (decide (s.core < 64) || s.clk.warmPend != 0)

def execHubWarmAssert (s : State) : Outcome State Fault Refusal := s.act fun s =>
  if s.coldStarts then ok (if s.clk.warmPend % 2 = 0 then modClk (fun c => { c with warmPend := c.warmPend + 1 }) s else s)
  else if s.clk.warm then ok s
  else ok (warmAssert s)

def execHubWarmRelease (s : State) : Outcome State Fault Refusal := s.act fun s =>
  if s.coldStarts then ok (if s.clk.warmPend % 2 = 1 then modClk (fun c => { c with warmPend := c.warmPend + 1 }) s else s)
  else if s.clk.warm then ok (warmRelease s)
  else ok s

/-- The 64th CORECLK after the release. -/
def execWarmWindowReopen (s : State) : Outcome State Fault Refusal := s.act fun s =>
  if s.clk.warm || s.clk.windowTakes || decide (s.core < s.clk.warmRelease + 64) then ok s
  else ok (modClk (fun c => { c with windowTakes := true }) s)

/-- The hub has read its words of the one-time-programmable memory (R539); a warm reset that waited acts. -/
def execOtpStartupReadDone (s : State) : Outcome State Fault Refusal := s.act fun s =>
  if s.clk.otpRead then ok s
  else
    let k := s.clk.warmPend
    let s := showOtp ((modClk (fun c => { c with otpRead := true, warmPend := 0 }) s).fs F.HUB_STAT_OTP_READY 1)
    ok ((List.range k).foldl (fun s i => if i % 2 = 0 then warmAssert s else warmRelease s) s)

/-! ### The root clock and HUB_ALIVE (R521, R534) -/

/-- The root stops while HUB_COLD_N is released: everything stays as driven, and nothing more happens before a cold reset. -/
def execHubRootClkStop (s : State) : Outcome State Fault Refusal :=
  if s.clk.cold then ok s else ok (modClk (fun c => { c with rootRuns := false }) s)

/-- HUB_ALIVE inverts once every 1,000 CORECLK cycles. -/
def execHubAliveToggle (s : State) : Outcome State Fault Refusal := s.act fun s =>
  if s.clk.aliveCnt < 1000 then ok s
  else ok (modPins (fun p => { p with hubAlive := !p.hubAlive }) (modClk (fun c => { c with aliveCnt := c.aliveCnt - 1000 }) s))

/-- A message of reserved or mismatched KIND is discarded (R515). -/
def execFabricMessageDiscard (s : State) : Outcome State Fault Refusal := s.awake fun s =>
  ok s

end Sys2Proof.Machine
end

