-- ==== Sys2Proof/Machine/Masters.lean ====
section
/-! DEFINITION. The register window as its masters see it (R3 to R7, R496, R508, R509, R553 to R558): one read and one write, which send
each register to the operation of its chapter. -/

namespace Sys2Proof.Machine

open Host (Outcome)

/-! ### Wide registers of the central hub (R5) -/

/-- Low words of the values wider than 32 bits, with their index variables and the words of each. -/
def hubWides : List (Nat × List (Nat × Nat) × Nat) :=
  [(R.HUB_JOB_LO, [], 2), (R.HUB_WARM_TS_LO, [], 2), (R.SQ_BASE_LO 0, [(64, 0x20)], 2), (R.EQ_BASE_LO 0, [(64, 0x20)], 2),
   (R.TIME_INC_LO, [], 2), (R.TS_LO, [], 2), (R.OFFSET_ENT 0 2, [(256, 0x20)], 2), (R.OFFSET_ENT 0 4, [(256, 0x20)], 2),
   (R.CANE_FRAME_LO, [], 2), (R.SLOT_BUILD_LO, [], 2), (R.SHEAR_TICK_LO, [], 2), (R.SHEAR_RESUME_LO, [], 2),
   (R.CULLET_SPILL_LO, [], 2), (R.CULLET_DIR 0 0, [(8, 0x40)], 2), (R.CULLET_DIR 0 6, [(8, 0x40)], 2),
   (R.CULLET_DIR 0 12, [(8, 0x40)], 2)] ++
  [(R.TRC_TRIG_TS_LO, [], 2), (R.TRC_CMP_VAL_LO 0, [(8, 0x20)], 2), (R.TRC_CMP_VMASK_LO 0, [(8, 0x20)], 2),
   (R.HB_LAST_LO 0, [(32, 0x10)], 2), (R.BUD_LO 0 0, [(32, 0x100), (16, 0x8)], 2), (R.FLT_LOG 0 0, [(256, 0x40)], 16),
   (R.LEHR_LAST_START_LO, [], 2), (R.LEHR_LAST_SEAL_LO, [], 2), (R.LEHR_LAST_BYTES_LO, [], 2),
   (R.LEHR_DEST_ADDR_LO 0, [(4, 0x10)], 2), (R.LEHR_PLAN_BASE_LO 0, [(6, 0x80)], 2), (R.RST_DISC_LO, [], 2),
   (R.RHT_TS_LO 0, [(8, 0x8)], 2), (R.NOTICE_LOG 0 0, [(64, 0x40)], 16), (R.LEDGER_BASE_LO, [], 2), (R.MV_RX_BASE_LO, [], 2)]

/-- Which wide value an address lies in: the address of its low word, its words, the place of this word. -/
def wideIn (a : Nat) : List (Nat × List (Nat × Nat) × Nat) → Option (Nat × Nat × Nat)
  | [] => none
  | (base, dims, n) :: rest =>
    match (List.range n).find? (fun k => decide (base + 4 * k ≤ a) && dimsHit dims (a - 4 * k - base)) with
    | some k => some (a - 4 * k, n, k)
    | none => wideIn a rest

def hubWide (a : Nat) : Option (Nat × Nat × Nat) := wideIn a hubWides

/-! ### Values of the central hub's registers -/

/-- HUB_ATTN (R557). -/
def State.hubAttn (s : State) : Nat :=
  let gaf := (List.range 2).any (fun n => s.fb (fRun n) && !s.fb (fReady n))
  ofBits [s.fg F.CANE_STAT_DEGRADED != 0, s.fg F.ISO_STAT_SEAM_SUBST != 0 || s.fg F.ISO_STAT_BR_SUBST != 0,
    s.fb F.SHEAR_STAT_SKEWED, s.fb F.TIME_STAT_SLIP, s.fb F.TRC_STAT_FROZEN, s.fg F.LEHR_STAT_PHASE != 0,
    s.fg F.RST_STAT_STEP != 0 || s.ladder.reheat, s.fb F.DL_STAT_WRAPPED, s.fb F.INT_STAT_RING_ERR, gaf, s.perturbed]
where
  /-- The number whose bits are given, bit 0 first. -/
  ofBits : List Bool → Nat
    | [] => 0
    | b :: bs => b2n b + 2 * ofBits bs

/-- RS_SESS (R491). -/
def State.rsSess (s : State) : Nat :=
  b2n s.hasSession + 2 * (s.rolsal.sessClass - 1) + 2 ^ 8 * s.rolsal.auth.fails

/-- The present value of a register of the central hub; a WO field reads 0 (R6). -/
def State.hubWord (s : State) (r : RegRow) (a : Nat) : Nat :=
  if a = R.HUB_ATTN then s.hubAttn
  else if a = R.HUB_NPEER then s.job.peers.length
  else if a = R.HUB_JOB_LO then s.job.jobId % 2 ^ 32
  else if a = R.HUB_JOB_HI then s.job.jobId >>> 32
  else if a = R.RS_SESS then s.rsSess
  else if a = R.RS_SESS_SERIAL then s.rolsal.auth.serials.headD 0
  else if a = R.TS_LO then s.ts % 2 ^ 32
  else if a = R.TS_HI then s.ts >>> 32
  else if a = R.PRIV_STAT ∨ a = R.PTB_STAT then (showApplied s).rdN a
  else if R.TRC_PORT 0 ≤ a ∧ a < R.TRC_PORT 16 then (s.portCopy (s.fg F.TRC_SEL_STN)).getD ((a - R.TRC_PORT 0) / 4) 0
  else if R.CULLET_APERTURE 0 ≤ a ∧ a < R.CULLET_APERTURE 1024 then
    ofLe (memGetBytes s.cullet.buf (s.fg F.CULLET_APT_BASE * 4096 + (a - R.CULLET_APERTURE 0)) 4)
  else if R.KEEP_APERTURE 0 ≤ a ∧ a < R.KEEP_APERTURE 1024 then s.keepWord ((a - R.KEEP_APERTURE 0) / 4)
  else (s.rd a &&& ~~~ BitVec.ofNat 32 r.wo).toNat

/-- Words of a wide value. -/
def State.hubWords (s : State) (base n : Nat) : List Nat :=
  (List.range n).map (fun k => match regRowAt (base + 4 * k) with | some r => s.hubWord r (base + 4 * k) | none => 0)

/-! ### Reads -/

/-- A read of a register of the central hub by a master that may: the shadows of R5, the clearing of R6, and the two windows of the
gaffer debug block, which step or flag. -/
def readHub (id a : Nat) (r : RegRow) (peek : Bool) (s : State) : Nat × State :=
  if a = R.GAF_MEM_DATA then readGafMem s
  else if a = R.GAF_DBG_DATA 0 then readDbgData 0 s
  else if a = R.GAF_DBG_DATA 1 then readDbgData 1 s
  else
    match hubWide a with
    | some (base, n, 0) =>
      let ws := s.hubWords base n
      (ws.headD 0, holdWide id base true (ws.drop 1) s)
    | some (base, _, k) =>
      ((match s.wideOf id base true with | some ws => ws.getD (k - 1) 0 | none => s.hubWord r a), s)
    | none => (s.hubWord r a, if peek then s else clearRc a s)

/-- A read of the mailbox block and its doorbell words (R440, R445, R454). -/
def readDb (id i a k : Nat) (s : State) : Option Nat × State :=
  if k = 0 then s.readGate id a (if id = i then .open_ else .custodian) (fun s => (some (s.rdN (R.DB_PEND i)), s))
  else if k = 4 then s.readGate id a (if id = i then .open_ else .custodian) (fun s => (some (s.rdN (R.DB_MASK i)), s))
  else if k = 8 && decide (3 ≤ i) && decide (i ≤ 35) then s.readGate id a .operator (fun s => (some (s.rdN (R.DB_CFG i)), s))
  else (some 0, s)

/-- Registers a doorbell page shows its owner (R381). -/
def readPage (id a : Nat) (s : State) : Option Nat × State :=
  let r := (a - R.SQ_DB 0) / 0x1000
  let o := (a - R.SQ_DB 0) % 0x1000
  let own (owner v : Nat) : Option Nat × State := if id = owner then (some v, s) else (some 0, ringRej id s)
  if o = 0 then own (s.fg (F.SQ_CFG_OWNER r)) 0
  else if o = 4 then own (s.fg (F.EQ_CFG_OWNER r)) 0
  else if o = 8 then own (s.fg (F.SQ_CFG_OWNER r)) (sqHeadM s r)
  else if o = 12 then own (s.fg (F.EQ_CFG_OWNER r)) (eqTailM s r)
  else (some 0, s)

/-- The registers of a watch slot: a tenant sees its own slots' words and 0 for every other (R246, R267). -/
def striaSlotOf (a : Nat) : Option Nat :=
  if R.STRIA_CFG 0 ≤ a ∧ a < R.STRIA_CFG 64 then some ((a - R.STRIA_CFG 0) / 0x20) else none

/-- A read of the register window: the value, or none where a station has been asked and answers later. Which reads of a refused class count in
PRIV_REJ where the offset is not defined is log entry 116. -/
def readReg (id a : Nat) (peek : Bool) (use : Nat → Nat → StnUse) (s : State) : Option Nat × State :=
  if a % 4 != 0 then (some 0, s)
  else if deadlinePageBase ≤ a then (some 0, s)
  else if stationBase ≤ a then s.readGate id a .operator (stationRead id a peek use)
  else if 0x093000 ≤ a ∧ a < 0x093800 then s.readGate id a .operator (dlPageRead id (a - 0x093000) peek use)
  else if 0x0B3000 ≤ a ∧ a < 0x0B3800 then s.readGate id a .operator (pageRead id 2 (s.fg F.RST_STN_SEL_STN) (a - 0x0B3000) peek use)
  else if 0x020000 ≤ a ∧ a < 0x022000 then
    let r := mbxRead id ((a - 0x020000) / 0x100) (a % 0x100) peek s
    (some r.1, r.2)
  else if 0x022000 ≤ a ∧ a < 0x022000 + 16 * 53 then readDb id ((a - 0x022000) / 16) a (a % 16) s
  else if 0x022800 ≤ a ∧ a < 0x022810 then (if id ≤ 52 then readDb id id a (a % 16) s else (some 0, s))
  else if R.SQ_DB 0 ≤ a ∧ a < R.SQ_DB 64 then readPage id a s
  else
    match regRowAt a with
    | none => (some 0, s)
    | some r =>
      let go (s : State) : Option Nat × State := let x := readHub id a r peek s; (some x.1, x.2)
      match striaSlotOf a with
      | some i =>
        if s.classOf id = 1 then (if s.fg (F.STRIA_SSTAT_OWNER i) = id then go s else (some 0, s))
        else s.readGate id a .operator go
      | none => s.readGate id a r.rd go

/-- A master's read: one answer for every access the target takes; an access of another size or alignment reads 0 (R4, R509). -/
def masterRead (id a be : Nat) (s : State) : State :=
  if !s.windowOpen then s
  else if be != 15 then presentRead 0 s
  else presentAnswer (readReg id a false (.master id) s)

/-! ### Writes -/

/-- SHEAR_CTL: its own fields, then ENABLE (R151). Where EXT_EN becomes 1 the carrier's pair is sampled from now (R134). -/
def shearCtlWrite (v : Nat) (s : State) : State :=
  let was := s.fg F.SHEAR_CTL_ENABLE
  let ext := s.fb F.SHEAR_CTL_EXT_EN
  let s := plainWrite R.SHEAR_CTL (BitVec.ofNat 32 (v / 2 * 2 + was)) s
  let s := s.when (!ext && s.fb F.SHEAR_CTL_EXT_EN) (modPins (fun p => { p with carFrom := s.clk.cyc }))
  if v % 2 = 1 then (if was = 0 then shearEnable s else s)
  else if was = 1 then shearDisable s else s

/-- TIME_CTL: LOCK before START (R121). -/
def timeCtlWrite (v : Nat) (s : State) : State := (s.when (bitOf v 1) lockTime).when (bitOf v 0) startTime

/-- The whole value of a wide register is written (R5). -/
def wideWrite (base v : Nat) (s : State) : State :=
  if base = R.TIME_INC_LO then writeTimeInc v s
  else if R.LEHR_DEST_CFG 0 ≤ base ∧ base < R.LEHR_DEST_CFG 4 then writeDest ((base - R.LEHR_DEST_CFG 0) / 16) 1 v s
  else if R.LEHR_PLAN_CFG 0 ≤ base ∧ base < R.LEHR_PLAN_CFG 6 then (if s.lehr.running then s else s.wr64 base (base + 4) v)
  else if R.SQ_BASE_LO 0 ≤ base ∧ base < R.SQ_BASE_LO 64 then
    (if s.fb (F.SQ_CTL_EN ((base - R.SQ_BASE_LO 0) / 0x20)) then s else s.wr64 base (base + 4) v)
  else if R.EQ_BASE_LO 0 ≤ base ∧ base < R.EQ_BASE_LO 64 then
    (if s.fb (F.EQ_CTL_EN ((base - R.EQ_BASE_LO 0) / 0x20)) then s else s.wr64 base (base + 4) v)
  else if base = R.LEDGER_BASE_LO then (if s.fb F.CONT_CTL_LEDGER_EN then s else s.wr64 base (base + 4) v)
  else s.wr64 base (base + 4) v

/-- The security block (R491, R504). -/
def writeSecurity (id a v : Nat) (s : State) : State :=
  if a = R.RS_SESS then s.when (bitOf v 3) (rsSessEnd id)
  else if a = R.PRIV_CTL then s.when (bitOf v 0) lockPriv
  else if a = R.SEC_CTL then writeSecCtl v s
  else if R.PRIV_MAP 0 ≤ a ∧ a < R.PRIV_MAP 4 then writePrivMap ((a - R.PRIV_MAP 0) / 4) v s
  else if a = R.OTP_CTL then writeOtpCtl id v s
  else plainWrite a (BitVec.ofNat 32 v) s

/-- Ring registers (R380, R391, R395): CFG is set up only while the ring is disabled. -/
def writeRingReg (a v : Nat) (s : State) : State :=
  let q := a % 0x1000 / 0x20
  let eq := decide (R.EQ_BASE_LO 0 ≤ a)
  if a % 0x20 = 0xC then (if eq then writeEqCtl q v s else writeSqCtl q v s)
  else if a % 0x20 = 0x8 then writeRingSetup eq q a v s
  else plainWrite a (BitVec.ofNat 32 v) s

/-- Timebase, cane network, slot image, shear and cullet. -/
def writeNetReg (a v : Nat) (s : State) : State :=
  if a = R.TIME_CTL then timeCtlWrite v s
  else if a = R.CANE_CTL then caneCtlWrite v s
  else if a = R.SLOT_CTL then slotCtlWrite v s
  else if a = R.SLOT_DATA then slotDataWrite v s
  else if a = R.SHEAR_CTL then shearCtlWrite v s
  else if a = R.SHEAR_TRIG then shearTrig (v % 8) s
  else if a = R.CULLET_READ then s.when (bitOf v 0) (culletGo (v / 2))
  else plainWrite a (BitVec.ofNat 32 v) s

/-- Counters, deadlines, Lehr, reset, continuity. -/
def writeServiceReg (a v : Nat) (s : State) : State :=
  let plain := plainWrite a (BitVec.ofNat 32 v)
  if a = R.CTR_CTL then ctrCtlWrite v s
  else if R.ATTR_CTX_EN 0 ≤ a ∧ a < R.ATTR_CTX_EN 8 then attrCtxWrite ((a - R.ATTR_CTX_EN 0) / 4) v s
  else if R.CTX_POL 0 ≤ a ∧ a < R.CTX_POL 32 then ctxPolWrite ((a - R.CTX_POL 0) / 4) v s
  else if R.POLICY 0 ≤ a ∧ a < R.POLICY 16 then policyWrite ((a - R.POLICY 0) / 4) v s
  else if R.HB_CTL 0 ≤ a ∧ a < R.HB_CTL 32 && a % 16 = 0 then hbCtlWrite ((a - R.HB_CTL 0) / 16) v s
  else if a = R.LEHR_START then lehrStart v s
  else if a = R.LEHR_ABORT then s.when (bitOf v 0) abortDump
  else if R.LEHR_DEST_CFG 0 ≤ a ∧ a < R.LEHR_DEST_CFG 4 then writeDest ((a - R.LEHR_DEST_CFG 0) / 16) (a % 16 / 4) v s
  else if (R.LEHR_BUD_P1 ≤ a ∧ a ≤ R.LEHR_SEAL_RES) ∨ (R.LEHR_PLAN_CFG 0 ≤ a ∧ a < R.LEHR_PLAN_CFG 6) then
    (if s.lehr.running then s else plain s)
  else if a = R.RST_CTL then rstCtlWrite v s
  else if a = R.RST_REQ then rstReq v s
  else if a = R.CONT_CTL then writeContCtl v s
  else if a = R.CONT_ABORT then s.when (bitOf v 0) (failCopy 6)
  else if R.STREAM_MAP 0 ≤ a ∧ a < R.STREAM_MAP 64 then writeStreamMap ((a - R.STREAM_MAP 0) / 4) v s
  else if R.CONT_BUD_REC ≤ a ∧ a ≤ R.CONT_BUD_COPY then (if s.ledgerRuns then s else plain s)
  else plain s

/-- Gaffer cores and perturbation. -/
def writeGafReg (id a v : Nat) (s : State) : State :=
  if a = R.GAF_CTL then writeGafCtl id v s
  else if a = R.GAF_DBG_CTL 0 then writeGafDbg 0 v s
  else if a = R.GAF_DBG_CTL 1 then writeGafDbg 1 v s
  else if a = R.GAF_DBG_DATA 0 then writeDbgData 0 v s
  else if a = R.GAF_DBG_DATA 1 then writeDbgData 1 v s
  else if a = R.GAF_MEM_DATA then writeGafMem v s
  else if a = R.GAF_PATCH_CTL then writePatchCtl v s
  else if a = R.GAF_BLOB_DATA then writeBlob v s
  else if R.GAF_PU_CFG 0 ≤ a ∧ a < R.GAF_PU_CFG 16 ∧ a % 8 = 0 then writeUnit ((a - R.GAF_PU_CFG 0) / 8) v s
  else if a = R.PTB_CTL then writePtbCtl v s
  else if a = R.PTB_STAT then writePtbStat v s
  else if a = R.PTB_FORCE then writePtbForce v s
  else if R.PTB_SLOT ≤ a ∧ a < R.PTB_FORCE then writePtbParam a v s
  else plainWrite a (BitVec.ofNat 32 v) s

/-- A write of one register of the central hub that a row lists and its master may write. -/
def writeWord (id a v : Nat) (s : State) : State :=
  if a < 0x3000 then writeSecurity id a v s
  else if 0x10000 ≤ a ∧ a < 0x12000 then writeRingReg a v s
  else if a = R.INT_MASK_LO then writeMask false v s
  else if a = R.INT_MASK_HI then writeMask true v s
  else if 0x40000 ≤ a ∧ a < 0x60000 then writeNetReg a v s
  else if 0x70000 ≤ a ∧ a < 0xD0000 then writeServiceReg a v s
  else if 0xD0000 ≤ a ∧ a < 0xF0000 then writeGafReg id a v s
  else if R.BIND 0 ≤ a ∧ a < R.BIND 32 then writeBind ((a - R.BIND 0) / 4) v s
  else if a = R.BIND_CTL then s.when (bitOf v 0) lockBind
  else plainWrite a (BitVec.ofNat 32 v) s

/-- A write of the central hub: the low word of a wide register is held, its highest word writes the value (R5). -/
def writeHub (id a : Nat) (r : RegRow) (v : Nat) (s : State) : State :=
  if r.rw + r.rwl = 0 then writeWord id a v s
  else
    match hubWide a with
    | none => writeWord id a v s
    | some (base, _, 0) => holdWide id base false [v] s
    | some (base, _, _) =>
      let lo := match s.wideOf id base false with | some ws => ws.headD 0 | none => s.rdN base
      wideWrite base (lo + 2 ^ 32 * v) (dropWide id base false s)

/-- A write of the doorbell words (R445, R454). -/
def writeDb (id i a k v : Nat) (s : State) : State :=
  if k = 0 then dbGate id i a (clearDb i v) s
  else if k = 4 then dbGate id i a (writeDbMask i v) s
  else if k = 8 && decide (3 ≤ i) && decide (i ≤ 35) then s.gate id a .operator (plainWrite (R.DB_CFG i) (BitVec.ofNat 32 v))
  else s

/-- A write of a doorbell page (R381). -/
def writePage (id a v : Nat) (s : State) : State :=
  let r := (a - R.SQ_DB 0) / 0x1000
  let o := (a - R.SQ_DB 0) % 0x1000
  if o = 0 then dbOwner id (s.fg (F.SQ_CFG_OWNER r)) (sqDoorbell r v) s
  else if o = 4 then dbOwner id (s.fg (F.EQ_CFG_OWNER r)) (eqDoorbell r v) s
  else if o = 8 then dbOwner id (s.fg (F.SQ_CFG_OWNER r)) (fun s => s) s
  else if o = 12 then dbOwner id (s.fg (F.EQ_CFG_OWNER r)) (fun s => s) s
  else s

/-- What a register asks of its writer (R352, R380, R496). -/
def writeNeed (id a : Nat) (r : RegRow) : Need :=
  if 0x10000 ≤ a ∧ a < 0x12000 then ringNeed id
  else if a = R.OTP_CTL then .open_
  else if a = R.REHEAT_MARK then (if id = 3 ∨ (36 ≤ id ∧ id ≤ 51) then .open_ else .operator)
  else r.wr

/-- A write of the register window. Which ignored writes count in PRIV_REJ is log entry 116. -/
def writeReg (id a v : Nat) (s : State) : State :=
  if a % 4 != 0 then s
  else if deadlinePageBase ≤ a then s
  else if stationBase ≤ a then s.gate id a .operator (stationWrite id a v)
  else if 0x093000 ≤ a ∧ a < 0x093800 then s.gate id a .operator (dlPageWrite id (a - 0x093000) v)
  else if 0x0B3000 ≤ a ∧ a < 0x0B3800 then s.gate id a .operator (fun s => s)
  else if 0x020000 ≤ a ∧ a < 0x022000 then mbxWrite id ((a - 0x020000) / 0x100) (a % 0x100) v 0 s
  else if 0x022000 ≤ a ∧ a < 0x022000 + 16 * 53 then writeDb id ((a - 0x022000) / 16) a (a % 16) v s
  else if 0x022800 ≤ a ∧ a < 0x022810 then (if id ≤ 52 then writeDb id id a (a % 16) v s else s)
  else if R.SQ_DB 0 ≤ a ∧ a < R.SQ_DB 64 then writePage id a v s
  else if R.STIM 0 ≤ a ∧ a < R.STIM 32 then stimWrite id ((a - R.STIM 0) / 4) v s
  else if a = R.CUST_GRANT then writeCustGrant id v s
  else
    match regRowAt a with
    | none => s
    | some r =>
      if 0x060000 ≤ a ∧ a < 0x070000 then trcGate id a (trcRegWrite id a v) s
      else if a = R.REHEAT_MARK then s.gate id a (writeNeed id a r) (reheatMark (v % 8))
      else s.gate id a (writeNeed id a r) (writeHub id a r v)

/-- A master's write; an access of another size or alignment is ignored (R4). -/
def masterWrite (id a be v : Nat) (s : State) : State :=
  if !s.windowOpen || be != 15 then s else writeReg id a v s

/-! ### The commands -/

def execRegisterWrite (id addr be value : Nat) (s : State) : Outcome State Fault Refusal := s.act fun s =>
  ok (masterWrite id addr be value s)

/-- A read of a wide register, of whichever of its words; of any other register a plain read. -/
def execWideRegisterLowRead (id addr be : Nat) (s : State) : Outcome State Fault Refusal := s.act fun s =>
  ok (masterRead id addr be s)

/-- A read that clears RC fields. -/
def execRcRegisterRead (id addr be : Nat) (s : State) : Outcome State Fault Refusal := s.act fun s =>
  ok (masterRead id addr be s)

end Sys2Proof.Machine
end

