-- ==== Sys2Proof/Machine/RolsalPort.lean ====
section
/-! DEFINITION. The Rolsal port (R474 to R485): request packets and their responses, the registers that act in the port, the pending C
access, the debug access master of window 1, gaffer run control of window 2, the trace drain of window 3. -/

namespace Sys2Proof.Machine

open Host (Outcome)

/-! ### Requests (R474, R476) -/

def rsOk : Nat := 6
def rsWait : Nat := 3
def rsFault : Nat := 5
def rsAuth : Nat := 2
/-- The undriven line: no response (R476). -/
def rsNone : Nat := 7

/-- DIR of a request: 1 is a read. -/
def rqRead (req : Nat) : Bool := bitOf req 1
def rqWin (req : Nat) : Nat := bitsOf req 2 2
def rqReg (req : Nat) : Nat := bitsOf req 4 8
def rqTag (req : Nat) : Nat := bitsOf req 12 3
/-- Bits 15 to 1 hold an even number of ones. -/
def rqGood (req : Nat) : Bool := popCount 15 (req / 2) % 2 == 0

/-- What a repeat must equal (R478), beside DIR. -/
def rqKey (req : Nat) : Nat × Nat × Nat := (rqWin req, rqReg req, rqTag req)

/-- A register that acts in the hub's CORECLK domain (R491, "C"). -/
def isC (win reg : Nat) : Bool := (win == 1 && reg == 8) || (win == 2 && decide (reg < 96)) || (win == 3 && reg == 2)

/-- The hub drives a response, and data after an OK to a read. -/
def respond (code data : Nat) (s : State) : State := modRs (fun r => { r with response := code, data := data }) s

/-- A read that has started and not yet been released by its OK, or a write that has not completed. -/
def State.rsPending (s : State) : Bool := s.rolsal.acc.isSome || s.rolsal.fresh

def State.rsSticky (s : State) : Bool := s.rolsal.wdataPar || s.rolsal.accErr || s.rolsal.accTmo

/-- The session permits an access to a window (R480). -/
def State.rsMay (s : State) (win : Nat) : Bool :=
  s.hasSession && decide ((if win = 2 then 3 else 2) ≤ s.rolsal.sessClass) && !s.rolsal.renewDue

/-- A packet to windows 1 to 3 is answered OK: it is accepted, and counts towards the renewal (R489). Any other access accepted ends
the chance to repeat the one before it. -/
def rsCount (s : State) : State :=
  modRs (fun r => { r with count := r.count + 1, renewDue := r.renewDue || decide (65536 ≤ r.count + 1) }) (rsAccept s)

/-- What was kept for repeats is dropped. -/
def rsForget (s : State) : State := modRs (fun r => { r with lastRead := none, lastWrite := none, kept := none, fresh := false }) s

/-! ### Window 3: the trace drain (R485) -/

/-- The block that the drain reads. -/
def State.drnBlock (s : State) : Option Block := (s.trace.blocks.drop s.trace.drained).head?

/-- The drain stands at a block boundary: it ends where the ring is read out, the next block would pass the limit, or STOP was asked. -/
def drainBoundary (s : State) : State :=
  if !s.rolsal.drain then s
  else match s.drnBlock with
    | none => endDrain 1 s
    | some b =>
      let r := s.rolsal
      if r.drnLimit != 0 && decide (r.drnLimit * 4096 < r.drnCount + 64 * b.lines) then endDrain 2 s
      else if r.drnStop then endDrain 3 s
      else modRs (fun r => { r with drnWord := 0, drnOrd := s.drainOrd }) s

/-- TRC_RD has been moved by another hand: the drain goes on at the block it now names. -/
def drainFollow (s : State) : State :=
  if s.rolsal.drain && s.rolsal.drnOrd != s.drainOrd then drainBoundary s else s

/-- START: refused while a TRACE_DRAIN runs. -/
def drainStart (s : State) : State :=
  if s.rings.cmds.any (fun c => c.opcode == 0x23 && c.phase != .accepted && c.phase != .completing) then
    modRs (fun r => { r with drnRefused := true }) s
  else drainBoundary (modRs (fun r => { r with drain := true, drnCount := 0, drnWord := 0, drnStop := false }) s)

/-- STOP takes effect at the next block boundary, which is now where no word of a block has been delivered. -/
def drainStop (s : State) : State :=
  if !s.rolsal.drain then s
  else
    let s := modRs (fun r => { r with drnStop := true }) s
    if s.rolsal.drnWord = 0 then drainBoundary s else s

/-- A write of DRN_CTL: LIMIT, START, STOP. -/
def writeDrnCtl (v : Nat) (s : State) : State :=
  let s := modRs (fun r => { r with drnLimit := bitsOf v 16 16 }) s
  let s := if bitOf v 0 then drainStart s else s
  if bitOf v 1 then drainStop s else s

/-- The next four bytes of the drain, 0 where none runs. -/
def drainWord (s : State) : Nat × State :=
  let s := drainFollow s
  if !s.rolsal.drain then (0, s)
  else match s.drnBlock with
    | some b => (ofLe (ringGet s.trcCap (b.pos + 4 * s.rolsal.drnWord) 4 s.trace.ring), s)
    | none => (0, s)

/-- A word has been delivered: it is consumed, and after a block's last word TRC_RD moves on. -/
def drainConsume (s : State) : State :=
  if !s.rolsal.drain || s.rolsal.drnOrd != s.drainOrd then s
  else match s.drnBlock with
    | none => s
    | some b =>
      let s := modRs (fun r => { r with drnWord := r.drnWord + 1, drnCount := (r.drnCount + 4) % 2 ^ 32 }) s
      if s.rolsal.drnWord < 16 * b.lines then s
      else
        let s := freeDrained (showTrcPtrs (modTrc (fun t => { t with drained := t.drained + 1 }) s))
        drainBoundary (modRs (fun r => { r with drnWord := 0 }) s)

/-! ### Registers of the port (R491) -/

/-- The sticky bits, and the cause. -/
def State.rsBits (s : State) : Nat × Nat := (b2n s.rolsal.wdataPar + 2 * b2n s.rolsal.accErr + 4 * b2n s.rolsal.accTmo, s.rolsal.accCause)

def State.rsStat (s : State) : Nat :=
  let r := s.rolsal
  s.rsBits.1 + 8 * b2n s.rsPending + 16 * b2n s.hasSession + 32 * (r.sessClass - 1) + 128 * b2n r.renewDue + 256 * r.protoErrs +
    2 ^ 16 * r.accCause

/-- Seconds until BEGIN is taken, rounded up. -/
def State.authWait (s : State) : Nat := (s.rolsal.auth.waitUntil - s.ts + 999999999) / 1000000000

def State.authStat (s : State) : Nat :=
  let a := s.rolsal.auth
  a.st + 8 * a.err + 256 * a.fails + 2 ^ 16 * (s.authWait % 128)

/-- The 192 output bytes: the challenge, then HSIG at 0x50 (R487). -/
def State.authOut (s : State) : List Nat :=
  (s.rolsal.auth.out ++ List.replicate 80 0).take 80 ++ toLe 64 s.rolsal.auth.hsig ++ List.replicate 48 0

/-- RS_ERR: the sticky bits and the cause, cleared by the read (R479). -/
def readRsErr (s : State) : Nat × State :=
  (s.rsBits.1 + 8 * s.rolsal.accCause,
    modRs (fun r => { r with wdataPar := false, accErr := false, accTmo := false, accCause := 0 }) s)

def readWin0 (reg : Nat) (s : State) : Nat × State :=
  let r := s.rolsal
  match reg with
  | 0 => (0xCAE5D332, s)
  | 1 => (s.rsStat, s)
  | 2 => readRsErr s
  | 3 => (r.idleTmo + 2 ^ 16 * r.damTmo, s)
  | 4 => (mget s.otp.vals 1 0 % 2 ^ 32, s)
  | 5 => (mget s.otp.vals 1 0 >>> 32, s)
  | 9 => (s.authStat, s)
  | 10 => (r.auth.wptr, s)
  | 12 => (r.auth.seq, s)
  | _ => (if 16 ≤ reg ∧ reg < 64 then leAt s.authOut (4 * (reg - 16)) 4 else 0, s)

/-- RS_CANCEL.CANCEL (R478). -/
def rsCancel (s : State) : State := if s.rsPending then rsAbandon s else s

def writeWin0 (reg v : Nat) (s : State) : State :=
  match reg with
  | 3 => modRs (fun r => { r with idleTmo := v % 2 ^ 16, damTmo := bitsOf v 16 16 }) s
  | 6 => if bitOf v 0 then rsCancel s else s
  | 8 => writeAuthCtl v s
  | 11 => authIn v s
  | 13 => authRenew v s
  | _ => s

/-- The P registers of windows 1 and 3. -/
def readP (win reg : Nat) (s : State) : Nat :=
  let r := s.rolsal
  if win = 1 then (if reg = 0 then r.mode else if reg = 4 then r.addr % 2 ^ 32 else if reg = 5 then r.addr >>> 32 else 0)
  else if win = 3 then
    (if reg = 0 then 2 ^ 16 * r.drnLimit else if reg = 1 then b2n r.drain + 2 * b2n r.drnRefused + 4 * r.drnCause
     else if reg = 3 then r.drnCount else 0)
  else 0

def writeP (win reg v : Nat) (s : State) : State :=
  if win = 1 then
    (if reg = 0 then modRs (fun r => { r with mode := v % 16 }) s
     else if reg = 4 then modRs (fun r => { r with addr := r.addr / 2 ^ 32 * 2 ^ 32 + v % 2 ^ 32 }) s
     else if reg = 5 then modRs (fun r => { r with addr := r.addr % 2 ^ 32 + 2 ^ 32 * (v % 2 ^ 32) }) s
     else s)
  else if win = 3 then
    (if reg = 0 then writeDrnCtl v s
     else if reg = 1 then modRs (fun r => { r with drnRefused := r.drnRefused && !bitOf v 1 }) s
     else s)
  else s

/-! ### C accesses (R478, R481 to R483) -/

/-- Start a C access. -/
def startC (read : Bool) (win reg v : Nat) (s : State) : State :=
  modRs (fun r => { r with accNum := r.accNum + 1
                           acc := some { n := r.accNum + 1, read := read, win := win, reg := reg, value := v, start := s.ts } }) s

/-- DAM_MODE.STEP moves DAM_ADDR after a completed DAM_DATA access. -/
def damStep (s : State) : State :=
  modRs (fun r =>
    let st := bitsOf r.mode 1 2
    { r with addr := if st = 1 then (r.addr + 4) % 2 ^ 64 else if st = 2 then (r.addr + 2 ^ 64 - 4) % 2 ^ 64 else r.addr }) s

/-- The access completes; a read's data is kept for the repeat that releases it. -/
def endC (a : RsAccess) (v : Nat) (s : State) : State :=
  let s := if a.win = 1 then damStep s else s
  modRs (fun r => { r with acc := none, kept := if a.read then some v else r.kept, fresh := a.read }) s

/-- The access ends with an error: no data, and the cause. -/
def failC (cause : Nat) (s : State) : State := modRs (fun r => { r with accErr := true, accCause := cause }) (rsAbandon s)

/-- A bus access or a station access of it has gone out. -/
def waitC (a : RsAccess) (s : State) : State := modRs (fun r => { r with acc := r.acc.map (fun b => { b with out := a.n == b.n }) }) s

/-- One access of DAM_DATA at DAM_ADDR (R481). -/
def damAccess (a : RsAccess) (s : State) : State :=
  let r := s.rolsal
  let peek := bitOf r.mode 3
  if bitOf r.mode 0 then
    if r.addr % 4 != 0 || r.addr >>> 40 != s.node then failC 1 s
    else if a.read then waitC a (lineRead 2 r.addr 1 peek (.rolsal a.n) s)
    else waitC a (lineWrite 2 r.addr (toLe 4 a.value) (.rolsal a.n) s)
  else if r.addr % 4 != 0 || decide (0x400000 ≤ r.addr) then failC 1 s
  else if !s.windowOpen then s
  else if a.read then
    let x := readReg 2 r.addr peek (.rolsal a.n) s
    match x.1 with
    | some v => endC a v x.2
    | none => waitC a x.2
  else endC a 0 (writeReg 2 r.addr a.value s)

/-- A gaffer register through window 2 (R483). -/
def gafAccess (a : RsAccess) (s : State) : State :=
  let addr := 0x0D0000 + 4 * a.reg
  if a.read then
    let x := readReg 2 addr true (.rolsal a.n) s
    endC a (x.1.getD 0) x.2
  else endC a 0 (writeReg 2 addr a.value s)

/-- Go on with an access: perform it, or take the answer it waits for. -/
def performC (a : RsAccess) (s : State) : State :=
  match a.answer with
  | some (good, v) =>
    if bitOf s.rolsal.mode 0 && a.win = 1 && !good then failC 2 s
    else endC a (if good then v else 0) s
  | none =>
    if a.out then s
    else if a.win = 1 then damAccess a s
    else if a.win = 2 then gafAccess a s
    else if a.read then
      let (v, s) := drainWord s
      endC a v s
    else endC a 0 s

/-- DAM_TMO in ns; 0 acts as 100 µs. -/
def State.damTmo (s : State) : Nat := 1000 * (if s.rolsal.damTmo = 0 then 100 else s.rolsal.damTmo)

def execRolsalAccessComplete (s : State) : Outcome State Fault Refusal := s.act fun s =>
  match s.rolsal.acc with
  | some a => if !s.portAlive || s.past (a.start + s.damTmo) then ok s else ok (performC a s)
  | none => ok s

/-- A C access that has not completed in its time is abandoned, whatever comes after (R110, R478). -/
def expireAcc (s : State) : State :=
  match s.rolsal.acc with
  | some a => if s.past (a.start + s.damTmo) then modRs (fun r => { r with accTmo := true }) (rsAbandon s) else s
  | none => s

def execRolsalAccessTimeout (s : State) : Outcome State Fault Refusal := s.act fun s => ok (expireAcc s)

/-- What the port finds when a request comes: a session or an access past its time has ended. -/
def portNow (s : State) : State := expireAcc (expireSession s)

/-! ### Packets (R475, R477, R478) -/

/-- The response to a request of windows 1 to 3 before R478 is asked: AUTH, FAULT, or none of these. -/
def State.rsRefuses (s : State) (win : Nat) : Option Nat :=
  if !s.rsMay win then some rsAuth else if s.rsSticky then some rsFault else none

/-- Deliver the kept data: the first OK releases the access, and consumes a word of the drain. -/
def deliver (s : State) : State :=
  let v := s.rolsal.kept.getD 0
  let first := s.rolsal.fresh
  let drn := match s.rolsal.lastRead with | some k => k.1 == 3 && k.2.1 == 2 | none => false
  let s := rsCount (modRs (fun r => { r with fresh := false, lastWrite := if first then none else r.lastWrite }) s)
  respond rsOk v (if first && drn then drainConsume s else s)

/-- A read of windows 1 to 3 (R478). -/
def readPacket (req : Nat) (s : State) : State :=
  let win := rqWin req
  let reg := rqReg req
  match s.rsRefuses win with
  | some code => respond code 0 s
  | none =>
    if s.rolsal.lastRead == some (rqKey req) then
      if s.rolsal.acc.isSome then respond rsWait 0 s
      else if s.rolsal.kept.isSome then deliver s
      else respond rsOk (readP win reg s) (rsCount s)
    else if s.rsPending then respond rsWait 0 s
    else if isC win reg then
      respond rsWait 0 (startC true win reg 0 (modRs (fun r => { r with lastRead := some (rqKey req), kept := none }) s))
    else respond rsOk (readP win reg s) (modRs (fun r => { r with lastRead := some (rqKey req) }) (rsCount (rsForget s)))

/-- A write of windows 1 to 3 (R478). -/
def writePacket (req v : Nat) (parity : Bool) (s : State) : State :=
  let win := rqWin req
  let reg := rqReg req
  match s.rsRefuses win with
  | some code => respond code 0 s
  | none =>
    if s.rolsal.lastWrite == some (rqKey req) then
      respond rsOk 0 (s.when (!parity) (modRs (fun r => { r with wdataPar := true })) |> rsCount)
    else if s.rsPending then respond rsWait 0 s
    else
      let s := respond rsOk 0 (rsCount (rsForget s))
      if !parity then modRs (fun r => { r with wdataPar := true }) s
      else
        let s := modRs (fun r => { r with lastWrite := some (rqKey req) }) s
        if isC win reg then startC false win reg v s else writeP win reg v s

/-- The hub takes a request: nothing in LOCKOUT or without its clock; a wrong PAR leads to LOCKOUT (R473). A word whose START or DIR
is not that of the packet spells no request of this kind. -/
def takeRequest (read : Bool) (req : Nat) (f : State → State) (s : State) : State :=
  if !s.portAlive || s.rolsal.lockout then respond rsNone 0 s
  else if !bitOf req 0 then s
  else if !rqGood req then
    respond rsNone 0 (modRs (fun r => { r with lockout := true, protoErrs := satAdd 8 r.protoErrs 1 }) s)
  else if rqRead req != read then s
  else f (portNow s)

def execRolsalReadPacket (req : Nat) (s : State) : Outcome State Fault Refusal :=
  ok (takeRequest true req (fun s =>
    if rqWin req = 0 then
      let (v, s) := readWin0 (rqReg req) (rsAccept s)
      respond rsOk v s
    else readPacket req s) s)

/-- `parity` says that the 33 bits of the data phase hold an even number of ones. -/
def execRolsalWritePacket (req value : Nat) (parity : Bool) (s : State) : Outcome State Fault Refusal :=
  ok (takeRequest false req (fun s =>
    if rqWin req = 0 then
      let s := respond rsOk 0 (rsAccept s)
      if parity then writeWin0 (rqReg req) value s else modRs (fun r => { r with wdataPar := true }) s
    else writePacket req value parity s) s)

/-! ### Rows of their own -/

/-- A write to a P register of window 3 under R477 and R478, with a new TAG. -/
def win3Write (f : State → State) (s : State) : State :=
  if !s.portAlive || s.rolsal.lockout then respond rsNone 0 s
  else
    let s := portNow s
    match s.rsRefuses 3 with
    | some code => respond code 0 s
    | none => if s.rsPending then respond rsWait 0 s else f (respond rsOk 0 (rsCount (rsForget s)))

def execRolsalCancel (s : State) : Outcome State Fault Refusal := s.act fun s =>
  ok (win0 rsCancel s)

/-- DRN_CTL.START, with the LIMIT of the same write. -/
def execDrainStart (value : Nat) (s : State) : Outcome State Fault Refusal := s.act fun s =>
  ok (win3Write (fun s => drainStart (modRs (fun r => { r with drnLimit := bitsOf value 16 16 }) s)) s)

/-- DRN_CTL.STOP, with the LIMIT left as it is. -/
def execDrainStop (s : State) : Outcome State Fault Refusal := s.act fun s =>
  ok (win3Write drainStop s)

/-- A read of DRN_DATA is answered OK: the word that the completed access brought is delivered and consumed (R478, R485). -/
def execDrainDataRead (s : State) : Outcome State Fault Refusal := s.act fun s =>
  if !s.portAlive || s.rolsal.lockout then ok (respond rsNone 0 s)
  else
    let s := portNow s
    let mine := match s.rolsal.lastRead with | some k => k.1 == 3 && k.2.1 == 2 | none => false
    match s.rsRefuses 3 with
    | some code => ok (respond code 0 s)
    | none => if mine && s.rolsal.kept.isSome && s.rolsal.acc.isNone then ok (deliver s) else ok (respond rsWait 0 s)

end Sys2Proof.Machine
end

