-- ==== Sys2Proof/Machine/DumpMaster.lean ====
section
/-! DEFINITION. Answers of the dump master and of the fabric port's line writes (R304, R306, R310, R369, R374, R481, R512 to R514), and the
times after which an answer is no longer awaited. -/

namespace Sys2Proof.Machine

open Host (Outcome)

/-- The bytes of a line as a carrier delivers them: 64, each of 8 bits. -/
def lineBytes (data : List Nat) : List Nat := ((data ++ List.replicate 64 0).take 64).map (· % 256)

/-- An answer to a bus access of Rolsal window 1. One that nothing waits for any more is discarded (R478). -/
def rolsalBus (n : Nat) (good : Bool) (v : Nat) (s : State) : State := rolsalAnswer n 0 1 good [v] s

/-- A line of a run is answered, with or without error. -/
def lineAnswer (who : Reader) (addr : Nat) (data : List Nat) (err : Bool) (s : State) : State :=
  match who with
  | .lehr => lehrLine addr data err s
  | .scan => contLine .scan addr data err s
  | .check => contLine .check addr data err s
  | .digest => contLine .digest addr data err s
  | .copy => contLine .copy addr data err s

/-- A read of the dump master returns (R512). -/
def dumpRead (q : LineReq) (data : List Nat) (err : Bool) (s : State) : State :=
  match q.use with
  | .read who => lineAnswer who q.addr data err s
  | .rolsal n => rolsalBus n (!err) (leAt data (q.addr % 64) 4) s
  | _ => s

/-- Reads that Rolsal window 1 has made have DAM_TMO in place of RD_TMO (R478). -/
def LineReq.ofRolsal (q : LineReq) : Bool := match q.use with | .rolsal _ => true | _ => false

/-- A read of the dump master has had no answer within RD_TMO: Lehr abandons its window's reads, every other reader takes the line as
an error. -/
def dumpLate (q : LineReq) (s : State) : State :=
  match q.use with
  | .read .lehr => lehrLate s
  | .read who => contLine who q.addr [] true s
  | _ => s

/-- The time of a request has passed: an answer is too late (R110, R304, R306). -/
def State.lineLate (s : State) (tmo : Nat → Nat) (q : LineReq) : Bool := !q.ofRolsal && s.past (q.issued + tmo q.ident)

/-- The oldest outstanding request whose time has passed. -/
def State.lateLine (s : State) (tmo : Nat → Nat) (l : List LineReq) : Option LineReq :=
  (l.take lineMax).find? (s.lineLate tmo)

def execDumpMasterReadData (tag : Nat) (data : List Nat) (err : Bool) (s : State) : Outcome State Fault Refusal := s.act fun s =>
  match takeLine tag s.ts s.bus.dmpRd with
  | none => ok s
  | some (q, l) =>
    let s := modBus (fun b => { b with dmpRd := l }) s
    ok (if s.lineLate s.rdTmo q then dumpLate q s else dumpRead q (lineBytes data) err s)

def execDumpMasterReadTimeout (s : State) : Outcome State Fault Refusal := s.act fun s =>
  match s.lateLine s.rdTmo s.bus.dmpRd with
  | none =>
    match s.lateLine s.rdTmo s.bus.fabRd with
    | none => ok s
    | some q => ok (dumpLate q (modBus (fun b => { b with fabRd := removeFirst (fun p => p == q) b.fabRd }) s))
  | some q =>
    match takeLine q.tag s.ts s.bus.dmpRd with
    | none => ok s
    | some (q, l) => ok (dumpLate q (modBus (fun b => { b with dmpRd := l }) s))

/-- A line write is acknowledged, or has failed: by an error or for want of an acknowledgement in time. A spilled record whose write
fails is lost (R169). -/
def lineWritten (q : LineReq) (good : Bool) (s : State) : State :=
  match q.use with
  | .dumpWrite copy => dumpAck copy good s
  | .ledgerWrite k => ledgerAck k good s
  | .copyWrite k => settleCopy (copyAck k good s)
  | .spill => lehrRun (s.when (!good) (fun s => s.fs F.CULLET_STAT_SPILL_LOST 1))
  | .rolsal n => rolsalBus n good 0 s
  | .read _ => s

def execDumpMasterWriteAck (tag : Nat) (err : Bool) (s : State) : Outcome State Fault Refusal := s.act fun s =>
  match takeLine tag s.ts s.bus.dmpWr with
  | none => ok s
  | some (q, l) => ok (lineWritten q (!err && !s.lineLate s.wrTmo q) (modBus (fun b => { b with dmpWr := l }) s))

def execDumpMasterWriteTimeout (s : State) : Outcome State Fault Refusal := s.act fun s =>
  match s.lateLine s.wrTmo s.bus.dmpWr with
  | none => ok s
  | some q =>
    match takeLine q.tag s.ts s.bus.dmpWr with
    | none => ok s
    | some (q, l) => ok (lineWritten q false (modBus (fun b => { b with dmpWr := l }) s))

def execFabricWriteAck (tag : Nat) (err : Bool) (s : State) : Outcome State Fault Refusal := s.act fun s =>
  match takeLine tag s.ts s.bus.fabWr with
  | none => ok s
  | some (q, l) => ok (lineWritten q (!err && !s.lineLate s.wrTmo q) (modBus (fun b => { b with fabWr := l }) s))

def execFabricWriteTimeout (s : State) : Outcome State Fault Refusal := s.act fun s =>
  match s.lateLine s.wrTmo s.bus.fabWr with
  | none => ok s
  | some q =>
    match takeLine q.tag s.ts s.bus.fabWr with
    | none => ok s
    | some (q, l) => ok (lineWritten q false (modBus (fun b => { b with fabWr := l }) s))

end Sys2Proof.Machine
end

