-- ==== Sys2Proof/Machine/Clock.lean ====
section
/-! DEFINITION. What one CNCLK cycle in which no command is taken does (R101, R177, R521, R532, R568): the clocks advance, the writer
queue moves on, and the services that only wait for themselves go on. -/

namespace Sys2Proof.Machine

/-- The clocks of one CNCLK cycle: two of them make a CORECLK cycle, in which the package time takes TIME_INC (R101). -/
def clockTick (s : State) : State :=
  let c := s.clk
  let even := (c.cyc + 1) % 2 == 0
  let inc := if even && s.fb F.TIME_STAT_RUN then s.rd64 R.TIME_INC_LO R.TIME_INC_HI else 0
  { s with clk := { c with cyc := c.cyc + 1, acc := (c.acc + inc) % 2 ^ 96, aliveCnt := c.aliveCnt + b2n even } }

/-- Pulses last one cycle. -/
def endPulses (s : State) : State := { s with pins := { s.pins with hubInt := 0 } }

/-- Stations whose TRACE share is full count the cycle (R177, code 0x80). -/
def countFull (s : State) : State :=
  s.stations.foldl (fun s e => if traceShare ≤ e.2.traceUse then pcStation e.1 0x80 1 s else s) s

/-- The writer queue of a perturbed ring writer (R568): one line a cycle, none in the first HOLD of every 16. WR_TS of a block is that of the
cycle in which its first line, with the header, is written (R227). -/
def writerTick (s : State) : State :=
  match s.trace.wq with
  | [] => s
  | (stn, m, l) :: rest =>
    if s.ringHeld && decide (s.clk.cyc % 16 < s.fg F.PTB_RING_HOLD) then s
    else
      let ts := if s.trace.wqLines = 0 then s.ts else s.trace.wqTs
      if s.trace.wqLines + 1 < blockLines (traceBytes m).length then modTrc (fun t => { t with wqLines := t.wqLines + 1, wqTs := ts }) s
      else writeStationBlock ts stn m (bringLoss stn l (modTrc (fun t => { t with wq := rest, wqLines := 0 }) s))

/-- The services that go on when what they waited for has come. -/
def servicesTick (s : State) : State :=
  showApplied (settleTables (settleSuppressed (driveRstq (settleCopy (contResume (lehrRun (portsTick (writerTick s))))))))

/-- Stations act on what they noted for this cycle (R132, R140, R143). -/
def stationsTick (s : State) : State :=
  (s.stations.filter (fun e => !e.2.acts.isEmpty)).foldl (fun s e => runActs e.1 s) s

/-- One CNCLK cycle. Nothing moves in HUB_COLD or without the root clock (R534, R539). -/
def tick (s : State) : State :=
  if !s.runs then s
  else
    let s := countFull (stationsTick (endPulses (clockTick s)))
    if s.clk.warm then s else servicesTick s

end Sys2Proof.Machine
end

