-- ==== Sys2Proof/Machine/Dispatch.lean ====
section
/-! DEFINITION. The meaning of every command: one arm for each constructor, in the order of the opcode table. -/

namespace Sys2Proof.Machine

open Host (Outcome)

/-- The command's effect on everything but the queue. -/
def exec (i : Instr) (s : State) : Host.Outcome State Fault Refusal :=
  match i with
  | .registerWrite id addr be value => Sys2Proof.Machine.execRegisterWrite id addr be value s
  | .wideRegisterLowRead id addr be => Sys2Proof.Machine.execWideRegisterLowRead id addr be s
  | .rcRegisterRead id addr be => Sys2Proof.Machine.execRcRegisterRead id addr be s
  | .uapPowerOff unit => Sys2Proof.Machine.execUapPowerOff unit s
  | .uapPowerOn unit ty cv flat => Sys2Proof.Machine.execUapPowerOn unit ty cv flat s
  | .uapResetAssert unit => Sys2Proof.Machine.execUapResetAssert unit s
  | .uapResetRelease unit => Sys2Proof.Machine.execUapResetRelease unit s
  | .cmdEventBegin unit cken ctx epoch seq layer op bclass queue => Sys2Proof.Machine.execCmdEventBegin unit cken ctx epoch seq layer op bclass queue s
  | .cmdEventEnd unit cken ctx epoch seq layer op bclass queue => Sys2Proof.Machine.execCmdEventEnd unit cken ctx epoch seq layer op bclass queue s
  | .cmdEventAbort unit cken ctx epoch seq layer op bclass queue => Sys2Proof.Machine.execCmdEventAbort unit cken ctx epoch seq layer op bclass queue s
  | .cmdEventSuspend unit cken ctx epoch seq layer op bclass queue => Sys2Proof.Machine.execCmdEventSuspend unit cken ctx epoch seq layer op bclass queue s
  | .cmdEventResume unit cken ctx epoch seq layer op bclass queue => Sys2Proof.Machine.execCmdEventResume unit cken ctx epoch seq layer op bclass queue s
  | .unitIncrementCycle unit cken busy stall errCorr errUncorr rds wrs tx txTc rx rxTc energy trap fltCode => Sys2Proof.Machine.execUnitIncrementCycle unit cken busy stall errCorr errUncorr rds wrs tx txTc rx rxTc energy trap fltCode s
  | .shAckRise unit => Sys2Proof.Machine.execShAckRise unit s
  | .shAckLate unit => Sys2Proof.Machine.execShAckLate unit s
  | .striaTapBeat unit cken mask data fmt coord sample pos queue out scale => Sys2Proof.Machine.execStriaTapBeat unit cken mask data fmt coord sample pos queue out scale s
  | .striaPairAbsorb stn => Sys2Proof.Machine.execStriaPairAbsorb stn s
  | .dbgCtlWrite unit value => Sys2Proof.Machine.execDbgCtlWrite unit value s
  | .dbgAddrWrite unit value64 => Sys2Proof.Machine.execDbgAddrWrite unit value64 s
  | .dbgCmdHalt unit => Sys2Proof.Machine.execDbgCmdHalt unit s
  | .dbgCmdRun unit => Sys2Proof.Machine.execDbgCmdRun unit s
  | .dbgCmdStep unit => Sys2Proof.Machine.execDbgCmdStep unit s
  | .coreHaltedRise unit cause hit => Sys2Proof.Machine.execCoreHaltedRise unit cause hit s
  | .coreHaltedFall unit => Sys2Proof.Machine.execCoreHaltedFall unit s
  | .haltedLate unit => Sys2Proof.Machine.execHaltedLate unit s
  | .secureEnter unit => Sys2Proof.Machine.execSecureEnter unit s
  | .secureExit unit => Sys2Proof.Machine.execSecureExit unit s
  | .itRecord unit cken itKind count addr64 ovf => Sys2Proof.Machine.execItRecord unit cken itKind count addr64 ovf s
  | .dtRecord unit cken dtWr size addr64 data64 ovf => Sys2Proof.Machine.execDtRecord unit cken dtWr size addr64 data64 ovf s
  | .frameBoundary echoes => Sys2Proof.Machine.execFrameBoundary echoes s
  | .upstreamFlitError rib slot flit => Sys2Proof.Machine.execUpstreamFlitError rib slot flit s
  | .stationDownstreamError got => Sys2Proof.Machine.execStationDownstreamError got s
  | .stationSlotCollision stn => Sys2Proof.Machine.execStationSlotCollision stn s
  | .netErrNoteSend stn => Sys2Proof.Machine.execNetErrNoteSend stn s
  | .netErrNoteArrival stn => Sys2Proof.Machine.execNetErrNoteArrival stn s
  | .stationUpstreamSend stn n => Sys2Proof.Machine.execStationUpstreamSend stn n s
  | .stationWindowRead id addr peek => Sys2Proof.Machine.execStationWindowRead id addr peek s
  | .stationWindowWrite id addr value => Sys2Proof.Machine.execStationWindowWrite id addr value s
  | .stationRegRd stn cap => Sys2Proof.Machine.execStationRegRd stn cap s
  | .stationRegWr stn => Sys2Proof.Machine.execStationRegWr stn s
  | .regrdArrival stn => Sys2Proof.Machine.execRegrdArrival stn s
  | .stationReduceReq stn => Sys2Proof.Machine.execStationReduceReq stn s
  | .reducePartnerTimeout stn => Sys2Proof.Machine.execReducePartnerTimeout stn s
  | .reductionSample => Sys2Proof.Machine.execReductionSample s
  | .reductionResult tag => Sys2Proof.Machine.execReductionResult tag s
  | .isolationAssert seam point => Sys2Proof.Machine.execIsolationAssert seam point s
  | .isolationRelease seam point => Sys2Proof.Machine.execIsolationRelease seam point s
  | .restorationTimeout rib => Sys2Proof.Machine.execRestorationTimeout rib s
  | .caneTrain id => Sys2Proof.Machine.execCaneTrain id s
  | .caneRetrain id rib => Sys2Proof.Machine.execCaneRetrain id rib s
  | .trainingComplete rib trips parityOk => Sys2Proof.Machine.execTrainingComplete rib trips parityOk s
  | .caneEnable id => Sys2Proof.Machine.execCaneEnable id s
  | .caneDisable id => Sys2Proof.Machine.execCaneDisable id s
  | .framesStop => Sys2Proof.Machine.execFramesStop s
  | .slotRestart id => Sys2Proof.Machine.execSlotRestart id s
  | .slotDataWrite id value => Sys2Proof.Machine.execSlotDataWrite id value s
  | .slotValidate id => Sys2Proof.Machine.execSlotValidate id s
  | .slotValidationDone => Sys2Proof.Machine.execSlotValidationDone s
  | .stationSlotLoad stn => Sys2Proof.Machine.execStationSlotLoad stn s
  | .slotVerifyTimeout stn => Sys2Proof.Machine.execSlotVerifyTimeout stn s
  | .timeStart id => Sys2Proof.Machine.execTimeStart id s
  | .timeLock id => Sys2Proof.Machine.execTimeLock id s
  | .timeIncWrite id value64 => Sys2Proof.Machine.execTimeIncWrite id value64 s
  | .stationTsLoad stn marksOk => Sys2Proof.Machine.execStationTsLoad stn marksOk s
  | .stationFrameMark stn fInv fPar loInv loPar hiInv hiPar => Sys2Proof.Machine.execStationFrameMark stn fInv fPar loInv loPar hiInv hiPar s
  | .stationMarkTimeout stn => Sys2Proof.Machine.execStationMarkTimeout stn s
  | .gatherPingSend => Sys2Proof.Machine.execGatherPingSend s
  | .gpingReceive node index session t1 => Sys2Proof.Machine.execGpingReceive node index session t1 s
  | .gpongReceive node index session t1 t2 t3 => Sys2Proof.Machine.execGpongReceive node index session t1 t2 t3 s
  | .gatherRoundEnd => Sys2Proof.Machine.execGatherRoundEnd s
  | .gatherSecondRound => Sys2Proof.Machine.execGatherSecondRound s
  | .gatherPeriodicRound => Sys2Proof.Machine.execGatherPeriodicRound s
  | .gatherTimeout => Sys2Proof.Machine.execGatherTimeout s
  | .shearRequestDecided => Sys2Proof.Machine.execShearRequestDecided s
  | .shearCommit => Sys2Proof.Machine.execShearCommit s
  | .stationShearDecode stn a b => Sys2Proof.Machine.execStationShearDecode stn a b s
  | .cutTick => Sys2Proof.Machine.execCutTick s
  | .resumeIssue => Sys2Proof.Machine.execResumeIssue s
  | .resumeTick => Sys2Proof.Machine.execResumeTick s
  | .selftestTestSend => Sys2Proof.Machine.execSelftestTestSend s
  | .selftestReply stn => Sys2Proof.Machine.execSelftestReply stn s
  | .selftestRootCheck wrong => Sys2Proof.Machine.execSelftestRootCheck wrong s
  | .receiverLock root stn => Sys2Proof.Machine.execReceiverLock root stn s
  | .shearEnable id => Sys2Proof.Machine.execShearEnable id s
  | .shearDisable id => Sys2Proof.Machine.execShearDisable id s
  | .shearTrigLatch id => Sys2Proof.Machine.execShearTrigLatch id s
  | .shearTrigFreeze id => Sys2Proof.Machine.execShearTrigFreeze id s
  | .shearTrigDrain id => Sys2Proof.Machine.execShearTrigDrain id s
  | .shearTrigRunOn id => Sys2Proof.Machine.execShearTrigRunOn id s
  | .shearTrigResume id => Sys2Proof.Machine.execShearTrigResume id s
  | .carrierShearRequest sampled => Sys2Proof.Machine.execCarrierShearRequest sampled s
  | .carrierShearPairError level => Sys2Proof.Machine.execCarrierShearPairError level s
  | .cutAtTrigger => Sys2Proof.Machine.execCutAtTrigger s
  | .culletReadGo id types => Sys2Proof.Machine.execCulletReadGo id types s
  | .culletReadoutStart => Sys2Proof.Machine.execCulletReadoutStart s
  | .stationCulletRd stn => Sys2Proof.Machine.execStationCulletRd stn s
  | .stationCulletGroupDone stn vectors => Sys2Proof.Machine.execStationCulletGroupDone stn vectors s
  | .culletMessageArrival stn => Sys2Proof.Machine.execCulletMessageArrival stn s
  | .culletReadoutTimeout => Sys2Proof.Machine.execCulletReadoutTimeout s
  | .stnPcCfgWrite id stn ctr value64 => Sys2Proof.Machine.execStnPcCfgWrite id stn ctr value64 s
  | .stationCtrConfig stn => Sys2Proof.Machine.execStationCtrConfig stn s
  | .counterConfigApply stn => Sys2Proof.Machine.execCounterConfigApply stn s
  | .stationCtrRead stn => Sys2Proof.Machine.execStationCtrRead stn s
  | .counterSample stn => Sys2Proof.Machine.execCounterSample stn s
  | .stationCtrKeys stn => Sys2Proof.Machine.execStationCtrKeys stn s
  | .stationAttrDump stn => Sys2Proof.Machine.execStationAttrDump stn s
  | .counterMessageArrival stn => Sys2Proof.Machine.execCounterMessageArrival stn s
  | .attribMessageArrival stn => Sys2Proof.Machine.execAttribMessageArrival stn s
  | .counterReadTimeout => Sys2Proof.Machine.execCounterReadTimeout s
  | .counterWrapNoteSend stn => Sys2Proof.Machine.execCounterWrapNoteSend stn s
  | .counterWrapNoteArrival stn => Sys2Proof.Machine.execCounterWrapNoteArrival stn s
  | .ctrCtlWrite id value => Sys2Proof.Machine.execCtrCtlWrite id value s
  | .attrCtxEnWrite id index8 value => Sys2Proof.Machine.execAttrCtxEnWrite id index8 value s
  | .traceMessageFlush stn => Sys2Proof.Machine.execTraceMessageFlush stn s
  | .stimWrite id stim value => Sys2Proof.Machine.execStimWrite id stim value s
  | .centralBatchWrite => Sys2Proof.Machine.execCentralBatchWrite s
  | .traceMessageArrival stn => Sys2Proof.Machine.execTraceMessageArrival stn s
  | .trcFreeze id => Sys2Proof.Machine.execTrcFreeze id s
  | .trcClear id => Sys2Proof.Machine.execTrcClear id s
  | .trcCtlWrite id value => Sys2Proof.Machine.execTrcCtlWrite id value s
  | .trcPortWrite id port value => Sys2Proof.Machine.execTrcPortWrite id port value s
  | .trcCmpWrite id cmp word value => Sys2Proof.Machine.execTrcCmpWrite id cmp word value s
  | .trcCtxEnWrite id index8 value => Sys2Proof.Machine.execTrcCtxEnWrite id index8 value s
  | .trcLlWrite id value => Sys2Proof.Machine.execTrcLlWrite id value s
  | .trcRdWrite id value => Sys2Proof.Machine.execTrcRdWrite id value s
  | .seqArm id => Sys2Proof.Machine.execSeqArm id s
  | .seqDisarm id => Sys2Proof.Machine.execSeqDisarm id s
  | .sequencerEvent => Sys2Proof.Machine.execSequencerEvent s
  | .timeComparatorMatch => Sys2Proof.Machine.execTimeComparatorMatch s
  | .triggerNoteSend stn => Sys2Proof.Machine.execTriggerNoteSend stn s
  | .triggerNoteArrival stn => Sys2Proof.Machine.execTriggerNoteArrival stn s
  | .captureStateApply stn => Sys2Proof.Machine.execCaptureStateApply stn s
  | .stationTracePorts stn => Sys2Proof.Machine.execStationTracePorts stn s
  | .stationTraceCmp stn => Sys2Proof.Machine.execStationTraceCmp stn s
  | .stationTraceCtx stn => Sys2Proof.Machine.execStationTraceCtx stn s
  | .stationTraceParam stn => Sys2Proof.Machine.execStationTraceParam stn s
  | .stationTraceResync stn => Sys2Proof.Machine.execStationTraceResync stn s
  | .traceConfigApply stn => Sys2Proof.Machine.execTraceConfigApply stn s
  | .stationStriaSlot stn => Sys2Proof.Machine.execStationStriaSlot stn s
  | .striaSlotApply stn => Sys2Proof.Machine.execStriaSlotApply stn s
  | .stationStriaSettle stn => Sys2Proof.Machine.execStationStriaSettle stn s
  | .striaSettle stn => Sys2Proof.Machine.execStriaSettle stn s
  | .stationStriaRelease stn => Sys2Proof.Machine.execStationStriaRelease stn s
  | .striaTileMessageArrival stn => Sys2Proof.Machine.execStriaTileMessageArrival stn s
  | .striaFenceArrival stn => Sys2Proof.Machine.execStriaFenceArrival stn s
  | .striaFenceTimeout => Sys2Proof.Machine.execStriaFenceTimeout s
  | .budgetRowApply => Sys2Proof.Machine.execBudgetRowApply s
  | .budgetWatchdogExpiry unit => Sys2Proof.Machine.execBudgetWatchdogExpiry unit s
  | .progressWatchdogExpiry unit => Sys2Proof.Machine.execProgressWatchdogExpiry unit s
  | .hbCtlWrite id index32 value => Sys2Proof.Machine.execHbCtlWrite id index32 value s
  | .heartbeatWatchdogExpiry index32 => Sys2Proof.Machine.execHeartbeatWatchdogExpiry index32 s
  | .faultLatchAck stn => Sys2Proof.Machine.execFaultLatchAck stn s
  | .faultRecordCompletion stn => Sys2Proof.Machine.execFaultRecordCompletion stn s
  | .faultNoteSend stn => Sys2Proof.Machine.execFaultNoteSend stn s
  | .faultNoteArrival stn => Sys2Proof.Machine.execFaultNoteArrival stn s
  | .faultMessageArrival stn => Sys2Proof.Machine.execFaultMessageArrival stn s
  | .faultPendingTimeout => Sys2Proof.Machine.execFaultPendingTimeout s
  | .faultLoggedEntryExpiry => Sys2Proof.Machine.execFaultLoggedEntryExpiry s
  | .epochSetSend => Sys2Proof.Machine.execEpochSetSend s
  | .stationEpochNote stn => Sys2Proof.Machine.execStationEpochNote stn s
  | .epochApply => Sys2Proof.Machine.execEpochApply s
  | .deadlinePageAccess id off isWrite value peek => Sys2Proof.Machine.execDeadlinePageAccess id off isWrite value peek s
  | .lehrStartWrite id value => Sys2Proof.Machine.execLehrStartWrite id value s
  | .dumpAccept => Sys2Proof.Machine.execDumpAccept s
  | .lehrPhaseDeadline => Sys2Proof.Machine.execLehrPhaseDeadline s
  | .dumpMasterReadData tag data err => Sys2Proof.Machine.execDumpMasterReadData tag data err s
  | .dumpMasterReadTimeout => Sys2Proof.Machine.execDumpMasterReadTimeout s
  | .dumpMasterWriteAck tag err => Sys2Proof.Machine.execDumpMasterWriteAck tag err s
  | .dumpMasterWriteTimeout => Sys2Proof.Machine.execDumpMasterWriteTimeout s
  | .lehrAbortWrite id => Sys2Proof.Machine.execLehrAbortWrite id s
  | .lehrDestWrite id index4 word value64 => Sys2Proof.Machine.execLehrDestWrite id index4 word value64 s
  | .rstReqGo id value => Sys2Proof.Machine.execRstReqGo id value s
  | .resetAnswerAccepted seq => Sys2Proof.Machine.execResetAnswerAccepted seq s
  | .resetAnswerDone seq => Sys2Proof.Machine.execResetAnswerDone seq s
  | .resetAnswerRefused seq => Sys2Proof.Machine.execResetAnswerRefused seq s
  | .resetAnswerInvalid => Sys2Proof.Machine.execResetAnswerInvalid s
  | .resetStepDeadline => Sys2Proof.Machine.execResetStepDeadline s
  | .chipStepNoAccept => Sys2Proof.Machine.execChipStepNoAccept s
  | .resetCollectTimeout => Sys2Proof.Machine.execResetCollectTimeout s
  | .reheatMarkWrite id value => Sys2Proof.Machine.execReheatMarkWrite id value s
  | .reheatMilestoneDeadline => Sys2Proof.Machine.execReheatMilestoneDeadline s
  | .rstModeWrite id value => Sys2Proof.Machine.execRstModeWrite id value s
  | .noticeFanoutStart => Sys2Proof.Machine.execNoticeFanoutStart s
  | .peerNoticeSend => Sys2Proof.Machine.execPeerNoticeSend s
  | .noticeFanoutDeadline => Sys2Proof.Machine.execNoticeFanoutDeadline s
  | .peerNoticeReceive node bytes => Sys2Proof.Machine.execPeerNoticeReceive node bytes s
  | .peerSilentExpiry => Sys2Proof.Machine.execPeerSilentExpiry s
  | .streamMapWrite id strm value => Sys2Proof.Machine.execStreamMapWrite id strm value s
  | .ledgerScanStart id value => Sys2Proof.Machine.execLedgerScanStart id value s
  | .ledgerScanDone => Sys2Proof.Machine.execLedgerScanDone s
  | .ledgerRecordTimeout => Sys2Proof.Machine.execLedgerRecordTimeout s
  | .ledgerCheckTimeout => Sys2Proof.Machine.execLedgerCheckTimeout s
  | .regionDigestDone => Sys2Proof.Machine.execRegionDigestDone s
  | .digestReqReceive node tag job64 addr64 len64 => Sys2Proof.Machine.execDigestReqReceive node tag job64 addr64 len64 s
  | .digestRspReceive node status tag addr64 len64 digest64 => Sys2Proof.Machine.execDigestRspReceive node status tag addr64 len64 digest64 s
  | .mirrorVerifyTimeout => Sys2Proof.Machine.execMirrorVerifyTimeout s
  | .copyTimeout => Sys2Proof.Machine.execCopyTimeout s
  | .contAbortCopy id => Sys2Proof.Machine.execContAbortCopy id s
  | .fabricWriteAck tag err => Sys2Proof.Machine.execFabricWriteAck tag err s
  | .fabricWriteTimeout => Sys2Proof.Machine.execFabricWriteTimeout s
  | .sqDoorbell id ring value => Sys2Proof.Machine.execSqDoorbell id ring value s
  | .eqDoorbell id ring value => Sys2Proof.Machine.execEqDoorbell id ring value s
  | .ringFetchTurn => Sys2Proof.Machine.execRingFetchTurn s
  | .descriptorAccept => Sys2Proof.Machine.execDescriptorAccept s
  | .descriptorFetchError tag => Sys2Proof.Machine.execDescriptorFetchError tag s
  | .hostReadReturn tag data err => Sys2Proof.Machine.execHostReadReturn tag data err s
  | .hostReadTimeout => Sys2Proof.Machine.execHostReadTimeout s
  | .eventEntryWrite ring => Sys2Proof.Machine.execEventEntryWrite ring s
  | .hostWriteAck tag err => Sys2Proof.Machine.execHostWriteAck tag err s
  | .hostWriteTimeout => Sys2Proof.Machine.execHostWriteTimeout s
  | .eqInterruptTimer => Sys2Proof.Machine.execEqInterruptTimer s
  | .intMaskWrite id hi value => Sys2Proof.Machine.execIntMaskWrite id hi value s
  | .ringEnable id eq ring => Sys2Proof.Machine.execRingEnable id eq ring s
  | .ringDisable id eq ring => Sys2Proof.Machine.execRingDisable id eq ring s
  | .ringZero id eq ring en => Sys2Proof.Machine.execRingZero id eq ring en s
  | .functionReset ident => Sys2Proof.Machine.execFunctionReset ident s
  | .controlGroupReset group => Sys2Proof.Machine.execControlGroupReset group s
  | .nop ring idx => Sys2Proof.Machine.execNop ring idx s
  | .fence ring idx => Sys2Proof.Machine.execFence ring idx s
  | .counterConfig ring idx => Sys2Proof.Machine.execCounterConfig ring idx s
  | .counterRead ring idx => Sys2Proof.Machine.execCounterRead ring idx s
  | .counterReduce ring idx => Sys2Proof.Machine.execCounterReduce ring idx s
  | .energyRead ring idx => Sys2Proof.Machine.execEnergyRead ring idx s
  | .traceConfig ring idx => Sys2Proof.Machine.execTraceConfig ring idx s
  | .traceArm ring idx => Sys2Proof.Machine.execTraceArm ring idx s
  | .traceStop ring idx => Sys2Proof.Machine.execTraceStop ring idx s
  | .traceDrain ring idx => Sys2Proof.Machine.execTraceDrain ring idx s
  | .traceMark ring idx => Sys2Proof.Machine.execTraceMark ring idx s
  | .striaArm ring idx => Sys2Proof.Machine.execStriaArm ring idx s
  | .striaDisarm ring idx => Sys2Proof.Machine.execStriaDisarm ring idx s
  | .striaRead ring idx => Sys2Proof.Machine.execStriaRead ring idx s
  | .cut ring idx => Sys2Proof.Machine.execCut ring idx s
  | .cutAt ring idx => Sys2Proof.Machine.execCutAt ring idx s
  | .resume ring idx => Sys2Proof.Machine.execResume ring idx s
  | .snapshot ring idx => Sys2Proof.Machine.execSnapshot ring idx s
  | .dump ring idx => Sys2Proof.Machine.execDump ring idx s
  | .dumpAbort ring idx => Sys2Proof.Machine.execDumpAbort ring idx s
  | .dumpStatus ring idx => Sys2Proof.Machine.execDumpStatus ring idx s
  | .resetRequest ring idx => Sys2Proof.Machine.execResetRequest ring idx s
  | .reheatStatus ring idx => Sys2Proof.Machine.execReheatStatus ring idx s
  | .ledgerRecord ring idx => Sys2Proof.Machine.execLedgerRecord ring idx s
  | .ledgerCheck ring idx => Sys2Proof.Machine.execLedgerCheck ring idx s
  | .mirrorVerify ring idx => Sys2Proof.Machine.execMirrorVerify ring idx s
  | .copy ring idx => Sys2Proof.Machine.execCopy ring idx s
  | .gather ring idx => Sys2Proof.Machine.execGather ring idx s
  | .noticeSend ring idx => Sys2Proof.Machine.execNoticeSend ring idx s
  | .jobTableLoad ring idx => Sys2Proof.Machine.execJobTableLoad ring idx s
  | .budgetTableLoad ring idx => Sys2Proof.Machine.execBudgetTableLoad ring idx s
  | .contextBind ring idx => Sys2Proof.Machine.execContextBind ring idx s
  | .stationAccess ring idx => Sys2Proof.Machine.execStationAccess ring idx s
  | .mbxGo id ch dir => Sys2Proof.Machine.execMbxGo id ch dir s
  | .mbxRetract id ch dir => Sys2Proof.Machine.execMbxRetract id ch dir s
  | .mbxClaim id ch dir => Sys2Proof.Machine.execMbxClaim id ch dir s
  | .mbxAck id ch dir code => Sys2Proof.Machine.execMbxAck id ch dir code s
  | .mbxCrossDefer ch => Sys2Proof.Machine.execMbxCrossDefer ch s
  | .mbxAckDelayedEffect ch dir => Sys2Proof.Machine.execMbxAckDelayedEffect ch dir s
  | .doorbellClear id target value => Sys2Proof.Machine.execDoorbellClear id target value s
  | .doorbellMaskWrite id target value => Sys2Proof.Machine.execDoorbellMaskWrite id target value s
  | .mbxBindWrite id ch value => Sys2Proof.Machine.execMbxBindWrite id ch value s
  | .mbxBindLock id => Sys2Proof.Machine.execMbxBindLock id s
  | .mbxReqReceive node mop tag off32 value job64 => Sys2Proof.Machine.execMbxReqReceive node mop tag off32 value job64 s
  | .mbxRspReceive node status tag off32 value => Sys2Proof.Machine.execMbxRspReceive node status tag off32 value s
  | .gafRelease id core => Sys2Proof.Machine.execGafRelease id core s
  | .gafReset id core => Sys2Proof.Machine.execGafReset id core s
  | .gafReady core => Sys2Proof.Machine.execGafReady core s
  | .gafServiceDispatch core => Sys2Proof.Machine.execGafServiceDispatch core s
  | .gafYield core => Sys2Proof.Machine.execGafYield core s
  | .gafWatchdogExpiry core => Sys2Proof.Machine.execGafWatchdogExpiry core s
  | .gafDbgHalt id core inSeq => Sys2Proof.Machine.execGafDbgHalt id core inSeq s
  | .gafDbgRun id core => Sys2Proof.Machine.execGafDbgRun id core s
  | .gafDbgStep id core => Sys2Proof.Machine.execGafDbgStep id core s
  | .gafBreakHit core unit => Sys2Proof.Machine.execGafBreakHit core unit s
  | .lockedHaltForce core => Sys2Proof.Machine.execLockedHaltForce core s
  | .gafDbgDataWrite id core value => Sys2Proof.Machine.execGafDbgDataWrite id core value s
  | .gafMemAccess id isWrite value => Sys2Proof.Machine.execGafMemAccess id isWrite value s
  | .patchRestart id => Sys2Proof.Machine.execPatchRestart id s
  | .patchBlobWrite id value => Sys2Proof.Machine.execPatchBlobWrite id value s
  | .patchApply id => Sys2Proof.Machine.execPatchApply id s
  | .patchChecksDone => Sys2Proof.Machine.execPatchChecksDone s
  | .patchScrub unit line => Sys2Proof.Machine.execPatchScrub unit line s
  | .patchUnitWrite id unit value => Sys2Proof.Machine.execPatchUnitWrite id unit value s
  | .rolsalLineReset => Sys2Proof.Machine.execRolsalLineReset s
  | .rolsalReadPacket req => Sys2Proof.Machine.execRolsalReadPacket req s
  | .rolsalWritePacket req value parity => Sys2Proof.Machine.execRolsalWritePacket req value parity s
  | .rolsalAccessComplete => Sys2Proof.Machine.execRolsalAccessComplete s
  | .rolsalAccessTimeout => Sys2Proof.Machine.execRolsalAccessTimeout s
  | .rolsalCancel => Sys2Proof.Machine.execRolsalCancel s
  | .authBegin => Sys2Proof.Machine.execAuthBegin s
  | .authInWrite value => Sys2Proof.Machine.execAuthInWrite value s
  | .authVerify => Sys2Proof.Machine.execAuthVerify s
  | .authVerifyDone => Sys2Proof.Machine.execAuthVerifyDone s
  | .authEnd => Sys2Proof.Machine.execAuthEnd s
  | .authRenewWrite mac => Sys2Proof.Machine.execAuthRenewWrite mac s
  | .rolsalIdleTimeout => Sys2Proof.Machine.execRolsalIdleTimeout s
  | .rolsalSessionExpiry => Sys2Proof.Machine.execRolsalSessionExpiry s
  | .rsSessEndWrite id => Sys2Proof.Machine.execRsSessEndWrite id s
  | .drainStart value => Sys2Proof.Machine.execDrainStart value s
  | .drainStop => Sys2Proof.Machine.execDrainStop s
  | .drainDataRead => Sys2Proof.Machine.execDrainDataRead s
  | .privMapWrite id index4 value => Sys2Proof.Machine.execPrivMapWrite id index4 value s
  | .secEnWrite id on => Sys2Proof.Machine.execSecEnWrite id on s
  | .stationSecurityApply stn => Sys2Proof.Machine.execStationSecurityApply stn s
  | .testEnWrite id on => Sys2Proof.Machine.execTestEnWrite id on s
  | .custGrantWrite id value => Sys2Proof.Machine.execCustGrantWrite id value s
  | .otpRead id field => Sys2Proof.Machine.execOtpRead id field s
  | .otpProgram id field => Sys2Proof.Machine.execOtpProgram id field s
  | .otpGenkey id field => Sys2Proof.Machine.execOtpGenkey id field s
  | .otpOperationDone back => Sys2Proof.Machine.execOtpOperationDone back s
  | .hubColdAssert => Sys2Proof.Machine.execHubColdAssert s
  | .hubColdRelease scope prio scan => Sys2Proof.Machine.execHubColdRelease scope prio scan s
  | .otpStartupReadDone => Sys2Proof.Machine.execOtpStartupReadDone s
  | .hubWarmAssert => Sys2Proof.Machine.execHubWarmAssert s
  | .hubWarmRelease => Sys2Proof.Machine.execHubWarmRelease s
  | .cellColdResetAssert stn => Sys2Proof.Machine.execCellColdResetAssert stn s
  | .cellColdResetRelease stn => Sys2Proof.Machine.execCellColdResetRelease stn s
  | .hubAliveToggle => Sys2Proof.Machine.execHubAliveToggle s
  | .fabricMessageDiscard => Sys2Proof.Machine.execFabricMessageDiscard s
  | .ptbCtlWrite id value => Sys2Proof.Machine.execPtbCtlWrite id value s
  | .ptbParamWrite id reg value => Sys2Proof.Machine.execPtbParamWrite id reg value s
  | .ptbForceWrite id value => Sys2Proof.Machine.execPtbForceWrite id value s
  | .forcedFaultStation stn => Sys2Proof.Machine.execForcedFaultStation stn s
  | .hubRootClkStop => Sys2Proof.Machine.execHubRootClkStop s
  | .deferredHaltTake core => Sys2Proof.Machine.execDeferredHaltTake core s
  | .evKindReserved unit cken => Sys2Proof.Machine.execEvKindReserved unit cken s
  | .upwardDecodeError => Sys2Proof.Machine.execUpwardDecodeError s
  | .warmWindowReopen => Sys2Proof.Machine.execWarmWindowReopen s

end Sys2Proof.Machine
end

