-- ==== Sys2Proof/Safety.lean ====
section
/-! DEFINITION. The terms that claims about the block use. -/

namespace Sys2Proof.Machine

/-- The addressed buffers of the block are in canonical form: trace ring, cullet buffer, slot image store, KEEP area. -/
def State.buffersWf (s : State) : Bool :=
  Memory.wf s.trace.ring && Memory.wf s.cullet.buf && Memory.wf s.slot.store && Memory.wf s.lehr.keep

/-- A part of the state: one field of State. -/
inductive Part where
  | pending
  | regs
  | wide
  | clk
  | pins
  | stations
  | spine
  | slot
  | shear
  | cullet
  | ctr
  | trace
  | stria
  | dl
  | lehr
  | ladder
  | notice
  | rings
  | bus
  | job
  | gather
  | mbx
  | cont
  | otp
  | gaf
  | rolsal
  | fresh
  deriving DecidableEq, Repr

/-- The part is the same in two states. -/
def Part.same (p : Part) (s t : State) : Prop :=
  match p with
  | .pending => t.pending = s.pending
  | .regs => t.regs = s.regs
  | .wide => t.wide = s.wide
  | .clk => t.clk = s.clk
  | .pins => t.pins = s.pins
  | .stations => t.stations = s.stations
  | .spine => t.spine = s.spine
  | .slot => t.slot = s.slot
  | .shear => t.shear = s.shear
  | .cullet => t.cullet = s.cullet
  | .ctr => t.ctr = s.ctr
  | .trace => t.trace = s.trace
  | .stria => t.stria = s.stria
  | .dl => t.dl = s.dl
  | .lehr => t.lehr = s.lehr
  | .ladder => t.ladder = s.ladder
  | .notice => t.notice = s.notice
  | .rings => t.rings = s.rings
  | .bus => t.bus = s.bus
  | .job => t.job = s.job
  | .gather => t.gather = s.gather
  | .mbx => t.mbx = s.mbx
  | .cont => t.cont = s.cont
  | .otp => t.otp = s.otp
  | .gaf => t.gaf = s.gaf
  | .rolsal => t.rolsal = s.rolsal
  | .fresh => t.fresh = s.fresh

/-- The bit of a part in the masks of the footprint lemmas; the queue, which no command changes, has none. -/
def Part.bit : Part → Nat
  | .pending => 0
  | .regs => 0x1
  | .wide => 0x2
  | .clk => 0x4
  | .pins => 0x8
  | .stations => 0x10
  | .spine => 0x20
  | .slot => 0x40
  | .shear => 0x80
  | .cullet => 0x100
  | .ctr => 0x200
  | .trace => 0x400
  | .stria => 0x800
  | .dl => 0x1000
  | .lehr => 0x2000
  | .ladder => 0x4000
  | .notice => 0x8000
  | .rings => 0x10000
  | .bus => 0x20000
  | .job => 0x40000
  | .gather => 0x80000
  | .mbx => 0x100000
  | .cont => 0x200000
  | .otp => 0x400000
  | .gaf => 0x800000
  | .rolsal => 0x1000000
  | .fresh => 0x2000000

/-- The parts a command may change; it leaves every other part as it was. -/
def touched : Instr → List Part
  | .registerWrite _ _ _ _ => [.regs, .wide, .clk, .pins, .stations, .spine, .slot, .shear, .cullet, .ctr, .trace, .stria, .dl, .lehr, .ladder, .notice, .rings, .bus, .gather, .mbx, .cont, .otp, .gaf, .rolsal, .fresh]
  | .wideRegisterLowRead _ _ _ => [.regs, .wide, .pins, .stations, .spine, .mbx, .gaf, .fresh]
  | .rcRegisterRead _ _ _ => [.regs, .wide, .pins, .stations, .spine, .mbx, .gaf, .fresh]
  | .uapPowerOff _ => [.regs, .stations, .shear]
  | .uapPowerOn _ _ _ _ => [.regs, .stations, .shear]
  | .uapResetAssert _ => [.regs, .stations, .shear]
  | .uapResetRelease _ => [.regs, .stations, .shear]
  | .cmdEventBegin _ _ _ _ _ _ _ _ _ => [.regs, .stations, .shear]
  | .cmdEventEnd _ _ _ _ _ _ _ _ _ => [.regs, .stations, .shear]
  | .cmdEventAbort _ _ _ _ _ _ _ _ _ => [.regs, .stations, .shear]
  | .cmdEventSuspend _ _ _ _ _ _ _ _ _ => [.regs, .stations, .shear]
  | .cmdEventResume _ _ _ _ _ _ _ _ _ => [.regs, .stations, .shear]
  | .unitIncrementCycle _ _ _ _ _ _ _ _ _ _ _ _ _ _ _ => [.regs, .stations, .shear]
  | .shAckRise _ => [.regs, .stations]
  | .shAckLate _ => [.regs, .stations, .shear]
  | .striaTapBeat _ _ _ _ _ _ _ _ _ _ _ => [.regs, .stations, .shear, .stria]
  | .striaPairAbsorb _ => [.regs, .stations]
  | .dbgCtlWrite _ _ => [.regs, .stations]
  | .dbgAddrWrite _ _ => [.stations]
  | .dbgCmdHalt _ => [.regs, .stations, .shear]
  | .dbgCmdRun _ => [.regs, .stations, .shear]
  | .dbgCmdStep _ => [.regs, .stations, .shear]
  | .coreHaltedRise _ _ _ => [.regs, .stations, .shear]
  | .coreHaltedFall _ => [.regs, .stations, .shear]
  | .haltedLate _ => [.regs, .stations, .shear]
  | .secureEnter _ => [.regs, .stations]
  | .secureExit _ => [.regs, .stations]
  | .itRecord _ _ _ _ _ _ => [.regs, .stations]
  | .dtRecord _ _ _ _ _ _ _ => [.regs, .stations]
  | .frameBoundary _ => [.regs, .wide, .clk, .pins, .stations, .spine, .shear, .cullet, .ctr, .trace, .stria, .dl, .lehr, .ladder, .notice, .rings, .bus, .gather, .cont, .rolsal, .fresh]
  | .upstreamFlitError _ _ _ => [.regs, .clk, .pins, .stations, .spine, .shear, .cullet, .ctr, .trace, .stria, .lehr, .ladder, .notice, .rings, .bus, .gather, .cont, .rolsal, .fresh]
  | .stationDownstreamError _ => [.regs, .stations]
  | .stationSlotCollision _ => [.regs, .stations]
  | .netErrNoteSend _ => [.stations]
  | .netErrNoteArrival _ => [.regs, .clk, .pins, .stations, .spine, .shear, .cullet, .ctr, .trace, .stria, .dl, .lehr, .ladder, .notice, .rings, .bus, .gather, .cont, .rolsal, .fresh]
  | .stationUpstreamSend _ _ => [.regs, .stations, .shear]
  | .stationWindowRead _ _ _ => [.regs, .wide, .pins, .stations, .spine]
  | .stationWindowWrite _ _ _ => [.regs, .wide, .stations, .spine, .ctr]
  | .stationRegRd _ _ => [.regs, .stations]
  | .stationRegWr _ => [.regs, .stations, .shear, .dl]
  | .regrdArrival _ => [.regs, .wide, .clk, .pins, .stations, .spine, .shear, .cullet, .ctr, .trace, .stria, .lehr, .ladder, .notice, .rings, .bus, .gather, .cont, .rolsal, .fresh]
  | .stationReduceReq _ => [.stations]
  | .reducePartnerTimeout _ => [.stations]
  | .reductionSample => [.regs, .stations, .spine]
  | .reductionResult _ => [.regs, .clk, .pins, .stations, .spine, .shear, .cullet, .ctr, .trace, .stria, .lehr, .ladder, .notice, .rings, .bus, .gather, .cont, .rolsal, .fresh]
  | .isolationAssert _ _ => [.regs, .pins, .spine]
  | .isolationRelease _ _ => [.regs, .pins, .spine]
  | .restorationTimeout _ => [.regs, .stations, .spine, .trace, .stria, .rings, .rolsal]
  | .caneTrain _ => [.regs, .spine]
  | .caneRetrain _ _ => [.regs, .wide, .clk, .pins, .stations, .spine, .shear, .cullet, .ctr, .trace, .stria, .lehr, .ladder, .notice, .rings, .bus, .gather, .cont, .rolsal, .fresh]
  | .trainingComplete _ _ _ => [.regs, .clk, .pins, .stations, .spine, .shear, .cullet, .ctr, .trace, .stria, .lehr, .ladder, .notice, .rings, .bus, .gather, .cont, .rolsal, .fresh]
  | .caneEnable _ => [.regs, .stations, .spine, .shear, .trace, .stria, .rings, .rolsal]
  | .caneDisable _ => [.regs, .spine]
  | .framesStop => [.regs, .wide, .clk, .pins, .stations, .spine, .shear, .cullet, .ctr, .trace, .stria, .dl, .lehr, .ladder, .notice, .rings, .bus, .gather, .cont, .rolsal, .fresh]
  | .slotRestart _ => [.regs, .slot]
  | .slotDataWrite _ _ => [.regs, .slot]
  | .slotValidate _ => [.regs, .slot]
  | .slotValidationDone => [.regs, .slot]
  | .stationSlotLoad _ => [.regs, .stations, .shear]
  | .slotVerifyTimeout _ => [.regs, .clk, .pins, .stations, .spine, .shear, .cullet, .ctr, .trace, .stria, .lehr, .ladder, .notice, .rings, .bus, .gather, .cont, .rolsal, .fresh]
  | .timeStart _ => [.regs, .stations, .spine]
  | .timeLock _ => [.regs]
  | .timeIncWrite _ _ => [.regs]
  | .stationTsLoad _ _ => [.regs, .stations, .spine]
  | .stationFrameMark _ _ _ _ _ _ _ => [.regs, .stations]
  | .stationMarkTimeout _ => [.regs, .stations, .spine, .shear, .trace, .stria, .rings, .rolsal]
  | .gatherPingSend => [.bus, .gather]
  | .gpingReceive _ _ _ _ => [.regs, .bus, .fresh]
  | .gpongReceive _ _ _ _ _ _ => [.gather]
  | .gatherRoundEnd => [.regs, .clk, .pins, .stations, .spine, .shear, .cullet, .ctr, .trace, .stria, .lehr, .ladder, .notice, .rings, .bus, .gather, .cont, .rolsal, .fresh]
  | .gatherSecondRound => [.gather, .fresh]
  | .gatherPeriodicRound => [.regs, .gather, .fresh]
  | .gatherTimeout => [.regs, .clk, .pins, .stations, .spine, .shear, .cullet, .ctr, .trace, .stria, .lehr, .ladder, .notice, .rings, .bus, .gather, .cont, .rolsal, .fresh]
  | .shearRequestDecided => [.regs, .clk, .pins, .stations, .spine, .shear, .cullet, .ctr, .trace, .stria, .lehr, .ladder, .notice, .rings, .bus, .gather, .cont, .rolsal, .fresh]
  | .shearCommit => [.shear]
  | .stationShearDecode _ _ _ => [.regs, .clk, .pins, .stations, .spine, .shear, .cullet, .ctr, .trace, .stria, .lehr, .ladder, .notice, .rings, .bus, .gather, .cont, .rolsal, .fresh]
  | .cutTick => [.regs, .clk, .pins, .stations, .spine, .shear, .cullet, .ctr, .trace, .stria, .lehr, .ladder, .notice, .rings, .bus, .gather, .cont, .rolsal, .fresh]
  | .resumeIssue => [.shear]
  | .resumeTick => [.regs, .clk, .pins, .stations, .spine, .shear, .cullet, .ctr, .trace, .stria, .lehr, .ladder, .notice, .rings, .bus, .gather, .cont, .rolsal, .fresh]
  | .selftestTestSend => [.regs, .shear]
  | .selftestReply _ => [.shear]
  | .selftestRootCheck _ => [.regs, .clk, .pins, .stations, .spine, .shear, .cullet, .ctr, .trace, .stria, .lehr, .ladder, .notice, .rings, .bus, .gather, .cont, .rolsal, .fresh]
  | .receiverLock _ _ => [.regs]
  | .shearEnable _ => [.regs]
  | .shearDisable _ => [.regs, .shear, .rings, .cont]
  | .shearTrigLatch _ => [.regs, .shear]
  | .shearTrigFreeze _ => [.regs, .shear]
  | .shearTrigDrain _ => [.regs, .shear]
  | .shearTrigRunOn _ => [.regs, .shear]
  | .shearTrigResume _ => [.regs, .shear]
  | .carrierShearRequest _ => [.pins, .shear]
  | .carrierShearPairError _ => [.regs, .pins]
  | .cutAtTrigger => [.regs, .shear, .rings]
  | .culletReadGo _ _ => [.regs, .clk, .pins, .stations, .spine, .shear, .cullet, .ctr, .trace, .stria, .lehr, .ladder, .notice, .rings, .bus, .gather, .cont, .rolsal, .fresh]
  | .culletReadoutStart => [.regs, .clk, .pins, .stations, .spine, .shear, .cullet, .ctr, .trace, .stria, .lehr, .ladder, .notice, .rings, .bus, .gather, .cont, .rolsal, .fresh]
  | .stationCulletRd _ => [.regs, .stations]
  | .stationCulletGroupDone _ _ => [.regs, .stations, .shear]
  | .culletMessageArrival _ => [.regs, .clk, .pins, .stations, .spine, .shear, .cullet, .ctr, .trace, .stria, .lehr, .ladder, .notice, .rings, .bus, .gather, .cont, .rolsal, .fresh]
  | .culletReadoutTimeout => [.regs, .clk, .pins, .stations, .spine, .shear, .cullet, .ctr, .trace, .stria, .lehr, .ladder, .notice, .rings, .bus, .gather, .cont, .rolsal, .fresh]
  | .stnPcCfgWrite _ _ _ _ => [.regs, .stations, .spine, .ctr]
  | .stationCtrConfig _ => [.stations]
  | .counterConfigApply _ => [.regs, .stations]
  | .stationCtrRead _ => [.stations]
  | .counterSample _ => [.regs, .stations, .ctr]
  | .stationCtrKeys _ => [.stations]
  | .stationAttrDump _ => [.stations]
  | .counterMessageArrival _ => [.regs, .clk, .pins, .stations, .spine, .shear, .cullet, .ctr, .trace, .stria, .lehr, .ladder, .notice, .rings, .bus, .gather, .cont, .rolsal, .fresh]
  | .attribMessageArrival _ => [.regs, .clk, .pins, .stations, .spine, .shear, .cullet, .ctr, .trace, .stria, .lehr, .ladder, .notice, .rings, .bus, .gather, .cont, .rolsal, .fresh]
  | .counterReadTimeout => [.regs, .clk, .pins, .stations, .spine, .shear, .cullet, .ctr, .trace, .stria, .lehr, .ladder, .notice, .rings, .bus, .gather, .cont, .rolsal, .fresh]
  | .counterWrapNoteSend _ => [.regs, .stations]
  | .counterWrapNoteArrival _ => [.regs, .stations, .rings]
  | .ctrCtlWrite _ _ => [.regs, .stations]
  | .attrCtxEnWrite _ _ _ => [.regs, .stations]
  | .traceMessageFlush _ => [.regs, .stations]
  | .stimWrite _ _ _ => [.regs, .clk, .pins, .stations, .spine, .shear, .cullet, .ctr, .trace, .stria, .dl, .lehr, .ladder, .notice, .rings, .bus, .gather, .cont, .rolsal, .fresh]
  | .centralBatchWrite => [.regs, .trace, .rings, .rolsal]
  | .traceMessageArrival _ => [.regs, .stations, .spine, .trace, .rings, .rolsal]
  | .trcFreeze _ => [.regs, .stations, .spine, .trace, .rings]
  | .trcClear _ => [.regs, .stations, .spine, .trace]
  | .trcCtlWrite _ _ => [.regs, .stations, .spine, .trace, .rings]
  | .trcPortWrite _ _ _ => [.regs, .stations, .spine, .trace]
  | .trcCmpWrite _ _ _ _ => [.regs, .wide, .stations, .spine, .trace]
  | .trcCtxEnWrite _ _ _ => [.regs, .stations, .spine, .trace]
  | .trcLlWrite _ _ => [.regs, .stations, .spine, .trace]
  | .trcRdWrite _ _ => [.regs, .stations, .spine, .trace]
  | .seqArm _ => [.regs, .stations, .spine, .trace]
  | .seqDisarm _ => [.regs, .stations, .spine, .trace]
  | .sequencerEvent => [.regs, .trace, .rings, .rolsal]
  | .timeComparatorMatch => [.trace]
  | .triggerNoteSend _ => [.stations]
  | .triggerNoteArrival _ => [.stations, .trace]
  | .captureStateApply _ => [.regs, .stations, .shear]
  | .stationTracePorts _ => [.stations]
  | .stationTraceCmp _ => [.stations]
  | .stationTraceCtx _ => [.stations]
  | .stationTraceParam _ => [.stations]
  | .stationTraceResync _ => [.stations]
  | .traceConfigApply _ => [.regs, .stations, .shear]
  | .stationStriaSlot _ => [.stations]
  | .striaSlotApply _ => [.regs, .stations]
  | .stationStriaSettle _ => [.stations]
  | .striaSettle _ => [.regs, .stations]
  | .stationStriaRelease _ => [.stations]
  | .striaTileMessageArrival _ => [.regs, .stations, .stria]
  | .striaFenceArrival _ => [.regs, .stations, .spine, .stria, .lehr, .rings, .bus, .fresh]
  | .striaFenceTimeout => [.regs, .stations, .spine, .stria, .lehr, .rings, .bus, .fresh]
  | .budgetRowApply => [.regs, .stations, .dl]
  | .budgetWatchdogExpiry _ => [.regs, .stations, .shear]
  | .progressWatchdogExpiry _ => [.regs, .stations, .shear]
  | .hbCtlWrite _ _ _ => [.regs, .dl]
  | .heartbeatWatchdogExpiry _ => [.regs, .clk, .pins, .stations, .spine, .shear, .cullet, .ctr, .trace, .stria, .dl, .lehr, .ladder, .notice, .rings, .bus, .gather, .cont, .rolsal, .fresh]
  | .faultLatchAck _ => [.regs, .stations]
  | .faultRecordCompletion _ => [.regs, .clk, .pins, .stations, .spine, .shear, .cullet, .ctr, .trace, .stria, .lehr, .ladder, .notice, .rings, .bus, .gather, .cont, .rolsal, .fresh]
  | .faultNoteSend _ => [.regs, .stations]
  | .faultNoteArrival _ => [.regs, .pins, .stations, .dl, .lehr, .ladder, .notice, .rings, .cont]
  | .faultMessageArrival _ => [.regs, .clk, .pins, .stations, .spine, .shear, .cullet, .ctr, .trace, .stria, .dl, .lehr, .ladder, .notice, .rings, .bus, .gather, .cont, .rolsal, .fresh]
  | .faultPendingTimeout => [.regs, .clk, .pins, .stations, .spine, .shear, .cullet, .ctr, .trace, .stria, .dl, .lehr, .ladder, .notice, .rings, .bus, .gather, .cont, .rolsal, .fresh]
  | .faultLoggedEntryExpiry => [.dl]
  | .epochSetSend => [.stations, .dl]
  | .stationEpochNote _ => [.stations]
  | .epochApply => [.regs, .stations, .dl, .rings]
  | .deadlinePageAccess _ _ _ _ _ => [.regs, .wide, .pins, .stations, .spine]
  | .lehrStartWrite _ _ => [.regs, .lehr]
  | .dumpAccept => [.regs, .clk, .pins, .stations, .spine, .shear, .cullet, .ctr, .trace, .stria, .dl, .lehr, .ladder, .notice, .rings, .bus, .gather, .mbx, .cont, .rolsal, .fresh]
  | .lehrPhaseDeadline => [.regs, .clk, .pins, .stations, .spine, .shear, .cullet, .ctr, .trace, .stria, .lehr, .ladder, .notice, .rings, .bus, .gather, .cont, .rolsal, .fresh]
  | .dumpMasterReadData _ _ _ => [.regs, .wide, .clk, .pins, .stations, .spine, .shear, .cullet, .ctr, .trace, .stria, .lehr, .ladder, .notice, .rings, .bus, .gather, .cont, .rolsal, .fresh]
  | .dumpMasterReadTimeout => [.regs, .clk, .pins, .stations, .spine, .shear, .cullet, .ctr, .trace, .stria, .lehr, .ladder, .notice, .rings, .bus, .gather, .cont, .rolsal, .fresh]
  | .dumpMasterWriteAck _ _ => [.regs, .wide, .clk, .pins, .stations, .spine, .shear, .cullet, .ctr, .trace, .stria, .lehr, .ladder, .notice, .rings, .bus, .gather, .cont, .rolsal, .fresh]
  | .dumpMasterWriteTimeout => [.regs, .wide, .clk, .pins, .stations, .spine, .shear, .cullet, .ctr, .trace, .stria, .lehr, .ladder, .notice, .rings, .bus, .gather, .cont, .rolsal, .fresh]
  | .lehrAbortWrite _ => [.regs, .pins, .stations, .spine, .shear, .ctr, .stria, .lehr, .ladder, .notice, .rings, .bus, .cont, .fresh]
  | .lehrDestWrite _ _ _ _ => [.regs]
  | .rstReqGo _ _ => [.regs, .pins, .ladder, .notice, .rings, .cont]
  | .resetAnswerAccepted _ => [.regs, .clk, .pins, .stations, .spine, .shear, .cullet, .ctr, .trace, .stria, .lehr, .ladder, .notice, .rings, .bus, .gather, .cont, .rolsal, .fresh]
  | .resetAnswerDone _ => [.regs, .clk, .pins, .stations, .spine, .shear, .cullet, .ctr, .trace, .stria, .lehr, .ladder, .notice, .rings, .bus, .gather, .cont, .rolsal, .fresh]
  | .resetAnswerRefused _ => [.regs, .clk, .pins, .stations, .spine, .shear, .cullet, .ctr, .trace, .stria, .lehr, .ladder, .notice, .rings, .bus, .gather, .cont, .rolsal, .fresh]
  | .resetAnswerInvalid => [.regs]
  | .resetStepDeadline => [.regs, .clk, .pins, .stations, .spine, .shear, .cullet, .ctr, .trace, .stria, .lehr, .ladder, .notice, .rings, .bus, .gather, .cont, .rolsal, .fresh]
  | .chipStepNoAccept => [.regs, .clk, .pins, .stations, .spine, .shear, .cullet, .ctr, .trace, .stria, .lehr, .ladder, .notice, .rings, .bus, .gather, .cont, .rolsal, .fresh]
  | .resetCollectTimeout => [.regs, .ladder, .rings, .bus]
  | .reheatMarkWrite _ _ => [.regs, .clk, .pins, .stations, .spine, .shear, .cullet, .ctr, .trace, .stria, .lehr, .ladder, .notice, .rings, .bus, .gather, .cont, .rolsal, .fresh]
  | .reheatMilestoneDeadline => [.regs, .clk, .pins, .stations, .spine, .shear, .cullet, .ctr, .trace, .stria, .lehr, .ladder, .notice, .rings, .bus, .gather, .cont, .rolsal, .fresh]
  | .rstModeWrite _ _ => [.regs]
  | .noticeFanoutStart => [.regs, .notice, .rings]
  | .peerNoticeSend => [.regs, .clk, .pins, .stations, .spine, .shear, .cullet, .ctr, .trace, .stria, .lehr, .ladder, .notice, .rings, .bus, .gather, .cont, .rolsal, .fresh]
  | .noticeFanoutDeadline => [.regs, .clk, .pins, .stations, .spine, .shear, .cullet, .ctr, .trace, .stria, .lehr, .ladder, .notice, .rings, .bus, .gather, .cont, .rolsal, .fresh]
  | .peerNoticeReceive _ _ => [.regs, .clk, .pins, .stations, .spine, .shear, .cullet, .ctr, .trace, .stria, .lehr, .ladder, .notice, .rings, .bus, .gather, .cont, .rolsal, .fresh]
  | .peerSilentExpiry => [.regs, .clk, .pins, .stations, .spine, .shear, .cullet, .ctr, .trace, .stria, .lehr, .ladder, .notice, .rings, .bus, .gather, .cont, .rolsal, .fresh]
  | .streamMapWrite _ _ _ => [.regs]
  | .ledgerScanStart _ _ => [.regs, .bus, .cont]
  | .ledgerScanDone => [.regs, .cont]
  | .ledgerRecordTimeout => [.regs, .clk, .pins, .stations, .spine, .shear, .cullet, .ctr, .trace, .stria, .lehr, .ladder, .notice, .rings, .bus, .gather, .cont, .rolsal, .fresh]
  | .ledgerCheckTimeout => [.regs, .clk, .pins, .stations, .spine, .shear, .cullet, .ctr, .trace, .stria, .lehr, .ladder, .notice, .rings, .bus, .gather, .cont, .rolsal, .fresh]
  | .regionDigestDone => [.regs, .clk, .pins, .stations, .spine, .shear, .cullet, .ctr, .trace, .stria, .lehr, .ladder, .notice, .rings, .bus, .gather, .cont, .rolsal, .fresh]
  | .digestReqReceive _ _ _ _ _ => [.regs, .bus, .cont]
  | .digestRspReceive _ _ _ _ _ _ => [.regs, .clk, .pins, .stations, .spine, .shear, .cullet, .ctr, .trace, .stria, .lehr, .ladder, .notice, .rings, .bus, .gather, .cont, .rolsal, .fresh]
  | .mirrorVerifyTimeout => [.regs, .clk, .pins, .stations, .spine, .shear, .cullet, .ctr, .trace, .stria, .lehr, .ladder, .notice, .rings, .bus, .gather, .cont, .rolsal, .fresh]
  | .copyTimeout => [.regs, .clk, .pins, .stations, .spine, .shear, .cullet, .ctr, .trace, .stria, .lehr, .ladder, .notice, .rings, .bus, .gather, .cont, .rolsal, .fresh]
  | .contAbortCopy _ => [.regs, .clk, .pins, .stations, .spine, .shear, .cullet, .ctr, .trace, .stria, .lehr, .ladder, .notice, .rings, .bus, .gather, .cont, .rolsal, .fresh]
  | .fabricWriteAck _ _ => [.regs, .wide, .clk, .pins, .stations, .spine, .shear, .cullet, .ctr, .trace, .stria, .lehr, .ladder, .notice, .rings, .bus, .gather, .cont, .rolsal, .fresh]
  | .fabricWriteTimeout => [.regs, .wide, .clk, .pins, .stations, .spine, .shear, .cullet, .ctr, .trace, .stria, .lehr, .ladder, .notice, .rings, .bus, .gather, .cont, .rolsal, .fresh]
  | .sqDoorbell _ _ _ => [.regs]
  | .eqDoorbell _ _ _ => [.regs, .pins, .rings]
  | .ringFetchTurn => [.rings, .bus]
  | .descriptorAccept => [.regs, .ctr, .rings]
  | .descriptorFetchError _ => [.regs, .pins, .rings, .bus]
  | .hostReadReturn _ _ _ => [.regs, .wide, .clk, .pins, .stations, .spine, .shear, .cullet, .ctr, .trace, .stria, .dl, .lehr, .ladder, .notice, .rings, .bus, .job, .gather, .cont, .rolsal, .fresh]
  | .hostReadTimeout => [.regs, .wide, .clk, .pins, .stations, .spine, .shear, .cullet, .ctr, .trace, .stria, .dl, .lehr, .ladder, .notice, .rings, .bus, .job, .gather, .cont, .rolsal, .fresh]
  | .eventEntryWrite _ => [.regs, .rings, .bus]
  | .hostWriteAck _ _ => [.regs, .clk, .pins, .stations, .spine, .shear, .cullet, .ctr, .trace, .stria, .lehr, .ladder, .notice, .rings, .bus, .gather, .cont, .rolsal, .fresh]
  | .hostWriteTimeout => [.regs, .clk, .pins, .stations, .spine, .shear, .cullet, .ctr, .trace, .stria, .lehr, .ladder, .notice, .rings, .bus, .gather, .cont, .rolsal, .fresh]
  | .eqInterruptTimer => [.regs, .pins, .rings]
  | .intMaskWrite _ _ _ => [.regs, .pins]
  | .ringEnable _ _ _ => [.regs, .rings]
  | .ringDisable _ _ _ => [.regs, .rings]
  | .ringZero _ _ _ _ => [.regs, .rings]
  | .functionReset _ => [.regs, .pins, .rings, .bus, .mbx]
  | .controlGroupReset _ => [.regs, .pins, .mbx]
  | .nop _ _ => [.regs, .rings]
  | .fence _ _ => [.regs, .rings]
  | .counterConfig _ _ => [.regs, .stations, .spine, .ctr, .trace, .stria, .rings, .rolsal]
  | .counterRead _ _ => [.regs, .stations, .spine, .ctr, .lehr, .rings, .bus, .fresh]
  | .counterReduce _ _ => [.regs, .stations, .spine, .rings, .bus, .fresh]
  | .energyRead _ _ => [.regs, .stations, .spine, .ctr, .lehr, .rings, .bus, .fresh]
  | .traceConfig _ _ => [.rings, .bus]
  | .traceArm _ _ => [.regs, .stations, .spine, .trace, .rings]
  | .traceStop _ _ => [.regs, .stations, .spine, .trace, .rings]
  | .traceDrain _ _ => [.regs, .stations, .spine, .trace, .rings, .bus]
  | .traceMark _ _ => [.regs, .stations, .spine, .trace, .rings]
  | .striaArm _ _ => [.regs, .stations, .spine, .stria, .rings]
  | .striaDisarm _ _ => [.regs, .stations, .spine, .stria, .rings]
  | .striaRead _ _ => [.regs, .stations, .spine, .stria, .lehr, .rings, .bus, .fresh]
  | .cut _ _ => [.regs, .shear, .rings]
  | .cutAt _ _ => [.regs, .shear, .rings]
  | .resume _ _ => [.regs, .shear, .rings]
  | .snapshot _ _ => [.regs, .shear, .rings]
  | .dump _ _ => [.regs, .lehr, .rings]
  | .dumpAbort _ _ => [.regs, .pins, .stations, .spine, .shear, .ctr, .stria, .lehr, .ladder, .notice, .rings, .bus, .cont, .fresh]
  | .dumpStatus _ _ => [.regs, .lehr, .rings, .bus]
  | .resetRequest _ _ => [.regs, .pins, .ladder, .notice, .rings, .cont]
  | .reheatStatus _ _ => [.regs, .rings, .bus]
  | .ledgerRecord _ _ => [.regs, .shear, .rings, .bus, .cont]
  | .ledgerCheck _ _ => [.regs, .shear, .rings, .bus, .cont]
  | .mirrorVerify _ _ => [.regs, .rings, .bus, .cont]
  | .copy _ _ => [.regs, .rings, .bus, .cont]
  | .gather _ _ => [.regs, .rings, .bus, .gather]
  | .noticeSend _ _ => [.regs, .notice, .rings]
  | .jobTableLoad _ _ => [.regs, .notice, .rings, .bus, .job]
  | .budgetTableLoad _ _ => [.rings, .bus]
  | .contextBind _ _ => [.regs, .dl, .rings]
  | .stationAccess _ _ => [.regs, .stations, .spine, .ctr, .rings, .bus]
  | .mbxGo _ _ _ => [.regs, .pins, .lehr, .mbx]
  | .mbxRetract _ _ _ => [.regs, .pins, .lehr, .mbx]
  | .mbxClaim _ _ _ => [.regs, .pins, .mbx]
  | .mbxAck _ _ _ _ => [.regs, .pins, .lehr, .mbx]
  | .mbxCrossDefer _ => [.regs, .pins, .mbx]
  | .mbxAckDelayedEffect _ _ => [.regs, .pins, .mbx]
  | .doorbellClear _ _ _ => [.regs, .pins]
  | .doorbellMaskWrite _ _ _ => [.regs, .pins]
  | .mbxBindWrite _ _ _ => [.regs, .mbx]
  | .mbxBindLock _ => [.regs]
  | .mbxReqReceive _ _ _ _ _ _ => [.regs, .pins, .lehr, .bus, .mbx]
  | .mbxRspReceive _ _ _ _ _ => [.mbx]
  | .gafRelease _ _ => [.regs, .pins, .stations, .spine, .shear, .ctr, .stria, .lehr, .ladder, .notice, .rings, .bus, .gather, .mbx, .cont, .gaf, .fresh]
  | .gafReset _ _ => [.regs, .pins, .stations, .spine, .shear, .ctr, .stria, .lehr, .ladder, .notice, .rings, .bus, .gather, .mbx, .cont, .gaf, .fresh]
  | .gafReady _ => [.regs, .clk, .pins, .stations, .spine, .shear, .cullet, .ctr, .trace, .stria, .lehr, .ladder, .notice, .rings, .bus, .gather, .mbx, .cont, .rolsal, .fresh]
  | .gafServiceDispatch _ => [.regs, .clk, .pins, .stations, .spine, .shear, .cullet, .ctr, .trace, .stria, .lehr, .ladder, .notice, .rings, .bus, .gather, .mbx, .cont, .gaf, .rolsal, .fresh]
  | .gafYield _ => [.gaf]
  | .gafWatchdogExpiry _ => [.regs, .clk, .pins, .stations, .spine, .shear, .cullet, .ctr, .trace, .stria, .lehr, .ladder, .notice, .rings, .bus, .gather, .mbx, .cont, .gaf, .rolsal, .fresh]
  | .gafDbgHalt _ _ _ => [.regs, .clk, .pins, .stations, .spine, .shear, .cullet, .ctr, .trace, .stria, .lehr, .ladder, .notice, .rings, .bus, .gather, .mbx, .cont, .gaf, .rolsal, .fresh]
  | .gafDbgRun _ _ => [.regs, .clk, .pins, .stations, .spine, .shear, .cullet, .ctr, .trace, .stria, .lehr, .ladder, .notice, .rings, .bus, .gather, .mbx, .cont, .gaf, .rolsal, .fresh]
  | .gafDbgStep _ _ => [.regs, .gaf, .fresh]
  | .gafBreakHit _ _ => [.regs, .clk, .pins, .stations, .spine, .shear, .cullet, .ctr, .trace, .stria, .lehr, .ladder, .notice, .rings, .bus, .gather, .mbx, .cont, .gaf, .rolsal, .fresh]
  | .lockedHaltForce _ => [.regs, .clk, .pins, .stations, .spine, .shear, .cullet, .ctr, .trace, .stria, .lehr, .ladder, .notice, .rings, .bus, .gather, .mbx, .cont, .gaf, .rolsal, .fresh]
  | .gafDbgDataWrite _ _ _ => [.regs, .gaf]
  | .gafMemAccess _ _ _ => [.regs, .pins, .lehr, .gaf, .fresh]
  | .patchRestart _ => [.regs]
  | .patchBlobWrite _ _ => [.regs, .gaf]
  | .patchApply _ => [.regs]
  | .patchChecksDone => [.regs, .clk, .pins, .stations, .spine, .shear, .cullet, .ctr, .trace, .stria, .lehr, .ladder, .notice, .rings, .bus, .gather, .cont, .gaf, .rolsal, .fresh]
  | .patchScrub _ _ => [.regs, .clk, .pins, .stations, .spine, .shear, .cullet, .ctr, .trace, .stria, .lehr, .ladder, .notice, .rings, .bus, .gather, .cont, .gaf, .rolsal, .fresh]
  | .patchUnitWrite _ _ _ => [.regs]
  | .rolsalLineReset => [.regs, .clk, .pins, .stations, .spine, .shear, .cullet, .ctr, .trace, .stria, .lehr, .ladder, .notice, .rings, .bus, .gather, .mbx, .cont, .gaf, .rolsal, .fresh]
  | .rolsalReadPacket _ => [.regs, .clk, .pins, .stations, .spine, .shear, .cullet, .ctr, .trace, .stria, .lehr, .ladder, .notice, .rings, .bus, .gather, .mbx, .cont, .gaf, .rolsal, .fresh]
  | .rolsalWritePacket _ _ _ => [.regs, .clk, .pins, .stations, .spine, .shear, .cullet, .ctr, .trace, .stria, .lehr, .ladder, .notice, .rings, .bus, .gather, .mbx, .cont, .gaf, .rolsal, .fresh]
  | .rolsalAccessComplete => [.regs, .wide, .clk, .pins, .stations, .spine, .slot, .shear, .cullet, .ctr, .trace, .stria, .dl, .lehr, .ladder, .notice, .rings, .bus, .gather, .mbx, .cont, .otp, .gaf, .rolsal, .fresh]
  | .rolsalAccessTimeout => [.rolsal]
  | .rolsalCancel => [.regs, .clk, .pins, .stations, .spine, .shear, .cullet, .ctr, .trace, .stria, .lehr, .ladder, .notice, .rings, .bus, .gather, .mbx, .cont, .gaf, .rolsal, .fresh]
  | .authBegin => [.regs, .clk, .pins, .stations, .spine, .shear, .cullet, .ctr, .trace, .stria, .lehr, .ladder, .notice, .rings, .bus, .gather, .mbx, .cont, .gaf, .rolsal, .fresh]
  | .authInWrite _ => [.regs, .clk, .pins, .stations, .spine, .shear, .cullet, .ctr, .trace, .stria, .lehr, .ladder, .notice, .rings, .bus, .gather, .mbx, .cont, .gaf, .rolsal, .fresh]
  | .authVerify => [.regs, .clk, .pins, .stations, .spine, .shear, .cullet, .ctr, .trace, .stria, .lehr, .ladder, .notice, .rings, .bus, .gather, .mbx, .cont, .gaf, .rolsal, .fresh]
  | .authVerifyDone => [.rolsal]
  | .authEnd => [.regs, .clk, .pins, .stations, .spine, .shear, .cullet, .ctr, .trace, .stria, .lehr, .ladder, .notice, .rings, .bus, .gather, .mbx, .cont, .gaf, .rolsal, .fresh]
  | .authRenewWrite _ => [.regs, .clk, .pins, .stations, .spine, .shear, .cullet, .ctr, .trace, .stria, .lehr, .ladder, .notice, .rings, .bus, .gather, .mbx, .cont, .gaf, .rolsal, .fresh]
  | .rolsalIdleTimeout => [.regs, .clk, .pins, .stations, .spine, .shear, .cullet, .ctr, .trace, .stria, .lehr, .ladder, .notice, .rings, .bus, .gather, .mbx, .cont, .gaf, .rolsal, .fresh]
  | .rolsalSessionExpiry => [.regs, .clk, .pins, .stations, .spine, .shear, .cullet, .ctr, .trace, .stria, .lehr, .ladder, .notice, .rings, .bus, .gather, .mbx, .cont, .gaf, .rolsal, .fresh]
  | .rsSessEndWrite _ => [.regs, .clk, .pins, .stations, .spine, .shear, .cullet, .ctr, .trace, .stria, .lehr, .ladder, .notice, .rings, .bus, .gather, .mbx, .cont, .gaf, .rolsal, .fresh]
  | .drainStart _ => [.regs, .clk, .pins, .stations, .spine, .shear, .cullet, .ctr, .trace, .stria, .lehr, .ladder, .notice, .rings, .bus, .gather, .mbx, .cont, .gaf, .rolsal, .fresh]
  | .drainStop => [.regs, .clk, .pins, .stations, .spine, .shear, .cullet, .ctr, .trace, .stria, .lehr, .ladder, .notice, .rings, .bus, .gather, .mbx, .cont, .gaf, .rolsal, .fresh]
  | .drainDataRead => [.regs, .clk, .pins, .stations, .spine, .shear, .cullet, .ctr, .trace, .stria, .lehr, .ladder, .notice, .rings, .bus, .gather, .mbx, .cont, .gaf, .rolsal, .fresh]
  | .privMapWrite _ _ _ => [.regs]
  | .secEnWrite _ _ => [.regs, .stations, .spine, .trace, .stria]
  | .stationSecurityApply _ => [.regs, .stations, .spine, .trace, .stria]
  | .testEnWrite _ _ => [.regs, .pins, .stations, .spine, .trace, .stria, .mbx]
  | .custGrantWrite _ _ => [.regs]
  | .otpRead _ _ => [.regs, .otp]
  | .otpProgram _ _ => [.regs, .otp]
  | .otpGenkey _ _ => [.regs, .otp]
  | .otpOperationDone _ => [.regs, .clk, .pins, .stations, .spine, .shear, .cullet, .ctr, .trace, .stria, .lehr, .ladder, .notice, .rings, .bus, .gather, .mbx, .cont, .otp, .gaf, .rolsal, .fresh]
  | .hubColdAssert => [.regs, .wide, .clk, .pins, .stations, .spine, .slot, .shear, .cullet, .ctr, .trace, .stria, .dl, .lehr, .ladder, .notice, .rings, .bus, .job, .gather, .mbx, .cont, .otp, .gaf, .rolsal, .fresh]
  | .hubColdRelease _ _ _ => [.regs, .clk, .pins, .stations, .shear]
  | .otpStartupReadDone => [.regs, .wide, .clk, .pins, .stations, .spine, .shear, .cullet, .ctr, .trace, .stria, .dl, .lehr, .ladder, .notice, .rings, .bus, .gather, .mbx, .cont, .otp, .gaf, .rolsal, .fresh]
  | .hubWarmAssert => [.regs, .wide, .clk, .pins, .stations, .spine, .shear, .cullet, .ctr, .trace, .stria, .dl, .lehr, .ladder, .notice, .rings, .bus, .gather, .mbx, .cont, .otp, .gaf, .rolsal, .fresh]
  | .hubWarmRelease => [.regs, .clk]
  | .cellColdResetAssert _ => [.regs, .stations, .spine, .trace, .stria, .rings, .rolsal]
  | .cellColdResetRelease _ => [.regs, .stations, .shear]
  | .hubAliveToggle => [.clk, .pins]
  | .fabricMessageDiscard => []
  | .ptbCtlWrite _ _ => [.regs, .stations, .spine, .trace, .stria]
  | .ptbParamWrite _ _ _ => [.regs, .stations, .spine]
  | .ptbForceWrite _ _ => [.regs, .clk, .pins, .stations, .spine, .shear, .cullet, .ctr, .trace, .stria, .lehr, .ladder, .notice, .rings, .bus, .gather, .cont, .rolsal, .fresh]
  | .forcedFaultStation _ => [.regs, .stations, .shear]
  | .hubRootClkStop => [.clk]
  | .deferredHaltTake _ => [.regs, .clk, .pins, .stations, .spine, .shear, .cullet, .ctr, .trace, .stria, .lehr, .ladder, .notice, .rings, .bus, .gather, .mbx, .cont, .gaf, .rolsal, .fresh]
  | .evKindReserved _ _ => [.regs, .stations, .shear]
  | .upwardDecodeError => [.regs, .clk, .pins, .stations, .spine, .shear, .cullet, .ctr, .trace, .stria, .lehr, .ladder, .notice, .rings, .bus, .gather, .cont, .rolsal, .fresh]
  | .warmWindowReopen => [.regs, .clk]

/-- Commands that do not wait for the hub's clock: levels the carrier drives, the Rolsal line, the resets (R523, R531, R537). -/
def unclocked : Instr → Bool
  | .uapPowerOff _ => true
  | .uapPowerOn _ _ _ _ => true
  | .uapResetAssert _ => true
  | .uapResetRelease _ => true
  | .secureEnter _ => true
  | .secureExit _ => true
  | .isolationAssert _ _ => true
  | .isolationRelease _ _ => true
  | .rolsalReadPacket _ => true
  | .rolsalWritePacket _ _ _ => true
  | .hubColdAssert => true
  | .hubColdRelease _ _ _ => true
  | .cellColdResetAssert _ => true
  | .cellColdResetRelease _ => true
  | .hubRootClkStop => true
  | _ => false

/-- The command completes: its outcome is a next state. -/
def Completes (c : Instr) (s : State) : Prop := ∃ t, exec c s = .next t

/-- The hub runs and takes commands: the root clock is there, HUB_COLD_N and HUB_WARM_N are released. -/
def State.up (s : State) : Bool := s.runs && !s.clk.warm

end Sys2Proof.Machine
end

