-- ==== Sys2Proof/Certificates/Slice0/Obligations.lean ====
section
/-! DEFINITION. The statements for the provers. Each names the chapter of the spec it rests on; where a clause rests on a choice of the
model, the log entry is named. -/

open Sys2Proof.Machine in
/-- A step runs the command at the front of the queue. The queue and the tick are the model's own (log entry 1). (01_architecture) -/
def Obligations.StepTakesTheFront : Prop :=
  ∀ (s : State) (c : Sys2Proof.Instr) (rest : List Sys2Proof.Instr),
    (s.pending = c :: rest → step s = exec c { s with pending := rest }) ∧ (s.pending = [] → step s = .next (tick s))

open Sys2Proof.Machine in
/-- What the block holds after reset. That no station is powered is the model's choice (log entry 15). (24_clocks_power_startup,
25_register_map, 21_rolsal_port, 23_integration) -/
def Obligations.ResetState : Prop :=
  let s : State := State.reset
  s.pending = [] ∧ s.runs = true ∧ s.clk.warm = false ∧ s.windowOpen = false ∧ s.ts = 0 ∧ s.core = 0 ∧ s.fb F.TIME_STAT_RUN = false ∧
    s.fg F.HUB_STAT_RST_CAUSE = 1 ∧ s.fg F.HUB_STAT_WARM_COUNT = 0 ∧ s.rd R.CUST_GRANT = 0 ∧ s.fb F.SEC_CTL_SEC_EN = false ∧ s.fb F.SEC_CTL_TEST_EN = false ∧
    s.fb F.GAF_CTL_RUN_0 = false ∧ s.fb F.GAF_CTL_RUN_1 = false ∧
    s.pins.rstqWord = 0x50000001 ∧ s.pins.hubAlive = false ∧ s.pins.hubInt = 0 ∧ s.pins.mbxIrq = 0 ∧
    s.rolsal.lockout = true ∧ s.hasSession = false ∧ s.rolsal.auth.fails = 0 ∧ s.buffersWf = true ∧
    s.trace.ring = [] ∧ s.cullet.buf = [] ∧ s.slot.store = [] ∧ s.lehr.keep = [] ∧ s.stations = []

open Sys2Proof.Machine in
/-- Every command completes in every state, but for a release of HUB_COLD_N in scan mode. R523 leaves the behaviour in scan mode
undefined (log entry 18). (01_architecture, 23_integration) -/
def Obligations.EveryCommandCompletes : Prop :=
  ∀ (s : State) (c : Sys2Proof.Instr), (∀ scope prio, c ≠ .hubColdRelease scope prio true) → ∃ t, exec c s = .next t

open Sys2Proof.Machine in
/-- A hub without its clock or in cold reset does nothing. R534, R539; that these commands are simply without effect is log entry 16.
(24_clocks_power_startup, 23_integration) -/
def Obligations.StoppedHubDoesNothing : Prop :=
  ∀ (s : State) (c : Sys2Proof.Instr), s.runs = false → unclocked c = false → exec c s = .next s

open Sys2Proof.Machine in
/-- What each command leaves alone. (01_architecture) -/
def Obligations.FootprintOfEveryCommand : Prop :=
  ∀ (c : Sys2Proof.Instr) (s t : State) (p : Part), exec c s = .next t → p ∉ touched c → p.same s t

open Sys2Proof.Machine in
/-- A step takes exactly the front command off the queue. The queue is the model's own (log entry 1). (01_architecture) -/
def Obligations.QueueIsFirstInFirstOut : Prop :=
  ∀ (s t : State), step s = .next t → t.pending = s.pending.tail

open Sys2Proof.Machine in
/-- The buffers keep their canonical form. How a byte that nothing has written reads is log entry 9. (07_cullet_snapshots,
09_trace_capture, 04_slot_image, 13_lehr_dump) -/
def Obligations.BuffersStayCanonical : Prop :=
  ∀ (s t : State), s.buffersWf = true → step s = .next t → t.buffersWf = true

open Sys2Proof.Machine in
/-- A write of a register of plain fields. (01_architecture, 25_register_map) -/
def Obligations.PlainRegisterWrite : Prop :=
  ∀ (s : State) (id a v : Nat) (r : RegRow),
    a ∈ [R.HUB_SCRATCH 0, R.HUB_SCRATCH 3, R.INT_CTL, R.INT_STAT, R.RING_TMO, R.GATHER_CTL, R.GATHER_BUDGET, R.TIME_STAT, R.CANE_STAT,
         R.CANE_ERR_LIM, R.SHEAR_STAT, R.CULLET_STAT, R.CULLET_BUDGET, R.CULLET_TRANSIT, R.CULLET_APT, R.CTR_STAT, R.CTR_BUDGET,
         R.STRIA_BUDGET, R.DL_STAT, R.FLT_WAIT, R.DL_GRACE, R.DL_STN_SEL, R.HB_PER 31, R.LEHR_CTL, R.LEHR_STAT, R.LEHR_TMO, R.RST_STAT,
         R.RST_COLLECT, R.RST_STN_SEL, R.NOTICE_CTL, R.NOTICE_STAT, R.CONT_STAT, R.CONT_TMO, R.MV_RX_LEN, R.GAF_WDT_PER] →
    regRowAt a = some r → s.windowOpen = true → s.passes id r.wr = true →
    exec (.registerWrite id a 15 v) s = .next (s.wr a (writeByTypes r false (s.rd a) (BitVec.ofNat 32 v)))

open Sys2Proof.Machine in
/-- Reads of wide registers and of registers that clear. (01_architecture, 05_timebase, 25_register_map) -/
def Obligations.ReadEffects : Prop :=
  (∀ (s : State) (id : Nat), s.windowOpen = true →
      (exec (.wideRegisterLowRead id R.TS_LO 15) s =
        .next (presentRead (s.ts % 2 ^ 32) (holdWide id R.TS_LO true [s.ts >>> 32] s))) ∧
      (holdWide id R.TS_LO true [s.ts >>> 32] s).wideOf id R.TS_LO true = some [s.ts >>> 32] ∧
      (∀ w, s.wideOf id R.TS_LO true = some [w] → exec (.wideRegisterLowRead id R.TS_HI 15) s = .next (presentRead w s)) ∧
      (s.wideOf id R.TS_LO true = none → exec (.wideRegisterLowRead id R.TS_HI 15) s = .next (presentRead (s.ts >>> 32) s))) ∧
  (∀ (s : State) (id a : Nat) (r : RegRow),
      a ∈ [R.PRIV_REJ, R.EVT_LOST, R.RING_REJ, R.GATHER_IGN, R.SHEAR_ERR, R.TRC_DROP, R.TRC_GAPS, R.STRIA_DEFER,
           R.FLT_DISC, R.NOTICE_CNT] →
      regRowAt a = some r → s.windowOpen = true → s.passes id r.rd = true →
      exec (.rcRegisterRead id a 15) s = .next (presentRead (s.rd a).toNat (s.wr a (s.rd a &&& ~~~ BitVec.ofNat 32 r.rc))))

open Sys2Proof.Machine in
/-- An access without the class it needs. (01_architecture, 22_privilege) -/
def Obligations.RefusedAccess : Prop :=
  ∀ (s : State) (id a v : Nat) (r : RegRow),
    a ∈ [R.HUB_SCRATCH 0, R.INT_CTL, R.RING_TMO, R.GATHER_BUDGET, R.CANE_STAT, R.CULLET_BUDGET, R.CTR_STAT, R.DL_GRACE, R.LEHR_STAT,
         R.RST_STAT, R.CONT_TMO, R.GAF_WDT_PER, R.PTB_STAT] →
    regRowAt a = some r → s.windowOpen = true →
    (s.passes id r.wr = false → ∃ t, exec (.registerWrite id a 15 v) s = .next t ∧ t.rd a = s.rd a ∧
      t.fg F.PRIV_REJ_COUNT = satAdd 16 (s.fg F.PRIV_REJ_COUNT) 1 ∧ t.fg F.PRIV_REJ_LAST_ID = id % 64 ∧
      t.fg F.PRIV_REJ_OFF_OFFSET = a ∧ (∀ b, b ≠ R.PRIV_REJ → b ≠ R.PRIV_REJ_OFF → t.rd b = s.rd b) ∧ t = { s with regs := t.regs }) ∧
    (s.passes id r.rd = false → ∃ t, exec (.rcRegisterRead id a 15) s = .next t ∧ t.pins.lastRead = 0 ∧ t.rd a = s.rd a ∧
      t.fg F.PRIV_REJ_COUNT = satAdd 16 (s.fg F.PRIV_REJ_COUNT) 1 ∧ t.fg F.PRIV_REJ_LAST_ID = id % 64 ∧
      t.fg F.PRIV_REJ_OFF_OFFSET = a)

open Sys2Proof.Machine in
/-- Accesses of another size, alignment or to no register. Byte enables stand for the size of an access (log entry 34). R4. -/
def Obligations.IgnoredAccess : Prop :=
  ∀ (s : State) (id a be v : Nat), s.windowOpen = true →
    (be ≠ 15 → exec (.registerWrite id a be v) s = .next s ∧ exec (.wideRegisterLowRead id a be) s = .next (presentRead 0 s) ∧
      exec (.rcRegisterRead id a be) s = .next (presentRead 0 s)) ∧
    (a % 4 ≠ 0 → exec (.registerWrite id a 15 v) s = .next s ∧ exec (.wideRegisterLowRead id a 15) s = .next (presentRead 0 s) ∧
      exec (.rcRegisterRead id a 15) s = .next (presentRead 0 s)) ∧
    (regRowAt a = none → (a < 0x020000 ∨ 0x022810 ≤ a) → a < stationBase → (a < 0x093000 ∨ 0x093800 ≤ a) →
      (a < 0x0B3000 ∨ 0x0B3800 ≤ a) → (a < R.SQ_DB 0 ∨ R.SQ_DB 64 ≤ a) → (a < R.STIM 0 ∨ R.STIM 32 ≤ a) → a ≠ R.CUST_GRANT →
      exec (.registerWrite id a 15 v) s = .next s ∧ exec (.rcRegisterRead id a 15) s = .next (presentRead 0 s))

open Sys2Proof.Machine in
/-- The class of each identity. (22_privilege) -/
def Obligations.ClassOfIdentity : Prop :=
  ∀ (s : State) (m : Nat),
    ((m = 0 ∨ m = 1) → s.classOf m = 3) ∧
    (m = 2 → s.classOf m = s.rolsal.sessClass) ∧
    (52 ≤ m → s.classOf m = 0) ∧
    (3 ≤ m → m ≤ 51 → s.fb F.CUST_GRANT_VALID = false → s.classOf m = bitsOf (s.rdN (R.PRIV_MAP (m / 16))) (2 * (m % 16)) 2) ∧
    (s.fb F.CUST_GRANT_VALID = true → s.fg F.CUST_GRANT_ID = m → (m = 3 ∨ (36 ≤ m ∧ m ≤ 51)) → s.classOf m = 3) ∧
    (s.passes m .custodian = true → s.passes m .operator = true) ∧ (s.passes m .operator = true → s.passes m .tenant = true)

open Sys2Proof.Machine in
/-- Power and reset of a unit attach port. (02_unit_attach_port) -/
def Obligations.PortPowerAndReset : Prop :=
  ∀ (s : State) (u ty cv flat : Nat), s.portHeld u = false →
    ((s.port u).on = true →
      ∃ t, exec (.uapPowerOff u) s = .next t ∧ (t.port u).on = false ∧ (t.port u).rst = (s.port u).rst ∧
        ((s.port u).ty ≠ 7 → (t.port u).pkg = 0 ∧ (t.port u).excl = false) ∧
        ((s.port u).ty = 7 → (t.port u).queues = (s.port u).queues ∧ (t.port u).excl = (s.port u).excl) ∧ (∀ v, v ≠ u → (t.port v).on = (s.port v).on ∧ (t.port v).queues = (s.port v).queues)) ∧
    ((s.port u).on = false → ∃ t, exec (.uapPowerOn u ty cv flat) s = .next t ∧ (t.port u).on = true ∧ (t.port u).queues = [] ∧ (t.port u).lastSeq = [] ∧
        (t.port u).strapped = true ∧ (t.port u).strapTy = (if (s.port u).strapped then (s.port u).strapTy else ty) ∧
        (∀ v, v ≠ u → (t.port v).on = (s.port v).on ∧ (t.port v).queues = (s.port v).queues)) ∧
    ((s.port u).on = true → (s.port u).rst = false →
      ∃ t, exec (.uapResetAssert u) s = .next t ∧ (t.port u).rst = true ∧ (t.port u).on = true ∧
        ((s.port u).ty ≠ 7 → (t.port u).pkg = 0 ∧ (t.port u).excl = false) ∧
        ((s.port u).ty = 7 → (t.port u).queues = (s.port u).queues ∧ (t.port u).excl = (s.port u).excl) ∧ (∀ v, v ≠ u → (t.port v).rst = (s.port v).rst ∧ (t.port v).queues = (s.port v).queues)) ∧
    ((s.port u).on = false → (s.port u).rst = false → exec (.uapResetAssert u) s = .next (setPort u { s.port u with rst := true } s)) ∧
    ((s.port u).on = false → (s.port u).rst = true → exec (.uapResetRelease u) s = .next (setPort u { s.port u with rst := false } s)) ∧
    ((s.port u).on = true → (s.port u).rst = true →
      ∃ t, exec (.uapResetRelease u) s = .next t ∧ (t.port u).rst = false ∧ (t.port u).on = true ∧
        (t.port u).queues = [] ∧ (t.port u).lastSeq = [] ∧
        (∀ v, v ≠ u → (t.port v).rst = (s.port v).rst ∧ (t.port v).queues = (s.port v).queues))

open Sys2Proof.Machine in
/-- Command events of a port and events refused. (02_unit_attach_port) -/
def Obligations.CommandEvents : Prop :=
  (∀ (s : State) (u ctx epoch seq layer op bclass queue : Nat) (r : QRec), s.runs = true → (s.port u).live = true →
      ¬ ((s.port u).shCmd = 3 ∧ (s.port u).ack = true) →
      (mget? (s.port u).queues queue = none → mget? (s.port u).lastSeq queue = none →
        ∃ t stale drained, exec (.cmdEventBegin u true ctx epoch seq layer op bclass queue) s = .next t ∧
          (t.port u).queues = mput (s.port u).queues queue ⟨ctx, epoch, seq, layer, op, bclass, false, stale, drained⟩ ∧
          (t.port u).lastSeq = mput (s.port u).lastSeq queue seq ∧ (∀ v, v ≠ u → (t.port v).queues = (s.port v).queues)) ∧
      (mget? (s.port u).queues queue = some r → ctx = r.ctx → epoch = r.epoch → seq = r.seq → layer = r.layer → op = r.op →
        bclass = r.bclass →
        (r.susp = false →
          (∃ t, exec (.cmdEventEnd u true ctx epoch seq layer op bclass queue) s = .next t ∧
            (t.port u).queues = mdel (s.port u).queues queue ∧ (∀ v, v ≠ u → (t.port v).queues = (s.port v).queues)) ∧
          (∃ t, exec (.cmdEventSuspend u true ctx epoch seq layer op bclass queue) s = .next t ∧
            (t.port u).queues = mput (s.port u).queues queue { r with susp := true } ∧
            (∀ v, v ≠ u → (t.port v).queues = (s.port v).queues))) ∧
        (∃ t, exec (.cmdEventAbort u true ctx epoch seq layer op bclass queue) s = .next t ∧
          (t.port u).queues = mdel (s.port u).queues queue ∧ (∀ v, v ≠ u → (t.port v).queues = (s.port v).queues)) ∧
        (r.susp = true →
          ∃ t, exec (.cmdEventResume u true ctx epoch seq layer op bclass queue) s = .next t ∧
            (t.port u).queues = mput (s.port u).queues queue { r with susp := false } ∧
            (∀ v, v ≠ u → (t.port v).queues = (s.port v).queues)))) ∧
  (∀ (s : State) (u ctx epoch seq layer op bclass queue : Nat) (r : QRec), s.runs = true →
      (∀ e : Event, (s.port u).live = false → takeEvent u true e s = s) ∧ (∀ e : Event, (takeEvent u false e s).regs = s.regs ∧
        ∀ v, ((takeEvent u false e s).port v).queues = (s.port v).queues ∧ ((takeEvent u false e s).port v).lastSeq = (s.port v).lastSeq) ∧
      ((s.port u).live = true →
        exec (.evKindReserved u true) s = .next (protoViolation u 1 [] none s) ∧
        (¬ ((s.port u).shCmd = 3 ∧ (s.port u).ack = true) →
          (mget? (s.port u).queues queue = some r →
            exec (.cmdEventBegin u true ctx epoch seq layer op bclass queue) s = .next (protoViolation u 2 [ctx] (some queue) s)) ∧
          (mget? (s.port u).queues queue = none →
            exec (.cmdEventEnd u true ctx epoch seq layer op bclass queue) s = .next (protoViolation u 2 [ctx] (some queue) s) ∧
            exec (.cmdEventResume u true ctx epoch seq layer op bclass queue) s = .next (protoViolation u 2 [ctx] (some queue) s)) ∧
          (mget? (s.port u).queues queue = some r → r.susp = false → seq ≠ r.seq →
            exec (.cmdEventEnd u true ctx epoch seq layer op bclass queue) s = .next (protoViolation u 3 [ctx] (some queue) s))) ∧
        ((s.port u).shCmd = 3 → (s.port u).ack = true →
          exec (.cmdEventBegin u true ctx epoch seq layer op bclass queue) s = .next (protoViolation u 7 [ctx] (some queue) s))) ∧
      (∀ row ctxs q v, ((protoViolation u row ctxs q s).port v).queues = (s.port v).queues))

open Sys2Proof.Machine in
/-- Always-on counters count the increments of a cycle. (08_counters, 02_unit_attach_port) -/
def Obligations.CounterIncrements : Prop :=
  (∀ (s : State) (u k d : Nat), k < 8 →
      (aoAdd u k d s).aoVal u k = (s.aoVal u k + d) % 2 ^ 48 ∧
      (∀ j, j < 8 → j ≠ k → (aoAdd u k d s).aoVal u j = s.aoVal u j) ∧
      (∀ v j, v ≠ u → j < 8 → (aoAdd u k d s).aoVal v j = s.aoVal v j)) ∧
  (∀ (s : State) (u : Nat) (busy stall : Bool) (errCorr : Nat) (rds wrs : List Nat) (tx txTc rx rxTc energy fltCode : Nat),
      s.runs = true → u < 16384 → (s.port u).live = true → (busy && stall) = false → ¬ ((s.port u).shCmd = 3 ∧ (s.port u).ack = true) →
      ∃ t, exec (.unitIncrementCycle u true busy stall errCorr false rds wrs tx txTc rx rxTc energy false fltCode) s = .next t ∧
        t.aoVal u 0 = (s.aoVal u 0 + b2n busy) % 2 ^ 48 ∧ t.aoVal u 1 = (s.aoVal u 1 + b2n stall) % 2 ^ 48 ∧
        t.aoVal u 3 = (s.aoVal u 3 + errCorr) % 2 ^ 48 ∧
        t.aoVal u 6 = (s.aoVal u 6 + (((rds.take 5).map (· % 4096)).sum + rx)) % 2 ^ 48 ∧
        t.aoVal u 7 = (s.aoVal u 7 + (((wrs.take 5).map (· % 4096)).sum + tx)) % 2 ^ 48 ∧
        (∀ v k, v < 16384 → v ≠ u → k < 8 → t.aoVal v k = s.aoVal v k))

open Sys2Proof.Machine in
/-- Debug of a control core: writes, pulses, halts. That it leaves HALT_PENDING is log entry 112. (02_unit_attach_port,
06_shear_and_cuts) -/
def Obligations.ControlCoreDebug : Prop :=
  (∀ (s : State) (u v : Nat), s.runs = true → (s.port u).ty = 1 →
      (∃ t, exec (.dbgCtlWrite u v) s = .next t ∧ t.rd (R.DBG_CTL (u / 16) (u % 16)) = BitVec.ofNat 32 (v % 2 ^ 23) ∧
        (t.port u).dbgWr = (s.port u).dbgWr ++ [(6, v % 2 ^ 23)]) ∧
      (s.fg (F.DBG_SEL_IDX (u / 16) (u % 16)) ≤ 5 →
        exec (.dbgAddrWrite u v) s = .next (setPort u { s.port u with
          cmps := setAt 0 (s.port u).cmps (s.fg (F.DBG_SEL_IDX (u / 16) (u % 16))) v
          dbgWr := (s.port u).dbgWr ++ [(s.fg (F.DBG_SEL_IDX (u / 16) (u % 16)), v)] } s)) ∧
      (∃ t, exec (.dbgCmdHalt u) s = .next t ∧ (t.port u).pulses = (s.port u).pulses ++ [1] ∧
        t.fb (F.DBG_STAT_HALT_PENDING (u / 16) (u % 16)) = true) ∧
      (∃ t, exec (.dbgCmdRun u) s = .next t ∧ (t.port u).pulses = (s.port u).pulses ++ [2] ∧ (t.port u).debugHalt = 0 ∧
        (t.port u).bpDrain = false) ∧
      (∃ t, exec (.dbgCmdStep u) s = .next t ∧ (t.port u).pulses = (s.port u).pulses ++ [3] ∧
        (s.fb (F.DBG_STAT_HALTED (u / 16) (u % 16)) = true → (t.port u).debugHalt = 0 ∧
          t.fb (F.DBG_STAT_HALT_PENDING (u / 16) (u % 16)) = true) ∧
        (s.fb (F.DBG_STAT_HALTED (u / 16) (u % 16)) = false → (t.port u).reqCyc = (s.port u).reqCyc ∧ t.regs = s.regs))) ∧
  (∀ (s : State) (u cause hit c : Nat), s.runs = true → (s.port u).live = true →
      ((s.port u).ty = 1 → cause < 8 → hit < 8 →
        (∃ t, exec (.coreHaltedRise u cause hit) s = .next t ∧ t.fb (F.DBG_STAT_HALTED (u / 16) (u % 16)) = true ∧
          t.fg (F.DBG_STAT_CAUSE (u / 16) (u % 16)) = cause ∧ t.fg (F.DBG_STAT_HIT (u / 16) (u % 16)) = hit ∧
          t.fb (F.DBG_STAT_HALT_PENDING (u / 16) (u % 16)) = false ∧
          (s.fb (F.DBG_STAT_HALTED (u / 16) (u % 16)) = false → 1 ≤ cause → cause ≤ 4 →
            (s.clk.cyc + 1, StnAct.drain (u % 16)) ∈ (t.stn (u / 16)).acts ∧ (t.port u).debugHalt = cause)) ∧
        (∃ t, exec (.coreHaltedFall u) s = .next t ∧ t.fb (F.DBG_STAT_HALTED (u / 16) (u % 16)) = false ∧
          t.fg (F.DBG_STAT_CAUSE (u / 16) (u % 16)) = 0 ∧
          t.fg (F.DBG_STAT_HIT (u / 16) (u % 16)) = s.fg (F.DBG_STAT_HIT (u / 16) (u % 16)) ∧ (t.port u).debugHalt = 0)) ∧
      ((s.port u).reqCyc = some c → (s.port u).excl = false → (s.port u).haltLate = false → c + 576 < s.clk.cyc →
        exec (.haltedLate u) s = .next (protoViolation u 10 [] none (setPort u { s.port u with haltLate := true } s))))

open Sys2Proof.Machine in
/-- Secure state and trace records of a port. (22_privilege, 02_unit_attach_port, 09_trace_capture) -/
def Obligations.SecureAndTraceRecords : Prop :=
  ∀ (s : State) (u kind count addr data size : Nat) (wr : Bool), (s.port u).live = true → (s.port u).ty = 1 → s.portHeld u = false →
    (s.dbgSec (u / 16) = true ∨ (s.port u).excl = true →
      exec (.secureEnter u) s = .next (s.fs (F.DBG_STAT_SECURE (u / 16) (u % 16)) 1)) ∧
    (s.dbgSec (u / 16) = false → (s.port u).excl = false →
      ∃ t, exec (.secureEnter u) s = .next t ∧ (t.port u).excl = true) ∧
    ((s.port u).excl = false → exec (.secureExit u) s = .next (s.fs (F.DBG_STAT_SECURE (u / 16) (u % 16)) 0)) ∧
    ((s.port u).excl = true →
      ∃ t, exec (.secureExit u) s = .next t ∧ (t.port u).excl = false ∧ (∀ v, v ≠ u → (t.port v).excl = (s.port v).excl)) ∧
    (s.runs = true → ((s.stn (u / 16)).trace.run = false ∨ (s.port u).excl = true) →
      exec (.itRecord u true 3 count addr false) s = .next (modPort u (fun p => { p with afterSec := false }) s) ∧
      exec (.dtRecord u true wr size addr data false) s = .next (stnHits u (fun w => cmpAddr w 3 (u % 16) addr) 0 s)) ∧
    (s.runs = true → s.capturing u = true → kind ≠ 3 →
      (bitOf ((s.stn (u / 16)).trace.portCfg (u % 16)) 2 = true → s.fb (F.DBG_CTL_ITRACE_EN (u / 16) (u % 16)) = true →
        ∃ t, exec (.itRecord u true kind count addr false) s = .next t ∧ (t.port u).itAddr = some addr ∧ (t.port u).afterSec = false) ∧
      (bitOf ((s.stn (u / 16)).trace.portCfg (u % 16)) 3 = true →
        ∃ t, exec (.dtRecord u true wr size addr data false) s = .next t ∧ (t.port u).dtAddr = some addr))

open Sys2Proof.Machine in
/-- Acknowledgement of a shear response. (02_unit_attach_port, 06_shear_and_cuts) -/
def Obligations.ShearAcknowledge : Prop :=
  ∀ (s : State) (u : Nat), s.runs = true → (s.port u).live = true →
    ((s.port u).shCmd ≠ 0 → u % 16 < 16 →
      ∃ t, exec (.shAckRise u) s = .next t ∧ (t.port u).ack = true ∧ bitOf (t.fg (F.STN_SH_STAT_ACK_PEND (u / 16))) (u % 16) = false ∧
        (∀ i, i < 16 → i ≠ u % 16 → bitOf (t.fg (F.STN_SH_STAT_ACK_PEND (u / 16))) i = bitOf (s.fg (F.STN_SH_STAT_ACK_PEND (u / 16))) i)) ∧
    (((s.port u).shCmd = 3 ∨ (s.port u).shCmd = 1) → (s.port u).ack = false → (s.port u).shLate = false →
      (s.port u).shSince + (s.port u).shFlat + 2 ≤ s.clk.cyc →
      exec (.shAckLate u) s = .next (protoViolation u 6 [] none (setPort u { s.port u with shLate := true } s)))

open Sys2Proof.Machine in
/-- Beats of the stria tap. (11_stria, 02_unit_attach_port) -/
def Obligations.StriaTap : Prop :=
  ∀ (s : State) (u n p mask data fmt coord sample pos queue out scale : Nat) (r : QRec) (w : List Nat) (x : Pair) (rest : List Pair),
    s.runs = true →
    ((s.port u).live = true → mask ≠ 0 → ¬ ((s.port u).shCmd = 3 ∧ (s.port u).ack = true) →
      (mget? (s.port u).queues queue = none → (s.port u).ended = none →
        exec (.striaTapBeat u true mask data fmt coord sample pos queue out scale) s = .next (protoViolation u 9 [] (some queue) s)) ∧
      (mget? (s.port u).queues queue = some r → r.susp = false → r.stale = false → fmt ≤ 4 → (s.port u).ty = 0 →
        (s.stn (u / 16)).stria.slots = [(p, w)] → slSelects w r ⟨mask, data, fmt, coord, sample, pos, queue, out, scale⟩ = true →
        slFmt w = fmt →
        exec (.striaTapBeat u true mask data fmt coord sample pos queue out scale) s =
          .next (queuePair u p ⟨mask, data, fmt, coord, sample, pos, queue, out, scale⟩ s))) ∧
    ((∀ q, q ≠ p → mget (s.stn n).stria.queues q [] = []) → p < 16 → mget (s.stn n).stria.queues p [] = x :: rest →
      exec (.striaPairAbsorb n) s = .next (absorbPair n p x (setStn n { s.stn n with stria := { (s.stn n).stria with
        queues := mput (s.stn n).stria.queues p rest, rr := p } } s)))

open Sys2Proof.Machine in
/-- Accesses of station registers. (03_cane_network, 01_architecture) -/
def Obligations.StationAccesses : Prop :=
  ∀ (s : State) (n id addr value cap : Nat) (m : DownMsg) (rest : List DownMsg) (up : UpMsg) (ups : List UpMsg) (a : StnAccess) (t : State),
    s.runs = true →
    ((s.stn n).inbox = m :: rest → s.delivers n = true → m.kind = 1 → bitsOf m.head 18 2 ≠ 3 →
      ((s.stn n).canForm 5 (4 + 4 * regrdWords (bitsOf m.head 18 2) (m.head % 512)) = false → exec (.stationRegRd n cap) s = .next s) ∧
      ((s.stn n).canForm 5 (4 + 4 * regrdWords (bitsOf m.head 18 2) (m.head % 512)) = true → exec (.stationRegRd n cap) s = .next
        (let r := readStn n (bitsOf m.head 18 2) (m.head % 512) (wideSpan (bitsOf m.head 18 2) (4 * (m.head % 512))) (bitOf m.head 9)
            (setStn n { s.stn n with inbox := rest } s)
         offerMsg n (regrd (bitsOf m.head 10 8) 0 r.1) r.2))) ∧
    ((s.stn n).inbox = m :: rest → s.delivers n = true → m.kind = 0 → plainRegWr m = true →
      exec (.stationRegWr n) s = .next
        (writeStn n (bitsOf m.head 9 2) m.grp (4 * (m.head % 512)) m.words (setStn n { s.stn n with inbox := rest } s))) ∧
    ((s.stn n).air = up :: ups → up.kind = 5 → s.unreachable n = false →
      takeAccess n (up.head % 256) (setStn n { s.stn n with air := ups } s) = some (a, t) →
      exec (.regrdArrival n) s = .next (lehrRun (answered a (bitsOf up.head 8 2 == 0) up.words t))) ∧
    (stationBase ≤ addr → addr < deadlinePageBase → s.windowOpen = true → s.passes id .operator = true →
      (addr % 4 = 0 → exec (.stationWindowRead id addr false) s = .next (presentAnswer (stationRead id addr false (.master id) s))) ∧
      exec (.stationWindowWrite id addr value) s = .next (stationWrite id addr value s)) ∧
    (stationBase ≤ addr → addr < deadlinePageBase → s.windowOpen = true → addr % 4 ≠ 0 →
      exec (.stationWindowRead id addr false) s = .next (presentRead 0 s) ∧ exec (.stationWindowWrite id addr value) s = .next s) ∧
    (a ∈ s.spine.reads → a.stn = n → (a.use = .verifyCrc ∨ a.use = .verifySlot) → a.sent + s.readBound n 1 < s.clk.cyc →
      exec (.slotVerifyTimeout n) s = .next (verifyFail n (modSpine (fun p => { p with
        reads := p.reads.filter (fun b => !(b.stn == n && (b.use == .verifyCrc || b.use == .verifySlot))) }) s)))

open Sys2Proof.Machine in
/-- Errors on the cane network. (03_cane_network) -/
def Obligations.NetworkErrors : Prop :=
  ∀ (s : State) (n rib slot w f idx : Nat) (ws : List Nat), s.runs = true →
    (s.spine.running = true → (mget? s.slot.ribs rib).isSome = true → s.ribDegraded rib = false → (s.rib rib).subst = false →
      (flitOdd f = false →
        exec (.upstreamFlitError rib slot f) s = .next (ribErrors rib 1 slot (dropUp rib slot (s.fsat (F.CANE_RIB_ERR_PAR rib) 1)))) ∧
      (flitOdd f = true → legalUp slot f = false →
        exec (.upstreamFlitError rib slot f) s = .next (ribErrors rib 1 slot (dropUp rib slot (s.fsat (F.CANE_RIB_ERR_FRAMING rib) 1)))) ∧
      (s.upError rib slot f = none → exec (.upstreamFlitError rib slot f) s = .next s)) ∧
    (slot % 16 ≠ 0 → slot % 16 ≠ 8 → s.slotOwner rib slot = none → dropUp rib slot s = s) ∧
    (s.spine.running = true → (s.rib (n / 64)).subst = false →
      (slot % 16 ≠ 0 → (s.rib (n / 64)).stopped = false → flitOdd f = false ∨ legalDown slot f = false ∨ wrongPlace f idx = true →
        exec (.stationDownstreamError ⟨n, slot, f, idx⟩) s = .next (downErrors n 1 (modStn n (fun x => { x with inbox := x.inbox.drop 1 }) s))) ∧
      (slot % 16 = 0 → 48 ≤ slot → flitOdd f = false ∨ legalDown slot f = false →
        exec (.stationDownstreamError ⟨n, slot, f, idx⟩) s = .next (downErrors n 1 (modStn n (fun x => { x with noteIn := x.noteIn.drop 1 }) s))) ∧
      (flitOdd f = true → legalDown slot f = true → slot % 16 = 0 ∨ wrongPlace f idx = false →
        exec (.stationDownstreamError ⟨n, slot, f, idx⟩) s = .next s)) ∧
    (s.stnSends n = true →
      (∃ t, exec (.stationSlotCollision n) s = .next t ∧ (t.stn n).netErrDue = (s.stn n).netErrDue + 1 ∧
        t.fg (F.STN_NET_ERR_COLL n) = satAdd 16 (s.fg (F.STN_NET_ERR_COLL n)) 1) ∧
      (s.noticeSlot n = true → (s.stn n).announce = [] → (s.stn n).netErrDue ≠ 0 →
        exec (.netErrNoteSend n) s =
          .next (sendNote n (noteWord 3 (min (s.stn n).netErrDue 0xFFFF) 0 0) (setStn n { s.stn n with netErrDue := 0 } s))) ∧
      (s.noticeSlot n = false → exec (.netErrNoteSend n) s = .next s) ∧
      (s.noticeSlot n = true → (s.stn n).announce = [] → (s.stn n).netErrDue = 0 → (s.stn n).slipDue = true →
        exec (.netErrNoteSend n) s = .next (sendNote n (noteWord 3 0 0 0) (setStn n { s.stn n with slipDue := false } s))) ∧
      exec (.stationUpstreamSend n slot) s = .next (releaseOvf n (losslessRelease n (modStn n (sendSlots slot (s.withholds n)) s)))) ∧
    ((s.stn n).noteAir = w :: ws → bitsOf w 28 4 = 3 →
      exec (.netErrNoteArrival n) s = .next (lateEpoch n
        (let t := (setStn n { s.stn n with noteAir := ws } s).fsat (F.CANE_RIB_ERR_NET_NOTES (n / 64)) 1
         if w % 65536 = 0 then t.fs F.TIME_STAT_SLIP 1 else ribErrors (n / 64) (w % 65536) (t.spineCyc % 512) t)))

open Sys2Proof.Machine in
/-- Isolation, restoration and training of ribs. (03_cane_network, 24_clocks_power_startup) -/
def Obligations.IsolationAndTraining : Prop :=
  ∀ (s : State) (rib point f len id : Nat) (seam : Bool), s.runs = true →
    (∃ t, exec (.isolationAssert seam point) s = .next t ∧ t.pins = (setIso seam true point s).pins ∧
      t.fg F.ISO_STAT_SEAM_ISO = t.pins.seamIso % 4 ∧ t.fg F.ISO_STAT_BR_ISO = t.pins.brIso % 256) ∧
    (∃ t, exec (.isolationRelease seam point) s = .next t ∧ t.pins = (setIso seam false point s).pins ∧
      t.fg F.ISO_STAT_SEAM_ISO = t.pins.seamIso % 4 ∧ t.fg F.ISO_STAT_BR_ISO = t.pins.brIso % 256) ∧
    ((s.rib rib).restoring = some f → f + 512 ≤ s.frameNow → exec (.restorationTimeout rib) s = .next (degradeRib rib 4 s.nextFrameTs s)) ∧
    (s.windowOpen = true → s.passes id .operator = true →
      (s.fb F.CANE_CTL_ENABLE = false → s.fb F.CANE_CTL_TRAIN = false →
        ∃ t, exec (.caneTrain id) s = .next t ∧ t.fb F.CANE_CTL_TRAIN = true ∧
          (∀ r, r < 16 → s.fb F.SLOT_STAT_VALID = false → (t.rib r).training = true)) ∧
      (rib < 16 → s.fb F.SLOT_STAT_VALID = true → (mget? s.slot.ribs rib).isSome = true → bitOf (s.fg F.CANE_CTL_RETRAIN) rib = false →
        s.spine.running = false →
        ∃ t, exec (.caneRetrain id rib) s = .next t ∧ bitOf (t.fg F.CANE_CTL_RETRAIN) rib = true ∧ (t.rib rib).training = true ∧
          (t.rib rib).retrain = true)) ∧
    ((s.rib rib).training = true → 2 ≤ len → s.fb F.CANE_CTL_TRAIN = false → s.fb F.SLOT_STAT_VALID = true →
      (mget? s.slot.ribs rib).map (·.tEnd) = some ((len - 2) / 2 % 256) →
      exec (.trainingComplete rib (List.replicate 16 len) true) s = .next (retrained rib
        ((modRib rib (fun b => { b with training := false, trainBad := false }) s).fs (F.CANE_RIB_STAT_T_END rib) ((len - 2) / 2))))

open Sys2Proof.Machine in
/-- Frames start, go on and stop, and a station takes its slot record. What a restart carries over is log entry 102. (03_cane_network,
04_slot_image) -/
def Obligations.FrameControl : Prop :=
  ∀ (s : State) (id n : Nat) (m : DownMsg) (rest : List DownMsg) (echoes : List (Nat × Nat)), s.runs = true →
    (s.windowOpen = true → s.passes id .operator = true →
      (s.fb F.CANE_CTL_ENABLE = false → s.fb F.CANE_STAT_RUNNING = false → s.fb F.CANE_CTL_TRAIN = false →
        s.fb F.SLOT_STAT_VALID = true → s.fb F.SLOT_STAT_MATCH = true →
        ∃ u : State, u.fb F.CANE_CTL_ENABLE = true ∧ u.fb F.CANE_STAT_RUNNING = true ∧ u.rd R.CANE_FRAME_LO = 0 ∧ u.rd R.CANE_FRAME_HI = 0 ∧
          u.spine = { s.spine with
            running := true, startCyc := s.clk.cyc + s.clk.cyc % 2, frame := 0, stopAsked := false, markTs := u.spine.markTs
            ribs := s.spine.ribs.map (fun b =>
              (b.1, { b.2 with nextCmd := 0, errFrame := none, errFrames := [], restoring := b.2.restoring.map (fun _ => 0) })) } ∧
          u.shear = rebaseShear (s.clk.cyc + s.clk.cyc % 2 - s.spine.startCyc) s.shear ∧
          exec (.caneEnable id) s = .next
            (let v : State := u.ribs.foldl (fun s r => if s.isoAsked r && !(s.rib r).subst then startSubst r s else s) u
             v.ribs.foldl (fun s r => if s.ribDegraded r || (s.rib r).subst then s else verifyRib r (loadRib r s)) v)) ∧
      (∃ t : State, exec (.caneDisable id) s = .next t ∧ t.fb F.CANE_CTL_ENABLE = false ∧ t.spine = { s.spine with stopAsked := s.spine.running } ∧
        ∀ a, a ≠ R.CANE_CTL → t.rd a = s.rd a)) ∧
    (s.spine.running = true → s.spine.stopAsked = true → 512 * (s.spine.frame + 1) ≤ s.spineCyc →
      exec .framesStop s = .next (showLoaded (((stopFrames s).slot.stns.map (·.1)).foldl (fun s n => enterPass n s) (stopFrames s)))) ∧
    (s.spine.running = true → s.spine.stopAsked = false → 512 * (s.spine.frame + 1) ≤ s.spineCyc →
      ∃ u : State, u.spine = { s.spine with frame := s.spine.frame + 1, markTs := s.tsOfSpine (512 * (s.spine.frame + 1)) } ∧
        u.rd64 R.CANE_FRAME_LO R.CANE_FRAME_HI = (s.spine.frame + 1) % 2 ^ 64 ∧
        exec (.frameBoundary echoes) s = .next
          (let f := s.spine.frame
           let v : State := (u.ribs.filter (fun r => !u.ribDegraded r || (u.rib r).restoring.isSome)).foldl
             (fun s r => takeEcho f r (match mget? echoes r with | some v => some v | none => s.ribEcho r f) s) u
           let w : State := v.ribs.foldl (fun s r => if s.isoAsked r && !(s.rib r).subst then startSubst r s else s) v
           let x : State := settleGone w.unreachable w
           let y : State := (x.slot.stns.map (·.1)).foldl (fun s n =>
             if (s.stn n).loadPend then modStn n (fun x => { x with loadPend := false, installed := true }) s else s) x
           lehrRun (showApplied (sendAction (f + 1) (waitsFrame (deadlineFrame (striaFrame y))))))) ∧
    ((s.stn n).inbox = m :: rest → s.delivers n = true → m.kind = 2 →
      exec (.stationSlotLoad n) s = .next ((List.range 16).foldl
          (fun s p => installPort n p (((bytesOfWords ((m.words.drop 1).take 4)).map portImageOf).getD p {}) s)
          (let u : State := setStn n { s.stn n with inbox := rest } s
           loadTables n m (if (u.stn n).renew then restoreStation n u else u))) ∧
      (let u : State := loadTables n m s
       u.fg (F.STN_NET_DATA_SLOTS n) = bitsOf (m.words.headD 0) 23 9 ∧ u.fg (F.STN_SLOT_SHCOMP n) = bitsOf (m.words.headD 0) 8 8 ∧
        u.fg (F.STN_SLOT_PART n) = bitsOf (m.words.headD 0) 16 4 ∧ u.fb (F.STN_NET_LOCKED n) = true ∧ u.fb (F.STN_SLOT_LOADED n) = true ∧
        u.fb (F.STN_SH_STAT_LOCKED n) = false ∧ u.fb (F.STN_SH_CFG_VALID n) = false ∧ u.rd (R.STN_SLOT_CRC n) = BitVec.ofNat 32 (crc32c (bytesOfWords m.words)) ∧
        (u.stn n).passThrough = false ∧ (u.stn n).loadPend = true ∧ (u.stn n).installed = false))

open Sys2Proof.Machine in
/-- Reductions of the network. (08_counters, 03_cane_network) -/
def Obligations.Reductions : Prop :=
  ∀ (s : State) (n f : Nat) (m : DownMsg) (rest : List DownMsg) (r : Reduction) (rs : List Reduction), s.runs = true →
    ((s.stn n).inbox = m :: rest → s.delivers n = true → m.kind = 3 →
      ∃ t : State, exec (.stationReduceReq n) s = .next t ∧ t.regs = s.regs ∧
        ((∀ q ∈ (s.stn n).reds, q.tag ≠ m.head % 256 ∨ q.more = false) → (t.stn n).reds = (s.stn n).reds ++
          [⟨m.head % 256, m.words.getD 0 0, m.words.getD 1 0 % 4, bitsOf (m.words.getD 1 0) 2 10, m.words.drop 2, bitOf m.head 8, s.frameNow⟩]) ∧
        (∀ q ∈ (s.stn n).reds, q.tag = m.head % 256 → q.more = true →
          { q with words := q.words ++ m.words.drop 2, more := bitOf m.head 8, frame := s.frameNow } ∈ (t.stn n).reds)) ∧
    (∃ t : State, exec (.reducePartnerTimeout n) s = .next t ∧ t.regs = s.regs ∧
      (t.stn n).reds = (s.stn n).reds.filter (fun r => !(r.more && decide (r.frame + 4 ≤ s.frameNow)))) ∧
    (s.spine.reds = r :: rs → r.startFrame = some f → s.sampleDue f = true → r.samples = [] → r.use = .lehr →
      ∃ t : State, exec .reductionSample s = .next t ∧ t.regs = s.regs ∧
        t.spine = { s.spine with reds := { r with samples := (s.slot.stns.map (·.1)).map (fun n => (n,
          if !s.contributes r n then r.values.map (fun _ => none)
          else if (s.members r.group r.target).contains n then r.values.map (fun v => s.sourceVal n v.source)
          else r.values.map (fun v => some (if v.op = 3 then 0xFFFFFFFF else 0)))) } :: rs }) ∧
    (s.reachable n = false ∨ (s.stn n).holdsRed r = false → s.contributes r n = false) ∧
    (s.spine.reds = r :: rs → redDue r s = true →
      let q := redStep (fun k => s.ribDegraded k || (s.rib k).subst) r
      (n ≠ r.tag → exec (.reductionResult n) s = .next s) ∧
      (r.results.length + 1 < r.values.length →
        exec (.reductionResult r.tag) s = .next { s with spine := { s.spine with reds := q :: rs } }) ∧
      (r.values.length ≤ r.results.length + 1 →
        exec (.reductionResult r.tag) s = .next (lehrRun (reductionEnds q
          (sendReduction { s with spine := { s.spine with reds := rs } })))))

open Sys2Proof.Machine in
/-- The slot image store and the package time. (04_slot_image, 05_timebase) -/
def Obligations.ImageStoreAndTime : Prop :=
  (∀ (s : State) (id v : Nat), s.runs = true →
      (s.windowOpen = true → s.passes id .operator = true → s.slotOpen = true → s.fb F.SLOT_STAT_BUSY = false →
        exec (.slotRestart id) s = .next (dropImage (s.fs F.SLOT_WPTR_WPTR 0)) ∧
        exec (.slotValidate id) s = .next
          (let u : State := (((dropImage (s.fs F.SLOT_STAT_BUSY 1)).fs F.SLOT_STAT_SIGNED 0).fs F.SLOT_STAT_ERR 0).fs F.SLOT_STAT_WHERE 0
           { u with slot := { u.slot with keyHash := s.otpVal 5 } }) ∧
        (s.fg F.SLOT_WPTR_WPTR < slotMax → ∃ t : State, exec (.slotDataWrite id v) s = .next t ∧
          t.slot = { s.slot with store := memPutBytes s.slot.store (s.fg F.SLOT_WPTR_WPTR) (toLe 4 v) } ∧
          t.fg F.SLOT_WPTR_WPTR = (s.fg F.SLOT_WPTR_WPTR + 4) % 2 ^ F.SLOT_WPTR_WPTR.width ∧
          (∀ a, a ≠ R.SLOT_WPTR → t.rd a = s.rd a)) ∧
        (slotMax ≤ s.fg F.SLOT_WPTR_WPTR → ∃ t : State, exec (.slotDataWrite id v) s = .next t ∧
          t.slot = s.slot ∧ t.fg F.SLOT_STAT_ERR = 11 ∧ (∀ a, a ≠ R.SLOT_STAT → t.rd a = s.rd a))) ∧
      (s.clk.warm = false → s.fb F.SLOT_STAT_BUSY = true →
        let view := viewOf s.slotBytes (s.fg F.SLOT_WPTR_WPTR)
        (∀ e o, view.check s.slot.keyHash = some (e, o) →
          exec .slotValidationDone s = .next (((s.fs F.SLOT_STAT_BUSY 0).fs F.SLOT_STAT_ERR e).fs F.SLOT_STAT_WHERE o)) ∧
        (view.check s.slot.keyHash = none →
          exec .slotValidationDone s = .next (installImage view (s.fs F.SLOT_STAT_BUSY 0))))) ∧
  (∀ (s : State) (id v n : Nat) (fInv loInv hiInv : Nat) (fPar loPar hiPar : Bool), s.runs = true →
      (s.windowOpen = true → s.passes id .operator = true →
        (s.fb F.TIME_CTL_LOCK = true → s.fb F.TIME_STAT_RUN = false →
          (s.fb F.SLOT_STAT_LIVE = false → exec (.timeStart id) s = .next (s.fs F.TIME_STAT_RUN 1)) ∧
          (s.fb F.SLOT_STAT_LIVE = true → exec (.timeStart id) s = .next (loadTime 3 0 (s.fs F.TIME_STAT_RUN 1)))) ∧
        exec (.timeLock id) s = .next ((s.fs F.TIME_CTL_LOCK 1).fs F.TIME_STAT_LOCKED 1) ∧
        (s.fb F.TIME_CTL_LOCK = false → s.fb F.TIME_STAT_RUN = false →
          (0x100000000 ≤ v → v ≤ 0x1AAAAAAAB → ∃ t : State, exec (.timeIncWrite id v) s = .next t ∧
            t.rd64 R.TIME_INC_LO R.TIME_INC_HI = v ∧ ∀ a, a ≠ R.TIME_INC_LO → a ≠ R.TIME_INC_HI → t.rd a = s.rd a) ∧
          (v < 0x100000000 ∨ 0x1AAAAAAAB < v → exec (.timeIncWrite id v) s = .next (s.fs F.TIME_STAT_INC_ERR 1)))) ∧
      ((s.stn n).tsPend = true → s.spine.running = true → (s.rib (n / 64)).subst = false → s.fg (F.STN_TS_STAT_LOAD_FRAME n) = s.spine.frame % 65536 →
        exec (.stationTsLoad n true) s = .next (showLoaded (startPw n ((setStn n { s.stn n with acc := s.spine.markTs * 2 ^ 32 + s.rdN (R.STN_TS_FRAC n), accCyc := s.spine.startCyc + 512 * s.spine.frame, accRuns := true, tsPend := false } s).fs (F.STN_TS_STAT_LOADED n) 1))) ∧
        exec (.stationTsLoad n false) s = .next (loadTime 1 (n / 64) (setStn n { s.stn n with tsPend := false } s))) ∧
      ((s.stn n).cold = false → s.spine.running = true → (s.rib (n / 64)).subst = false →
        let fr := markFlit 0 s.spine.frame fInv fPar
        let lo := markFlit 1 s.spine.markTs loInv loPar
        let hi := markFlit 2 (s.spine.markTs >>> 32) hiInv hiPar
        let u : State := downErrors n (b2n (!flitOdd fr) + b2n (!flitOdd lo) + b2n (!flitOdd hi)) s
        let x : Station := if flitOdd fr then { u.stn n with frame := flitPay fr, mark := u.clk.cyc } else u.stn n
        let at_ := u.spine.startCyc + 512 * u.spine.frame
        let a := x.acc + u.rd64 (R.STN_TS_INC_LO n) (R.STN_TS_INC_HI n) * ((at_ - x.accCyc) / 2)
        let own := (a >>> 32) % 2 ^ 64
        let new := (if flitOdd lo then flitPay lo else own % 2 ^ 32) + 2 ^ 32 * (if flitOdd hi then flitPay hi else own >>> 32)
        let w : State := setStn n { x with acc := new * 2 ^ 32 + a % 2 ^ 32, accCyc := at_ } u
        (x.accRuns = false → exec (.stationFrameMark n fInv fPar loInv loPar hiInv hiPar) s = .next (setStn n x u)) ∧
        (x.accRuns = true → new = own → exec (.stationFrameMark n fInv fPar loInv loPar hiInv hiPar) s = .next w) ∧
        (x.accRuns = true → new ≠ own → exec (.stationFrameMark n fInv fPar loInv loPar hiInv hiPar) s =
          .next ((modStn n (fun x => { x with slipDue := true }) w).fs (F.STN_TS_STAT_SLIP n) 1))) ∧
      ((s.stn n).passThrough = false → (s.stn n).mark + 1024 ≤ s.clk.cyc → exec (.stationMarkTimeout n) s = .next (enterPass n s)))

open Sys2Proof.Machine in
/-- Rounds of the gather exchange. T3 lies within 64 CORECLK of the receipt, at a free distance (log entry 7); a periodic round with
no entry to take is log entry 111. (05_timebase, 16_continuity_services) -/
def Obligations.GatherRounds : Prop :=
  ∀ (s : State) (node index session t1 t2 t3 v : Nat) (p : GatherPeer), s.runs = true →
    (s.clk.warm = false →
      (s.coreUp 1 = true → s.noticeStall s.core = false → s.gather.round.isSome = true → s.gather.sent < 16 * s.gather.peers.length →
        s.gather.peers[s.gather.sent % s.gather.peers.length]? = some p →
        s.gather.start + 2000 * (s.gather.sent / s.gather.peers.length) ≤ s.ts →
        (s.fb F.SEC_CTL_TEST_EN = false ∨ s.fb F.PTB_CTL_GATHER_EN = false) →
        ∃ t : State, exec .gatherPingSend s = .next t ∧ t.regs = s.regs ∧
          t.bus.fabSent = s.bus.fabSent ++ [⟨true, p.node, gatherBytes 1 (s.gather.sent / s.gather.peers.length) s.gather.session s.ts 0 0⟩] ∧
          t.gather = { s.gather with sent := s.gather.sent + 1, open_ := s.gather.open_ ++ [(p.ent, s.gather.sent / s.gather.peers.length, s.ts)] }) ∧
      (s.fb F.TIME_STAT_RUN = true → node ∈ s.job.peers →
        ∃ (t : State) (d : Nat), (s.fb F.PTB_PORT_FAB_NOTICE = false → d ≤ 64) ∧ exec (.gpingReceive node index session t1) s = .next t ∧ t.regs = s.regs ∧
          t.bus.fabSent = s.bus.fabSent ++ [⟨true, node, gatherBytes 2 index session t1 s.ts (s.tsOfCyc (s.clk.cyc + 2 * d))⟩]) ∧
      (s.fb F.TIME_STAT_RUN = false ∨ node ∉ s.job.peers →
        ∃ t : State, exec (.gpingReceive node index session t1) s = .next t ∧ t.bus = s.bus ∧
          t.fg F.GATHER_IGN_IGNORED = satAdd F.GATHER_IGN_IGNORED.width (s.fg F.GATHER_IGN_IGNORED) 1) ∧
      (s.gather.peers.find? (fun p => p.node == node) = some p → s.gather.round.isSome = true → (p.ent, index, v) ∈ s.gather.open_ →
        s.ts ≤ v + 50000 →
        ∃ t : State, exec (.gpongReceive node index s.gather.session t1 t2 t3) s = .next t ∧ t.regs = s.regs ∧
          t.gather.open_ = removeFirst (fun o => o.1 == p.ent && o.2.1 == index) s.gather.open_ ∧
          t.gather.peers = replaceFirst (fun q => q.ent == p.ent) (fun q => { q with got := q.got ++
            [{ idx := index, off2 := wrap64 (((t2 : Int) - t1) - ((s.ts : Int) - t3)), rtt := wrap64 (((s.ts : Int) - t1) - ((t3 : Int) - t2)), t1 := t1, t4 := s.ts }] }) s.gather.peers) ∧
      (s.coreUp 1 = true → s.gather.between = true → s.gather.round = none → s.gather.start + 10000000 ≤ s.ts →
        ∃ t : State, exec .gatherSecondRound s = .next t ∧ t.regs = s.regs ∧ t.gather.round = some 2 ∧ t.gather.start = s.ts ∧
          t.gather.sent = 0 ∧ t.gather.peers = s.gather.peers.map (fun p => { node := p.node, ent := p.ent })) ∧
      (s.coreUp 1 = true → s.fg F.GATHER_CTL_PERIOD ≠ 0 → s.fb F.GATHER_STAT_BUSY = false → s.fb F.TIME_STAT_RUN = true →
        s.gather.last + s.fg F.GATHER_CTL_PERIOD * 1000000000 ≤ s.ts →
        let es := (List.range 256).filter (fun e => s.offStatus e == 1 || s.offStatus e == 2)
        (es = [] → exec .gatherPeriodicRound s = .next (modGather (fun g => { g with last := s.ts }) s)) ∧
        (es ≠ [] → ∃ u : State, u.fb F.GATHER_STAT_BUSY = true ∧ u.gather = { s.gather with cmd := none, began := s.ts } ∧
          exec .gatherPeriodicRound s = .next (beginRound 0 (es.map (fun e => (u.offEnt e 0 % 2 ^ 24, e))) u)))) ∧
    (s.gather.isOver s.ts = true → s.gatherLate = true → exec .gatherRoundEnd s = .next (gatherMissed s)) ∧
    (s.gather.isOver s.ts = true → s.gatherLate = false →
      let u : State := showNent (s.gather.peers.foldl (fun u p => writeEntry (s.gather.round == some 1) u.gatherAsym p u) s)
      (s.gather.round = some 1 → exec .gatherRoundEnd s = .next (modGather (fun g => { g with round := none, between := true, open_ := [] }) u)) ∧
      (s.gather.round ≠ some 1 → exec .gatherRoundEnd s = .next (endGather false u))) ∧
    (s.gather.cmd.isSome = true → s.fb F.GATHER_STAT_BUSY = true → s.past (s.gather.began + s.gather.budget) = true →
      exec .gatherTimeout s = .next (endGather true (serviceMiss 1 s.gather.began (showNent
        (s.gather.peers.foldl (fun u p =>
          if s.gather.round == some 2 && s.gather.peerOver u.ts p then writeEntry false u.gatherAsym p u else noReply u.gatherAsym p u) s)))))

open Sys2Proof.Machine in
/-- Cuts and resumes. That a station of an isolated branch does not act is read from R149 (log entry 106). (06_shear_and_cuts) -/
def Obligations.ShearCuts : Prop :=
  ∀ (s : State) (id n a4 b4 d sym : Nat) (c : Cut) (r : ResumeReq) (b : Bool), s.runs = true →
    (dueDecision s = some d → (∀ c ∈ s.shear.cuts, c.committed = true ∨ d ≤ c.commit) →
      exec .shearRequestDecided s = .next (decideRequests d (s.shear.reqs.filter (fun r => r.d == d))
        (modShear (fun h => { h with reqs := h.reqs.filter (fun r => r.d != d) }) s))) ∧
    (s.shear.cuts.find? (fun c => !c.committed) = some c →
      (c.commit ≤ s.spineCyc → (∀ r ∈ s.shear.reqs, c.commit < r.d) →
        exec .shearCommit s = .next (modShear (fun h => noteSymbol (c.commit + 4) c.cls { h with
          cuts := replaceFirst (fun c => !c.committed) (fun c => { c with committed := true }) h.cuts }) s)) ∧
      ((∃ r ∈ s.shear.reqs, r.d ≤ c.commit) → exec .shearCommit s = .next s)) ∧
    (dueCut s = some c →
      let u : State := tickCut c s
      let v : State := if u.autoReads c.cls then (askReadout ⟨s.tsOfSpine c.tick, 3, 0, 0x3F, .auto⟩ u).2 else u
      exec .cutTick s = .next (c.who.foldl (fun t w => tickWho (s.tsOfSpine c.tick) (s.tsOfSpine (c.tick - s.shH)) c.cls
        (u.fg F.SHEAR_COUNT_CUTS) w t) v)) ∧
    (s.treeOn = true → (∃ c ∈ s.shear.cutAts, c.x ≤ s.spineCyc + s.shH) →
      ∃ t : State, exec .cutAtTrigger s = .next t ∧ t.shear.cutAts = s.shear.cutAts.filter (fun c => !decide (c.x ≤ s.spineCyc + s.shH)) ∧
        t.regs = s.regs ∧ t.rings = s.rings) ∧
    (s.shear.resumes.find? (fun r => !r.driven) = some r →
      let x := firstClear (6 * s.symbolCycles.length + 6) r.issue s.symbolCycles
      x ≤ s.spineCyc → exec .resumeIssue s = .next (modShear (fun h => { h with
        resumes := replaceFirst (fun r => !r.driven) (fun r => { r with issue := x, driven := true }) h.resumes }) s)) ∧
    (s.shear.resumes.find? (fun r => r.driven && decide (r.issue + s.shE + 4 ≤ s.spineCyc)) = some r →
      let ts := s.tsOfSpine (r.issue + s.shE + 4)
      let u : State := s.actors.foldl (fun s n => releasePkg n s) s
      let v : State := (modShear (fun h => noteSymbol r.issue 4 { h with resumes := removeFirst (fun q => q == r) h.resumes }) u).wr64 R.SHEAR_RESUME_LO R.SHEAR_RESUME_HI ts
      (r.cmd = none → exec .resumeTick s = .next v) ∧
      (∀ k, r.cmd = some k → exec .resumeTick s = .next (completeTick k 0 ts v))) ∧
    ((s.rib (n / 64)).subst = true → exec (.stationShearDecode n a4 b4) s = .next s) ∧
    (s.fb (F.STN_SH_STAT_LOCKED n) = true → (s.rib (n / 64)).subst = false →
      (decodeSymbol a4 b4 = none →
        exec (.stationShearDecode n a4 b4) s = .next (stationTestFailure n 1 (s.fs (F.STN_SH_STAT_DEC_ERR n) 1))) ∧
      (decodeSymbol a4 b4 = some 5 →
        (s.spineCyc % 512 = s.testCycle n % 512 → exec (.stationShearDecode n a4 b4) s = .next s) ∧
        (s.spineCyc % 512 ≠ s.testCycle n % 512 → exec (.stationShearDecode n a4 b4) s =
          .next (stationTestFailure n 0 ((s.fs (F.STN_SH_STAT_SKEW n) 1).fs F.SHEAR_STAT_SKEWED 1)))) ∧
      (decodeSymbol a4 b4 = some sym → sym ≤ 4 →
        (s.fb (F.STN_SH_STAT_SKEW n) = false → exec (.stationShearDecode n a4 b4) s = .next s) ∧
        (s.fb (F.STN_SH_STAT_SKEW n) = true → exec (.stationShearDecode n a4 b4) s =
          .next (actIn n (s.shcomp n) (if sym = 4 then .resume else .cut sym) s)))) ∧
    (a4 ≠ 30 → decodeSymbol a4 b4 = none) ∧
    [0, 15, 3, 12, 9, 6].map (decodeSymbol 30) = [some 0, some 1, some 2, some 3, some 4, some 5] ∧
    (s.fb F.SHEAR_CTL_EXT_EN = true → s.treeOn = true → s.pins.carFrom + 5 ≤ s.clk.cyc →
      exec (.carrierShearRequest true) s = .next (centralTrigger s.spineCyc (if s.fb F.SHEAR_CTL_EXT_CLASS then clsStop else 0) 5 .none
        { s with pins := { s.pins with carReq := true, carReqN := false } })) ∧
    (s.fb F.SHEAR_CTL_EXT_EN = true →
      exec (.carrierShearPairError b) s = .next (({ s with pins := { s.pins with carReq := b, carReqN := b } }).fs F.SHEAR_STAT_EXT_ERR 1)) ∧
    (s.windowOpen = true → s.passes id .operator = true → s.treeOn = true →
      exec (.shearTrigLatch id) s = .next (centralTrigger s.spineCyc 0 4 .none s) ∧
      exec (.shearTrigFreeze id) s = .next (centralTrigger s.spineCyc 1 4 .none s) ∧
      exec (.shearTrigDrain id) s = .next (centralTrigger s.spineCyc 2 4 .none s) ∧
      exec (.shearTrigRunOn id) s = .next (centralTrigger s.spineCyc 3 4 .none s) ∧
      exec (.shearTrigResume id) s = .next (registerResume none s))

open Sys2Proof.Machine in
/-- Care of the shear tree. (06_shear_and_cuts) -/
def Obligations.ShearTreeCare : Prop :=
  ∀ (s : State) (id n f : Nat) (wrong : Bool), s.runs = true →
    (s.windowOpen = true → s.passes id .operator = true →
      (s.fb F.SLOT_STAT_LIVE = true → exec (.shearEnable id) s = .next ((s.fs F.SHEAR_CTL_ENABLE 1).fs F.SHEAR_STAT_ENABLED 1)) ∧
      (s.fb F.SLOT_STAT_LIVE = false → exec (.shearEnable id) s = .next s) ∧
      (∃ u : State, u.fb F.SHEAR_CTL_ENABLE = false ∧ u.fb F.SHEAR_STAT_ENABLED = false ∧ u.fb F.SHEAR_STAT_LOCKED = false ∧
        u.shear = { s.shear with reqs := [], cuts := [], resumes := [], cutAts := [], testFrame := none, replied := none } ∧
        u.rings = s.rings ∧ exec (.shearDisable id) s = .next
          ((whoCmds ((s.shear.reqs.map (·.who)) ++ (s.shear.cuts.filter (fun c => !c.committed)).flatMap (·.who)) ++
            s.shear.resumes.filterMap (·.cmd) ++ s.shear.cutAts.map (·.cmd) ++
            whoCmds ((s.shear.cuts.filter (·.committed)).flatMap (·.who))).foldl (fun s k => completeCmd k 0x05 0 s) (showOpen u)))) ∧
    (s.fb F.SHEAR_STAT_ENABLED = true →
      (s.idleUp = true → exec (.receiverLock true n) s = .next (s.fs F.SHEAR_STAT_LOCKED 1)) ∧
      (s.idleUp = false → exec (.receiverLock true n) s = .next s) ∧
      (s.populated n = true → s.fb (F.STN_SH_CFG_VALID n) = true → s.idleDown n = true →
        exec (.receiverLock false n) s = .next (s.fs (F.STN_SH_STAT_LOCKED n) 1))) ∧
    (s.fb F.SHEAR_STAT_ENABLED = true → s.spine.running = true → 512 * s.frameNow + 256 ≤ s.spineCyc → s.shear.testNext ≤ s.frameNow →
      ∃ t : State, exec .selftestTestSend s = .next t ∧ t.shear.testNext = s.frameNow + 1 ∧ t.shear.replied = none ∧
        (s.shear.symbols = [] → s.shear.cuts = [] → s.shear.resumes = [] → t.regs = s.regs ∧ t.shear.testFrame = some s.frameNow) ∧
        ((∃ x ∈ s.shear.symbols, x.2 ≠ 5 ∧ x.1 = 512 * s.frameNow + 256) → t.shear.testFrame = none ∧
          t.fg F.SHEAR_ERR_SKIPPED = satAdd F.SHEAR_ERR_SKIPPED.width (s.fg F.SHEAR_ERR_SKIPPED) 1)) ∧
    (s.shear.testFrame = some f → f % 1024 = n → s.populated n = true → s.fb (F.STN_SH_STAT_LOCKED n) = true →
      512 * f + 256 + s.shE + 4 ≤ s.spineCyc →
      exec (.selftestReply n) s = .next (modShear (fun h => { h with replied := some n }) s)) ∧
    (s.shear.testFrame = some f → 512 * f + 256 + 2 * s.shE + 4 + 2 ≤ s.spineCyc → s.fb F.SHEAR_STAT_LOCKED = true →
      s.shear.runs = [] →
      let u : State := modShear (fun h => { h with testFrame := none, replied := none }) s
      (s.shear.replied = some (f % 1024) → exec (.selftestRootCheck false) s = .next u) ∧
      (s.populated (f % 1024) = true → s.ribDegraded (f % 1024 / 64) = false → (s.rib (f % 1024 / 64)).subst = false →
        wrong = true ∨ s.shear.replied ≠ some (f % 1024) →
        exec (.selftestRootCheck wrong) s = .next (rootTestFailure 2 (f % 1024) u))) ∧
    (s.fb F.SHEAR_STAT_LOCKED = true → exec .upwardDecodeError s = .next (rootTestFailure 3 0 (s.fsat F.SHEAR_ERR_DEC_ERR 1)))

open Sys2Proof.Machine in
/-- Readouts of cullet vectors. (07_cullet_snapshots) -/
def Obligations.CulletReadout : Prop :=
  ∀ (s : State) (id n types g d : Nat) (m : DownMsg) (rest : List DownMsg) (up : UpMsg) (ups : List UpMsg) (vectors : List (List Nat))
    (x : StnReadout) (gs : List Nat) (q : ReadReq) (r : Readout) (hit : Nat × Nat), s.runs = true →
    ((s.stn n).inbox = m :: rest → s.delivers n = true → m.kind = 4 →
      let u : State := setStn n { s.stn n with inbox := rest } s
      let y := openReadout n m u
      exec (.stationCulletRd n) s = .next (showReadout n (startGroup n ((modStn n (fun x => { x with
        readout := if y.groups.isEmpty then none else some y }) u).fs (F.STN_CUL_STAT_SKEWMATCH n) (b2n y.skew)))) ∧
      ((s.stn n).strobes.find? (fun e => e.1 == m.words.getD 0 0 + 2 ^ 32 * m.words.getD 1 0) = some hit →
        y.hit = some hit.1 ∧ y.off = hit.2 ∧ y.skew = false ∧ y.rdtag = m.head % 4 ∧ y.types = bitsOf m.head 2 6)) ∧
    ((s.stn n).readout = some x → x.groups = g :: gs → x.reading = true →
      let parts := culletParts n g x vectors s
      exec (.stationCulletGroupDone n vectors) s = .next (showReadout n (startGroup n ((culletSend n g x parts
        (setStn n { s.stn n with readout := if gs.isEmpty then none else some { x with groups := gs, reading := false } } s)).fs
          (F.STN_CUL_STAT_LATER_N n) (culletLater x parts))))) ∧
    (s.windowOpen = true → s.passes id .operator = true → types % 64 ≠ 0 → s.fg F.SHEAR_COUNT_CUTS ≠ 0 →
      s.cullet.running = none → s.cullet.next = none →
      exec (.culletReadGo id types) s = .next { s with cullet := { s.cullet with
        next := some ⟨s.rd64 R.SHEAR_TICK_LO R.SHEAR_TICK_HI, 3, 0, types % 64, .register⟩ } }) ∧
    (s.clk.warm = false → s.cullet.running = none → s.cullet.next = some q → s.nextDir = some d →
      let u : State := freeDir d (modCullet (fun c => { c with next := none }) s)
      let v : State := beginReadout d q (u.expectedGroups q) u
      exec .culletReadoutStart s = .next (if (u.expectedGroups q).isEmpty || !v.spine.running then endReadout v else v)) ∧
    (s.clk.warm = false → s.cullet.running = none → s.cullet.next = some q → s.nextDir = none →
      exec .culletReadoutStart s = .next (refuseReadout q (modCullet (fun c => { c with next := c.waiting, waiting := none })
        (s.fs F.CULLET_STAT_WAITING 0)))) ∧
    ((s.stn n).air = up :: ups → up.kind = 1 →
      let u : State := takeCulletMessage n up (expireReadout (setStn n { s.stn n with air := ups } s))
      exec (.culletMessageArrival n) s = .next (if readoutOver u then lehrRun (endReadout u) else u)) ∧
    (s.cullet.running = some r → s.past r.deadline = true → exec .culletReadoutTimeout s = .next (lehrRun (endReadout s)))

open Sys2Proof.Machine in
/-- Counters over the network. (08_counters) -/
def Obligations.CounterNetwork : Prop :=
  ∀ (s : State) (id n i v f w c : Nat) (m : DownMsg) (rest : List DownMsg) (up : UpMsg) (ups : List UpMsg) (copy : Bool)
    (ws : List Nat), s.runs = true →
    (s.windowOpen = true → s.passes id .operator = true →
      (s.populated n = true → s.unreachable n = false → eventReserved (v % 256) = false →
        exec (.stnPcCfgWrite id n i v) s = .next (configureCounter 0 n i (v % 2 ^ 32) (v >>> 32 % 2 ^ 16) id none s).2) ∧
      exec (.ctrCtlWrite id v) s = .next (shareAttr (plainWrite R.CTR_CTL (BitVec.ofNat 32 v) s)) ∧
      exec (.attrCtxEnWrite id i v) s = .next (shareAttr (s.wrN (R.ATTR_CTX_EN i) v))) ∧
    ((s.stn n).inbox = m :: rest → s.delivers n = true → m.kind = 5 →
      let u : State := setStn n { s.stn n with inbox := rest } s
      (m.head % 16 = 0 → ∃ t : State, exec (.stationCtrConfig n) s = .next t ∧ t.regs = s.regs ∧ (t.stn n).cfgPend =
        (s.stn n).cfgPend ++ [(m.words.getD 0 0, m.words.getD 1 0 % 16, m.words.getD 2 0, m.words.getD 3 0, b2n m.copy)]) ∧
      (m.head % 16 = 1 → exec (.stationCtrRead n) s = .next (addSample n (m.words.getD 0 0) 1 (bitsOf m.head 4 8) (m.words.getD 1 0) u)) ∧
      (m.head % 16 = 2 → ∃ t : State, exec (.stationCtrKeys n) s = .next t ∧ t.regs = s.regs ∧ (t.stn n).keys =
        ((List.range (m.words.length / 2)).map (fun k => (m.words.getD (2 * k) 0, m.words.getD (2 * k + 1) 0))).take 64) ∧
      (m.head % 16 = 3 → exec (.stationAttrDump n) s = .next (addSample n (m.words.getD 0 0) 3 (bitsOf m.head 4 8) (m.words.getD 1 0) u))) ∧
    ((s.stn n).cfgPend = [(f, i, v, w, b2n copy)] → s.sampleDue f = true →
      ∃ t : State, exec (.counterConfigApply n) s = .next t ∧ t = applyCfg n i v w copy (modStn n (fun x => { x with cfgPend := [] }) s)) ∧
    ((s.stn n).samples = [(f, [1, i, w])] → s.sampleDue f = true →
      let u : State := modStn n (fun x => { x with samples := [] }) s
      exec (.counterSample n) s = .next ((counterMessages n i w u).foldl (fun s m => offerMsg n m s) (noteCutSample n i u))) ∧
    ((s.stn n).samples = [(f, [3, i, w])] → s.sampleDue f = true →
      let u : State := modStn n (fun x => { x with samples := [] }) s
      let v : State := (attribMessages n i u).foldl (fun s m => offerMsg n m s) u
      exec (.counterSample n) s = .next (if bitOf w 0 then attrClear n v else v)) ∧
    (s.stnSends n = true → s.noticeSlot n = true → (s.stn n).announce = [] → leastCode (s.stn n).wrapCtr = some c →
      ∃ t : State, exec (.counterWrapNoteSend n) s = .next t ∧ (t.stn n).noteAir = (s.stn n).noteAir ++ [c % 2 ^ 28 + 2 ^ 28] ∧
        (t.stn n).wrapCtr = removeFirst (fun d => d == c) (s.stn n).wrapCtr ∧
        (bitsOf c 6 2 = 1 → t.rd (R.STN_PC_HI n (c % 64 % 16)) =
          BitVec.ofNat 32 (setBit (s.rdN (R.STN_PC_HI n (c % 64 % 16))) 17 false))) ∧
    ((s.stn n).noteAir = w :: ws → bitsOf w 28 4 = 1 → s.fb F.CTR_CTL_WRAP_EN = true → bitsOf w 6 2 = 0 →
      exec (.counterWrapNoteArrival n) s = .next (postEvent (s.fg F.CTR_CTL_WRAP_RING)
        ⟨10, n + 2 ^ 16 * (w % 65536), s.ts, bitsOf w 16 4 + 2 ^ 8 * bitsOf w 20 8, none⟩ (setStn n { s.stn n with noteAir := ws } s))) ∧
    ((s.stn n).air = up :: ups →
      (up.kind = 3 → exec (.counterMessageArrival n) s = .next (lehrRun (settleReads (takeCounterMessage n up (expireReads (setStn n { s.stn n with air := ups } s)))))) ∧
      (up.kind = 6 → exec (.attribMessageArrival n) s = .next (lehrRun (settleReads (takeAttribMessage n up (expireReads (setStn n { s.stn n with air := ups } s))))))) ∧
    exec .counterReadTimeout s = .next (lehrRun (settleReads ((s.ctr.reads.filter (fun r => s.past r.deadline)).foldl
      (fun s r => modRead r.rtag (fun r => loseMissing r s) s) s)))

open Sys2Proof.Machine in
/-- Registers of the trace unit. (09_trace_capture) -/
def Obligations.TraceRegisters : Prop :=
  ∀ (s : State) (id v p c w i : Nat), s.runs = true → s.windowOpen = true → 2 ≤ s.classOf id →
    let u : State := takeRing id (s.classOf id) s
    (bitOf v 14 = false → bitOf v 15 = false → exec (.trcCtlWrite id v) s = .next (sendParam 3 0 (u.wrN R.TRC_CTL (v % 2 ^ 14)))) ∧
    (∃ t : State, exec (.trcFreeze id) s = .next t ∧ t.fb F.TRC_STAT_FROZEN = true ∧ t.trace.window = none ∧ t.trace.capture = false ∧
      ∀ a, a ≠ R.TRC_STAT → t.rd a = u.rd a) ∧
    (u.fb F.TRC_STAT_RUN = false →
      ∃ x : State, x.fb F.TRC_STAT_FROZEN = false ∧ x.fb F.TRC_STAT_TRIGGERED = false ∧ x.fb F.TRC_STAT_FULL = false ∧
        x.fb F.TRC_STAT_RD_OVERRUN = false ∧ x.rd R.TRC_WR = 0 ∧ x.trace = { u.trace with blocks := [], bseq := 0, drained := 0, lost := [], wqLost := [], window := none } ∧
        exec (.trcClear id) s = .next (centralSync srcStim 7 (centralSync srcWriter 7 x))) ∧
    (bitOf v 4 = false → exec (.trcPortWrite id p v) s = .next (sendPorts (u.fg F.TRC_SEL_STN)
      (modTrc (fun t => { t with portCopy := mput t.portCopy (u.fg F.TRC_SEL_STN) (setAt 0 (u.portCopy (u.fg F.TRC_SEL_STN)) p (v % 32)) }) u))) ∧
    (w < 4 → exec (.trcCmpWrite id c w v) s = .next (trcCmpWrite c w v false u)) ∧
    exec (.trcCtxEnWrite id i v) s = .next (sendCtx 3 0 (u.wrN (R.TRC_CTX_EN i) v)) ∧
    (v % 64 ≤ 40 → bitsOf v 8 6 < v % 64 →
      exec (.trcLlWrite id v) s = .next (sendParam 3 0 (u.wrN R.TRC_LL (v % 64 + 2 ^ 8 * bitsOf v 8 6)))) ∧
    (u.trace.blocks.findIdx? (fun b => b.pos == v % 2 ^ 24 / 64 * 64) = some i →
      exec (.trcRdWrite id v) s = .next (freeDrained (showTrcPtrs (modTrc (fun t => { t with drained := i }) u)))) ∧
    (∃ t : State, exec (.seqArm id) s = .next t ∧ t.fb F.SEQ_CTL_ARM = true ∧ t.fb F.SEQ_STAT_ARMED = true ∧ t.fg F.SEQ_STAT_STATE = 0 ∧
      t.fg F.SEQ_STAT_EVENTS = 0 ∧ t.rd R.SEQ_COUNT = 0 ∧ t.trace.events = [] ∧ (u.fb F.SEQ_CTL_AUTO_START = true → t.trace.capture = true)) ∧
    (∃ t : State, exec (.seqDisarm id) s = .next t ∧ t.fb F.SEQ_CTL_ARM = false ∧ t.fb F.SEQ_STAT_ARMED = false ∧
      t.trace.events = [] ∧ t.trace.capture = false)

open Sys2Proof.Machine in
/-- The sequencer, the trace ring and the trace of a station. (09_trace_capture, 10_trace_packets) -/
def Obligations.TraceFlow : Prop :=
  ∀ (s : State) (n f act w : Nat) (m : DownMsg) (rest : List DownMsg) (up : UpMsg) (ups : List UpMsg) (e : SeqEvent) (es : List SeqEvent)
    (ws : List Nat) (run : Bool), s.runs = true →
    (s.trace.events = e :: es → s.fb F.SEQ_STAT_ARMED = true →
      let u : State := (modTrc (fun t => { t with events := es }) s).fsat F.SEQ_STAT_EVENTS 1
      let st := u.fg F.SEQ_STAT_STATE
      (u.ruleMatches st 0 e = true → exec .sequencerEvent s = .next (ruleActions st 0 e u)) ∧
      (u.ruleMatches st 0 e = false → u.ruleMatches st 1 e = true → exec .sequencerEvent s = .next (ruleActions st 1 e u)) ∧
      (u.ruleMatches st 0 e = false → u.ruleMatches st 1 e = false → exec .sequencerEvent s = .next u)) ∧
    (s.fb F.SEQ_STAT_ARMED = true →
      exec .timeComparatorMatch s = .next ((List.range 8).foldl (fun s c => fireTime c s) s) ∧
      (s.fg (F.TRC_CMP_CTL_SRC f) = 7 → bitOf s.trace.timeFired f = false → cmpVal (s.cmpWords f) ≤ s.ts →
        (fireTime f s).trace.events = s.trace.events ++ [{ cmp := f, central := true }] ∧ bitOf (fireTime f s).trace.timeFired f = true)) ∧
    (s.stnSends n = true → s.noticeSlot n = true → (s.stn n).announce = [] → (s.stn n).wrapCtr = [] → (s.stn n).trace.hits ≠ 0 →
      exec (.triggerNoteSend n) s = .next (sendNote n (noteWord 2 ((s.stn n).trace.hits + 2 ^ 8 * (s.stn n).trace.hitN) (s.stn n).trace.hitPort (s.stn n).trace.hitCtx)
        (setStn n { s.stn n with trace := { (s.stn n).trace with hits := 0, hitN := 0, hitPort := 0, hitCtx := 0 } } s))) ∧
    ((s.stn n).noteAir = w :: ws → bitsOf w 28 4 = 2 → s.fb F.SEQ_STAT_ARMED = true →
      ∃ t : State, exec (.triggerNoteArrival n) s = .next t ∧ t.regs = s.regs ∧ t.trace.events = s.trace.events ++
        (bitsSet 8 w).map (fun c => { cmp := c, central := false, stn := n, port := bitsOf w 16 4, ctx := bitsOf w 20 8 })) ∧
    exec .centralBatchWrite s = .next (writeBatch s) ∧
    ((s.stn n).air = up :: ups → up.kind = 0 →
      let u : State := setStn n { s.stn n with air := ups } s
      (s.ringHeld = false → s.trace.wq = [] → exec (.traceMessageArrival n) s = .next (writeStationBlock s.ts n up
        (bringLoss n (mget? s.trace.wqLost n) (modTrc (fun t => { t with wqLost := mdel t.wqLost n }) u)))) ∧
      (s.ringHeld = true ∨ s.trace.wq ≠ [] → s.wqBytes + 64 * blockLines (traceBytes up).length ≤ 16384 →
        exec (.traceMessageArrival n) s = .next (modTrc (fun t => { t with wq := t.wq ++ [(n, up, mget? t.wqLost n)], wqLost := mdel t.wqLost n }) u)) ∧
      (s.ringHeld = true ∨ s.trace.wq ≠ [] → 16384 < s.wqBytes + 64 * blockLines (traceBytes up).length →
        exec (.traceMessageArrival n) s = .next (loseQueued n u))) ∧
    ((s.stn n).trace.openBytes ≠ [] → (s.stn n).trace.openCyc + 512 * max 1 (s.stn n).trace.flush ≤ s.spineCyc →
      exec (.traceMessageFlush n) s = .next (closeTrace n s)) ∧
    ((s.stn n).trace.actNext = [(run, act, f)] → s.frameDue f = true →
      ∃ u : State, u.stn n = { s.stn n with trace := { (s.stn n).trace with run := run, actId := act, actNext := [] } } ∧
        u.fb (F.STN_TRC_STAT_RUN n) = run ∧
        (run = true → (s.stn n).trace.run = true → exec (.captureStateApply n) s = .next u) ∧
        (run = false → exec (.captureStateApply n) s = .next
          (let v : State := closeTrace n u
           if v.fb (F.STN_TRC_STAT_HOLD n) then releaseHold n v else v)) ∧
        (run = true → (s.stn n).trace.run = false →
          exec (.captureStateApply n) s = .next ((List.range 16).foldl (fun s p => startPort n p s) (syncStn n 0 u)))) ∧
    ((s.stn n).inbox = m :: rest → s.delivers n = true → m.kind = 7 →
      (∀ c ∈ [(0, Sys2Proof.Instr.stationTracePorts n), (1, Sys2Proof.Instr.stationTraceCmp n), (2, Sys2Proof.Instr.stationTraceCtx n), (3, Sys2Proof.Instr.stationTraceParam n)],
        m.head % 16 = c.1 → ∃ t : State, exec c.2 s = .next t ∧ t.regs = s.regs ∧ (t.stn n).inbox = rest ∧
          (t.stn n).trace = { (s.stn n).trace with cfgPend := (s.stn n).trace.cfgPend ++ [(s.frameNow + 1, c.1, m.words)] }) ∧
      (m.head % 16 = 4 → exec (.stationTraceResync n) s = .next (syncStn n 3 (setStn n { s.stn n with inbox := rest } s)))) ∧
    ((s.stn n).trace.cfgPend = [(f, act, ws)] → s.frameDue f = true →
      exec (.traceConfigApply n) s = .next (applyTrace n act ws (modStn n (fun x => { x with trace := { x.trace with cfgPend := [] } }) s)))

open Sys2Proof.Machine in
/-- The VAR field. R229. -/
def Obligations.VarField : Prop :=
  varBytes 0 = [0] ∧
  ∀ n, n < 2 ^ 64 →
    ∀ b, b = varBytes n → 1 ≤ b.length ∧ b.length ≤ 10 ∧ (∀ x ∈ b, x < 256) ∧
      (∀ i, i + 1 < b.length → 128 ≤ b.getD i 0) ∧ b.getD (b.length - 1) 0 < 128 ∧
      b.foldr (fun x m => x % 128 + 128 * m) 0 = n ∧ (1 < b.length → 128 ^ (b.length - 1) ≤ n)

open Sys2Proof.Machine in
/-- Budget rows, watchdogs, heartbeats, stimuli and epochs. (12_deadlines_and_hangs) -/
def Obligations.BudgetsAndEpochs : Prop :=
  (∀ (s : State) (id u i per v n ctx row f off : Nat) (bs : List Nat) (k : Nat) (w : Watchdog), s.runs = true →
      (s.dl.rowLoads = [(row, ctx, bs, none, f)] → s.sampleDue f = true →
        let t : State := modDl (fun d => { d with rowLoads := [] }) s
        exec .budgetRowApply s = .next (showRow row ctx bs (((t.members 3 0).filter t.reachable).foldl (fun s n => giveRow n ctx bs s) t))) ∧
      ((s.stn (u / 16)).wd = [(k, w)] → w.port = u % 16 → w.rem = none → w.d < s.stnTs (u / 16) →
        exec (.budgetWatchdogExpiry u) s = .next (missWd (u / 16) k w s)) ∧
      (s.pwPeriod u = (i, per) → per ≠ 0 → (s.port u).pwRun = true → s.held u = false → (s.port u).pwFrom + per < s.stnTs (u / 16) →
        let t : State := latchFault u 3 cProgressStall (s.port u).pwFrom (per % 2 ^ 32 + 2 ^ 32 * i) 0 s
        exec (.progressWatchdogExpiry u) s = .next (modPort u (fun p => { p with pwFrom := t.stnTs (u / 16), pwScale := t.pwFactor (u / 16) }) t)) ∧
      (s.windowOpen = true →
        (s.passes id .operator = true → s.fg (F.HB_PER_PERIOD n) ≠ 0 → bitOf v 0 = true → exec (.hbCtlWrite id n v) s = .next
          (beatHb n (modDl (fun d => { d with hbWriter := mput d.hbWriter n 0x3F }) (plainWrite (R.HB_CTL n) (BitVec.ofNat 32 v) s)))) ∧
        (s.passes id .operator = true → bitOf v 0 = false → exec (.hbCtlWrite id n v) s = .next
          (modDl (fun d => { d with hbArmed := d.hbArmed.filter (· != n) }) (plainWrite (R.HB_CTL n) (BitVec.ofNat 32 (if s.fg (F.HB_PER_PERIOD n) = 0 then v / 2 * 2 else v)) s))) ∧
        (s.passes id .open_ = true → exec (.stimWrite id n v) s = .next (stimPacket n id v (beatHb n
          ((modDl (fun d => { d with hbWriter := mput d.hbWriter n id }) (expireHb n s)).wrN (R.STIM n) v))) ∧
          (s.past (s.rd64 (R.HB_LAST_LO n) (R.HB_LAST_HI n) + scaleBudget (mget s.dl.hbScale n 16) (s.fg (F.HB_PER_PERIOD n))) = false →
            expireHb n s = s))) ∧
      (n ∈ s.dl.hbArmed → s.fg (F.HB_PER_PERIOD n) ≠ 0 → s.fb (F.HB_CTL_EN n) = true →
        s.past (s.rd64 (R.HB_LAST_LO n) (R.HB_LAST_HI n) + scaleBudget (mget s.dl.hbScale n 16) (s.fg (F.HB_PER_PERIOD n))) = true →
        exec (.heartbeatWatchdogExpiry n) s = .next (centralFault cHeartbeatMiss (s.fg (F.HB_CTL_CTX n))
          (if s.fb (F.HB_CTL_UNIT_VALID n) then some (s.fg (F.HB_CTL_UNIT n)) else none) (s.rd64 (R.HB_LAST_LO n) (R.HB_LAST_HI n))
          (s.fg (F.HB_PER_PERIOD n) + 2 ^ 32 * n + 2 ^ 40 * mget s.dl.hbWriter n 0x3F) 0
          (modDl (fun d => { d with hbArmed := d.hbArmed.filter (· != n) }) s))) ∧
      (s.windowOpen = true → off < 0x800 → off % 4 = 0 → s.passes id .operator = true →
        (dlPageWritable off = true → exec (.deadlinePageAccess id off true v false) s = .next (winWrite id 1 (s.fg F.DL_STN_SEL_STN) off v s)) ∧
        exec (.deadlinePageAccess id off false v false) s =
          .next (presentAnswer (pageRead id 1 (s.fg F.DL_STN_SEL_STN) off false (.master id) s)))) ∧
  (∀ (s : State) (n w f : Nat) (ws : List Nat), s.runs = true →
      (s.fb F.DL_STAT_EPOCH_BUSY = true → s.spine.running = true → 4 ≤ s.spineCyc % 512 / 16 → s.spineCyc % 512 / 16 ≤ 15 →
        (s.dl.epochSent = 0 → exec .epochSetSend s = .next (sendNoteDown (s.dl.epochVal + 2 ^ 8 * s.dl.epochCtx + 2 ^ 28)
          (modDl (fun d => { d with epochSent := 1, epochFrame := some s.frameNow }) s))) ∧
        (s.dl.epochSent = 1 → s.dl.epochFrame = some (s.frameNow - 1) → 0 < s.frameNow →
          exec .epochSetSend s = .next (sendNoteDown (s.dl.epochVal + 2 ^ 8 * s.dl.epochCtx + 2 ^ 28 + 2 ^ 16)
            (modDl (fun d => { d with epochSent := 2 }) s)))) ∧
      ((s.stn n).noteIn = w :: ws → bitsOf w 28 4 = 1 →
        ∃ t : State, exec (.stationEpochNote n) s = .next t ∧ t.regs = s.regs ∧ (t.stn n).noteIn = ws ∧
          (s.frameNow - bitsOf w 16 1 + 2, bitsOf w 8 8, w % 256) ∈ (t.stn n).epochPend ∧
          (∀ e ∈ (s.stn n).epochPend, e ∈ (t.stn n).epochPend)) ∧
      (let u : State := (s.slot.stns.map (·.1)).foldl (fun s n =>
          ((s.stn n).epochPend.filter (fun e => s.frameDue e.1)).foldl (fun s e => stnSetEpoch n e.2.1 e.2.2 s)
            (modStn n (fun x => { x with epochPend := x.epochPend.filter (fun e => !s.frameDue e.1) }) s)) s
       u.dl.epochFrame = some f → u.fb F.DL_STAT_EPOCH_BUSY = true → u.frameDue (f + 2) = true →
       exec .epochApply s = .next (endEpoch u)))

open Sys2Proof.Machine in
/-- Fault records from a station to the log. (12_deadlines_and_hangs) -/
def Obligations.FaultFlow : Prop :=
  ∀ (s : State) (n w : Nat) (m : DownMsg) (rest : List DownMsg) (up : UpMsg) (ups : List UpMsg) (ws : List Nat) (p : PendFault), s.runs = true →
    ((s.stn n).inbox = m :: rest → s.delivers n = true → m.kind = 0 → m.head % 2 ^ 12 = 512 + 2 ∨ m.head % 2 ^ 12 = 512 + 3 →
      exec (.faultLatchAck n) s = .next (ackLatches n (m.head % 512 == 3) (m.words.getD 0 0) (setStn n { s.stn n with inbox := rest } s))) ∧
    exec (.faultRecordCompletion n) s = .next (completeFaults n s) ∧
    (s.stnSends n = true → s.noticeSlot n = true → (s.stn n).announce = w :: ws →
      exec (.faultNoteSend n) s = .next (releaseOvf n (sendNote n w (setStn n { s.stn n with announce := ws } s)))) ∧
    ((s.stn n).noteAir = w :: ws → bitsOf w 28 4 = 0 →
      let u : State := setStn n { s.stn n with noteAir := ws } s
      (∀ q ∈ s.dl.logged, samePend n (w % 65536) (bitsOf w 16 4) q = false ∨ s.past (q.ts + s.fltWait) = true) →
      let a : Nat × State := takeActions { code := w % 65536, unit := if w % 65536 = cShearSelftest then none else some (16 * n + bitsOf w 16 4), ctx := bitsOf w 20 8, ts := s.ts } 0xFFFFFFFF u
      exec (.faultNoteArrival n) s = .next (modDl (fun d => { d with
        pend := d.pend ++ [⟨n, w % 65536, bitsOf w 16 4, bitsOf w 20 8, a.2.ts, a.1⟩] }) a.2)) ∧
    ((s.stn n).air = up :: ups → up.kind = 2 →
      let u : State := setStn n { s.stn n with air := ups } s
      let r := FaultRec.ofBytes (bytesOfWords up.words)
      let key := samePend n r.code (match r.unit with | some u => u % 16 | none => 0)
      (s.dl.pend.find? key = some p → exec (.faultMessageArrival n) s = .next
        (logTaken r p.acts (modDl (fun d => { d with pend := removeFirst key d.pend }) u))) ∧
      (s.dl.pend.find? key = none → s.dl.closed = [] →
        ∃ t : State, exec (.faultMessageArrival n) s = .next (logTaken r (takeActions r (u.fg F.FLT_NEXT_FSEQ) u).1 t) ∧
          t.regs = (takeActions r (u.fg F.FLT_NEXT_FSEQ) u).2.regs ∧ ∃ q ∈ t.dl.logged, key q = true) ∧
      (s.dl.pend.find? key = none → p ∈ s.dl.closed → key p = true → s.past (p.ts + s.fltWait) = false →
        exec (.faultMessageArrival n) s = .next ((u.fsat F.FLT_DISC_LATE 1).fs F.DL_STAT_LATE 1))) ∧
    (s.dl.pend.find? (fun p => s.past (p.ts + s.fltWait)) = some p →
      ∃ u : State, u.fb F.DL_STAT_LOST_DETAIL = true ∧ u.dl.pend = removeFirst (fun p => s.past (p.ts + s.fltWait)) s.dl.pend ∧
        u.dl.closed = s.dl.closed ++ [{ p with ts := s.ts }] ∧ exec .faultPendingTimeout s = .next
          (logTaken { code := p.code, unit := some (16 * p.stn + p.port), ctx := p.ctx, ts := p.ts, flags := flLostDetail + flTsApprox } p.acts u)) ∧
    (∃ t : State, exec .faultLoggedEntryExpiry s = .next t ∧ t.regs = s.regs ∧
      t.dl.logged = s.dl.logged.filter (fun p => !s.past (p.ts + s.fltWait)) ∧ t.dl.closed = s.dl.closed.filter (fun p => !s.past (p.ts + s.fltWait)))

open Sys2Proof.Machine in
/-- Stria slots and tiles over the network. (11_stria) -/
def Obligations.StriaFlow : Prop :=
  ∀ (s : State) (n f i c cnt rtag : Nat) (copy : Bool) (ws : List Nat) (m : DownMsg) (rest : List DownMsg) (up : UpMsg) (ups : List UpMsg) (r : StriaRead), s.runs = true →
    ((s.stn n).inbox = m :: rest → s.delivers n = true → m.kind = 6 →
      (m.head % 16 = 0 → ∃ t : State, exec (.stationStriaSlot n) s = .next t ∧ t.regs = s.regs ∧ (t.stn n).stria =
        { (s.stn n).stria with slotPend := (s.stn n).stria.slotPend ++ [(m.words.getD 0 0, bitsOf m.head 4 6 + 64 * b2n m.copy, m.words.drop 1)] }) ∧
      (m.head % 16 = 1 → ∃ t : State, exec (.stationStriaSettle n) s = .next t ∧ t.regs = s.regs ∧ (t.stn n).stria =
        { (s.stn n).stria with settlePend := (s.stn n).stria.settlePend ++
          [(m.words.getD 0 0, m.words.getD 1 0 % 64, bitsOf (m.words.getD 2 0) 0 12, bitsOf (m.words.getD 2 0) 16 13, bitsOf m.head 4 8)] }) ∧
      (m.head % 16 = 2 → exec (.stationStriaRelease n) s = .next
        (((s.stn n).stria.entries.filter (fun e => e.held == some (bitsOf m.head 4 8))).foldl (fun s e => returnHeld n e s)
          (modStn n (fun x => { x with stria := { x.stria with entries := x.stria.entries.filter (fun e => e.held != some (bitsOf m.head 4 8)) } })
            (setStn n { s.stn n with inbox := rest } s))))) ∧
    ((s.stn n).stria.slotPend = [(f, i + 64 * b2n copy, ws)] → i < 64 → s.sampleDue f = true →
      exec (.striaSlotApply n) s = .next (applySlot n i copy ws (modStn n (fun x => { x with stria := { x.stria with slotPend := [] } }) s))) ∧
    ((s.stn n).stria.settlePend = [(f, i, c, cnt, rtag)] → s.sampleDue f = true →
      exec (.striaSettle n) s = .next (settleStn n f i c cnt rtag (modStn n (fun x => { x with stria := { x.stria with settlePend := [] } }) s))) ∧
    ((s.stn n).air = up :: ups → up.kind = 4 →
      let u : State := setStn n { s.stn n with air := ups } s
      (bitOf up.head 6 = false → s.stria.running = none → exec (.striaTileMessageArrival n) s = .next (mergeTile up u)) ∧
      (bitOf up.head 6 = false → s.stria.running = some r → r.slot ≠ up.head % 64 ∨ mget? r.fences n = none →
        exec (.striaTileMessageArrival n) s = .next (mergeTile up u)) ∧
      (bitOf up.head 6 = false → s.stria.running = some r → r.slot = up.head % 64 → (mget? r.fences n).isSome = true →
        r.deferBytes + up.bytes ≤ 65536 →
        exec (.striaTileMessageArrival n) s = .next (modStria (fun q => { q with running := some { r with deferred := r.deferred ++ [(n, up)] } }) u)) ∧
      (bitOf up.head 6 = true → s.stria.running = some r → n ∈ r.left → up.words.getD 0 0 % 256 = r.rtag → s.past r.deadline = true →
        exec (.striaFenceArrival n) s = .next (afterRead (fencesDone { r with left := [], lost := true } u))) ∧
      (bitOf up.head 6 = true → s.stria.running = some r → n ∈ r.left → up.words.getD 0 0 % 256 = r.rtag → s.past r.deadline = false →
        let q : StriaRead := { r with left := r.left.filter (· != n), fences := mput r.fences n (fenceCells r.first up.words) }
        let v : State := modStria (fun t => { t with running := some q }) u
        exec (.striaFenceArrival n) s = .next (if q.left.isEmpty then afterRead (fencesDone q v) else v))) ∧
    (s.stria.running = some r → r.left ≠ [] → s.past r.deadline = true →
      exec .striaFenceTimeout s = .next (afterRead (fencesDone { r with left := [], lost := true } s)))

open Sys2Proof.Machine in
/-- Control of a dump and its memory accesses. (13_lehr_dump, 14_dump_container) -/
def Obligations.DumpControl : Prop :=
  ∀ (s : State) (id d v tag : Nat) (q : DumpReq) (rest : List DumpReq) (l : LineReq) (ls : List LineReq) (data : List Nat) (err : Bool), s.runs = true →
    (s.windowOpen = true → s.passes id .operator = true →
      (s.lehr.running = false →
        exec (.lehrDestWrite id d 0 v) s = .next (checkDest (d % 4) (plainWrite (R.LEHR_DEST_CFG (d % 4)) (BitVec.ofNat 32 v) s)) ∧
        exec (.lehrDestWrite id d 1 v) s = .next (checkDest (d % 4) (s.wr64 (R.LEHR_DEST_ADDR_LO (d % 4)) (R.LEHR_DEST_ADDR_HI (d % 4)) v)) ∧
        exec (.lehrDestWrite id d 3 v) s = .next (checkDest (d % 4) (plainWrite (R.LEHR_DEST_SIZE (d % 4)) (BitVec.ofNat 32 v) s))) ∧
      (bitOf v 0 = true → s.lehrTakes = true → ∃ t : State, exec (.lehrStartWrite id v) s = .next t ∧ t.regs = s.regs ∧ t.lehr = { s.lehr with
        asked := s.lehr.asked ++ [⟨s.fg F.LEHR_SCOPE_PARTMASK, bitOf v 1, if bitOf v 2 then some (bitsOf v 3 14) else none, .register, false, 0, 0⟩] }) ∧
      (bitOf v 0 = true → s.lehrTakes = false → exec (.lehrStartWrite id v) s = .next (s.fs F.LEHR_STAT_REFUSED 1)) ∧
      exec (.lehrAbortWrite id) s = .next (abortDump s)) ∧
    (s.lehr.running = true → 2 ≤ s.lehrPhase → s.past s.lehr.deadline = true →
      (s.lehrPhase ≠ 6 → exec .lehrPhaseDeadline s = .next
        (stopPhase (s.lehrPhase - 1) (lateDump (s.lehrPhase - 1) s.lehr.deadline s.lehr.atLimit s))) ∧
      (s.lehrPhase = 6 → s.lehr.lateP5 = false → exec .lehrPhaseDeadline s = .next
        (sealAgain s.sealsDue (lateDump 5 s.lehr.deadline true (modLehr (fun l => { l with lateP5 := true }) s))))) ∧
    (s.clk.warm = false → s.lehr.asked = q :: rest →
      let u : State := modLehr (fun l => { l with asked := rest }) s
      (s.lehr.running = false → s.fb F.LEHR_CTL_EN = true → s.lehrCoreUp = true → exec .dumpAccept s = .next (cutDump (beginDump q u))) ∧
      (s.fb F.LEHR_CTL_EN = false → exec .dumpAccept s = .next (refuseDump q u))) ∧
    (takeLine tag s.ts s.bus.dmpRd = some (l, ls) →
      let u : State := modBus (fun b => { b with dmpRd := ls }) s
      (s.lineLate s.rdTmo l = false →
        (∀ who, l.use = .read who → exec (.dumpMasterReadData tag data err) s = .next (lineAnswer who l.addr (lineBytes data) err u)) ∧
        (∀ k, l.use = .rolsal k → exec (.dumpMasterReadData tag data err) s =
          .next (rolsalBus k (!err) (leAt (lineBytes data) (l.addr % 64) 4) u))) ∧
      (s.lineLate s.rdTmo l = true → exec (.dumpMasterReadData tag data err) s = .next (dumpLate l u))) ∧
    (takeLine tag s.ts s.bus.dmpWr = some (l, ls) →
      exec (.dumpMasterWriteAck tag err) s = .next (lineWritten l (!err && !s.lineLate s.wrTmo l) (modBus (fun b => { b with dmpWr := ls }) s))) ∧
    (takeLine tag s.ts s.bus.fabWr = some (l, ls) →
      exec (.fabricWriteAck tag err) s = .next (lineWritten l (!err && !s.lineLate s.wrTmo l) (modBus (fun b => { b with fabWr := ls }) s))) ∧
    (∀ q, s.lateLine s.rdTmo s.bus.dmpRd = none → s.lateLine s.rdTmo s.bus.fabRd = some q →
      exec .dumpMasterReadTimeout s = .next (dumpLate q (modBus (fun b => { b with fabRd := removeFirst (fun p => p == q) b.fabRd }) s))) ∧
    (∀ q, s.lateLine s.rdTmo s.bus.dmpRd = some q → takeLine q.tag s.ts s.bus.dmpRd = some (l, ls) →
      exec .dumpMasterReadTimeout s = .next (dumpLate l (modBus (fun b => { b with dmpRd := ls }) s))) ∧
    (∀ q, s.lateLine s.wrTmo s.bus.dmpWr = some q → takeLine q.tag s.ts s.bus.dmpWr = some (l, ls) →
      exec .dumpMasterWriteTimeout s = .next (lineWritten l false (modBus (fun b => { b with dmpWr := ls }) s))) ∧
    (∀ q, s.lateLine s.wrTmo s.bus.fabWr = some q → takeLine q.tag s.ts s.bus.fabWr = some (l, ls) →
      exec .fabricWriteTimeout s = .next (lineWritten l false (modBus (fun b => { b with fabWr := ls }) s)))

open Sys2Proof.Machine in
/-- The reset ladder. (15_reset_and_reheat) -/
def Obligations.ResetLadder : Prop :=
  ∀ (s : State) (id v m : Nat) (c : Collect), s.runs = true →
    let l := s.ladder
    (s.windowOpen = true → s.passes id .operator = true →
      (bitOf v 20 = true → s.coreReady 0 = true → exec (.rstReqGo id v) s = .next (requestReset ⟨bitsOf v 0 2,
        if bitsOf v 0 2 = 0 then bitsOf v 2 14 else 0, if bitsOf v 0 2 = 1 then bitsOf v 16 4 else 0, .register⟩ s).2) ∧
      (s.fb F.RST_CTL_LOCK = false → ∃ u : State, u = plainWrite R.RST_CTL (BitVec.ofNat 32 v) s ∧
        exec (.rstModeWrite id v) s = .next (loadReheat (u.fg F.RST_CTL_MODE) u)) ∧
      (s.fb F.RST_CTL_LOCK = true → exec (.rstModeWrite id v) s = .next (plainWrite R.RST_CTL (BitVec.ofNat 32 v) s))) ∧
    (s.ladder.collects.find? (fun c => !c.isOver && s.past c.deadline) = some c → exec .resetCollectTimeout s = .next (endCollect c.num s)) ∧
    (l.running = true → l.nextWord = none →
      (s.past (l.start + l.budget) = false → l.accepted = none →
        let u : State := modLadder (fun l => { l with accepted := some s.ts }) s
        (l.step = 3 → exec (.resetAnswerAccepted l.seq) s = .next (endChip true (milestone 1 3 (s.fg F.RST_NUM_NUM) s.ts 0 u))) ∧
        (l.step ≠ 3 → exec (.resetAnswerAccepted l.seq) s = .next (driveRstq u))) ∧
      (l.step ≠ 3 → s.past (l.start + l.budget) = false →
        let u : State := releaseStep s
        let e := endWithQueue (some (l.step, l.unit, l.part)) (endLadder u)
        u.ladder.reheat = true ∧ u.ladder.reheatStep = l.step ∧ u.ladder.releasedTs = u.ts ∧
          exec (.resetAnswerDone l.seq) s = .next (beginCollect { num := s.fg F.RST_NUM_NUM, step := l.step, unit := l.unit, part := l.part, escalated := l.escalated, reqTs := l.firstStart, doneTs := u.ts, deadline := u.ts + scaleBudget u.ladder.rhtScale (1000 * e.2.fg F.RST_COLLECT_BUDGET), stns := [], cmds := l.cmds ++ e.1 } e.2)) ∧
      exec (.resetAnswerRefused l.seq) s = .next (escalate (!s.past (l.start + l.budget)) s)) ∧
    (∃ t : State, exec .resetAnswerInvalid s = .next t ∧ t.fb F.RST_STAT_CARRIER_ERR = true ∧ ∀ a, a ≠ R.RST_STAT → t.rd a = s.rd a) ∧
    (l.running = true → s.past (l.start + l.budget) = true →
      (l.step ≠ 3 → exec .resetStepDeadline s = .next (escalate false s)) ∧
      (l.step = 3 → exec .chipStepNoAccept s = .next (escalate false s))) ∧
    (s.windowOpen = true → (id = 3 ∨ (36 ≤ id ∧ id ≤ 51)) → s.passes id .open_ = true → l.reheat = true → 4 ≤ m → m < 7 → l.reheatStep ≠ 0 →
      bitOf (s.fg F.RHT_STAT_DONE) m = false → (s.markOpen m = false ∨ s.past (s.markDeadline m) = false) →
      exec (.reheatMarkWrite id m) s = .next (milestone m l.reheatStep (s.fg F.RST_NUM_NUM) s.ts (b2n (bitOf (s.fg F.RHT_STAT_LATE) m)) s)) ∧
    ([4, 5, 6, 7].find? (fun m => s.markOpen m && s.past (s.markDeadline m)) = some m → exec .reheatMilestoneDeadline s = .next (markLate m s))

open Sys2Proof.Machine in
/-- Notices to and from peers. The phase of a stall is counted from the release of HUB_COLD_N (log entry 114). (15_reset_and_reheat,
26_limits_and_perturbation) -/
def Obligations.PeerNotices : Prop :=
  ∀ (s : State) (node : Nat) (f : FanOut) (rest : List FanOut) (nodes : List Nat) (bytes : List Nat) (t : Tracked), s.runs = true →
    (s.clk.warm = false →
      (s.notice.running = none → s.notice.queue = f :: rest → s.coreUp 1 = true →
        exec .noticeFanoutStart s = .next (keepFanOut { f with started := true, firstBud := s.scaled .service (1000 * s.fg F.NOTICE_CTL_FIRST_BUD), lastBud := s.scaled .service (1000 * s.fg F.NOTICE_CTL_LAST_BUD) }
          (modNotice (fun n => { n with queue := rest }) s))) ∧
      (s.notice.running = some f → f.left = node :: nodes → s.coreUp 1 = true →
        (s.notice.lastSend = none ∨ ∃ c, s.notice.lastSend = some c ∧ c + 8 ≤ s.core) → s.noticeStall s.core = false →
        let e := checkFanOut f s
        exec .peerNoticeSend s = .next (keepFanOut { e.1 with firstLeft := true, left := nodes } (modNotice (fun n => { n with lastSend := some e.2.core })
          { e.2 with bus := { e.2.bus with fabSent := e.2.bus.fabSent ++ [⟨true, node, e.1.bytes⟩] } }))) ∧
      (s.noticeStall s.core = true → exec .peerNoticeSend s = .next s) ∧
      (s.fb F.SEC_CTL_TEST_EN = true → s.fb F.PTB_CTL_FAB_EN = true → s.fb F.PTB_PORT_FAB_NOTICE = true → s.fg F.PTB_PORT_FAB_HOLD = 15 →
        (s.noticeStall s.core = false ↔ s.core % 16 = 15)) ∧
      (bytes.length = 64 → leAt bytes 0 1 = 3 → s.fb F.NOTICE_CTL_RX_EN = true → node ∈ s.job.peers → leAt bytes 0x28 8 = s.job.jobId →
        exec (.peerNoticeReceive node bytes) s = .next (takeNotice node bytes s)) ∧
      (bytes.length = 64 → leAt bytes 0 1 = 3 → s.fb F.NOTICE_CTL_RX_EN = false ∨ node ∉ s.job.peers ∨ leAt bytes 0x28 8 ≠ s.job.jobId →
        exec (.peerNoticeReceive node bytes) s = .next (s.fsat F.NOTICE_CNT_IGNORED 1))) ∧
    (s.notice.running = some f → exec .noticeFanoutDeadline s = .next (keepFanOut (checkFanOut f s).1 (checkFanOut f s).2)) ∧
    (s.notice.tracked.find? (fun t => s.past t.deadline) = some t →
      exec .peerSilentExpiry s = .next (centralFault cPeerSilent 0 none t.receipt t.node t.deadline (showNotice (untrack t.node s))))

open Sys2Proof.Machine in
/-- Ledger, digests, mirror verification and copies. (16_continuity_services) -/
def Obligations.ContinuityServices : Prop :=
  ∀ (s : State) (id k v node tag a len dg st : Nat) (r : RecordJob) (c : CheckJob) (j : LineJob) (w : VerifyJob) (d : DigestJob)
    (ds : List DigestJob) (cm : Cmd) (cp : CopyJob), s.runs = true →
    let x : State := expireCopy (expireVerify s)
    ((∀ j, s.cont.mv = some j → s.past j.deadline = false) → (∀ j, s.cont.copy = some j → s.past j.deadline = false) → x = s) ∧
    (s.windowOpen = true → s.passes id .operator = true →
      (s.ledgerRuns = false → exec (.streamMapWrite id k v) s = .next
        (let u := plainWrite (R.STREAM_MAP (k % 64)) (BitVec.ofNat 32 v) s
         u.wrN R.MAP_CRC u.mapCrc)) ∧
      (∃ u : State, u = plainWrite R.CONT_CTL (BitVec.ofNat 32 v) s ∧
        (s.fb F.CONT_CTL_LEDGER_EN = false → u.fb F.CONT_CTL_LEDGER_EN = true → exec (.ledgerScanStart id v) s = .next
          (showCont (runScan (modCont (fun c => { c with scan := some { addr := u.ledgerAddr 0, n := 4096, stride := 1088 } }) u)))) ∧
        (s.fb F.CONT_CTL_LEDGER_EN = true → u.fb F.CONT_CTL_LEDGER_EN = false → exec (.ledgerScanStart id v) s = .next
          (showCont (modCont (fun c => { c with scan := none }) (abandonReads .scan u))))) ∧
      (s.cont.copy = some cp → cp.failing = none → exec (.contAbortCopy id) s = .next
        (settleCopy (modCont (fun c => { c with copy := some { cp with failing := some (6, s.ts) } }) s)))) ∧
    (s.cont.rcd = some r → s.past r.deadline = true → exec .ledgerRecordTimeout s = .next (endRecord 0x06 0 (serviceMiss 4 r.start s))) ∧
    (s.cont.chk = some c → s.past c.deadline = true → exec .ledgerCheckTimeout s = .next (endCheck 0x06 0 (serviceMiss 5 c.start s))) ∧
    (s.cont.mv = some w → s.past w.deadline = true →
      exec .mirrorVerifyTimeout s = .next (endVerify (if w.rsp.isNone then 4 else 2) 0x06 w (serviceMiss 6 w.start s))) ∧
    (s.cont.copy = some cp → s.past cp.deadline = true → cp.failing = none →
      exec .copyTimeout s = .next (settleCopy (modCont (fun c => { c with copy := some { cp with failing := some (5, s.ts) } }) s))) ∧
    (s.cont.scan = some j → j.isOver = true →
      let found := j.got.filterMap (fun l => scanIndex s.job.jobId l.1 l.2)
      exec .ledgerScanDone s = .next (showCont (modCont (fun c => { c with scan := none })
        (s.fs F.LEDGER_NEXT_INDEX (if found.isEmpty then 0 else (found.foldl max 0 + 1) % 2 ^ 32))))) ∧
    (s.windowOpen = true →
      (s.fb F.CONT_CTL_MV_RX_EN = false ∨ node ∉ s.job.peers →
        exec (.digestReqReceive node tag s.job.jobId a len) s = .next (sendBulk node (digestBytes s 5 1 tag a len 0 0) s)) ∧
      (s.fb F.CONT_CTL_MV_RX_EN = true → node ∈ s.job.peers → regionOk a len = true → a >>> 40 = s.node →
        s.rd64 R.MV_RX_BASE_LO R.MV_RX_BASE_HI ≤ a →
        a + len ≤ s.rd64 R.MV_RX_BASE_LO R.MV_RX_BASE_HI + s.fg F.MV_RX_LEN_MIB * 2 ^ 20 → s.cont.digests = [] →
        exec (.digestReqReceive node tag s.job.jobId a len) s = .next (askDigest (.partner node tag) a len s)) ∧
      (x.cont.mv = some w → x.cmd? w.cmd = some cm → w.sent = true → w.rsp = none → w.node = node → cm.fld 0x28 2 = tag →
        cm.fld 0x18 8 = a → cm.fld 0x20 8 = len →
        exec (.digestRspReceive node st tag a len dg) s =
          .next (decideVerify (modCont (fun c => { c with mv := c.mv.map (fun j => { j with rsp := some (st, dg) }) }) x)))) ∧
    (x.cont.digests = d :: ds → d.job.err = true ∨ d.job.isOver = true →
      let good := !d.job.err
      let v := if good then d.acc else 0
      let u : State := showCont (runDigest (modCont (fun c => { c with digests := ds }) (abandonReads .digest x)))
      (d.use = .partner node tag → x.lehr.running = false → exec .regionDigestDone s =
        .next (sendBulk node (digestBytes x 5 (if good then 0 else 3) tag d.addr d.len v x.ts) u)) ∧
      (d.use = .verify → exec .regionDigestDone s =
        .next (decideVerify (modCont (fun c => { c with mv := c.mv.map (fun j => { j with mine := some (good, v) }) }) u))) ∧
      (d.use = .copySrc → exec .regionDigestDone s =
        .next (decideShard (modCont (fun c => { c with copy := c.copy.map (fun j => { j with dsrc := some (good, v) }) }) u))) ∧
      (d.use = .copyDst → exec .regionDigestDone s =
        .next (decideShard (modCont (fun c => { c with copy := c.copy.map (fun j => { j with ddst := some (good, v) }) }) u))))

open Sys2Proof.Machine in
/-- Doorbells, ring control, fetching and completion entries. (17_rings) -/
def Obligations.RingControl : Prop :=
  ∀ (s : State) (id r v tag idx n : Nat) (q : HostReq) (rest : List HostReq) (k : CmdKey) (bytes : List Nat), s.runs = true → r < 64 →
    (s.windowOpen = true →
      (s.fg (F.SQ_CFG_OWNER r) = id →
        let t := v % 65536
        let size := s.sqSize r
        let grow := (t + size - s.fg (F.SQ_TAIL_INDEX r)) % size
        (t < size → s.fb (F.SQ_CTL_EN r) = true → s.sqPending r + grow ≤ size - 1 →
          exec (.sqDoorbell id r v) s = .next (s.fs (F.SQ_TAIL_INDEX r) t)) ∧
        (size ≤ t ∨ s.fb (F.SQ_CTL_EN r) = false ∨ size - 1 < s.sqPending r + grow →
          exec (.sqDoorbell id r v) s = .next (s.fs (F.SQ_STAT_DB_ERR r) 1))) ∧
      (s.fg (F.SQ_CFG_OWNER r) ≠ id → exec (.sqDoorbell id r v) s = .next (ringRej id s)) ∧
      (s.fg (F.EQ_CFG_OWNER r) = id → bitOf v 16 = false →
        let h := v % 65536
        let size := s.eqSize r
        h < size → (h + size - s.fg (F.EQ_HEAD_INDEX r)) % size ≤ (s.fg (F.EQ_TAIL_INDEX r) + size - s.fg (F.EQ_HEAD_INDEX r)) % size →
        ∃ t : State, exec (.eqDoorbell id r v) s = .next t ∧ t.fg (F.EQ_HEAD_INDEX r) = h % 2 ^ (F.EQ_HEAD_INDEX r).width ∧
          ∀ a, a ≠ R.EQ_HEAD r → t.rd a = s.rd a)) ∧
    (s.windowOpen = true → s.passes id (ringNeed id) = true →
      (s.fg (F.SQ_STAT_STATE r) = stDisabled → exec (.ringEnable id false r) s = .next
        (((s.fs (F.SQ_STAT_OUTST r) ((s.rings.cmds.filter (fun c => c.key.ring == r)).length)).fs (F.SQ_CTL_EN r) 1).fs (F.SQ_STAT_STATE r) stRunning)) ∧
      (s.fg (F.EQ_STAT_STATE r) = stDisabled → exec (.ringEnable id true r) s = .next
        (((s.fs (F.EQ_CTL_EN r) 1).fs (F.EQ_STAT_STATE r) stRunning).fs (F.EQ_STAT_ARMED r) 1)) ∧
      (s.fg (F.SQ_STAT_STATE r) = stRunning → exec (.ringDisable id false r) s = .next
        (settleSq r (dropFetched r ((s.fs (F.SQ_CTL_EN r) 0).fs (F.SQ_STAT_STATE r) stStopping)))) ∧
      (s.fg (F.EQ_STAT_STATE r) = stRunning → exec (.ringDisable id true r) s = .next
        (settleEq r ((s.fs (F.EQ_CTL_EN r) 0).fs (F.EQ_STAT_STATE r) stStopping))) ∧
      exec (.ringZero id false r false) s = .next (disableSq r (zeroSq r s)) ∧
      exec (.ringZero id false r true) s = .next (enableSq r (zeroSq r s)) ∧
      exec (.ringZero id true r false) s = .next (disableEq r (zeroEq r s)) ∧
      exec (.ringZero id true r true) s = .next (enableEq r (zeroEq r s))) ∧
    (s.clk.warm = false →
      (((List.range 64).map (fun i => (s.rings.turn + i) % 64)).find? (fun r => s.fetchRoom r != 0) = some r →
        exec .ringFetchTurn s = .next (modRings (fun t => { t with turn := (r + 1) % 64 })
          ((List.range (min 4 (s.fetchRoom r))).foldl (fun s _ => fetchOne r s) s))) ∧
      exec (.eventEntryWrite r) s = .next (settleEq r (writeEventEntry r s)) ∧
      (s.rings.fetched.find? (fun d => s.fg (F.SQ_STAT_STATE d.1.ring) == stRunning && s.fg (F.SQ_HEAD_INDEX d.1.ring) == d.1.idx) = some (k, bytes) →
        exec .descriptorAccept s = .next (acceptDesc k bytes s))) ∧
    (takeHost tag s.ts s.bus.hostRd = some (q, rest) → q.use = .fetch r idx n →
      exec (.descriptorFetchError tag) s = .next (fetchFailed r idx (modBus (fun b => { b with hostRd := rest }) s))) ∧
    ((List.range 64).find? (fun r => s.signalDue r) = some r →
      ∃ u : State, u.fb (F.EQ_STAT_ARMED r) = false ∧ exec .eqInterruptTimer s = .next (signalVec (u.fg (F.EQ_CFG_VEC r))
        { u with rings := { u.rings with unsig := mput u.rings.unsig r [] } }))

open Sys2Proof.Machine in
/-- CTL.ZERO of a ring. R395. -/
def Obligations.RingZero : Prop :=
  ∀ (s : State) (id r st : Nat), r < 64 → s.windowOpen = true → s.passes id (ringNeed id) = true →
    (s.fg (F.SQ_STAT_STATE r) = st →
      (st = 0 ∨ st = 3 ∨ st = 4 → ∃ t : State, exec (.ringZero id false r false) s = .next t ∧ t.fg (F.SQ_STAT_STATE r) = 0 ∧
        t.fg (F.SQ_HEAD_INDEX r) = 0 ∧ t.fg (F.SQ_TAIL_INDEX r) = 0 ∧ t.rd (R.SQ_ERRINFO r) = 0 ∧ t.fg (F.SQ_STAT_OUTST r) = 0) ∧
      (st = 1 → exec (.ringZero id false r true) s = .next s) ∧
      (st = 2 → ∀ en, exec (.ringZero id false r en) s = .next s)) ∧
    (s.fg (F.EQ_STAT_STATE r) = st →
      (st = 0 ∨ st = 3 ∨ st = 4 → ∃ t : State, exec (.ringZero id true r false) s = .next t ∧ t.fg (F.EQ_STAT_STATE r) = 0 ∧
        t.fg (F.EQ_HEAD_INDEX r) = 0 ∧ t.fg (F.EQ_TAIL_INDEX r) = 0 ∧ t.fb (F.EQ_STAT_PHASE r) = true) ∧
      (st = 1 → exec (.ringZero id true r true) s = .next s) ∧
      (st = 2 → ∀ en, exec (.ringZero id true r en) s = .next s))

open Sys2Proof.Machine in
/-- Host memory answers, interrupt masks and identity resets. (17_rings, 23_integration) -/
def Obligations.HostAnswersAndResets : Prop :=
  ∀ (s : State) (id v tag : Nat) (q : HostReq) (rest : List HostReq) (data : List Nat) (err : Bool), s.runs = true →
    (takeHost tag s.ts s.bus.hostRd = some (q, rest) → exec (.hostReadReturn tag data err) s = .next
      (readOver q (if err || s.hostLate q then none else some (q.fit data)) (modBus (fun b => { b with hostRd := rest }) s))) ∧
    (s.lateHost s.bus.hostRd = some (q, rest) → exec .hostReadTimeout s = .next (readOver q none (modBus (fun b => { b with hostRd := rest }) s))) ∧
    (takeHost tag s.ts s.bus.hostWr = some (q, rest) → exec (.hostWriteAck tag err) s = .next
      (writeOver q (!err && !s.hostLate q) (modBus (fun b => { b with hostWr := rest }) s))) ∧
    (s.lateHost s.bus.hostWr = some (q, rest) → exec .hostWriteTimeout s = .next (writeOver q false (modBus (fun b => { b with hostWr := rest }) s))) ∧
    (s.windowOpen = true → s.passes id .operator = true → s.rd64 R.INT_PEND_LO R.INT_PEND_HI = 0 →
      (∃ t : State, exec (.intMaskWrite id false v) s = .next t ∧ t.rd R.INT_MASK_LO = BitVec.ofNat 32 v ∧ t.pins = s.pins ∧
        t.rd R.INT_MASK_HI = s.rd R.INT_MASK_HI) ∧
      (∃ t : State, exec (.intMaskWrite id true v) s = .next t ∧ t.rd R.INT_MASK_HI = BitVec.ofNat 32 v ∧ t.pins = s.pins ∧
        t.rd R.INT_MASK_LO = s.rd R.INT_MASK_LO)) ∧
    (3 ≤ v → v ≤ 35 → exec (.functionReset v) s = .next (resetIdentities [v] (settleSuppressed (stopFunction v s)))) ∧
    (v < 16 → exec (.controlGroupReset v) s = .next (resetIdentities [36 + v] s))

open Sys2Proof.Machine in
/-- NOP and FENCE complete with an entry. (18_commands, 17_rings) -/
def Obligations.CompletionEntry : Prop :=
  ∀ (s : State) (ring idx : Nat) (c : Cmd), s.runs = true → s.cmd? ⟨ring, idx⟩ = some c → c.phase = .accepted →
    s.mayStart ⟨ring, idx⟩ = true → c.suppressed = false → s.fg (F.EQ_STAT_STATE (s.fg (F.SQ_CFG_EQ ring))) = stRunning →
    let done (t : State) : Prop :=
      t.dueOf (s.fg (F.SQ_CFG_EQ ring)) = s.dueOf (s.fg (F.SQ_CFG_EQ ring)) ++
          [completionEvent ⟨ring, idx⟩ c.opcode 0 (c.fld 8 8) 0 s.ts 0 (some ⟨ring, idx⟩)] ∧
        t.cmd? ⟨ring, idx⟩ = some { c with phase := .completing, status := 0, result := 0 } ∧ t.regs = s.regs
    (c.opcode = 1 → ∃ t, exec (.nop ring idx) s = .next t ∧ done t) ∧
    (c.opcode = 2 → s.earlier ⟨ring, idx⟩ = [] → ∃ t, exec (.fence ring idx) s = .next t ∧ done t)

open Sys2Proof.Machine in
/-- Counter and trace commands of a ring. (18_commands) -/
def Obligations.CounterAndTraceCommands : Prop :=
  ∀ (s : State) (ring idx : Nat) (c : Cmd), s.runs = true → s.cmd? ⟨ring, idx⟩ = some c → c.phase = .accepted →
    s.mayStart ⟨ring, idx⟩ = true →
    let k : CmdKey := ⟨ring, idx⟩
    let u := modCmd k (fun c => { c with phase := .running 0 }) s
    (c.opcode = 0x10 → s.spine.running = true →
      exec (.counterConfig ring idx) s = .next (let r := configureCounter (c.grp 0x10).1 (c.grp 0x10).2 (c.fld 0x12 1) (c.fld 0x14 4) (c.fld 0x18 2) c.owner (some ring) u
       modCtr (fun t => { t with applies := t.applies ++ [(r.1, k)] }) (modCmd k (fun c' => { c' with
         result := (u.members (c.grp 0x10).1 (c.grp 0x10).2).length + 2 ^ 16 * u.cutOff (c.grp 0x10) }) r.2))) ∧
    (c.opcode = 0x11 →
      exec (.counterRead ring idx) s = .next (settleReads (beginCtrRead (some k) (c.grp 0x10).1 (c.grp 0x10).2 false
       (c.fld 0x14 1 % 8 + 2 ^ 16 * c.fld 0x12 2) c.owner c.cls c.point u))) ∧
    (c.opcode = 0x12 → s.spine.running = true →
      exec (.counterReduce ring idx) s = .next (requestReduction (c.grp 0x10).1 (c.grp 0x10).2
       (c.sources.map (fun v => { w := if v = 0x000600 then 1 else 2, op := 0, source := v })) (.command k) u)) ∧
    (c.opcode = 0x13 → bitOf (c.fld 0x12 1) 0 = true →
      exec (.energyRead ring idx) s = .next (fetchTable k (c.fld 0x18 8) (8 * c.fld 0x13 1) u)) ∧
    (c.opcode = 0x20 →
      exec (.traceConfig ring idx) s = .next (fetchTable k (c.fld 0x10 8) (8 * c.fld 0x18 2) u)) ∧
    (c.opcode = 0x21 → u.traceMay 0x21 c.owner c.cls = true → bitOf (c.fld 0x10 1) 0 = false → (takeRing c.owner c.cls u).fb F.TRC_STAT_FROZEN = false →
      exec (.traceArm ring idx) s = .next (captureWait k (takeRing c.owner c.cls u).trace.capture (armSeq (takeRing c.owner c.cls u)))) ∧
    (c.opcode = 0x22 → u.traceMay 0x22 c.owner c.cls = true → bitOf (c.fld 0x10 1) 0 = true →
      exec (.traceStop ring idx) s = .next (captureWait k (takeRing c.owner c.cls u).trace.capture
        ((disarmSeq (takeRing c.owner c.cls u)).fs F.TRC_OWNER_ID 0x3F))) ∧
    (c.opcode = 0x23 → u.traceMay 0x23 c.owner c.cls = true → s.rolsal.drain = false → (∀ d ∈ u.rings.cmds, d.key = k ∨ d.opcode ≠ 0x23) →
      exec (.traceDrain ring idx) s = .next (drainNext k (takeRing c.owner c.cls u))) ∧
    (c.opcode = 0x24 → u.traceMay 0x24 c.owner c.cls = true → (takeRing c.owner c.cls u).fb F.TRC_CTL_STIM_EN = true → (takeRing c.owner c.cls u).fb F.TRC_STAT_RUN = true →
      exec (.traceMark ring idx) s = .next (completeCmd k 0 0 (stimPacket 32 ring (c.fld 0x10 4) (takeRing c.owner c.cls u))))

open Sys2Proof.Machine in
/-- Stria and cut commands of a ring. (18_commands) -/
def Obligations.StriaAndCutCommands : Prop :=
  ∀ (s : State) (ring idx : Nat) (c : Cmd), s.runs = true → s.cmd? ⟨ring, idx⟩ = some c → c.phase = .accepted →
    s.mayStart ⟨ring, idx⟩ = true →
    let k : CmdKey := ⟨ring, idx⟩
    let u := modCmd k (fun c => { c with phase := .running 0 }) s
    (c.opcode = 0x30 →
      exec (.striaArm ring idx) s = .next (changeSlot k u)) ∧
    (c.opcode = 0x31 → u.exists_ c = true →
      exec (.striaDisarm ring idx) s = .next (changeSlot k u)) ∧
    (c.opcode = 0x32 → u.exists_ c = true → u.fieldsOk c = true →
      exec (.striaRead ring idx) s = .next (askRead (c.fld 0x10 1) (c.fld 0x12 2) (u.striaCount c)
       (bitOf (c.fld 0x11 1) 0) (some k) u)) ∧
    (c.opcode = 0x40 → s.treeOn = true →
      exec (.cut ring idx) s = .next (centralTrigger u.spineCyc (c.fld 0x10 1 % 4) 1 (.command k (bitOf (c.fld 0x10 1) 2) 0x3F false) u)) ∧
    (c.opcode = 0x41 → s.treeOn = true → s.shear.cutAts.length < 8 → u.spineCyc + u.shH ≤ c.point →
      exec (.cutAt ring idx) s = .next (modShear (fun h => { h with cutAts := h.cutAts ++
       [({ cmd := k, x := c.point, cls := c.fld 0x10 1 % 4, read := bitOf (c.fld 0x10 1) 2 } : CutAt)] }) u)) ∧
    (c.opcode = 0x41 → s.treeOn = true → s.shear.cutAts.length < 8 → c.point < u.spineCyc + u.shH →
      exec (.cutAt ring idx) s = .next (completeCmd k 6 0 (u.fs F.SHEAR_STAT_LATE 1))) ∧
    (c.opcode = 0x41 → ∀ v : State,
      (v.cutAtCycle c < v.spineCyc + v.shH → settleAccepted c v = completeCmd k 6 0 (v.fs F.SHEAR_STAT_LATE 1)) ∧
      (v.spineCyc + v.shH ≤ v.cutAtCycle c → settleAccepted c v = modCmd k (fun d => { d with point := v.cutAtCycle c }) v)) ∧
    (c.opcode = 0x42 → s.treeOn = true →
      exec (.resume ring idx) s = .next (registerResume (some k) u)) ∧
    (c.opcode = 0x43 → s.treeOn = true →
      exec (.snapshot ring idx) s = .next (centralTrigger u.spineCyc (c.fld 0x10 1 % 4) 1 (.command k true (c.fld 0x11 1) true) u))

open Sys2Proof.Machine in
/-- Dump, reset and continuity commands of a ring. (18_commands) -/
def Obligations.DumpResetContinuityCommands : Prop :=
  ∀ (s : State) (ring idx : Nat) (c : Cmd) (t : State), s.runs = true → s.cmd? ⟨ring, idx⟩ = some c → c.phase = .accepted →
    s.mayStart ⟨ring, idx⟩ = true →
    let k : CmdKey := ⟨ring, idx⟩
    let u := modCmd k (fun c => { c with phase := .running 0 }) s
    (c.opcode = 0x50 → askDump ({ scope := c.fld 0x10 2, noScratch := bitOf (c.fld 0x12 1) 0, unit := if bitOf (c.fld 0x12 1) 1 then some (c.fld 0x14 2) else none, src := .command k } : DumpReq) u = (true, t) →
      exec (.dump ring idx) s = .next t) ∧
    (c.opcode = 0x51 → s.lehr.running = true →
      exec (.dumpAbort ring idx) s = .next (completeCmd k 0 (u.fg F.LEHR_NUM_NUM) (abortDump u))) ∧
    (c.opcode = 0x52 → bitOf (c.fld 0x10 1) 1 = false → u.serviceBusy c = false → c.suppressed = false →
      exec (.dumpStatus ring idx) s = .next (finishWithBytes k (c.fld 0x18 8) (dumpRecord u) 0 (dumpRecord u).length u)) ∧
    (c.opcode = 0x60 → requestReset ⟨c.fld 0x10 1, c.fld 0x12 2, c.fld 0x11 1, .command k⟩ u = (.started, t) →
      exec (.resetRequest ring idx) s = .next t) ∧
    (c.opcode = 0x61 → u.exists_ c = true →
      exec (.reheatStatus ring idx) s = .next (finishWithBytes k (c.fld 0x10 8)
       (toLe 4 (u.rdN R.RST_STAT) ++ toLe 4 (u.rdN R.RHT_STAT) ++ toLe 4 (u.rdN R.RST_NUM) ++ toLe 4 0 ++
         (List.range 8).flatMap (fun m => toLe 8 (u.rd64 (R.RHT_TS_LO m) (R.RHT_TS_HI m))) ++
         (List.range 4).flatMap (fun b => toLe 4 (u.rdN (R.RHT_BUD b))) ++ toLe 32 0) 0 (u.rdN R.RHT_STAT) u)) ∧
    (c.opcode = 0x70 → u.exists_ c = true → u.serviceBusy c = false →
      exec (.ledgerRecord ring idx) s = .next (beginRecord k u)) ∧
    (c.opcode = 0x71 → u.exists_ c = true → u.serviceBusy c = false →
      exec (.ledgerCheck ring idx) s = .next (beginCheck k u)) ∧
    (c.opcode = 0x72 → u.exists_ c = true → u.serviceBusy c = false →
      exec (.mirrorVerify ring idx) s = .next (beginVerify k u)) ∧
    (c.opcode = 0x73 → u.exists_ c = true → u.serviceBusy c = false →
      exec (.copy ring idx) s = .next (beginCopy k u))

open Sys2Proof.Machine in
/-- Gather, notice, table, binding and station commands of a ring. (18_commands) -/
def Obligations.JobBudgetAndAccessCommands : Prop :=
  ∀ (s : State) (ring idx : Nat) (c : Cmd) (t : State), s.runs = true → s.cmd? ⟨ring, idx⟩ = some c → c.phase = .accepted →
    s.mayStart ⟨ring, idx⟩ = true →
    let k : CmdKey := ⟨ring, idx⟩
    let u := modCmd k (fun c => { c with phase := .running 0 }) s
    (c.opcode = 0x80 → s.fb F.GATHER_STAT_BUSY = false →
      exec (.gather ring idx) s = .next (fetchTable k (c.fld 0x10 8) (4 * c.fld 0x18 2)
       (modGather (fun g => { g with cmd := some k, began := u.ts, budget := u.scaled .service (1000 * u.fg F.GATHER_BUDGET_BUDGET), peers := [], round := none, between := false }) (u.fs F.GATHER_STAT_BUSY 1)))) ∧
    (c.opcode = 0x81 → s.job.peers ≠ [] → formFanOut 3 (fun n => noticeBytes u 3 n (u.stepByte none) 0 0 0 0 0 0 0 0xFFFFFFFF (c.fld 0x10 16)) u.ts (some k) u = (true, t) →
      exec (.noticeSend ring idx) s = .next t) ∧
    (c.opcode = 0x82 → u.jobBusy c = false → c.fld 0x18 2 ≠ 0 →
      exec (.jobTableLoad ring idx) s = .next (fetchTable k (c.fld 0x10 8) (4 * c.fld 0x18 2) u)) ∧
    (c.opcode = 0x90 →
      exec (.budgetTableLoad ring idx) s = .next (fetchTable k (c.fld 0x18 8) 128 u)) ∧
    (c.opcode = 0x91 →
      exec (.contextBind ring idx) s = .next (askBind k u)) ∧
    (c.opcode = 0xA0 → u.populated (c.fld 0x10 2) = true → u.unreachable (c.fld 0x10 2) = false → bitOf (c.fld 0x13 1) 0 = true →
      exec (.stationAccess ring idx) s = .next (completeCmd k 0 1 (accessWrite c (c.fld 0x10 2) (c.fld 0x12 1) (c.fld 0x14 2) (c.fld 0x18 4) u))) ∧
    (c.opcode = 0xA0 → u.populated (c.fld 0x10 2) = true → u.unreachable (c.fld 0x10 2) = false → bitOf (c.fld 0x13 1) 0 = false →
      exec (.stationAccess ring idx) s = .next ((List.range (c.fld 0x16 2)).foldl (fun s i => issueAccess
       { tag := 0, stn := c.fld 0x10 2, page := c.fld 0x12 1, off := c.fld 0x14 2 + i, n := 1, peek := bitOf (c.fld 0x13 1) 1, use := .cmdWord k i } s)
       (modCmd k (fun c' => { c' with buf := List.replicate (c.fld 0x16 2) 0, point := c.fld 0x16 2 }) u)))

open Sys2Proof.Machine in
/-- Mailboxes, doorbell words, bindings and remote requests. (19_mailboxes) -/
def Obligations.Mailboxes : Prop :=
  ∀ (s : State) (id c d code v t node status tag off : Nat), s.runs = true → c < 32 → d < 2 →
    (s.windowOpen = true → s.passes id .open_ = true → s.bound c = true →
      (id = s.senderOf c d → (s.mdir c d).go = false → s.lehrChannel c d = false →
        exec (.mbxGo id c d) s = .next (ringDb (s.receiverOf c d) c
          (setMdir c d { s.mdir c d with go := true, valid := false, claimed := false, srcNode := 0, senderGone := false } s))) ∧
      (id = s.senderOf c d → (s.mdir c d).go = true → (s.mdir c d).claimed = false →
        exec (.mbxRetract id c d) s = .next (setMdir c d { s.mdir c d with go := false, retracted := true, delayed := none } s)) ∧
      (id = s.receiverOf c d → id ≠ s.senderOf c d → (s.mdir c d).go = true →
        exec (.mbxClaim id c d) s = .next (presentRead ((s.mdir c d).msg.getD 0 0) (setMdir c d { s.mdir c d with claimed := true } s))) ∧
      (id = s.receiverOf c d → id ≠ s.senderOf c d → (s.mdir c d).go = true → code ≤ 2 ∨ 0x10 ≤ code → code < 256 → (s.mdir c d).delayed = none →
        (s.fb F.SEC_CTL_TEST_EN = false ∨ s.fb F.PTB_CTL_MBX_EN = false) →
        exec (.mbxAck id c d code) s = .next (takeAnswer c d code s))) ∧
    ((s.chan c).crossFrom = some t → t + 64 ≤ s.core → exec (.mbxCrossDefer c) s = .next (ringDb (s.chHi c) c
      (modMdir c 1 (fun x => { x with go := false, valid := true, code := 0x07, crossed := true, delayed := none }) s))) ∧
    ((s.mdir c d).delayed = some (t, code) → t ≤ s.core → exec (.mbxAckDelayedEffect c d) s = .next (takeAnswer c d code s)) ∧
    (s.windowOpen = true → s.passes id .open_ = true →
      exec (.doorbellClear id id v) s = .next (withDb id (fun s => plainWrite (R.DB_PEND id) (BitVec.ofNat 32 v) s) s) ∧
      exec (.doorbellMaskWrite id id v) s = .next (withDb id (fun s => s.wrN (R.DB_MASK id) v) s)) ∧
    (s.windowOpen = true → s.passes id .operator = true →
      (s.fb F.BIND_CTL_LOCK = false → (s.mdir c 0).go = false → (s.mdir c 1).go = false → bitOf v 16 = true → v % 64 ≠ bitsOf v 8 6 →
        v % 64 < 53 → bitsOf v 8 6 < 53 → s.rd (R.BIND c) ≠ BitVec.ofNat 32 (v % 64 + 2 ^ 8 * bitsOf v 8 6 + 2 ^ 16) →
        exec (.mbxBindWrite id c v) s = .next (setChan c {} (s.wr (R.BIND c) (BitVec.ofNat 32 (v % 64 + 2 ^ 8 * bitsOf v 8 6 + 2 ^ 16))))) ∧
      exec (.mbxBindLock id) s = .next ((s.fs F.BIND_CTL_LOCK 1).fs F.BIND_STAT_LOCKED 1)) ∧
    (s.windowOpen = true →
      (∀ job, node ∉ s.job.peers ∨ job ≠ s.job.jobId ∨ 2 < code →
        exec (.mbxReqReceive node code tag off v job) s = .next (sendBulk node (mbxRspBytes s 1 tag off 0) s)) ∧
      (node ∈ s.job.peers → remoteOffset off = true →
        exec (.mbxReqReceive node 1 tag off v s.job.jobId) s =
          .next (sendBulk node (mbxRspBytes (remoteWrite node off v s) 0 tag off 0) (remoteWrite node off v s)) ∧
        exec (.mbxReqReceive node 0 tag off v s.job.jobId) s =
          .next (sendBulk node (mbxRspBytes (remoteRead off false s).2 0 tag off (remoteRead off false s).1) (remoteRead off false s).2) ∧
        exec (.mbxReqReceive node 2 tag off v s.job.jobId) s =
          .next (sendBulk node (mbxRspBytes (remoteRead off true s).2 0 tag off (remoteRead off true s).1) (remoteRead off true s).2)) ∧
      exec (.mbxRspReceive node status tag off v) s = .next { s with mbx := { s.mbx with rsps := s.mbx.rsps ++ [(node, status, tag, off, v)] } })

open Sys2Proof.Machine in
/-- What an answer leaves in a mailbox. (19_mailboxes) -/
def Obligations.MailboxAnswer : Prop :=
  ∀ (s : State) (c d code : Nat), c < 32 → d < 2 → (s.mdir c d).go = true →
    let t : State := takeAnswer c d code s
    (t.mdir c d).go = false ∧ (t.mdir c d).valid = true ∧ (t.mdir c d).claimed = false ∧
      ((s.mdir c d).senderGone = false → (t.mdir c d).code = code ∧
        bitOf (t.rdN (R.DB_PEND (s.senderOf c d))) c = true) ∧
      ((s.mdir c d).senderGone = true → (t.mdir c d).code = 0x0E ∧ t.regs = s.regs)

open Sys2Proof.Machine in
/-- Release, reset, readiness, work and watchdog of a gaffer core. The PC of a core whose watchdog expires is a free value (log entry
5). (20_gaffer_cores) -/
def Obligations.GafferCores : Prop :=
  ∀ (s : State) (id n : Nat), s.runs = true → n < 2 →
    (s.windowOpen = true → s.passes id .operator = true →
      (s.fb (fRun n) = false → s.fb F.GAF_PATCH_STAT_BUSY = false →
        exec (.gafRelease id n) s = .next (modCore n (fun _ => { wdFrom := s.ts, wdDead := s.ts + s.wdPeriod n })
          ((modGaf (fun g => { g with sram := g.sram.filter (fun p => decide (sramFw ≤ p.1)) }) s).fs (fRun n) 1))) ∧
      (s.fb (fRun n) = true → 3 ≤ s.classOf id →
        exec (.gafReset id n) s = .next (resetIdentities [n] (dropServices n
          (modCore n (fun _ => {}) (clearHalt n ((s.fs (fRun n) 0).fs (fReady n) 0)))))) ∧
      (s.fb (fRun n) = true → s.classOf id < 3 → exec (.gafReset id n) s = .next (refuseAccess id R.GAF_CTL s))) ∧
    (s.clk.warm = false →
      (s.fb (fRun n) = true → s.coreReady n = false → s.coreHalted n = false →
        exec (.gafReady n) s = .next (coreGoesOn n (s.fs (fReady n) 1))) ∧
      (∀ w ws, s.coreUp n = true → (s.gcore n).work = none → s.pendingWork n = w :: ws →
        exec (.gafServiceDispatch n) s = .next (coreGoesOn n (modCore n (fun c => { c with work := some w }) s))) ∧
      (s.fb (fRun n) = true → s.coreHalted n = false → s.wdPast n = false →
        exec (.gafYield n) s = .next (modCore n (fun c => { c with wdFrom := s.ts, wdDead := s.ts + s.wdPeriod n, pausedEver := false, work := none }) s)) ∧
      (s.wdPast n = true →
        exec (.gafWatchdogExpiry n) s = .next (centralFault 0x0304 0 none (s.free.1 % 2 ^ 32)
          (n + 2 * b2n (s.gcore n).pausedEver + 4 * b2n (n == 0 && s.lehr.running)) (s.gcore n).wdFrom
          (startCore n (resetCore n (s.free.2.fsat (fExp n) 1))))))

open Sys2Proof.Machine in
/-- Debug of a gaffer core. What firmware left in the registers of a halted core is free (log entry 5). (20_gaffer_cores) -/
def Obligations.GafferDebug : Prop :=
  (∀ (s : State) (id n unit v t i : Nat), s.runs = true → n < 2 →
      (s.windowOpen = true → s.passes id .custodian = true →
        (s.coreReady n = true → s.coreHalted n = false → (s.gcore n).deferFrom = none → s.wdPast n = false →
          exec (.gafDbgHalt id n false) s = .next (haltCore n 3 0 s) ∧
          exec (.gafDbgHalt id n true) s = .next (modCore n (fun c => { c with deferFrom := some s.core }) (s.fs (F.GAF_DBG_STAT_DEFERRED n) 1))) ∧
        (s.coreReady n = true → s.coreHalted n = true →
          exec (.gafDbgRun id n) s = .next (coreGoesOn n (modCore n
            (fun c => { c with wdDead := s.ts + max ((s.gcore n).wdRem.getD 0) 1000000, wdRem := none, regs := [] }) (clearHalt n s))) ∧
          exec (.gafDbgStep id n) s = .next (takeRegs n ((s.fs (F.GAF_DBG_STAT_CAUSE n) 4).fs (F.GAF_DBG_STAT_HIT n) 0))) ∧
        (s.coreReady n = false → exec (.gafDbgHalt id n true) s = .next (s.fs (F.GAF_DBG_STAT_ERR n) 1) ∧
          exec (.gafDbgRun id n) s = .next (s.fs (F.GAF_DBG_STAT_ERR n) 1) ∧ exec (.gafDbgStep id n) s = .next (s.fs (F.GAF_DBG_STAT_ERR n) 1)) ∧
        (s.coreHalted n = true → s.fg (F.GAF_DBG_SEL_IDX n) = i →
          (i = 0 → exec (.gafDbgDataWrite id n v) s = .next s) ∧
          (1 ≤ i → i ≤ 32 → exec (.gafDbgDataWrite id n v) s = .next (modCore n (fun c => { c with regs := mput c.regs i (v % 2 ^ 32) }) s))) ∧
        (s.coreHalted n = false → exec (.gafDbgDataWrite id n v) s = .next (s.fs (F.GAF_DBG_STAT_ERR n) 1)) ∧
        (∀ a, s.fg F.GAF_MEM_ADDR_ADDR / 4 * 4 = a →
          (a < 0x40000 → exec (.gafMemAccess id false v) s = .next (presentRead (Sys2Proof.Config.romWord (a / 4) % 2 ^ 32) (stepAddr s)) ∧
            exec (.gafMemAccess id true v) s = .next (portErr (stepAddr s))) ∧
          (0x10020000 ≤ a → a < 0x10040000 → exec (.gafMemAccess id true v) s = .next
            (modGaf (fun g => { g with sram := mput g.sram ((a - 0x10000000) / 4) (v % 2 ^ 32) }) (stepAddr s))))) ∧
      ((s.gcore n).deferFrom = some t → s.wdPast n = false →
        (s.core ≤ t + 256 → exec (.deferredHaltTake n) s = .next (haltCore n 3 0 s)) ∧
        (t + 256 ≤ s.core → exec (.lockedHaltForce n) s = .next (haltCore n 3 0 s))) ∧
      (s.fb (fRun n) = true → s.coreHalted n = false → unit < 16 → s.fb (F.GAF_PU_CFG_EN unit) = true → s.isPatch unit = false → s.wdPast n = false →
        exec (.gafBreakHit n unit) s = .next (modCore n (fun c => { c with
          regs := mput c.regs 32 (32 * s.fg (F.GAF_PU_CFG_LINE unit) + 4 * s.fg (F.GAF_PU_CFG_WORD unit)) }) (haltCore n 1 unit s)))) ∧
  (∀ (s : State) (n cause hit : Nat), n < 2 → cause < 8 → hit < 16 →
      let t : State := haltCore n cause hit s
      t.coreHalted n = true ∧ t.fg (F.GAF_DBG_STAT_CAUSE n) = cause ∧ t.fg (F.GAF_DBG_STAT_HIT n) = hit ∧
        t.fb (F.GAF_DBG_STAT_DEFERRED n) = false ∧ t.fb (fHalted n) = true ∧ t.fb (fPaused n) = true ∧
        (t.gcore n).deferFrom = none ∧ (t.gcore n).pausedEver = true ∧
        ((s.gcore n).wdRem = none → (t.gcore n).wdRem = some ((s.gcore n).wdDead - s.ts)) ∧ t.wdPast n = false)

open Sys2Proof.Machine in
/-- Patch blobs, their checks and the scrubber. Signature verification is a free function (log entry 3). (20_gaffer_cores) -/
def Obligations.SignedPatches : Prop :=
  ∀ (s : State) (id unit v p k : Nat) (line : List Nat), s.runs = true →
    (s.windowOpen = true → s.passes id .custodian = true →
      exec (.patchRestart id) s = .next (s.fs F.GAF_BLOB_WPTR_WPTR 0) ∧
      (s.fg F.GAF_BLOB_WPTR_WPTR = p →
        (p < 65536 → exec (.patchBlobWrite id v) s = .next
          ((modGaf (fun g => { g with sram := mput g.sram (sramStage + p / 4) (v % 2 ^ 32) }) s).fs F.GAF_BLOB_WPTR_WPTR (p + 4))) ∧
        (65536 ≤ p → exec (.patchBlobWrite id v) s = .next s)) ∧
      (s.fwRuns = false → exec (.patchApply id) s = .next (s.fs F.GAF_PATCH_STAT_BUSY 1)) ∧
      (s.fwRuns = true → exec (.patchApply id) s = .next s) ∧
      (s.isPatch unit = false → exec (.patchUnitWrite id unit v) s = .next (s.wrN (R.GAF_PU_CFG unit) (v % 2 ^ 17))) ∧
      (s.isPatch unit = true → exec (.patchUnitWrite id unit v) s = .next (s.fs F.GAF_PATCH_STAT_ERR 1))) ∧
    (s.clk.warm = false → s.fb F.GAF_PATCH_STAT_BUSY = true →
      ((s.fs F.GAF_PATCH_STAT_BUSY 0).blobCheck s.stageBytes = none →
        exec .patchChecksDone s = .next (installBlob s.stageBytes ((s.fs F.GAF_PATCH_STAT_BUSY 0).fs F.GAF_PATCH_STAT_CHECK 0))) ∧
      ((s.fs F.GAF_PATCH_STAT_BUSY 0).blobCheck s.stageBytes = some k →
        exec .patchChecksDone s = .next (centralFault 0x0305 0 none (leAt s.stageBytes 0x0E 2) k 0
          ((s.fs F.GAF_PATCH_STAT_BUSY 0).fs F.GAF_PATCH_STAT_CHECK k)))) ∧
    (s.isPatch unit = true → s.fb (F.GAF_PU_CFG_EN unit) = true →
      (crc32c (bytesOfWords (s.patchLine unit)) = s.fg (F.GAF_PU_CRC_CRC unit) → exec (.patchScrub unit []) s = .next s) ∧
      (line ≠ [] → crc32c (bytesOfWords ((putLine unit line s).patchLine unit)) ≠ s.fg (F.GAF_PU_CRC_CRC unit) →
        exec (.patchScrub unit line) s = .next (centralFault 0x0305 0 none (s.fg (F.GAF_PU_CRC_CRC unit)) (8 + 2 ^ 8 * unit)
          (crc32c (bytesOfWords ((putLine unit line s).patchLine unit)))
          ((showUnits ((putLine unit line s).fs (F.GAF_PU_CFG_EN unit) 0)).fs F.GAF_FW_VER_PATCH_FAULT 1))))

open Sys2Proof.Machine in
/-- Sessions of the Rolsal port. Random values are free (log entry 4), X25519 a free function (log entry 3). (21_rolsal_port) -/
def Obligations.RolsalSessions : Prop :=
  ∀ (s : State) (id v e t : Nat), s.portAlive = true →
    let x : State := expireSession s
    let u : State := modRs (fun r => { r with response := 6, data := 0 }) (rsAccept x)
    (s.sessIdle = false → s.sessOld = false → x = s) ∧ (s.sessIdle = true ∨ s.sessOld = true → x = endSession s) ∧
    exec .rolsalLineReset s = .next (modRs (fun r => { r with
      wdataPar := false, accErr := false, accTmo := false, accCause := 0, lockout := false, protoErrs := 0, mode := r.mode % 8 + 8, lastWrite := none, response := 7, data := 0 })
        (rsAbandon (endSession s))) ∧
    (s.rolsal.lockout = false →
      (x.rolsal.auth.waitUntil ≤ x.ts → ∃ a : AuthState, exec .authBegin s = .next (modAuth (fun _ => a) (endSession u).free.2.free.2) ∧
        a.st = 1 ∧ a.nh = (endSession u).free.1 % 2 ^ 256 ∧ a.eh = (endSession u).free.2.free.1 % 2 ^ 256 ∧
        a.pub = Sys2Proof.Config.x25519 a.eh 9 % 2 ^ 256 ∧ a.wptr = 0 ∧ a.hsig = 0 ∧
        a.out = toLe 32 a.nh ++ toLe 32 a.pub ++ toLe 8 (mget (endSession u).otp.vals 1 0) ++ toLe 4 (endSession u).node ++ toLe 4 0) ∧
      (x.ts < x.rolsal.auth.waitUntil → exec .authBegin s = .next u) ∧
      (x.rolsal.auth.wptr < 512 → exec (.authInWrite v) s = .next (modAuth (fun a => { a with wptr := a.wptr + 4, input := a.input ++ toLe 4 v }) u)) ∧
      exec .authVerify s = .next (modAuth (fun a => { a with st := 2, challenged := x.rolsal.auth.st == 1 }) (endSession u)) ∧
      exec .authEnd s = .next (endSession u) ∧
      (x.hasSession = true → v = renewMac x.rolsal.auth.sk x.rolsal.auth.seq →
        exec (.authRenewWrite v) s = .next (modRs (fun r => { r with
          count := 0, renewDue := false, auth := { r.auth with seq := (r.auth.seq + 1) % 2 ^ 32 } }) u)) ∧
      (x.hasSession = true → v ≠ renewMac x.rolsal.auth.sk x.rolsal.auth.seq →
        exec (.authRenewWrite v) s = .next (authFail 8 (endSession u)))) ∧
    (s.rolsal.auth.st = 2 →
      (s.authCheck s.rolsal.auth = some e → exec .authVerifyDone s = .next (authFail e s)) ∧
      (s.authCheck s.rolsal.auth = none → exec .authVerifyDone s = .next (authGrant s) ∧
        (authGrant s).hasSession = true ∧ (authGrant s).rolsal.count = 0 ∧ (authGrant s).rolsal.auth.fails = 0 ∧ (authGrant s).rolsal.auth.seq = 0 ∧
        (authGrant s).rolsal.sessClass = leAt ((certsOf s.rolsal.auth).headD []) 6 1 + 1)) ∧
    (s.hasSession = true → s.past (s.rolsal.lastReq + (if s.rolsal.idleTmo = 0 then 1000 else s.rolsal.idleTmo) * 1000000) = true →
      exec .rolsalIdleTimeout s = .next (endSession s)) ∧
    (s.hasSession = true → s.rolsal.auth.expires = some t → s.past t = true → exec .rolsalSessionExpiry s = .next (endSession s)) ∧
    (s.windowOpen = true → s.passes id .operator = true →
      (s.rolsal.sessClass ≠ 3 ∨ 3 ≤ s.classOf id → exec (.rsSessEndWrite id) s = .next (endSession s)) ∧
      (s.rolsal.sessClass = 3 → s.classOf id < 3 → exec (.rsSessEndWrite id) s = .next s))

open Sys2Proof.Machine in
/-- Packets, pending accesses and the drain of the Rolsal port. Which packets the rows of their own stand for is log entry 85.
(21_rolsal_port) -/
def Obligations.RolsalPackets : Prop :=
  (∀ (s : State) (req v : Nat) (a : RsAccess), s.portAlive = true →
      let win := rqWin req
      let reg := rqReg req
      let x : State := portNow s
      (s.sessIdle = false → s.sessOld = false → (∀ c, s.rolsal.acc = some c → s.past (c.start + s.damTmo) = false) → x = s) ∧
      (s.rolsal.lockout = true → bitOf req 0 = true → rqRead req = true → exec (.rolsalReadPacket req) s = .next (respond 7 0 s)) ∧
      (s.rolsal.lockout = false → bitOf req 0 = true →
        (rqGood req = false → exec (.rolsalReadPacket req) s = .next (respond 7 0 (modRs (fun r => { r with
          lockout := true, protoErrs := satAdd 8 r.protoErrs 1 }) s))) ∧
        (rqGood req = true → rqRead req = true →
          (win = 0 → reg = 0 → exec (.rolsalReadPacket req) s = .next (respond 6 0xCAE5D332 (rsAccept x))) ∧
          (win = 0 → reg = 2 → exec (.rolsalReadPacket req) s = .next (respond 6 (x.rsBits.1 + 8 * x.rolsal.accCause)
            (modRs (fun r => { r with wdataPar := false, accErr := false, accTmo := false, accCause := 0 }) (rsAccept x)))) ∧
          (win ≠ 0 → x.rsMay win = false → exec (.rolsalReadPacket req) s = .next (respond 2 0 x)) ∧
          (win ≠ 0 → x.rsMay win = true → x.rsSticky = true → exec (.rolsalReadPacket req) s = .next (respond 5 0 x)) ∧
          (win ≠ 0 → x.rsMay win = true → x.rsSticky = false → x.rsPending = false → x.rolsal.lastRead ≠ some (rqKey req) →
            (isC win reg = true → exec (.rolsalReadPacket req) s = .next (respond 3 0 (startC true win reg 0
              (modRs (fun r => { r with lastRead := some (rqKey req), kept := none }) x)))) ∧
            (isC win reg = false → exec (.rolsalReadPacket req) s = .next (respond 6 (readP win reg x)
              (modRs (fun r => { r with lastRead := some (rqKey req) }) (rsCount (rsForget x))))))) ∧
        (rqGood req = true → rqRead req = false →
          (win = 0 → exec (.rolsalWritePacket req v true) s = .next (writeWin0 reg v (respond 6 0 (rsAccept x)))) ∧
          (win = 0 → exec (.rolsalWritePacket req v false) s = .next (modRs (fun r => { r with wdataPar := true }) (respond 6 0 (rsAccept x)))) ∧
          (win ≠ 0 → x.rsMay win = false → exec (.rolsalWritePacket req v true) s = .next (respond 2 0 x)) ∧
          (win ≠ 0 → x.rsMay win = true → x.rsSticky = false → x.rsPending = false → x.rolsal.lastWrite ≠ some (rqKey req) → isC win reg = true →
            exec (.rolsalWritePacket req v true) s = .next (startC false win reg v
              (modRs (fun r => { r with lastWrite := some (rqKey req) }) (respond 6 0 (rsCount (rsForget x)))))))) ∧
      (s.rolsal.lockout = false → (expireSession s).rsPending = true →
        exec .rolsalCancel s = .next (rsAbandon (modRs (fun r => { r with response := 6, data := 0 }) (rsAccept (expireSession s))))) ∧
      (s.rolsal.acc = some a →
        (s.past (a.start + s.damTmo) = true →
          exec .rolsalAccessTimeout s = .next (modRs (fun r => { r with accTmo := true }) (rsAbandon s))) ∧
        (s.past (a.start + s.damTmo) = false →
          (a.answer = some (true, v) → exec .rolsalAccessComplete s = .next (endC a v s)) ∧
          (a.answer = none → a.out = false → a.win = 2 → a.read = false →
            exec .rolsalAccessComplete s = .next (endC a 0 (writeReg 2 (0x0D0000 + 4 * a.reg) a.value s))) ∧
          (a.answer = none → a.out = false → a.win = 1 → s.rolsal.addr % 4 ≠ 0 →
            exec .rolsalAccessComplete s = .next (failC 1 s))))) ∧
  (∀ (s : State) (v w : Nat) (k : Nat × Nat × Nat), s.portAlive = true → s.rolsal.lockout = false →
      let x : State := portNow s
      x.rsMay 3 = true → x.rsSticky = false →
      (x.rsPending = false →
        (x.rings.cmds.any (fun c => c.opcode == 0x23 && c.phase != .accepted && c.phase != .completing) = false →
          exec (.drainStart v) s = .next (drainBoundary (modRs (fun r => { r with drain := true, drnCount := 0, drnWord := 0, drnStop := false })
            (modRs (fun r => { r with drnLimit := bitsOf v 16 16 }) (respond 6 0 (rsCount (rsForget x))))))) ∧
        (x.rolsal.drain = true → x.rolsal.drnWord ≠ 0 →
          exec .drainStop s = .next (modRs (fun r => { r with drnStop := true }) (respond 6 0 (rsCount (rsForget x)))))) ∧
      (x.rolsal.lastRead = some k → k.1 = 3 → k.2.1 = 2 → x.rolsal.acc = none → x.rolsal.kept = some w → x.rolsal.fresh = true →
        exec .drainDataRead s = .next (respond 6 w (drainConsume (rsCount (modRs (fun r => { r with fresh := false, lastWrite := none }) x))))))

open Sys2Proof.Machine in
/-- PRIV_MAP, CUST_GRANT and the one-time-programmable memory. The device key is a free value (log entry 4); the order of an
operation's checks is log entry 82. (22_privilege) -/
def Obligations.PrivilegeAndProgrammedFields : Prop :=
  (∀ (s : State) (id k v : Nat), s.windowOpen = true →
      (s.passes id .operator = true →
        ∀ t, t = s.wrN (R.PRIV_MAP k) (mapWord (s.rdN (R.PRIV_MAP k)) v k) →
        (s.fb F.PRIV_CTL_LOCK = false → t.someOperator = true → exec (.privMapWrite id k v) s = .next t) ∧
        (s.fb F.PRIV_CTL_LOCK = true ∨ t.someOperator = false → exec (.privMapWrite id k v) s = .next s)) ∧
      (s.classOf 2 = 3 → v % 64 = 3 ∨ (36 ≤ v % 64 ∧ v % 64 ≤ 51) → exec (.custGrantWrite 2 v) s = .next (s.wrN R.CUST_GRANT (v % 128))) ∧
      (id ≠ 2 ∨ s.classOf 2 ≠ 3 → exec (.custGrantWrite id v) s = .next (refuseAccess id R.CUST_GRANT s))) ∧
  (∀ (s : State) (id f : Nat) (o : OtpOp), s.runs = true → f < 16 →
      (s.windowOpen = true → s.passes id .open_ = true → s.fb F.OTP_STAT_BUSY = false →
        ∀ op t, 1 ≤ op → op ≤ 3 → t = s.wrN R.OTP_CTL (f + 16 * op) →
          exec ([Sys2Proof.Instr.otpRead id f, .otpProgram id f, .otpGenkey id f].getD (op - 1) (.otpRead id f)) s =
            .next (State.fs { t with otp := { t.otp with
              running := some ⟨op, f, t.otpData % 2 ^ otpBits f, t.otpErr (t.classOf id) op f (t.otpData % 2 ^ otpBits f), t.ts⟩ } } F.OTP_STAT_BUSY 1)) ∧
      (s.clk.warm = false → s.otp.running = some o →
        ∀ u : State, u = { s with otp := { s.otp with running := none } } →
        (o.err ≠ 0 → exec (.otpOperationDone []) s = .next (showOtp ((u.fs F.OTP_STAT_BUSY 0).fs F.OTP_STAT_ERR o.err))) ∧
        (o.err = 0 → o.op = 1 → o.fld ≠ 2 → exec (.otpOperationDone []) s = .next (showOtp
          (((u.wrWords (R.OTP_DATA 0) (wordsOf (toLe 32 (s.otpVal o.fld)))).fs F.OTP_STAT_BUSY 0).fs F.OTP_STAT_ERR 0))) ∧
        (o.err = 0 → o.op = 2 → exec (.otpOperationDone []) s = .next (showOtp (((otpStore o o.value u).fs F.OTP_STAT_BUSY 0).fs F.OTP_STAT_ERR 0))) ∧
        (o.err = 0 → o.op = 3 → exec (.otpOperationDone []) s = .next (showOtp
          ((State.fs { u.free.2 with otp := { u.free.2.otp with devKey := some (u.free.1 % 2 ^ 256) } } F.OTP_STAT_BUSY 0).fs F.OTP_STAT_ERR 0)))))

open Sys2Proof.Machine in
/-- SEC_EN, TEST_EN and a station's security page. (22_privilege) -/
def Obligations.SecurityState : Prop :=
  ∀ (s x : State) (id n : Nat) (m : DownMsg), s.runs = true →
    (s.windowOpen = true → s.passes id .custodian = true →
      (∀ on, s.fb F.SEC_CTL_SEC_EN = !on →
        exec (.secEnWrite id on) s = .next (showApplied (sendRegWr 3 0 4 0 [b2n on] (s.fs F.SEC_CTL_SEC_EN (b2n on))))) ∧
      (∀ on, s.fb F.SEC_CTL_SEC_EN = on → exec (.secEnWrite id on) s = .next s) ∧
      exec (.testEnWrite id true) s = .next (s.fs F.SEC_CTL_TEST_EN 1) ∧
      (s.fb F.SEC_CTL_TEST_EN = true → s.rdN R.PTB_CTL ≠ 0 → exec (.testEnWrite id false) s = .next (showApplied
        (sendRegWr 3 0 4 1 [0] (flushAcks ((s.fs F.SEC_CTL_TEST_EN 0).wr R.PTB_CTL 0))))) ∧
      (s.fb F.SEC_CTL_TEST_EN = false → exec (.testEnWrite id false) s = .next s)) ∧
    (takeInbox n 0 (fun m => bitOf m.head 11 && decide (m.head % 512 < 4)) s = some (m, x) →
      ∀ t, t = modStn n (fun y => { y with sec := setAt 0 y.sec (m.head % 512) (m.words.headD 0) }) x →
      (m.head % 512 ≠ 0 ∨ x.dbgSec n = bitOf (m.words.headD 0) 0 → exec (.stationSecurityApply n) s = .next (showApplied t)) ∧
      (m.head % 512 = 0 → x.dbgSec n ≠ bitOf (m.words.headD 0) 0 →
        exec (.stationSecurityApply n) s = .next (showApplied (driveSec n (bitOf (m.words.headD 0) 0) t))))

open Sys2Proof.Machine in
/-- Test perturbation and forced faults. The phase of a stall is counted from the release of HUB_COLD_N (log entry 114).
(26_limits_and_perturbation) -/
def Obligations.Perturbation : Prop :=
  ∀ (s x : State) (id n v k g : Nat) (m : DownMsg), s.runs = true →
    (s.windowOpen = true → s.passes id .custodian = true →
      (s.fb F.SEC_CTL_TEST_EN = false → exec (.ptbCtlWrite id v) s = .next s ∧ exec (.ptbParamWrite id k v) s = .next s ∧
        exec (.ptbForceWrite id v) s = .next s ∧
        exec (.registerWrite id R.PTB_STAT 15 v) s = .next s) ∧
      (s.fb F.SEC_CTL_TEST_EN = true →
        (∀ t, t = showApplied s →
          (t.fb F.PTB_STAT_ACTIVE = false → exec (.registerWrite id R.PTB_STAT 15 v) s = .next (plainWrite R.PTB_STAT (BitVec.ofNat 32 v) t)) ∧
          (t.fb F.PTB_STAT_ACTIVE = true → exec (.registerWrite id R.PTB_STAT 15 v) s =
            .next (plainWrite R.PTB_STAT (BitVec.ofNat 32 (setBit v 2 false)) t))) ∧
        (s.rdN R.PTB_CTL ≠ v % 128 → exec (.ptbCtlWrite id v) s =
          .next (showApplied (sendRegWr 3 0 4 1 [v % 128] (s.wrN R.PTB_CTL (v % 128))))) ∧
        (∀ t, t = plainWrite (ptbParam k) (BitVec.ofNat 32 v) s →
          (k = 0 → exec (.ptbParamWrite id k v) s = .next (sendRegWr 3 0 4 2 [t.rdN R.PTB_SLOT] t)) ∧
          (k = 4 → exec (.ptbParamWrite id k v) s = .next (sendRegWr 3 0 4 3 [t.rdN R.PTB_BUDGET] t)) ∧
          (k = 1 ∨ k = 2 ∨ k = 3 ∨ k = 5 ∨ k = 6 → exec (.ptbParamWrite id k v) s = .next t)) ∧
        (codeGroup (v % 2 ^ 16) = none → exec (.ptbForceWrite id v) s = .next (s.fs F.PTB_STAT_ERR 1)) ∧
        (codeGroup (v % 2 ^ 16) = some g → g ≤ 1 → s.fb F.PTB_FORCE_ARG_UNIT_VALID = true → s.fg F.PTB_FORCE_ARG_UNIT = n →
          exec (.ptbForceWrite id v) s = .next (sendRegWr 0 (n / 16) 4 4 [v % 2 ^ 16 + 2 ^ 16 * s.fg F.PTB_FORCE_ARG_CTX + 2 ^ 24 * (n % 16)] s)) ∧
        (codeGroup (v % 2 ^ 16) = some g → 2 ≤ g → s.fb F.PTB_FORCE_ARG_UNIT_VALID = true → s.fg F.PTB_FORCE_ARG_UNIT = n →
          exec (.ptbForceWrite id v) s = .next (logFault { code := v % 2 ^ 16, ctx := s.fg F.PTB_FORCE_ARG_CTX, unit := some n, ts := s.ts, flags := s.formFlags ||| flForced } s)))) ∧
    (∀ q b, s.fb F.SEC_CTL_TEST_EN = true →
      (s.fb F.PTB_CTL_DMP_EN = true → s.core % 16 < s.fg F.PTB_PORT_DMP_HOLD →
        issueRead q s = { s with bus := { s.bus with rdWait := s.bus.rdWait ++ [q] } } ∧
        issueWrite q s = { s with bus := { s.bus with wrWait := s.bus.wrWait ++ [q] } }) ∧
      (s.fb F.PTB_CTL_DMP_EN = false ∨ s.fg F.PTB_PORT_DMP_HOLD ≤ s.core % 16 →
        (s.bus.rdWait = [] → issueRead q s = { s with bus := { s.bus with dmpRd := s.bus.dmpRd ++ [q] } }) ∧
        (s.bus.wrWait = [] → issueWrite q s = { s with bus := { s.bus with dmpWr := s.bus.dmpWr ++ [q] } })) ∧
      (s.fb F.PTB_CTL_FAB_EN = true → s.core % 16 < s.fg F.PTB_PORT_FAB_HOLD →
        presentBulk b s = { s with bus := { s.bus with bulkWait := s.bus.bulkWait ++ [b] } }) ∧
      (s.fb F.PTB_CTL_FAB_EN = false ∨ s.fg F.PTB_PORT_FAB_HOLD ≤ s.core % 16 → s.bus.bulkWait = [] → presentBulk b s = crossBulk b s)) ∧
    (takeInbox n 0 (fun m => bitOf m.head 11 && m.head % 512 == 4) s = some (m, x) →
      m.words.headD 0 % 2 ^ 16 = v → 16 * n + bitsOf (m.words.headD 0) 24 4 = k →
      ∀ r : FaultRec, r = { x.stnRec k v (x.port k).current 0 0 0 flForced with ctx := bitsOf (m.words.headD 0) 16 8 } →
      (latchOf v = none → exec (.forcedFaultStation n) s = .next (placeFormed k r x)) ∧
      (latchOf v = some g → bitOf (x.fg (latchFld n g)) (k % 16) = true → exec (.forcedFaultStation n) s = .next (x.fsat (repeatFld n g) 1)) ∧
      (latchOf v = some g → bitOf (x.fg (latchFld n g)) (k % 16) = false → exec (.forcedFaultStation n) s =
        .next (placeFormed k r (x.fs (latchFld n g) (setBit (x.fg (latchFld n g)) (k % 16) true)))))

open Sys2Proof.Machine in
/-- Cold reset of the hub and of a cell, and a root that stops. The fault in scan mode is log entry 18. (24_clocks_power_startup,
23_integration) -/
def Obligations.ColdReset : Prop :=
  ∀ (s : State) (scope prio : Bool), 
    (s.otp.running = none → ∃ t : State, exec .hubColdAssert s = .next t ∧
      t.clk = { cold := true } ∧ t.regs = [] ∧ t.pending = s.pending ∧ t.otp = s.otp ∧ t.fresh = s.fresh ∧
      t.pins = { seamIso := s.pins.seamIso, brIso := s.pins.brIso, carReq := s.pins.carReq, carReqN := s.pins.carReqN, carIdle := s.pins.carIdle } ∧
      (t.wide, t.spine, t.slot, t.shear, t.cullet, t.ctr, t.trace, t.stria, t.dl) =
        ((State.reset.wide, State.reset.spine, State.reset.slot, State.reset.shear, State.reset.cullet, State.reset.ctr, State.reset.trace,
          State.reset.stria, State.reset.dl)) ∧
      (t.lehr, t.ladder, t.notice, t.rings, t.job, t.gather, t.mbx, t.cont, t.gaf, t.rolsal) =
        ((State.reset.lehr, State.reset.ladder, State.reset.notice, State.reset.rings, State.reset.job, State.reset.gather, State.reset.mbx,
          State.reset.cont, State.reset.gaf, State.reset.rolsal)) ∧
      (∀ n x, mget? s.stations n = some x → mget? t.stations n =
        some { ports := x.ports.map (fun p => (p.1, p.2.held)), cold := true, pgood := x.pgood })) ∧
    (s.clk.cold = true →
      exec (.hubColdRelease scope prio false) s = .next
        (let u : State := showIso ((takeStraps scope prio (modClk (fun _ => {}) s)).fs F.HUB_STAT_RST_CAUSE 1)
         (u.stations.filter (fun e => e.2.pgood)).foldl (fun s e => warmCell e.1 s) u) ∧
      exec (.hubColdRelease scope prio true) s = .fault .scanMode) ∧
    (s.clk.cold = false → exec .hubRootClkStop s = .next (modClk (fun c => { c with rootRuns := false }) s)) ∧
    (∀ n, (s.stn n).pgood = true → exec (.cellColdResetAssert n) s = .next (showLoaded (coldCell n (modStn n (fun x => { x with pgood := false }) s)))) ∧
    (∀ n, (s.stn n).pgood = false → s.runs = true → exec (.cellColdResetRelease n) s = .next (warmCell n
      (modStn n (fun x => { x with pgood := true, ports := x.ports.map (fun p => (p.1, { p.2 with shCmd := 0 })) }) s)))

open Sys2Proof.Machine in
/-- Warm reset of the hub, the start-up read and HUB_ALIVE. (24_clocks_power_startup, 23_integration) -/
def Obligations.WarmReset : Prop :=
  ∀ (s : State), s.runs = true →
    (s.coldStarts = false →
      (s.clk.warm = false → s.clk.windowTakes = true →
        exec .hubWarmAssert s = .next (modClk (fun c => { c with warm := true, windowTakes := false }) (warmReset s))) ∧
      (s.clk.warm = false → s.clk.windowTakes = false →
        exec .hubWarmAssert s = .next (modClk (fun c => { c with warm := true, windowTakes := false }) s)) ∧
      (s.clk.warm = true → ∀ t, exec .hubWarmRelease s = .next t →
        t.clk = { s.clk with warm := false, warmRelease := s.core } ∧ t.fg F.HUB_STAT_RST_CAUSE = 2 ∧
        t.fg F.HUB_STAT_WARM_COUNT = satAdd 8 (s.fg F.HUB_STAT_WARM_COUNT) 1 ∧ t.ts = s.ts) ∧
      (s.clk.warm = true → exec .hubWarmRelease s = .next (warmRelease s))) ∧
    (s.coldStarts = true → s.clk.warmPend % 2 = 0 →
      exec .hubWarmAssert s = .next (modClk (fun c => { c with warmPend := c.warmPend + 1 }) s)) ∧
    (s.clk.warm = false → s.clk.windowTakes = false → s.clk.warmRelease + 64 ≤ s.core →
      exec .warmWindowReopen s = .next (modClk (fun c => { c with windowTakes := true }) s)) ∧
    (s.clk.otpRead = false → s.clk.warmPend = 0 →
      exec .otpStartupReadDone s = .next (showOtp ((modClk (fun c => { c with otpRead := true, warmPend := 0 }) s).fs F.HUB_STAT_OTP_READY 1))) ∧
    (1000 ≤ s.clk.aliveCnt → exec .hubAliveToggle s = .next (modPins (fun p => { p with hubAlive := !p.hubAlive })
      (modClk (fun c => { c with aliveCnt := c.aliveCnt - 1000 }) s))) ∧
    (s.clk.warm = false → exec .fabricMessageDiscard s = .next s)
end

