-- ==== Sys2Proof/Laws/Maps.lean ====
section
/-! SUPPORT. Sparse maps: a read after an update, at the same key and at another. -/

namespace Sys2Proof.Machine

theorem mget?_mput_same {α : Type} (m : SMap α) (k : Nat) (v : α) : mget? (mput m k v) k = some v := by
  induction m with
  | nil => simp [mput, mget?]
  | cons p m ih =>
    obtain ⟨a, b⟩ := p
    unfold mput
    by_cases h1 : k < a
    · simp [h1, mget?]
    · by_cases h2 : k = a
      · simp [h2, mget?]
      · rw [if_neg h1, if_neg h2]
        simp [mget?, Ne.symm h2, ih]

theorem mget?_mput_other {α : Type} (m : SMap α) (k j : Nat) (v : α) (h : j ≠ k) : mget? (mput m k v) j = mget? m j := by
  induction m with
  | nil => simp [mput, mget?, Ne.symm h]
  | cons p m ih =>
    obtain ⟨a, b⟩ := p
    unfold mput
    by_cases h1 : k < a
    · simp [h1, mget?, Ne.symm h]
    · by_cases h2 : k = a
      · subst h2
        simp [mget?, Ne.symm h]
      · rw [if_neg h1, if_neg h2]
        by_cases h3 : a = j <;> simp [mget?, h3, ih]

theorem mget?_mdel_same {α : Type} (m : SMap α) (k : Nat) : mget? (mdel m k) k = none := by
  induction m with
  | nil => simp [mdel, mget?]
  | cons p m ih =>
    obtain ⟨a, b⟩ := p
    by_cases h : a = k
    · simpa [mdel, h] using ih
    · simpa [mdel, h, mget?] using ih

theorem mget?_mdel_other {α : Type} (m : SMap α) (k j : Nat) (h : j ≠ k) : mget? (mdel m k) j = mget? m j := by
  induction m with
  | nil => simp [mdel, mget?]
  | cons p m ih =>
    obtain ⟨a, b⟩ := p
    by_cases h1 : a = k
    · have h2 : ¬ a = j := fun e => h (e.symm.trans h1)
      simpa [mdel, h1, mget?, h2, Ne.symm h] using ih
    · by_cases h3 : a = j
      · simp [mdel, mget?, h3, h]
      · simpa [mdel, h1, mget?, h3] using ih

/-- On any list, a key that is listed before keeps its first place: reading it back gives the new value. -/
theorem mget?_mput_mdel {α : Type} (m : SMap α) (k : Nat) (v : α) : mget? (mput (mdel m k) k v) k = some v :=
  mget?_mput_same _ _ _

theorem mget_mput_same {α : Type} (m : SMap α) (k : Nat) (v d : α) : mget (mput m k v) k d = v := by
  simp [mget, mget?_mput_same]

theorem mget_mput_other {α : Type} (m : SMap α) (k j : Nat) (v d : α) (h : j ≠ k) : mget (mput m k v) j d = mget m j d := by
  simp [mget, mget?_mput_other _ _ _ _ h]

end Sys2Proof.Machine
end

