-- ==== Sys2Proof/Laws/State.lean ====
section
/-! SUPPORT. What each update of the state leaves as it was and what it sets: one lemma for each field. -/

namespace Sys2Proof.Machine

@[simp] theorem modSpine_pending (f : SpineState → SpineState) (s : State) : (modSpine f s).pending = s.pending := rfl
@[simp] theorem modSpine_regs (f : SpineState → SpineState) (s : State) : (modSpine f s).regs = s.regs := rfl
@[simp] theorem modSpine_wide (f : SpineState → SpineState) (s : State) : (modSpine f s).wide = s.wide := rfl
@[simp] theorem modSpine_clk (f : SpineState → SpineState) (s : State) : (modSpine f s).clk = s.clk := rfl
@[simp] theorem modSpine_pins (f : SpineState → SpineState) (s : State) : (modSpine f s).pins = s.pins := rfl
@[simp] theorem modSpine_stations (f : SpineState → SpineState) (s : State) : (modSpine f s).stations = s.stations := rfl
@[simp] theorem modSpine_spine (f : SpineState → SpineState) (s : State) : (modSpine f s).spine = f s.spine := rfl
@[simp] theorem modSpine_slot (f : SpineState → SpineState) (s : State) : (modSpine f s).slot = s.slot := rfl
@[simp] theorem modSpine_shear (f : SpineState → SpineState) (s : State) : (modSpine f s).shear = s.shear := rfl
@[simp] theorem modSpine_cullet (f : SpineState → SpineState) (s : State) : (modSpine f s).cullet = s.cullet := rfl
@[simp] theorem modSpine_ctr (f : SpineState → SpineState) (s : State) : (modSpine f s).ctr = s.ctr := rfl
@[simp] theorem modSpine_trace (f : SpineState → SpineState) (s : State) : (modSpine f s).trace = s.trace := rfl
@[simp] theorem modSpine_stria (f : SpineState → SpineState) (s : State) : (modSpine f s).stria = s.stria := rfl
@[simp] theorem modSpine_dl (f : SpineState → SpineState) (s : State) : (modSpine f s).dl = s.dl := rfl
@[simp] theorem modSpine_lehr (f : SpineState → SpineState) (s : State) : (modSpine f s).lehr = s.lehr := rfl
@[simp] theorem modSpine_ladder (f : SpineState → SpineState) (s : State) : (modSpine f s).ladder = s.ladder := rfl
@[simp] theorem modSpine_notice (f : SpineState → SpineState) (s : State) : (modSpine f s).notice = s.notice := rfl
@[simp] theorem modSpine_rings (f : SpineState → SpineState) (s : State) : (modSpine f s).rings = s.rings := rfl
@[simp] theorem modSpine_bus (f : SpineState → SpineState) (s : State) : (modSpine f s).bus = s.bus := rfl
@[simp] theorem modSpine_job (f : SpineState → SpineState) (s : State) : (modSpine f s).job = s.job := rfl
@[simp] theorem modSpine_gather (f : SpineState → SpineState) (s : State) : (modSpine f s).gather = s.gather := rfl
@[simp] theorem modSpine_mbx (f : SpineState → SpineState) (s : State) : (modSpine f s).mbx = s.mbx := rfl
@[simp] theorem modSpine_cont (f : SpineState → SpineState) (s : State) : (modSpine f s).cont = s.cont := rfl
@[simp] theorem modSpine_otp (f : SpineState → SpineState) (s : State) : (modSpine f s).otp = s.otp := rfl
@[simp] theorem modSpine_gaf (f : SpineState → SpineState) (s : State) : (modSpine f s).gaf = s.gaf := rfl
@[simp] theorem modSpine_rolsal (f : SpineState → SpineState) (s : State) : (modSpine f s).rolsal = s.rolsal := rfl
@[simp] theorem modSpine_fresh (f : SpineState → SpineState) (s : State) : (modSpine f s).fresh = s.fresh := rfl

@[simp] theorem modLehr_pending (f : LehrState → LehrState) (s : State) : (modLehr f s).pending = s.pending := rfl
@[simp] theorem modLehr_regs (f : LehrState → LehrState) (s : State) : (modLehr f s).regs = s.regs := rfl
@[simp] theorem modLehr_wide (f : LehrState → LehrState) (s : State) : (modLehr f s).wide = s.wide := rfl
@[simp] theorem modLehr_clk (f : LehrState → LehrState) (s : State) : (modLehr f s).clk = s.clk := rfl
@[simp] theorem modLehr_pins (f : LehrState → LehrState) (s : State) : (modLehr f s).pins = s.pins := rfl
@[simp] theorem modLehr_stations (f : LehrState → LehrState) (s : State) : (modLehr f s).stations = s.stations := rfl
@[simp] theorem modLehr_spine (f : LehrState → LehrState) (s : State) : (modLehr f s).spine = s.spine := rfl
@[simp] theorem modLehr_slot (f : LehrState → LehrState) (s : State) : (modLehr f s).slot = s.slot := rfl
@[simp] theorem modLehr_shear (f : LehrState → LehrState) (s : State) : (modLehr f s).shear = s.shear := rfl
@[simp] theorem modLehr_cullet (f : LehrState → LehrState) (s : State) : (modLehr f s).cullet = s.cullet := rfl
@[simp] theorem modLehr_ctr (f : LehrState → LehrState) (s : State) : (modLehr f s).ctr = s.ctr := rfl
@[simp] theorem modLehr_trace (f : LehrState → LehrState) (s : State) : (modLehr f s).trace = s.trace := rfl
@[simp] theorem modLehr_stria (f : LehrState → LehrState) (s : State) : (modLehr f s).stria = s.stria := rfl
@[simp] theorem modLehr_dl (f : LehrState → LehrState) (s : State) : (modLehr f s).dl = s.dl := rfl
@[simp] theorem modLehr_lehr (f : LehrState → LehrState) (s : State) : (modLehr f s).lehr = f s.lehr := rfl
@[simp] theorem modLehr_ladder (f : LehrState → LehrState) (s : State) : (modLehr f s).ladder = s.ladder := rfl
@[simp] theorem modLehr_notice (f : LehrState → LehrState) (s : State) : (modLehr f s).notice = s.notice := rfl
@[simp] theorem modLehr_rings (f : LehrState → LehrState) (s : State) : (modLehr f s).rings = s.rings := rfl
@[simp] theorem modLehr_bus (f : LehrState → LehrState) (s : State) : (modLehr f s).bus = s.bus := rfl
@[simp] theorem modLehr_job (f : LehrState → LehrState) (s : State) : (modLehr f s).job = s.job := rfl
@[simp] theorem modLehr_gather (f : LehrState → LehrState) (s : State) : (modLehr f s).gather = s.gather := rfl
@[simp] theorem modLehr_mbx (f : LehrState → LehrState) (s : State) : (modLehr f s).mbx = s.mbx := rfl
@[simp] theorem modLehr_cont (f : LehrState → LehrState) (s : State) : (modLehr f s).cont = s.cont := rfl
@[simp] theorem modLehr_otp (f : LehrState → LehrState) (s : State) : (modLehr f s).otp = s.otp := rfl
@[simp] theorem modLehr_gaf (f : LehrState → LehrState) (s : State) : (modLehr f s).gaf = s.gaf := rfl
@[simp] theorem modLehr_rolsal (f : LehrState → LehrState) (s : State) : (modLehr f s).rolsal = s.rolsal := rfl
@[simp] theorem modLehr_fresh (f : LehrState → LehrState) (s : State) : (modLehr f s).fresh = s.fresh := rfl

@[simp] theorem modCont_pending (f : ContState → ContState) (s : State) : (modCont f s).pending = s.pending := rfl
@[simp] theorem modCont_regs (f : ContState → ContState) (s : State) : (modCont f s).regs = s.regs := rfl
@[simp] theorem modCont_wide (f : ContState → ContState) (s : State) : (modCont f s).wide = s.wide := rfl
@[simp] theorem modCont_clk (f : ContState → ContState) (s : State) : (modCont f s).clk = s.clk := rfl
@[simp] theorem modCont_pins (f : ContState → ContState) (s : State) : (modCont f s).pins = s.pins := rfl
@[simp] theorem modCont_stations (f : ContState → ContState) (s : State) : (modCont f s).stations = s.stations := rfl
@[simp] theorem modCont_spine (f : ContState → ContState) (s : State) : (modCont f s).spine = s.spine := rfl
@[simp] theorem modCont_slot (f : ContState → ContState) (s : State) : (modCont f s).slot = s.slot := rfl
@[simp] theorem modCont_shear (f : ContState → ContState) (s : State) : (modCont f s).shear = s.shear := rfl
@[simp] theorem modCont_cullet (f : ContState → ContState) (s : State) : (modCont f s).cullet = s.cullet := rfl
@[simp] theorem modCont_ctr (f : ContState → ContState) (s : State) : (modCont f s).ctr = s.ctr := rfl
@[simp] theorem modCont_trace (f : ContState → ContState) (s : State) : (modCont f s).trace = s.trace := rfl
@[simp] theorem modCont_stria (f : ContState → ContState) (s : State) : (modCont f s).stria = s.stria := rfl
@[simp] theorem modCont_dl (f : ContState → ContState) (s : State) : (modCont f s).dl = s.dl := rfl
@[simp] theorem modCont_lehr (f : ContState → ContState) (s : State) : (modCont f s).lehr = s.lehr := rfl
@[simp] theorem modCont_ladder (f : ContState → ContState) (s : State) : (modCont f s).ladder = s.ladder := rfl
@[simp] theorem modCont_notice (f : ContState → ContState) (s : State) : (modCont f s).notice = s.notice := rfl
@[simp] theorem modCont_rings (f : ContState → ContState) (s : State) : (modCont f s).rings = s.rings := rfl
@[simp] theorem modCont_bus (f : ContState → ContState) (s : State) : (modCont f s).bus = s.bus := rfl
@[simp] theorem modCont_job (f : ContState → ContState) (s : State) : (modCont f s).job = s.job := rfl
@[simp] theorem modCont_gather (f : ContState → ContState) (s : State) : (modCont f s).gather = s.gather := rfl
@[simp] theorem modCont_mbx (f : ContState → ContState) (s : State) : (modCont f s).mbx = s.mbx := rfl
@[simp] theorem modCont_cont (f : ContState → ContState) (s : State) : (modCont f s).cont = f s.cont := rfl
@[simp] theorem modCont_otp (f : ContState → ContState) (s : State) : (modCont f s).otp = s.otp := rfl
@[simp] theorem modCont_gaf (f : ContState → ContState) (s : State) : (modCont f s).gaf = s.gaf := rfl
@[simp] theorem modCont_rolsal (f : ContState → ContState) (s : State) : (modCont f s).rolsal = s.rolsal := rfl
@[simp] theorem modCont_fresh (f : ContState → ContState) (s : State) : (modCont f s).fresh = s.fresh := rfl

@[simp] theorem modCtr_pending (f : CtrState → CtrState) (s : State) : (modCtr f s).pending = s.pending := rfl
@[simp] theorem modCtr_regs (f : CtrState → CtrState) (s : State) : (modCtr f s).regs = s.regs := rfl
@[simp] theorem modCtr_wide (f : CtrState → CtrState) (s : State) : (modCtr f s).wide = s.wide := rfl
@[simp] theorem modCtr_clk (f : CtrState → CtrState) (s : State) : (modCtr f s).clk = s.clk := rfl
@[simp] theorem modCtr_pins (f : CtrState → CtrState) (s : State) : (modCtr f s).pins = s.pins := rfl
@[simp] theorem modCtr_stations (f : CtrState → CtrState) (s : State) : (modCtr f s).stations = s.stations := rfl
@[simp] theorem modCtr_spine (f : CtrState → CtrState) (s : State) : (modCtr f s).spine = s.spine := rfl
@[simp] theorem modCtr_slot (f : CtrState → CtrState) (s : State) : (modCtr f s).slot = s.slot := rfl
@[simp] theorem modCtr_shear (f : CtrState → CtrState) (s : State) : (modCtr f s).shear = s.shear := rfl
@[simp] theorem modCtr_cullet (f : CtrState → CtrState) (s : State) : (modCtr f s).cullet = s.cullet := rfl
@[simp] theorem modCtr_ctr (f : CtrState → CtrState) (s : State) : (modCtr f s).ctr = f s.ctr := rfl
@[simp] theorem modCtr_trace (f : CtrState → CtrState) (s : State) : (modCtr f s).trace = s.trace := rfl
@[simp] theorem modCtr_stria (f : CtrState → CtrState) (s : State) : (modCtr f s).stria = s.stria := rfl
@[simp] theorem modCtr_dl (f : CtrState → CtrState) (s : State) : (modCtr f s).dl = s.dl := rfl
@[simp] theorem modCtr_lehr (f : CtrState → CtrState) (s : State) : (modCtr f s).lehr = s.lehr := rfl
@[simp] theorem modCtr_ladder (f : CtrState → CtrState) (s : State) : (modCtr f s).ladder = s.ladder := rfl
@[simp] theorem modCtr_notice (f : CtrState → CtrState) (s : State) : (modCtr f s).notice = s.notice := rfl
@[simp] theorem modCtr_rings (f : CtrState → CtrState) (s : State) : (modCtr f s).rings = s.rings := rfl
@[simp] theorem modCtr_bus (f : CtrState → CtrState) (s : State) : (modCtr f s).bus = s.bus := rfl
@[simp] theorem modCtr_job (f : CtrState → CtrState) (s : State) : (modCtr f s).job = s.job := rfl
@[simp] theorem modCtr_gather (f : CtrState → CtrState) (s : State) : (modCtr f s).gather = s.gather := rfl
@[simp] theorem modCtr_mbx (f : CtrState → CtrState) (s : State) : (modCtr f s).mbx = s.mbx := rfl
@[simp] theorem modCtr_cont (f : CtrState → CtrState) (s : State) : (modCtr f s).cont = s.cont := rfl
@[simp] theorem modCtr_otp (f : CtrState → CtrState) (s : State) : (modCtr f s).otp = s.otp := rfl
@[simp] theorem modCtr_gaf (f : CtrState → CtrState) (s : State) : (modCtr f s).gaf = s.gaf := rfl
@[simp] theorem modCtr_rolsal (f : CtrState → CtrState) (s : State) : (modCtr f s).rolsal = s.rolsal := rfl
@[simp] theorem modCtr_fresh (f : CtrState → CtrState) (s : State) : (modCtr f s).fresh = s.fresh := rfl

@[simp] theorem modCullet_pending (f : CulletState → CulletState) (s : State) : (modCullet f s).pending = s.pending := rfl
@[simp] theorem modCullet_regs (f : CulletState → CulletState) (s : State) : (modCullet f s).regs = s.regs := rfl
@[simp] theorem modCullet_wide (f : CulletState → CulletState) (s : State) : (modCullet f s).wide = s.wide := rfl
@[simp] theorem modCullet_clk (f : CulletState → CulletState) (s : State) : (modCullet f s).clk = s.clk := rfl
@[simp] theorem modCullet_pins (f : CulletState → CulletState) (s : State) : (modCullet f s).pins = s.pins := rfl
@[simp] theorem modCullet_stations (f : CulletState → CulletState) (s : State) : (modCullet f s).stations = s.stations := rfl
@[simp] theorem modCullet_spine (f : CulletState → CulletState) (s : State) : (modCullet f s).spine = s.spine := rfl
@[simp] theorem modCullet_slot (f : CulletState → CulletState) (s : State) : (modCullet f s).slot = s.slot := rfl
@[simp] theorem modCullet_shear (f : CulletState → CulletState) (s : State) : (modCullet f s).shear = s.shear := rfl
@[simp] theorem modCullet_cullet (f : CulletState → CulletState) (s : State) : (modCullet f s).cullet = f s.cullet := rfl
@[simp] theorem modCullet_ctr (f : CulletState → CulletState) (s : State) : (modCullet f s).ctr = s.ctr := rfl
@[simp] theorem modCullet_trace (f : CulletState → CulletState) (s : State) : (modCullet f s).trace = s.trace := rfl
@[simp] theorem modCullet_stria (f : CulletState → CulletState) (s : State) : (modCullet f s).stria = s.stria := rfl
@[simp] theorem modCullet_dl (f : CulletState → CulletState) (s : State) : (modCullet f s).dl = s.dl := rfl
@[simp] theorem modCullet_lehr (f : CulletState → CulletState) (s : State) : (modCullet f s).lehr = s.lehr := rfl
@[simp] theorem modCullet_ladder (f : CulletState → CulletState) (s : State) : (modCullet f s).ladder = s.ladder := rfl
@[simp] theorem modCullet_notice (f : CulletState → CulletState) (s : State) : (modCullet f s).notice = s.notice := rfl
@[simp] theorem modCullet_rings (f : CulletState → CulletState) (s : State) : (modCullet f s).rings = s.rings := rfl
@[simp] theorem modCullet_bus (f : CulletState → CulletState) (s : State) : (modCullet f s).bus = s.bus := rfl
@[simp] theorem modCullet_job (f : CulletState → CulletState) (s : State) : (modCullet f s).job = s.job := rfl
@[simp] theorem modCullet_gather (f : CulletState → CulletState) (s : State) : (modCullet f s).gather = s.gather := rfl
@[simp] theorem modCullet_mbx (f : CulletState → CulletState) (s : State) : (modCullet f s).mbx = s.mbx := rfl
@[simp] theorem modCullet_cont (f : CulletState → CulletState) (s : State) : (modCullet f s).cont = s.cont := rfl
@[simp] theorem modCullet_otp (f : CulletState → CulletState) (s : State) : (modCullet f s).otp = s.otp := rfl
@[simp] theorem modCullet_gaf (f : CulletState → CulletState) (s : State) : (modCullet f s).gaf = s.gaf := rfl
@[simp] theorem modCullet_rolsal (f : CulletState → CulletState) (s : State) : (modCullet f s).rolsal = s.rolsal := rfl
@[simp] theorem modCullet_fresh (f : CulletState → CulletState) (s : State) : (modCullet f s).fresh = s.fresh := rfl

@[simp] theorem modDl_pending (f : DeadlineState → DeadlineState) (s : State) : (modDl f s).pending = s.pending := rfl
@[simp] theorem modDl_regs (f : DeadlineState → DeadlineState) (s : State) : (modDl f s).regs = s.regs := rfl
@[simp] theorem modDl_wide (f : DeadlineState → DeadlineState) (s : State) : (modDl f s).wide = s.wide := rfl
@[simp] theorem modDl_clk (f : DeadlineState → DeadlineState) (s : State) : (modDl f s).clk = s.clk := rfl
@[simp] theorem modDl_pins (f : DeadlineState → DeadlineState) (s : State) : (modDl f s).pins = s.pins := rfl
@[simp] theorem modDl_stations (f : DeadlineState → DeadlineState) (s : State) : (modDl f s).stations = s.stations := rfl
@[simp] theorem modDl_spine (f : DeadlineState → DeadlineState) (s : State) : (modDl f s).spine = s.spine := rfl
@[simp] theorem modDl_slot (f : DeadlineState → DeadlineState) (s : State) : (modDl f s).slot = s.slot := rfl
@[simp] theorem modDl_shear (f : DeadlineState → DeadlineState) (s : State) : (modDl f s).shear = s.shear := rfl
@[simp] theorem modDl_cullet (f : DeadlineState → DeadlineState) (s : State) : (modDl f s).cullet = s.cullet := rfl
@[simp] theorem modDl_ctr (f : DeadlineState → DeadlineState) (s : State) : (modDl f s).ctr = s.ctr := rfl
@[simp] theorem modDl_trace (f : DeadlineState → DeadlineState) (s : State) : (modDl f s).trace = s.trace := rfl
@[simp] theorem modDl_stria (f : DeadlineState → DeadlineState) (s : State) : (modDl f s).stria = s.stria := rfl
@[simp] theorem modDl_dl (f : DeadlineState → DeadlineState) (s : State) : (modDl f s).dl = f s.dl := rfl
@[simp] theorem modDl_lehr (f : DeadlineState → DeadlineState) (s : State) : (modDl f s).lehr = s.lehr := rfl
@[simp] theorem modDl_ladder (f : DeadlineState → DeadlineState) (s : State) : (modDl f s).ladder = s.ladder := rfl
@[simp] theorem modDl_notice (f : DeadlineState → DeadlineState) (s : State) : (modDl f s).notice = s.notice := rfl
@[simp] theorem modDl_rings (f : DeadlineState → DeadlineState) (s : State) : (modDl f s).rings = s.rings := rfl
@[simp] theorem modDl_bus (f : DeadlineState → DeadlineState) (s : State) : (modDl f s).bus = s.bus := rfl
@[simp] theorem modDl_job (f : DeadlineState → DeadlineState) (s : State) : (modDl f s).job = s.job := rfl
@[simp] theorem modDl_gather (f : DeadlineState → DeadlineState) (s : State) : (modDl f s).gather = s.gather := rfl
@[simp] theorem modDl_mbx (f : DeadlineState → DeadlineState) (s : State) : (modDl f s).mbx = s.mbx := rfl
@[simp] theorem modDl_cont (f : DeadlineState → DeadlineState) (s : State) : (modDl f s).cont = s.cont := rfl
@[simp] theorem modDl_otp (f : DeadlineState → DeadlineState) (s : State) : (modDl f s).otp = s.otp := rfl
@[simp] theorem modDl_gaf (f : DeadlineState → DeadlineState) (s : State) : (modDl f s).gaf = s.gaf := rfl
@[simp] theorem modDl_rolsal (f : DeadlineState → DeadlineState) (s : State) : (modDl f s).rolsal = s.rolsal := rfl
@[simp] theorem modDl_fresh (f : DeadlineState → DeadlineState) (s : State) : (modDl f s).fresh = s.fresh := rfl

@[simp] theorem modClk_pending (f : ClockState → ClockState) (s : State) : (modClk f s).pending = s.pending := rfl
@[simp] theorem modClk_regs (f : ClockState → ClockState) (s : State) : (modClk f s).regs = s.regs := rfl
@[simp] theorem modClk_wide (f : ClockState → ClockState) (s : State) : (modClk f s).wide = s.wide := rfl
@[simp] theorem modClk_clk (f : ClockState → ClockState) (s : State) : (modClk f s).clk = f s.clk := rfl
@[simp] theorem modClk_pins (f : ClockState → ClockState) (s : State) : (modClk f s).pins = s.pins := rfl
@[simp] theorem modClk_stations (f : ClockState → ClockState) (s : State) : (modClk f s).stations = s.stations := rfl
@[simp] theorem modClk_spine (f : ClockState → ClockState) (s : State) : (modClk f s).spine = s.spine := rfl
@[simp] theorem modClk_slot (f : ClockState → ClockState) (s : State) : (modClk f s).slot = s.slot := rfl
@[simp] theorem modClk_shear (f : ClockState → ClockState) (s : State) : (modClk f s).shear = s.shear := rfl
@[simp] theorem modClk_cullet (f : ClockState → ClockState) (s : State) : (modClk f s).cullet = s.cullet := rfl
@[simp] theorem modClk_ctr (f : ClockState → ClockState) (s : State) : (modClk f s).ctr = s.ctr := rfl
@[simp] theorem modClk_trace (f : ClockState → ClockState) (s : State) : (modClk f s).trace = s.trace := rfl
@[simp] theorem modClk_stria (f : ClockState → ClockState) (s : State) : (modClk f s).stria = s.stria := rfl
@[simp] theorem modClk_dl (f : ClockState → ClockState) (s : State) : (modClk f s).dl = s.dl := rfl
@[simp] theorem modClk_lehr (f : ClockState → ClockState) (s : State) : (modClk f s).lehr = s.lehr := rfl
@[simp] theorem modClk_ladder (f : ClockState → ClockState) (s : State) : (modClk f s).ladder = s.ladder := rfl
@[simp] theorem modClk_notice (f : ClockState → ClockState) (s : State) : (modClk f s).notice = s.notice := rfl
@[simp] theorem modClk_rings (f : ClockState → ClockState) (s : State) : (modClk f s).rings = s.rings := rfl
@[simp] theorem modClk_bus (f : ClockState → ClockState) (s : State) : (modClk f s).bus = s.bus := rfl
@[simp] theorem modClk_job (f : ClockState → ClockState) (s : State) : (modClk f s).job = s.job := rfl
@[simp] theorem modClk_gather (f : ClockState → ClockState) (s : State) : (modClk f s).gather = s.gather := rfl
@[simp] theorem modClk_mbx (f : ClockState → ClockState) (s : State) : (modClk f s).mbx = s.mbx := rfl
@[simp] theorem modClk_cont (f : ClockState → ClockState) (s : State) : (modClk f s).cont = s.cont := rfl
@[simp] theorem modClk_otp (f : ClockState → ClockState) (s : State) : (modClk f s).otp = s.otp := rfl
@[simp] theorem modClk_gaf (f : ClockState → ClockState) (s : State) : (modClk f s).gaf = s.gaf := rfl
@[simp] theorem modClk_rolsal (f : ClockState → ClockState) (s : State) : (modClk f s).rolsal = s.rolsal := rfl
@[simp] theorem modClk_fresh (f : ClockState → ClockState) (s : State) : (modClk f s).fresh = s.fresh := rfl

@[simp] theorem modPins_pending (f : PinState → PinState) (s : State) : (modPins f s).pending = s.pending := rfl
@[simp] theorem modPins_regs (f : PinState → PinState) (s : State) : (modPins f s).regs = s.regs := rfl
@[simp] theorem modPins_wide (f : PinState → PinState) (s : State) : (modPins f s).wide = s.wide := rfl
@[simp] theorem modPins_clk (f : PinState → PinState) (s : State) : (modPins f s).clk = s.clk := rfl
@[simp] theorem modPins_pins (f : PinState → PinState) (s : State) : (modPins f s).pins = f s.pins := rfl
@[simp] theorem modPins_stations (f : PinState → PinState) (s : State) : (modPins f s).stations = s.stations := rfl
@[simp] theorem modPins_spine (f : PinState → PinState) (s : State) : (modPins f s).spine = s.spine := rfl
@[simp] theorem modPins_slot (f : PinState → PinState) (s : State) : (modPins f s).slot = s.slot := rfl
@[simp] theorem modPins_shear (f : PinState → PinState) (s : State) : (modPins f s).shear = s.shear := rfl
@[simp] theorem modPins_cullet (f : PinState → PinState) (s : State) : (modPins f s).cullet = s.cullet := rfl
@[simp] theorem modPins_ctr (f : PinState → PinState) (s : State) : (modPins f s).ctr = s.ctr := rfl
@[simp] theorem modPins_trace (f : PinState → PinState) (s : State) : (modPins f s).trace = s.trace := rfl
@[simp] theorem modPins_stria (f : PinState → PinState) (s : State) : (modPins f s).stria = s.stria := rfl
@[simp] theorem modPins_dl (f : PinState → PinState) (s : State) : (modPins f s).dl = s.dl := rfl
@[simp] theorem modPins_lehr (f : PinState → PinState) (s : State) : (modPins f s).lehr = s.lehr := rfl
@[simp] theorem modPins_ladder (f : PinState → PinState) (s : State) : (modPins f s).ladder = s.ladder := rfl
@[simp] theorem modPins_notice (f : PinState → PinState) (s : State) : (modPins f s).notice = s.notice := rfl
@[simp] theorem modPins_rings (f : PinState → PinState) (s : State) : (modPins f s).rings = s.rings := rfl
@[simp] theorem modPins_bus (f : PinState → PinState) (s : State) : (modPins f s).bus = s.bus := rfl
@[simp] theorem modPins_job (f : PinState → PinState) (s : State) : (modPins f s).job = s.job := rfl
@[simp] theorem modPins_gather (f : PinState → PinState) (s : State) : (modPins f s).gather = s.gather := rfl
@[simp] theorem modPins_mbx (f : PinState → PinState) (s : State) : (modPins f s).mbx = s.mbx := rfl
@[simp] theorem modPins_cont (f : PinState → PinState) (s : State) : (modPins f s).cont = s.cont := rfl
@[simp] theorem modPins_otp (f : PinState → PinState) (s : State) : (modPins f s).otp = s.otp := rfl
@[simp] theorem modPins_gaf (f : PinState → PinState) (s : State) : (modPins f s).gaf = s.gaf := rfl
@[simp] theorem modPins_rolsal (f : PinState → PinState) (s : State) : (modPins f s).rolsal = s.rolsal := rfl
@[simp] theorem modPins_fresh (f : PinState → PinState) (s : State) : (modPins f s).fresh = s.fresh := rfl

@[simp] theorem modGaf_pending (f : GafState → GafState) (s : State) : (modGaf f s).pending = s.pending := rfl
@[simp] theorem modGaf_regs (f : GafState → GafState) (s : State) : (modGaf f s).regs = s.regs := rfl
@[simp] theorem modGaf_wide (f : GafState → GafState) (s : State) : (modGaf f s).wide = s.wide := rfl
@[simp] theorem modGaf_clk (f : GafState → GafState) (s : State) : (modGaf f s).clk = s.clk := rfl
@[simp] theorem modGaf_pins (f : GafState → GafState) (s : State) : (modGaf f s).pins = s.pins := rfl
@[simp] theorem modGaf_stations (f : GafState → GafState) (s : State) : (modGaf f s).stations = s.stations := rfl
@[simp] theorem modGaf_spine (f : GafState → GafState) (s : State) : (modGaf f s).spine = s.spine := rfl
@[simp] theorem modGaf_slot (f : GafState → GafState) (s : State) : (modGaf f s).slot = s.slot := rfl
@[simp] theorem modGaf_shear (f : GafState → GafState) (s : State) : (modGaf f s).shear = s.shear := rfl
@[simp] theorem modGaf_cullet (f : GafState → GafState) (s : State) : (modGaf f s).cullet = s.cullet := rfl
@[simp] theorem modGaf_ctr (f : GafState → GafState) (s : State) : (modGaf f s).ctr = s.ctr := rfl
@[simp] theorem modGaf_trace (f : GafState → GafState) (s : State) : (modGaf f s).trace = s.trace := rfl
@[simp] theorem modGaf_stria (f : GafState → GafState) (s : State) : (modGaf f s).stria = s.stria := rfl
@[simp] theorem modGaf_dl (f : GafState → GafState) (s : State) : (modGaf f s).dl = s.dl := rfl
@[simp] theorem modGaf_lehr (f : GafState → GafState) (s : State) : (modGaf f s).lehr = s.lehr := rfl
@[simp] theorem modGaf_ladder (f : GafState → GafState) (s : State) : (modGaf f s).ladder = s.ladder := rfl
@[simp] theorem modGaf_notice (f : GafState → GafState) (s : State) : (modGaf f s).notice = s.notice := rfl
@[simp] theorem modGaf_rings (f : GafState → GafState) (s : State) : (modGaf f s).rings = s.rings := rfl
@[simp] theorem modGaf_bus (f : GafState → GafState) (s : State) : (modGaf f s).bus = s.bus := rfl
@[simp] theorem modGaf_job (f : GafState → GafState) (s : State) : (modGaf f s).job = s.job := rfl
@[simp] theorem modGaf_gather (f : GafState → GafState) (s : State) : (modGaf f s).gather = s.gather := rfl
@[simp] theorem modGaf_mbx (f : GafState → GafState) (s : State) : (modGaf f s).mbx = s.mbx := rfl
@[simp] theorem modGaf_cont (f : GafState → GafState) (s : State) : (modGaf f s).cont = s.cont := rfl
@[simp] theorem modGaf_otp (f : GafState → GafState) (s : State) : (modGaf f s).otp = s.otp := rfl
@[simp] theorem modGaf_gaf (f : GafState → GafState) (s : State) : (modGaf f s).gaf = f s.gaf := rfl
@[simp] theorem modGaf_rolsal (f : GafState → GafState) (s : State) : (modGaf f s).rolsal = s.rolsal := rfl
@[simp] theorem modGaf_fresh (f : GafState → GafState) (s : State) : (modGaf f s).fresh = s.fresh := rfl

@[simp] theorem modBus_pending (f : BusState → BusState) (s : State) : (modBus f s).pending = s.pending := rfl
@[simp] theorem modBus_regs (f : BusState → BusState) (s : State) : (modBus f s).regs = s.regs := rfl
@[simp] theorem modBus_wide (f : BusState → BusState) (s : State) : (modBus f s).wide = s.wide := rfl
@[simp] theorem modBus_clk (f : BusState → BusState) (s : State) : (modBus f s).clk = s.clk := rfl
@[simp] theorem modBus_pins (f : BusState → BusState) (s : State) : (modBus f s).pins = s.pins := rfl
@[simp] theorem modBus_stations (f : BusState → BusState) (s : State) : (modBus f s).stations = s.stations := rfl
@[simp] theorem modBus_spine (f : BusState → BusState) (s : State) : (modBus f s).spine = s.spine := rfl
@[simp] theorem modBus_slot (f : BusState → BusState) (s : State) : (modBus f s).slot = s.slot := rfl
@[simp] theorem modBus_shear (f : BusState → BusState) (s : State) : (modBus f s).shear = s.shear := rfl
@[simp] theorem modBus_cullet (f : BusState → BusState) (s : State) : (modBus f s).cullet = s.cullet := rfl
@[simp] theorem modBus_ctr (f : BusState → BusState) (s : State) : (modBus f s).ctr = s.ctr := rfl
@[simp] theorem modBus_trace (f : BusState → BusState) (s : State) : (modBus f s).trace = s.trace := rfl
@[simp] theorem modBus_stria (f : BusState → BusState) (s : State) : (modBus f s).stria = s.stria := rfl
@[simp] theorem modBus_dl (f : BusState → BusState) (s : State) : (modBus f s).dl = s.dl := rfl
@[simp] theorem modBus_lehr (f : BusState → BusState) (s : State) : (modBus f s).lehr = s.lehr := rfl
@[simp] theorem modBus_ladder (f : BusState → BusState) (s : State) : (modBus f s).ladder = s.ladder := rfl
@[simp] theorem modBus_notice (f : BusState → BusState) (s : State) : (modBus f s).notice = s.notice := rfl
@[simp] theorem modBus_rings (f : BusState → BusState) (s : State) : (modBus f s).rings = s.rings := rfl
@[simp] theorem modBus_bus (f : BusState → BusState) (s : State) : (modBus f s).bus = f s.bus := rfl
@[simp] theorem modBus_job (f : BusState → BusState) (s : State) : (modBus f s).job = s.job := rfl
@[simp] theorem modBus_gather (f : BusState → BusState) (s : State) : (modBus f s).gather = s.gather := rfl
@[simp] theorem modBus_mbx (f : BusState → BusState) (s : State) : (modBus f s).mbx = s.mbx := rfl
@[simp] theorem modBus_cont (f : BusState → BusState) (s : State) : (modBus f s).cont = s.cont := rfl
@[simp] theorem modBus_otp (f : BusState → BusState) (s : State) : (modBus f s).otp = s.otp := rfl
@[simp] theorem modBus_gaf (f : BusState → BusState) (s : State) : (modBus f s).gaf = s.gaf := rfl
@[simp] theorem modBus_rolsal (f : BusState → BusState) (s : State) : (modBus f s).rolsal = s.rolsal := rfl
@[simp] theorem modBus_fresh (f : BusState → BusState) (s : State) : (modBus f s).fresh = s.fresh := rfl

@[simp] theorem modNotice_pending (f : NoticeState → NoticeState) (s : State) : (modNotice f s).pending = s.pending := rfl
@[simp] theorem modNotice_regs (f : NoticeState → NoticeState) (s : State) : (modNotice f s).regs = s.regs := rfl
@[simp] theorem modNotice_wide (f : NoticeState → NoticeState) (s : State) : (modNotice f s).wide = s.wide := rfl
@[simp] theorem modNotice_clk (f : NoticeState → NoticeState) (s : State) : (modNotice f s).clk = s.clk := rfl
@[simp] theorem modNotice_pins (f : NoticeState → NoticeState) (s : State) : (modNotice f s).pins = s.pins := rfl
@[simp] theorem modNotice_stations (f : NoticeState → NoticeState) (s : State) : (modNotice f s).stations = s.stations := rfl
@[simp] theorem modNotice_spine (f : NoticeState → NoticeState) (s : State) : (modNotice f s).spine = s.spine := rfl
@[simp] theorem modNotice_slot (f : NoticeState → NoticeState) (s : State) : (modNotice f s).slot = s.slot := rfl
@[simp] theorem modNotice_shear (f : NoticeState → NoticeState) (s : State) : (modNotice f s).shear = s.shear := rfl
@[simp] theorem modNotice_cullet (f : NoticeState → NoticeState) (s : State) : (modNotice f s).cullet = s.cullet := rfl
@[simp] theorem modNotice_ctr (f : NoticeState → NoticeState) (s : State) : (modNotice f s).ctr = s.ctr := rfl
@[simp] theorem modNotice_trace (f : NoticeState → NoticeState) (s : State) : (modNotice f s).trace = s.trace := rfl
@[simp] theorem modNotice_stria (f : NoticeState → NoticeState) (s : State) : (modNotice f s).stria = s.stria := rfl
@[simp] theorem modNotice_dl (f : NoticeState → NoticeState) (s : State) : (modNotice f s).dl = s.dl := rfl
@[simp] theorem modNotice_lehr (f : NoticeState → NoticeState) (s : State) : (modNotice f s).lehr = s.lehr := rfl
@[simp] theorem modNotice_ladder (f : NoticeState → NoticeState) (s : State) : (modNotice f s).ladder = s.ladder := rfl
@[simp] theorem modNotice_notice (f : NoticeState → NoticeState) (s : State) : (modNotice f s).notice = f s.notice := rfl
@[simp] theorem modNotice_rings (f : NoticeState → NoticeState) (s : State) : (modNotice f s).rings = s.rings := rfl
@[simp] theorem modNotice_bus (f : NoticeState → NoticeState) (s : State) : (modNotice f s).bus = s.bus := rfl
@[simp] theorem modNotice_job (f : NoticeState → NoticeState) (s : State) : (modNotice f s).job = s.job := rfl
@[simp] theorem modNotice_gather (f : NoticeState → NoticeState) (s : State) : (modNotice f s).gather = s.gather := rfl
@[simp] theorem modNotice_mbx (f : NoticeState → NoticeState) (s : State) : (modNotice f s).mbx = s.mbx := rfl
@[simp] theorem modNotice_cont (f : NoticeState → NoticeState) (s : State) : (modNotice f s).cont = s.cont := rfl
@[simp] theorem modNotice_otp (f : NoticeState → NoticeState) (s : State) : (modNotice f s).otp = s.otp := rfl
@[simp] theorem modNotice_gaf (f : NoticeState → NoticeState) (s : State) : (modNotice f s).gaf = s.gaf := rfl
@[simp] theorem modNotice_rolsal (f : NoticeState → NoticeState) (s : State) : (modNotice f s).rolsal = s.rolsal := rfl
@[simp] theorem modNotice_fresh (f : NoticeState → NoticeState) (s : State) : (modNotice f s).fresh = s.fresh := rfl

@[simp] theorem modLadder_pending (f : LadderState → LadderState) (s : State) : (modLadder f s).pending = s.pending := rfl
@[simp] theorem modLadder_regs (f : LadderState → LadderState) (s : State) : (modLadder f s).regs = s.regs := rfl
@[simp] theorem modLadder_wide (f : LadderState → LadderState) (s : State) : (modLadder f s).wide = s.wide := rfl
@[simp] theorem modLadder_clk (f : LadderState → LadderState) (s : State) : (modLadder f s).clk = s.clk := rfl
@[simp] theorem modLadder_pins (f : LadderState → LadderState) (s : State) : (modLadder f s).pins = s.pins := rfl
@[simp] theorem modLadder_stations (f : LadderState → LadderState) (s : State) : (modLadder f s).stations = s.stations := rfl
@[simp] theorem modLadder_spine (f : LadderState → LadderState) (s : State) : (modLadder f s).spine = s.spine := rfl
@[simp] theorem modLadder_slot (f : LadderState → LadderState) (s : State) : (modLadder f s).slot = s.slot := rfl
@[simp] theorem modLadder_shear (f : LadderState → LadderState) (s : State) : (modLadder f s).shear = s.shear := rfl
@[simp] theorem modLadder_cullet (f : LadderState → LadderState) (s : State) : (modLadder f s).cullet = s.cullet := rfl
@[simp] theorem modLadder_ctr (f : LadderState → LadderState) (s : State) : (modLadder f s).ctr = s.ctr := rfl
@[simp] theorem modLadder_trace (f : LadderState → LadderState) (s : State) : (modLadder f s).trace = s.trace := rfl
@[simp] theorem modLadder_stria (f : LadderState → LadderState) (s : State) : (modLadder f s).stria = s.stria := rfl
@[simp] theorem modLadder_dl (f : LadderState → LadderState) (s : State) : (modLadder f s).dl = s.dl := rfl
@[simp] theorem modLadder_lehr (f : LadderState → LadderState) (s : State) : (modLadder f s).lehr = s.lehr := rfl
@[simp] theorem modLadder_ladder (f : LadderState → LadderState) (s : State) : (modLadder f s).ladder = f s.ladder := rfl
@[simp] theorem modLadder_notice (f : LadderState → LadderState) (s : State) : (modLadder f s).notice = s.notice := rfl
@[simp] theorem modLadder_rings (f : LadderState → LadderState) (s : State) : (modLadder f s).rings = s.rings := rfl
@[simp] theorem modLadder_bus (f : LadderState → LadderState) (s : State) : (modLadder f s).bus = s.bus := rfl
@[simp] theorem modLadder_job (f : LadderState → LadderState) (s : State) : (modLadder f s).job = s.job := rfl
@[simp] theorem modLadder_gather (f : LadderState → LadderState) (s : State) : (modLadder f s).gather = s.gather := rfl
@[simp] theorem modLadder_mbx (f : LadderState → LadderState) (s : State) : (modLadder f s).mbx = s.mbx := rfl
@[simp] theorem modLadder_cont (f : LadderState → LadderState) (s : State) : (modLadder f s).cont = s.cont := rfl
@[simp] theorem modLadder_otp (f : LadderState → LadderState) (s : State) : (modLadder f s).otp = s.otp := rfl
@[simp] theorem modLadder_gaf (f : LadderState → LadderState) (s : State) : (modLadder f s).gaf = s.gaf := rfl
@[simp] theorem modLadder_rolsal (f : LadderState → LadderState) (s : State) : (modLadder f s).rolsal = s.rolsal := rfl
@[simp] theorem modLadder_fresh (f : LadderState → LadderState) (s : State) : (modLadder f s).fresh = s.fresh := rfl

@[simp] theorem modRings_pending (f : RingState → RingState) (s : State) : (modRings f s).pending = s.pending := rfl
@[simp] theorem modRings_regs (f : RingState → RingState) (s : State) : (modRings f s).regs = s.regs := rfl
@[simp] theorem modRings_wide (f : RingState → RingState) (s : State) : (modRings f s).wide = s.wide := rfl
@[simp] theorem modRings_clk (f : RingState → RingState) (s : State) : (modRings f s).clk = s.clk := rfl
@[simp] theorem modRings_pins (f : RingState → RingState) (s : State) : (modRings f s).pins = s.pins := rfl
@[simp] theorem modRings_stations (f : RingState → RingState) (s : State) : (modRings f s).stations = s.stations := rfl
@[simp] theorem modRings_spine (f : RingState → RingState) (s : State) : (modRings f s).spine = s.spine := rfl
@[simp] theorem modRings_slot (f : RingState → RingState) (s : State) : (modRings f s).slot = s.slot := rfl
@[simp] theorem modRings_shear (f : RingState → RingState) (s : State) : (modRings f s).shear = s.shear := rfl
@[simp] theorem modRings_cullet (f : RingState → RingState) (s : State) : (modRings f s).cullet = s.cullet := rfl
@[simp] theorem modRings_ctr (f : RingState → RingState) (s : State) : (modRings f s).ctr = s.ctr := rfl
@[simp] theorem modRings_trace (f : RingState → RingState) (s : State) : (modRings f s).trace = s.trace := rfl
@[simp] theorem modRings_stria (f : RingState → RingState) (s : State) : (modRings f s).stria = s.stria := rfl
@[simp] theorem modRings_dl (f : RingState → RingState) (s : State) : (modRings f s).dl = s.dl := rfl
@[simp] theorem modRings_lehr (f : RingState → RingState) (s : State) : (modRings f s).lehr = s.lehr := rfl
@[simp] theorem modRings_ladder (f : RingState → RingState) (s : State) : (modRings f s).ladder = s.ladder := rfl
@[simp] theorem modRings_notice (f : RingState → RingState) (s : State) : (modRings f s).notice = s.notice := rfl
@[simp] theorem modRings_rings (f : RingState → RingState) (s : State) : (modRings f s).rings = f s.rings := rfl
@[simp] theorem modRings_bus (f : RingState → RingState) (s : State) : (modRings f s).bus = s.bus := rfl
@[simp] theorem modRings_job (f : RingState → RingState) (s : State) : (modRings f s).job = s.job := rfl
@[simp] theorem modRings_gather (f : RingState → RingState) (s : State) : (modRings f s).gather = s.gather := rfl
@[simp] theorem modRings_mbx (f : RingState → RingState) (s : State) : (modRings f s).mbx = s.mbx := rfl
@[simp] theorem modRings_cont (f : RingState → RingState) (s : State) : (modRings f s).cont = s.cont := rfl
@[simp] theorem modRings_otp (f : RingState → RingState) (s : State) : (modRings f s).otp = s.otp := rfl
@[simp] theorem modRings_gaf (f : RingState → RingState) (s : State) : (modRings f s).gaf = s.gaf := rfl
@[simp] theorem modRings_rolsal (f : RingState → RingState) (s : State) : (modRings f s).rolsal = s.rolsal := rfl
@[simp] theorem modRings_fresh (f : RingState → RingState) (s : State) : (modRings f s).fresh = s.fresh := rfl

@[simp] theorem modRs_pending (f : RolsalState → RolsalState) (s : State) : (modRs f s).pending = s.pending := rfl
@[simp] theorem modRs_regs (f : RolsalState → RolsalState) (s : State) : (modRs f s).regs = s.regs := rfl
@[simp] theorem modRs_wide (f : RolsalState → RolsalState) (s : State) : (modRs f s).wide = s.wide := rfl
@[simp] theorem modRs_clk (f : RolsalState → RolsalState) (s : State) : (modRs f s).clk = s.clk := rfl
@[simp] theorem modRs_pins (f : RolsalState → RolsalState) (s : State) : (modRs f s).pins = s.pins := rfl
@[simp] theorem modRs_stations (f : RolsalState → RolsalState) (s : State) : (modRs f s).stations = s.stations := rfl
@[simp] theorem modRs_spine (f : RolsalState → RolsalState) (s : State) : (modRs f s).spine = s.spine := rfl
@[simp] theorem modRs_slot (f : RolsalState → RolsalState) (s : State) : (modRs f s).slot = s.slot := rfl
@[simp] theorem modRs_shear (f : RolsalState → RolsalState) (s : State) : (modRs f s).shear = s.shear := rfl
@[simp] theorem modRs_cullet (f : RolsalState → RolsalState) (s : State) : (modRs f s).cullet = s.cullet := rfl
@[simp] theorem modRs_ctr (f : RolsalState → RolsalState) (s : State) : (modRs f s).ctr = s.ctr := rfl
@[simp] theorem modRs_trace (f : RolsalState → RolsalState) (s : State) : (modRs f s).trace = s.trace := rfl
@[simp] theorem modRs_stria (f : RolsalState → RolsalState) (s : State) : (modRs f s).stria = s.stria := rfl
@[simp] theorem modRs_dl (f : RolsalState → RolsalState) (s : State) : (modRs f s).dl = s.dl := rfl
@[simp] theorem modRs_lehr (f : RolsalState → RolsalState) (s : State) : (modRs f s).lehr = s.lehr := rfl
@[simp] theorem modRs_ladder (f : RolsalState → RolsalState) (s : State) : (modRs f s).ladder = s.ladder := rfl
@[simp] theorem modRs_notice (f : RolsalState → RolsalState) (s : State) : (modRs f s).notice = s.notice := rfl
@[simp] theorem modRs_rings (f : RolsalState → RolsalState) (s : State) : (modRs f s).rings = s.rings := rfl
@[simp] theorem modRs_bus (f : RolsalState → RolsalState) (s : State) : (modRs f s).bus = s.bus := rfl
@[simp] theorem modRs_job (f : RolsalState → RolsalState) (s : State) : (modRs f s).job = s.job := rfl
@[simp] theorem modRs_gather (f : RolsalState → RolsalState) (s : State) : (modRs f s).gather = s.gather := rfl
@[simp] theorem modRs_mbx (f : RolsalState → RolsalState) (s : State) : (modRs f s).mbx = s.mbx := rfl
@[simp] theorem modRs_cont (f : RolsalState → RolsalState) (s : State) : (modRs f s).cont = s.cont := rfl
@[simp] theorem modRs_otp (f : RolsalState → RolsalState) (s : State) : (modRs f s).otp = s.otp := rfl
@[simp] theorem modRs_gaf (f : RolsalState → RolsalState) (s : State) : (modRs f s).gaf = s.gaf := rfl
@[simp] theorem modRs_rolsal (f : RolsalState → RolsalState) (s : State) : (modRs f s).rolsal = f s.rolsal := rfl
@[simp] theorem modRs_fresh (f : RolsalState → RolsalState) (s : State) : (modRs f s).fresh = s.fresh := rfl

@[simp] theorem modShear_pending (f : ShearState → ShearState) (s : State) : (modShear f s).pending = s.pending := rfl
@[simp] theorem modShear_regs (f : ShearState → ShearState) (s : State) : (modShear f s).regs = s.regs := rfl
@[simp] theorem modShear_wide (f : ShearState → ShearState) (s : State) : (modShear f s).wide = s.wide := rfl
@[simp] theorem modShear_clk (f : ShearState → ShearState) (s : State) : (modShear f s).clk = s.clk := rfl
@[simp] theorem modShear_pins (f : ShearState → ShearState) (s : State) : (modShear f s).pins = s.pins := rfl
@[simp] theorem modShear_stations (f : ShearState → ShearState) (s : State) : (modShear f s).stations = s.stations := rfl
@[simp] theorem modShear_spine (f : ShearState → ShearState) (s : State) : (modShear f s).spine = s.spine := rfl
@[simp] theorem modShear_slot (f : ShearState → ShearState) (s : State) : (modShear f s).slot = s.slot := rfl
@[simp] theorem modShear_shear (f : ShearState → ShearState) (s : State) : (modShear f s).shear = f s.shear := rfl
@[simp] theorem modShear_cullet (f : ShearState → ShearState) (s : State) : (modShear f s).cullet = s.cullet := rfl
@[simp] theorem modShear_ctr (f : ShearState → ShearState) (s : State) : (modShear f s).ctr = s.ctr := rfl
@[simp] theorem modShear_trace (f : ShearState → ShearState) (s : State) : (modShear f s).trace = s.trace := rfl
@[simp] theorem modShear_stria (f : ShearState → ShearState) (s : State) : (modShear f s).stria = s.stria := rfl
@[simp] theorem modShear_dl (f : ShearState → ShearState) (s : State) : (modShear f s).dl = s.dl := rfl
@[simp] theorem modShear_lehr (f : ShearState → ShearState) (s : State) : (modShear f s).lehr = s.lehr := rfl
@[simp] theorem modShear_ladder (f : ShearState → ShearState) (s : State) : (modShear f s).ladder = s.ladder := rfl
@[simp] theorem modShear_notice (f : ShearState → ShearState) (s : State) : (modShear f s).notice = s.notice := rfl
@[simp] theorem modShear_rings (f : ShearState → ShearState) (s : State) : (modShear f s).rings = s.rings := rfl
@[simp] theorem modShear_bus (f : ShearState → ShearState) (s : State) : (modShear f s).bus = s.bus := rfl
@[simp] theorem modShear_job (f : ShearState → ShearState) (s : State) : (modShear f s).job = s.job := rfl
@[simp] theorem modShear_gather (f : ShearState → ShearState) (s : State) : (modShear f s).gather = s.gather := rfl
@[simp] theorem modShear_mbx (f : ShearState → ShearState) (s : State) : (modShear f s).mbx = s.mbx := rfl
@[simp] theorem modShear_cont (f : ShearState → ShearState) (s : State) : (modShear f s).cont = s.cont := rfl
@[simp] theorem modShear_otp (f : ShearState → ShearState) (s : State) : (modShear f s).otp = s.otp := rfl
@[simp] theorem modShear_gaf (f : ShearState → ShearState) (s : State) : (modShear f s).gaf = s.gaf := rfl
@[simp] theorem modShear_rolsal (f : ShearState → ShearState) (s : State) : (modShear f s).rolsal = s.rolsal := rfl
@[simp] theorem modShear_fresh (f : ShearState → ShearState) (s : State) : (modShear f s).fresh = s.fresh := rfl

@[simp] theorem modTrc_pending (f : TraceState → TraceState) (s : State) : (modTrc f s).pending = s.pending := rfl
@[simp] theorem modTrc_regs (f : TraceState → TraceState) (s : State) : (modTrc f s).regs = s.regs := rfl
@[simp] theorem modTrc_wide (f : TraceState → TraceState) (s : State) : (modTrc f s).wide = s.wide := rfl
@[simp] theorem modTrc_clk (f : TraceState → TraceState) (s : State) : (modTrc f s).clk = s.clk := rfl
@[simp] theorem modTrc_pins (f : TraceState → TraceState) (s : State) : (modTrc f s).pins = s.pins := rfl
@[simp] theorem modTrc_stations (f : TraceState → TraceState) (s : State) : (modTrc f s).stations = s.stations := rfl
@[simp] theorem modTrc_spine (f : TraceState → TraceState) (s : State) : (modTrc f s).spine = s.spine := rfl
@[simp] theorem modTrc_slot (f : TraceState → TraceState) (s : State) : (modTrc f s).slot = s.slot := rfl
@[simp] theorem modTrc_shear (f : TraceState → TraceState) (s : State) : (modTrc f s).shear = s.shear := rfl
@[simp] theorem modTrc_cullet (f : TraceState → TraceState) (s : State) : (modTrc f s).cullet = s.cullet := rfl
@[simp] theorem modTrc_ctr (f : TraceState → TraceState) (s : State) : (modTrc f s).ctr = s.ctr := rfl
@[simp] theorem modTrc_trace (f : TraceState → TraceState) (s : State) : (modTrc f s).trace = f s.trace := rfl
@[simp] theorem modTrc_stria (f : TraceState → TraceState) (s : State) : (modTrc f s).stria = s.stria := rfl
@[simp] theorem modTrc_dl (f : TraceState → TraceState) (s : State) : (modTrc f s).dl = s.dl := rfl
@[simp] theorem modTrc_lehr (f : TraceState → TraceState) (s : State) : (modTrc f s).lehr = s.lehr := rfl
@[simp] theorem modTrc_ladder (f : TraceState → TraceState) (s : State) : (modTrc f s).ladder = s.ladder := rfl
@[simp] theorem modTrc_notice (f : TraceState → TraceState) (s : State) : (modTrc f s).notice = s.notice := rfl
@[simp] theorem modTrc_rings (f : TraceState → TraceState) (s : State) : (modTrc f s).rings = s.rings := rfl
@[simp] theorem modTrc_bus (f : TraceState → TraceState) (s : State) : (modTrc f s).bus = s.bus := rfl
@[simp] theorem modTrc_job (f : TraceState → TraceState) (s : State) : (modTrc f s).job = s.job := rfl
@[simp] theorem modTrc_gather (f : TraceState → TraceState) (s : State) : (modTrc f s).gather = s.gather := rfl
@[simp] theorem modTrc_mbx (f : TraceState → TraceState) (s : State) : (modTrc f s).mbx = s.mbx := rfl
@[simp] theorem modTrc_cont (f : TraceState → TraceState) (s : State) : (modTrc f s).cont = s.cont := rfl
@[simp] theorem modTrc_otp (f : TraceState → TraceState) (s : State) : (modTrc f s).otp = s.otp := rfl
@[simp] theorem modTrc_gaf (f : TraceState → TraceState) (s : State) : (modTrc f s).gaf = s.gaf := rfl
@[simp] theorem modTrc_rolsal (f : TraceState → TraceState) (s : State) : (modTrc f s).rolsal = s.rolsal := rfl
@[simp] theorem modTrc_fresh (f : TraceState → TraceState) (s : State) : (modTrc f s).fresh = s.fresh := rfl

@[simp] theorem modStria_pending (f : StriaState → StriaState) (s : State) : (modStria f s).pending = s.pending := rfl
@[simp] theorem modStria_regs (f : StriaState → StriaState) (s : State) : (modStria f s).regs = s.regs := rfl
@[simp] theorem modStria_wide (f : StriaState → StriaState) (s : State) : (modStria f s).wide = s.wide := rfl
@[simp] theorem modStria_clk (f : StriaState → StriaState) (s : State) : (modStria f s).clk = s.clk := rfl
@[simp] theorem modStria_pins (f : StriaState → StriaState) (s : State) : (modStria f s).pins = s.pins := rfl
@[simp] theorem modStria_stations (f : StriaState → StriaState) (s : State) : (modStria f s).stations = s.stations := rfl
@[simp] theorem modStria_spine (f : StriaState → StriaState) (s : State) : (modStria f s).spine = s.spine := rfl
@[simp] theorem modStria_slot (f : StriaState → StriaState) (s : State) : (modStria f s).slot = s.slot := rfl
@[simp] theorem modStria_shear (f : StriaState → StriaState) (s : State) : (modStria f s).shear = s.shear := rfl
@[simp] theorem modStria_cullet (f : StriaState → StriaState) (s : State) : (modStria f s).cullet = s.cullet := rfl
@[simp] theorem modStria_ctr (f : StriaState → StriaState) (s : State) : (modStria f s).ctr = s.ctr := rfl
@[simp] theorem modStria_trace (f : StriaState → StriaState) (s : State) : (modStria f s).trace = s.trace := rfl
@[simp] theorem modStria_stria (f : StriaState → StriaState) (s : State) : (modStria f s).stria = f s.stria := rfl
@[simp] theorem modStria_dl (f : StriaState → StriaState) (s : State) : (modStria f s).dl = s.dl := rfl
@[simp] theorem modStria_lehr (f : StriaState → StriaState) (s : State) : (modStria f s).lehr = s.lehr := rfl
@[simp] theorem modStria_ladder (f : StriaState → StriaState) (s : State) : (modStria f s).ladder = s.ladder := rfl
@[simp] theorem modStria_notice (f : StriaState → StriaState) (s : State) : (modStria f s).notice = s.notice := rfl
@[simp] theorem modStria_rings (f : StriaState → StriaState) (s : State) : (modStria f s).rings = s.rings := rfl
@[simp] theorem modStria_bus (f : StriaState → StriaState) (s : State) : (modStria f s).bus = s.bus := rfl
@[simp] theorem modStria_job (f : StriaState → StriaState) (s : State) : (modStria f s).job = s.job := rfl
@[simp] theorem modStria_gather (f : StriaState → StriaState) (s : State) : (modStria f s).gather = s.gather := rfl
@[simp] theorem modStria_mbx (f : StriaState → StriaState) (s : State) : (modStria f s).mbx = s.mbx := rfl
@[simp] theorem modStria_cont (f : StriaState → StriaState) (s : State) : (modStria f s).cont = s.cont := rfl
@[simp] theorem modStria_otp (f : StriaState → StriaState) (s : State) : (modStria f s).otp = s.otp := rfl
@[simp] theorem modStria_gaf (f : StriaState → StriaState) (s : State) : (modStria f s).gaf = s.gaf := rfl
@[simp] theorem modStria_rolsal (f : StriaState → StriaState) (s : State) : (modStria f s).rolsal = s.rolsal := rfl
@[simp] theorem modStria_fresh (f : StriaState → StriaState) (s : State) : (modStria f s).fresh = s.fresh := rfl

@[simp] theorem modGather_pending (f : GatherState → GatherState) (s : State) : (modGather f s).pending = s.pending := rfl
@[simp] theorem modGather_regs (f : GatherState → GatherState) (s : State) : (modGather f s).regs = s.regs := rfl
@[simp] theorem modGather_wide (f : GatherState → GatherState) (s : State) : (modGather f s).wide = s.wide := rfl
@[simp] theorem modGather_clk (f : GatherState → GatherState) (s : State) : (modGather f s).clk = s.clk := rfl
@[simp] theorem modGather_pins (f : GatherState → GatherState) (s : State) : (modGather f s).pins = s.pins := rfl
@[simp] theorem modGather_stations (f : GatherState → GatherState) (s : State) : (modGather f s).stations = s.stations := rfl
@[simp] theorem modGather_spine (f : GatherState → GatherState) (s : State) : (modGather f s).spine = s.spine := rfl
@[simp] theorem modGather_slot (f : GatherState → GatherState) (s : State) : (modGather f s).slot = s.slot := rfl
@[simp] theorem modGather_shear (f : GatherState → GatherState) (s : State) : (modGather f s).shear = s.shear := rfl
@[simp] theorem modGather_cullet (f : GatherState → GatherState) (s : State) : (modGather f s).cullet = s.cullet := rfl
@[simp] theorem modGather_ctr (f : GatherState → GatherState) (s : State) : (modGather f s).ctr = s.ctr := rfl
@[simp] theorem modGather_trace (f : GatherState → GatherState) (s : State) : (modGather f s).trace = s.trace := rfl
@[simp] theorem modGather_stria (f : GatherState → GatherState) (s : State) : (modGather f s).stria = s.stria := rfl
@[simp] theorem modGather_dl (f : GatherState → GatherState) (s : State) : (modGather f s).dl = s.dl := rfl
@[simp] theorem modGather_lehr (f : GatherState → GatherState) (s : State) : (modGather f s).lehr = s.lehr := rfl
@[simp] theorem modGather_ladder (f : GatherState → GatherState) (s : State) : (modGather f s).ladder = s.ladder := rfl
@[simp] theorem modGather_notice (f : GatherState → GatherState) (s : State) : (modGather f s).notice = s.notice := rfl
@[simp] theorem modGather_rings (f : GatherState → GatherState) (s : State) : (modGather f s).rings = s.rings := rfl
@[simp] theorem modGather_bus (f : GatherState → GatherState) (s : State) : (modGather f s).bus = s.bus := rfl
@[simp] theorem modGather_job (f : GatherState → GatherState) (s : State) : (modGather f s).job = s.job := rfl
@[simp] theorem modGather_gather (f : GatherState → GatherState) (s : State) : (modGather f s).gather = f s.gather := rfl
@[simp] theorem modGather_mbx (f : GatherState → GatherState) (s : State) : (modGather f s).mbx = s.mbx := rfl
@[simp] theorem modGather_cont (f : GatherState → GatherState) (s : State) : (modGather f s).cont = s.cont := rfl
@[simp] theorem modGather_otp (f : GatherState → GatherState) (s : State) : (modGather f s).otp = s.otp := rfl
@[simp] theorem modGather_gaf (f : GatherState → GatherState) (s : State) : (modGather f s).gaf = s.gaf := rfl
@[simp] theorem modGather_rolsal (f : GatherState → GatherState) (s : State) : (modGather f s).rolsal = s.rolsal := rfl
@[simp] theorem modGather_fresh (f : GatherState → GatherState) (s : State) : (modGather f s).fresh = s.fresh := rfl

@[simp] theorem State.wr_pending (s : State) (a : Nat) (v : Word) : (s.wr a v).pending = s.pending := rfl
@[simp] theorem State.wr_wide (s : State) (a : Nat) (v : Word) : (s.wr a v).wide = s.wide := rfl
@[simp] theorem State.wr_clk (s : State) (a : Nat) (v : Word) : (s.wr a v).clk = s.clk := rfl
@[simp] theorem State.wr_pins (s : State) (a : Nat) (v : Word) : (s.wr a v).pins = s.pins := rfl
@[simp] theorem State.wr_stations (s : State) (a : Nat) (v : Word) : (s.wr a v).stations = s.stations := rfl
@[simp] theorem State.wr_spine (s : State) (a : Nat) (v : Word) : (s.wr a v).spine = s.spine := rfl
@[simp] theorem State.wr_slot (s : State) (a : Nat) (v : Word) : (s.wr a v).slot = s.slot := rfl
@[simp] theorem State.wr_shear (s : State) (a : Nat) (v : Word) : (s.wr a v).shear = s.shear := rfl
@[simp] theorem State.wr_cullet (s : State) (a : Nat) (v : Word) : (s.wr a v).cullet = s.cullet := rfl
@[simp] theorem State.wr_ctr (s : State) (a : Nat) (v : Word) : (s.wr a v).ctr = s.ctr := rfl
@[simp] theorem State.wr_trace (s : State) (a : Nat) (v : Word) : (s.wr a v).trace = s.trace := rfl
@[simp] theorem State.wr_stria (s : State) (a : Nat) (v : Word) : (s.wr a v).stria = s.stria := rfl
@[simp] theorem State.wr_dl (s : State) (a : Nat) (v : Word) : (s.wr a v).dl = s.dl := rfl
@[simp] theorem State.wr_lehr (s : State) (a : Nat) (v : Word) : (s.wr a v).lehr = s.lehr := rfl
@[simp] theorem State.wr_ladder (s : State) (a : Nat) (v : Word) : (s.wr a v).ladder = s.ladder := rfl
@[simp] theorem State.wr_notice (s : State) (a : Nat) (v : Word) : (s.wr a v).notice = s.notice := rfl
@[simp] theorem State.wr_rings (s : State) (a : Nat) (v : Word) : (s.wr a v).rings = s.rings := rfl
@[simp] theorem State.wr_bus (s : State) (a : Nat) (v : Word) : (s.wr a v).bus = s.bus := rfl
@[simp] theorem State.wr_job (s : State) (a : Nat) (v : Word) : (s.wr a v).job = s.job := rfl
@[simp] theorem State.wr_gather (s : State) (a : Nat) (v : Word) : (s.wr a v).gather = s.gather := rfl
@[simp] theorem State.wr_mbx (s : State) (a : Nat) (v : Word) : (s.wr a v).mbx = s.mbx := rfl
@[simp] theorem State.wr_cont (s : State) (a : Nat) (v : Word) : (s.wr a v).cont = s.cont := rfl
@[simp] theorem State.wr_otp (s : State) (a : Nat) (v : Word) : (s.wr a v).otp = s.otp := rfl
@[simp] theorem State.wr_gaf (s : State) (a : Nat) (v : Word) : (s.wr a v).gaf = s.gaf := rfl
@[simp] theorem State.wr_rolsal (s : State) (a : Nat) (v : Word) : (s.wr a v).rolsal = s.rolsal := rfl
@[simp] theorem State.wr_fresh (s : State) (a : Nat) (v : Word) : (s.wr a v).fresh = s.fresh := rfl

@[simp] theorem State.fs_pending (s : State) (f : Fld) (n : Nat) : (s.fs f n).pending = s.pending := rfl
@[simp] theorem State.fs_wide (s : State) (f : Fld) (n : Nat) : (s.fs f n).wide = s.wide := rfl
@[simp] theorem State.fs_clk (s : State) (f : Fld) (n : Nat) : (s.fs f n).clk = s.clk := rfl
@[simp] theorem State.fs_pins (s : State) (f : Fld) (n : Nat) : (s.fs f n).pins = s.pins := rfl
@[simp] theorem State.fs_stations (s : State) (f : Fld) (n : Nat) : (s.fs f n).stations = s.stations := rfl
@[simp] theorem State.fs_spine (s : State) (f : Fld) (n : Nat) : (s.fs f n).spine = s.spine := rfl
@[simp] theorem State.fs_slot (s : State) (f : Fld) (n : Nat) : (s.fs f n).slot = s.slot := rfl
@[simp] theorem State.fs_shear (s : State) (f : Fld) (n : Nat) : (s.fs f n).shear = s.shear := rfl
@[simp] theorem State.fs_cullet (s : State) (f : Fld) (n : Nat) : (s.fs f n).cullet = s.cullet := rfl
@[simp] theorem State.fs_ctr (s : State) (f : Fld) (n : Nat) : (s.fs f n).ctr = s.ctr := rfl
@[simp] theorem State.fs_trace (s : State) (f : Fld) (n : Nat) : (s.fs f n).trace = s.trace := rfl
@[simp] theorem State.fs_stria (s : State) (f : Fld) (n : Nat) : (s.fs f n).stria = s.stria := rfl
@[simp] theorem State.fs_dl (s : State) (f : Fld) (n : Nat) : (s.fs f n).dl = s.dl := rfl
@[simp] theorem State.fs_lehr (s : State) (f : Fld) (n : Nat) : (s.fs f n).lehr = s.lehr := rfl
@[simp] theorem State.fs_ladder (s : State) (f : Fld) (n : Nat) : (s.fs f n).ladder = s.ladder := rfl
@[simp] theorem State.fs_notice (s : State) (f : Fld) (n : Nat) : (s.fs f n).notice = s.notice := rfl
@[simp] theorem State.fs_rings (s : State) (f : Fld) (n : Nat) : (s.fs f n).rings = s.rings := rfl
@[simp] theorem State.fs_bus (s : State) (f : Fld) (n : Nat) : (s.fs f n).bus = s.bus := rfl
@[simp] theorem State.fs_job (s : State) (f : Fld) (n : Nat) : (s.fs f n).job = s.job := rfl
@[simp] theorem State.fs_gather (s : State) (f : Fld) (n : Nat) : (s.fs f n).gather = s.gather := rfl
@[simp] theorem State.fs_mbx (s : State) (f : Fld) (n : Nat) : (s.fs f n).mbx = s.mbx := rfl
@[simp] theorem State.fs_cont (s : State) (f : Fld) (n : Nat) : (s.fs f n).cont = s.cont := rfl
@[simp] theorem State.fs_otp (s : State) (f : Fld) (n : Nat) : (s.fs f n).otp = s.otp := rfl
@[simp] theorem State.fs_gaf (s : State) (f : Fld) (n : Nat) : (s.fs f n).gaf = s.gaf := rfl
@[simp] theorem State.fs_rolsal (s : State) (f : Fld) (n : Nat) : (s.fs f n).rolsal = s.rolsal := rfl
@[simp] theorem State.fs_fresh (s : State) (f : Fld) (n : Nat) : (s.fs f n).fresh = s.fresh := rfl

@[simp] theorem State.wrN_pending (s : State) (a n : Nat) : (s.wrN a n).pending = s.pending := rfl
@[simp] theorem State.wrN_wide (s : State) (a n : Nat) : (s.wrN a n).wide = s.wide := rfl
@[simp] theorem State.wrN_clk (s : State) (a n : Nat) : (s.wrN a n).clk = s.clk := rfl
@[simp] theorem State.wrN_pins (s : State) (a n : Nat) : (s.wrN a n).pins = s.pins := rfl
@[simp] theorem State.wrN_stations (s : State) (a n : Nat) : (s.wrN a n).stations = s.stations := rfl
@[simp] theorem State.wrN_spine (s : State) (a n : Nat) : (s.wrN a n).spine = s.spine := rfl
@[simp] theorem State.wrN_slot (s : State) (a n : Nat) : (s.wrN a n).slot = s.slot := rfl
@[simp] theorem State.wrN_shear (s : State) (a n : Nat) : (s.wrN a n).shear = s.shear := rfl
@[simp] theorem State.wrN_cullet (s : State) (a n : Nat) : (s.wrN a n).cullet = s.cullet := rfl
@[simp] theorem State.wrN_ctr (s : State) (a n : Nat) : (s.wrN a n).ctr = s.ctr := rfl
@[simp] theorem State.wrN_trace (s : State) (a n : Nat) : (s.wrN a n).trace = s.trace := rfl
@[simp] theorem State.wrN_stria (s : State) (a n : Nat) : (s.wrN a n).stria = s.stria := rfl
@[simp] theorem State.wrN_dl (s : State) (a n : Nat) : (s.wrN a n).dl = s.dl := rfl
@[simp] theorem State.wrN_lehr (s : State) (a n : Nat) : (s.wrN a n).lehr = s.lehr := rfl
@[simp] theorem State.wrN_ladder (s : State) (a n : Nat) : (s.wrN a n).ladder = s.ladder := rfl
@[simp] theorem State.wrN_notice (s : State) (a n : Nat) : (s.wrN a n).notice = s.notice := rfl
@[simp] theorem State.wrN_rings (s : State) (a n : Nat) : (s.wrN a n).rings = s.rings := rfl
@[simp] theorem State.wrN_bus (s : State) (a n : Nat) : (s.wrN a n).bus = s.bus := rfl
@[simp] theorem State.wrN_job (s : State) (a n : Nat) : (s.wrN a n).job = s.job := rfl
@[simp] theorem State.wrN_gather (s : State) (a n : Nat) : (s.wrN a n).gather = s.gather := rfl
@[simp] theorem State.wrN_mbx (s : State) (a n : Nat) : (s.wrN a n).mbx = s.mbx := rfl
@[simp] theorem State.wrN_cont (s : State) (a n : Nat) : (s.wrN a n).cont = s.cont := rfl
@[simp] theorem State.wrN_otp (s : State) (a n : Nat) : (s.wrN a n).otp = s.otp := rfl
@[simp] theorem State.wrN_gaf (s : State) (a n : Nat) : (s.wrN a n).gaf = s.gaf := rfl
@[simp] theorem State.wrN_rolsal (s : State) (a n : Nat) : (s.wrN a n).rolsal = s.rolsal := rfl
@[simp] theorem State.wrN_fresh (s : State) (a n : Nat) : (s.wrN a n).fresh = s.fresh := rfl

@[simp] theorem State.fsat_pending (s : State) (f : Fld) (d : Nat) : (s.fsat f d).pending = s.pending := rfl
@[simp] theorem State.fsat_wide (s : State) (f : Fld) (d : Nat) : (s.fsat f d).wide = s.wide := rfl
@[simp] theorem State.fsat_clk (s : State) (f : Fld) (d : Nat) : (s.fsat f d).clk = s.clk := rfl
@[simp] theorem State.fsat_pins (s : State) (f : Fld) (d : Nat) : (s.fsat f d).pins = s.pins := rfl
@[simp] theorem State.fsat_stations (s : State) (f : Fld) (d : Nat) : (s.fsat f d).stations = s.stations := rfl
@[simp] theorem State.fsat_spine (s : State) (f : Fld) (d : Nat) : (s.fsat f d).spine = s.spine := rfl
@[simp] theorem State.fsat_slot (s : State) (f : Fld) (d : Nat) : (s.fsat f d).slot = s.slot := rfl
@[simp] theorem State.fsat_shear (s : State) (f : Fld) (d : Nat) : (s.fsat f d).shear = s.shear := rfl
@[simp] theorem State.fsat_cullet (s : State) (f : Fld) (d : Nat) : (s.fsat f d).cullet = s.cullet := rfl
@[simp] theorem State.fsat_ctr (s : State) (f : Fld) (d : Nat) : (s.fsat f d).ctr = s.ctr := rfl
@[simp] theorem State.fsat_trace (s : State) (f : Fld) (d : Nat) : (s.fsat f d).trace = s.trace := rfl
@[simp] theorem State.fsat_stria (s : State) (f : Fld) (d : Nat) : (s.fsat f d).stria = s.stria := rfl
@[simp] theorem State.fsat_dl (s : State) (f : Fld) (d : Nat) : (s.fsat f d).dl = s.dl := rfl
@[simp] theorem State.fsat_lehr (s : State) (f : Fld) (d : Nat) : (s.fsat f d).lehr = s.lehr := rfl
@[simp] theorem State.fsat_ladder (s : State) (f : Fld) (d : Nat) : (s.fsat f d).ladder = s.ladder := rfl
@[simp] theorem State.fsat_notice (s : State) (f : Fld) (d : Nat) : (s.fsat f d).notice = s.notice := rfl
@[simp] theorem State.fsat_rings (s : State) (f : Fld) (d : Nat) : (s.fsat f d).rings = s.rings := rfl
@[simp] theorem State.fsat_bus (s : State) (f : Fld) (d : Nat) : (s.fsat f d).bus = s.bus := rfl
@[simp] theorem State.fsat_job (s : State) (f : Fld) (d : Nat) : (s.fsat f d).job = s.job := rfl
@[simp] theorem State.fsat_gather (s : State) (f : Fld) (d : Nat) : (s.fsat f d).gather = s.gather := rfl
@[simp] theorem State.fsat_mbx (s : State) (f : Fld) (d : Nat) : (s.fsat f d).mbx = s.mbx := rfl
@[simp] theorem State.fsat_cont (s : State) (f : Fld) (d : Nat) : (s.fsat f d).cont = s.cont := rfl
@[simp] theorem State.fsat_otp (s : State) (f : Fld) (d : Nat) : (s.fsat f d).otp = s.otp := rfl
@[simp] theorem State.fsat_gaf (s : State) (f : Fld) (d : Nat) : (s.fsat f d).gaf = s.gaf := rfl
@[simp] theorem State.fsat_rolsal (s : State) (f : Fld) (d : Nat) : (s.fsat f d).rolsal = s.rolsal := rfl
@[simp] theorem State.fsat_fresh (s : State) (f : Fld) (d : Nat) : (s.fsat f d).fresh = s.fresh := rfl

@[simp] theorem State.wr64_pending (s : State) (lo hi v : Nat) : (s.wr64 lo hi v).pending = s.pending := rfl
@[simp] theorem State.wr64_wide (s : State) (lo hi v : Nat) : (s.wr64 lo hi v).wide = s.wide := rfl
@[simp] theorem State.wr64_clk (s : State) (lo hi v : Nat) : (s.wr64 lo hi v).clk = s.clk := rfl
@[simp] theorem State.wr64_pins (s : State) (lo hi v : Nat) : (s.wr64 lo hi v).pins = s.pins := rfl
@[simp] theorem State.wr64_stations (s : State) (lo hi v : Nat) : (s.wr64 lo hi v).stations = s.stations := rfl
@[simp] theorem State.wr64_spine (s : State) (lo hi v : Nat) : (s.wr64 lo hi v).spine = s.spine := rfl
@[simp] theorem State.wr64_slot (s : State) (lo hi v : Nat) : (s.wr64 lo hi v).slot = s.slot := rfl
@[simp] theorem State.wr64_shear (s : State) (lo hi v : Nat) : (s.wr64 lo hi v).shear = s.shear := rfl
@[simp] theorem State.wr64_cullet (s : State) (lo hi v : Nat) : (s.wr64 lo hi v).cullet = s.cullet := rfl
@[simp] theorem State.wr64_ctr (s : State) (lo hi v : Nat) : (s.wr64 lo hi v).ctr = s.ctr := rfl
@[simp] theorem State.wr64_trace (s : State) (lo hi v : Nat) : (s.wr64 lo hi v).trace = s.trace := rfl
@[simp] theorem State.wr64_stria (s : State) (lo hi v : Nat) : (s.wr64 lo hi v).stria = s.stria := rfl
@[simp] theorem State.wr64_dl (s : State) (lo hi v : Nat) : (s.wr64 lo hi v).dl = s.dl := rfl
@[simp] theorem State.wr64_lehr (s : State) (lo hi v : Nat) : (s.wr64 lo hi v).lehr = s.lehr := rfl
@[simp] theorem State.wr64_ladder (s : State) (lo hi v : Nat) : (s.wr64 lo hi v).ladder = s.ladder := rfl
@[simp] theorem State.wr64_notice (s : State) (lo hi v : Nat) : (s.wr64 lo hi v).notice = s.notice := rfl
@[simp] theorem State.wr64_rings (s : State) (lo hi v : Nat) : (s.wr64 lo hi v).rings = s.rings := rfl
@[simp] theorem State.wr64_bus (s : State) (lo hi v : Nat) : (s.wr64 lo hi v).bus = s.bus := rfl
@[simp] theorem State.wr64_job (s : State) (lo hi v : Nat) : (s.wr64 lo hi v).job = s.job := rfl
@[simp] theorem State.wr64_gather (s : State) (lo hi v : Nat) : (s.wr64 lo hi v).gather = s.gather := rfl
@[simp] theorem State.wr64_mbx (s : State) (lo hi v : Nat) : (s.wr64 lo hi v).mbx = s.mbx := rfl
@[simp] theorem State.wr64_cont (s : State) (lo hi v : Nat) : (s.wr64 lo hi v).cont = s.cont := rfl
@[simp] theorem State.wr64_otp (s : State) (lo hi v : Nat) : (s.wr64 lo hi v).otp = s.otp := rfl
@[simp] theorem State.wr64_gaf (s : State) (lo hi v : Nat) : (s.wr64 lo hi v).gaf = s.gaf := rfl
@[simp] theorem State.wr64_rolsal (s : State) (lo hi v : Nat) : (s.wr64 lo hi v).rolsal = s.rolsal := rfl
@[simp] theorem State.wr64_fresh (s : State) (lo hi v : Nat) : (s.wr64 lo hi v).fresh = s.fresh := rfl

@[simp] theorem setStn_pending (n : Nat) (x : Station) (s : State) : (setStn n x s).pending = s.pending := rfl
@[simp] theorem setStn_regs (n : Nat) (x : Station) (s : State) : (setStn n x s).regs = s.regs := rfl
@[simp] theorem setStn_wide (n : Nat) (x : Station) (s : State) : (setStn n x s).wide = s.wide := rfl
@[simp] theorem setStn_clk (n : Nat) (x : Station) (s : State) : (setStn n x s).clk = s.clk := rfl
@[simp] theorem setStn_pins (n : Nat) (x : Station) (s : State) : (setStn n x s).pins = s.pins := rfl
@[simp] theorem setStn_spine (n : Nat) (x : Station) (s : State) : (setStn n x s).spine = s.spine := rfl
@[simp] theorem setStn_slot (n : Nat) (x : Station) (s : State) : (setStn n x s).slot = s.slot := rfl
@[simp] theorem setStn_shear (n : Nat) (x : Station) (s : State) : (setStn n x s).shear = s.shear := rfl
@[simp] theorem setStn_cullet (n : Nat) (x : Station) (s : State) : (setStn n x s).cullet = s.cullet := rfl
@[simp] theorem setStn_ctr (n : Nat) (x : Station) (s : State) : (setStn n x s).ctr = s.ctr := rfl
@[simp] theorem setStn_trace (n : Nat) (x : Station) (s : State) : (setStn n x s).trace = s.trace := rfl
@[simp] theorem setStn_stria (n : Nat) (x : Station) (s : State) : (setStn n x s).stria = s.stria := rfl
@[simp] theorem setStn_dl (n : Nat) (x : Station) (s : State) : (setStn n x s).dl = s.dl := rfl
@[simp] theorem setStn_lehr (n : Nat) (x : Station) (s : State) : (setStn n x s).lehr = s.lehr := rfl
@[simp] theorem setStn_ladder (n : Nat) (x : Station) (s : State) : (setStn n x s).ladder = s.ladder := rfl
@[simp] theorem setStn_notice (n : Nat) (x : Station) (s : State) : (setStn n x s).notice = s.notice := rfl
@[simp] theorem setStn_rings (n : Nat) (x : Station) (s : State) : (setStn n x s).rings = s.rings := rfl
@[simp] theorem setStn_bus (n : Nat) (x : Station) (s : State) : (setStn n x s).bus = s.bus := rfl
@[simp] theorem setStn_job (n : Nat) (x : Station) (s : State) : (setStn n x s).job = s.job := rfl
@[simp] theorem setStn_gather (n : Nat) (x : Station) (s : State) : (setStn n x s).gather = s.gather := rfl
@[simp] theorem setStn_mbx (n : Nat) (x : Station) (s : State) : (setStn n x s).mbx = s.mbx := rfl
@[simp] theorem setStn_cont (n : Nat) (x : Station) (s : State) : (setStn n x s).cont = s.cont := rfl
@[simp] theorem setStn_otp (n : Nat) (x : Station) (s : State) : (setStn n x s).otp = s.otp := rfl
@[simp] theorem setStn_gaf (n : Nat) (x : Station) (s : State) : (setStn n x s).gaf = s.gaf := rfl
@[simp] theorem setStn_rolsal (n : Nat) (x : Station) (s : State) : (setStn n x s).rolsal = s.rolsal := rfl
@[simp] theorem setStn_fresh (n : Nat) (x : Station) (s : State) : (setStn n x s).fresh = s.fresh := rfl

@[simp] theorem modStn_pending (n : Nat) (f : Station → Station) (s : State) : (modStn n f s).pending = s.pending := rfl
@[simp] theorem modStn_regs (n : Nat) (f : Station → Station) (s : State) : (modStn n f s).regs = s.regs := rfl
@[simp] theorem modStn_wide (n : Nat) (f : Station → Station) (s : State) : (modStn n f s).wide = s.wide := rfl
@[simp] theorem modStn_clk (n : Nat) (f : Station → Station) (s : State) : (modStn n f s).clk = s.clk := rfl
@[simp] theorem modStn_pins (n : Nat) (f : Station → Station) (s : State) : (modStn n f s).pins = s.pins := rfl
@[simp] theorem modStn_spine (n : Nat) (f : Station → Station) (s : State) : (modStn n f s).spine = s.spine := rfl
@[simp] theorem modStn_slot (n : Nat) (f : Station → Station) (s : State) : (modStn n f s).slot = s.slot := rfl
@[simp] theorem modStn_shear (n : Nat) (f : Station → Station) (s : State) : (modStn n f s).shear = s.shear := rfl
@[simp] theorem modStn_cullet (n : Nat) (f : Station → Station) (s : State) : (modStn n f s).cullet = s.cullet := rfl
@[simp] theorem modStn_ctr (n : Nat) (f : Station → Station) (s : State) : (modStn n f s).ctr = s.ctr := rfl
@[simp] theorem modStn_trace (n : Nat) (f : Station → Station) (s : State) : (modStn n f s).trace = s.trace := rfl
@[simp] theorem modStn_stria (n : Nat) (f : Station → Station) (s : State) : (modStn n f s).stria = s.stria := rfl
@[simp] theorem modStn_dl (n : Nat) (f : Station → Station) (s : State) : (modStn n f s).dl = s.dl := rfl
@[simp] theorem modStn_lehr (n : Nat) (f : Station → Station) (s : State) : (modStn n f s).lehr = s.lehr := rfl
@[simp] theorem modStn_ladder (n : Nat) (f : Station → Station) (s : State) : (modStn n f s).ladder = s.ladder := rfl
@[simp] theorem modStn_notice (n : Nat) (f : Station → Station) (s : State) : (modStn n f s).notice = s.notice := rfl
@[simp] theorem modStn_rings (n : Nat) (f : Station → Station) (s : State) : (modStn n f s).rings = s.rings := rfl
@[simp] theorem modStn_bus (n : Nat) (f : Station → Station) (s : State) : (modStn n f s).bus = s.bus := rfl
@[simp] theorem modStn_job (n : Nat) (f : Station → Station) (s : State) : (modStn n f s).job = s.job := rfl
@[simp] theorem modStn_gather (n : Nat) (f : Station → Station) (s : State) : (modStn n f s).gather = s.gather := rfl
@[simp] theorem modStn_mbx (n : Nat) (f : Station → Station) (s : State) : (modStn n f s).mbx = s.mbx := rfl
@[simp] theorem modStn_cont (n : Nat) (f : Station → Station) (s : State) : (modStn n f s).cont = s.cont := rfl
@[simp] theorem modStn_otp (n : Nat) (f : Station → Station) (s : State) : (modStn n f s).otp = s.otp := rfl
@[simp] theorem modStn_gaf (n : Nat) (f : Station → Station) (s : State) : (modStn n f s).gaf = s.gaf := rfl
@[simp] theorem modStn_rolsal (n : Nat) (f : Station → Station) (s : State) : (modStn n f s).rolsal = s.rolsal := rfl
@[simp] theorem modStn_fresh (n : Nat) (f : Station → Station) (s : State) : (modStn n f s).fresh = s.fresh := rfl

@[simp] theorem setPort_pending (u : Nat) (p : Port) (s : State) : (setPort u p s).pending = s.pending := rfl
@[simp] theorem setPort_regs (u : Nat) (p : Port) (s : State) : (setPort u p s).regs = s.regs := rfl
@[simp] theorem setPort_wide (u : Nat) (p : Port) (s : State) : (setPort u p s).wide = s.wide := rfl
@[simp] theorem setPort_clk (u : Nat) (p : Port) (s : State) : (setPort u p s).clk = s.clk := rfl
@[simp] theorem setPort_pins (u : Nat) (p : Port) (s : State) : (setPort u p s).pins = s.pins := rfl
@[simp] theorem setPort_spine (u : Nat) (p : Port) (s : State) : (setPort u p s).spine = s.spine := rfl
@[simp] theorem setPort_slot (u : Nat) (p : Port) (s : State) : (setPort u p s).slot = s.slot := rfl
@[simp] theorem setPort_shear (u : Nat) (p : Port) (s : State) : (setPort u p s).shear = s.shear := rfl
@[simp] theorem setPort_cullet (u : Nat) (p : Port) (s : State) : (setPort u p s).cullet = s.cullet := rfl
@[simp] theorem setPort_ctr (u : Nat) (p : Port) (s : State) : (setPort u p s).ctr = s.ctr := rfl
@[simp] theorem setPort_trace (u : Nat) (p : Port) (s : State) : (setPort u p s).trace = s.trace := rfl
@[simp] theorem setPort_stria (u : Nat) (p : Port) (s : State) : (setPort u p s).stria = s.stria := rfl
@[simp] theorem setPort_dl (u : Nat) (p : Port) (s : State) : (setPort u p s).dl = s.dl := rfl
@[simp] theorem setPort_lehr (u : Nat) (p : Port) (s : State) : (setPort u p s).lehr = s.lehr := rfl
@[simp] theorem setPort_ladder (u : Nat) (p : Port) (s : State) : (setPort u p s).ladder = s.ladder := rfl
@[simp] theorem setPort_notice (u : Nat) (p : Port) (s : State) : (setPort u p s).notice = s.notice := rfl
@[simp] theorem setPort_rings (u : Nat) (p : Port) (s : State) : (setPort u p s).rings = s.rings := rfl
@[simp] theorem setPort_bus (u : Nat) (p : Port) (s : State) : (setPort u p s).bus = s.bus := rfl
@[simp] theorem setPort_job (u : Nat) (p : Port) (s : State) : (setPort u p s).job = s.job := rfl
@[simp] theorem setPort_gather (u : Nat) (p : Port) (s : State) : (setPort u p s).gather = s.gather := rfl
@[simp] theorem setPort_mbx (u : Nat) (p : Port) (s : State) : (setPort u p s).mbx = s.mbx := rfl
@[simp] theorem setPort_cont (u : Nat) (p : Port) (s : State) : (setPort u p s).cont = s.cont := rfl
@[simp] theorem setPort_otp (u : Nat) (p : Port) (s : State) : (setPort u p s).otp = s.otp := rfl
@[simp] theorem setPort_gaf (u : Nat) (p : Port) (s : State) : (setPort u p s).gaf = s.gaf := rfl
@[simp] theorem setPort_rolsal (u : Nat) (p : Port) (s : State) : (setPort u p s).rolsal = s.rolsal := rfl
@[simp] theorem setPort_fresh (u : Nat) (p : Port) (s : State) : (setPort u p s).fresh = s.fresh := rfl

@[simp] theorem modPort_pending (u : Nat) (f : Port → Port) (s : State) : (modPort u f s).pending = s.pending := rfl
@[simp] theorem modPort_regs (u : Nat) (f : Port → Port) (s : State) : (modPort u f s).regs = s.regs := rfl
@[simp] theorem modPort_wide (u : Nat) (f : Port → Port) (s : State) : (modPort u f s).wide = s.wide := rfl
@[simp] theorem modPort_clk (u : Nat) (f : Port → Port) (s : State) : (modPort u f s).clk = s.clk := rfl
@[simp] theorem modPort_pins (u : Nat) (f : Port → Port) (s : State) : (modPort u f s).pins = s.pins := rfl
@[simp] theorem modPort_spine (u : Nat) (f : Port → Port) (s : State) : (modPort u f s).spine = s.spine := rfl
@[simp] theorem modPort_slot (u : Nat) (f : Port → Port) (s : State) : (modPort u f s).slot = s.slot := rfl
@[simp] theorem modPort_shear (u : Nat) (f : Port → Port) (s : State) : (modPort u f s).shear = s.shear := rfl
@[simp] theorem modPort_cullet (u : Nat) (f : Port → Port) (s : State) : (modPort u f s).cullet = s.cullet := rfl
@[simp] theorem modPort_ctr (u : Nat) (f : Port → Port) (s : State) : (modPort u f s).ctr = s.ctr := rfl
@[simp] theorem modPort_trace (u : Nat) (f : Port → Port) (s : State) : (modPort u f s).trace = s.trace := rfl
@[simp] theorem modPort_stria (u : Nat) (f : Port → Port) (s : State) : (modPort u f s).stria = s.stria := rfl
@[simp] theorem modPort_dl (u : Nat) (f : Port → Port) (s : State) : (modPort u f s).dl = s.dl := rfl
@[simp] theorem modPort_lehr (u : Nat) (f : Port → Port) (s : State) : (modPort u f s).lehr = s.lehr := rfl
@[simp] theorem modPort_ladder (u : Nat) (f : Port → Port) (s : State) : (modPort u f s).ladder = s.ladder := rfl
@[simp] theorem modPort_notice (u : Nat) (f : Port → Port) (s : State) : (modPort u f s).notice = s.notice := rfl
@[simp] theorem modPort_rings (u : Nat) (f : Port → Port) (s : State) : (modPort u f s).rings = s.rings := rfl
@[simp] theorem modPort_bus (u : Nat) (f : Port → Port) (s : State) : (modPort u f s).bus = s.bus := rfl
@[simp] theorem modPort_job (u : Nat) (f : Port → Port) (s : State) : (modPort u f s).job = s.job := rfl
@[simp] theorem modPort_gather (u : Nat) (f : Port → Port) (s : State) : (modPort u f s).gather = s.gather := rfl
@[simp] theorem modPort_mbx (u : Nat) (f : Port → Port) (s : State) : (modPort u f s).mbx = s.mbx := rfl
@[simp] theorem modPort_cont (u : Nat) (f : Port → Port) (s : State) : (modPort u f s).cont = s.cont := rfl
@[simp] theorem modPort_otp (u : Nat) (f : Port → Port) (s : State) : (modPort u f s).otp = s.otp := rfl
@[simp] theorem modPort_gaf (u : Nat) (f : Port → Port) (s : State) : (modPort u f s).gaf = s.gaf := rfl
@[simp] theorem modPort_rolsal (u : Nat) (f : Port → Port) (s : State) : (modPort u f s).rolsal = s.rolsal := rfl
@[simp] theorem modPort_fresh (u : Nat) (f : Port → Port) (s : State) : (modPort u f s).fresh = s.fresh := rfl

@[simp] theorem setMdir_pending (c d : Nat) (x : MbxDir) (s : State) : (setMdir c d x s).pending = s.pending := rfl
@[simp] theorem setMdir_regs (c d : Nat) (x : MbxDir) (s : State) : (setMdir c d x s).regs = s.regs := rfl
@[simp] theorem setMdir_wide (c d : Nat) (x : MbxDir) (s : State) : (setMdir c d x s).wide = s.wide := rfl
@[simp] theorem setMdir_clk (c d : Nat) (x : MbxDir) (s : State) : (setMdir c d x s).clk = s.clk := rfl
@[simp] theorem setMdir_pins (c d : Nat) (x : MbxDir) (s : State) : (setMdir c d x s).pins = s.pins := rfl
@[simp] theorem setMdir_stations (c d : Nat) (x : MbxDir) (s : State) : (setMdir c d x s).stations = s.stations := rfl
@[simp] theorem setMdir_spine (c d : Nat) (x : MbxDir) (s : State) : (setMdir c d x s).spine = s.spine := rfl
@[simp] theorem setMdir_slot (c d : Nat) (x : MbxDir) (s : State) : (setMdir c d x s).slot = s.slot := rfl
@[simp] theorem setMdir_shear (c d : Nat) (x : MbxDir) (s : State) : (setMdir c d x s).shear = s.shear := rfl
@[simp] theorem setMdir_cullet (c d : Nat) (x : MbxDir) (s : State) : (setMdir c d x s).cullet = s.cullet := rfl
@[simp] theorem setMdir_ctr (c d : Nat) (x : MbxDir) (s : State) : (setMdir c d x s).ctr = s.ctr := rfl
@[simp] theorem setMdir_trace (c d : Nat) (x : MbxDir) (s : State) : (setMdir c d x s).trace = s.trace := rfl
@[simp] theorem setMdir_stria (c d : Nat) (x : MbxDir) (s : State) : (setMdir c d x s).stria = s.stria := rfl
@[simp] theorem setMdir_dl (c d : Nat) (x : MbxDir) (s : State) : (setMdir c d x s).dl = s.dl := rfl
@[simp] theorem setMdir_lehr (c d : Nat) (x : MbxDir) (s : State) : (setMdir c d x s).lehr = s.lehr := rfl
@[simp] theorem setMdir_ladder (c d : Nat) (x : MbxDir) (s : State) : (setMdir c d x s).ladder = s.ladder := rfl
@[simp] theorem setMdir_notice (c d : Nat) (x : MbxDir) (s : State) : (setMdir c d x s).notice = s.notice := rfl
@[simp] theorem setMdir_rings (c d : Nat) (x : MbxDir) (s : State) : (setMdir c d x s).rings = s.rings := rfl
@[simp] theorem setMdir_bus (c d : Nat) (x : MbxDir) (s : State) : (setMdir c d x s).bus = s.bus := rfl
@[simp] theorem setMdir_job (c d : Nat) (x : MbxDir) (s : State) : (setMdir c d x s).job = s.job := rfl
@[simp] theorem setMdir_gather (c d : Nat) (x : MbxDir) (s : State) : (setMdir c d x s).gather = s.gather := rfl
@[simp] theorem setMdir_cont (c d : Nat) (x : MbxDir) (s : State) : (setMdir c d x s).cont = s.cont := rfl
@[simp] theorem setMdir_otp (c d : Nat) (x : MbxDir) (s : State) : (setMdir c d x s).otp = s.otp := rfl
@[simp] theorem setMdir_gaf (c d : Nat) (x : MbxDir) (s : State) : (setMdir c d x s).gaf = s.gaf := rfl
@[simp] theorem setMdir_rolsal (c d : Nat) (x : MbxDir) (s : State) : (setMdir c d x s).rolsal = s.rolsal := rfl
@[simp] theorem setMdir_fresh (c d : Nat) (x : MbxDir) (s : State) : (setMdir c d x s).fresh = s.fresh := rfl

@[simp] theorem State.free_pending (s : State) : s.free.2.pending = s.pending := rfl
@[simp] theorem State.free_regs (s : State) : s.free.2.regs = s.regs := rfl
@[simp] theorem State.free_wide (s : State) : s.free.2.wide = s.wide := rfl
@[simp] theorem State.free_clk (s : State) : s.free.2.clk = s.clk := rfl
@[simp] theorem State.free_pins (s : State) : s.free.2.pins = s.pins := rfl
@[simp] theorem State.free_stations (s : State) : s.free.2.stations = s.stations := rfl
@[simp] theorem State.free_spine (s : State) : s.free.2.spine = s.spine := rfl
@[simp] theorem State.free_slot (s : State) : s.free.2.slot = s.slot := rfl
@[simp] theorem State.free_shear (s : State) : s.free.2.shear = s.shear := rfl
@[simp] theorem State.free_cullet (s : State) : s.free.2.cullet = s.cullet := rfl
@[simp] theorem State.free_ctr (s : State) : s.free.2.ctr = s.ctr := rfl
@[simp] theorem State.free_trace (s : State) : s.free.2.trace = s.trace := rfl
@[simp] theorem State.free_stria (s : State) : s.free.2.stria = s.stria := rfl
@[simp] theorem State.free_dl (s : State) : s.free.2.dl = s.dl := rfl
@[simp] theorem State.free_lehr (s : State) : s.free.2.lehr = s.lehr := rfl
@[simp] theorem State.free_ladder (s : State) : s.free.2.ladder = s.ladder := rfl
@[simp] theorem State.free_notice (s : State) : s.free.2.notice = s.notice := rfl
@[simp] theorem State.free_rings (s : State) : s.free.2.rings = s.rings := rfl
@[simp] theorem State.free_bus (s : State) : s.free.2.bus = s.bus := rfl
@[simp] theorem State.free_job (s : State) : s.free.2.job = s.job := rfl
@[simp] theorem State.free_gather (s : State) : s.free.2.gather = s.gather := rfl
@[simp] theorem State.free_mbx (s : State) : s.free.2.mbx = s.mbx := rfl
@[simp] theorem State.free_cont (s : State) : s.free.2.cont = s.cont := rfl
@[simp] theorem State.free_otp (s : State) : s.free.2.otp = s.otp := rfl
@[simp] theorem State.free_gaf (s : State) : s.free.2.gaf = s.gaf := rfl
@[simp] theorem State.free_rolsal (s : State) : s.free.2.rolsal = s.rolsal := rfl
@[simp] theorem State.free_fresh (s : State) : s.free.2.fresh = s.fresh + 1 := rfl

end Sys2Proof.Machine
end

