-- ==== Sys2Proof/Laws/Registers.lean ====
section
/-! SUPPORT. The register file: a register read after a write of it, of another register, of one of its fields. -/

namespace Sys2Proof.Machine

theorem State.rd_wr_same (s : State) (a : Nat) (v : Word) : (s.wr a v).rd a = v := by
  unfold State.wr State.rd regPut
  by_cases h : v = regReset a
  · simp [h, mget, mget?_mdel_same]
  · simp [h, mget, mget?_mput_mdel]

theorem State.rd_wr_other (s : State) (a b : Nat) (v : Word) (h : b ≠ a) : (s.wr a v).rd b = s.rd b := by
  unfold State.wr State.rd regPut
  by_cases hv : v = regReset a
  · simp [hv, mget, mget?_mdel_other _ _ _ h]
  · simp [hv, mget, mget?_mput_other _ _ _ _ h, mget?_mdel_other _ _ _ h]

/-- Writing a register changes no other register. -/
theorem State.rd_wr (s : State) (a b : Nat) (v : Word) : (s.wr a v).rd b = if b = a then v else s.rd b := by
  by_cases h : b = a
  · simp [h, State.rd_wr_same]
  · simp [h, State.rd_wr_other]

theorem State.rd_fs_other (s : State) (f : Fld) (n b : Nat) (h : b ≠ f.addr) : (s.fs f n).rd b = s.rd b :=
  State.rd_wr_other _ _ _ _ h

theorem State.rd_wrN_same (s : State) (a n : Nat) : (s.wrN a n).rd a = BitVec.ofNat 32 n := State.rd_wr_same _ _ _

theorem State.rd_wrN_other (s : State) (a b n : Nat) (h : b ≠ a) : (s.wrN a n).rd b = s.rd b := State.rd_wr_other _ _ _ _ h

theorem State.rd_fsat_other (s : State) (f : Fld) (d b : Nat) (h : b ≠ f.addr) : (s.fsat f d).rd b = s.rd b :=
  State.rd_wr_other _ _ _ _ h

theorem State.rd_wr64_other (s : State) (lo hi v b : Nat) (h1 : b ≠ lo) (h2 : b ≠ hi) : (s.wr64 lo hi v).rd b = s.rd b := by
  unfold State.wr64
  rw [State.rd_wr_other _ _ _ _ h2, State.rd_wr_other _ _ _ _ h1]

/-- A field lies inside its register. -/
abbrev Fld.fits (f : Fld) : Prop := f.lo + f.width ≤ 32

/-- The bits of a word with a field put in. -/
theorem Fld.put_getLsb (f : Fld) (w : Word) (n i : Nat) (hi : i < 32) :
    (f.put w n).getLsbD i = if f.lo ≤ i ∧ i < f.lo + f.width then n.testBit (i - f.lo) else w.getLsbD i := by
  simp only [Fld.put, Fld.mask, BitVec.getLsbD_or, BitVec.getLsbD_and, BitVec.getLsbD_not, BitVec.getLsbD_ofNat, hi,
    decide_true, Bool.true_and, Nat.testBit_mul_two_pow, Nat.testBit_two_pow_sub_one, Nat.testBit_mod_two_pow]
  by_cases h1 : f.lo ≤ i
  · by_cases h2 : i < f.lo + f.width
    · have h3 : i - f.lo < f.width := by omega
      simp [h1, h2, h3]
    · have h3 : ¬ i - f.lo < f.width := by omega
      simp [h1, h2, h3]
  · simp [h1]

theorem bitsOf_testBit (n lo w i : Nat) : (bitsOf n lo w).testBit i = (decide (i < w) && n.testBit (lo + i)) := by
  simp [bitsOf, Nat.testBit_mod_two_pow, Nat.testBit_shiftRight]

theorem State.fg_testBit (s : State) (f : Fld) (i : Nat) :
    (s.fg f).testBit i = (decide (i < f.width) && (s.rd f.addr).getLsbD (f.lo + i)) := by
  rw [State.fg, bitsOf_testBit]; rfl

/-- A field reads back what was put into it. -/
theorem State.fg_fs_same (s : State) (f : Fld) (n : Nat) (hf : f.fits) : (s.fs f n).fg f = n % 2 ^ f.width := by
  apply Nat.eq_of_testBit_eq
  intro i
  rw [State.fg_testBit, Nat.testBit_mod_two_pow]
  by_cases h : i < f.width
  · have h' := hf
    unfold Fld.fits at h'
    have h1 : f.lo + i < 32 := by omega
    simp only [State.fs, State.rd_wr_same, Fld.put_getLsb f _ _ _ h1]
    simp [h]
  · simp [h]

/-- Putting a value into a field leaves a field of another register. -/
theorem State.fg_fs_other (s : State) (f g : Fld) (n : Nat) (h : g.addr ≠ f.addr) : (s.fs f n).fg g = s.fg g := by
  simp [State.fg, State.rd_fs_other _ _ _ _ h]

/-- Putting a value into a field leaves a field of the same register that shares no bit with it. -/
theorem State.fg_fs_disjoint (s : State) (f g : Fld) (n : Nat) (hg : g.fits)
    (h : g.lo + g.width ≤ f.lo ∨ f.lo + f.width ≤ g.lo) : (s.fs f n).fg g = s.fg g := by
  by_cases ha : g.addr = f.addr
  · apply Nat.eq_of_testBit_eq
    intro i
    rw [State.fg_testBit, State.fg_testBit]
    by_cases hi : i < g.width
    · unfold Fld.fits at hg
      have h1 : g.lo + i < 32 := by omega
      rw [ha]
      simp only [State.fs, State.rd_wr_same, Fld.put_getLsb f _ _ _ h1]
      have h2 : ¬ (f.lo ≤ g.lo + i ∧ g.lo + i < f.lo + f.width) := by omega
      simp [h2]
    · simp [hi]
  · exact State.fg_fs_other _ _ _ _ ha

theorem State.fg_wr_other (s : State) (a : Nat) (v : Word) (g : Fld) (h : g.addr ≠ a) : (s.wr a v).fg g = s.fg g := by
  simp [State.fg, State.rd_wr_other _ _ _ _ h]

/-- What an operation leaves of the register file it leaves of every field. -/
theorem State.fg_congr (s t : State) (g : Fld) (h : t.rd g.addr = s.rd g.addr) : t.fg g = s.fg g := by
  simp [State.fg, h]

theorem State.rd_congr (s t : State) (h : t.regs = s.regs) (a : Nat) : t.rd a = s.rd a := by
  simp [State.rd, h]

end Sys2Proof.Machine
end

