-- ==== Sys2Proof/Laws/Bits.lean ====
section
/-! SUPPORT. Single bits of a field: setting one, and adding to a saturating field. -/

namespace Sys2Proof.Machine

theorem bitOf_testBit (n i : Nat) : bitOf n i = n.testBit i := by
  unfold bitOf bitsOf
  rw [Nat.testBit_eq_decide_div_mod_eq, Nat.shiftRight_eq_div_pow, Nat.pow_one]
  rcases Nat.mod_two_eq_zero_or_one (n / 2 ^ i) with h | h <;> simp [h]

theorem add_two_pow_or (m i : Nat) (h : m.testBit i = false) : m + 2 ^ i = m ||| 2 ^ i := by
  have hp : 0 < 2 ^ i := Nat.two_pow_pos i
  have e : 2 ^ (i + 1) = 2 ^ i * 2 := Nat.pow_succ ..
  have hr : m % 2 ^ (i + 1) < 2 ^ i := by
    rw [Nat.testBit_eq_decide_div_mod_eq] at h
    have h0 : m / 2 ^ i % 2 = 0 := by
      rcases Nat.mod_two_eq_zero_or_one (m / 2 ^ i) with k | k
      · exact k
      · simp [k] at h
    rw [e, Nat.mod_mul, h0]
    simpa using Nat.mod_lt m hp
  have hm : m = 2 ^ (i + 1) * (m / 2 ^ (i + 1)) + m % 2 ^ (i + 1) := (Nat.div_add_mod ..).symm
  generalize m % 2 ^ (i + 1) = r at hr hm
  generalize m / 2 ^ (i + 1) = a at hm
  subst hm
  have h1 : 2 ^ (i + 1) * a + r = 2 ^ (i + 1) * a ||| r := Nat.two_pow_add_eq_or_of_lt (by omega) a
  have h2 : 2 ^ (i + 1) * a + (2 ^ i * 1 + r) = 2 ^ (i + 1) * a ||| (2 ^ i * 1 + r) := Nat.two_pow_add_eq_or_of_lt (by omega) a
  have h3 : 2 ^ i * 1 + r = 2 ^ i * 1 ||| r := Nat.two_pow_add_eq_or_of_lt hr 1
  rw [Nat.mul_one] at h2 h3
  rw [h1, ← h1, Nat.add_assoc, Nat.add_comm r, h2, h3, h1, Nat.or_assoc, Nat.or_comm r]

/-- Setting a bit sets that one. -/
theorem bitOf_setBit (n i j : Nat) (b : Bool) : bitOf (setBit n i b) j = if j = i then b else bitOf n j := by
  have key : ∀ m : Nat, m.testBit i = false → ∀ j, (m + 2 ^ i).testBit j = if j = i then true else m.testBit j := by
    intro m hm j
    rw [add_two_pow_or m i hm, Nat.testBit_or, Nat.testBit_two_pow]
    by_cases h : j = i
    · simp [h]
    · simp [h, Ne.symm h]
  unfold setBit
  simp only [bitOf_testBit]
  cases hn : n.testBit i
  · cases b
    · simp only [Bool.false_eq_true, if_false]
      split
      · next e => rw [e, hn]
      · rfl
    · simpa using key n hn j
  · cases b
    · simp only [if_true, Bool.false_eq_true, if_false]
      have hle : 2 ^ i ≤ n := Nat.ge_two_pow_of_testBit hn
      have hm : (n - 2 ^ i).testBit i = false := by
        have := Nat.testBit_two_pow_add_eq (n - 2 ^ i) i
        rw [Nat.add_sub_cancel' hle, hn] at this
        simpa using this.symm
      have := key _ hm j
      rw [Nat.sub_add_cancel hle] at this
      rw [this]
      split
      · next e => rw [e, hm]
      · rfl
    · simp only [if_true]
      split
      · next e => rw [e, hn]
      · rfl

theorem setBit_lt (n i w : Nat) (b : Bool) (hn : n < 2 ^ w) (hi : i < w) : setBit n i b < 2 ^ w := by
  apply Nat.lt_pow_two_of_testBit
  intro j hj
  rw [← bitOf_testBit, bitOf_setBit, if_neg (by omega), bitOf_testBit]
  exact Nat.testBit_lt_two_pow (Nat.lt_of_lt_of_le hn (Nat.pow_le_pow_right (by decide) hj))

theorem State.fg_lt (s : State) (f : Fld) : s.fg f < 2 ^ f.width := Nat.mod_lt _ (Nat.two_pow_pos _)

theorem satAdd_lt (w n d : Nat) : satAdd w n d < 2 ^ w := by
  unfold satAdd
  have := Nat.two_pow_pos w
  omega

theorem State.fg_fsat_same (s : State) (f : Fld) (d : Nat) (hf : f.fits) : (s.fsat f d).fg f = satAdd f.width (s.fg f) d := by
  unfold State.fsat
  rw [State.fg_fs_same _ _ _ hf]
  exact Nat.mod_eq_of_lt (satAdd_lt _ _ _)

end Sys2Proof.Machine
end

