-- ==== Sys2Proof/Laws/Memory.lean ====
section
/-! SUPPORT. The addressed buffers: every store keeps the canonical form, a byte reads back, the other bytes stay. -/

namespace Sys2Proof.Machine

theorem risesAbove_cons (lo k : Nat) (v : BitVec 8) (m : Mem) :
    Memory.risesAbove lo ((k, v) :: m) = true ↔ lo ≤ k ∧ ¬ v = 0 ∧ Memory.risesAbove (k + 1) m = true := by
  simp [Memory.risesAbove, and_assoc]

theorem risesAbove_mono (lo hi : Nat) (m : Mem) (h : Memory.risesAbove hi m = true) (hl : lo ≤ hi) :
    Memory.risesAbove lo m = true := by
  cases m with
  | nil => rfl
  | cons p m =>
    obtain ⟨k, v⟩ := p
    rw [risesAbove_cons] at h ⊢
    exact ⟨by omega, h.2⟩

theorem memPut_rises (m : Mem) (lo a : Nat) (b : BitVec 8) (h : Memory.risesAbove lo m = true) (hl : lo ≤ a) :
    Memory.risesAbove lo (memPut m a b) = true := by
  induction m generalizing lo with
  | nil =>
    unfold memPut
    by_cases hb : b = 0
    · rw [if_pos hb]; rfl
    · rw [if_neg hb, risesAbove_cons]; exact ⟨hl, hb, rfl⟩
  | cons p m ih =>
    obtain ⟨k, v⟩ := p
    have h' := h
    rw [risesAbove_cons] at h'
    obtain ⟨h1, h2, h3⟩ := h'
    unfold memPut
    by_cases hak : a < k
    · rw [if_pos hak]
      by_cases hb : b = 0
      · rw [if_pos hb]; exact h
      · rw [if_neg hb, risesAbove_cons, risesAbove_cons]
        exact ⟨hl, hb, by omega, h2, h3⟩
    · rw [if_neg hak]
      by_cases he : a = k
      · rw [if_pos he]
        by_cases hb : b = 0
        · rw [if_pos hb]; exact risesAbove_mono lo (k + 1) m h3 (by omega)
        · rw [if_neg hb, risesAbove_cons, he]; exact ⟨by omega, hb, h3⟩
      · rw [if_neg he, risesAbove_cons]
        exact ⟨h1, h2, ih (k + 1) h3 (by omega)⟩

/-- Storing a byte keeps the canonical form. -/
theorem memPut_wf (m : Mem) (a : Nat) (b : BitVec 8) (h : Memory.wf m = true) : Memory.wf (memPut m a b) = true :=
  memPut_rises m 0 a b h (Nat.zero_le a)

/-- Storing bytes keeps the canonical form. -/
theorem memPutBytes_wf (m : Mem) (a : Nat) (bs : List Nat) (h : Memory.wf m = true) : Memory.wf (memPutBytes m a bs) = true := by
  induction bs generalizing m a with
  | nil => exact h
  | cons b bs ih => exact ih _ _ (memPut_wf m a _ h)

/-- Storing bytes round the end of the ring keeps the canonical form. -/
theorem ringPut_wf (cap pos : Nat) (bs : List Nat) (m : Mem) (h : Memory.wf m = true) : Memory.wf (ringPut cap pos bs m) = true := by
  unfold ringPut
  by_cases hc : cap = 0
  · rw [if_pos hc]; exact h
  · rw [if_neg hc]
    exact memPutBytes_wf _ _ _ (memPutBytes_wf _ _ _ h)

theorem memGet_cons (k c : Nat) (v : BitVec 8) (m : Mem) : memGet ((k, v) :: m) c = if k = c then v else memGet m c := rfl

theorem memGet_below (m : Mem) (lo a : Nat) (h : Memory.risesAbove lo m = true) (ha : a < lo) : memGet m a = 0 := by
  induction m generalizing lo with
  | nil => rfl
  | cons p m ih =>
    obtain ⟨k, v⟩ := p
    rw [risesAbove_cons] at h
    rw [memGet_cons, if_neg (by omega)]
    exact ih (k + 1) h.2.2 (by omega)

theorem memGet_put_rises (m : Mem) (lo a c : Nat) (b : BitVec 8) (h : Memory.risesAbove lo m = true) :
    memGet (memPut m a b) c = if c = a then b else memGet m c := by
  induction m generalizing lo with
  | nil =>
    unfold memPut
    by_cases hb : b = 0
    · rw [if_pos hb]; split
      · rw [hb]; rfl
      · rfl
    · rw [if_neg hb, memGet_cons]
      by_cases hc : c = a
      · rw [if_pos hc, if_pos hc.symm]
      · rw [if_neg hc, if_neg (Ne.symm hc)]
  | cons p m ih =>
    obtain ⟨k, v⟩ := p
    have h' := h
    rw [risesAbove_cons] at h'
    obtain ⟨h1, h2, h3⟩ := h'
    unfold memPut
    by_cases hak : a < k
    · rw [if_pos hak]
      by_cases hc : c = a
      · rw [if_pos hc, hc]
        by_cases hb : b = 0
        · rw [if_pos hb, hb, memGet_cons, if_neg (by omega)]
          exact memGet_below m (k + 1) a h3 (by omega)
        · rw [if_neg hb, memGet_cons, if_pos rfl]
      · rw [if_neg hc]
        by_cases hb : b = 0
        · rw [if_pos hb]
        · rw [if_neg hb, memGet_cons, if_neg (Ne.symm hc)]
    · rw [if_neg hak]
      by_cases he : a = k
      · rw [if_pos he]
        by_cases hc : c = a
        · rw [if_pos hc]
          by_cases hb : b = 0
          · rw [if_pos hb, hb]; exact memGet_below m (k + 1) c h3 (by omega)
          · rw [if_neg hb, memGet_cons, if_pos hc.symm]
        · have hk : ¬ k = c := by omega
          rw [if_neg hc, memGet_cons k c v m, if_neg hk]
          by_cases hb : b = 0
          · rw [if_pos hb]
          · rw [if_neg hb, memGet_cons, if_neg (Ne.symm hc)]
      · rw [if_neg he, memGet_cons, memGet_cons, ih (k + 1) h3]
        by_cases hk : k = c
        · rw [if_pos hk, if_pos hk, if_neg (by omega)]
        · rw [if_neg hk, if_neg hk]

/-- A byte stored reads back, and every other byte reads as before. -/
theorem memGet_memPut (m : Mem) (a c : Nat) (b : BitVec 8) (h : Memory.wf m = true) :
    memGet (memPut m a b) c = if c = a then b else memGet m c :=
  memGet_put_rises m 0 a c b h

/-- Bytes outside the stored ones read as before. -/
theorem memGet_memPutBytes_outside (m : Mem) (a c : Nat) (bs : List Nat) (h : Memory.wf m = true) (hc : c < a ∨ a + bs.length ≤ c) :
    memGet (memPutBytes m a bs) c = memGet m c := by
  induction bs generalizing m a with
  | nil => rfl
  | cons b bs ih =>
    have h1 : c ≠ a := by simp only [List.length_cons] at hc; omega
    rw [memPutBytes, ih _ _ (memPut_wf m a _ h) (by simp only [List.length_cons] at hc; omega), memGet_memPut m a c _ h, if_neg h1]

/-- A stored byte reads back. -/
theorem memGet_memPutBytes_inside (m : Mem) (a i : Nat) (bs : List Nat) (h : Memory.wf m = true) (hi : i < bs.length) :
    memGet (memPutBytes m a bs) (a + i) = BitVec.ofNat 8 (bs.getD i 0) := by
  induction bs generalizing m a i with
  | nil => simp at hi
  | cons b bs ih =>
    cases i with
    | zero =>
      rw [memPutBytes, memGet_memPutBytes_outside _ _ _ _ (memPut_wf m a _ h) (by omega), memGet_memPut m a _ _ h]
      simp
    | succ i =>
      have h1 := ih (memPut m a (BitVec.ofNat 8 b)) (a + 1) i (memPut_wf m a _ h) (by simpa using hi)
      rw [memPutBytes, show a + (i + 1) = a + 1 + i by omega, h1]
      simp

/-- Every buffer of the state right after reset is in canonical form. -/
theorem reset_buffersWf : State.reset.buffersWf = true := rfl

end Sys2Proof.Machine
end

