-- ==== Sys2Proof/Laws/Frame.lean ====
section
/-! SUPPORT. What an operation leaves of the state: the relation that the footprint lemmas of Frames1 to Frames4 state, and how it
goes through a fold, a choice and an outcome. -/

namespace Sys2Proof.Machine

open Host (Outcome)

/-- The first mask has no bit the second has not. -/
abbrev Sub (a b : Nat) : Prop := a &&& b = a

theorem Sub.trans {a b c : Nat} (h : Sub a b) (k : Sub b c) : Sub a c := by
  unfold Sub at *
  rw [← h, Nat.and_assoc, k]

theorem Sub.bit {b m : Nat} (h : Sub b m) (hz : b &&& m = 0) : b = 0 := h.symm.trans hz

/-- What an operation leaves of the state: every part whose bit the mask does not have, the queue, and the canonical form of the
buffers. The bits are those of the parts in the order of State. -/
structure Frame (m : Nat) (s t : State) : Prop where
  pending : t.pending = s.pending
  regs : 0x1 &&& m = 0 → t.regs = s.regs
  wide : 0x2 &&& m = 0 → t.wide = s.wide
  clk : 0x4 &&& m = 0 → t.clk = s.clk
  pins : 0x8 &&& m = 0 → t.pins = s.pins
  stations : 0x10 &&& m = 0 → t.stations = s.stations
  spine : 0x20 &&& m = 0 → t.spine = s.spine
  slot : 0x40 &&& m = 0 → t.slot = s.slot
  shear : 0x80 &&& m = 0 → t.shear = s.shear
  cullet : 0x100 &&& m = 0 → t.cullet = s.cullet
  ctr : 0x200 &&& m = 0 → t.ctr = s.ctr
  trace : 0x400 &&& m = 0 → t.trace = s.trace
  stria : 0x800 &&& m = 0 → t.stria = s.stria
  dl : 0x1000 &&& m = 0 → t.dl = s.dl
  lehr : 0x2000 &&& m = 0 → t.lehr = s.lehr
  ladder : 0x4000 &&& m = 0 → t.ladder = s.ladder
  notice : 0x8000 &&& m = 0 → t.notice = s.notice
  rings : 0x10000 &&& m = 0 → t.rings = s.rings
  bus : 0x20000 &&& m = 0 → t.bus = s.bus
  job : 0x40000 &&& m = 0 → t.job = s.job
  gather : 0x80000 &&& m = 0 → t.gather = s.gather
  mbx : 0x100000 &&& m = 0 → t.mbx = s.mbx
  cont : 0x200000 &&& m = 0 → t.cont = s.cont
  otp : 0x400000 &&& m = 0 → t.otp = s.otp
  gaf : 0x800000 &&& m = 0 → t.gaf = s.gaf
  rolsal : 0x1000000 &&& m = 0 → t.rolsal = s.rolsal
  fresh : 0x2000000 &&& m = 0 → t.fresh = s.fresh
  wf : s.buffersWf = true → t.buffersWf = true

theorem Frame.refl {m : Nat} {s : State} : Frame m s s := by
  constructor <;> intros <;> first | rfl | assumption

/-- The same, of the parts alone. -/
structure FrameC (m : Nat) (s : State) (pending0 : List Instr) (regs0 : SMap Word) (wide0 : List WideHold) (clk0 : ClockState) (pins0 : PinState) (stations0 : SMap Station) (spine0 : SpineState) (slot0 : SlotState) (shear0 : ShearState) (cullet0 : CulletState) (ctr0 : CtrState) (trace0 : TraceState) (stria0 : StriaState) (dl0 : DeadlineState) (lehr0 : LehrState) (ladder0 : LadderState) (notice0 : NoticeState) (rings0 : RingState) (bus0 : BusState) (job0 : JobState) (gather0 : GatherState) (mbx0 : MbxState) (cont0 : ContState) (otp0 : OtpState) (gaf0 : GafState) (rolsal0 : RolsalState) (fresh0 : Nat) : Prop where
  pending : pending0 = s.pending
  regs : 0x1 &&& m = 0 → regs0 = s.regs
  wide : 0x2 &&& m = 0 → wide0 = s.wide
  clk : 0x4 &&& m = 0 → clk0 = s.clk
  pins : 0x8 &&& m = 0 → pins0 = s.pins
  stations : 0x10 &&& m = 0 → stations0 = s.stations
  spine : 0x20 &&& m = 0 → spine0 = s.spine
  slot : 0x40 &&& m = 0 → slot0 = s.slot
  shear : 0x80 &&& m = 0 → shear0 = s.shear
  cullet : 0x100 &&& m = 0 → cullet0 = s.cullet
  ctr : 0x200 &&& m = 0 → ctr0 = s.ctr
  trace : 0x400 &&& m = 0 → trace0 = s.trace
  stria : 0x800 &&& m = 0 → stria0 = s.stria
  dl : 0x1000 &&& m = 0 → dl0 = s.dl
  lehr : 0x2000 &&& m = 0 → lehr0 = s.lehr
  ladder : 0x4000 &&& m = 0 → ladder0 = s.ladder
  notice : 0x8000 &&& m = 0 → notice0 = s.notice
  rings : 0x10000 &&& m = 0 → rings0 = s.rings
  bus : 0x20000 &&& m = 0 → bus0 = s.bus
  job : 0x40000 &&& m = 0 → job0 = s.job
  gather : 0x80000 &&& m = 0 → gather0 = s.gather
  mbx : 0x100000 &&& m = 0 → mbx0 = s.mbx
  cont : 0x200000 &&& m = 0 → cont0 = s.cont
  otp : 0x400000 &&& m = 0 → otp0 = s.otp
  gaf : 0x800000 &&& m = 0 → gaf0 = s.gaf
  rolsal : 0x1000000 &&& m = 0 → rolsal0 = s.rolsal
  fresh : 0x2000000 &&& m = 0 → fresh0 = s.fresh
  wf : s.buffersWf = true → (Memory.wf trace0.ring && Memory.wf cullet0.buf && Memory.wf slot0.store && Memory.wf lehr0.keep) = true

theorem Frame_mk {m : Nat} {s : State} {pending0 : List Instr} {regs0 : SMap Word} {wide0 : List WideHold} {clk0 : ClockState} {pins0 : PinState} {stations0 : SMap Station} {spine0 : SpineState} {slot0 : SlotState} {shear0 : ShearState} {cullet0 : CulletState} {ctr0 : CtrState} {trace0 : TraceState} {stria0 : StriaState} {dl0 : DeadlineState} {lehr0 : LehrState} {ladder0 : LadderState} {notice0 : NoticeState} {rings0 : RingState} {bus0 : BusState} {job0 : JobState} {gather0 : GatherState} {mbx0 : MbxState} {cont0 : ContState} {otp0 : OtpState} {gaf0 : GafState} {rolsal0 : RolsalState} {fresh0 : Nat} :
    Frame m s ⟨pending0, regs0, wide0, clk0, pins0, stations0, spine0, slot0, shear0, cullet0, ctr0, trace0, stria0, dl0, lehr0, ladder0, notice0, rings0, bus0, job0, gather0, mbx0, cont0, otp0, gaf0, rolsal0, fresh0⟩ = FrameC m s pending0 regs0 wide0 clk0 pins0 stations0 spine0 slot0 shear0 cullet0 ctr0 trace0 stria0 dl0 lehr0 ladder0 notice0 rings0 bus0 job0 gather0 mbx0 cont0 otp0 gaf0 rolsal0 fresh0 := by
  apply propext
  exact ⟨fun h => ⟨h.pending, h.regs, h.wide, h.clk, h.pins, h.stations, h.spine, h.slot, h.shear, h.cullet, h.ctr, h.trace, h.stria, h.dl, h.lehr, h.ladder, h.notice, h.rings, h.bus, h.job, h.gather, h.mbx, h.cont, h.otp, h.gaf, h.rolsal, h.fresh, h.wf⟩, fun h => ⟨h.pending, h.regs, h.wide, h.clk, h.pins, h.stations, h.spine, h.slot, h.shear, h.cullet, h.ctr, h.trace, h.stria, h.dl, h.lehr, h.ladder, h.notice, h.rings, h.bus, h.job, h.gather, h.mbx, h.cont, h.otp, h.gaf, h.rolsal, h.fresh, h.wf⟩⟩

theorem FrameC.regs_upd {m : Nat} {s s1 : State} (x : SMap Word) (hm : Sub 0x1 m) (h : Frame m s s1) : FrameC m s s1.pending x s1.wide s1.clk s1.pins s1.stations s1.spine s1.slot s1.shear s1.cullet s1.ctr s1.trace s1.stria s1.dl s1.lehr s1.ladder s1.notice s1.rings s1.bus s1.job s1.gather s1.mbx s1.cont s1.otp s1.gaf s1.rolsal s1.fresh :=
  ⟨h.pending, fun hz => absurd (hm.bit hz) (by decide), h.wide, h.clk, h.pins, h.stations, h.spine, h.slot, h.shear, h.cullet, h.ctr, h.trace, h.stria, h.dl, h.lehr, h.ladder, h.notice, h.rings, h.bus, h.job, h.gather, h.mbx, h.cont, h.otp, h.gaf, h.rolsal, h.fresh, h.wf⟩

theorem FrameC.wide_upd {m : Nat} {s s1 : State} (x : List WideHold) (hm : Sub 0x2 m) (h : Frame m s s1) : FrameC m s s1.pending s1.regs x s1.clk s1.pins s1.stations s1.spine s1.slot s1.shear s1.cullet s1.ctr s1.trace s1.stria s1.dl s1.lehr s1.ladder s1.notice s1.rings s1.bus s1.job s1.gather s1.mbx s1.cont s1.otp s1.gaf s1.rolsal s1.fresh :=
  ⟨h.pending, h.regs, fun hz => absurd (hm.bit hz) (by decide), h.clk, h.pins, h.stations, h.spine, h.slot, h.shear, h.cullet, h.ctr, h.trace, h.stria, h.dl, h.lehr, h.ladder, h.notice, h.rings, h.bus, h.job, h.gather, h.mbx, h.cont, h.otp, h.gaf, h.rolsal, h.fresh, h.wf⟩

theorem FrameC.clk_upd {m : Nat} {s s1 : State} (x : ClockState) (hm : Sub 0x4 m) (h : Frame m s s1) : FrameC m s s1.pending s1.regs s1.wide x s1.pins s1.stations s1.spine s1.slot s1.shear s1.cullet s1.ctr s1.trace s1.stria s1.dl s1.lehr s1.ladder s1.notice s1.rings s1.bus s1.job s1.gather s1.mbx s1.cont s1.otp s1.gaf s1.rolsal s1.fresh :=
  ⟨h.pending, h.regs, h.wide, fun hz => absurd (hm.bit hz) (by decide), h.pins, h.stations, h.spine, h.slot, h.shear, h.cullet, h.ctr, h.trace, h.stria, h.dl, h.lehr, h.ladder, h.notice, h.rings, h.bus, h.job, h.gather, h.mbx, h.cont, h.otp, h.gaf, h.rolsal, h.fresh, h.wf⟩

theorem FrameC.pins_upd {m : Nat} {s s1 : State} (x : PinState) (hm : Sub 0x8 m) (h : Frame m s s1) : FrameC m s s1.pending s1.regs s1.wide s1.clk x s1.stations s1.spine s1.slot s1.shear s1.cullet s1.ctr s1.trace s1.stria s1.dl s1.lehr s1.ladder s1.notice s1.rings s1.bus s1.job s1.gather s1.mbx s1.cont s1.otp s1.gaf s1.rolsal s1.fresh :=
  ⟨h.pending, h.regs, h.wide, h.clk, fun hz => absurd (hm.bit hz) (by decide), h.stations, h.spine, h.slot, h.shear, h.cullet, h.ctr, h.trace, h.stria, h.dl, h.lehr, h.ladder, h.notice, h.rings, h.bus, h.job, h.gather, h.mbx, h.cont, h.otp, h.gaf, h.rolsal, h.fresh, h.wf⟩

theorem FrameC.stations_upd {m : Nat} {s s1 : State} (x : SMap Station) (hm : Sub 0x10 m) (h : Frame m s s1) : FrameC m s s1.pending s1.regs s1.wide s1.clk s1.pins x s1.spine s1.slot s1.shear s1.cullet s1.ctr s1.trace s1.stria s1.dl s1.lehr s1.ladder s1.notice s1.rings s1.bus s1.job s1.gather s1.mbx s1.cont s1.otp s1.gaf s1.rolsal s1.fresh :=
  ⟨h.pending, h.regs, h.wide, h.clk, h.pins, fun hz => absurd (hm.bit hz) (by decide), h.spine, h.slot, h.shear, h.cullet, h.ctr, h.trace, h.stria, h.dl, h.lehr, h.ladder, h.notice, h.rings, h.bus, h.job, h.gather, h.mbx, h.cont, h.otp, h.gaf, h.rolsal, h.fresh, h.wf⟩

theorem FrameC.spine_upd {m : Nat} {s s1 : State} (x : SpineState) (hm : Sub 0x20 m) (h : Frame m s s1) : FrameC m s s1.pending s1.regs s1.wide s1.clk s1.pins s1.stations x s1.slot s1.shear s1.cullet s1.ctr s1.trace s1.stria s1.dl s1.lehr s1.ladder s1.notice s1.rings s1.bus s1.job s1.gather s1.mbx s1.cont s1.otp s1.gaf s1.rolsal s1.fresh :=
  ⟨h.pending, h.regs, h.wide, h.clk, h.pins, h.stations, fun hz => absurd (hm.bit hz) (by decide), h.slot, h.shear, h.cullet, h.ctr, h.trace, h.stria, h.dl, h.lehr, h.ladder, h.notice, h.rings, h.bus, h.job, h.gather, h.mbx, h.cont, h.otp, h.gaf, h.rolsal, h.fresh, h.wf⟩

theorem FrameC.slot_upd {m : Nat} {s s1 : State} (x : SlotState) (hm : Sub 0x40 m) (hr : Memory.wf s1.slot.store = true → Memory.wf x.store = true) (h : Frame m s s1) : FrameC m s s1.pending s1.regs s1.wide s1.clk s1.pins s1.stations s1.spine x s1.shear s1.cullet s1.ctr s1.trace s1.stria s1.dl s1.lehr s1.ladder s1.notice s1.rings s1.bus s1.job s1.gather s1.mbx s1.cont s1.otp s1.gaf s1.rolsal s1.fresh :=
  ⟨h.pending, h.regs, h.wide, h.clk, h.pins, h.stations, h.spine, fun hz => absurd (hm.bit hz) (by decide), h.shear, h.cullet, h.ctr, h.trace, h.stria, h.dl, h.lehr, h.ladder, h.notice, h.rings, h.bus, h.job, h.gather, h.mbx, h.cont, h.otp, h.gaf, h.rolsal, h.fresh, fun w => by
      have k := h.wf w
      unfold State.buffersWf at k
      simp only [Bool.and_eq_true] at k ⊢
      simp_all⟩

theorem FrameC.shear_upd {m : Nat} {s s1 : State} (x : ShearState) (hm : Sub 0x80 m) (h : Frame m s s1) : FrameC m s s1.pending s1.regs s1.wide s1.clk s1.pins s1.stations s1.spine s1.slot x s1.cullet s1.ctr s1.trace s1.stria s1.dl s1.lehr s1.ladder s1.notice s1.rings s1.bus s1.job s1.gather s1.mbx s1.cont s1.otp s1.gaf s1.rolsal s1.fresh :=
  ⟨h.pending, h.regs, h.wide, h.clk, h.pins, h.stations, h.spine, h.slot, fun hz => absurd (hm.bit hz) (by decide), h.cullet, h.ctr, h.trace, h.stria, h.dl, h.lehr, h.ladder, h.notice, h.rings, h.bus, h.job, h.gather, h.mbx, h.cont, h.otp, h.gaf, h.rolsal, h.fresh, h.wf⟩

theorem FrameC.cullet_upd {m : Nat} {s s1 : State} (x : CulletState) (hm : Sub 0x100 m) (hr : Memory.wf s1.cullet.buf = true → Memory.wf x.buf = true) (h : Frame m s s1) : FrameC m s s1.pending s1.regs s1.wide s1.clk s1.pins s1.stations s1.spine s1.slot s1.shear x s1.ctr s1.trace s1.stria s1.dl s1.lehr s1.ladder s1.notice s1.rings s1.bus s1.job s1.gather s1.mbx s1.cont s1.otp s1.gaf s1.rolsal s1.fresh :=
  ⟨h.pending, h.regs, h.wide, h.clk, h.pins, h.stations, h.spine, h.slot, h.shear, fun hz => absurd (hm.bit hz) (by decide), h.ctr, h.trace, h.stria, h.dl, h.lehr, h.ladder, h.notice, h.rings, h.bus, h.job, h.gather, h.mbx, h.cont, h.otp, h.gaf, h.rolsal, h.fresh, fun w => by
      have k := h.wf w
      unfold State.buffersWf at k
      simp only [Bool.and_eq_true] at k ⊢
      simp_all⟩

theorem FrameC.ctr_upd {m : Nat} {s s1 : State} (x : CtrState) (hm : Sub 0x200 m) (h : Frame m s s1) : FrameC m s s1.pending s1.regs s1.wide s1.clk s1.pins s1.stations s1.spine s1.slot s1.shear s1.cullet x s1.trace s1.stria s1.dl s1.lehr s1.ladder s1.notice s1.rings s1.bus s1.job s1.gather s1.mbx s1.cont s1.otp s1.gaf s1.rolsal s1.fresh :=
  ⟨h.pending, h.regs, h.wide, h.clk, h.pins, h.stations, h.spine, h.slot, h.shear, h.cullet, fun hz => absurd (hm.bit hz) (by decide), h.trace, h.stria, h.dl, h.lehr, h.ladder, h.notice, h.rings, h.bus, h.job, h.gather, h.mbx, h.cont, h.otp, h.gaf, h.rolsal, h.fresh, h.wf⟩

theorem FrameC.trace_upd {m : Nat} {s s1 : State} (x : TraceState) (hm : Sub 0x400 m) (hr : Memory.wf s1.trace.ring = true → Memory.wf x.ring = true) (h : Frame m s s1) : FrameC m s s1.pending s1.regs s1.wide s1.clk s1.pins s1.stations s1.spine s1.slot s1.shear s1.cullet s1.ctr x s1.stria s1.dl s1.lehr s1.ladder s1.notice s1.rings s1.bus s1.job s1.gather s1.mbx s1.cont s1.otp s1.gaf s1.rolsal s1.fresh :=
  ⟨h.pending, h.regs, h.wide, h.clk, h.pins, h.stations, h.spine, h.slot, h.shear, h.cullet, h.ctr, fun hz => absurd (hm.bit hz) (by decide), h.stria, h.dl, h.lehr, h.ladder, h.notice, h.rings, h.bus, h.job, h.gather, h.mbx, h.cont, h.otp, h.gaf, h.rolsal, h.fresh, fun w => by
      have k := h.wf w
      unfold State.buffersWf at k
      simp only [Bool.and_eq_true] at k ⊢
      simp_all⟩

theorem FrameC.stria_upd {m : Nat} {s s1 : State} (x : StriaState) (hm : Sub 0x800 m) (h : Frame m s s1) : FrameC m s s1.pending s1.regs s1.wide s1.clk s1.pins s1.stations s1.spine s1.slot s1.shear s1.cullet s1.ctr s1.trace x s1.dl s1.lehr s1.ladder s1.notice s1.rings s1.bus s1.job s1.gather s1.mbx s1.cont s1.otp s1.gaf s1.rolsal s1.fresh :=
  ⟨h.pending, h.regs, h.wide, h.clk, h.pins, h.stations, h.spine, h.slot, h.shear, h.cullet, h.ctr, h.trace, fun hz => absurd (hm.bit hz) (by decide), h.dl, h.lehr, h.ladder, h.notice, h.rings, h.bus, h.job, h.gather, h.mbx, h.cont, h.otp, h.gaf, h.rolsal, h.fresh, h.wf⟩

theorem FrameC.dl_upd {m : Nat} {s s1 : State} (x : DeadlineState) (hm : Sub 0x1000 m) (h : Frame m s s1) : FrameC m s s1.pending s1.regs s1.wide s1.clk s1.pins s1.stations s1.spine s1.slot s1.shear s1.cullet s1.ctr s1.trace s1.stria x s1.lehr s1.ladder s1.notice s1.rings s1.bus s1.job s1.gather s1.mbx s1.cont s1.otp s1.gaf s1.rolsal s1.fresh :=
  ⟨h.pending, h.regs, h.wide, h.clk, h.pins, h.stations, h.spine, h.slot, h.shear, h.cullet, h.ctr, h.trace, h.stria, fun hz => absurd (hm.bit hz) (by decide), h.lehr, h.ladder, h.notice, h.rings, h.bus, h.job, h.gather, h.mbx, h.cont, h.otp, h.gaf, h.rolsal, h.fresh, h.wf⟩

theorem FrameC.lehr_upd {m : Nat} {s s1 : State} (x : LehrState) (hm : Sub 0x2000 m) (hr : Memory.wf s1.lehr.keep = true → Memory.wf x.keep = true) (h : Frame m s s1) : FrameC m s s1.pending s1.regs s1.wide s1.clk s1.pins s1.stations s1.spine s1.slot s1.shear s1.cullet s1.ctr s1.trace s1.stria s1.dl x s1.ladder s1.notice s1.rings s1.bus s1.job s1.gather s1.mbx s1.cont s1.otp s1.gaf s1.rolsal s1.fresh :=
  ⟨h.pending, h.regs, h.wide, h.clk, h.pins, h.stations, h.spine, h.slot, h.shear, h.cullet, h.ctr, h.trace, h.stria, h.dl, fun hz => absurd (hm.bit hz) (by decide), h.ladder, h.notice, h.rings, h.bus, h.job, h.gather, h.mbx, h.cont, h.otp, h.gaf, h.rolsal, h.fresh, fun w => by
      have k := h.wf w
      unfold State.buffersWf at k
      simp only [Bool.and_eq_true] at k ⊢
      simp_all⟩

theorem FrameC.ladder_upd {m : Nat} {s s1 : State} (x : LadderState) (hm : Sub 0x4000 m) (h : Frame m s s1) : FrameC m s s1.pending s1.regs s1.wide s1.clk s1.pins s1.stations s1.spine s1.slot s1.shear s1.cullet s1.ctr s1.trace s1.stria s1.dl s1.lehr x s1.notice s1.rings s1.bus s1.job s1.gather s1.mbx s1.cont s1.otp s1.gaf s1.rolsal s1.fresh :=
  ⟨h.pending, h.regs, h.wide, h.clk, h.pins, h.stations, h.spine, h.slot, h.shear, h.cullet, h.ctr, h.trace, h.stria, h.dl, h.lehr, fun hz => absurd (hm.bit hz) (by decide), h.notice, h.rings, h.bus, h.job, h.gather, h.mbx, h.cont, h.otp, h.gaf, h.rolsal, h.fresh, h.wf⟩

theorem FrameC.notice_upd {m : Nat} {s s1 : State} (x : NoticeState) (hm : Sub 0x8000 m) (h : Frame m s s1) : FrameC m s s1.pending s1.regs s1.wide s1.clk s1.pins s1.stations s1.spine s1.slot s1.shear s1.cullet s1.ctr s1.trace s1.stria s1.dl s1.lehr s1.ladder x s1.rings s1.bus s1.job s1.gather s1.mbx s1.cont s1.otp s1.gaf s1.rolsal s1.fresh :=
  ⟨h.pending, h.regs, h.wide, h.clk, h.pins, h.stations, h.spine, h.slot, h.shear, h.cullet, h.ctr, h.trace, h.stria, h.dl, h.lehr, h.ladder, fun hz => absurd (hm.bit hz) (by decide), h.rings, h.bus, h.job, h.gather, h.mbx, h.cont, h.otp, h.gaf, h.rolsal, h.fresh, h.wf⟩

theorem FrameC.rings_upd {m : Nat} {s s1 : State} (x : RingState) (hm : Sub 0x10000 m) (h : Frame m s s1) : FrameC m s s1.pending s1.regs s1.wide s1.clk s1.pins s1.stations s1.spine s1.slot s1.shear s1.cullet s1.ctr s1.trace s1.stria s1.dl s1.lehr s1.ladder s1.notice x s1.bus s1.job s1.gather s1.mbx s1.cont s1.otp s1.gaf s1.rolsal s1.fresh :=
  ⟨h.pending, h.regs, h.wide, h.clk, h.pins, h.stations, h.spine, h.slot, h.shear, h.cullet, h.ctr, h.trace, h.stria, h.dl, h.lehr, h.ladder, h.notice, fun hz => absurd (hm.bit hz) (by decide), h.bus, h.job, h.gather, h.mbx, h.cont, h.otp, h.gaf, h.rolsal, h.fresh, h.wf⟩

theorem FrameC.bus_upd {m : Nat} {s s1 : State} (x : BusState) (hm : Sub 0x20000 m) (h : Frame m s s1) : FrameC m s s1.pending s1.regs s1.wide s1.clk s1.pins s1.stations s1.spine s1.slot s1.shear s1.cullet s1.ctr s1.trace s1.stria s1.dl s1.lehr s1.ladder s1.notice s1.rings x s1.job s1.gather s1.mbx s1.cont s1.otp s1.gaf s1.rolsal s1.fresh :=
  ⟨h.pending, h.regs, h.wide, h.clk, h.pins, h.stations, h.spine, h.slot, h.shear, h.cullet, h.ctr, h.trace, h.stria, h.dl, h.lehr, h.ladder, h.notice, h.rings, fun hz => absurd (hm.bit hz) (by decide), h.job, h.gather, h.mbx, h.cont, h.otp, h.gaf, h.rolsal, h.fresh, h.wf⟩

theorem FrameC.job_upd {m : Nat} {s s1 : State} (x : JobState) (hm : Sub 0x40000 m) (h : Frame m s s1) : FrameC m s s1.pending s1.regs s1.wide s1.clk s1.pins s1.stations s1.spine s1.slot s1.shear s1.cullet s1.ctr s1.trace s1.stria s1.dl s1.lehr s1.ladder s1.notice s1.rings s1.bus x s1.gather s1.mbx s1.cont s1.otp s1.gaf s1.rolsal s1.fresh :=
  ⟨h.pending, h.regs, h.wide, h.clk, h.pins, h.stations, h.spine, h.slot, h.shear, h.cullet, h.ctr, h.trace, h.stria, h.dl, h.lehr, h.ladder, h.notice, h.rings, h.bus, fun hz => absurd (hm.bit hz) (by decide), h.gather, h.mbx, h.cont, h.otp, h.gaf, h.rolsal, h.fresh, h.wf⟩

theorem FrameC.gather_upd {m : Nat} {s s1 : State} (x : GatherState) (hm : Sub 0x80000 m) (h : Frame m s s1) : FrameC m s s1.pending s1.regs s1.wide s1.clk s1.pins s1.stations s1.spine s1.slot s1.shear s1.cullet s1.ctr s1.trace s1.stria s1.dl s1.lehr s1.ladder s1.notice s1.rings s1.bus s1.job x s1.mbx s1.cont s1.otp s1.gaf s1.rolsal s1.fresh :=
  ⟨h.pending, h.regs, h.wide, h.clk, h.pins, h.stations, h.spine, h.slot, h.shear, h.cullet, h.ctr, h.trace, h.stria, h.dl, h.lehr, h.ladder, h.notice, h.rings, h.bus, h.job, fun hz => absurd (hm.bit hz) (by decide), h.mbx, h.cont, h.otp, h.gaf, h.rolsal, h.fresh, h.wf⟩

theorem FrameC.mbx_upd {m : Nat} {s s1 : State} (x : MbxState) (hm : Sub 0x100000 m) (h : Frame m s s1) : FrameC m s s1.pending s1.regs s1.wide s1.clk s1.pins s1.stations s1.spine s1.slot s1.shear s1.cullet s1.ctr s1.trace s1.stria s1.dl s1.lehr s1.ladder s1.notice s1.rings s1.bus s1.job s1.gather x s1.cont s1.otp s1.gaf s1.rolsal s1.fresh :=
  ⟨h.pending, h.regs, h.wide, h.clk, h.pins, h.stations, h.spine, h.slot, h.shear, h.cullet, h.ctr, h.trace, h.stria, h.dl, h.lehr, h.ladder, h.notice, h.rings, h.bus, h.job, h.gather, fun hz => absurd (hm.bit hz) (by decide), h.cont, h.otp, h.gaf, h.rolsal, h.fresh, h.wf⟩

theorem FrameC.cont_upd {m : Nat} {s s1 : State} (x : ContState) (hm : Sub 0x200000 m) (h : Frame m s s1) : FrameC m s s1.pending s1.regs s1.wide s1.clk s1.pins s1.stations s1.spine s1.slot s1.shear s1.cullet s1.ctr s1.trace s1.stria s1.dl s1.lehr s1.ladder s1.notice s1.rings s1.bus s1.job s1.gather s1.mbx x s1.otp s1.gaf s1.rolsal s1.fresh :=
  ⟨h.pending, h.regs, h.wide, h.clk, h.pins, h.stations, h.spine, h.slot, h.shear, h.cullet, h.ctr, h.trace, h.stria, h.dl, h.lehr, h.ladder, h.notice, h.rings, h.bus, h.job, h.gather, h.mbx, fun hz => absurd (hm.bit hz) (by decide), h.otp, h.gaf, h.rolsal, h.fresh, h.wf⟩

theorem FrameC.otp_upd {m : Nat} {s s1 : State} (x : OtpState) (hm : Sub 0x400000 m) (h : Frame m s s1) : FrameC m s s1.pending s1.regs s1.wide s1.clk s1.pins s1.stations s1.spine s1.slot s1.shear s1.cullet s1.ctr s1.trace s1.stria s1.dl s1.lehr s1.ladder s1.notice s1.rings s1.bus s1.job s1.gather s1.mbx s1.cont x s1.gaf s1.rolsal s1.fresh :=
  ⟨h.pending, h.regs, h.wide, h.clk, h.pins, h.stations, h.spine, h.slot, h.shear, h.cullet, h.ctr, h.trace, h.stria, h.dl, h.lehr, h.ladder, h.notice, h.rings, h.bus, h.job, h.gather, h.mbx, h.cont, fun hz => absurd (hm.bit hz) (by decide), h.gaf, h.rolsal, h.fresh, h.wf⟩

theorem FrameC.gaf_upd {m : Nat} {s s1 : State} (x : GafState) (hm : Sub 0x800000 m) (h : Frame m s s1) : FrameC m s s1.pending s1.regs s1.wide s1.clk s1.pins s1.stations s1.spine s1.slot s1.shear s1.cullet s1.ctr s1.trace s1.stria s1.dl s1.lehr s1.ladder s1.notice s1.rings s1.bus s1.job s1.gather s1.mbx s1.cont s1.otp x s1.rolsal s1.fresh :=
  ⟨h.pending, h.regs, h.wide, h.clk, h.pins, h.stations, h.spine, h.slot, h.shear, h.cullet, h.ctr, h.trace, h.stria, h.dl, h.lehr, h.ladder, h.notice, h.rings, h.bus, h.job, h.gather, h.mbx, h.cont, h.otp, fun hz => absurd (hm.bit hz) (by decide), h.rolsal, h.fresh, h.wf⟩

theorem FrameC.rolsal_upd {m : Nat} {s s1 : State} (x : RolsalState) (hm : Sub 0x1000000 m) (h : Frame m s s1) : FrameC m s s1.pending s1.regs s1.wide s1.clk s1.pins s1.stations s1.spine s1.slot s1.shear s1.cullet s1.ctr s1.trace s1.stria s1.dl s1.lehr s1.ladder s1.notice s1.rings s1.bus s1.job s1.gather s1.mbx s1.cont s1.otp s1.gaf x s1.fresh :=
  ⟨h.pending, h.regs, h.wide, h.clk, h.pins, h.stations, h.spine, h.slot, h.shear, h.cullet, h.ctr, h.trace, h.stria, h.dl, h.lehr, h.ladder, h.notice, h.rings, h.bus, h.job, h.gather, h.mbx, h.cont, h.otp, h.gaf, fun hz => absurd (hm.bit hz) (by decide), h.fresh, h.wf⟩

theorem FrameC.fresh_upd {m : Nat} {s s1 : State} (x : Nat) (hm : Sub 0x2000000 m) (h : Frame m s s1) : FrameC m s s1.pending s1.regs s1.wide s1.clk s1.pins s1.stations s1.spine s1.slot s1.shear s1.cullet s1.ctr s1.trace s1.stria s1.dl s1.lehr s1.ladder s1.notice s1.rings s1.bus s1.job s1.gather s1.mbx s1.cont s1.otp s1.gaf s1.rolsal x :=
  ⟨h.pending, h.regs, h.wide, h.clk, h.pins, h.stations, h.spine, h.slot, h.shear, h.cullet, h.ctr, h.trace, h.stria, h.dl, h.lehr, h.ladder, h.notice, h.rings, h.bus, h.job, h.gather, h.mbx, h.cont, h.otp, h.gaf, h.rolsal, fun hz => absurd (hm.bit hz) (by decide), h.wf⟩

theorem FrameC.pins_ladder_upd {m : Nat} {s s1 : State} (x : PinState) (y : LadderState) (hx : Sub 0x8 m) (hy : Sub 0x4000 m) (h : Frame m s s1) :
    FrameC m s s1.pending s1.regs s1.wide s1.clk x s1.stations s1.spine s1.slot s1.shear s1.cullet s1.ctr s1.trace s1.stria s1.dl s1.lehr y s1.notice s1.rings s1.bus s1.job s1.gather s1.mbx s1.cont s1.otp s1.gaf s1.rolsal s1.fresh :=
  ⟨h.pending, h.regs, h.wide, h.clk, fun hz => absurd (hx.bit hz) (by decide), h.stations, h.spine, h.slot, h.shear, h.cullet, h.ctr, h.trace, h.stria, h.dl, h.lehr, fun hz => absurd (hy.bit hz) (by decide), h.notice, h.rings, h.bus, h.job, h.gather, h.mbx, h.cont, h.otp, h.gaf, h.rolsal, h.fresh, h.wf⟩

theorem FrameC.mbx_pins_upd {m : Nat} {s s1 : State} (x : MbxState) (y : PinState) (hx : Sub 0x100000 m) (hy : Sub 0x8 m) (h : Frame m s s1) :
    FrameC m s s1.pending s1.regs s1.wide s1.clk y s1.stations s1.spine s1.slot s1.shear s1.cullet s1.ctr s1.trace s1.stria s1.dl s1.lehr s1.ladder s1.notice s1.rings s1.bus s1.job s1.gather x s1.cont s1.otp s1.gaf s1.rolsal s1.fresh :=
  ⟨h.pending, h.regs, h.wide, h.clk, fun hz => absurd (hy.bit hz) (by decide), h.stations, h.spine, h.slot, h.shear, h.cullet, h.ctr, h.trace, h.stria, h.dl, h.lehr, h.ladder, h.notice, h.rings, h.bus, h.job, h.gather, fun hz => absurd (hx.bit hz) (by decide), h.cont, h.otp, h.gaf, h.rolsal, h.fresh, h.wf⟩

theorem FrameC.bus_wide_upd {m : Nat} {s s1 : State} (x : BusState) (y : List WideHold) (hx : Sub 0x20000 m) (hy : Sub 0x2 m) (h : Frame m s s1) :
    FrameC m s s1.pending s1.regs y s1.clk s1.pins s1.stations s1.spine s1.slot s1.shear s1.cullet s1.ctr s1.trace s1.stria s1.dl s1.lehr s1.ladder s1.notice s1.rings x s1.job s1.gather s1.mbx s1.cont s1.otp s1.gaf s1.rolsal s1.fresh :=
  ⟨h.pending, h.regs, fun hz => absurd (hy.bit hz) (by decide), h.clk, h.pins, h.stations, h.spine, h.slot, h.shear, h.cullet, h.ctr, h.trace, h.stria, h.dl, h.lehr, h.ladder, h.notice, h.rings, fun hz => absurd (hx.bit hz) (by decide), h.job, h.gather, h.mbx, h.cont, h.otp, h.gaf, h.rolsal, h.fresh, h.wf⟩

theorem Frame.foldl {α : Type} {m : Nat} {s0 : State} (l : List α) (f : State → α → State) (s : State)
    (hf : ∀ s a, Frame m s0 s → Frame m s0 (f s a)) (h : Frame m s0 s) : Frame m s0 (l.foldl f s) := by
  induction l generalizing s with
  | nil => exact h
  | cons a l ih => exact ih (f s a) (hf s a h)

theorem Frame.pair {α : Type} {m : Nat} {s0 : State} {p : α × State} {a : α} {t : State} (he : p = (a, t)) (h : Frame m s0 p.2) :
    Frame m s0 t := by
  subst he; exact h

theorem Frame.ite {m : Nat} {s a b : State} (c : Prop) [Decidable c] (ha : Frame m s a) (hb : Frame m s b) :
    Frame m s (if c then a else b) := by
  split <;> assumption

theorem Frame.when {m : Nat} {s0 s : State} (c : Bool) (f : State → State) (hf : ∀ s, Frame m s0 s → Frame m s0 (f s))
    (h : Frame m s0 s) : Frame m s0 (s.when c f) := by
  unfold State.when; split
  · exact hf _ h
  · exact h

/-- The next state of an outcome, where there is one. -/
structure FrameO (m : Nat) (s : State) (o : Outcome State Fault Refusal) : Prop where
  out : ∀ t, o = .next t → Frame m s t

theorem FrameO.ok {m : Nat} {s0 s : State} (h : Frame m s0 s) : FrameO m s0 (Sys2Proof.Machine.ok s) := by
  constructor; intro t ht; cases ht; exact h

theorem FrameO.fault {m : Nat} {s0 : State} (r : Fault) : FrameO m s0 (.fault r) := by
  constructor; intro t ht; cases ht

theorem FrameO.ite {m : Nat} {s : State} {a b : Outcome State Fault Refusal} (c : Prop) [Decidable c] (ha : FrameO m s a)
    (hb : FrameO m s b) : FrameO m s (if c then a else b) := by
  split <;> assumption

theorem FrameO.act {m : Nat} {s0 s : State} (f : State → Outcome State Fault Refusal)
    (hf : ∀ s, Frame m s0 s → FrameO m s0 (f s)) (h : Frame m s0 s) : FrameO m s0 (s.act f) := by
  unfold State.act; split
  · exact hf _ h
  · exact FrameO.ok h

theorem FrameO.awake {m : Nat} {s0 s : State} (f : State → Outcome State Fault Refusal)
    (hf : ∀ s, Frame m s0 s → FrameO m s0 (f s)) (h : Frame m s0 s) : FrameO m s0 (s.awake f) := by
  unfold State.awake; split
  · exact hf _ h
  · exact FrameO.ok h

/-- A part outside the mask is the same after. -/
theorem Frame.same {m : Nat} {s t : State} (h : Frame m s t) (p : Part) (hp : p.bit &&& m = 0) : p.same s t := by
  cases p
  · exact h.pending
  · exact h.regs hp
  · exact h.wide hp
  · exact h.clk hp
  · exact h.pins hp
  · exact h.stations hp
  · exact h.spine hp
  · exact h.slot hp
  · exact h.shear hp
  · exact h.cullet hp
  · exact h.ctr hp
  · exact h.trace hp
  · exact h.stria hp
  · exact h.dl hp
  · exact h.lehr hp
  · exact h.ladder hp
  · exact h.notice hp
  · exact h.rings hp
  · exact h.bus hp
  · exact h.job hp
  · exact h.gather hp
  · exact h.mbx hp
  · exact h.cont hp
  · exact h.otp hp
  · exact h.gaf hp
  · exact h.rolsal hp
  · exact h.fresh hp

/-- The mask of a list of parts. -/
def Part.mask (l : List Part) : Nat := l.foldr (fun p m => p.bit ||| m) 0

theorem Part.bit_other (p q : Part) (h : p ≠ q) : p.bit &&& q.bit = 0 := by
  cases p <;> cases q <;> first | rfl | exact absurd rfl h

/-- A part not in a list has no bit in its mask. -/
theorem Part.mask_out (l : List Part) (p : Part) (h : p ∉ l) : p.bit &&& Part.mask l = 0 := by
  induction l with
  | nil => exact Nat.and_zero _
  | cons q l ih =>
    simp only [List.mem_cons, not_or] at h
    show p.bit &&& (q.bit ||| Part.mask l) = 0
    rw [Nat.and_or_distrib_left, Part.bit_other p q h.1, ih h.2]
    rfl

/-- A part that a command's list does not name is the same in its next state. -/
theorem FrameO.part {l : List Part} {s t : State} {o : Outcome State Fault Refusal} (hf : FrameO (Part.mask l) s o)
    (ht : o = .next t) (p : Part) (hp : p ∉ l) : p.same s t :=
  (hf.out t ht).same p (Part.mask_out l p hp)

end Sys2Proof.Machine
end

