-- ==== Sys2Proof/Laws/Frames1.lean ====
section
/-! SUPPORT. The footprint of every operation and command, one lemma each, in the order of the files: the shared operations, events, faults, stations and ports. Each says
which parts of the state its operation may change; all others, the queue and the canonical form of the buffers stay. -/

namespace Sys2Proof.Machine

open Host (Outcome)

/-! ### Ops -/

theorem State.wr_frame {fm : Nat} {s0 : State} (hm : Sub 0x1 fm) (s : State) (a : Nat) (v : Word) (h : Frame fm s0 s) :
    Frame fm s0 ((State.wr s a v)) := by
  unfold State.wr
  repeat' (first | exact Sub.trans (by decide) hm | intro _ | with_reducible assumption | (simp only [Frame_mk]; first | with_reducible apply FrameC.regs_upd) | extract_lets)

theorem State.fs_frame {fm : Nat} {s0 : State} (hm : Sub 0x1 fm) (s : State) (f : Fld) (n : Nat) (h : Frame fm s0 s) :
    Frame fm s0 ((State.fs s f n)) := by
  unfold State.fs
  repeat' (first | exact Sub.trans (by decide) hm | intro _ | with_reducible assumption | with_reducible apply State.wr_frame)

theorem State.fsat_frame {fm : Nat} {s0 : State} (hm : Sub 0x1 fm) (s : State) (f : Fld) (d : Nat) (h : Frame fm s0 s) :
    Frame fm s0 ((State.fsat s f d)) := by
  unfold State.fsat
  repeat' (first | exact Sub.trans (by decide) hm | intro _ | with_reducible assumption | with_reducible apply State.fs_frame | (simp only [Frame_mk]; first | with_reducible apply FrameC.regs_upd))

theorem State.wr64_frame {fm : Nat} {s0 : State} (hm : Sub 0x1 fm) (s : State) (lo hi : Nat) (v : Nat) (h : Frame fm s0 s) :
    Frame fm s0 ((State.wr64 s lo hi v)) := by
  unfold State.wr64
  repeat' (first | exact Sub.trans (by decide) hm | intro _ | with_reducible assumption | with_reducible apply State.wr_frame | (simp only [Frame_mk]; first | with_reducible apply FrameC.regs_upd))

theorem State.wrN_frame {fm : Nat} {s0 : State} (hm : Sub 0x1 fm) (s : State) (a n : Nat) (h : Frame fm s0 s) :
    Frame fm s0 ((State.wrN s a n)) := by
  unfold State.wrN
  repeat' (first | exact Sub.trans (by decide) hm | intro _ | with_reducible assumption | with_reducible apply State.wr_frame | (simp only [Frame_mk]; first | with_reducible apply FrameC.regs_upd))

theorem State.wrWords_frame {fm : Nat} {s0 : State} (hm : Sub 0x1 fm) (s : State) (a : Nat) (ws : List Nat) (h : Frame fm s0 s) :
    Frame fm s0 ((State.wrWords s a ws)) := by
  induction ws generalizing s a with
  | nil =>
    unfold State.wrWords
    repeat' (first | exact Sub.trans (by decide) hm | intro _ | with_reducible assumption | with_reducible apply State.wrN_frame | (simp only [Frame_mk]; first | with_reducible apply FrameC.regs_upd) | extract_lets | split)
  | cons a l ih =>
    unfold State.wrWords
    repeat' (first | exact Sub.trans (by decide) hm | intro _ | with_reducible assumption | with_reducible apply ih | with_reducible apply State.wrN_frame | (simp only [Frame_mk]; first | with_reducible apply FrameC.regs_upd) | extract_lets | split)

theorem State.free_frame {fm : Nat} {s0 : State} (hm : Sub 0x2000000 fm) (s : State) (h : Frame fm s0 s) :
    Frame fm s0 ((State.free s).2) := by
  unfold State.free
  repeat' (first | exact Sub.trans (by decide) hm | intro _ | with_reducible assumption | with_reducible refine Frame.pair ‹_› ?_ | (simp only [Frame_mk]; first | with_reducible apply FrameC.fresh_upd) | extract_lets)

theorem State.when_frame {fm : Nat} {s0 : State} (hm : Sub 0x0 fm) (s : State) (c : Bool) (f : State → State) (hf : ∀ (x0 : State), Frame fm s0 x0 → Frame fm s0 ((f x0))) (h : Frame fm s0 s) :
    Frame fm s0 ((State.when s c f)) := by
  unfold State.when
  repeat' (first | exact Sub.trans (by decide) hm | intro _ | with_reducible assumption | with_reducible apply hf | with_reducible apply Frame.ite | with_reducible apply Frame.when | split)

/-! ### Access -/

theorem refuseAccess_frame {fm : Nat} {s0 : State} (hm : Sub 0x1 fm) (m a : Nat) (s : State) (h : Frame fm s0 s) :
    Frame fm s0 ((refuseAccess m a s)) := by
  unfold refuseAccess
  repeat' (first | exact Sub.trans (by decide) hm | intro _ | with_reducible assumption | with_reducible apply State.fs_frame | with_reducible apply State.fsat_frame)

theorem State.gate_frame {fm : Nat} {s0 : State} (hm : Sub 0x1 fm) (s : State) (m a : Nat) (n : Need) (f : State → State) (hf : ∀ (x0 : State), Frame fm s0 x0 → Frame fm s0 ((f x0))) (h : Frame fm s0 s) :
    Frame fm s0 ((State.gate s m a n f)) := by
  unfold State.gate
  repeat' (first | exact Sub.trans (by decide) hm | intro _ | with_reducible assumption | with_reducible apply hf | with_reducible apply refuseAccess_frame | with_reducible apply Frame.ite | split)

theorem State.readGate_frame {fm : Nat} {s0 : State} (hm : Sub 0x1 fm) (s : State) (m a : Nat) (n : Need) (f : State → Option Nat × State) (hf : ∀ (x0 : State), Frame fm s0 x0 → Frame fm s0 ((f x0).2)) (h : Frame fm s0 s) :
    Frame fm s0 ((State.readGate s m a n f).2) := by
  unfold State.readGate
  repeat' (first | exact Sub.trans (by decide) hm | intro _ | with_reducible assumption | with_reducible refine Frame.pair ‹_› ?_ | with_reducible apply hf | with_reducible apply refuseAccess_frame | with_reducible apply Frame.ite | split)

theorem plainWrite_frame {fm : Nat} {s0 : State} (hm : Sub 0x1 fm) (a : Nat) (v : Word) (s : State) (h : Frame fm s0 s) :
    Frame fm s0 ((plainWrite a v s)) := by
  unfold plainWrite
  repeat' (first | exact Sub.trans (by decide) hm | intro _ | with_reducible assumption | with_reducible apply State.wr_frame | extract_lets | split)

theorem clearRc_frame {fm : Nat} {s0 : State} (hm : Sub 0x1 fm) (a : Nat) (s : State) (h : Frame fm s0 s) :
    Frame fm s0 ((clearRc a s)) := by
  unfold clearRc
  repeat' (first | exact Sub.trans (by decide) hm | intro _ | with_reducible assumption | with_reducible apply State.wr_frame | extract_lets | split)

theorem holdWide_frame {fm : Nat} {s0 : State} (hm : Sub 0x2 fm) (m base : Nat) (isRead : Bool) (ws : List Nat) (s : State) (h : Frame fm s0 s) :
    Frame fm s0 ((holdWide m base isRead ws s)) := by
  unfold holdWide
  repeat' (first | exact Sub.trans (by decide) hm | intro _ | with_reducible assumption | (simp only [Frame_mk]; first | with_reducible apply FrameC.wide_upd) | extract_lets)

theorem dropWide_frame {fm : Nat} {s0 : State} (hm : Sub 0x2 fm) (m base : Nat) (isRead : Bool) (s : State) (h : Frame fm s0 s) :
    Frame fm s0 ((dropWide m base isRead s)) := by
  unfold dropWide
  repeat' (first | exact Sub.trans (by decide) hm | intro _ | with_reducible assumption | (simp only [Frame_mk]; first | with_reducible apply FrameC.wide_upd) | extract_lets)

theorem presentRead_frame {fm : Nat} {s0 : State} (hm : Sub 0x8 fm) (v : Nat) (s : State) (h : Frame fm s0 s) :
    Frame fm s0 ((presentRead v s)) := by
  unfold presentRead
  repeat' (first | exact Sub.trans (by decide) hm | intro _ | with_reducible assumption | (simp only [Frame_mk]; first | with_reducible apply FrameC.pins_upd) | extract_lets)

/-! ### Events -/

theorem presentAnswer_frame {fm : Nat} {s0 : State} (hm : Sub 0x8 fm) (r : Option Nat × State) (h : Frame fm s0 r.2) : Frame fm s0 (presentAnswer r) := by
  unfold presentAnswer; split
  · exact presentRead_frame hm _ _ h
  · exact h
theorem takeTag_frame {fm : Nat} {s0 : State} (hm : Sub 0x20000 fm) (s : State) (h : Frame fm s0 s) :
    Frame fm s0 ((takeTag s).2) := by
  unfold takeTag
  repeat' (first | exact Sub.trans (by decide) hm | intro _ | with_reducible assumption | with_reducible refine Frame.pair ‹_› ?_ | (simp only [Frame_mk]; first | with_reducible apply FrameC.bus_upd) | extract_lets)

theorem hostRead_frame {fm : Nat} {s0 : State} (hm : Sub 0x20000 fm) (ident addr len : Nat) (use : HostUse) (s : State) (h : Frame fm s0 s) :
    Frame fm s0 ((hostRead ident addr len use s)) := by
  unfold hostRead
  repeat' (first | exact Sub.trans (by decide) hm | intro _ | with_reducible assumption | with_reducible refine Frame.pair ‹_› ?_ | with_reducible apply takeTag_frame | (simp only [Frame_mk]; first | with_reducible apply FrameC.bus_upd) | extract_lets | split)

theorem hostWrite_frame {fm : Nat} {s0 : State} (hm : Sub 0x20000 fm) (ident addr : Nat) (bytes : List Nat) (use : HostUse) (s : State) (h : Frame fm s0 s) :
    Frame fm s0 ((hostWrite ident addr bytes use s)) := by
  unfold hostWrite
  repeat' (first | exact Sub.trans (by decide) hm | intro _ | with_reducible assumption | with_reducible refine Frame.pair ‹_› ?_ | with_reducible apply takeTag_frame | (simp only [Frame_mk]; first | with_reducible apply FrameC.bus_upd) | extract_lets | split)

theorem hostWriteAll_frame {fm : Nat} {s0 : State} (hm : Sub 0x20000 fm) (ident : Nat) (use : HostUse) (z0 : Nat) (z1 : Nat) (z2 : List Nat) (z3 : State) (h : Frame fm s0 z3) :
    Frame fm s0 ((hostWriteAll ident use z0 z1 z2 z3)) := by
  induction z0 generalizing z1 z2 z3 with
  | zero =>
    unfold hostWriteAll
    repeat' (first | exact Sub.trans (by decide) hm | intro _ | with_reducible assumption | with_reducible apply hostWrite_frame | with_reducible apply Frame.ite | extract_lets | split)
  | succ k ih =>
    unfold hostWriteAll
    repeat' (first | exact Sub.trans (by decide) hm | intro _ | with_reducible assumption | with_reducible apply ih | with_reducible apply hostWrite_frame | with_reducible apply Frame.ite | extract_lets | split)

theorem hostWriteBytes_frame {fm : Nat} {s0 : State} (hm : Sub 0x20000 fm) (ident addr : Nat) (bytes : List Nat) (use : HostUse) (s : State) (h : Frame fm s0 s) :
    Frame fm s0 ((hostWriteBytes ident addr bytes use s)) := by
  unfold hostWriteBytes
  repeat' (first | exact Sub.trans (by decide) hm | intro _ | with_reducible assumption | with_reducible apply hostWriteAll_frame)

theorem signalVec_frame {fm : Nat} {s0 : State} (hm : Sub 0x9 fm) (v : Nat) (s : State) (h : Frame fm s0 s) :
    Frame fm s0 ((signalVec v s)) := by
  unfold signalVec
  repeat' (first | exact Sub.trans (by decide) hm | intro _ | with_reducible assumption | with_reducible apply State.wr64_frame | with_reducible apply Frame.ite | (simp only [Frame_mk]; first | with_reducible apply FrameC.pins_upd) | extract_lets | split)

theorem signalRingErr_frame {fm : Nat} {s0 : State} (hm : Sub 0x9 fm) (s : State) (h : Frame fm s0 s) :
    Frame fm s0 ((signalRingErr s)) := by
  unfold signalRingErr
  repeat' (first | exact Sub.trans (by decide) hm | intro _ | with_reducible assumption | with_reducible apply State.fs_frame | with_reducible apply signalVec_frame)

theorem trySignal_frame {fm : Nat} {s0 : State} (hm : Sub 0x10009 fm) (r : Nat) (s : State) (h : Frame fm s0 s) :
    Frame fm s0 ((trySignal r s)) := by
  unfold trySignal
  repeat' (first | exact Sub.trans (by decide) hm | intro _ | with_reducible assumption | with_reducible apply State.fs_frame | with_reducible apply signalVec_frame | with_reducible apply Frame.ite | (simp only [Frame_mk]; first | with_reducible apply FrameC.rings_upd) | extract_lets | split)

theorem setDue_frame {fm : Nat} {s0 : State} (hm : Sub 0x10000 fm) (r : Nat) (l : List EvEntry) (s : State) (h : Frame fm s0 s) :
    Frame fm s0 ((setDue r l s)) := by
  unfold setDue
  repeat' (first | exact Sub.trans (by decide) hm | intro _ | with_reducible assumption | (simp only [Frame_mk]; first | with_reducible apply FrameC.rings_upd) | extract_lets)

theorem settleSq_frame {fm : Nat} {s0 : State} (hm : Sub 0x1 fm) (r : Nat) (s : State) (h : Frame fm s0 s) :
    Frame fm s0 ((settleSq r s)) := by
  unfold settleSq
  repeat' (first | exact Sub.trans (by decide) hm | intro _ | with_reducible assumption | with_reducible apply State.fs_frame | with_reducible apply Frame.ite | split)

theorem retireCmd_frame {fm : Nat} {s0 : State} (hm : Sub 0x10001 fm) (k : CmdKey) (s : State) (h : Frame fm s0 s) :
    Frame fm s0 ((retireCmd k s)) := by
  unfold retireCmd
  repeat' (first | exact Sub.trans (by decide) hm | intro _ | with_reducible assumption | with_reducible apply State.fs_frame | with_reducible apply settleSq_frame | (simp only [Frame_mk]; first | with_reducible apply FrameC.rings_upd) | extract_lets)

theorem settleEq_frame {fm : Nat} {s0 : State} (hm : Sub 0x1 fm) (r : Nat) (s : State) (h : Frame fm s0 s) :
    Frame fm s0 ((settleEq r s)) := by
  unfold settleEq
  repeat' (first | exact Sub.trans (by decide) hm | intro _ | with_reducible assumption | with_reducible apply State.fs_frame | with_reducible apply Frame.ite | extract_lets | split)

theorem loseEvent_frame {fm : Nat} {s0 : State} (hm : Sub 0x10001 fm) (e : EvEntry) (s : State) (h : Frame fm s0 s) :
    Frame fm s0 ((loseEvent e s)) := by
  unfold loseEvent
  repeat' (first | exact Sub.trans (by decide) hm | intro _ | with_reducible assumption | with_reducible apply State.fsat_frame | with_reducible apply retireCmd_frame | extract_lets | split)

theorem postEvent_frame {fm : Nat} {s0 : State} (hm : Sub 0x10001 fm) (r : Nat) (e : EvEntry) (s : State) (h : Frame fm s0 s) :
    Frame fm s0 ((postEvent r e s)) := by
  unfold postEvent
  repeat' (first | exact Sub.trans (by decide) hm | intro _ | with_reducible assumption | with_reducible apply loseEvent_frame | with_reducible apply setDue_frame | with_reducible apply Frame.ite | split)

theorem writeEventEntry_frame {fm : Nat} {s0 : State} (hm : Sub 0x30001 fm) (r : Nat) (s : State) (h : Frame fm s0 s) :
    Frame fm s0 ((writeEventEntry r s)) := by
  unfold writeEventEntry
  repeat' (first | exact Sub.trans (by decide) hm | intro _ | with_reducible assumption | with_reducible apply State.fs_frame | with_reducible apply State.fsat_frame | with_reducible apply hostWrite_frame | with_reducible apply loseEvent_frame | with_reducible apply setDue_frame | with_reducible apply Frame.ite | (simp only [Frame_mk]; first | with_reducible apply FrameC.rings_upd) | extract_lets | split)

theorem modCmd_frame {fm : Nat} {s0 : State} (hm : Sub 0x10000 fm) (k : CmdKey) (f : Cmd → Cmd) (s : State) (h : Frame fm s0 s) :
    Frame fm s0 ((modCmd k f s)) := by
  unfold modCmd
  repeat' (first | exact Sub.trans (by decide) hm | intro _ | with_reducible assumption | (simp only [Frame_mk]; first | with_reducible apply FrameC.rings_upd) | extract_lets)

theorem completeCmd_frame {fm : Nat} {s0 : State} (hm : Sub 0x10001 fm) (k : CmdKey) (status result : Nat) (s : State) (h : Frame fm s0 s) :
    Frame fm s0 ((completeCmd k status result s)) := by
  unfold completeCmd
  repeat' (first | exact Sub.trans (by decide) hm | intro _ | with_reducible assumption | with_reducible apply loseEvent_frame | with_reducible apply modCmd_frame | with_reducible apply postEvent_frame | with_reducible apply Frame.ite | extract_lets | split)

theorem completeTick_frame {fm : Nat} {s0 : State} (hm : Sub 0x32befbd fm) (k : CmdKey) (status tick : Nat) (s : State) (h : Frame fm s0 s) :
    Frame fm s0 ((completeTick k status tick s)) := by
  unfold completeTick
  repeat' (first | exact Sub.trans (by decide) hm | intro _ | with_reducible assumption | with_reducible apply completeCmd_frame | with_reducible apply tick_frame)

theorem finishWithBytes_frame {fm : Nat} {s0 : State} (hm : Sub 0x30001 fm) (k : CmdKey) (addr : Nat) (bytes : List Nat) (status result : Nat) (s : State) (h : Frame fm s0 s) :
    Frame fm s0 ((finishWithBytes k addr bytes status result s)) := by
  unfold finishWithBytes
  repeat' (first | exact Sub.trans (by decide) hm | intro _ | with_reducible assumption | with_reducible apply completeCmd_frame | with_reducible apply hostWriteBytes_frame | with_reducible apply modCmd_frame | with_reducible apply Frame.ite | extract_lets | split)

/-! ### Services -/

theorem pushSeq_frame {fm : Nat} {s0 : State} (hm : Sub 0x400 fm) (e : SeqEvent) (s : State) (h : Frame fm s0 s) :
    Frame fm s0 ((pushSeq e s)) := by
  unfold pushSeq
  repeat' (first | exact Sub.trans (by decide) hm | intro _ | with_reducible assumption | with_reducible apply Frame.ite | (simp only [Frame_mk]; first | with_reducible apply FrameC.trace_upd) | extract_lets | split)

theorem centralHits_frame {fm : Nat} {s0 : State} (hm : Sub 0x400 fm) (src : Nat) (f : Nat → Bool) (s : State) (h : Frame fm s0 s) :
    Frame fm s0 ((centralHits src f s)) := by
  unfold centralHits
  repeat' (first | exact Sub.trans (by decide) hm | intro _ | with_reducible assumption | with_reducible apply pushSeq_frame | with_reducible apply Frame.ite | with_reducible apply Frame.foldl | split)

theorem issueRead_frame {fm : Nat} {s0 : State} (hm : Sub 0x20000 fm) (q : LineReq) (s : State) (h : Frame fm s0 s) :
    Frame fm s0 ((issueRead q s)) := by
  unfold issueRead
  repeat' (first | exact Sub.trans (by decide) hm | intro _ | with_reducible assumption | with_reducible apply Frame.ite | (simp only [Frame_mk]; first | with_reducible apply FrameC.bus_upd) | extract_lets | split)

theorem issueWrite_frame {fm : Nat} {s0 : State} (hm : Sub 0x20000 fm) (q : LineReq) (s : State) (h : Frame fm s0 s) :
    Frame fm s0 ((issueWrite q s)) := by
  unfold issueWrite
  repeat' (first | exact Sub.trans (by decide) hm | intro _ | with_reducible assumption | with_reducible apply Frame.ite | (simp only [Frame_mk]; first | with_reducible apply FrameC.bus_upd) | extract_lets | split)

theorem crossBulk_frame {fm : Nat} {s0 : State} (hm : Sub 0x20000 fm) (b : FabBeat) (s : State) (h : Frame fm s0 s) :
    Frame fm s0 ((crossBulk b s)) := by
  unfold crossBulk
  repeat' (first | exact Sub.trans (by decide) hm | intro _ | with_reducible assumption | (simp only [Frame_mk]; first | with_reducible apply FrameC.bus_upd) | extract_lets | split)

theorem presentBulk_frame {fm : Nat} {s0 : State} (hm : Sub 0x20000 fm) (b : FabBeat) (s : State) (h : Frame fm s0 s) :
    Frame fm s0 ((presentBulk b s)) := by
  unfold presentBulk
  repeat' (first | exact Sub.trans (by decide) hm | intro _ | with_reducible assumption | with_reducible apply crossBulk_frame | with_reducible apply Frame.ite | (simp only [Frame_mk]; first | with_reducible apply FrameC.bus_upd) | extract_lets | split)

theorem readLeaves_frame {fm : Nat} {s0 : State} (hm : Sub 0x20000 fm) (s : State) (h : Frame fm s0 s) :
    Frame fm s0 ((readLeaves s)) := by
  unfold readLeaves
  repeat' (first | exact Sub.trans (by decide) hm | intro _ | with_reducible assumption | with_reducible apply Frame.ite | (simp only [Frame_mk]; first | with_reducible apply FrameC.bus_upd) | extract_lets | split)

theorem writeLeaves_frame {fm : Nat} {s0 : State} (hm : Sub 0x20000 fm) (s : State) (h : Frame fm s0 s) :
    Frame fm s0 ((writeLeaves s)) := by
  unfold writeLeaves
  repeat' (first | exact Sub.trans (by decide) hm | intro _ | with_reducible assumption | with_reducible apply Frame.ite | (simp only [Frame_mk]; first | with_reducible apply FrameC.bus_upd) | extract_lets | split)

theorem bulkLeaves_frame {fm : Nat} {s0 : State} (hm : Sub 0x20000 fm) (s : State) (h : Frame fm s0 s) :
    Frame fm s0 ((bulkLeaves s)) := by
  unfold bulkLeaves
  repeat' (first | exact Sub.trans (by decide) hm | intro _ | with_reducible assumption | with_reducible apply crossBulk_frame | with_reducible apply Frame.ite | (simp only [Frame_mk]; first | with_reducible apply FrameC.bus_upd) | extract_lets | split)

theorem portsTick_frame {fm : Nat} {s0 : State} (hm : Sub 0x20000 fm) (s : State) (h : Frame fm s0 s) :
    Frame fm s0 ((portsTick s)) := by
  unfold portsTick
  repeat' (first | exact Sub.trans (by decide) hm | intro _ | with_reducible assumption | with_reducible apply bulkLeaves_frame | with_reducible apply readLeaves_frame | with_reducible apply writeLeaves_frame | with_reducible apply Frame.ite | split)

theorem formFanOut_frame {fm : Nat} {s0 : State} (hm : Sub 0x8001 fm) (nclass : Nat) (mk : Nat → List Nat) (budgetFrom : Nat) (cmd : Option CmdKey) (s : State) (h : Frame fm s0 s) :
    Frame fm s0 ((formFanOut nclass mk budgetFrom cmd s).2) := by
  unfold formFanOut
  repeat' (first | exact Sub.trans (by decide) hm | intro _ | with_reducible assumption | with_reducible refine Frame.pair ‹_› ?_ | with_reducible apply State.fs_frame | with_reducible apply State.fsat_frame | with_reducible apply Frame.refl | with_reducible apply Frame.ite | with_reducible apply Frame.when | with_reducible apply Frame.foldl | (simp only [Frame_mk]; first | with_reducible apply FrameC.notice_upd) | extract_lets | split | (show Memory.wf [] = true; rfl) | (apply memPutBytes_wf; assumption) | (apply ringPut_wf; assumption) | (show Memory.wf _ = true; assumption) | (dsimp +zetaDelta only))

theorem resetNotice_frame {fm : Nat} {s0 : State} (hm : Sub 0x8001 fm) (step unit part : Nat) (s : State) (h : Frame fm s0 s) :
    Frame fm s0 ((resetNotice step unit part s)) := by
  unfold resetNotice
  repeat' (first | exact Sub.trans (by decide) hm | intro _ | with_reducible assumption | with_reducible refine Frame.pair ‹_› ?_ | with_reducible apply formFanOut_frame | with_reducible apply Frame.ite | split)

theorem milestone_frame {fm : Nat} {s0 : State} (hm : Sub 0x10001 fm) (m step num ts late : Nat) (s : State) (h : Frame fm s0 s) :
    Frame fm s0 ((milestone m step num ts late s)) := by
  unfold milestone
  repeat' (first | exact Sub.trans (by decide) hm | intro _ | with_reducible assumption | with_reducible apply State.fs_frame | with_reducible apply postEvent_frame | with_reducible apply State.wr64_frame | with_reducible apply Frame.ite | extract_lets | split)

theorem driveRstq_frame {fm : Nat} {s0 : State} (hm : Sub 0x4008 fm) (s : State) (h : Frame fm s0 s) :
    Frame fm s0 ((driveRstq s)) := by
  unfold driveRstq
  repeat' (first | exact Sub.trans (by decide) hm | intro _ | with_reducible assumption | with_reducible apply Frame.ite | (simp only [Frame_mk]; first | with_reducible apply FrameC.ladder_upd | with_reducible apply FrameC.pins_upd | with_reducible apply FrameC.pins_ladder_upd) | extract_lets | split)

theorem presentStep_frame {fm : Nat} {s0 : State} (hm : Sub 0x20c009 fm) (step unit part : Nat) (s : State) (h : Frame fm s0 s) :
    Frame fm s0 ((presentStep step unit part s)) := by
  unfold presentStep
  repeat' (first | exact Sub.trans (by decide) hm | intro _ | with_reducible assumption | with_reducible apply driveRstq_frame | with_reducible apply State.fs_frame | with_reducible apply resetNotice_frame | with_reducible apply Frame.ite | (simp only [Frame_mk]; first | with_reducible apply FrameC.cont_upd | with_reducible apply FrameC.ladder_upd) | extract_lets | split)

theorem startLadder_frame {fm : Nat} {s0 : State} (hm : Sub 0x21c009 fm) (q : ResetReq) (s : State) (h : Frame fm s0 s) :
    Frame fm s0 ((startLadder q s)) := by
  unfold startLadder
  repeat' (first | exact Sub.trans (by decide) hm | intro _ | with_reducible assumption | with_reducible apply State.fs_frame | with_reducible apply milestone_frame | with_reducible apply presentStep_frame | with_reducible apply State.wr_frame | with_reducible apply State.wr64_frame | with_reducible apply Frame.ite | with_reducible apply Frame.foldl | (simp only [Frame_mk]; first | with_reducible apply FrameC.ladder_upd) | extract_lets | split)

theorem mergeReset_frame {fm : Nat} {s0 : State} (hm : Sub 0x4000 fm) (q : ResetReq) (s : State) (h : Frame fm s0 s) :
    Frame fm s0 ((mergeReset q s)) := by
  unfold mergeReset
  repeat' (first | exact Sub.trans (by decide) hm | intro _ | with_reducible assumption | (simp only [Frame_mk]; first | with_reducible apply FrameC.ladder_upd) | extract_lets | split)

theorem takeReset_frame {fm : Nat} {s0 : State} (hm : Sub 0x21c009 fm) (q0 : ResetReq) (s : State) (h : Frame fm s0 s) :
    Frame fm s0 ((takeReset q0 s).2) := by
  unfold takeReset
  repeat' (first | exact Sub.trans (by decide) hm | intro _ | with_reducible assumption | with_reducible refine Frame.pair ‹_› ?_ | with_reducible apply State.fs_frame | with_reducible apply mergeReset_frame | with_reducible apply startLadder_frame | with_reducible apply Frame.refl | with_reducible apply Frame.ite | with_reducible apply Frame.when | with_reducible apply Frame.foldl | (simp only [Frame_mk]; first | with_reducible apply FrameC.ladder_upd) | extract_lets | split | (show Memory.wf [] = true; rfl) | (apply memPutBytes_wf; assumption) | (apply ringPut_wf; assumption) | (show Memory.wf _ = true; assumption) | (dsimp +zetaDelta only))

theorem requestReset_frame {fm : Nat} {s0 : State} (hm : Sub 0x21c009 fm) (q0 : ResetReq) (s : State) (h : Frame fm s0 s) :
    Frame fm s0 ((requestReset q0 s).2) := by
  unfold requestReset
  repeat' (first | exact Sub.trans (by decide) hm | intro _ | with_reducible assumption | with_reducible refine Frame.pair ‹_› ?_ | with_reducible apply State.fs_frame | with_reducible apply takeReset_frame | with_reducible apply Frame.ite | (simp only [Frame_mk]; first | with_reducible apply FrameC.ladder_upd) | extract_lets | split)

theorem takeQueue_frame {fm : Nat} {s0 : State} (hm : Sub 0x21c009 fm) (doneStep : Option (Nat × Nat × Nat)) (z0 : List ResetReq) (z1 : List (CmdKey × Bool)) (z2 : State) (h : Frame fm s0 z2) :
    Frame fm s0 ((takeQueue doneStep z0 z1 z2).2) := by
  induction z0 generalizing z1 z2 with
  | nil =>
    unfold takeQueue
    repeat' (first | exact Sub.trans (by decide) hm | intro _ | with_reducible assumption | with_reducible refine Frame.pair ‹_› ?_ | with_reducible apply State.fs_frame | with_reducible apply startLadder_frame | with_reducible apply Frame.ite | (simp only [Frame_mk]; first | with_reducible apply FrameC.ladder_upd) | extract_lets | split)
  | cons a l ih =>
    unfold takeQueue
    repeat' (first | exact Sub.trans (by decide) hm | intro _ | with_reducible assumption | with_reducible apply ih | with_reducible refine Frame.pair ‹_› ?_ | with_reducible apply State.fs_frame | with_reducible apply startLadder_frame | with_reducible apply Frame.ite | (simp only [Frame_mk]; first | with_reducible apply FrameC.ladder_upd) | extract_lets | split)

theorem releaseWaiting_frame {fm : Nat} {s0 : State} (hm : Sub 0x21c009 fm) (s : State) (h : Frame fm s0 s) :
    Frame fm s0 ((releaseWaiting s)) := by
  unfold releaseWaiting
  repeat' (first | exact Sub.trans (by decide) hm | intro _ | with_reducible assumption | with_reducible refine Frame.pair ‹_› ?_ | with_reducible apply completeCmd_frame | with_reducible apply State.fs_frame | with_reducible apply takeReset_frame | with_reducible apply Frame.foldl | (simp only [Frame_mk]; first | with_reducible apply FrameC.ladder_upd) | extract_lets | split)

theorem askDump_frame {fm : Nat} {s0 : State} (hm : Sub 0x2001 fm) (q : DumpReq) (s : State) (h : Frame fm s0 s) :
    Frame fm s0 ((askDump q s).2) := by
  unfold askDump
  repeat' (first | exact Sub.trans (by decide) hm | intro _ | with_reducible assumption | with_reducible refine Frame.pair ‹_› ?_ | with_reducible apply State.fs_frame | with_reducible apply Frame.ite | (simp only [Frame_mk]; first | with_reducible apply FrameC.lehr_upd) | extract_lets | split)

/-! ### Faults -/

theorem refuseReadout_frame {fm : Nat} {s0 : State} (hm : Sub 0x32befbd fm) (q : ReadReq) (s : State) (h : Frame fm s0 s) :
    Frame fm s0 ((refuseReadout q s)) := by
  unfold refuseReadout
  repeat' (first | exact Sub.trans (by decide) hm | intro _ | with_reducible assumption | with_reducible apply completeTick_frame | with_reducible apply State.fs_frame | with_reducible apply tick_frame | extract_lets | split)

theorem askReadout_frame {fm : Nat} {s0 : State} (hm : Sub 0x32befbd fm) (q : ReadReq) (s : State) (h : Frame fm s0 s) :
    Frame fm s0 ((askReadout q s).2) := by
  unfold askReadout
  repeat' (first | exact Sub.trans (by decide) hm | intro _ | with_reducible assumption | with_reducible refine Frame.pair ‹_› ?_ | with_reducible apply State.fs_frame | with_reducible apply refuseReadout_frame | with_reducible apply Frame.ite | (simp only [Frame_mk]; first | with_reducible apply FrameC.cullet_upd) | extract_lets | split)

theorem takeActions_frame {fm : Nat} {s0 : State} (hm : Sub 0x21e009 fm) (r : FaultRec) (fseq : Nat) (s : State) (h : Frame fm s0 s) :
    Frame fm s0 ((takeActions r fseq s).2) := by
  unfold takeActions
  repeat' (first | exact Sub.trans (by decide) hm | intro _ | with_reducible assumption | with_reducible refine Frame.pair ‹_› ?_ | with_reducible apply askDump_frame | with_reducible apply formFanOut_frame | with_reducible apply requestReset_frame | with_reducible apply Frame.refl | with_reducible apply Frame.ite | with_reducible apply Frame.when | with_reducible apply Frame.foldl | extract_lets | split | (show Memory.wf [] = true; rfl) | (apply memPutBytes_wf; assumption) | (apply ringPut_wf; assumption) | (show Memory.wf _ = true; assumption) | (dsimp +zetaDelta only))

theorem takeSnap_frame {fm : Nat} {s0 : State} (hm : Sub 0x32befbd fm) (r : FaultRec) (acts : Nat) (s : State) (h : Frame fm s0 s) :
    Frame fm s0 ((takeSnap r acts s).2) := by
  unfold takeSnap
  repeat' (first | exact Sub.trans (by decide) hm | intro _ | with_reducible assumption | with_reducible refine Frame.pair ‹_› ?_ | with_reducible apply askReadout_frame | with_reducible apply Frame.ite | extract_lets | split)

theorem logRecord_frame {fm : Nat} {s0 : State} (hm : Sub 0x10401 fm) (r : FaultRec) (s : State) (h : Frame fm s0 s) :
    Frame fm s0 ((logRecord r s)) := by
  unfold logRecord
  repeat' (first | exact Sub.trans (by decide) hm | intro _ | with_reducible assumption | with_reducible apply centralHits_frame | with_reducible apply State.fs_frame | with_reducible apply State.fsat_frame | with_reducible apply postEvent_frame | with_reducible apply State.wrWords_frame | with_reducible apply Frame.ite | extract_lets | split)

theorem logFault_frame {fm : Nat} {s0 : State} (hm : Sub 0x32befbd fm) (r : FaultRec) (s : State) (h : Frame fm s0 s) :
    Frame fm s0 ((logFault r s)) := by
  unfold logFault
  repeat' (first | exact Sub.trans (by decide) hm | intro _ | with_reducible assumption | with_reducible refine Frame.pair ‹_› ?_ | with_reducible apply logRecord_frame | with_reducible apply takeActions_frame | with_reducible apply takeSnap_frame | extract_lets | split)

theorem logTaken_frame {fm : Nat} {s0 : State} (hm : Sub 0x32befbd fm) (r : FaultRec) (acts : Nat) (s : State) (h : Frame fm s0 s) :
    Frame fm s0 ((logTaken r acts s)) := by
  unfold logTaken
  repeat' (first | exact Sub.trans (by decide) hm | intro _ | with_reducible assumption | with_reducible refine Frame.pair ‹_› ?_ | with_reducible apply logRecord_frame | with_reducible apply takeSnap_frame | extract_lets | split)

theorem centralFault_frame {fm : Nat} {s0 : State} (hm : Sub 0x32befbd fm) (code ctx : Nat) (unit : Option Nat) (d0 d1 d2 : Nat) (s : State) (h : Frame fm s0 s) :
    Frame fm s0 ((centralFault code ctx unit d0 d1 d2 s)) := by
  unfold centralFault
  repeat' (first | exact Sub.trans (by decide) hm | intro _ | with_reducible assumption | with_reducible apply logFault_frame)

theorem serviceMiss_frame {fm : Nat} {s0 : State} (hm : Sub 0x32befbd fm) (k start : Nat) (s : State) (h : Frame fm s0 s) :
    Frame fm s0 ((serviceMiss k start s)) := by
  unfold serviceMiss
  repeat' (first | exact Sub.trans (by decide) hm | intro _ | with_reducible assumption | with_reducible apply centralFault_frame)

/-! ### Station -/

theorem setStn_frame {fm : Nat} {s0 : State} (hm : Sub 0x10 fm) (n : Nat) (x : Station) (s : State) (h : Frame fm s0 s) :
    Frame fm s0 ((setStn n x s)) := by
  unfold setStn
  repeat' (first | exact Sub.trans (by decide) hm | intro _ | with_reducible assumption | (simp only [Frame_mk]; first | with_reducible apply FrameC.stations_upd) | extract_lets)

theorem modStn_frame {fm : Nat} {s0 : State} (hm : Sub 0x10 fm) (n : Nat) (f : Station → Station) (s : State) (h : Frame fm s0 s) :
    Frame fm s0 ((modStn n f s)) := by
  unfold modStn
  repeat' (first | exact Sub.trans (by decide) hm | intro _ | with_reducible assumption | with_reducible apply setStn_frame)

theorem setPort_frame {fm : Nat} {s0 : State} (hm : Sub 0x10 fm) (u : Nat) (p : Port) (s : State) (h : Frame fm s0 s) :
    Frame fm s0 ((setPort u p s)) := by
  unfold setPort
  repeat' (first | exact Sub.trans (by decide) hm | intro _ | with_reducible assumption | with_reducible apply modStn_frame | extract_lets)

theorem modPort_frame {fm : Nat} {s0 : State} (hm : Sub 0x10 fm) (u : Nat) (f : Port → Port) (s : State) (h : Frame fm s0 s) :
    Frame fm s0 ((modPort u f s)) := by
  unfold modPort
  repeat' (first | exact Sub.trans (by decide) hm | intro _ | with_reducible assumption | with_reducible apply setPort_frame)

theorem offerMsg_frame {fm : Nat} {s0 : State} (hm : Sub 0x10 fm) (n : Nat) (m : UpMsg) (s : State) (h : Frame fm s0 s) :
    Frame fm s0 ((offerMsg n m s)) := by
  unfold offerMsg
  repeat' (first | exact Sub.trans (by decide) hm | intro _ | with_reducible assumption | with_reducible apply modStn_frame)

theorem sendNote_frame {fm : Nat} {s0 : State} (hm : Sub 0x10 fm) (n : Nat) (w : Nat) (s : State) (h : Frame fm s0 s) :
    Frame fm s0 ((sendNote n w s)) := by
  unfold sendNote
  repeat' (first | exact Sub.trans (by decide) hm | intro _ | with_reducible assumption | with_reducible apply modStn_frame | extract_lets)

theorem noteWrap_frame {fm : Nat} {s0 : State} (hm : Sub 0x11 fm) (n code : Nat) (s : State) (h : Frame fm s0 s) :
    Frame fm s0 ((noteWrap n code s)) := by
  unfold noteWrap
  repeat' (first | exact Sub.trans (by decide) hm | intro _ | with_reducible assumption | with_reducible apply State.fsat_frame | with_reducible apply setStn_frame | with_reducible apply Frame.ite | extract_lets | split)

theorem ctrAdd_frame {fm : Nat} {s0 : State} (hm : Sub 0x11 fm) (n lo hi code d : Nat) (s : State) (h : Frame fm s0 s) :
    Frame fm s0 ((ctrAdd n lo hi code d s)) := by
  unfold ctrAdd
  repeat' (first | exact Sub.trans (by decide) hm | intro _ | with_reducible assumption | with_reducible apply noteWrap_frame | with_reducible apply State.wrN_frame | with_reducible apply Frame.ite | extract_lets | split)

theorem aoAdd_frame {fm : Nat} {s0 : State} (hm : Sub 0x11 fm) (u k d : Nat) (s : State) (h : Frame fm s0 s) :
    Frame fm s0 ((aoAdd u k d s)) := by
  unfold aoAdd
  repeat' (first | exact Sub.trans (by decide) hm | intro _ | with_reducible assumption | with_reducible apply ctrAdd_frame)

theorem pcAdd_frame {fm : Nat} {s0 : State} (hm : Sub 0x11 fm) (n i d : Nat) (s : State) (h : Frame fm s0 s) :
    Frame fm s0 ((pcAdd n i d s)) := by
  unfold pcAdd
  repeat' (first | exact Sub.trans (by decide) hm | intro _ | with_reducible assumption | with_reducible apply ctrAdd_frame)

theorem pcSet_frame {fm : Nat} {s0 : State} (hm : Sub 0x1 fm) (n i v : Nat) (s : State) (h : Frame fm s0 s) :
    Frame fm s0 ((pcSet n i v s)) := by
  unfold pcSet
  repeat' (first | exact Sub.trans (by decide) hm | intro _ | with_reducible assumption | with_reducible apply State.wrN_frame | with_reducible apply Frame.ite | extract_lets | split)

theorem pcStation_frame {fm : Nat} {s0 : State} (hm : Sub 0x11 fm) (n code d : Nat) (s : State) (h : Frame fm s0 s) :
    Frame fm s0 ((pcStation n code d s)) := by
  unfold pcStation
  repeat' (first | exact Sub.trans (by decide) hm | intro _ | with_reducible assumption | with_reducible apply pcAdd_frame | with_reducible apply Frame.ite | with_reducible apply Frame.foldl | split)

theorem pcEvent_frame {fm : Nat} {s0 : State} (hm : Sub 0x11 fm) (u code : Nat) (ctxs : List Nat) (on : Nat → Bool) (s : State) (h : Frame fm s0 s) :
    Frame fm s0 ((pcEvent u code ctxs on s)) := by
  unfold pcEvent
  repeat' (first | exact Sub.trans (by decide) hm | intro _ | with_reducible assumption | with_reducible apply pcAdd_frame | with_reducible apply Frame.ite | with_reducible apply Frame.foldl | extract_lets | split)

theorem pcIncr_frame {fm : Nat} {s0 : State} (hm : Sub 0x11 fm) (u : Nat) (inc : Nat → Nat) (takers : List (Nat × QRec)) (s : State) (h : Frame fm s0 s) :
    Frame fm s0 ((pcIncr u inc takers s)) := by
  unfold pcIncr
  repeat' (first | exact Sub.trans (by decide) hm | intro _ | with_reducible assumption | with_reducible apply pcAdd_frame | with_reducible apply Frame.ite | with_reducible apply Frame.foldl | extract_lets | split)

theorem pcBegin_frame {fm : Nat} {s0 : State} (hm : Sub 0x11 fm) (u queue ctx : Nat) (s : State) (h : Frame fm s0 s) :
    Frame fm s0 ((pcBegin u queue ctx s)) := by
  unfold pcBegin
  repeat' (first | exact Sub.trans (by decide) hm | intro _ | with_reducible assumption | with_reducible apply modStn_frame | with_reducible apply pcSet_frame | with_reducible apply Frame.ite | with_reducible apply Frame.foldl | extract_lets | split)

theorem pcUnitReset_frame {fm : Nat} {s0 : State} (hm : Sub 0x10 fm) (u : Nat) (s : State) (h : Frame fm s0 s) :
    Frame fm s0 ((pcUnitReset u s)) := by
  unfold pcUnitReset
  repeat' (first | exact Sub.trans (by decide) hm | intro _ | with_reducible assumption | with_reducible apply modStn_frame | with_reducible apply Frame.ite | with_reducible apply Frame.foldl | extract_lets | split)

theorem attrBegin_frame {fm : Nat} {s0 : State} (hm : Sub 0x11 fm) (u : Nat) (e : Event) (s : State) (h : Frame fm s0 s) :
    Frame fm s0 ((attrBegin u e s)) := by
  unfold attrBegin
  repeat' (first | exact Sub.trans (by decide) hm | intro _ | with_reducible assumption | with_reducible refine Frame.pair ‹_› ?_ | with_reducible apply State.free_frame | with_reducible apply State.fs_frame | with_reducible apply setStn_frame | with_reducible apply Frame.ite | extract_lets | split)

theorem attrField_frame {fm : Nat} {s0 : State} (hm : Sub 0x11 fm) (n i field v d ctx : Nat) (s : State) (h : Frame fm s0 s) :
    Frame fm s0 ((attrField n i field v d ctx s).2) := by
  unfold attrField
  repeat' (first | exact Sub.trans (by decide) hm | intro _ | with_reducible assumption | with_reducible refine Frame.pair ‹_› ?_ | with_reducible apply noteWrap_frame | with_reducible apply Frame.ite | extract_lets | split)

theorem attrCharge_frame {fm : Nat} {s0 : State} (hm : Sub 0x11 fm) (u energy rd wr : Nat) (s : State) (h : Frame fm s0 s) :
    Frame fm s0 ((attrCharge u energy rd wr s)) := by
  unfold attrCharge
  repeat' (first | exact Sub.trans (by decide) hm | intro _ | with_reducible assumption | with_reducible refine Frame.pair ‹_› ?_ | with_reducible apply attrField_frame | with_reducible apply modStn_frame | with_reducible apply State.wr_frame | with_reducible apply Frame.ite | with_reducible apply Frame.foldl | extract_lets | split)

theorem attrClear_frame {fm : Nat} {s0 : State} (hm : Sub 0x11 fm) (n : Nat) (s : State) (h : Frame fm s0 s) :
    Frame fm s0 ((attrClear n s)) := by
  unfold attrClear
  repeat' (first | exact Sub.trans (by decide) hm | intro _ | with_reducible assumption | with_reducible apply State.fs_frame | with_reducible apply modStn_frame | extract_lets)

theorem addRequest_frame {fm : Nat} {s0 : State} (hm : Sub 0x80 fm) (q : CutReq) (s : State) (h : Frame fm s0 s) :
    Frame fm s0 ((addRequest q s)) := by
  unfold addRequest
  repeat' (first | exact Sub.trans (by decide) hm | intro _ | with_reducible assumption | (simp only [Frame_mk]; first | with_reducible apply FrameC.shear_upd) | extract_lets)

theorem addRun_frame {fm : Nat} {s0 : State} (hm : Sub 0x80 fm) (stop : Bool) (n r : Nat) (s : State) (h : Frame fm s0 s) :
    Frame fm s0 ((addRun stop n r s)) := by
  unfold addRun
  repeat' (first | exact Sub.trans (by decide) hm | intro _ | with_reducible assumption | with_reducible apply addRequest_frame | with_reducible apply Frame.ite | (simp only [Frame_mk]; first | with_reducible apply FrameC.shear_upd) | extract_lets | split)

theorem stnTrigger_frame {fm : Nat} {s0 : State} (hm : Sub 0x80 fm) (n : Nat) (stop : Bool) (s : State) (h : Frame fm s0 s) :
    Frame fm s0 ((stnTrigger n stop s).2) := by
  unfold stnTrigger
  repeat' (first | exact Sub.trans (by decide) hm | intro _ | with_reducible assumption | with_reducible refine Frame.pair ‹_› ?_ | with_reducible apply addRun_frame | with_reducible apply Frame.ite | extract_lets | split)

theorem centralTrigger_frame {fm : Nat} {s0 : State} (hm : Sub 0x80 fm) (x cls src : Nat) (who : CutWho) (s : State) (h : Frame fm s0 s) :
    Frame fm s0 ((centralTrigger x cls src who s)) := by
  unfold centralTrigger
  repeat' (first | exact Sub.trans (by decide) hm | intro _ | with_reducible assumption | with_reducible apply addRequest_frame | extract_lets)

theorem releaseOvf_frame {fm : Nat} {s0 : State} (hm : Sub 0x11 fm) (n : Nat) (s : State) (h : Frame fm s0 s) :
    Frame fm s0 ((releaseOvf n s)) := by
  unfold releaseOvf
  repeat' (first | exact Sub.trans (by decide) hm | intro _ | with_reducible assumption | with_reducible apply setStn_frame | with_reducible apply State.wr_frame | with_reducible apply Frame.ite | extract_lets | split)

theorem placeFault_frame {fm : Nat} {s0 : State} (hm : Sub 0x11 fm) (n : Nat) (f : StnFault) (s : State) (h : Frame fm s0 s) :
    Frame fm s0 ((placeFault n f s)) := by
  unfold placeFault
  repeat' (first | exact Sub.trans (by decide) hm | intro _ | with_reducible assumption | with_reducible apply State.fs_frame | with_reducible apply State.fsat_frame | with_reducible apply setStn_frame | with_reducible apply Frame.ite | extract_lets | split)

theorem placeFormed_frame {fm : Nat} {s0 : State} (hm : Sub 0x91 fm) (u : Nat) (r : FaultRec) (s : State) (h : Frame fm s0 s) :
    Frame fm s0 ((placeFormed u r s)) := by
  unfold placeFormed
  repeat' (first | exact Sub.trans (by decide) hm | intro _ | with_reducible assumption | with_reducible refine Frame.pair ‹_› ?_ | with_reducible apply placeFault_frame | with_reducible apply stnTrigger_frame | with_reducible apply Frame.ite | extract_lets | split)

theorem formFault_frame {fm : Nat} {s0 : State} (hm : Sub 0x91 fm) (u code : Nat) (q : Option (Nat × QRec)) (d0 d1 d2 flags : Nat) (s : State) (h : Frame fm s0 s) :
    Frame fm s0 ((formFault u code q d0 d1 d2 flags s)) := by
  unfold formFault
  repeat' (first | exact Sub.trans (by decide) hm | intro _ | with_reducible assumption | with_reducible apply placeFormed_frame)

theorem latchFault_frame {fm : Nat} {s0 : State} (hm : Sub 0x91 fm) (u k code d0 d1 d2 : Nat) (s : State) (h : Frame fm s0 s) :
    Frame fm s0 ((latchFault u k code d0 d1 d2 s)) := by
  unfold latchFault
  repeat' (first | exact Sub.trans (by decide) hm | intro _ | with_reducible assumption | with_reducible apply formFault_frame | with_reducible apply State.fs_frame | with_reducible apply State.fsat_frame | with_reducible apply Frame.ite | extract_lets | split)

theorem protoViolation_frame {fm : Nat} {s0 : State} (hm : Sub 0x91 fm) (u row : Nat) (ctxs : List Nat) (queue : Option Nat) (s : State) (h : Frame fm s0 s) :
    Frame fm s0 ((protoViolation u row ctxs queue s)) := by
  unfold protoViolation
  repeat' (first | exact Sub.trans (by decide) hm | intro _ | with_reducible assumption | with_reducible apply latchFault_frame | with_reducible apply pcEvent_frame | extract_lets)

theorem clearLatches_frame {fm : Nat} {s0 : State} (hm : Sub 0x1 fm) (u : Nat) (s : State) (h : Frame fm s0 s) :
    Frame fm s0 ((clearLatches u s)) := by
  unfold clearLatches
  repeat' (first | exact Sub.trans (by decide) hm | intro _ | with_reducible assumption | with_reducible apply State.fs_frame | with_reducible apply Frame.foldl)

theorem addAct_frame {fm : Nat} {s0 : State} (hm : Sub 0x10 fm) (n cyc : Nat) (a : StnAct) (s : State) (h : Frame fm s0 s) :
    Frame fm s0 ((addAct n cyc a s)) := by
  unfold addAct
  repeat' (first | exact Sub.trans (by decide) hm | intro _ | with_reducible assumption | with_reducible apply modStn_frame | extract_lets)

theorem dropDrain_frame {fm : Nat} {s0 : State} (hm : Sub 0x10 fm) (n p : Nat) (s : State) (h : Frame fm s0 s) :
    Frame fm s0 ((dropDrain n p s)) := by
  unfold dropDrain
  repeat' (first | exact Sub.trans (by decide) hm | intro _ | with_reducible assumption | with_reducible apply modStn_frame | extract_lets)

theorem driveSh_frame {fm : Nat} {s0 : State} (hm : Sub 0x11 fm) (u : Nat) (s : State) (h : Frame fm s0 s) :
    Frame fm s0 ((driveSh u s)) := by
  unfold driveSh
  repeat' (first | exact Sub.trans (by decide) hm | intro _ | with_reducible assumption | with_reducible apply addAct_frame | with_reducible apply State.fs_frame | with_reducible apply setPort_frame | with_reducible apply Frame.ite | extract_lets | split)

theorem driveStn_frame {fm : Nat} {s0 : State} (hm : Sub 0x11 fm) (n : Nat) (s : State) (h : Frame fm s0 s) :
    Frame fm s0 ((driveStn n s)) := by
  unfold driveStn
  repeat' (first | exact Sub.trans (by decide) hm | intro _ | with_reducible assumption | with_reducible apply driveSh_frame | with_reducible apply State.fs_frame | with_reducible apply Frame.foldl | extract_lets)

theorem expirePw_frame {fm : Nat} {s0 : State} (hm : Sub 0x91 fm) (u : Nat) (s : State) (h : Frame fm s0 s) :
    Frame fm s0 ((expirePw u s)) := by
  unfold expirePw
  repeat' (first | exact Sub.trans (by decide) hm | intro _ | with_reducible assumption | with_reducible apply latchFault_frame | with_reducible apply modPort_frame | with_reducible apply Frame.ite | extract_lets | split)

theorem freeWd_frame {fm : Nat} {s0 : State} (hm : Sub 0x11 fm) (n : Nat) (f : Watchdog → Bool) (s : State) (h : Frame fm s0 s) :
    Frame fm s0 ((freeWd n f s)) := by
  unfold freeWd
  repeat' (first | exact Sub.trans (by decide) hm | intro _ | with_reducible assumption | with_reducible apply State.fs_frame | with_reducible apply setStn_frame | extract_lets)

theorem missWd_frame {fm : Nat} {s0 : State} (hm : Sub 0x91 fm) (n i : Nat) (w : Watchdog) (s : State) (h : Frame fm s0 s) :
    Frame fm s0 ((missWd n i w s)) := by
  unfold missWd
  repeat' (first | exact Sub.trans (by decide) hm | intro _ | with_reducible assumption | with_reducible apply aoAdd_frame | with_reducible apply formFault_frame | with_reducible apply freeWd_frame | with_reducible apply modStn_frame | with_reducible apply pcEvent_frame | with_reducible apply Frame.ite | extract_lets | split)

theorem expireWd_frame {fm : Nat} {s0 : State} (hm : Sub 0x91 fm) (u : Nat) (s : State) (h : Frame fm s0 s) :
    Frame fm s0 ((expireWd u s)) := by
  unfold expireWd
  repeat' (first | exact Sub.trans (by decide) hm | intro _ | with_reducible assumption | with_reducible apply missWd_frame | with_reducible apply Frame.foldl | extract_lets)

theorem holdChange_frame {fm : Nat} {s0 : State} (hm : Sub 0x91 fm) (u : Nat) (was : Bool) (s : State) (h : Frame fm s0 s) :
    Frame fm s0 ((holdChange u was s)) := by
  unfold holdChange
  repeat' (first | exact Sub.trans (by decide) hm | intro _ | with_reducible assumption | with_reducible apply expireWd_frame | with_reducible apply modPort_frame | with_reducible apply modStn_frame | with_reducible apply Frame.ite | extract_lets | split)

theorem withHolds_frame {fm : Nat} {s0 : State} (hm : Sub 0x91 fm) (n : Nat) (f : State → State) (s : State) (hf : ∀ (x0 : State), Frame fm s0 x0 → Frame fm s0 ((f x0))) (h : Frame fm s0 s) :
    Frame fm s0 ((withHolds n f s)) := by
  unfold withHolds
  repeat' (first | exact Sub.trans (by decide) hm | intro _ | with_reducible assumption | with_reducible apply hf | with_reducible apply driveStn_frame | with_reducible apply holdChange_frame | with_reducible apply Frame.foldl | extract_lets)

theorem bndTouch_frame {fm : Nat} {s0 : State} (hm : Sub 0x10 fm) (n e : Nat) (s : State) (h : Frame fm s0 s) :
    Frame fm s0 ((bndTouch n e s)) := by
  unfold bndTouch
  repeat' (first | exact Sub.trans (by decide) hm | intro _ | with_reducible assumption | with_reducible apply modStn_frame | extract_lets)

theorem bndBegin_frame {fm : Nat} {s0 : State} (hm : Sub 0x11 fm) (u q : Nat) (s : State) (h : Frame fm s0 s) :
    Frame fm s0 ((bndBegin u q s)) := by
  unfold bndBegin
  repeat' (first | exact Sub.trans (by decide) hm | intro _ | with_reducible assumption | with_reducible refine Frame.pair ‹_› ?_ | with_reducible apply bndTouch_frame | with_reducible apply State.free_frame | with_reducible apply State.fs_frame | with_reducible apply modStn_frame | with_reducible apply State.wrWords_frame | with_reducible apply Frame.refl | with_reducible apply Frame.ite | with_reducible apply Frame.when | with_reducible apply Frame.foldl | extract_lets | split | (show Memory.wf [] = true; rfl) | (apply memPutBytes_wf; assumption) | (apply ringPut_wf; assumption) | (show Memory.wf _ = true; assumption) | (dsimp +zetaDelta only))

theorem bndEnd_frame {fm : Nat} {s0 : State} (hm : Sub 0x11 fm) (u q seq ctx epoch : Nat) (s : State) (h : Frame fm s0 s) :
    Frame fm s0 ((bndEnd u q seq ctx epoch s)) := by
  unfold bndEnd
  repeat' (first | exact Sub.trans (by decide) hm | intro _ | with_reducible assumption | with_reducible apply bndTouch_frame | with_reducible apply modStn_frame | with_reducible apply State.wrN_frame | extract_lets | split)

theorem bndLatch_frame {fm : Nat} {s0 : State} (hm : Sub 0x1 fm) (u : Nat) (s : State) (h : Frame fm s0 s) :
    Frame fm s0 ((bndLatch u s)) := by
  unfold bndLatch
  repeat' (first | exact Sub.trans (by decide) hm | intro _ | with_reducible assumption | with_reducible apply State.fs_frame | with_reducible apply State.wrN_frame | with_reducible apply Frame.ite | with_reducible apply Frame.foldl | extract_lets | split)

/-! ### Packets -/

theorem takeAir_frame {fm : Nat} {s0 : State} (hm : Sub 0x10 fm) (n kind : Nat) (s : State) {r : UpMsg} {t : State} (he : takeAir n kind s = some (r, t)) (h : Frame fm s0 s) :
    Frame fm s0 t := by
  unfold takeAir at he
  extract_lets at he
  repeat' split at he
  all_goals first | (cases he; done) | skip
  all_goals (cases he; repeat' (first | exact Sub.trans (by decide) hm | with_reducible assumption | with_reducible apply setStn_frame | (simp only [Frame_mk]; with_reducible apply FrameC.spine_upd)))
theorem takeNote_frame {fm : Nat} {s0 : State} (hm : Sub 0x10 fm) (n kind : Nat) (s : State) {r : Nat} {t : State} (he : takeNote n kind s = some (r, t)) (h : Frame fm s0 s) :
    Frame fm s0 t := by
  unfold takeNote at he
  extract_lets at he
  repeat' split at he
  all_goals first | (cases he; done) | skip
  all_goals (cases he; repeat' (first | exact Sub.trans (by decide) hm | with_reducible assumption | with_reducible apply setStn_frame | (simp only [Frame_mk]; with_reducible apply FrameC.spine_upd)))
theorem syncPort_frame {fm : Nat} {s0 : State} (hm : Sub 0x10 fm) (n p reason : Nat) (s : State) (h : Frame fm s0 s) :
    Frame fm s0 ((syncPort n p reason s)) := by
  unfold syncPort
  repeat' (first | exact Sub.trans (by decide) hm | intro _ | with_reducible assumption | with_reducible apply modStn_frame | with_reducible apply Frame.foldl | extract_lets)

theorem syncStn_frame {fm : Nat} {s0 : State} (hm : Sub 0x10 fm) (n reason : Nat) (s : State) (h : Frame fm s0 s) :
    Frame fm s0 ((syncStn n reason s)) := by
  unfold syncStn
  repeat' (first | exact Sub.trans (by decide) hm | intro _ | with_reducible assumption | with_reducible apply syncPort_frame | with_reducible apply Frame.foldl)

theorem showLost_frame {fm : Nat} {s0 : State} (hm : Sub 0x1 fm) (n : Nat) (s : State) (h : Frame fm s0 s) :
    Frame fm s0 ((showLost n s)) := by
  unfold showLost
  repeat' (first | exact Sub.trans (by decide) hm | intro _ | with_reducible assumption | with_reducible apply State.fs_frame)

theorem losslessHold_frame {fm : Nat} {s0 : State} (hm : Sub 0x11 fm) (n : Nat) (s : State) (h : Frame fm s0 s) :
    Frame fm s0 ((losslessHold n s)) := by
  unfold losslessHold
  repeat' (first | exact Sub.trans (by decide) hm | intro _ | with_reducible assumption | with_reducible apply State.fs_frame | with_reducible apply State.fsat_frame | with_reducible apply modPort_frame | with_reducible apply Frame.ite | with_reducible apply Frame.foldl | extract_lets | split)

theorem releaseHold_frame {fm : Nat} {s0 : State} (hm : Sub 0x91 fm) (n : Nat) (s : State) (h : Frame fm s0 s) :
    Frame fm s0 ((releaseHold n s)) := by
  unfold releaseHold
  repeat' (first | exact Sub.trans (by decide) hm | intro _ | with_reducible assumption | with_reducible apply dropDrain_frame | with_reducible apply State.fs_frame | with_reducible apply setPort_frame | with_reducible apply State.when_frame | with_reducible apply withHolds_frame | with_reducible apply Frame.ite | with_reducible apply Frame.when | with_reducible apply Frame.foldl | extract_lets | split)

theorem losslessRelease_frame {fm : Nat} {s0 : State} (hm : Sub 0x91 fm) (n : Nat) (s : State) (h : Frame fm s0 s) :
    Frame fm s0 ((losslessRelease n s)) := by
  unfold losslessRelease
  repeat' (first | exact Sub.trans (by decide) hm | intro _ | with_reducible assumption | with_reducible apply releaseHold_frame | with_reducible apply Frame.ite | split)

theorem closeTrace_frame {fm : Nat} {s0 : State} (hm : Sub 0x11 fm) (n : Nat) (s : State) (h : Frame fm s0 s) :
    Frame fm s0 ((closeTrace n s)) := by
  unfold closeTrace
  repeat' (first | exact Sub.trans (by decide) hm | intro _ | with_reducible assumption | with_reducible apply State.fsat_frame | with_reducible apply losslessHold_frame | with_reducible apply pcStation_frame | with_reducible apply setStn_frame | with_reducible apply showLost_frame | with_reducible apply Frame.ite | with_reducible apply Frame.foldl | extract_lets | split)

theorem appendUnit_frame {fm : Nat} {s0 : State} (hm : Sub 0x11 fm) (n p : Nat) (body : List Nat) (pkts : Nat) (s : State) (h : Frame fm s0 s) :
    Frame fm s0 ((appendUnit n p body pkts s)) := by
  unfold appendUnit
  repeat' (first | exact Sub.trans (by decide) hm | intro _ | with_reducible assumption | with_reducible apply closeTrace_frame | with_reducible apply modStn_frame | with_reducible apply Frame.ite | extract_lets | split)

theorem formPacket_frame {fm : Nat} {s0 : State} (hm : Sub 0x11 fm) (u src : Nat) (key : Option DictEnt) (mk : Nat → List Nat) (pre : Port) (s : State) (h : Frame fm s0 s) :
    Frame fm s0 ((formPacket u src key mk pre s)) := by
  unfold formPacket
  repeat' (first | exact Sub.trans (by decide) hm | intro _ | with_reducible assumption | with_reducible apply appendUnit_frame | with_reducible apply closeTrace_frame | with_reducible apply State.fsat_frame | with_reducible apply modStn_frame | with_reducible apply showLost_frame | with_reducible apply Frame.ite | with_reducible apply Frame.foldl | extract_lets | split)

theorem coreOvfGap_frame {fm : Nat} {s0 : State} (hm : Sub 0x11 fm) (u src : Nat) (s : State) (h : Frame fm s0 s) :
    Frame fm s0 ((coreOvfGap u src s)) := by
  unfold coreOvfGap
  repeat' (first | exact Sub.trans (by decide) hm | intro _ | with_reducible assumption | with_reducible apply appendUnit_frame | with_reducible apply modStn_frame | extract_lets)

theorem portPacket_frame {fm : Nat} {s0 : State} (hm : Sub 0x11 fm) (u : Nat) (bytes : List Nat) (pre : Port) (s : State) (h : Frame fm s0 s) :
    Frame fm s0 ((portPacket u bytes pre s)) := by
  unfold portPacket
  repeat' (first | exact Sub.trans (by decide) hm | intro _ | with_reducible assumption | with_reducible apply formPacket_frame | with_reducible apply Frame.ite | split)

theorem cmdPacket_frame {fm : Nat} {s0 : State} (hm : Sub 0x11 fm) (u : Nat) (e : Event) (pre : Port) (s : State) (h : Frame fm s0 s) :
    Frame fm s0 ((cmdPacket u e pre s)) := by
  unfold cmdPacket
  repeat' (first | exact Sub.trans (by decide) hm | intro _ | with_reducible assumption | with_reducible apply formPacket_frame | with_reducible apply Frame.ite | extract_lets | split)

theorem stalePacket_frame {fm : Nat} {s0 : State} (hm : Sub 0x11 fm) (u : Nat) (e : Event) (cur : Nat) (pre : Port) (s : State) (h : Frame fm s0 s) :
    Frame fm s0 ((stalePacket u e cur pre s)) := by
  unfold stalePacket
  repeat' (first | exact Sub.trans (by decide) hm | intro _ | with_reducible assumption | with_reducible apply formPacket_frame | with_reducible apply Frame.ite | extract_lets | split)

theorem stnHits_frame {fm : Nat} {s0 : State} (hm : Sub 0x10 fm) (u : Nat) (f : List Nat → Bool) (ctx : Nat) (s : State) (h : Frame fm s0 s) :
    Frame fm s0 ((stnHits u f ctx s)) := by
  unfold stnHits
  repeat' (first | exact Sub.trans (by decide) hm | intro _ | with_reducible assumption | with_reducible apply modStn_frame | with_reducible apply Frame.ite | with_reducible apply Frame.foldl | extract_lets | split)

/-! ### Cells -/

theorem skipTile_frame {fm : Nat} {s0 : State} (hm : Sub 0x11 fm) (n p q sl : Nat) (rate : Bool) (s : State) (h : Frame fm s0 s) :
    Frame fm s0 ((skipTile n p q sl rate s)) := by
  unfold skipTile
  repeat' (first | exact Sub.trans (by decide) hm | intro _ | with_reducible assumption | with_reducible apply pcStation_frame | with_reducible apply setStn_frame | with_reducible apply Frame.ite | extract_lets | split)

theorem absorbPair_frame {fm : Nat} {s0 : State} (hm : Sub 0x11 fm) (n p : Nat) (r : Pair) (s : State) (h : Frame fm s0 s) :
    Frame fm s0 ((absorbPair n p r s)) := by
  unfold absorbPair
  repeat' (first | exact Sub.trans (by decide) hm | intro _ | with_reducible assumption | with_reducible apply modStn_frame | with_reducible apply setStn_frame | with_reducible apply skipTile_frame | with_reducible apply Frame.ite | extract_lets | split)

theorem endTiles_frame {fm : Nat} {s0 : State} (hm : Sub 0x11 fm) (n : Nat) (f : Tile → Bool) (aborted cut : Bool) (s : State) (h : Frame fm s0 s) :
    Frame fm s0 ((endTiles n f aborted cut s)) := by
  unfold endTiles
  repeat' (first | exact Sub.trans (by decide) hm | intro _ | with_reducible assumption | with_reducible apply absorbPair_frame | with_reducible apply offerMsg_frame | with_reducible apply setStn_frame | with_reducible apply Frame.ite | with_reducible apply Frame.foldl | extract_lets | split)

theorem applySlot_frame {fm : Nat} {s0 : State} (hm : Sub 0x11 fm) (n i : Nat) (copy : Bool) (ws : List Nat) (s : State) (h : Frame fm s0 s) :
    Frame fm s0 ((applySlot n i copy ws s)) := by
  unfold applySlot
  repeat' (first | exact Sub.trans (by decide) hm | intro _ | with_reducible assumption | with_reducible apply endTiles_frame | with_reducible apply modStn_frame | with_reducible apply Frame.ite | extract_lets | split)

theorem endedTiles_frame {fm : Nat} {s0 : State} (hm : Sub 0x11 fm) (n p : Nat) (queue : Option Nat) (s : State) (h : Frame fm s0 s) :
    Frame fm s0 ((endedTiles n p queue s)) := by
  unfold endedTiles
  repeat' (first | exact Sub.trans (by decide) hm | intro _ | with_reducible assumption | with_reducible apply endTiles_frame | with_reducible apply modStn_frame | with_reducible apply Frame.foldl | extract_lets | split)

/-! ### Uap -/

theorem takeWd_frame {fm : Nat} {s0 : State} (hm : Sub 0x91 fm) (u : Nat) (e : Event) (q : QRec) (s : State) (h : Frame fm s0 s) :
    Frame fm s0 ((takeWd u e q s)) := by
  unfold takeWd
  repeat' (first | exact Sub.trans (by decide) hm | intro _ | with_reducible assumption | with_reducible apply formFault_frame | with_reducible apply State.fs_frame | with_reducible apply setStn_frame | with_reducible apply Frame.ite | extract_lets | split)

theorem showExcl_frame {fm : Nat} {s0 : State} (hm : Sub 0x1 fm) (n : Nat) (s : State) (h : Frame fm s0 s) :
    Frame fm s0 ((showExcl n s)) := by
  unfold showExcl
  repeat' (first | exact Sub.trans (by decide) hm | intro _ | with_reducible assumption | with_reducible apply State.fs_frame)

theorem portDown_frame {fm : Nat} {s0 : State} (hm : Sub 0x91 fm) (u reason : Nat) (f : Port → Port) (s : State) (h : Frame fm s0 s) :
    Frame fm s0 ((portDown u reason f s)) := by
  unfold portDown
  repeat' (first | exact Sub.trans (by decide) hm | intro _ | with_reducible assumption | with_reducible apply bndLatch_frame | with_reducible apply dropDrain_frame | with_reducible apply endTiles_frame | with_reducible apply endedTiles_frame | with_reducible apply expireWd_frame | with_reducible apply freeWd_frame | with_reducible apply modPort_frame | with_reducible apply pcUnitReset_frame | with_reducible apply portPacket_frame | with_reducible apply showExcl_frame | with_reducible apply withHolds_frame | with_reducible apply Frame.ite | extract_lets | split)

theorem portUp_frame {fm : Nat} {s0 : State} (hm : Sub 0x91 fm) (u : Nat) (f : Port → Port) (s : State) (h : Frame fm s0 s) :
    Frame fm s0 ((portUp u f s)) := by
  unfold portUp
  repeat' (first | exact Sub.trans (by decide) hm | intro _ | with_reducible assumption | with_reducible apply clearLatches_frame | with_reducible apply modPort_frame | with_reducible apply syncPort_frame | with_reducible apply withHolds_frame | with_reducible apply Frame.ite | extract_lets | split)

theorem holdPort_frame {fm : Nat} {s0 : State} (hm : Sub 0x10 fm) (u : Nat) (f : Port → Port) (s : State) (h : Frame fm s0 s) :
    Frame fm s0 ((holdPort u f s)) := by
  unfold holdPort
  repeat' (first | exact Sub.trans (by decide) hm | intro _ | with_reducible assumption | with_reducible apply modPort_frame | extract_lets)

theorem portMismatch_frame {fm : Nat} {s0 : State} (hm : Sub 0x91 fm) (unit : Nat) (s : State) (h : Frame fm s0 s) :
    Frame fm s0 ((portMismatch unit s)) := by
  unfold portMismatch
  repeat' (first | exact Sub.trans (by decide) hm | intro _ | with_reducible assumption | with_reducible apply formFault_frame | split)

theorem progress_frame {fm : Nat} {s0 : State} (hm : Sub 0x91 fm) (u : Nat) (moved : Bool) (s : State) (h : Frame fm s0 s) :
    Frame fm s0 ((progress u moved s)) := by
  unfold progress
  repeat' (first | exact Sub.trans (by decide) hm | intro _ | with_reducible assumption | with_reducible apply expirePw_frame | with_reducible apply setPort_frame | with_reducible apply Frame.ite | extract_lets | split)

theorem staleEvent_frame {fm : Nat} {s0 : State} (hm : Sub 0x11 fm) (u : Nat) (e : Event) (pre : Port) (s : State) (h : Frame fm s0 s) :
    Frame fm s0 ((staleEvent u e pre s)) := by
  unfold staleEvent
  repeat' (first | exact Sub.trans (by decide) hm | intro _ | with_reducible assumption | with_reducible apply State.fsat_frame | with_reducible apply pcEvent_frame | with_reducible apply stalePacket_frame | extract_lets)

theorem freshEvent_frame {fm : Nat} {s0 : State} (hm : Sub 0x91 fm) (u : Nat) (e : Event) (pre : Port) (s : State) (h : Frame fm s0 s) :
    Frame fm s0 ((freshEvent u e pre s)) := by
  unfold freshEvent
  repeat' (first | exact Sub.trans (by decide) hm | intro _ | with_reducible assumption | with_reducible apply addAct_frame | with_reducible apply aoAdd_frame | with_reducible apply attrBegin_frame | with_reducible apply bndBegin_frame | with_reducible apply bndEnd_frame | with_reducible apply bndTouch_frame | with_reducible apply cmdPacket_frame | with_reducible apply endedTiles_frame | with_reducible apply freeWd_frame | with_reducible apply pcBegin_frame | with_reducible apply pcEvent_frame | with_reducible apply stnHits_frame | with_reducible apply takeWd_frame | with_reducible apply Frame.ite | extract_lets | split)

theorem seeCken_frame {fm : Nat} {s0 : State} (hm : Sub 0x10 fm) (u : Nat) (cken : Bool) (s : State) (h : Frame fm s0 s) :
    Frame fm s0 ((seeCken u cken s)) := by
  unfold seeCken
  repeat' (first | exact Sub.trans (by decide) hm | intro _ | with_reducible assumption | with_reducible apply setPort_frame | with_reducible apply Frame.ite | extract_lets | split)

theorem takeEvent_frame {fm : Nat} {s0 : State} (hm : Sub 0x91 fm) (u : Nat) (cken : Bool) (e : Event) (s : State) (h : Frame fm s0 s) :
    Frame fm s0 ((takeEvent u cken e s)) := by
  unfold takeEvent
  repeat' (first | exact Sub.trans (by decide) hm | intro _ | with_reducible assumption | with_reducible apply expireWd_frame | with_reducible apply freshEvent_frame | with_reducible apply progress_frame | with_reducible apply protoViolation_frame | with_reducible apply seeCken_frame | with_reducible apply setPort_frame | with_reducible apply staleEvent_frame | with_reducible apply Frame.ite | extract_lets | split)

theorem modCount_frame {fm : Nat} {s0 : State} (hm : Sub 0x800 fm) (slot : Nat) (f : SlotCount → SlotCount) (s : State) (h : Frame fm s0 s) :
    Frame fm s0 ((modCount slot f s)) := by
  unfold modCount
  repeat' (first | exact Sub.trans (by decide) hm | intro _ | with_reducible assumption | (simp only [Frame_mk]; first | with_reducible apply FrameC.stria_upd) | extract_lets)

theorem queuePair_frame {fm : Nat} {s0 : State} (hm : Sub 0x11 fm) (u slot : Nat) (b : Beat) (s : State) (h : Frame fm s0 s) :
    Frame fm s0 ((queuePair u slot b s)) := by
  unfold queuePair
  repeat' (first | exact Sub.trans (by decide) hm | intro _ | with_reducible assumption | with_reducible apply setStn_frame | with_reducible apply skipTile_frame | with_reducible apply Frame.ite | extract_lets | split)

theorem writeDbgCtl_frame {fm : Nat} {s0 : State} (hm : Sub 0x11 fm) (unit value : Nat) (s : State) (h : Frame fm s0 s) :
    Frame fm s0 ((writeDbgCtl unit value s)) := by
  unfold writeDbgCtl
  repeat' (first | exact Sub.trans (by decide) hm | intro _ | with_reducible assumption | with_reducible apply modStn_frame | with_reducible apply setPort_frame | with_reducible apply State.wrN_frame | with_reducible apply Frame.ite | with_reducible apply Frame.foldl | extract_lets | split)

theorem writeDbgAddr_frame {fm : Nat} {s0 : State} (hm : Sub 0x10 fm) (unit v : Nat) (s : State) (h : Frame fm s0 s) :
    Frame fm s0 ((writeDbgAddr unit v s)) := by
  unfold writeDbgAddr
  repeat' (first | exact Sub.trans (by decide) hm | intro _ | with_reducible assumption | with_reducible apply setPort_frame | with_reducible apply Frame.ite | extract_lets | split)

theorem writeDbgCmd_frame {fm : Nat} {s0 : State} (hm : Sub 0x91 fm) (unit op : Nat) (s : State) (h : Frame fm s0 s) :
    Frame fm s0 ((writeDbgCmd unit op s)) := by
  unfold writeDbgCmd
  repeat' (first | exact Sub.trans (by decide) hm | intro _ | with_reducible assumption | with_reducible apply dropDrain_frame | with_reducible apply State.fs_frame | with_reducible apply setPort_frame | with_reducible apply withHolds_frame | with_reducible apply Frame.ite | extract_lets | split)

theorem beginExcl_frame {fm : Nat} {s0 : State} (hm : Sub 0x11 fm) (unit : Nat) (s : State) (h : Frame fm s0 s) :
    Frame fm s0 ((beginExcl unit s)) := by
  unfold beginExcl
  repeat' (first | exact Sub.trans (by decide) hm | intro _ | with_reducible assumption | with_reducible apply portPacket_frame | with_reducible apply setPort_frame | with_reducible apply showExcl_frame | extract_lets)

theorem endExcl_frame {fm : Nat} {s0 : State} (hm : Sub 0x11 fm) (unit : Nat) (s : State) (h : Frame fm s0 s) :
    Frame fm s0 ((endExcl unit s)) := by
  unfold endExcl
  repeat' (first | exact Sub.trans (by decide) hm | intro _ | with_reducible assumption | with_reducible apply modPort_frame | with_reducible apply showExcl_frame | with_reducible apply syncPort_frame | extract_lets)

theorem execUapPowerOff_frame {fm : Nat} {s0 : State} (hm : Sub 0x91 fm) (unit : Nat) (s : State) (h : Frame fm s0 s) :
    FrameO fm s0 (execUapPowerOff unit s) := by
  unfold execUapPowerOff
  repeat' (first | with_reducible apply FrameO.ok | with_reducible apply FrameO.ite | exact Sub.trans (by decide) hm | intro _ | with_reducible assumption | with_reducible apply holdPort_frame | with_reducible apply modStn_frame | with_reducible apply portDown_frame | with_reducible apply Frame.ite | extract_lets | split)

theorem execUapPowerOn_frame {fm : Nat} {s0 : State} (hm : Sub 0x91 fm) (unit ty cv flat : Nat) (s : State) (h : Frame fm s0 s) :
    FrameO fm s0 (execUapPowerOn unit ty cv flat s) := by
  unfold execUapPowerOn
  repeat' (first | with_reducible apply FrameO.ok | with_reducible apply FrameO.ite | exact Sub.trans (by decide) hm | intro _ | with_reducible assumption | with_reducible apply holdPort_frame | with_reducible apply modPort_frame | with_reducible apply portMismatch_frame | with_reducible apply portUp_frame | with_reducible apply Frame.ite | extract_lets | split)

theorem execUapResetAssert_frame {fm : Nat} {s0 : State} (hm : Sub 0x91 fm) (unit : Nat) (s : State) (h : Frame fm s0 s) :
    FrameO fm s0 (execUapResetAssert unit s) := by
  unfold execUapResetAssert
  repeat' (first | with_reducible apply FrameO.ok | with_reducible apply FrameO.ite | exact Sub.trans (by decide) hm | intro _ | with_reducible assumption | with_reducible apply holdPort_frame | with_reducible apply portDown_frame | with_reducible apply setPort_frame | with_reducible apply Frame.ite | extract_lets | split)

theorem execUapResetRelease_frame {fm : Nat} {s0 : State} (hm : Sub 0x91 fm) (unit : Nat) (s : State) (h : Frame fm s0 s) :
    FrameO fm s0 (execUapResetRelease unit s) := by
  unfold execUapResetRelease
  repeat' (first | with_reducible apply FrameO.ok | with_reducible apply FrameO.ite | exact Sub.trans (by decide) hm | intro _ | with_reducible assumption | with_reducible apply holdPort_frame | with_reducible apply portUp_frame | with_reducible apply setPort_frame | with_reducible apply Frame.ite | extract_lets | split)

theorem execCmdEventBegin_frame {fm : Nat} {s0 : State} (hm : Sub 0x91 fm) (unit : Nat) (cken : Bool) (ctx epoch seq layer op bclass queue : Nat) (s : State) (h : Frame fm s0 s) :
    FrameO fm s0 (execCmdEventBegin unit cken ctx epoch seq layer op bclass queue s) := by
  unfold execCmdEventBegin
  repeat' (first | with_reducible apply FrameO.act | with_reducible apply FrameO.ok | exact Sub.trans (by decide) hm | intro _ | with_reducible assumption | with_reducible apply takeEvent_frame)

theorem execCmdEventEnd_frame {fm : Nat} {s0 : State} (hm : Sub 0x91 fm) (unit : Nat) (cken : Bool) (ctx epoch seq layer op bclass queue : Nat) (s : State) (h : Frame fm s0 s) :
    FrameO fm s0 (execCmdEventEnd unit cken ctx epoch seq layer op bclass queue s) := by
  unfold execCmdEventEnd
  repeat' (first | with_reducible apply FrameO.act | with_reducible apply FrameO.ok | exact Sub.trans (by decide) hm | intro _ | with_reducible assumption | with_reducible apply takeEvent_frame)

theorem execCmdEventAbort_frame {fm : Nat} {s0 : State} (hm : Sub 0x91 fm) (unit : Nat) (cken : Bool) (ctx epoch seq layer op bclass queue : Nat) (s : State) (h : Frame fm s0 s) :
    FrameO fm s0 (execCmdEventAbort unit cken ctx epoch seq layer op bclass queue s) := by
  unfold execCmdEventAbort
  repeat' (first | with_reducible apply FrameO.act | with_reducible apply FrameO.ok | exact Sub.trans (by decide) hm | intro _ | with_reducible assumption | with_reducible apply takeEvent_frame)

theorem execCmdEventSuspend_frame {fm : Nat} {s0 : State} (hm : Sub 0x91 fm) (unit : Nat) (cken : Bool) (ctx epoch seq layer op bclass queue : Nat) (s : State) (h : Frame fm s0 s) :
    FrameO fm s0 (execCmdEventSuspend unit cken ctx epoch seq layer op bclass queue s) := by
  unfold execCmdEventSuspend
  repeat' (first | with_reducible apply FrameO.act | with_reducible apply FrameO.ok | exact Sub.trans (by decide) hm | intro _ | with_reducible assumption | with_reducible apply takeEvent_frame)

theorem execCmdEventResume_frame {fm : Nat} {s0 : State} (hm : Sub 0x91 fm) (unit : Nat) (cken : Bool) (ctx epoch seq layer op bclass queue : Nat) (s : State) (h : Frame fm s0 s) :
    FrameO fm s0 (execCmdEventResume unit cken ctx epoch seq layer op bclass queue s) := by
  unfold execCmdEventResume
  repeat' (first | with_reducible apply FrameO.act | with_reducible apply FrameO.ok | exact Sub.trans (by decide) hm | intro _ | with_reducible assumption | with_reducible apply takeEvent_frame)

theorem execEvKindReserved_frame {fm : Nat} {s0 : State} (hm : Sub 0x91 fm) (unit : Nat) (cken : Bool) (s : State) (h : Frame fm s0 s) :
    FrameO fm s0 (execEvKindReserved unit cken s) := by
  unfold execEvKindReserved
  repeat' (first | with_reducible apply FrameO.act | with_reducible apply FrameO.ok | with_reducible apply FrameO.ite | exact Sub.trans (by decide) hm | intro _ | with_reducible assumption | with_reducible apply protoViolation_frame | with_reducible apply seeCken_frame | with_reducible apply Frame.ite | split)

theorem execUnitIncrementCycle_frame {fm : Nat} {s0 : State} (hm : Sub 0x91 fm) (unit : Nat) (cken busy stall : Bool) (errCorr : Nat) (errUncorr : Bool) (rds wrs : List Nat) (tx txTc rx rxTc energy : Nat) (trap : Bool) (fltCode : Nat) (s : State) (h : Frame fm s0 s) :
    FrameO fm s0 (execUnitIncrementCycle unit cken busy stall errCorr errUncorr rds wrs tx txTc rx rxTc energy trap fltCode s) := by
  unfold execUnitIncrementCycle
  repeat' (first | with_reducible apply FrameO.act | with_reducible apply FrameO.ok | with_reducible apply FrameO.ite | exact Sub.trans (by decide) hm | intro _ | with_reducible assumption | with_reducible apply aoAdd_frame | with_reducible apply attrCharge_frame | with_reducible apply latchFault_frame | with_reducible apply pcIncr_frame | with_reducible apply progress_frame | with_reducible apply protoViolation_frame | with_reducible apply seeCken_frame | with_reducible apply Frame.ite | with_reducible apply Frame.foldl | extract_lets | split)

theorem execShAckRise_frame {fm : Nat} {s0 : State} (hm : Sub 0x11 fm) (unit : Nat) (s : State) (h : Frame fm s0 s) :
    FrameO fm s0 (execShAckRise unit s) := by
  unfold execShAckRise
  repeat' (first | with_reducible apply FrameO.act | with_reducible apply FrameO.ok | with_reducible apply FrameO.ite | exact Sub.trans (by decide) hm | intro _ | with_reducible assumption | with_reducible apply State.fs_frame | with_reducible apply setPort_frame | with_reducible apply Frame.ite | extract_lets | split)

theorem execShAckLate_frame {fm : Nat} {s0 : State} (hm : Sub 0x91 fm) (unit : Nat) (s : State) (h : Frame fm s0 s) :
    FrameO fm s0 (execShAckLate unit s) := by
  unfold execShAckLate
  repeat' (first | with_reducible apply FrameO.act | with_reducible apply FrameO.ok | with_reducible apply FrameO.ite | exact Sub.trans (by decide) hm | intro _ | with_reducible assumption | with_reducible apply protoViolation_frame | with_reducible apply setPort_frame | with_reducible apply Frame.ite | extract_lets | split)

theorem execStriaTapBeat_frame {fm : Nat} {s0 : State} (hm : Sub 0x891 fm) (unit : Nat) (cken : Bool) (mask data fmt coord sample pos queue out scale : Nat) (s : State) (h : Frame fm s0 s) :
    FrameO fm s0 (execStriaTapBeat unit cken mask data fmt coord sample pos queue out scale s) := by
  unfold execStriaTapBeat
  repeat' (first | with_reducible apply FrameO.act | with_reducible apply FrameO.ok | with_reducible apply FrameO.ite | exact Sub.trans (by decide) hm | intro _ | with_reducible assumption | with_reducible apply modCount_frame | with_reducible apply protoViolation_frame | with_reducible apply queuePair_frame | with_reducible apply seeCken_frame | with_reducible apply Frame.ite | with_reducible apply Frame.foldl | extract_lets | split)

theorem execStriaPairAbsorb_frame {fm : Nat} {s0 : State} (hm : Sub 0x11 fm) (stn : Nat) (s : State) (h : Frame fm s0 s) :
    FrameO fm s0 (execStriaPairAbsorb stn s) := by
  unfold execStriaPairAbsorb
  repeat' (first | with_reducible apply FrameO.act | with_reducible apply FrameO.ok | exact Sub.trans (by decide) hm | intro _ | with_reducible assumption | with_reducible apply absorbPair_frame | with_reducible apply setStn_frame | extract_lets | split)

theorem execDbgCtlWrite_frame {fm : Nat} {s0 : State} (hm : Sub 0x11 fm) (unit value : Nat) (s : State) (h : Frame fm s0 s) :
    FrameO fm s0 (execDbgCtlWrite unit value s) := by
  unfold execDbgCtlWrite
  repeat' (first | with_reducible apply FrameO.act | with_reducible apply FrameO.ok | exact Sub.trans (by decide) hm | intro _ | with_reducible assumption | with_reducible apply writeDbgCtl_frame)

theorem execDbgAddrWrite_frame {fm : Nat} {s0 : State} (hm : Sub 0x10 fm) (unit value64 : Nat) (s : State) (h : Frame fm s0 s) :
    FrameO fm s0 (execDbgAddrWrite unit value64 s) := by
  unfold execDbgAddrWrite
  repeat' (first | with_reducible apply FrameO.act | with_reducible apply FrameO.ok | exact Sub.trans (by decide) hm | intro _ | with_reducible assumption | with_reducible apply writeDbgAddr_frame)

theorem execDbgCmdHalt_frame {fm : Nat} {s0 : State} (hm : Sub 0x91 fm) (unit : Nat) (s : State) (h : Frame fm s0 s) :
    FrameO fm s0 (execDbgCmdHalt unit s) := by
  unfold execDbgCmdHalt
  repeat' (first | with_reducible apply FrameO.act | with_reducible apply FrameO.ok | exact Sub.trans (by decide) hm | intro _ | with_reducible assumption | with_reducible apply writeDbgCmd_frame)

theorem execDbgCmdRun_frame {fm : Nat} {s0 : State} (hm : Sub 0x91 fm) (unit : Nat) (s : State) (h : Frame fm s0 s) :
    FrameO fm s0 (execDbgCmdRun unit s) := by
  unfold execDbgCmdRun
  repeat' (first | with_reducible apply FrameO.act | with_reducible apply FrameO.ok | exact Sub.trans (by decide) hm | intro _ | with_reducible assumption | with_reducible apply writeDbgCmd_frame)

theorem execDbgCmdStep_frame {fm : Nat} {s0 : State} (hm : Sub 0x91 fm) (unit : Nat) (s : State) (h : Frame fm s0 s) :
    FrameO fm s0 (execDbgCmdStep unit s) := by
  unfold execDbgCmdStep
  repeat' (first | with_reducible apply FrameO.act | with_reducible apply FrameO.ok | exact Sub.trans (by decide) hm | intro _ | with_reducible assumption | with_reducible apply writeDbgCmd_frame)

theorem execCoreHaltedRise_frame {fm : Nat} {s0 : State} (hm : Sub 0x91 fm) (unit cause hit : Nat) (s : State) (h : Frame fm s0 s) :
    FrameO fm s0 (execCoreHaltedRise unit cause hit s) := by
  unfold execCoreHaltedRise
  repeat' (first | with_reducible apply FrameO.act | with_reducible apply FrameO.ok | with_reducible apply FrameO.ite | exact Sub.trans (by decide) hm | intro _ | with_reducible assumption | with_reducible refine Frame.pair ‹_› ?_ | with_reducible apply addAct_frame | with_reducible apply State.fs_frame | with_reducible apply modPort_frame | with_reducible apply stnTrigger_frame | with_reducible apply State.when_frame | with_reducible apply withHolds_frame | with_reducible apply Frame.ite | with_reducible apply Frame.when | extract_lets | split)

theorem execCoreHaltedFall_frame {fm : Nat} {s0 : State} (hm : Sub 0x91 fm) (unit : Nat) (s : State) (h : Frame fm s0 s) :
    FrameO fm s0 (execCoreHaltedFall unit s) := by
  unfold execCoreHaltedFall
  repeat' (first | with_reducible apply FrameO.act | with_reducible apply FrameO.ok | with_reducible apply FrameO.ite | exact Sub.trans (by decide) hm | intro _ | with_reducible assumption | with_reducible apply State.fs_frame | with_reducible apply modPort_frame | with_reducible apply withHolds_frame | with_reducible apply Frame.ite | extract_lets | split)

theorem execHaltedLate_frame {fm : Nat} {s0 : State} (hm : Sub 0x91 fm) (unit : Nat) (s : State) (h : Frame fm s0 s) :
    FrameO fm s0 (execHaltedLate unit s) := by
  unfold execHaltedLate
  repeat' (first | with_reducible apply FrameO.act | with_reducible apply FrameO.ok | with_reducible apply FrameO.ite | exact Sub.trans (by decide) hm | intro _ | with_reducible assumption | with_reducible apply protoViolation_frame | with_reducible apply setPort_frame | with_reducible apply Frame.ite | extract_lets | split)

theorem execSecureEnter_frame {fm : Nat} {s0 : State} (hm : Sub 0x11 fm) (unit : Nat) (s : State) (h : Frame fm s0 s) :
    FrameO fm s0 (execSecureEnter unit s) := by
  unfold execSecureEnter
  repeat' (first | with_reducible apply FrameO.ok | with_reducible apply FrameO.ite | exact Sub.trans (by decide) hm | intro _ | with_reducible assumption | with_reducible apply beginExcl_frame | with_reducible apply State.fs_frame | with_reducible apply holdPort_frame | with_reducible apply Frame.ite | extract_lets | split)

theorem execSecureExit_frame {fm : Nat} {s0 : State} (hm : Sub 0x11 fm) (unit : Nat) (s : State) (h : Frame fm s0 s) :
    FrameO fm s0 (execSecureExit unit s) := by
  unfold execSecureExit
  repeat' (first | with_reducible apply FrameO.ok | with_reducible apply FrameO.ite | exact Sub.trans (by decide) hm | intro _ | with_reducible assumption | with_reducible apply endExcl_frame | with_reducible apply State.fs_frame | with_reducible apply holdPort_frame | with_reducible apply Frame.ite | extract_lets | split)

theorem execItRecord_frame {fm : Nat} {s0 : State} (hm : Sub 0x11 fm) (unit : Nat) (cken : Bool) (itKind count addr64 : Nat) (ovf : Bool) (s : State) (h : Frame fm s0 s) :
    FrameO fm s0 (execItRecord unit cken itKind count addr64 ovf s) := by
  unfold execItRecord
  repeat' (first | with_reducible apply FrameO.act | with_reducible apply FrameO.ok | with_reducible apply FrameO.ite | exact Sub.trans (by decide) hm | intro _ | with_reducible assumption | with_reducible apply coreOvfGap_frame | with_reducible apply formPacket_frame | with_reducible apply State.fsat_frame | with_reducible apply modPort_frame | with_reducible apply seeCken_frame | with_reducible apply stnHits_frame | with_reducible apply Frame.ite | extract_lets | split)

theorem execDtRecord_frame {fm : Nat} {s0 : State} (hm : Sub 0x11 fm) (unit : Nat) (cken dtWr : Bool) (size addr64 data64 : Nat) (ovf : Bool) (s : State) (h : Frame fm s0 s) :
    FrameO fm s0 (execDtRecord unit cken dtWr size addr64 data64 ovf s) := by
  unfold execDtRecord
  repeat' (first | with_reducible apply FrameO.act | with_reducible apply FrameO.ok | with_reducible apply FrameO.ite | exact Sub.trans (by decide) hm | intro _ | with_reducible assumption | with_reducible apply coreOvfGap_frame | with_reducible apply formPacket_frame | with_reducible apply modPort_frame | with_reducible apply seeCken_frame | with_reducible apply stnHits_frame | with_reducible apply Frame.ite | extract_lets | split)

end Sys2Proof.Machine
end

