-- ==== Sys2Proof/Laws/Ports.lean ====
section
/-! SUPPORT. The ports of the stations: reading a station or a port after a write of it, and which operations leave every
port's presence, straps, package state, exclusion and command records as they are. -/

namespace Sys2Proof.Machine

/-- What only a port's presence, its events, its package state and its exclusion change. -/
def Port.core (p : Port) : (Bool × Bool × Bool × Bool × Bool × Bool) × (Nat × Nat × Nat × Nat) × SMap QRec × SMap Nat :=
  ((p.strapped, p.cold, p.on, p.rst, p.excl, p.asNone), (p.strapTy, p.strapCv, p.shFlat, p.pkg), p.queues, p.lastSeq)

/-- Every port keeps that. -/
structure PortCore (s t : State) : Prop where
  core : ∀ v, (t.port v).core = (s.port v).core

theorem PortCore.refl {s : State} : PortCore s s := ⟨fun _ => rfl⟩

theorem PortCore.of_stations {s0 s t : State} (e : t.stations = s.stations) (h : PortCore s0 s) : PortCore s0 t :=
  ⟨fun v => by rw [← h.core v]; unfold State.port State.stn; rw [e]⟩

theorem PortCore.foldl {α : Type} {s0 : State} (l : List α) (f : State → α → State) (s : State)
    (hf : ∀ s a, PortCore s0 s → PortCore s0 (f s a)) (h : PortCore s0 s) : PortCore s0 (l.foldl f s) := by
  induction l generalizing s with
  | nil => exact h
  | cons a l ih => exact ih (f s a) (hf s a h)

theorem PortCore.pair {α : Type} {s0 : State} {p : α × State} {a : α} {t : State} (he : p = (a, t)) (h : PortCore s0 p.2) :
    PortCore s0 t := by
  subst he; exact h

theorem PortCore.ite {s a b : State} (c : Prop) [Decidable c] (ha : PortCore s a) (hb : PortCore s b) :
    PortCore s (if c then a else b) := by
  split <;> assumption

theorem State.wr_core {s0 : State} (s : State) (a : Nat) (v : Word) (h : PortCore s0 s) : PortCore s0 (s.wr a v) := PortCore.of_stations (s := s) rfl h
theorem State.wrN_core {s0 : State} (s : State) (a n : Nat) (h : PortCore s0 s) : PortCore s0 (s.wrN a n) := PortCore.of_stations (s := s) rfl h
theorem State.fs_core {s0 : State} (s : State) (f : Fld) (n : Nat) (h : PortCore s0 s) : PortCore s0 (s.fs f n) := PortCore.of_stations (s := s) rfl h
theorem State.fsat_core {s0 : State} (s : State) (f : Fld) (n : Nat) (h : PortCore s0 s) : PortCore s0 (s.fsat f n) := PortCore.of_stations (s := s) rfl h
theorem State.wr64_core {s0 : State} (s : State) (a b v : Nat) (h : PortCore s0 s) : PortCore s0 (s.wr64 a b v) := PortCore.of_stations (s := s) rfl h
theorem State.wrWords_core {s0 : State} (s : State) (a : Nat) (ws : List Nat) (h : PortCore s0 s) : PortCore s0 (s.wrWords a ws) := by
  induction ws generalizing s a with
  | nil => exact h
  | cons w ws ih => exact ih _ _ (State.wrN_core _ _ _ h)

theorem stn_setStn (n k : Nat) (x : Station) (s : State) : (setStn n x s).stn k = if k = n then x else s.stn k := by
  unfold State.stn setStn
  by_cases h : k = n
  · simp [h, mget_mput_same]
  · simp [h, mget_mput_other]

theorem stn_modStn (n k : Nat) (f : Station → Station) (s : State) : (modStn n f s).stn k = if k = n then f (s.stn n) else s.stn k :=
  stn_setStn ..

theorem port_setStn (n v : Nat) (x : Station) (s : State) :
    (setStn n x s).port v = if v / 16 = n then x.port (v % 16) else s.port v := by
  unfold State.port
  rw [stn_setStn]
  split <;> rfl

theorem port_setPort (u v : Nat) (p : Port) (s : State) : (setPort u p s).port v = if v = u then p else s.port v := by
  unfold setPort modStn
  rw [port_setStn]
  by_cases h : v / 16 = u / 16
  · rw [if_pos h]
    by_cases h2 : v % 16 = u % 16
    · have : v = u := by omega
      simp [this, Station.port, mget_mput_same]
    · have : ¬ v = u := by omega
      simp [this, h2, Station.port, mget_mput_other, State.port, h]
  · have : ¬ v = u := by intro e; exact h (by rw [e])
    simp [h, this]

theorem port_modPort (u v : Nat) (f : Port → Port) (s : State) : (modPort u f s).port v = if v = u then f (s.port u) else s.port v :=
  port_setPort ..

theorem setStn_core {s0 : State} (n : Nat) (x : Station) (s : State) (hx : x.ports = (s.stn n).ports) (h : PortCore s0 s) :
    PortCore s0 (setStn n x s) :=
  ⟨fun v => by
    rw [← h.core v, port_setStn]
    split
    · next e => unfold Station.port State.port; rw [hx, e]; rfl
    · rfl⟩

theorem modStn_core {s0 : State} (n : Nat) (f : Station → Station) (s : State) (hf : ∀ x, (f x).ports = x.ports) (h : PortCore s0 s) :
    PortCore s0 (modStn n f s) := setStn_core _ _ _ (hf _) h

theorem setPort_core {s0 : State} (u : Nat) (p : Port) (s : State) (hp : p.core = (s.port u).core) (h : PortCore s0 s) :
    PortCore s0 (setPort u p s) :=
  ⟨fun v => by
    rw [← h.core v, port_setPort]
    split
    · next e => rw [hp, e]
    · rfl⟩

theorem modPort_core {s0 : State} (u : Nat) (f : Port → Port) (s : State) (hf : ∀ p, (f p).core = p.core) (h : PortCore s0 s) :
    PortCore s0 (modPort u f s) := setPort_core _ _ _ (hf _) h

theorem offer_ports (x : Station) (m : UpMsg) : (x.offer m).ports = x.ports := by
  have key : ∀ (k : Nat) (x : Station), (Station.offerWaiting k x).ports = x.ports := by
    intro k
    induction k with
    | zero => intro x; rfl
    | succ k ih =>
      intro x
      unfold Station.offerWaiting
      split
      · split
        · rw [ih]
        · rfl
      · rfl
  unfold Station.offer
  rw [key]
theorem offerMsg_core {s0 : State} (n : Nat) (m : UpMsg) (s : State) (h : PortCore s0 s) :
    PortCore s0 ((offerMsg n m s)) := by
  unfold offerMsg
  repeat' (first | intro _ | with_reducible assumption | with_reducible apply modStn_core | with_reducible apply State.wr_core | with_reducible apply State.wrN_core | with_reducible apply State.fs_core | with_reducible apply State.fsat_core | with_reducible apply State.wr64_core | with_reducible apply State.wrWords_core | with_reducible apply setStn_core | with_reducible apply modStn_core | with_reducible apply setPort_core | with_reducible apply modPort_core | (intro _; exact offer_ports _ _) | exact offer_ports _ _ | exact PortCore.of_stations rfl ‹_› | (first | (intro _; rfl) | rfl) | ((dsimp +zetaDelta only); (split <;> rfl)))

theorem sendNote_core {s0 : State} (n : Nat) (w : Nat) (s : State) (h : PortCore s0 s) :
    PortCore s0 ((sendNote n w s)) := by
  unfold sendNote
  repeat' (first | intro _ | with_reducible assumption | with_reducible apply modStn_core | with_reducible apply State.wr_core | with_reducible apply State.wrN_core | with_reducible apply State.fs_core | with_reducible apply State.fsat_core | with_reducible apply State.wr64_core | with_reducible apply State.wrWords_core | with_reducible apply setStn_core | with_reducible apply modStn_core | with_reducible apply setPort_core | with_reducible apply modPort_core | extract_lets | (intro _; exact offer_ports _ _) | exact offer_ports _ _ | exact PortCore.of_stations rfl ‹_› | (first | (intro _; rfl) | rfl) | ((dsimp +zetaDelta only); (split <;> rfl)))

theorem noteWrap_core {s0 : State} (n code : Nat) (s : State) (h : PortCore s0 s) :
    PortCore s0 ((noteWrap n code s)) := by
  unfold noteWrap
  repeat' (first | intro _ | with_reducible assumption | with_reducible apply setStn_core | with_reducible apply PortCore.ite | with_reducible apply State.wr_core | with_reducible apply State.wrN_core | with_reducible apply State.fs_core | with_reducible apply State.fsat_core | with_reducible apply State.wr64_core | with_reducible apply State.wrWords_core | with_reducible apply setStn_core | with_reducible apply modStn_core | with_reducible apply setPort_core | with_reducible apply modPort_core | extract_lets | split | (intro _; exact offer_ports _ _) | exact offer_ports _ _ | exact PortCore.of_stations rfl ‹_› | (first | (intro _; rfl) | rfl) | ((dsimp +zetaDelta only); (split <;> rfl)))

theorem ctrAdd_core {s0 : State} (n lo hi code d : Nat) (s : State) (h : PortCore s0 s) :
    PortCore s0 ((ctrAdd n lo hi code d s)) := by
  unfold ctrAdd
  repeat' (first | intro _ | with_reducible assumption | with_reducible apply noteWrap_core | with_reducible apply PortCore.ite | with_reducible apply State.wr_core | with_reducible apply State.wrN_core | with_reducible apply State.fs_core | with_reducible apply State.fsat_core | with_reducible apply State.wr64_core | with_reducible apply State.wrWords_core | with_reducible apply setStn_core | with_reducible apply modStn_core | with_reducible apply setPort_core | with_reducible apply modPort_core | extract_lets | split | (intro _; exact offer_ports _ _) | exact offer_ports _ _ | exact PortCore.of_stations rfl ‹_› | (first | (intro _; rfl) | rfl) | ((dsimp +zetaDelta only); (split <;> rfl)))

theorem aoAdd_core {s0 : State} (u k d : Nat) (s : State) (h : PortCore s0 s) :
    PortCore s0 ((aoAdd u k d s)) := by
  unfold aoAdd
  repeat' (first | intro _ | with_reducible assumption | with_reducible apply ctrAdd_core | with_reducible apply State.wr_core | with_reducible apply State.wrN_core | with_reducible apply State.fs_core | with_reducible apply State.fsat_core | with_reducible apply State.wr64_core | with_reducible apply State.wrWords_core | with_reducible apply setStn_core | with_reducible apply modStn_core | with_reducible apply setPort_core | with_reducible apply modPort_core | (intro _; exact offer_ports _ _) | exact offer_ports _ _ | exact PortCore.of_stations rfl ‹_› | (first | (intro _; rfl) | rfl) | ((dsimp +zetaDelta only); (split <;> rfl)))

theorem pcAdd_core {s0 : State} (n i d : Nat) (s : State) (h : PortCore s0 s) :
    PortCore s0 ((pcAdd n i d s)) := by
  unfold pcAdd
  repeat' (first | intro _ | with_reducible assumption | with_reducible apply ctrAdd_core | with_reducible apply State.wr_core | with_reducible apply State.wrN_core | with_reducible apply State.fs_core | with_reducible apply State.fsat_core | with_reducible apply State.wr64_core | with_reducible apply State.wrWords_core | with_reducible apply setStn_core | with_reducible apply modStn_core | with_reducible apply setPort_core | with_reducible apply modPort_core | (intro _; exact offer_ports _ _) | exact offer_ports _ _ | exact PortCore.of_stations rfl ‹_› | (first | (intro _; rfl) | rfl) | ((dsimp +zetaDelta only); (split <;> rfl)))

theorem pcSet_core {s0 : State} (n i v : Nat) (s : State) (h : PortCore s0 s) :
    PortCore s0 ((pcSet n i v s)) := by
  unfold pcSet
  repeat' (first | intro _ | with_reducible assumption | with_reducible apply PortCore.ite | with_reducible apply State.wr_core | with_reducible apply State.wrN_core | with_reducible apply State.fs_core | with_reducible apply State.fsat_core | with_reducible apply State.wr64_core | with_reducible apply State.wrWords_core | with_reducible apply setStn_core | with_reducible apply modStn_core | with_reducible apply setPort_core | with_reducible apply modPort_core | extract_lets | split | (intro _; exact offer_ports _ _) | exact offer_ports _ _ | exact PortCore.of_stations rfl ‹_› | (first | (intro _; rfl) | rfl) | ((dsimp +zetaDelta only); (split <;> rfl)))

theorem pcStation_core {s0 : State} (n code d : Nat) (s : State) (h : PortCore s0 s) :
    PortCore s0 ((pcStation n code d s)) := by
  unfold pcStation
  repeat' (first | intro _ | with_reducible assumption | with_reducible apply pcAdd_core | with_reducible apply PortCore.ite | with_reducible apply PortCore.foldl | with_reducible apply State.wr_core | with_reducible apply State.wrN_core | with_reducible apply State.fs_core | with_reducible apply State.fsat_core | with_reducible apply State.wr64_core | with_reducible apply State.wrWords_core | with_reducible apply setStn_core | with_reducible apply modStn_core | with_reducible apply setPort_core | with_reducible apply modPort_core | split | (intro _; exact offer_ports _ _) | exact offer_ports _ _ | exact PortCore.of_stations rfl ‹_› | (first | (intro _; rfl) | rfl) | ((dsimp +zetaDelta only); (split <;> rfl)))

theorem pcEvent_core {s0 : State} (u code : Nat) (ctxs : List Nat) (on : Nat → Bool) (s : State) (h : PortCore s0 s) :
    PortCore s0 ((pcEvent u code ctxs on s)) := by
  unfold pcEvent
  repeat' (first | intro _ | with_reducible assumption | with_reducible apply pcAdd_core | with_reducible apply PortCore.ite | with_reducible apply PortCore.foldl | with_reducible apply State.wr_core | with_reducible apply State.wrN_core | with_reducible apply State.fs_core | with_reducible apply State.fsat_core | with_reducible apply State.wr64_core | with_reducible apply State.wrWords_core | with_reducible apply setStn_core | with_reducible apply modStn_core | with_reducible apply setPort_core | with_reducible apply modPort_core | extract_lets | split | (intro _; exact offer_ports _ _) | exact offer_ports _ _ | exact PortCore.of_stations rfl ‹_› | (first | (intro _; rfl) | rfl) | ((dsimp +zetaDelta only); (split <;> rfl)))

theorem pcIncr_core {s0 : State} (u : Nat) (inc : Nat → Nat) (takers : List (Nat × QRec)) (s : State) (h : PortCore s0 s) :
    PortCore s0 ((pcIncr u inc takers s)) := by
  unfold pcIncr
  repeat' (first | intro _ | with_reducible assumption | with_reducible apply pcAdd_core | with_reducible apply PortCore.ite | with_reducible apply PortCore.foldl | with_reducible apply State.wr_core | with_reducible apply State.wrN_core | with_reducible apply State.fs_core | with_reducible apply State.fsat_core | with_reducible apply State.wr64_core | with_reducible apply State.wrWords_core | with_reducible apply setStn_core | with_reducible apply modStn_core | with_reducible apply setPort_core | with_reducible apply modPort_core | extract_lets | split | (intro _; exact offer_ports _ _) | exact offer_ports _ _ | exact PortCore.of_stations rfl ‹_› | (first | (intro _; rfl) | rfl) | ((dsimp +zetaDelta only); (split <;> rfl)))

theorem pcBegin_core {s0 : State} (u queue ctx : Nat) (s : State) (h : PortCore s0 s) :
    PortCore s0 ((pcBegin u queue ctx s)) := by
  unfold pcBegin
  repeat' (first | intro _ | with_reducible assumption | with_reducible apply modStn_core | with_reducible apply pcSet_core | with_reducible apply PortCore.ite | with_reducible apply PortCore.foldl | with_reducible apply State.wr_core | with_reducible apply State.wrN_core | with_reducible apply State.fs_core | with_reducible apply State.fsat_core | with_reducible apply State.wr64_core | with_reducible apply State.wrWords_core | with_reducible apply setStn_core | with_reducible apply modStn_core | with_reducible apply setPort_core | with_reducible apply modPort_core | extract_lets | split | (intro _; exact offer_ports _ _) | exact offer_ports _ _ | exact PortCore.of_stations rfl ‹_› | (first | (intro _; rfl) | rfl) | ((dsimp +zetaDelta only); (split <;> rfl)))

theorem pcUnitReset_core {s0 : State} (u : Nat) (s : State) (h : PortCore s0 s) :
    PortCore s0 ((pcUnitReset u s)) := by
  unfold pcUnitReset
  repeat' (first | intro _ | with_reducible assumption | with_reducible apply modStn_core | with_reducible apply PortCore.ite | with_reducible apply PortCore.foldl | with_reducible apply State.wr_core | with_reducible apply State.wrN_core | with_reducible apply State.fs_core | with_reducible apply State.fsat_core | with_reducible apply State.wr64_core | with_reducible apply State.wrWords_core | with_reducible apply setStn_core | with_reducible apply modStn_core | with_reducible apply setPort_core | with_reducible apply modPort_core | extract_lets | split | (intro _; exact offer_ports _ _) | exact offer_ports _ _ | exact PortCore.of_stations rfl ‹_› | (first | (intro _; rfl) | rfl) | ((dsimp +zetaDelta only); (split <;> rfl)))

theorem attrBegin_core {s0 : State} (u : Nat) (e : Event) (s : State) (h : PortCore s0 s) :
    PortCore s0 ((attrBegin u e s)) := by
  unfold attrBegin
  repeat' (first | intro _ | with_reducible assumption | with_reducible apply setStn_core | with_reducible apply PortCore.ite | with_reducible apply State.wr_core | with_reducible apply State.wrN_core | with_reducible apply State.fs_core | with_reducible apply State.fsat_core | with_reducible apply State.wr64_core | with_reducible apply State.wrWords_core | with_reducible apply setStn_core | with_reducible apply modStn_core | with_reducible apply setPort_core | with_reducible apply modPort_core | extract_lets | split | (intro _; exact offer_ports _ _) | exact offer_ports _ _ | exact PortCore.of_stations rfl ‹_› | (first | (intro _; rfl) | rfl) | ((dsimp +zetaDelta only); (split <;> rfl)))

theorem attrField_core {s0 : State} (n i field v d ctx : Nat) (s : State) (h : PortCore s0 s) :
    PortCore s0 ((attrField n i field v d ctx s).2) := by
  unfold attrField
  repeat' (first | intro _ | with_reducible assumption | with_reducible refine PortCore.pair ‹_› ?_ | with_reducible apply noteWrap_core | with_reducible apply PortCore.ite | with_reducible apply State.wr_core | with_reducible apply State.wrN_core | with_reducible apply State.fs_core | with_reducible apply State.fsat_core | with_reducible apply State.wr64_core | with_reducible apply State.wrWords_core | with_reducible apply setStn_core | with_reducible apply modStn_core | with_reducible apply setPort_core | with_reducible apply modPort_core | extract_lets | split | (intro _; exact offer_ports _ _) | exact offer_ports _ _ | exact PortCore.of_stations rfl ‹_› | (first | (intro _; rfl) | rfl) | ((dsimp +zetaDelta only); (split <;> rfl)))

theorem attrCharge_core {s0 : State} (u energy rd wr : Nat) (s : State) (h : PortCore s0 s) :
    PortCore s0 ((attrCharge u energy rd wr s)) := by
  unfold attrCharge
  repeat' (first | intro _ | with_reducible assumption | with_reducible refine PortCore.pair ‹_› ?_ | with_reducible apply attrField_core | with_reducible apply modStn_core | with_reducible apply PortCore.ite | with_reducible apply PortCore.foldl | with_reducible apply State.wr_core | with_reducible apply State.wrN_core | with_reducible apply State.fs_core | with_reducible apply State.fsat_core | with_reducible apply State.wr64_core | with_reducible apply State.wrWords_core | with_reducible apply setStn_core | with_reducible apply modStn_core | with_reducible apply setPort_core | with_reducible apply modPort_core | extract_lets | split | (intro _; exact offer_ports _ _) | exact offer_ports _ _ | exact PortCore.of_stations rfl ‹_› | (first | (intro _; rfl) | rfl) | ((dsimp +zetaDelta only); (split <;> rfl)))

theorem attrClear_core {s0 : State} (n : Nat) (s : State) (h : PortCore s0 s) :
    PortCore s0 ((attrClear n s)) := by
  unfold attrClear
  repeat' (first | intro _ | with_reducible assumption | with_reducible apply modStn_core | with_reducible apply State.wr_core | with_reducible apply State.wrN_core | with_reducible apply State.fs_core | with_reducible apply State.fsat_core | with_reducible apply State.wr64_core | with_reducible apply State.wrWords_core | with_reducible apply setStn_core | with_reducible apply modStn_core | with_reducible apply setPort_core | with_reducible apply modPort_core | extract_lets | (intro _; exact offer_ports _ _) | exact offer_ports _ _ | exact PortCore.of_stations rfl ‹_› | (first | (intro _; rfl) | rfl) | ((dsimp +zetaDelta only); (split <;> rfl)))

theorem addRequest_core {s0 : State} (q : CutReq) (s : State) (h : PortCore s0 s) :
    PortCore s0 ((addRequest q s)) := by
  exact PortCore.of_stations (s := s) rfl h

theorem addRun_core {s0 : State} (stop : Bool) (n r : Nat) (s : State) (h : PortCore s0 s) :
    PortCore s0 ((addRun stop n r s)) := by
  unfold addRun
  extract_lets same runs __src s1
  have k : PortCore s0 s1 := PortCore.of_stations (s := s) rfl h
  split
  · exact h
  · split
    · exact k
    · exact addRequest_core _ _ k

theorem stnTrigger_core {s0 : State} (n : Nat) (stop : Bool) (s : State) (h : PortCore s0 s) :
    PortCore s0 ((stnTrigger n stop s).2) := by
  unfold stnTrigger
  repeat' (first | intro _ | with_reducible assumption | with_reducible refine PortCore.pair ‹_› ?_ | with_reducible apply addRun_core | with_reducible apply PortCore.ite | with_reducible apply State.wr_core | with_reducible apply State.wrN_core | with_reducible apply State.fs_core | with_reducible apply State.fsat_core | with_reducible apply State.wr64_core | with_reducible apply State.wrWords_core | with_reducible apply setStn_core | with_reducible apply modStn_core | with_reducible apply setPort_core | with_reducible apply modPort_core | extract_lets | split | (intro _; exact offer_ports _ _) | exact offer_ports _ _ | exact PortCore.of_stations rfl ‹_› | (first | (intro _; rfl) | rfl) | ((dsimp +zetaDelta only); (split <;> rfl)))

theorem centralTrigger_core {s0 : State} (x cls src : Nat) (who : CutWho) (s : State) (h : PortCore s0 s) :
    PortCore s0 ((centralTrigger x cls src who s)) := by
  unfold centralTrigger
  repeat' (first | intro _ | with_reducible assumption | with_reducible apply addRequest_core | with_reducible apply State.wr_core | with_reducible apply State.wrN_core | with_reducible apply State.fs_core | with_reducible apply State.fsat_core | with_reducible apply State.wr64_core | with_reducible apply State.wrWords_core | with_reducible apply setStn_core | with_reducible apply modStn_core | with_reducible apply setPort_core | with_reducible apply modPort_core | extract_lets | (intro _; exact offer_ports _ _) | exact offer_ports _ _ | exact PortCore.of_stations rfl ‹_› | (first | (intro _; rfl) | rfl) | ((dsimp +zetaDelta only); (split <;> rfl)))

theorem releaseOvf_core {s0 : State} (n : Nat) (s : State) (h : PortCore s0 s) :
    PortCore s0 ((releaseOvf n s)) := by
  unfold releaseOvf
  repeat' (first | intro _ | with_reducible assumption | with_reducible apply setStn_core | with_reducible apply PortCore.ite | with_reducible apply State.wr_core | with_reducible apply State.wrN_core | with_reducible apply State.fs_core | with_reducible apply State.fsat_core | with_reducible apply State.wr64_core | with_reducible apply State.wrWords_core | with_reducible apply setStn_core | with_reducible apply modStn_core | with_reducible apply setPort_core | with_reducible apply modPort_core | extract_lets | split | (intro _; exact offer_ports _ _) | exact offer_ports _ _ | exact PortCore.of_stations rfl ‹_› | (first | (intro _; rfl) | rfl) | ((dsimp +zetaDelta only); (split <;> rfl)))

theorem placeFault_core {s0 : State} (n : Nat) (f : StnFault) (s : State) (h : PortCore s0 s) :
    PortCore s0 ((placeFault n f s)) := by
  unfold placeFault
  repeat' (first | intro _ | with_reducible assumption | with_reducible apply setStn_core | with_reducible apply PortCore.ite | with_reducible apply State.wr_core | with_reducible apply State.wrN_core | with_reducible apply State.fs_core | with_reducible apply State.fsat_core | with_reducible apply State.wr64_core | with_reducible apply State.wrWords_core | with_reducible apply setStn_core | with_reducible apply modStn_core | with_reducible apply setPort_core | with_reducible apply modPort_core | extract_lets | split | (intro _; exact offer_ports _ _) | exact offer_ports _ _ | exact PortCore.of_stations rfl ‹_› | (first | (intro _; rfl) | rfl) | ((dsimp +zetaDelta only); (split <;> rfl)))

theorem placeFormed_core {s0 : State} (u : Nat) (r : FaultRec) (s : State) (h : PortCore s0 s) :
    PortCore s0 ((placeFormed u r s)) := by
  unfold placeFormed
  repeat' (first | intro _ | with_reducible assumption | with_reducible refine PortCore.pair ‹_› ?_ | with_reducible apply placeFault_core | with_reducible apply stnTrigger_core | with_reducible apply PortCore.ite | with_reducible apply State.wr_core | with_reducible apply State.wrN_core | with_reducible apply State.fs_core | with_reducible apply State.fsat_core | with_reducible apply State.wr64_core | with_reducible apply State.wrWords_core | with_reducible apply setStn_core | with_reducible apply modStn_core | with_reducible apply setPort_core | with_reducible apply modPort_core | extract_lets | split | (intro _; exact offer_ports _ _) | exact offer_ports _ _ | exact PortCore.of_stations rfl ‹_› | (first | (intro _; rfl) | rfl) | ((dsimp +zetaDelta only); (split <;> rfl)))

theorem formFault_core {s0 : State} (u code : Nat) (q : Option (Nat × QRec)) (d0 d1 d2 flags : Nat) (s : State) (h : PortCore s0 s) :
    PortCore s0 ((formFault u code q d0 d1 d2 flags s)) := by
  unfold formFault
  repeat' (first | intro _ | with_reducible assumption | with_reducible apply placeFormed_core | with_reducible apply State.wr_core | with_reducible apply State.wrN_core | with_reducible apply State.fs_core | with_reducible apply State.fsat_core | with_reducible apply State.wr64_core | with_reducible apply State.wrWords_core | with_reducible apply setStn_core | with_reducible apply modStn_core | with_reducible apply setPort_core | with_reducible apply modPort_core | (intro _; exact offer_ports _ _) | exact offer_ports _ _ | exact PortCore.of_stations rfl ‹_› | (first | (intro _; rfl) | rfl) | ((dsimp +zetaDelta only); (split <;> rfl)))

theorem latchFault_core {s0 : State} (u k code d0 d1 d2 : Nat) (s : State) (h : PortCore s0 s) :
    PortCore s0 ((latchFault u k code d0 d1 d2 s)) := by
  unfold latchFault
  repeat' (first | intro _ | with_reducible assumption | with_reducible apply formFault_core | with_reducible apply PortCore.ite | with_reducible apply State.wr_core | with_reducible apply State.wrN_core | with_reducible apply State.fs_core | with_reducible apply State.fsat_core | with_reducible apply State.wr64_core | with_reducible apply State.wrWords_core | with_reducible apply setStn_core | with_reducible apply modStn_core | with_reducible apply setPort_core | with_reducible apply modPort_core | extract_lets | split | (intro _; exact offer_ports _ _) | exact offer_ports _ _ | exact PortCore.of_stations rfl ‹_› | (first | (intro _; rfl) | rfl) | ((dsimp +zetaDelta only); (split <;> rfl)))

theorem protoViolation_core {s0 : State} (u row : Nat) (ctxs : List Nat) (queue : Option Nat) (s : State) (h : PortCore s0 s) :
    PortCore s0 ((protoViolation u row ctxs queue s)) := by
  unfold protoViolation
  repeat' (first | intro _ | with_reducible assumption | with_reducible apply latchFault_core | with_reducible apply pcEvent_core | with_reducible apply State.wr_core | with_reducible apply State.wrN_core | with_reducible apply State.fs_core | with_reducible apply State.fsat_core | with_reducible apply State.wr64_core | with_reducible apply State.wrWords_core | with_reducible apply setStn_core | with_reducible apply modStn_core | with_reducible apply setPort_core | with_reducible apply modPort_core | extract_lets | (intro _; exact offer_ports _ _) | exact offer_ports _ _ | exact PortCore.of_stations rfl ‹_› | (first | (intro _; rfl) | rfl) | ((dsimp +zetaDelta only); (split <;> rfl)))

theorem clearLatches_core {s0 : State} (u : Nat) (s : State) (h : PortCore s0 s) :
    PortCore s0 ((clearLatches u s)) := by
  unfold clearLatches
  repeat' (first | intro _ | with_reducible assumption | with_reducible apply PortCore.foldl | with_reducible apply State.wr_core | with_reducible apply State.wrN_core | with_reducible apply State.fs_core | with_reducible apply State.fsat_core | with_reducible apply State.wr64_core | with_reducible apply State.wrWords_core | with_reducible apply setStn_core | with_reducible apply modStn_core | with_reducible apply setPort_core | with_reducible apply modPort_core | (intro _; exact offer_ports _ _) | exact offer_ports _ _ | exact PortCore.of_stations rfl ‹_› | (first | (intro _; rfl) | rfl) | ((dsimp +zetaDelta only); (split <;> rfl)))

theorem addAct_core {s0 : State} (n cyc : Nat) (a : StnAct) (s : State) (h : PortCore s0 s) :
    PortCore s0 ((addAct n cyc a s)) := by
  unfold addAct
  repeat' (first | intro _ | with_reducible assumption | with_reducible apply modStn_core | with_reducible apply State.wr_core | with_reducible apply State.wrN_core | with_reducible apply State.fs_core | with_reducible apply State.fsat_core | with_reducible apply State.wr64_core | with_reducible apply State.wrWords_core | with_reducible apply setStn_core | with_reducible apply modStn_core | with_reducible apply setPort_core | with_reducible apply modPort_core | extract_lets | (intro _; exact offer_ports _ _) | exact offer_ports _ _ | exact PortCore.of_stations rfl ‹_› | (first | (intro _; rfl) | rfl) | ((dsimp +zetaDelta only); (split <;> rfl)))

theorem dropDrain_core {s0 : State} (n p : Nat) (s : State) (h : PortCore s0 s) :
    PortCore s0 ((dropDrain n p s)) := by
  unfold dropDrain
  repeat' (first | intro _ | with_reducible assumption | with_reducible apply modStn_core | with_reducible apply State.wr_core | with_reducible apply State.wrN_core | with_reducible apply State.fs_core | with_reducible apply State.fsat_core | with_reducible apply State.wr64_core | with_reducible apply State.wrWords_core | with_reducible apply setStn_core | with_reducible apply modStn_core | with_reducible apply setPort_core | with_reducible apply modPort_core | extract_lets | (intro _; exact offer_ports _ _) | exact offer_ports _ _ | exact PortCore.of_stations rfl ‹_› | (first | (intro _; rfl) | rfl) | ((dsimp +zetaDelta only); (split <;> rfl)))

theorem driveSh_core {s0 : State} (u : Nat) (s : State) (h : PortCore s0 s) :
    PortCore s0 ((driveSh u s)) := by
  unfold driveSh
  repeat' (first | intro _ | with_reducible assumption | with_reducible apply addAct_core | with_reducible apply setPort_core | with_reducible apply PortCore.ite | with_reducible apply State.wr_core | with_reducible apply State.wrN_core | with_reducible apply State.fs_core | with_reducible apply State.fsat_core | with_reducible apply State.wr64_core | with_reducible apply State.wrWords_core | with_reducible apply setStn_core | with_reducible apply modStn_core | with_reducible apply setPort_core | with_reducible apply modPort_core | extract_lets | split | (intro _; exact offer_ports _ _) | exact offer_ports _ _ | exact PortCore.of_stations rfl ‹_› | (first | (intro _; rfl) | rfl) | ((dsimp +zetaDelta only); (split <;> rfl)))

theorem driveStn_core {s0 : State} (n : Nat) (s : State) (h : PortCore s0 s) :
    PortCore s0 ((driveStn n s)) := by
  unfold driveStn
  repeat' (first | intro _ | with_reducible assumption | with_reducible apply driveSh_core | with_reducible apply PortCore.foldl | with_reducible apply State.wr_core | with_reducible apply State.wrN_core | with_reducible apply State.fs_core | with_reducible apply State.fsat_core | with_reducible apply State.wr64_core | with_reducible apply State.wrWords_core | with_reducible apply setStn_core | with_reducible apply modStn_core | with_reducible apply setPort_core | with_reducible apply modPort_core | extract_lets | (intro _; exact offer_ports _ _) | exact offer_ports _ _ | exact PortCore.of_stations rfl ‹_› | (first | (intro _; rfl) | rfl) | ((dsimp +zetaDelta only); (split <;> rfl)))

theorem expirePw_core {s0 : State} (u : Nat) (s : State) (h : PortCore s0 s) :
    PortCore s0 ((expirePw u s)) := by
  unfold expirePw
  repeat' (first | intro _ | with_reducible assumption | with_reducible apply latchFault_core | with_reducible apply modPort_core | with_reducible apply PortCore.ite | with_reducible apply State.wr_core | with_reducible apply State.wrN_core | with_reducible apply State.fs_core | with_reducible apply State.fsat_core | with_reducible apply State.wr64_core | with_reducible apply State.wrWords_core | with_reducible apply setStn_core | with_reducible apply modStn_core | with_reducible apply setPort_core | with_reducible apply modPort_core | extract_lets | split | (intro _; exact offer_ports _ _) | exact offer_ports _ _ | exact PortCore.of_stations rfl ‹_› | (first | (intro _; rfl) | rfl) | ((dsimp +zetaDelta only); (split <;> rfl)))

theorem freeWd_core {s0 : State} (n : Nat) (f : Watchdog → Bool) (s : State) (h : PortCore s0 s) :
    PortCore s0 ((freeWd n f s)) := by
  unfold freeWd
  repeat' (first | intro _ | with_reducible assumption | with_reducible apply setStn_core | with_reducible apply State.wr_core | with_reducible apply State.wrN_core | with_reducible apply State.fs_core | with_reducible apply State.fsat_core | with_reducible apply State.wr64_core | with_reducible apply State.wrWords_core | with_reducible apply setStn_core | with_reducible apply modStn_core | with_reducible apply setPort_core | with_reducible apply modPort_core | extract_lets | (intro _; exact offer_ports _ _) | exact offer_ports _ _ | exact PortCore.of_stations rfl ‹_› | (first | (intro _; rfl) | rfl) | ((dsimp +zetaDelta only); (split <;> rfl)))

theorem missWd_core {s0 : State} (n i : Nat) (w : Watchdog) (s : State) (h : PortCore s0 s) :
    PortCore s0 ((missWd n i w s)) := by
  unfold missWd
  repeat' (first | intro _ | with_reducible assumption | with_reducible apply aoAdd_core | with_reducible apply formFault_core | with_reducible apply freeWd_core | with_reducible apply modStn_core | with_reducible apply pcEvent_core | with_reducible apply PortCore.ite | with_reducible apply State.wr_core | with_reducible apply State.wrN_core | with_reducible apply State.fs_core | with_reducible apply State.fsat_core | with_reducible apply State.wr64_core | with_reducible apply State.wrWords_core | with_reducible apply setStn_core | with_reducible apply modStn_core | with_reducible apply setPort_core | with_reducible apply modPort_core | extract_lets | split | (intro _; exact offer_ports _ _) | exact offer_ports _ _ | exact PortCore.of_stations rfl ‹_› | (first | (intro _; rfl) | rfl) | ((dsimp +zetaDelta only); (split <;> rfl)))

theorem expireWd_core {s0 : State} (u : Nat) (s : State) (h : PortCore s0 s) :
    PortCore s0 ((expireWd u s)) := by
  unfold expireWd
  repeat' (first | intro _ | with_reducible assumption | with_reducible apply missWd_core | with_reducible apply PortCore.foldl | with_reducible apply State.wr_core | with_reducible apply State.wrN_core | with_reducible apply State.fs_core | with_reducible apply State.fsat_core | with_reducible apply State.wr64_core | with_reducible apply State.wrWords_core | with_reducible apply setStn_core | with_reducible apply modStn_core | with_reducible apply setPort_core | with_reducible apply modPort_core | extract_lets | (intro _; exact offer_ports _ _) | exact offer_ports _ _ | exact PortCore.of_stations rfl ‹_› | (first | (intro _; rfl) | rfl) | ((dsimp +zetaDelta only); (split <;> rfl)))

theorem holdChange_core {s0 : State} (u : Nat) (was : Bool) (s : State) (h : PortCore s0 s) :
    PortCore s0 ((holdChange u was s)) := by
  unfold holdChange
  repeat' (first | intro _ | with_reducible assumption | with_reducible apply expireWd_core | with_reducible apply modPort_core | with_reducible apply modStn_core | with_reducible apply PortCore.ite | with_reducible apply State.wr_core | with_reducible apply State.wrN_core | with_reducible apply State.fs_core | with_reducible apply State.fsat_core | with_reducible apply State.wr64_core | with_reducible apply State.wrWords_core | with_reducible apply setStn_core | with_reducible apply modStn_core | with_reducible apply setPort_core | with_reducible apply modPort_core | extract_lets | split | (intro _; exact offer_ports _ _) | exact offer_ports _ _ | exact PortCore.of_stations rfl ‹_› | (first | (intro _; rfl) | rfl) | ((dsimp +zetaDelta only); (split <;> rfl)))

theorem bndTouch_core {s0 : State} (n e : Nat) (s : State) (h : PortCore s0 s) :
    PortCore s0 ((bndTouch n e s)) := by
  unfold bndTouch
  repeat' (first | intro _ | with_reducible assumption | with_reducible apply modStn_core | with_reducible apply State.wr_core | with_reducible apply State.wrN_core | with_reducible apply State.fs_core | with_reducible apply State.fsat_core | with_reducible apply State.wr64_core | with_reducible apply State.wrWords_core | with_reducible apply setStn_core | with_reducible apply modStn_core | with_reducible apply setPort_core | with_reducible apply modPort_core | extract_lets | (intro _; exact offer_ports _ _) | exact offer_ports _ _ | exact PortCore.of_stations rfl ‹_› | (first | (intro _; rfl) | rfl) | ((dsimp +zetaDelta only); (split <;> rfl)))

theorem bndBegin_core {s0 : State} (u q : Nat) (s : State) (h : PortCore s0 s) :
    PortCore s0 ((bndBegin u q s)) := by
  have take : ∀ e, PortCore s0 (bndTouch (u / 16) e ((modStn (u / 16) (fun x => { x with bndDone := mdel x.bndDone e }) s).wrWords
      (R.STN_RST_ENT (u / 16) e 0) [u % 16 + 16 * q + 2 ^ 10, 0, 0, 0])) := fun e =>
    bndTouch_core _ _ _ (State.wrWords_core _ _ _ (modStn_core _ _ _ (fun _ => rfl) h))
  unfold bndBegin
  dsimp only
  split
  · exact bndTouch_core _ _ _ h
  · split
    · exact take _
    · exact take _
    · exact State.fs_core _ _ _ h

theorem bndEnd_core {s0 : State} (u q seq ctx epoch : Nat) (s : State) (h : PortCore s0 s) :
    PortCore s0 ((bndEnd u q seq ctx epoch s)) := by
  unfold bndEnd
  repeat' (first | intro _ | with_reducible assumption | with_reducible apply bndTouch_core | with_reducible apply modStn_core | with_reducible apply State.wr_core | with_reducible apply State.wrN_core | with_reducible apply State.fs_core | with_reducible apply State.fsat_core | with_reducible apply State.wr64_core | with_reducible apply State.wrWords_core | with_reducible apply setStn_core | with_reducible apply modStn_core | with_reducible apply setPort_core | with_reducible apply modPort_core | extract_lets | split | (intro _; exact offer_ports _ _) | exact offer_ports _ _ | exact PortCore.of_stations rfl ‹_› | (first | (intro _; rfl) | rfl) | ((dsimp +zetaDelta only); (split <;> rfl)))

theorem bndLatch_core {s0 : State} (u : Nat) (s : State) (h : PortCore s0 s) :
    PortCore s0 ((bndLatch u s)) := by
  unfold bndLatch
  repeat' (first | intro _ | with_reducible assumption | with_reducible apply PortCore.ite | with_reducible apply PortCore.foldl | with_reducible apply State.wr_core | with_reducible apply State.wrN_core | with_reducible apply State.fs_core | with_reducible apply State.fsat_core | with_reducible apply State.wr64_core | with_reducible apply State.wrWords_core | with_reducible apply setStn_core | with_reducible apply modStn_core | with_reducible apply setPort_core | with_reducible apply modPort_core | extract_lets | split | (intro _; exact offer_ports _ _) | exact offer_ports _ _ | exact PortCore.of_stations rfl ‹_› | (first | (intro _; rfl) | rfl) | ((dsimp +zetaDelta only); (split <;> rfl)))

theorem syncPort_core {s0 : State} (n p reason : Nat) (s : State) (h : PortCore s0 s) :
    PortCore s0 ((syncPort n p reason s)) := by
  unfold syncPort
  repeat' (first | intro _ | with_reducible assumption | with_reducible apply modStn_core | with_reducible apply PortCore.foldl | with_reducible apply State.wr_core | with_reducible apply State.wrN_core | with_reducible apply State.fs_core | with_reducible apply State.fsat_core | with_reducible apply State.wr64_core | with_reducible apply State.wrWords_core | with_reducible apply setStn_core | with_reducible apply modStn_core | with_reducible apply setPort_core | with_reducible apply modPort_core | extract_lets | (intro _; exact offer_ports _ _) | exact offer_ports _ _ | exact PortCore.of_stations rfl ‹_› | (first | (intro _; rfl) | rfl) | ((dsimp +zetaDelta only); (split <;> rfl)))

theorem syncStn_core {s0 : State} (n reason : Nat) (s : State) (h : PortCore s0 s) :
    PortCore s0 ((syncStn n reason s)) := by
  unfold syncStn
  repeat' (first | intro _ | with_reducible assumption | with_reducible apply syncPort_core | with_reducible apply PortCore.foldl | with_reducible apply State.wr_core | with_reducible apply State.wrN_core | with_reducible apply State.fs_core | with_reducible apply State.fsat_core | with_reducible apply State.wr64_core | with_reducible apply State.wrWords_core | with_reducible apply setStn_core | with_reducible apply modStn_core | with_reducible apply setPort_core | with_reducible apply modPort_core | (intro _; exact offer_ports _ _) | exact offer_ports _ _ | exact PortCore.of_stations rfl ‹_› | (first | (intro _; rfl) | rfl) | ((dsimp +zetaDelta only); (split <;> rfl)))

theorem showLost_core {s0 : State} (n : Nat) (s : State) (h : PortCore s0 s) :
    PortCore s0 ((showLost n s)) := by
  unfold showLost
  repeat' (first | intro _ | with_reducible assumption | with_reducible apply State.wr_core | with_reducible apply State.wrN_core | with_reducible apply State.fs_core | with_reducible apply State.fsat_core | with_reducible apply State.wr64_core | with_reducible apply State.wrWords_core | with_reducible apply setStn_core | with_reducible apply modStn_core | with_reducible apply setPort_core | with_reducible apply modPort_core | (intro _; exact offer_ports _ _) | exact offer_ports _ _ | exact PortCore.of_stations rfl ‹_› | (first | (intro _; rfl) | rfl) | ((dsimp +zetaDelta only); (split <;> rfl)))

theorem losslessHold_core {s0 : State} (n : Nat) (s : State) (h : PortCore s0 s) :
    PortCore s0 ((losslessHold n s)) := by
  unfold losslessHold
  repeat' (first | intro _ | with_reducible assumption | with_reducible apply modPort_core | with_reducible apply PortCore.ite | with_reducible apply PortCore.foldl | with_reducible apply State.wr_core | with_reducible apply State.wrN_core | with_reducible apply State.fs_core | with_reducible apply State.fsat_core | with_reducible apply State.wr64_core | with_reducible apply State.wrWords_core | with_reducible apply setStn_core | with_reducible apply modStn_core | with_reducible apply setPort_core | with_reducible apply modPort_core | extract_lets | split | (intro _; exact offer_ports _ _) | exact offer_ports _ _ | exact PortCore.of_stations rfl ‹_› | (first | (intro _; rfl) | rfl) | ((dsimp +zetaDelta only); (split <;> rfl)))

theorem closeTrace_core {s0 : State} (n : Nat) (s : State) (h : PortCore s0 s) :
    PortCore s0 ((closeTrace n s)) := by
  unfold closeTrace
  repeat' (first | intro _ | with_reducible assumption | with_reducible apply losslessHold_core | with_reducible apply pcStation_core | with_reducible apply setStn_core | with_reducible apply showLost_core | with_reducible apply PortCore.ite | with_reducible apply PortCore.foldl | with_reducible apply State.wr_core | with_reducible apply State.wrN_core | with_reducible apply State.fs_core | with_reducible apply State.fsat_core | with_reducible apply State.wr64_core | with_reducible apply State.wrWords_core | with_reducible apply setStn_core | with_reducible apply modStn_core | with_reducible apply setPort_core | with_reducible apply modPort_core | extract_lets | split | (intro _; exact offer_ports _ _) | exact offer_ports _ _ | exact PortCore.of_stations rfl ‹_› | (first | (intro _; rfl) | rfl) | ((dsimp +zetaDelta only); (split <;> rfl)))

theorem appendUnit_core {s0 : State} (n p : Nat) (body : List Nat) (pkts : Nat) (s : State) (h : PortCore s0 s) :
    PortCore s0 ((appendUnit n p body pkts s)) := by
  unfold appendUnit
  repeat' (first | intro _ | with_reducible assumption | with_reducible apply closeTrace_core | with_reducible apply modStn_core | with_reducible apply PortCore.ite | with_reducible apply State.wr_core | with_reducible apply State.wrN_core | with_reducible apply State.fs_core | with_reducible apply State.fsat_core | with_reducible apply State.wr64_core | with_reducible apply State.wrWords_core | with_reducible apply setStn_core | with_reducible apply modStn_core | with_reducible apply setPort_core | with_reducible apply modPort_core | extract_lets | split | (intro _; exact offer_ports _ _) | exact offer_ports _ _ | exact PortCore.of_stations rfl ‹_› | (first | (intro _; rfl) | rfl) | ((dsimp +zetaDelta only); (split <;> rfl)))

theorem formPacket_core {s0 : State} (u src : Nat) (key : Option DictEnt) (mk : Nat → List Nat) (pre : Port) (s : State) (h : PortCore s0 s) :
    PortCore s0 ((formPacket u src key mk pre s)) := by
  unfold formPacket
  repeat' (first | intro _ | with_reducible assumption | with_reducible apply appendUnit_core | with_reducible apply closeTrace_core | with_reducible apply modStn_core | with_reducible apply showLost_core | with_reducible apply PortCore.ite | with_reducible apply PortCore.foldl | with_reducible apply State.wr_core | with_reducible apply State.wrN_core | with_reducible apply State.fs_core | with_reducible apply State.fsat_core | with_reducible apply State.wr64_core | with_reducible apply State.wrWords_core | with_reducible apply setStn_core | with_reducible apply modStn_core | with_reducible apply setPort_core | with_reducible apply modPort_core | extract_lets | split | (intro _; exact offer_ports _ _) | exact offer_ports _ _ | exact PortCore.of_stations rfl ‹_› | (first | (intro _; rfl) | rfl) | ((dsimp +zetaDelta only); (split <;> rfl)))

theorem coreOvfGap_core {s0 : State} (u src : Nat) (s : State) (h : PortCore s0 s) :
    PortCore s0 ((coreOvfGap u src s)) := by
  unfold coreOvfGap
  repeat' (first | intro _ | with_reducible assumption | with_reducible apply appendUnit_core | with_reducible apply modStn_core | with_reducible apply State.wr_core | with_reducible apply State.wrN_core | with_reducible apply State.fs_core | with_reducible apply State.fsat_core | with_reducible apply State.wr64_core | with_reducible apply State.wrWords_core | with_reducible apply setStn_core | with_reducible apply modStn_core | with_reducible apply setPort_core | with_reducible apply modPort_core | extract_lets | (intro _; exact offer_ports _ _) | exact offer_ports _ _ | exact PortCore.of_stations rfl ‹_› | (first | (intro _; rfl) | rfl) | ((dsimp +zetaDelta only); (split <;> rfl)))

theorem portPacket_core {s0 : State} (u : Nat) (bytes : List Nat) (pre : Port) (s : State) (h : PortCore s0 s) :
    PortCore s0 ((portPacket u bytes pre s)) := by
  unfold portPacket
  repeat' (first | intro _ | with_reducible assumption | with_reducible apply formPacket_core | with_reducible apply PortCore.ite | with_reducible apply State.wr_core | with_reducible apply State.wrN_core | with_reducible apply State.fs_core | with_reducible apply State.fsat_core | with_reducible apply State.wr64_core | with_reducible apply State.wrWords_core | with_reducible apply setStn_core | with_reducible apply modStn_core | with_reducible apply setPort_core | with_reducible apply modPort_core | split | (intro _; exact offer_ports _ _) | exact offer_ports _ _ | exact PortCore.of_stations rfl ‹_› | (first | (intro _; rfl) | rfl) | ((dsimp +zetaDelta only); (split <;> rfl)))

theorem cmdPacket_core {s0 : State} (u : Nat) (e : Event) (pre : Port) (s : State) (h : PortCore s0 s) :
    PortCore s0 ((cmdPacket u e pre s)) := by
  unfold cmdPacket
  repeat' (first | intro _ | with_reducible assumption | with_reducible apply formPacket_core | with_reducible apply PortCore.ite | with_reducible apply State.wr_core | with_reducible apply State.wrN_core | with_reducible apply State.fs_core | with_reducible apply State.fsat_core | with_reducible apply State.wr64_core | with_reducible apply State.wrWords_core | with_reducible apply setStn_core | with_reducible apply modStn_core | with_reducible apply setPort_core | with_reducible apply modPort_core | extract_lets | split | (intro _; exact offer_ports _ _) | exact offer_ports _ _ | exact PortCore.of_stations rfl ‹_› | (first | (intro _; rfl) | rfl) | ((dsimp +zetaDelta only); (split <;> rfl)))

theorem stalePacket_core {s0 : State} (u : Nat) (e : Event) (cur : Nat) (pre : Port) (s : State) (h : PortCore s0 s) :
    PortCore s0 ((stalePacket u e cur pre s)) := by
  unfold stalePacket
  repeat' (first | intro _ | with_reducible assumption | with_reducible apply formPacket_core | with_reducible apply PortCore.ite | with_reducible apply State.wr_core | with_reducible apply State.wrN_core | with_reducible apply State.fs_core | with_reducible apply State.fsat_core | with_reducible apply State.wr64_core | with_reducible apply State.wrWords_core | with_reducible apply setStn_core | with_reducible apply modStn_core | with_reducible apply setPort_core | with_reducible apply modPort_core | extract_lets | split | (intro _; exact offer_ports _ _) | exact offer_ports _ _ | exact PortCore.of_stations rfl ‹_› | (first | (intro _; rfl) | rfl) | ((dsimp +zetaDelta only); (split <;> rfl)))

theorem stnHits_core {s0 : State} (u : Nat) (f : List Nat → Bool) (ctx : Nat) (s : State) (h : PortCore s0 s) :
    PortCore s0 ((stnHits u f ctx s)) := by
  unfold stnHits
  repeat' (first | intro _ | with_reducible assumption | with_reducible apply modStn_core | with_reducible apply PortCore.ite | with_reducible apply PortCore.foldl | with_reducible apply State.wr_core | with_reducible apply State.wrN_core | with_reducible apply State.fs_core | with_reducible apply State.fsat_core | with_reducible apply State.wr64_core | with_reducible apply State.wrWords_core | with_reducible apply setStn_core | with_reducible apply modStn_core | with_reducible apply setPort_core | with_reducible apply modPort_core | extract_lets | split | (intro _; exact offer_ports _ _) | exact offer_ports _ _ | exact PortCore.of_stations rfl ‹_› | (first | (intro _; rfl) | rfl) | ((dsimp +zetaDelta only); (split <;> rfl)))

theorem skipTile_core {s0 : State} (n p q sl : Nat) (rate : Bool) (s : State) (h : PortCore s0 s) :
    PortCore s0 ((skipTile n p q sl rate s)) := by
  unfold skipTile
  repeat' (first | intro _ | with_reducible assumption | with_reducible apply pcStation_core | with_reducible apply setStn_core | with_reducible apply PortCore.ite | with_reducible apply State.wr_core | with_reducible apply State.wrN_core | with_reducible apply State.fs_core | with_reducible apply State.fsat_core | with_reducible apply State.wr64_core | with_reducible apply State.wrWords_core | with_reducible apply setStn_core | with_reducible apply modStn_core | with_reducible apply setPort_core | with_reducible apply modPort_core | extract_lets | split | (intro _; exact offer_ports _ _) | exact offer_ports _ _ | exact PortCore.of_stations rfl ‹_› | (first | (intro _; rfl) | rfl) | ((dsimp +zetaDelta only); (split <;> rfl)))

theorem absorbPair_core {s0 : State} (n p : Nat) (r : Pair) (s : State) (h : PortCore s0 s) :
    PortCore s0 ((absorbPair n p r s)) := by
  unfold absorbPair
  repeat' (first | intro _ | with_reducible assumption | with_reducible apply modStn_core | with_reducible apply setStn_core | with_reducible apply skipTile_core | with_reducible apply PortCore.ite | with_reducible apply State.wr_core | with_reducible apply State.wrN_core | with_reducible apply State.fs_core | with_reducible apply State.fsat_core | with_reducible apply State.wr64_core | with_reducible apply State.wrWords_core | with_reducible apply setStn_core | with_reducible apply modStn_core | with_reducible apply setPort_core | with_reducible apply modPort_core | extract_lets | split | (intro _; exact offer_ports _ _) | exact offer_ports _ _ | exact PortCore.of_stations rfl ‹_› | (first | (intro _; rfl) | rfl) | ((dsimp +zetaDelta only); (split <;> rfl)))

theorem endTiles_core {s0 : State} (n : Nat) (f : Tile → Bool) (aborted cut : Bool) (s : State) (h : PortCore s0 s) :
    PortCore s0 ((endTiles n f aborted cut s)) := by
  unfold endTiles
  repeat' (first | intro _ | with_reducible assumption | with_reducible apply absorbPair_core | with_reducible apply offerMsg_core | with_reducible apply setStn_core | with_reducible apply PortCore.ite | with_reducible apply PortCore.foldl | with_reducible apply State.wr_core | with_reducible apply State.wrN_core | with_reducible apply State.fs_core | with_reducible apply State.fsat_core | with_reducible apply State.wr64_core | with_reducible apply State.wrWords_core | with_reducible apply setStn_core | with_reducible apply modStn_core | with_reducible apply setPort_core | with_reducible apply modPort_core | extract_lets | split | (intro _; exact offer_ports _ _) | exact offer_ports _ _ | exact PortCore.of_stations rfl ‹_› | (first | (intro _; rfl) | rfl) | ((dsimp +zetaDelta only); (split <;> rfl)))

theorem applySlot_core {s0 : State} (n i : Nat) (copy : Bool) (ws : List Nat) (s : State) (h : PortCore s0 s) :
    PortCore s0 ((applySlot n i copy ws s)) := by
  unfold applySlot
  repeat' (first | intro _ | with_reducible assumption | with_reducible apply endTiles_core | with_reducible apply modStn_core | with_reducible apply PortCore.ite | with_reducible apply State.wr_core | with_reducible apply State.wrN_core | with_reducible apply State.fs_core | with_reducible apply State.fsat_core | with_reducible apply State.wr64_core | with_reducible apply State.wrWords_core | with_reducible apply setStn_core | with_reducible apply modStn_core | with_reducible apply setPort_core | with_reducible apply modPort_core | extract_lets | split | (intro _; exact offer_ports _ _) | exact offer_ports _ _ | exact PortCore.of_stations rfl ‹_› | (first | (intro _; rfl) | rfl) | ((dsimp +zetaDelta only); (split <;> rfl)))

theorem endedTiles_core {s0 : State} (n p : Nat) (queue : Option Nat) (s : State) (h : PortCore s0 s) :
    PortCore s0 ((endedTiles n p queue s)) := by
  unfold endedTiles
  repeat' (first | intro _ | with_reducible assumption | with_reducible apply endTiles_core | with_reducible apply modStn_core | with_reducible apply PortCore.foldl | with_reducible apply State.wr_core | with_reducible apply State.wrN_core | with_reducible apply State.fs_core | with_reducible apply State.fsat_core | with_reducible apply State.wr64_core | with_reducible apply State.wrWords_core | with_reducible apply setStn_core | with_reducible apply modStn_core | with_reducible apply setPort_core | with_reducible apply modPort_core | extract_lets | split | (intro _; exact offer_ports _ _) | exact offer_ports _ _ | exact PortCore.of_stations rfl ‹_› | (first | (intro _; rfl) | rfl) | ((dsimp +zetaDelta only); (split <;> rfl)))

theorem takeWd_core {s0 : State} (u : Nat) (e : Event) (q : QRec) (s : State) (h : PortCore s0 s) :
    PortCore s0 ((takeWd u e q s)) := by
  unfold takeWd
  repeat' (first | intro _ | with_reducible assumption | with_reducible apply formFault_core | with_reducible apply setStn_core | with_reducible apply PortCore.ite | with_reducible apply State.wr_core | with_reducible apply State.wrN_core | with_reducible apply State.fs_core | with_reducible apply State.fsat_core | with_reducible apply State.wr64_core | with_reducible apply State.wrWords_core | with_reducible apply setStn_core | with_reducible apply modStn_core | with_reducible apply setPort_core | with_reducible apply modPort_core | extract_lets | split | (intro _; exact offer_ports _ _) | exact offer_ports _ _ | exact PortCore.of_stations rfl ‹_› | (first | (intro _; rfl) | rfl) | ((dsimp +zetaDelta only); (split <;> rfl)))

theorem showExcl_core {s0 : State} (n : Nat) (s : State) (h : PortCore s0 s) :
    PortCore s0 ((showExcl n s)) := by
  unfold showExcl
  repeat' (first | intro _ | with_reducible assumption | with_reducible apply State.wr_core | with_reducible apply State.wrN_core | with_reducible apply State.fs_core | with_reducible apply State.fsat_core | with_reducible apply State.wr64_core | with_reducible apply State.wrWords_core | with_reducible apply setStn_core | with_reducible apply modStn_core | with_reducible apply setPort_core | with_reducible apply modPort_core | (intro _; exact offer_ports _ _) | exact offer_ports _ _ | exact PortCore.of_stations rfl ‹_› | (first | (intro _; rfl) | rfl) | ((dsimp +zetaDelta only); (split <;> rfl)))

theorem portMismatch_core {s0 : State} (unit : Nat) (s : State) (h : PortCore s0 s) :
    PortCore s0 ((portMismatch unit s)) := by
  unfold portMismatch
  repeat' (first | intro _ | with_reducible assumption | with_reducible apply formFault_core | with_reducible apply State.wr_core | with_reducible apply State.wrN_core | with_reducible apply State.fs_core | with_reducible apply State.fsat_core | with_reducible apply State.wr64_core | with_reducible apply State.wrWords_core | with_reducible apply setStn_core | with_reducible apply modStn_core | with_reducible apply setPort_core | with_reducible apply modPort_core | split | (intro _; exact offer_ports _ _) | exact offer_ports _ _ | exact PortCore.of_stations rfl ‹_› | (first | (intro _; rfl) | rfl) | ((dsimp +zetaDelta only); (split <;> rfl)))

theorem progress_core {s0 : State} (u : Nat) (moved : Bool) (s : State) (h : PortCore s0 s) :
    PortCore s0 ((progress u moved s)) := by
  unfold progress
  repeat' (first | intro _ | with_reducible assumption | with_reducible apply expirePw_core | with_reducible apply setPort_core | with_reducible apply PortCore.ite | with_reducible apply State.wr_core | with_reducible apply State.wrN_core | with_reducible apply State.fs_core | with_reducible apply State.fsat_core | with_reducible apply State.wr64_core | with_reducible apply State.wrWords_core | with_reducible apply setStn_core | with_reducible apply modStn_core | with_reducible apply setPort_core | with_reducible apply modPort_core | extract_lets | split | (intro _; exact offer_ports _ _) | exact offer_ports _ _ | exact PortCore.of_stations rfl ‹_› | (first | (intro _; rfl) | rfl) | ((dsimp +zetaDelta only); (split <;> rfl)))

theorem staleEvent_core {s0 : State} (u : Nat) (e : Event) (pre : Port) (s : State) (h : PortCore s0 s) :
    PortCore s0 ((staleEvent u e pre s)) := by
  unfold staleEvent
  repeat' (first | intro _ | with_reducible assumption | with_reducible apply pcEvent_core | with_reducible apply stalePacket_core | with_reducible apply State.wr_core | with_reducible apply State.wrN_core | with_reducible apply State.fs_core | with_reducible apply State.fsat_core | with_reducible apply State.wr64_core | with_reducible apply State.wrWords_core | with_reducible apply setStn_core | with_reducible apply modStn_core | with_reducible apply setPort_core | with_reducible apply modPort_core | extract_lets | (intro _; exact offer_ports _ _) | exact offer_ports _ _ | exact PortCore.of_stations rfl ‹_› | (first | (intro _; rfl) | rfl) | ((dsimp +zetaDelta only); (split <;> rfl)))

theorem freshEvent_core {s0 : State} (u : Nat) (e : Event) (pre : Port) (s : State) (h : PortCore s0 s) :
    PortCore s0 ((freshEvent u e pre s)) := by
  unfold freshEvent
  repeat' (first | intro _ | with_reducible assumption | with_reducible apply addAct_core | with_reducible apply aoAdd_core | with_reducible apply attrBegin_core | with_reducible apply bndBegin_core | with_reducible apply bndEnd_core | with_reducible apply bndTouch_core | with_reducible apply cmdPacket_core | with_reducible apply endedTiles_core | with_reducible apply freeWd_core | with_reducible apply pcBegin_core | with_reducible apply pcEvent_core | with_reducible apply stnHits_core | with_reducible apply takeWd_core | with_reducible apply PortCore.ite | with_reducible apply State.wr_core | with_reducible apply State.wrN_core | with_reducible apply State.fs_core | with_reducible apply State.fsat_core | with_reducible apply State.wr64_core | with_reducible apply State.wrWords_core | with_reducible apply setStn_core | with_reducible apply modStn_core | with_reducible apply setPort_core | with_reducible apply modPort_core | extract_lets | split | (intro _; exact offer_ports _ _) | exact offer_ports _ _ | exact PortCore.of_stations rfl ‹_› | (first | (intro _; rfl) | rfl) | ((dsimp +zetaDelta only); (split <;> rfl)))

theorem seeCken_core {s0 : State} (u : Nat) (cken : Bool) (s : State) (h : PortCore s0 s) :
    PortCore s0 ((seeCken u cken s)) := by
  unfold seeCken
  repeat' (first | intro _ | with_reducible assumption | with_reducible apply setPort_core | with_reducible apply PortCore.ite | with_reducible apply State.wr_core | with_reducible apply State.wrN_core | with_reducible apply State.fs_core | with_reducible apply State.fsat_core | with_reducible apply State.wr64_core | with_reducible apply State.wrWords_core | with_reducible apply setStn_core | with_reducible apply modStn_core | with_reducible apply setPort_core | with_reducible apply modPort_core | extract_lets | split | (intro _; exact offer_ports _ _) | exact offer_ports _ _ | exact PortCore.of_stations rfl ‹_› | (first | (intro _; rfl) | rfl) | ((dsimp +zetaDelta only); (split <;> rfl)))

theorem modCount_core {s0 : State} (slot : Nat) (f : SlotCount → SlotCount) (s : State) (h : PortCore s0 s) :
    PortCore s0 ((modCount slot f s)) := by
  exact PortCore.of_stations (s := s) rfl h

theorem writeDbgCtl_core {s0 : State} (unit value : Nat) (s : State) (h : PortCore s0 s) :
    PortCore s0 ((writeDbgCtl unit value s)) := by
  unfold writeDbgCtl
  repeat' (first | intro _ | with_reducible assumption | with_reducible apply modStn_core | with_reducible apply setPort_core | with_reducible apply PortCore.ite | with_reducible apply PortCore.foldl | with_reducible apply State.wr_core | with_reducible apply State.wrN_core | with_reducible apply State.fs_core | with_reducible apply State.fsat_core | with_reducible apply State.wr64_core | with_reducible apply State.wrWords_core | with_reducible apply setStn_core | with_reducible apply modStn_core | with_reducible apply setPort_core | with_reducible apply modPort_core | extract_lets | split | (intro _; exact offer_ports _ _) | exact offer_ports _ _ | exact PortCore.of_stations rfl ‹_› | (first | (intro _; rfl) | rfl) | ((dsimp +zetaDelta only); (split <;> rfl)))

theorem writeDbgAddr_core {s0 : State} (unit v : Nat) (s : State) (h : PortCore s0 s) :
    PortCore s0 ((writeDbgAddr unit v s)) := by
  unfold writeDbgAddr
  repeat' (first | intro _ | with_reducible assumption | with_reducible apply setPort_core | with_reducible apply PortCore.ite | with_reducible apply State.wr_core | with_reducible apply State.wrN_core | with_reducible apply State.fs_core | with_reducible apply State.fsat_core | with_reducible apply State.wr64_core | with_reducible apply State.wrWords_core | with_reducible apply setStn_core | with_reducible apply modStn_core | with_reducible apply setPort_core | with_reducible apply modPort_core | extract_lets | split | (intro _; exact offer_ports _ _) | exact offer_ports _ _ | exact PortCore.of_stations rfl ‹_› | (first | (intro _; rfl) | rfl) | ((dsimp +zetaDelta only); (split <;> rfl)))

theorem withHolds_core {s0 : State} (n : Nat) (f : State → State) (s : State) (hf : ∀ s, PortCore s0 s → PortCore s0 (f s))
    (h : PortCore s0 s) : PortCore s0 (withHolds n f s) := by
  unfold withHolds
  extract_lets was t
  have ht : PortCore s0 t := driveStn_core _ _ (hf _ h)
  exact PortCore.foldl _ _ _ (fun s a hs => holdChange_core _ _ _ hs) ht

/-- Whatever a change of one port does, the rest of a settled station keeps what ports hold. -/
theorem withHolds_port (n : Nat) (f : State → State) (s : State) : PortCore (f s) (withHolds n f s) := by
  unfold withHolds
  extract_lets was t
  have ht : PortCore (f s) t := driveStn_core _ _ PortCore.refl
  exact PortCore.foldl _ _ _ (fun s a hs => holdChange_core _ _ _ hs) ht

theorem Port.core_down {p q : Port} (h : p.core = q.core) :
    ({ p with pkg := 0, bpDrain := false, debugHalt := 0, holdHalt := false, pwRun := false, excl := false } : Port).core =
      ({ q with pkg := 0, excl := false } : Port).core := by
  simp only [Port.core, Prod.mk.injEq] at h ⊢
  obtain ⟨⟨a1, a2, a3, a4, a5, a6⟩, ⟨b1, b2, b3, b4⟩, c, d⟩ := h
  simp [a1, a2, a3, a4, a6, b1, b2, b3, c, d]

theorem port_showExcl (s : State) (n u : Nat) : (showExcl n s).port u = s.port u := rfl

/-- The port that goes down, and every other one; a port of type NONE shows its station nothing. -/
theorem portDown_core (u reason : Nat) (f : Port → Port) (s : State)
    (hf : ∀ p q, p.core = q.core → (f p).core = (f q).core) (v : Nat) :
    ((portDown u reason f s).port v).core =
      if v = u then (if (s.port u).ty = 7 then (f (s.port u)).core else ({ f (s.port u) with pkg := 0, excl := false } : Port).core)
      else (s.port v).core := by
  unfold portDown
  extract_lets n pre s1 s2 s3 s4 s5 s6
  by_cases ht : pre.ty = 7
  · rw [if_pos ht, port_modPort]
    split <;> rfl
  · rw [if_neg ht, port_showExcl, (withHolds_port _ _ _).core]
    have h1 : PortCore s s1 := expireWd_core _ _ PortCore.refl
    have h2 : PortCore s s2 := by
      show PortCore s (if _ then _ else _)
      split
      · exact portPacket_core _ _ _ _ h1
      · exact h1
    have h6 : PortCore s (dropDrain n (u % 16) s6) :=
      dropDrain_core _ _ _ (pcUnitReset_core _ _ (endTiles_core _ _ _ _ _ (endedTiles_core _ _ _ _
        (freeWd_core _ _ _ (bndLatch_core _ _ h2)))))
    rw [port_modPort]
    split
    · exact Port.core_down (hf _ _ (h6.core u))
    · rw [h6.core]

/-- The port that starts afresh, and every other one. -/
theorem portUp_core (u : Nat) (f : Port → Port) (s : State) (v : Nat) :
    ((portUp u f s).port v).core =
      if v = u then ({ f (s.port u) with queues := [], lastSeq := [] } : Port).core else (s.port v).core := by
  unfold portUp
  extract_lets n s1 s2 p s3
  have h1 : (s1.port v).core =
      if v = u then ({ f (s.port u) with queues := [], lastSeq := [] } : Port).core else (s.port v).core := by
    show ((modPort u _ s).port v).core = _
    rw [port_modPort]
    split <;> rfl
  have h2 : PortCore s1 s2 := withHolds_core _ _ _ (fun _ k => clearLatches_core _ _ k) PortCore.refl
  have h3 : PortCore s1 s3 := by
    show PortCore s1 (if _ then _ else _)
    split
    · exact modPort_core _ _ _ (fun _ => rfl) h2
    · exact h2
  rw [← h1]
  split
  · rfl
  · split
    · rw [(syncPort_core _ _ _ _ h3).core]
    · rw [h3.core]

/-- Where an event is taken, the queue records of its port move as the event says, and no other port's. -/
theorem takeEvent_core (u : Nat) (e : Event) (s : State) (hl : (s.port u).live = true) (hf : ¬ ((s.port u).shCmd = 3 ∧ (s.port u).ack = true))
    (he : eventError (s.port u) e = none) :
    ∃ stale drained : Bool, ∀ v, ((takeEvent u true e s).port v).core =
      if v = u then (moveQueue e stale drained s.clk.cyc (s.port u)).core else (s.port v).core := by
  unfold takeEvent
  extract_lets p s1 drained stale s2 s3 s4
  have h1 : PortCore s s1 := expireWd_core _ _ PortCore.refl
  refine ⟨stale, decide drained, fun v => ?_⟩
  rw [if_neg (by simp [p, hl]), if_neg (by simpa [p] using hf)]
  show ((match eventError (s.port u) e with | some row => _ | none => _ : State).port v).core = _
  rw [he]
  have h2 : (s2.port v).core =
      if v = u then (moveQueue e stale (decide drained) s.clk.cyc (s.port u)).core else (s.port v).core := by
    show ((setPort u _ s1).port v).core = _
    rw [port_setPort]
    have hc : s1.clk.cyc = s.clk.cyc := by
      have e : s1.clk = s.clk := (expireWd_frame (fm := 0x91) (s0 := s) rfl u s Frame.refl).clk rfl
      rw [e]
    split
    · simp [hc, p]
    · rw [h1.core]
  have h3 : PortCore s2 s3 := by
    show PortCore s2 (if _ then _ else _)
    split
    · exact staleEvent_core _ _ _ _ PortCore.refl
    · exact freshEvent_core _ _ _ _ PortCore.refl
  have h4 : PortCore s2 s4 := progress_core _ _ _ h3
  rw [← h2]
  show ((if _ then _ else _ : State).port v).core = _
  split
  · rw [(protoViolation_core _ _ _ _ _ h4).core]
  · rw [h4.core]

theorem modStn_port (n : Nat) (f : Station → Station) (s : State) (hf : ∀ x, (f x).ports = x.ports) (v : Nat) :
    (modStn n f s).port v = s.port v := by
  unfold modStn
  rw [port_setStn]
  split
  · next e => unfold Station.port State.port; rw [hf, e]; rfl
  · rfl

theorem core_ext {p q : Port} (h : p.core = q.core) : p.on = q.on ∧ p.rst = q.rst ∧ p.excl = q.excl ∧ p.pkg = q.pkg ∧
    p.queues = q.queues ∧ p.lastSeq = q.lastSeq ∧ p.strapped = q.strapped ∧ p.strapTy = q.strapTy := by
  simp only [Port.core, Prod.mk.injEq] at h
  obtain ⟨⟨a1, a2, a3, a4, a5, a6⟩, ⟨b1, b2, b3, b4⟩, c, d⟩ := h
  exact ⟨a3, a4, a5, b4, c, d, a1, b1⟩

end Sys2Proof.Machine
end

