-- ==== Sys2Proof/Laws/Counters.lean ====
section
/-! SUPPORT. The always-on counters: addition modulo 2^48, and what one cycle leaves of them. -/

namespace Sys2Proof.Machine

/-- Every always-on counter of every unit keeps its value. -/
structure AoKeep (s t : State) : Prop where
  rd : ∀ n k, n < 1024 → k < 0x400 → t.rd (0x200000 + 0x800 * n + k) = s.rd (0x200000 + 0x800 * n + k)

theorem AoKeep.refl {s : State} : AoKeep s s := ⟨fun _ _ _ _ => rfl⟩

theorem AoKeep.of_regs {s0 s t : State} (e : t.regs = s.regs) (h : AoKeep s0 s) : AoKeep s0 t :=
  ⟨fun n k hn hk => by rw [← h.rd n k hn hk]; unfold State.rd; rw [e]⟩

theorem AoKeep.wr {s0 s : State} (a : Nat) (v : Word) (ha : ∀ n k, n < 1024 → k < 0x400 → a ≠ 0x200000 + 0x800 * n + k) (h : AoKeep s0 s) :
    AoKeep s0 (s.wr a v) :=
  ⟨fun n k hn hk => by rw [State.rd_wr_other _ _ _ _ (Ne.symm (ha n k hn hk)), h.rd n k hn hk]⟩

theorem AoKeep.aoVal {s t : State} (h : AoKeep s t) (v k : Nat) (hv : v < 16384) (hk : k < 8) : t.aoVal v k = s.aoVal v k := by
  have h1 := h.rd (v / 16) (0x40 * (v % 16) + 0x8 * k) (by omega) (by omega)
  have h2 := h.rd (v / 16) (4 + 0x40 * (v % 16) + 0x8 * k) (by omega) (by omega)
  unfold State.aoVal ctrVal State.rdN
  have e1 : R.STN_AO_LO (v / 16) (v % 16) k = 0x200000 + 0x800 * (v / 16) + (0x40 * (v % 16) + 0x8 * k) := by simp only [R.STN_AO_LO]; omega
  have e2 : R.STN_AO_HI (v / 16) (v % 16) k = 0x200000 + 0x800 * (v / 16) + (4 + 0x40 * (v % 16) + 0x8 * k) := by simp only [R.STN_AO_HI]; omega
  rw [e1, e2, h1, h2]

theorem AoKeep.noteWrap {s0 s : State} (n c : Nat) (h : AoKeep s0 s) : AoKeep s0 (noteWrap n c s) := by
  unfold Machine.noteWrap
  extract_lets x
  split
  · exact AoKeep.wr _ _ (by intro n k hn hk; simp only [R.STN_CTR_STAT]; omega) h
  · exact AoKeep.of_regs (s := s) rfl h

theorem AoKeep.ctrAdd {s0 s : State} (n lo hi c d : Nat) (hl : ∀ n k, n < 1024 → k < 0x400 → lo ≠ 0x200000 + 0x800 * n + k) (hh : ∀ n k, n < 1024 → k < 0x400 → hi ≠ 0x200000 + 0x800 * n + k)
    (h : AoKeep s0 s) : AoKeep s0 (ctrAdd n lo hi c d s) := by
  unfold Machine.ctrAdd
  split
  · exact h
  · extract_lets a b e s1 s2
    have h2 : AoKeep s0 s2 := AoKeep.wr _ _ hh (AoKeep.wr _ _ hl h)
    split
    · exact AoKeep.noteWrap _ _ h2
    · exact h2

theorem AoKeep.pcAdd {s0 s : State} (n i d : Nat) (hi : i < 16) (h : AoKeep s0 s) : AoKeep s0 (pcAdd n i d s) :=
  AoKeep.ctrAdd _ _ _ _ _ (by intro n k hn hk; simp only [R.STN_PC_LO]; omega) (by intro n k hn hk; simp only [R.STN_PC_HI]; omega) h

theorem AoKeep.foldl {α : Type} {s0 : State} (l : List α) (f : State → α → State) (s : State)
    (hf : ∀ s a, a ∈ l → AoKeep s0 s → AoKeep s0 (f s a)) (h : AoKeep s0 s) : AoKeep s0 (l.foldl f s) := by
  induction l generalizing s with
  | nil => exact h
  | cons a l ih => exact ih (f s a) (fun s b hb => hf s b (List.mem_cons_of_mem _ hb)) (hf s a List.mem_cons_self h)

theorem AoKeep.pcIncr {s0 s : State} (u : Nat) (inc : Nat → Nat) (tk : List (Nat × QRec)) (h : AoKeep s0 s) : AoKeep s0 (pcIncr u inc tk s) := by
  unfold Machine.pcIncr
  extract_lets n
  refine AoKeep.foldl _ _ _ (fun s i hi h => ?_) h
  have hi' : i < 16 := by simpa using hi
  extract_lets d ctx q
  repeat' split
  all_goals first | exact h | exact AoKeep.pcAdd _ _ _ hi' h

theorem AoKeep.attrField {s0 s : State} (n i f v d c : Nat) (h : AoKeep s0 s) : AoKeep s0 (attrField n i f v d c s).2 := by
  unfold Machine.attrField
  extract_lets t
  split
  · exact AoKeep.noteWrap _ _ h
  · exact h

theorem AoKeep.attrCharge {s0 s : State} (u e r w : Nat) (h : AoKeep s0 s) : AoKeep s0 (attrCharge u e r w s) := by
  unfold Machine.attrCharge
  extract_lets n x p cur i ent
  split
  · exact h
  · split
    next en s1 e1 =>
    have k1 : AoKeep s0 s1 := by have := AoKeep.attrField (s0 := s0) n i 0 ent.energy e ent.ctx h; rw [e1] at this; exact this
    split
    next r1 s2 e2 =>
    have k2 : AoKeep s0 s2 := by have := AoKeep.attrField (s0 := s0) n i 1 ent.rd r ent.ctx k1; rw [e2] at this; exact this
    split
    next w1 s3 e3 =>
    have k3 : AoKeep s0 s3 := by have := AoKeep.attrField (s0 := s0) n i 2 ent.wr w ent.ctx k2; rw [e3] at this; exact this
    exact AoKeep.of_regs (s := s3) rfl k3


/-- A counter in a register pair adds modulo 2^48 (R8, R175). -/
theorem ctrVal_ctrAdd (n lo hi c d : Nat) (s : State) (h : lo ≠ hi) (h1 : lo ≠ R.STN_CTR_STAT n) (h2 : hi ≠ R.STN_CTR_STAT n) :
    ctrVal (ctrAdd n lo hi c d s) lo hi = (ctrVal s lo hi + d) % 2 ^ 48 := by
  have lt : ctrVal s lo hi < 2 ^ 48 := by
    have := (s.rd lo).isLt
    simp only [ctrVal, State.rdN]; omega
  unfold ctrAdd
  by_cases hd : d = 0
  · rw [if_pos hd, hd, Nat.add_zero, Nat.mod_eq_of_lt lt]
  · rw [if_neg hd]
    extract_lets a b e s1 s2
    have k2 : ctrVal s2 lo hi = b % 2 ^ 48 := by
      have r1 : s2.rd lo = BitVec.ofNat 32 (b % 2 ^ 32) := by
        show (s1.wrN hi _).rd lo = _
        rw [State.rd_wrN_other _ _ _ _ h]
        exact State.rd_wrN_same ..
      have r2 : s2.rd hi = BitVec.ofNat 32 ((b >>> 32) % 65536 + (if e || bitOf a 17 then 2 ^ 17 else 0)) := State.rd_wrN_same ..
      simp only [ctrVal, State.rdN, r1, r2, BitVec.toNat_ofNat, Nat.shiftRight_eq_div_pow]
      split <;> omega
    have k3 : ∀ t : State, (∀ x, x ≠ R.STN_CTR_STAT n → t.rd x = s2.rd x) → ctrVal t lo hi = b % 2 ^ 48 := by
      intro t ht
      rw [← k2]
      simp only [ctrVal, State.rdN, ht _ h1, ht _ h2]
    show ctrVal (if e = true then noteWrap n c s2 else s2) lo hi = b % 2 ^ 48
    split
    · apply k3
      intro x hx
      unfold noteWrap
      extract_lets y
      split
      · exact State.rd_fsat_other _ _ _ _ hx
      · rfl
    · exact k2

/-- Adding to one pair leaves a pair that shares no register with it. -/
theorem ctrVal_ctrAdd_other (n lo hi c d l2 h2 : Nat) (s : State) (e1 : l2 ≠ lo ∧ l2 ≠ hi ∧ l2 ≠ R.STN_CTR_STAT n)
    (e2 : h2 ≠ lo ∧ h2 ≠ hi ∧ h2 ≠ R.STN_CTR_STAT n) : ctrVal (ctrAdd n lo hi c d s) l2 h2 = ctrVal s l2 h2 := by
  have key : ∀ x, x ≠ lo → x ≠ hi → x ≠ R.STN_CTR_STAT n → (ctrAdd n lo hi c d s).rd x = s.rd x := by
    intro x a b cc
    unfold ctrAdd
    split
    · rfl
    · extract_lets a' b' e s1 s2
      have h2 : s2.rd x = s.rd x := by
        show (s1.wrN hi _).rd x = _
        rw [State.rd_wrN_other _ _ _ _ b]
        exact State.rd_wrN_other _ _ _ _ a
      show (if e = true then noteWrap n c s2 else s2).rd x = s.rd x
      split
      · rw [← h2]; unfold noteWrap
        extract_lets y
        split
        · exact State.rd_fsat_other _ _ _ _ cc
        · rfl
      · exact h2
  simp only [ctrVal, State.rdN, key _ e1.1 e1.2.1 e1.2.2, key _ e2.1 e2.2.1 e2.2.2]

theorem aoVal_aoAdd (u k d : Nat) (s : State) (hk : k < 8) : (aoAdd u k d s).aoVal u k = (s.aoVal u k + d) % 2 ^ 48 := by
  apply ctrVal_ctrAdd <;> simp only [R.STN_AO_LO, R.STN_AO_HI, R.STN_CTR_STAT] <;> omega

theorem aoVal_aoAdd_other (u k d v j : Nat) (s : State) (hk : k < 8) (hj : j < 8) (h : v ≠ u ∨ j ≠ k) : (aoAdd u k d s).aoVal v j = s.aoVal v j := by
  apply ctrVal_ctrAdd_other <;> simp only [R.STN_AO_LO, R.STN_AO_HI, R.STN_CTR_STAT] <;> (refine ⟨?_, ?_, ?_⟩ <;> omega)

theorem AoKeep.placeFault {s0 s : State} (n : Nat) (f : StnFault) (h : AoKeep s0 s) : AoKeep s0 (placeFault n f s) := by
  unfold Machine.placeFault
  extract_lets x x1
  have ovf : ∀ (t : State) (f : Fld) (v : Nat), f.addr = R.STN_FLT_OVF n → AoKeep s0 t → AoKeep s0 (t.fs f v) := fun t f v hf k =>
    AoKeep.wr _ _ (by intro m j hm hj; rw [hf]; simp only [R.STN_FLT_OVF]; omega) k
  split
  · split
    · exact AoKeep.of_regs (s := s) rfl h
    · exact AoKeep.of_regs (s := s) rfl h
  · split
    · exact ovf _ _ _ rfl (AoKeep.of_regs (s := s) rfl h)
    · exact ovf _ _ _ rfl h

theorem AoKeep.placeFormed {s0 s : State} (u : Nat) (r : FaultRec) (h : AoKeep s0 s) : AoKeep s0 (placeFormed u r s) := by
  have trig : ∀ n stop, AoKeep s0 (stnTrigger n stop s).2 := by
    intro n stop
    refine AoKeep.of_regs (s := s) ?_ h
    unfold stnTrigger
    split
    · show (addRun _ _ _ s).regs = s.regs
      unfold addRun
      extract_lets same runs sh s1
      repeat' split
      all_goals rfl
    · rfl
  unfold Machine.placeFormed
  extract_lets n cut r1
  split
  · split
    · next c t e => exact AoKeep.placeFault _ _ (by have := trig n (cut == 2); rw [e] at this; exact this)
    · next t e => exact AoKeep.placeFault _ _ (by have := trig n (cut == 2); rw [e] at this; exact this)
  · exact AoKeep.placeFault _ _ h

theorem AoKeep.latchFault {s0 s : State} (u k code d0 d1 d2 : Nat) (h : AoKeep s0 s) : AoKeep s0 (latchFault u k code d0 d1 d2 s) := by
  unfold Machine.latchFault
  extract_lets n s1
  have key : ∀ (f : Fld) (v : Nat), f = latchFld n k ∨ f = repeatFld n k → AoKeep s0 (s.fs f v) := by
    intro f v hf
    refine AoKeep.wr _ _ ?_ h
    intro m j hm hj
    rcases hf with hf | hf <;> rw [hf]
    · unfold latchFld; repeat' split
      all_goals (simp only [R.STN_FLT_LATCH_LO, R.STN_FLT_LATCH_HI]; omega)
    · unfold repeatFld; repeat' split
      all_goals (simp only [R.STN_FLT_REPEAT_LO, R.STN_FLT_REPEAT_HI]; omega)
  split
  · exact key _ _ (.inr rfl)
  · exact AoKeep.placeFormed _ _ (key _ _ (.inl rfl))

/-- Progress may report a stall that is due; it moves no counter. -/
theorem AoKeep.progress {s0 s : State} (u : Nat) (b : Bool) (h : AoKeep s0 s) : AoKeep s0 (progress u b s) := by
  have k : AoKeep s0 (expirePw u s) := by
    unfold expirePw
    split
    extract_lets n p s1
    split
    · exact h
    · exact AoKeep.of_regs (s := s1) rfl (AoKeep.latchFault _ _ _ _ _ _ h)
  exact AoKeep.of_regs (s := expirePw u s) rfl k

end Sys2Proof.Machine
end

