-- ==== Sys2Proof/Laws/Exec.lean ====
section
/-! SUPPORT. The meaning that each command dispatches to. -/

namespace Sys2Proof.Machine

theorem exec_registerWrite (id : Nat) (addr : Nat) (be : Nat) (value : Nat) (s : State) : exec (.registerWrite id addr be value) s = execRegisterWrite id addr be value s := rfl
theorem exec_wideRegisterLowRead (id : Nat) (addr : Nat) (be : Nat) (s : State) : exec (.wideRegisterLowRead id addr be) s = execWideRegisterLowRead id addr be s := rfl
theorem exec_rcRegisterRead (id : Nat) (addr : Nat) (be : Nat) (s : State) : exec (.rcRegisterRead id addr be) s = execRcRegisterRead id addr be s := rfl
theorem exec_uapPowerOff (unit : Nat) (s : State) : exec (.uapPowerOff unit) s = execUapPowerOff unit s := rfl
theorem exec_uapPowerOn (unit : Nat) (ty : Nat) (cv : Nat) (flat : Nat) (s : State) : exec (.uapPowerOn unit ty cv flat) s = execUapPowerOn unit ty cv flat s := rfl
theorem exec_uapResetAssert (unit : Nat) (s : State) : exec (.uapResetAssert unit) s = execUapResetAssert unit s := rfl
theorem exec_uapResetRelease (unit : Nat) (s : State) : exec (.uapResetRelease unit) s = execUapResetRelease unit s := rfl
theorem exec_cmdEventBegin (unit : Nat) (cken : Bool) (ctx : Nat) (epoch : Nat) (seq : Nat) (layer : Nat) (op : Nat) (bclass : Nat) (queue : Nat) (s : State) : exec (.cmdEventBegin unit cken ctx epoch seq layer op bclass queue) s = execCmdEventBegin unit cken ctx epoch seq layer op bclass queue s := rfl
theorem exec_cmdEventEnd (unit : Nat) (cken : Bool) (ctx : Nat) (epoch : Nat) (seq : Nat) (layer : Nat) (op : Nat) (bclass : Nat) (queue : Nat) (s : State) : exec (.cmdEventEnd unit cken ctx epoch seq layer op bclass queue) s = execCmdEventEnd unit cken ctx epoch seq layer op bclass queue s := rfl
theorem exec_cmdEventAbort (unit : Nat) (cken : Bool) (ctx : Nat) (epoch : Nat) (seq : Nat) (layer : Nat) (op : Nat) (bclass : Nat) (queue : Nat) (s : State) : exec (.cmdEventAbort unit cken ctx epoch seq layer op bclass queue) s = execCmdEventAbort unit cken ctx epoch seq layer op bclass queue s := rfl
theorem exec_cmdEventSuspend (unit : Nat) (cken : Bool) (ctx : Nat) (epoch : Nat) (seq : Nat) (layer : Nat) (op : Nat) (bclass : Nat) (queue : Nat) (s : State) : exec (.cmdEventSuspend unit cken ctx epoch seq layer op bclass queue) s = execCmdEventSuspend unit cken ctx epoch seq layer op bclass queue s := rfl
theorem exec_cmdEventResume (unit : Nat) (cken : Bool) (ctx : Nat) (epoch : Nat) (seq : Nat) (layer : Nat) (op : Nat) (bclass : Nat) (queue : Nat) (s : State) : exec (.cmdEventResume unit cken ctx epoch seq layer op bclass queue) s = execCmdEventResume unit cken ctx epoch seq layer op bclass queue s := rfl
theorem exec_unitIncrementCycle (unit : Nat) (cken : Bool) (busy : Bool) (stall : Bool) (errCorr : Nat) (errUncorr : Bool) (rds : List Nat) (wrs : List Nat) (tx : Nat) (txTc : Nat) (rx : Nat) (rxTc : Nat) (energy : Nat) (trap : Bool) (fltCode : Nat) (s : State) : exec (.unitIncrementCycle unit cken busy stall errCorr errUncorr rds wrs tx txTc rx rxTc energy trap fltCode) s = execUnitIncrementCycle unit cken busy stall errCorr errUncorr rds wrs tx txTc rx rxTc energy trap fltCode s := rfl
theorem exec_shAckRise (unit : Nat) (s : State) : exec (.shAckRise unit) s = execShAckRise unit s := rfl
theorem exec_shAckLate (unit : Nat) (s : State) : exec (.shAckLate unit) s = execShAckLate unit s := rfl
theorem exec_striaTapBeat (unit : Nat) (cken : Bool) (mask : Nat) (data : Nat) (fmt : Nat) (coord : Nat) (sample : Nat) (pos : Nat) (queue : Nat) (out : Nat) (scale : Nat) (s : State) : exec (.striaTapBeat unit cken mask data fmt coord sample pos queue out scale) s = execStriaTapBeat unit cken mask data fmt coord sample pos queue out scale s := rfl
theorem exec_striaPairAbsorb (stn : Nat) (s : State) : exec (.striaPairAbsorb stn) s = execStriaPairAbsorb stn s := rfl
theorem exec_dbgCtlWrite (unit : Nat) (value : Nat) (s : State) : exec (.dbgCtlWrite unit value) s = execDbgCtlWrite unit value s := rfl
theorem exec_dbgAddrWrite (unit : Nat) (value64 : Nat) (s : State) : exec (.dbgAddrWrite unit value64) s = execDbgAddrWrite unit value64 s := rfl
theorem exec_dbgCmdHalt (unit : Nat) (s : State) : exec (.dbgCmdHalt unit) s = execDbgCmdHalt unit s := rfl
theorem exec_dbgCmdRun (unit : Nat) (s : State) : exec (.dbgCmdRun unit) s = execDbgCmdRun unit s := rfl
theorem exec_dbgCmdStep (unit : Nat) (s : State) : exec (.dbgCmdStep unit) s = execDbgCmdStep unit s := rfl
theorem exec_coreHaltedRise (unit : Nat) (cause : Nat) (hit : Nat) (s : State) : exec (.coreHaltedRise unit cause hit) s = execCoreHaltedRise unit cause hit s := rfl
theorem exec_coreHaltedFall (unit : Nat) (s : State) : exec (.coreHaltedFall unit) s = execCoreHaltedFall unit s := rfl
theorem exec_haltedLate (unit : Nat) (s : State) : exec (.haltedLate unit) s = execHaltedLate unit s := rfl
theorem exec_secureEnter (unit : Nat) (s : State) : exec (.secureEnter unit) s = execSecureEnter unit s := rfl
theorem exec_secureExit (unit : Nat) (s : State) : exec (.secureExit unit) s = execSecureExit unit s := rfl
theorem exec_itRecord (unit : Nat) (cken : Bool) (itKind : Nat) (count : Nat) (addr64 : Nat) (ovf : Bool) (s : State) : exec (.itRecord unit cken itKind count addr64 ovf) s = execItRecord unit cken itKind count addr64 ovf s := rfl
theorem exec_dtRecord (unit : Nat) (cken : Bool) (dtWr : Bool) (size : Nat) (addr64 : Nat) (data64 : Nat) (ovf : Bool) (s : State) : exec (.dtRecord unit cken dtWr size addr64 data64 ovf) s = execDtRecord unit cken dtWr size addr64 data64 ovf s := rfl
theorem exec_frameBoundary (echoes : List (Nat × Nat)) (s : State) : exec (.frameBoundary echoes) s = execFrameBoundary echoes s := rfl
theorem exec_upstreamFlitError (rib : Nat) (slot : Nat) (flit : Nat) (s : State) : exec (.upstreamFlitError rib slot flit) s = execUpstreamFlitError rib slot flit s := rfl
theorem exec_stationDownstreamError (got : DownFlit) (s : State) : exec (.stationDownstreamError got) s = execStationDownstreamError got s := rfl
theorem exec_stationSlotCollision (stn : Nat) (s : State) : exec (.stationSlotCollision stn) s = execStationSlotCollision stn s := rfl
theorem exec_netErrNoteSend (stn : Nat) (s : State) : exec (.netErrNoteSend stn) s = execNetErrNoteSend stn s := rfl
theorem exec_netErrNoteArrival (stn : Nat) (s : State) : exec (.netErrNoteArrival stn) s = execNetErrNoteArrival stn s := rfl
theorem exec_stationUpstreamSend (stn : Nat) (n : Nat) (s : State) : exec (.stationUpstreamSend stn n) s = execStationUpstreamSend stn n s := rfl
theorem exec_stationWindowRead (id : Nat) (addr : Nat) (peek : Bool) (s : State) : exec (.stationWindowRead id addr peek) s = execStationWindowRead id addr peek s := rfl
theorem exec_stationWindowWrite (id : Nat) (addr : Nat) (value : Nat) (s : State) : exec (.stationWindowWrite id addr value) s = execStationWindowWrite id addr value s := rfl
theorem exec_stationRegRd (stn : Nat) (cap : Nat) (s : State) : exec (.stationRegRd stn cap) s = execStationRegRd stn cap s := rfl
theorem exec_stationRegWr (stn : Nat) (s : State) : exec (.stationRegWr stn) s = execStationRegWr stn s := rfl
theorem exec_regrdArrival (stn : Nat) (s : State) : exec (.regrdArrival stn) s = execRegrdArrival stn s := rfl
theorem exec_stationReduceReq (stn : Nat) (s : State) : exec (.stationReduceReq stn) s = execStationReduceReq stn s := rfl
theorem exec_reducePartnerTimeout (stn : Nat) (s : State) : exec (.reducePartnerTimeout stn) s = execReducePartnerTimeout stn s := rfl
theorem exec_reductionSample (s : State) : exec .reductionSample s = execReductionSample s := rfl
theorem exec_reductionResult (tag : Nat) (s : State) : exec (.reductionResult tag) s = execReductionResult tag s := rfl
theorem exec_isolationAssert (seam : Bool) (point : Nat) (s : State) : exec (.isolationAssert seam point) s = execIsolationAssert seam point s := rfl
theorem exec_isolationRelease (seam : Bool) (point : Nat) (s : State) : exec (.isolationRelease seam point) s = execIsolationRelease seam point s := rfl
theorem exec_restorationTimeout (rib : Nat) (s : State) : exec (.restorationTimeout rib) s = execRestorationTimeout rib s := rfl
theorem exec_caneTrain (id : Nat) (s : State) : exec (.caneTrain id) s = execCaneTrain id s := rfl
theorem exec_caneRetrain (id : Nat) (rib : Nat) (s : State) : exec (.caneRetrain id rib) s = execCaneRetrain id rib s := rfl
theorem exec_trainingComplete (rib : Nat) (trips : List Nat) (parityOk : Bool) (s : State) : exec (.trainingComplete rib trips parityOk) s = execTrainingComplete rib trips parityOk s := rfl
theorem exec_caneEnable (id : Nat) (s : State) : exec (.caneEnable id) s = execCaneEnable id s := rfl
theorem exec_caneDisable (id : Nat) (s : State) : exec (.caneDisable id) s = execCaneDisable id s := rfl
theorem exec_framesStop (s : State) : exec .framesStop s = execFramesStop s := rfl
theorem exec_slotRestart (id : Nat) (s : State) : exec (.slotRestart id) s = execSlotRestart id s := rfl
theorem exec_slotDataWrite (id : Nat) (value : Nat) (s : State) : exec (.slotDataWrite id value) s = execSlotDataWrite id value s := rfl
theorem exec_slotValidate (id : Nat) (s : State) : exec (.slotValidate id) s = execSlotValidate id s := rfl
theorem exec_slotValidationDone (s : State) : exec .slotValidationDone s = execSlotValidationDone s := rfl
theorem exec_stationSlotLoad (stn : Nat) (s : State) : exec (.stationSlotLoad stn) s = execStationSlotLoad stn s := rfl
theorem exec_slotVerifyTimeout (stn : Nat) (s : State) : exec (.slotVerifyTimeout stn) s = execSlotVerifyTimeout stn s := rfl
theorem exec_timeStart (id : Nat) (s : State) : exec (.timeStart id) s = execTimeStart id s := rfl
theorem exec_timeLock (id : Nat) (s : State) : exec (.timeLock id) s = execTimeLock id s := rfl
theorem exec_timeIncWrite (id : Nat) (value64 : Nat) (s : State) : exec (.timeIncWrite id value64) s = execTimeIncWrite id value64 s := rfl
theorem exec_stationTsLoad (stn : Nat) (marksOk : Bool) (s : State) : exec (.stationTsLoad stn marksOk) s = execStationTsLoad stn marksOk s := rfl
theorem exec_stationFrameMark (stn fInv : Nat) (fPar : Bool) (loInv : Nat) (loPar : Bool) (hiInv : Nat) (hiPar : Bool) (s : State) : exec (.stationFrameMark stn fInv fPar loInv loPar hiInv hiPar) s = execStationFrameMark stn fInv fPar loInv loPar hiInv hiPar s := rfl
theorem exec_stationMarkTimeout (stn : Nat) (s : State) : exec (.stationMarkTimeout stn) s = execStationMarkTimeout stn s := rfl
theorem exec_gatherPingSend (s : State) : exec .gatherPingSend s = execGatherPingSend s := rfl
theorem exec_gpingReceive (node : Nat) (index : Nat) (session : Nat) (t1 : Nat) (s : State) : exec (.gpingReceive node index session t1) s = execGpingReceive node index session t1 s := rfl
theorem exec_gpongReceive (node : Nat) (index : Nat) (session : Nat) (t1 : Nat) (t2 : Nat) (t3 : Nat) (s : State) : exec (.gpongReceive node index session t1 t2 t3) s = execGpongReceive node index session t1 t2 t3 s := rfl
theorem exec_gatherRoundEnd (s : State) : exec .gatherRoundEnd s = execGatherRoundEnd s := rfl
theorem exec_gatherSecondRound (s : State) : exec .gatherSecondRound s = execGatherSecondRound s := rfl
theorem exec_gatherPeriodicRound (s : State) : exec .gatherPeriodicRound s = execGatherPeriodicRound s := rfl
theorem exec_gatherTimeout (s : State) : exec .gatherTimeout s = execGatherTimeout s := rfl
theorem exec_shearRequestDecided (s : State) : exec .shearRequestDecided s = execShearRequestDecided s := rfl
theorem exec_shearCommit (s : State) : exec .shearCommit s = execShearCommit s := rfl
theorem exec_stationShearDecode (stn : Nat) (a : Nat) (b : Nat) (s : State) : exec (.stationShearDecode stn a b) s = execStationShearDecode stn a b s := rfl
theorem exec_cutTick (s : State) : exec .cutTick s = execCutTick s := rfl
theorem exec_resumeIssue (s : State) : exec .resumeIssue s = execResumeIssue s := rfl
theorem exec_resumeTick (s : State) : exec .resumeTick s = execResumeTick s := rfl
theorem exec_selftestTestSend (s : State) : exec .selftestTestSend s = execSelftestTestSend s := rfl
theorem exec_selftestReply (stn : Nat) (s : State) : exec (.selftestReply stn) s = execSelftestReply stn s := rfl
theorem exec_selftestRootCheck (wrong : Bool) (s : State) : exec (.selftestRootCheck wrong) s = execSelftestRootCheck wrong s := rfl
theorem exec_receiverLock (root : Bool) (stn : Nat) (s : State) : exec (.receiverLock root stn) s = execReceiverLock root stn s := rfl
theorem exec_shearEnable (id : Nat) (s : State) : exec (.shearEnable id) s = execShearEnable id s := rfl
theorem exec_shearDisable (id : Nat) (s : State) : exec (.shearDisable id) s = execShearDisable id s := rfl
theorem exec_shearTrigLatch (id : Nat) (s : State) : exec (.shearTrigLatch id) s = execShearTrigLatch id s := rfl
theorem exec_shearTrigFreeze (id : Nat) (s : State) : exec (.shearTrigFreeze id) s = execShearTrigFreeze id s := rfl
theorem exec_shearTrigDrain (id : Nat) (s : State) : exec (.shearTrigDrain id) s = execShearTrigDrain id s := rfl
theorem exec_shearTrigRunOn (id : Nat) (s : State) : exec (.shearTrigRunOn id) s = execShearTrigRunOn id s := rfl
theorem exec_shearTrigResume (id : Nat) (s : State) : exec (.shearTrigResume id) s = execShearTrigResume id s := rfl
theorem exec_carrierShearRequest (sampled : Bool) (s : State) : exec (.carrierShearRequest sampled) s = execCarrierShearRequest sampled s := rfl
theorem exec_carrierShearPairError (level : Bool) (s : State) : exec (.carrierShearPairError level) s = execCarrierShearPairError level s := rfl
theorem exec_cutAtTrigger (s : State) : exec .cutAtTrigger s = execCutAtTrigger s := rfl
theorem exec_culletReadGo (id : Nat) (types : Nat) (s : State) : exec (.culletReadGo id types) s = execCulletReadGo id types s := rfl
theorem exec_culletReadoutStart (s : State) : exec .culletReadoutStart s = execCulletReadoutStart s := rfl
theorem exec_stationCulletRd (stn : Nat) (s : State) : exec (.stationCulletRd stn) s = execStationCulletRd stn s := rfl
theorem exec_stationCulletGroupDone (stn : Nat) (vectors : List (List Nat)) (s : State) : exec (.stationCulletGroupDone stn vectors) s = execStationCulletGroupDone stn vectors s := rfl
theorem exec_culletMessageArrival (stn : Nat) (s : State) : exec (.culletMessageArrival stn) s = execCulletMessageArrival stn s := rfl
theorem exec_culletReadoutTimeout (s : State) : exec .culletReadoutTimeout s = execCulletReadoutTimeout s := rfl
theorem exec_stnPcCfgWrite (id : Nat) (stn : Nat) (ctr : Nat) (value64 : Nat) (s : State) : exec (.stnPcCfgWrite id stn ctr value64) s = execStnPcCfgWrite id stn ctr value64 s := rfl
theorem exec_stationCtrConfig (stn : Nat) (s : State) : exec (.stationCtrConfig stn) s = execStationCtrConfig stn s := rfl
theorem exec_counterConfigApply (stn : Nat) (s : State) : exec (.counterConfigApply stn) s = execCounterConfigApply stn s := rfl
theorem exec_stationCtrRead (stn : Nat) (s : State) : exec (.stationCtrRead stn) s = execStationCtrRead stn s := rfl
theorem exec_counterSample (stn : Nat) (s : State) : exec (.counterSample stn) s = execCounterSample stn s := rfl
theorem exec_stationCtrKeys (stn : Nat) (s : State) : exec (.stationCtrKeys stn) s = execStationCtrKeys stn s := rfl
theorem exec_stationAttrDump (stn : Nat) (s : State) : exec (.stationAttrDump stn) s = execStationAttrDump stn s := rfl
theorem exec_counterMessageArrival (stn : Nat) (s : State) : exec (.counterMessageArrival stn) s = execCounterMessageArrival stn s := rfl
theorem exec_attribMessageArrival (stn : Nat) (s : State) : exec (.attribMessageArrival stn) s = execAttribMessageArrival stn s := rfl
theorem exec_counterReadTimeout (s : State) : exec .counterReadTimeout s = execCounterReadTimeout s := rfl
theorem exec_counterWrapNoteSend (stn : Nat) (s : State) : exec (.counterWrapNoteSend stn) s = execCounterWrapNoteSend stn s := rfl
theorem exec_counterWrapNoteArrival (stn : Nat) (s : State) : exec (.counterWrapNoteArrival stn) s = execCounterWrapNoteArrival stn s := rfl
theorem exec_ctrCtlWrite (id : Nat) (value : Nat) (s : State) : exec (.ctrCtlWrite id value) s = execCtrCtlWrite id value s := rfl
theorem exec_attrCtxEnWrite (id : Nat) (index8 : Nat) (value : Nat) (s : State) : exec (.attrCtxEnWrite id index8 value) s = execAttrCtxEnWrite id index8 value s := rfl
theorem exec_traceMessageFlush (stn : Nat) (s : State) : exec (.traceMessageFlush stn) s = execTraceMessageFlush stn s := rfl
theorem exec_stimWrite (id : Nat) (stim : Nat) (value : Nat) (s : State) : exec (.stimWrite id stim value) s = execStimWrite id stim value s := rfl
theorem exec_centralBatchWrite (s : State) : exec .centralBatchWrite s = execCentralBatchWrite s := rfl
theorem exec_traceMessageArrival (stn : Nat) (s : State) : exec (.traceMessageArrival stn) s = execTraceMessageArrival stn s := rfl
theorem exec_trcFreeze (id : Nat) (s : State) : exec (.trcFreeze id) s = execTrcFreeze id s := rfl
theorem exec_trcClear (id : Nat) (s : State) : exec (.trcClear id) s = execTrcClear id s := rfl
theorem exec_trcCtlWrite (id : Nat) (value : Nat) (s : State) : exec (.trcCtlWrite id value) s = execTrcCtlWrite id value s := rfl
theorem exec_trcPortWrite (id : Nat) (port : Nat) (value : Nat) (s : State) : exec (.trcPortWrite id port value) s = execTrcPortWrite id port value s := rfl
theorem exec_trcCmpWrite (id : Nat) (cmp : Nat) (word : Nat) (value : Nat) (s : State) : exec (.trcCmpWrite id cmp word value) s = execTrcCmpWrite id cmp word value s := rfl
theorem exec_trcCtxEnWrite (id : Nat) (index8 : Nat) (value : Nat) (s : State) : exec (.trcCtxEnWrite id index8 value) s = execTrcCtxEnWrite id index8 value s := rfl
theorem exec_trcLlWrite (id : Nat) (value : Nat) (s : State) : exec (.trcLlWrite id value) s = execTrcLlWrite id value s := rfl
theorem exec_trcRdWrite (id : Nat) (value : Nat) (s : State) : exec (.trcRdWrite id value) s = execTrcRdWrite id value s := rfl
theorem exec_seqArm (id : Nat) (s : State) : exec (.seqArm id) s = execSeqArm id s := rfl
theorem exec_seqDisarm (id : Nat) (s : State) : exec (.seqDisarm id) s = execSeqDisarm id s := rfl
theorem exec_sequencerEvent (s : State) : exec .sequencerEvent s = execSequencerEvent s := rfl
theorem exec_timeComparatorMatch (s : State) : exec .timeComparatorMatch s = execTimeComparatorMatch s := rfl
theorem exec_triggerNoteSend (stn : Nat) (s : State) : exec (.triggerNoteSend stn) s = execTriggerNoteSend stn s := rfl
theorem exec_triggerNoteArrival (stn : Nat) (s : State) : exec (.triggerNoteArrival stn) s = execTriggerNoteArrival stn s := rfl
theorem exec_captureStateApply (stn : Nat) (s : State) : exec (.captureStateApply stn) s = execCaptureStateApply stn s := rfl
theorem exec_stationTracePorts (stn : Nat) (s : State) : exec (.stationTracePorts stn) s = execStationTracePorts stn s := rfl
theorem exec_stationTraceCmp (stn : Nat) (s : State) : exec (.stationTraceCmp stn) s = execStationTraceCmp stn s := rfl
theorem exec_stationTraceCtx (stn : Nat) (s : State) : exec (.stationTraceCtx stn) s = execStationTraceCtx stn s := rfl
theorem exec_stationTraceParam (stn : Nat) (s : State) : exec (.stationTraceParam stn) s = execStationTraceParam stn s := rfl
theorem exec_stationTraceResync (stn : Nat) (s : State) : exec (.stationTraceResync stn) s = execStationTraceResync stn s := rfl
theorem exec_traceConfigApply (stn : Nat) (s : State) : exec (.traceConfigApply stn) s = execTraceConfigApply stn s := rfl
theorem exec_stationStriaSlot (stn : Nat) (s : State) : exec (.stationStriaSlot stn) s = execStationStriaSlot stn s := rfl
theorem exec_striaSlotApply (stn : Nat) (s : State) : exec (.striaSlotApply stn) s = execStriaSlotApply stn s := rfl
theorem exec_stationStriaSettle (stn : Nat) (s : State) : exec (.stationStriaSettle stn) s = execStationStriaSettle stn s := rfl
theorem exec_striaSettle (stn : Nat) (s : State) : exec (.striaSettle stn) s = execStriaSettle stn s := rfl
theorem exec_stationStriaRelease (stn : Nat) (s : State) : exec (.stationStriaRelease stn) s = execStationStriaRelease stn s := rfl
theorem exec_striaTileMessageArrival (stn : Nat) (s : State) : exec (.striaTileMessageArrival stn) s = execStriaTileMessageArrival stn s := rfl
theorem exec_striaFenceArrival (stn : Nat) (s : State) : exec (.striaFenceArrival stn) s = execStriaFenceArrival stn s := rfl
theorem exec_striaFenceTimeout (s : State) : exec .striaFenceTimeout s = execStriaFenceTimeout s := rfl
theorem exec_budgetRowApply (s : State) : exec .budgetRowApply s = execBudgetRowApply s := rfl
theorem exec_budgetWatchdogExpiry (unit : Nat) (s : State) : exec (.budgetWatchdogExpiry unit) s = execBudgetWatchdogExpiry unit s := rfl
theorem exec_progressWatchdogExpiry (unit : Nat) (s : State) : exec (.progressWatchdogExpiry unit) s = execProgressWatchdogExpiry unit s := rfl
theorem exec_hbCtlWrite (id : Nat) (index32 : Nat) (value : Nat) (s : State) : exec (.hbCtlWrite id index32 value) s = execHbCtlWrite id index32 value s := rfl
theorem exec_heartbeatWatchdogExpiry (index32 : Nat) (s : State) : exec (.heartbeatWatchdogExpiry index32) s = execHeartbeatWatchdogExpiry index32 s := rfl
theorem exec_faultLatchAck (stn : Nat) (s : State) : exec (.faultLatchAck stn) s = execFaultLatchAck stn s := rfl
theorem exec_faultRecordCompletion (stn : Nat) (s : State) : exec (.faultRecordCompletion stn) s = execFaultRecordCompletion stn s := rfl
theorem exec_faultNoteSend (stn : Nat) (s : State) : exec (.faultNoteSend stn) s = execFaultNoteSend stn s := rfl
theorem exec_faultNoteArrival (stn : Nat) (s : State) : exec (.faultNoteArrival stn) s = execFaultNoteArrival stn s := rfl
theorem exec_faultMessageArrival (stn : Nat) (s : State) : exec (.faultMessageArrival stn) s = execFaultMessageArrival stn s := rfl
theorem exec_faultPendingTimeout (s : State) : exec .faultPendingTimeout s = execFaultPendingTimeout s := rfl
theorem exec_faultLoggedEntryExpiry (s : State) : exec .faultLoggedEntryExpiry s = execFaultLoggedEntryExpiry s := rfl
theorem exec_epochSetSend (s : State) : exec .epochSetSend s = execEpochSetSend s := rfl
theorem exec_stationEpochNote (stn : Nat) (s : State) : exec (.stationEpochNote stn) s = execStationEpochNote stn s := rfl
theorem exec_epochApply (s : State) : exec .epochApply s = execEpochApply s := rfl
theorem exec_deadlinePageAccess (id : Nat) (off : Nat) (isWrite : Bool) (value : Nat) (peek : Bool) (s : State) : exec (.deadlinePageAccess id off isWrite value peek) s = execDeadlinePageAccess id off isWrite value peek s := rfl
theorem exec_lehrStartWrite (id : Nat) (value : Nat) (s : State) : exec (.lehrStartWrite id value) s = execLehrStartWrite id value s := rfl
theorem exec_dumpAccept (s : State) : exec .dumpAccept s = execDumpAccept s := rfl
theorem exec_lehrPhaseDeadline (s : State) : exec .lehrPhaseDeadline s = execLehrPhaseDeadline s := rfl
theorem exec_dumpMasterReadData (tag : Nat) (data : List Nat) (err : Bool) (s : State) : exec (.dumpMasterReadData tag data err) s = execDumpMasterReadData tag data err s := rfl
theorem exec_dumpMasterReadTimeout (s : State) : exec .dumpMasterReadTimeout s = execDumpMasterReadTimeout s := rfl
theorem exec_dumpMasterWriteAck (tag : Nat) (err : Bool) (s : State) : exec (.dumpMasterWriteAck tag err) s = execDumpMasterWriteAck tag err s := rfl
theorem exec_dumpMasterWriteTimeout (s : State) : exec .dumpMasterWriteTimeout s = execDumpMasterWriteTimeout s := rfl
theorem exec_lehrAbortWrite (id : Nat) (s : State) : exec (.lehrAbortWrite id) s = execLehrAbortWrite id s := rfl
theorem exec_lehrDestWrite (id : Nat) (index4 : Nat) (word : Nat) (value64 : Nat) (s : State) : exec (.lehrDestWrite id index4 word value64) s = execLehrDestWrite id index4 word value64 s := rfl
theorem exec_rstReqGo (id : Nat) (value : Nat) (s : State) : exec (.rstReqGo id value) s = execRstReqGo id value s := rfl
theorem exec_resetAnswerAccepted (seq : Nat) (s : State) : exec (.resetAnswerAccepted seq) s = execResetAnswerAccepted seq s := rfl
theorem exec_resetAnswerDone (seq : Nat) (s : State) : exec (.resetAnswerDone seq) s = execResetAnswerDone seq s := rfl
theorem exec_resetAnswerRefused (seq : Nat) (s : State) : exec (.resetAnswerRefused seq) s = execResetAnswerRefused seq s := rfl
theorem exec_resetAnswerInvalid (s : State) : exec .resetAnswerInvalid s = execResetAnswerInvalid s := rfl
theorem exec_resetStepDeadline (s : State) : exec .resetStepDeadline s = execResetStepDeadline s := rfl
theorem exec_chipStepNoAccept (s : State) : exec .chipStepNoAccept s = execChipStepNoAccept s := rfl
theorem exec_resetCollectTimeout (s : State) : exec .resetCollectTimeout s = execResetCollectTimeout s := rfl
theorem exec_reheatMarkWrite (id : Nat) (value : Nat) (s : State) : exec (.reheatMarkWrite id value) s = execReheatMarkWrite id value s := rfl
theorem exec_reheatMilestoneDeadline (s : State) : exec .reheatMilestoneDeadline s = execReheatMilestoneDeadline s := rfl
theorem exec_rstModeWrite (id : Nat) (value : Nat) (s : State) : exec (.rstModeWrite id value) s = execRstModeWrite id value s := rfl
theorem exec_noticeFanoutStart (s : State) : exec .noticeFanoutStart s = execNoticeFanoutStart s := rfl
theorem exec_peerNoticeSend (s : State) : exec .peerNoticeSend s = execPeerNoticeSend s := rfl
theorem exec_noticeFanoutDeadline (s : State) : exec .noticeFanoutDeadline s = execNoticeFanoutDeadline s := rfl
theorem exec_peerNoticeReceive (node : Nat) (bytes : List Nat) (s : State) : exec (.peerNoticeReceive node bytes) s = execPeerNoticeReceive node bytes s := rfl
theorem exec_peerSilentExpiry (s : State) : exec .peerSilentExpiry s = execPeerSilentExpiry s := rfl
theorem exec_streamMapWrite (id : Nat) (strm : Nat) (value : Nat) (s : State) : exec (.streamMapWrite id strm value) s = execStreamMapWrite id strm value s := rfl
theorem exec_ledgerScanStart (id : Nat) (value : Nat) (s : State) : exec (.ledgerScanStart id value) s = execLedgerScanStart id value s := rfl
theorem exec_ledgerScanDone (s : State) : exec .ledgerScanDone s = execLedgerScanDone s := rfl
theorem exec_ledgerRecordTimeout (s : State) : exec .ledgerRecordTimeout s = execLedgerRecordTimeout s := rfl
theorem exec_ledgerCheckTimeout (s : State) : exec .ledgerCheckTimeout s = execLedgerCheckTimeout s := rfl
theorem exec_regionDigestDone (s : State) : exec .regionDigestDone s = execRegionDigestDone s := rfl
theorem exec_digestReqReceive (node : Nat) (tag : Nat) (job64 : Nat) (addr64 : Nat) (len64 : Nat) (s : State) : exec (.digestReqReceive node tag job64 addr64 len64) s = execDigestReqReceive node tag job64 addr64 len64 s := rfl
theorem exec_digestRspReceive (node : Nat) (status : Nat) (tag : Nat) (addr64 : Nat) (len64 : Nat) (digest64 : Nat) (s : State) : exec (.digestRspReceive node status tag addr64 len64 digest64) s = execDigestRspReceive node status tag addr64 len64 digest64 s := rfl
theorem exec_mirrorVerifyTimeout (s : State) : exec .mirrorVerifyTimeout s = execMirrorVerifyTimeout s := rfl
theorem exec_copyTimeout (s : State) : exec .copyTimeout s = execCopyTimeout s := rfl
theorem exec_contAbortCopy (id : Nat) (s : State) : exec (.contAbortCopy id) s = execContAbortCopy id s := rfl
theorem exec_fabricWriteAck (tag : Nat) (err : Bool) (s : State) : exec (.fabricWriteAck tag err) s = execFabricWriteAck tag err s := rfl
theorem exec_fabricWriteTimeout (s : State) : exec .fabricWriteTimeout s = execFabricWriteTimeout s := rfl
theorem exec_sqDoorbell (id : Nat) (ring : Nat) (value : Nat) (s : State) : exec (.sqDoorbell id ring value) s = execSqDoorbell id ring value s := rfl
theorem exec_eqDoorbell (id : Nat) (ring : Nat) (value : Nat) (s : State) : exec (.eqDoorbell id ring value) s = execEqDoorbell id ring value s := rfl
theorem exec_ringFetchTurn (s : State) : exec .ringFetchTurn s = execRingFetchTurn s := rfl
theorem exec_descriptorAccept (s : State) : exec .descriptorAccept s = execDescriptorAccept s := rfl
theorem exec_descriptorFetchError (tag : Nat) (s : State) : exec (.descriptorFetchError tag) s = execDescriptorFetchError tag s := rfl
theorem exec_hostReadReturn (tag : Nat) (data : List Nat) (err : Bool) (s : State) : exec (.hostReadReturn tag data err) s = execHostReadReturn tag data err s := rfl
theorem exec_hostReadTimeout (s : State) : exec .hostReadTimeout s = execHostReadTimeout s := rfl
theorem exec_eventEntryWrite (ring : Nat) (s : State) : exec (.eventEntryWrite ring) s = execEventEntryWrite ring s := rfl
theorem exec_hostWriteAck (tag : Nat) (err : Bool) (s : State) : exec (.hostWriteAck tag err) s = execHostWriteAck tag err s := rfl
theorem exec_hostWriteTimeout (s : State) : exec .hostWriteTimeout s = execHostWriteTimeout s := rfl
theorem exec_eqInterruptTimer (s : State) : exec .eqInterruptTimer s = execEqInterruptTimer s := rfl
theorem exec_intMaskWrite (id : Nat) (hi : Bool) (value : Nat) (s : State) : exec (.intMaskWrite id hi value) s = execIntMaskWrite id hi value s := rfl
theorem exec_ringEnable (id : Nat) (eq : Bool) (ring : Nat) (s : State) : exec (.ringEnable id eq ring) s = execRingEnable id eq ring s := rfl
theorem exec_ringDisable (id : Nat) (eq : Bool) (ring : Nat) (s : State) : exec (.ringDisable id eq ring) s = execRingDisable id eq ring s := rfl
theorem exec_ringZero (id : Nat) (eq : Bool) (ring : Nat) (en : Bool) (s : State) : exec (.ringZero id eq ring en) s = execRingZero id eq ring en s := rfl
theorem exec_functionReset (ident : Nat) (s : State) : exec (.functionReset ident) s = execFunctionReset ident s := rfl
theorem exec_controlGroupReset (group : Nat) (s : State) : exec (.controlGroupReset group) s = execControlGroupReset group s := rfl
theorem exec_nop (ring : Nat) (idx : Nat) (s : State) : exec (.nop ring idx) s = execNop ring idx s := rfl
theorem exec_fence (ring : Nat) (idx : Nat) (s : State) : exec (.fence ring idx) s = execFence ring idx s := rfl
theorem exec_counterConfig (ring : Nat) (idx : Nat) (s : State) : exec (.counterConfig ring idx) s = execCounterConfig ring idx s := rfl
theorem exec_counterRead (ring : Nat) (idx : Nat) (s : State) : exec (.counterRead ring idx) s = execCounterRead ring idx s := rfl
theorem exec_counterReduce (ring : Nat) (idx : Nat) (s : State) : exec (.counterReduce ring idx) s = execCounterReduce ring idx s := rfl
theorem exec_energyRead (ring : Nat) (idx : Nat) (s : State) : exec (.energyRead ring idx) s = execEnergyRead ring idx s := rfl
theorem exec_traceConfig (ring : Nat) (idx : Nat) (s : State) : exec (.traceConfig ring idx) s = execTraceConfig ring idx s := rfl
theorem exec_traceArm (ring : Nat) (idx : Nat) (s : State) : exec (.traceArm ring idx) s = execTraceArm ring idx s := rfl
theorem exec_traceStop (ring : Nat) (idx : Nat) (s : State) : exec (.traceStop ring idx) s = execTraceStop ring idx s := rfl
theorem exec_traceDrain (ring : Nat) (idx : Nat) (s : State) : exec (.traceDrain ring idx) s = execTraceDrain ring idx s := rfl
theorem exec_traceMark (ring : Nat) (idx : Nat) (s : State) : exec (.traceMark ring idx) s = execTraceMark ring idx s := rfl
theorem exec_striaArm (ring : Nat) (idx : Nat) (s : State) : exec (.striaArm ring idx) s = execStriaArm ring idx s := rfl
theorem exec_striaDisarm (ring : Nat) (idx : Nat) (s : State) : exec (.striaDisarm ring idx) s = execStriaDisarm ring idx s := rfl
theorem exec_striaRead (ring : Nat) (idx : Nat) (s : State) : exec (.striaRead ring idx) s = execStriaRead ring idx s := rfl
theorem exec_cut (ring : Nat) (idx : Nat) (s : State) : exec (.cut ring idx) s = execCut ring idx s := rfl
theorem exec_cutAt (ring : Nat) (idx : Nat) (s : State) : exec (.cutAt ring idx) s = execCutAt ring idx s := rfl
theorem exec_resume (ring : Nat) (idx : Nat) (s : State) : exec (.resume ring idx) s = execResume ring idx s := rfl
theorem exec_snapshot (ring : Nat) (idx : Nat) (s : State) : exec (.snapshot ring idx) s = execSnapshot ring idx s := rfl
theorem exec_dump (ring : Nat) (idx : Nat) (s : State) : exec (.dump ring idx) s = execDump ring idx s := rfl
theorem exec_dumpAbort (ring : Nat) (idx : Nat) (s : State) : exec (.dumpAbort ring idx) s = execDumpAbort ring idx s := rfl
theorem exec_dumpStatus (ring : Nat) (idx : Nat) (s : State) : exec (.dumpStatus ring idx) s = execDumpStatus ring idx s := rfl
theorem exec_resetRequest (ring : Nat) (idx : Nat) (s : State) : exec (.resetRequest ring idx) s = execResetRequest ring idx s := rfl
theorem exec_reheatStatus (ring : Nat) (idx : Nat) (s : State) : exec (.reheatStatus ring idx) s = execReheatStatus ring idx s := rfl
theorem exec_ledgerRecord (ring : Nat) (idx : Nat) (s : State) : exec (.ledgerRecord ring idx) s = execLedgerRecord ring idx s := rfl
theorem exec_ledgerCheck (ring : Nat) (idx : Nat) (s : State) : exec (.ledgerCheck ring idx) s = execLedgerCheck ring idx s := rfl
theorem exec_mirrorVerify (ring : Nat) (idx : Nat) (s : State) : exec (.mirrorVerify ring idx) s = execMirrorVerify ring idx s := rfl
theorem exec_copy (ring : Nat) (idx : Nat) (s : State) : exec (.copy ring idx) s = execCopy ring idx s := rfl
theorem exec_gather (ring : Nat) (idx : Nat) (s : State) : exec (.gather ring idx) s = execGather ring idx s := rfl
theorem exec_noticeSend (ring : Nat) (idx : Nat) (s : State) : exec (.noticeSend ring idx) s = execNoticeSend ring idx s := rfl
theorem exec_jobTableLoad (ring : Nat) (idx : Nat) (s : State) : exec (.jobTableLoad ring idx) s = execJobTableLoad ring idx s := rfl
theorem exec_budgetTableLoad (ring : Nat) (idx : Nat) (s : State) : exec (.budgetTableLoad ring idx) s = execBudgetTableLoad ring idx s := rfl
theorem exec_contextBind (ring : Nat) (idx : Nat) (s : State) : exec (.contextBind ring idx) s = execContextBind ring idx s := rfl
theorem exec_stationAccess (ring : Nat) (idx : Nat) (s : State) : exec (.stationAccess ring idx) s = execStationAccess ring idx s := rfl
theorem exec_mbxGo (id : Nat) (ch : Nat) (dir : Nat) (s : State) : exec (.mbxGo id ch dir) s = execMbxGo id ch dir s := rfl
theorem exec_mbxRetract (id : Nat) (ch : Nat) (dir : Nat) (s : State) : exec (.mbxRetract id ch dir) s = execMbxRetract id ch dir s := rfl
theorem exec_mbxClaim (id : Nat) (ch : Nat) (dir : Nat) (s : State) : exec (.mbxClaim id ch dir) s = execMbxClaim id ch dir s := rfl
theorem exec_mbxAck (id : Nat) (ch : Nat) (dir : Nat) (code : Nat) (s : State) : exec (.mbxAck id ch dir code) s = execMbxAck id ch dir code s := rfl
theorem exec_mbxCrossDefer (ch : Nat) (s : State) : exec (.mbxCrossDefer ch) s = execMbxCrossDefer ch s := rfl
theorem exec_mbxAckDelayedEffect (ch : Nat) (dir : Nat) (s : State) : exec (.mbxAckDelayedEffect ch dir) s = execMbxAckDelayedEffect ch dir s := rfl
theorem exec_doorbellClear (id : Nat) (target : Nat) (value : Nat) (s : State) : exec (.doorbellClear id target value) s = execDoorbellClear id target value s := rfl
theorem exec_doorbellMaskWrite (id : Nat) (target : Nat) (value : Nat) (s : State) : exec (.doorbellMaskWrite id target value) s = execDoorbellMaskWrite id target value s := rfl
theorem exec_mbxBindWrite (id : Nat) (ch : Nat) (value : Nat) (s : State) : exec (.mbxBindWrite id ch value) s = execMbxBindWrite id ch value s := rfl
theorem exec_mbxBindLock (id : Nat) (s : State) : exec (.mbxBindLock id) s = execMbxBindLock id s := rfl
theorem exec_mbxReqReceive (node : Nat) (mop : Nat) (tag : Nat) (off32 : Nat) (value : Nat) (job64 : Nat) (s : State) : exec (.mbxReqReceive node mop tag off32 value job64) s = execMbxReqReceive node mop tag off32 value job64 s := rfl
theorem exec_mbxRspReceive (node : Nat) (status : Nat) (tag : Nat) (off32 : Nat) (value : Nat) (s : State) : exec (.mbxRspReceive node status tag off32 value) s = execMbxRspReceive node status tag off32 value s := rfl
theorem exec_gafRelease (id : Nat) (core : Nat) (s : State) : exec (.gafRelease id core) s = execGafRelease id core s := rfl
theorem exec_gafReset (id : Nat) (core : Nat) (s : State) : exec (.gafReset id core) s = execGafReset id core s := rfl
theorem exec_gafReady (core : Nat) (s : State) : exec (.gafReady core) s = execGafReady core s := rfl
theorem exec_gafServiceDispatch (core : Nat) (s : State) : exec (.gafServiceDispatch core) s = execGafServiceDispatch core s := rfl
theorem exec_gafYield (core : Nat) (s : State) : exec (.gafYield core) s = execGafYield core s := rfl
theorem exec_gafWatchdogExpiry (core : Nat) (s : State) : exec (.gafWatchdogExpiry core) s = execGafWatchdogExpiry core s := rfl
theorem exec_gafDbgHalt (id : Nat) (core : Nat) (inSeq : Bool) (s : State) : exec (.gafDbgHalt id core inSeq) s = execGafDbgHalt id core inSeq s := rfl
theorem exec_gafDbgRun (id : Nat) (core : Nat) (s : State) : exec (.gafDbgRun id core) s = execGafDbgRun id core s := rfl
theorem exec_gafDbgStep (id : Nat) (core : Nat) (s : State) : exec (.gafDbgStep id core) s = execGafDbgStep id core s := rfl
theorem exec_gafBreakHit (core : Nat) (unit : Nat) (s : State) : exec (.gafBreakHit core unit) s = execGafBreakHit core unit s := rfl
theorem exec_lockedHaltForce (core : Nat) (s : State) : exec (.lockedHaltForce core) s = execLockedHaltForce core s := rfl
theorem exec_gafDbgDataWrite (id : Nat) (core : Nat) (value : Nat) (s : State) : exec (.gafDbgDataWrite id core value) s = execGafDbgDataWrite id core value s := rfl
theorem exec_gafMemAccess (id : Nat) (isWrite : Bool) (value : Nat) (s : State) : exec (.gafMemAccess id isWrite value) s = execGafMemAccess id isWrite value s := rfl
theorem exec_patchRestart (id : Nat) (s : State) : exec (.patchRestart id) s = execPatchRestart id s := rfl
theorem exec_patchBlobWrite (id : Nat) (value : Nat) (s : State) : exec (.patchBlobWrite id value) s = execPatchBlobWrite id value s := rfl
theorem exec_patchApply (id : Nat) (s : State) : exec (.patchApply id) s = execPatchApply id s := rfl
theorem exec_patchChecksDone (s : State) : exec .patchChecksDone s = execPatchChecksDone s := rfl
theorem exec_patchScrub (unit : Nat) (line : List Nat) (s : State) : exec (.patchScrub unit line) s = execPatchScrub unit line s := rfl
theorem exec_patchUnitWrite (id : Nat) (unit : Nat) (value : Nat) (s : State) : exec (.patchUnitWrite id unit value) s = execPatchUnitWrite id unit value s := rfl
theorem exec_rolsalLineReset (s : State) : exec .rolsalLineReset s = execRolsalLineReset s := rfl
theorem exec_rolsalReadPacket (req : Nat) (s : State) : exec (.rolsalReadPacket req) s = execRolsalReadPacket req s := rfl
theorem exec_rolsalWritePacket (req : Nat) (value : Nat) (parity : Bool) (s : State) : exec (.rolsalWritePacket req value parity) s = execRolsalWritePacket req value parity s := rfl
theorem exec_rolsalAccessComplete (s : State) : exec .rolsalAccessComplete s = execRolsalAccessComplete s := rfl
theorem exec_rolsalAccessTimeout (s : State) : exec .rolsalAccessTimeout s = execRolsalAccessTimeout s := rfl
theorem exec_rolsalCancel (s : State) : exec .rolsalCancel s = execRolsalCancel s := rfl
theorem exec_authBegin (s : State) : exec .authBegin s = execAuthBegin s := rfl
theorem exec_authInWrite (value : Nat) (s : State) : exec (.authInWrite value) s = execAuthInWrite value s := rfl
theorem exec_authVerify (s : State) : exec .authVerify s = execAuthVerify s := rfl
theorem exec_authVerifyDone (s : State) : exec .authVerifyDone s = execAuthVerifyDone s := rfl
theorem exec_authEnd (s : State) : exec .authEnd s = execAuthEnd s := rfl
theorem exec_authRenewWrite (mac : Nat) (s : State) : exec (.authRenewWrite mac) s = execAuthRenewWrite mac s := rfl
theorem exec_rolsalIdleTimeout (s : State) : exec .rolsalIdleTimeout s = execRolsalIdleTimeout s := rfl
theorem exec_rolsalSessionExpiry (s : State) : exec .rolsalSessionExpiry s = execRolsalSessionExpiry s := rfl
theorem exec_rsSessEndWrite (id : Nat) (s : State) : exec (.rsSessEndWrite id) s = execRsSessEndWrite id s := rfl
theorem exec_drainStart (value : Nat) (s : State) : exec (.drainStart value) s = execDrainStart value s := rfl
theorem exec_drainStop (s : State) : exec .drainStop s = execDrainStop s := rfl
theorem exec_drainDataRead (s : State) : exec .drainDataRead s = execDrainDataRead s := rfl
theorem exec_privMapWrite (id : Nat) (index4 : Nat) (value : Nat) (s : State) : exec (.privMapWrite id index4 value) s = execPrivMapWrite id index4 value s := rfl
theorem exec_secEnWrite (id : Nat) (on : Bool) (s : State) : exec (.secEnWrite id on) s = execSecEnWrite id on s := rfl
theorem exec_stationSecurityApply (stn : Nat) (s : State) : exec (.stationSecurityApply stn) s = execStationSecurityApply stn s := rfl
theorem exec_testEnWrite (id : Nat) (on : Bool) (s : State) : exec (.testEnWrite id on) s = execTestEnWrite id on s := rfl
theorem exec_custGrantWrite (id : Nat) (value : Nat) (s : State) : exec (.custGrantWrite id value) s = execCustGrantWrite id value s := rfl
theorem exec_otpRead (id : Nat) (field : Nat) (s : State) : exec (.otpRead id field) s = execOtpRead id field s := rfl
theorem exec_otpProgram (id : Nat) (field : Nat) (s : State) : exec (.otpProgram id field) s = execOtpProgram id field s := rfl
theorem exec_otpGenkey (id : Nat) (field : Nat) (s : State) : exec (.otpGenkey id field) s = execOtpGenkey id field s := rfl
theorem exec_otpOperationDone (back : List Nat) (s : State) : exec (.otpOperationDone back) s = execOtpOperationDone back s := rfl
theorem exec_hubColdAssert (s : State) : exec .hubColdAssert s = execHubColdAssert s := rfl
theorem exec_hubColdRelease (scope : Bool) (prio : Bool) (scan : Bool) (s : State) : exec (.hubColdRelease scope prio scan) s = execHubColdRelease scope prio scan s := rfl
theorem exec_otpStartupReadDone (s : State) : exec .otpStartupReadDone s = execOtpStartupReadDone s := rfl
theorem exec_hubWarmAssert (s : State) : exec .hubWarmAssert s = execHubWarmAssert s := rfl
theorem exec_hubWarmRelease (s : State) : exec .hubWarmRelease s = execHubWarmRelease s := rfl
theorem exec_cellColdResetAssert (stn : Nat) (s : State) : exec (.cellColdResetAssert stn) s = execCellColdResetAssert stn s := rfl
theorem exec_cellColdResetRelease (stn : Nat) (s : State) : exec (.cellColdResetRelease stn) s = execCellColdResetRelease stn s := rfl
theorem exec_hubAliveToggle (s : State) : exec .hubAliveToggle s = execHubAliveToggle s := rfl
theorem exec_fabricMessageDiscard (s : State) : exec .fabricMessageDiscard s = execFabricMessageDiscard s := rfl
theorem exec_ptbCtlWrite (id : Nat) (value : Nat) (s : State) : exec (.ptbCtlWrite id value) s = execPtbCtlWrite id value s := rfl
theorem exec_ptbParamWrite (id : Nat) (reg : Nat) (value : Nat) (s : State) : exec (.ptbParamWrite id reg value) s = execPtbParamWrite id reg value s := rfl
theorem exec_ptbForceWrite (id : Nat) (value : Nat) (s : State) : exec (.ptbForceWrite id value) s = execPtbForceWrite id value s := rfl
theorem exec_forcedFaultStation (stn : Nat) (s : State) : exec (.forcedFaultStation stn) s = execForcedFaultStation stn s := rfl
theorem exec_hubRootClkStop (s : State) : exec .hubRootClkStop s = execHubRootClkStop s := rfl
theorem exec_deferredHaltTake (core : Nat) (s : State) : exec (.deferredHaltTake core) s = execDeferredHaltTake core s := rfl
theorem exec_evKindReserved (unit : Nat) (cken : Bool) (s : State) : exec (.evKindReserved unit cken) s = execEvKindReserved unit cken s := rfl
theorem exec_upwardDecodeError (s : State) : exec .upwardDecodeError s = execUpwardDecodeError s := rfl
theorem exec_warmWindowReopen (s : State) : exec .warmWindowReopen s = execWarmWindowReopen s := rfl

end Sys2Proof.Machine
end

