-- ==== Sys2Proof/Laws/Frames2.lean ====
section
/-! SUPPORT. The footprint of every operation and command, one lemma each, in the order of the files: the cane network, time, shear, counters, trace and stria. Each says
which parts of the state its operation may change; all others, the queue and the canonical form of the buffers stay. -/

namespace Sys2Proof.Machine

open Host (Outcome)

/-! ### Spine -/

theorem modRib_frame {fm : Nat} {s0 : State} (hm : Sub 0x20 fm) (r : Nat) (f : RibState → RibState) (s : State) (h : Frame fm s0 s) :
    Frame fm s0 ((modRib r f s)) := by
  unfold modRib
  repeat' (first | exact Sub.trans (by decide) hm | intro _ | with_reducible assumption | (simp only [Frame_mk]; first | with_reducible apply FrameC.spine_upd) | extract_lets)

theorem sendDownAs_frame {fm : Nat} {s0 : State} (hm : Sub 0x30 fm) (copy : Bool) (group target kind head : Nat) (words : List Nat) (s : State) (h : Frame fm s0 s) :
    Frame fm s0 ((sendDownAs copy group target kind head words s)) := by
  unfold sendDownAs
  repeat' (first | exact Sub.trans (by decide) hm | intro _ | with_reducible assumption | with_reducible apply modRib_frame | with_reducible apply modStn_frame | with_reducible apply Frame.ite | with_reducible apply Frame.foldl | extract_lets | split)

theorem sendDown_frame {fm : Nat} {s0 : State} (hm : Sub 0x30 fm) (group target kind head : Nat) (words : List Nat) (s : State) (h : Frame fm s0 s) :
    Frame fm s0 ((sendDown group target kind head words s)) := by
  unfold sendDown
  repeat' (first | exact Sub.trans (by decide) hm | intro _ | with_reducible assumption | with_reducible apply sendDownAs_frame)

theorem sendNoteDown_frame {fm : Nat} {s0 : State} (hm : Sub 0x10 fm) (w : Nat) (s : State) (h : Frame fm s0 s) :
    Frame fm s0 ((sendNoteDown w s)) := by
  unfold sendNoteDown
  repeat' (first | exact Sub.trans (by decide) hm | intro _ | with_reducible assumption | with_reducible apply modStn_frame | with_reducible apply Frame.ite | with_reducible apply Frame.foldl | extract_lets | split)

theorem modTrc_frame {fm : Nat} {s0 : State} (hm : Sub 0x400 fm) (f : TraceState → TraceState) (s : State) (hf : ∀ t : TraceState, Memory.wf t.ring = true → Memory.wf (f t).ring = true)
    (h : Frame fm s0 s) : Frame fm s0 (modTrc f s) := by
  unfold modTrc
  rw [Frame_mk]
  exact FrameC.trace_upd _ hm (hf _) h

theorem showTrcPtrs_frame {fm : Nat} {s0 : State} (hm : Sub 0x1 fm) (s : State) (h : Frame fm s0 s) :
    Frame fm s0 ((showTrcPtrs s)) := by
  unfold showTrcPtrs
  repeat' (first | exact Sub.trans (by decide) hm | intro _ | with_reducible assumption | with_reducible apply State.wr_frame | with_reducible apply State.wrN_frame | extract_lets | split)

theorem freeDrained_frame {fm : Nat} {s0 : State} (hm : Sub 0x401 fm) (s : State) (h : Frame fm s0 s) :
    Frame fm s0 ((freeDrained s)) := by
  unfold freeDrained
  repeat' (first | exact Sub.trans (by decide) hm | intro _ | with_reducible assumption | with_reducible apply modTrc_frame | with_reducible apply showTrcPtrs_frame | with_reducible apply Frame.ite | extract_lets | split | (show Memory.wf _ = true; assumption))

theorem drainOverrun_frame {fm : Nat} {s0 : State} (hm : Sub 0x1000000 fm) (s : State) (h : Frame fm s0 s) :
    Frame fm s0 ((drainOverrun s)) := by
  unfold drainOverrun
  repeat' (first | exact Sub.trans (by decide) hm | intro _ | with_reducible assumption | with_reducible apply Frame.ite | (simp only [Frame_mk]; first | with_reducible apply FrameC.rolsal_upd) | extract_lets | split)

theorem wrapFree_frame {fm : Nat} {s0 : State} (hm : Sub 0x1000401 fm) (z0 : Nat) (z1 : Nat) (z2 : State) (h : Frame fm s0 z2) :
    Frame fm s0 ((wrapFree z0 z1 z2)) := by
  induction z0 generalizing z2 with
  | zero =>
    unfold wrapFree
    repeat' (first | exact Sub.trans (by decide) hm | intro _ | with_reducible assumption | with_reducible apply drainOverrun_frame | with_reducible apply State.fs_frame | with_reducible apply modTrc_frame | with_reducible apply Frame.ite | extract_lets | split | (show Memory.wf _ = true; assumption))
  | succ k ih =>
    unfold wrapFree
    repeat' (first | exact Sub.trans (by decide) hm | intro _ | with_reducible assumption | with_reducible apply ih | with_reducible apply drainOverrun_frame | with_reducible apply State.fs_frame | with_reducible apply modTrc_frame | with_reducible apply Frame.ite | extract_lets | split | (show Memory.wf _ = true; assumption))

theorem setCapture_frame {fm : Nat} {s0 : State} (hm : Sub 0x400 fm) (run : Bool) (s : State) (h : Frame fm s0 s) :
    Frame fm s0 ((setCapture run s)) := by
  unfold setCapture
  repeat' (first | exact Sub.trans (by decide) hm | intro _ | with_reducible assumption | with_reducible apply modTrc_frame | with_reducible apply Frame.ite | extract_lets | split | (show Memory.wf _ = true; assumption))

theorem freezeRing_frame {fm : Nat} {s0 : State} (hm : Sub 0x10401 fm) (post : Bool) (s : State) (h : Frame fm s0 s) :
    Frame fm s0 ((freezeRing post s)) := by
  unfold freezeRing
  repeat' (first | exact Sub.trans (by decide) hm | intro _ | with_reducible assumption | with_reducible apply State.fs_frame | with_reducible apply modTrc_frame | with_reducible apply postEvent_frame | with_reducible apply setCapture_frame | with_reducible apply Frame.ite | extract_lets | split | (show Memory.wf _ = true; assumption))

theorem endWindow_frame {fm : Nat} {s0 : State} (hm : Sub 0x400 fm) (s : State) (h : Frame fm s0 s) :
    Frame fm s0 ((endWindow s)) := by
  unfold endWindow
  repeat' (first | exact Sub.trans (by decide) hm | intro _ | with_reducible assumption | with_reducible apply modTrc_frame | with_reducible apply Frame.ite | extract_lets | split | (show Memory.wf _ = true; assumption))

theorem ringTakes_frame {fm : Nat} {s0 : State} (hm : Sub 0x1010401 fm) (n : Nat) (trigger : Bool) (s : State) (h : Frame fm s0 s) :
    Frame fm s0 ((ringTakes n trigger s).2) := by
  unfold ringTakes
  repeat' (first | exact Sub.trans (by decide) hm | intro _ | with_reducible assumption | with_reducible refine Frame.pair ‹_› ?_ | with_reducible apply endWindow_frame | with_reducible apply freeDrained_frame | with_reducible apply freezeRing_frame | with_reducible apply State.fs_frame | with_reducible apply State.fsat_frame | with_reducible apply showTrcPtrs_frame | with_reducible apply wrapFree_frame | with_reducible apply Frame.ite | extract_lets | split)

theorem putBlockAt_frame {fm : Nat} {s0 : State} (hm : Sub 0x401 fm) (ts btype src : Nat) (body : List Nat) (s : State) (h : Frame fm s0 s) :
    Frame fm s0 ((putBlockAt ts btype src body s)) := by
  unfold putBlockAt
  repeat' (first | exact Sub.trans (by decide) hm | intro _ | with_reducible assumption | with_reducible apply modTrc_frame | with_reducible apply showTrcPtrs_frame | with_reducible apply State.wr_frame | with_reducible apply State.wrN_frame | with_reducible apply Frame.ite | extract_lets | split | (apply ringPut_wf; assumption) | (show Memory.wf _ = true; assumption))

theorem putBlock_frame {fm : Nat} {s0 : State} (hm : Sub 0x401 fm) (btype src : Nat) (body : List Nat) (s : State) (h : Frame fm s0 s) :
    Frame fm s0 ((putBlock btype src body s)) := by
  unfold putBlock
  repeat' (first | exact Sub.trans (by decide) hm | intro _ | with_reducible assumption | with_reducible apply putBlockAt_frame)

theorem countGapsWritten_frame {fm : Nat} {s0 : State} (hm : Sub 0x1 fm) (n : Nat) (s : State) (h : Frame fm s0 s) :
    Frame fm s0 ((countGapsWritten n s)) := by
  unfold countGapsWritten
  repeat' (first | exact Sub.trans (by decide) hm | intro _ | with_reducible assumption | with_reducible apply State.fs_frame | with_reducible apply State.fsat_frame | with_reducible apply Frame.ite | split)

theorem loseMsg_frame {fm : Nat} {s0 : State} (hm : Sub 0x401 fm) (stn cause : Nat) (s : State) (h : Frame fm s0 s) :
    Frame fm s0 ((loseMsg stn cause s)) := by
  unfold loseMsg
  repeat' (first | exact Sub.trans (by decide) hm | intro _ | with_reducible assumption | with_reducible apply State.fsat_frame | with_reducible apply modTrc_frame | extract_lets | split | (show Memory.wf _ = true; assumption))

theorem sendTraceCmd_frame {fm : Nat} {s0 : State} (hm : Sub 0x30 fm) (group target sub : Nat) (words : List Nat) (s : State) (h : Frame fm s0 s) :
    Frame fm s0 ((sendTraceCmd group target sub words s)) := by
  unfold sendTraceCmd
  repeat' (first | exact Sub.trans (by decide) hm | intro _ | with_reducible assumption | with_reducible apply sendDown_frame)

theorem putGaps_frame {fm : Nat} {s0 : State} (hm : Sub 0x431 fm) (ls : SMap Loss) (s : State) (h : Frame fm s0 s) :
    Frame fm s0 ((putGaps ls s)) := by
  unfold putGaps
  repeat' (first | exact Sub.trans (by decide) hm | intro _ | with_reducible assumption | with_reducible apply countGapsWritten_frame | with_reducible apply modTrc_frame | with_reducible apply putBlock_frame | with_reducible apply sendTraceCmd_frame | with_reducible apply Frame.ite | with_reducible apply Frame.foldl | extract_lets | split | (show Memory.wf _ = true; assumption))

theorem centralSync_frame {fm : Nat} {s0 : State} (hm : Sub 0x400 fm) (src reason : Nat) (s : State) (h : Frame fm s0 s) :
    Frame fm s0 ((centralSync src reason s)) := by
  unfold centralSync
  repeat' (first | exact Sub.trans (by decide) hm | intro _ | with_reducible assumption | with_reducible apply modTrc_frame | extract_lets | split | (show Memory.wf _ = true; assumption))

theorem writeBatch_frame {fm : Nat} {s0 : State} (hm : Sub 0x1010401 fm) (s : State) (h : Frame fm s0 s) :
    Frame fm s0 ((writeBatch s)) := by
  unfold writeBatch
  repeat' (first | exact Sub.trans (by decide) hm | intro _ | with_reducible assumption | with_reducible refine Frame.pair ‹_› ?_ | with_reducible apply countGapsWritten_frame | with_reducible apply modTrc_frame | with_reducible apply putBlock_frame | with_reducible apply ringTakes_frame | with_reducible apply Frame.ite | extract_lets | split | (show Memory.wf _ = true; assumption))

theorem loseCentral_frame {fm : Nat} {s0 : State} (hm : Sub 0x401 fm) (src name : Nat) (s : State) (h : Frame fm s0 s) :
    Frame fm s0 ((loseCentral src name s)) := by
  unfold loseCentral
  repeat' (first | exact Sub.trans (by decide) hm | intro _ | with_reducible assumption | with_reducible apply centralSync_frame | with_reducible apply State.fsat_frame | with_reducible apply modTrc_frame | extract_lets | (show Memory.wf _ = true; assumption))

theorem centralPacket_frame {fm : Nat} {s0 : State} (hm : Sub 0x401 fm) (src name : Nat) (bytes : List Nat) (s : State) (h : Frame fm s0 s) :
    Frame fm s0 ((centralPacket src name bytes s)) := by
  unfold centralPacket
  repeat' (first | exact Sub.trans (by decide) hm | intro _ | with_reducible assumption | with_reducible apply loseCentral_frame | with_reducible apply modTrc_frame | with_reducible apply Frame.ite | extract_lets | split | (show Memory.wf _ = true; assumption))

theorem writerPacket_frame {fm : Nat} {s0 : State} (hm : Sub 0x401 fm) (bytes : List Nat) (s : State) (h : Frame fm s0 s) :
    Frame fm s0 ((writerPacket bytes s)) := by
  unfold writerPacket
  repeat' (first | exact Sub.trans (by decide) hm | intro _ | with_reducible assumption | with_reducible apply centralPacket_frame)

theorem stimPacket_frame {fm : Nat} {s0 : State} (hm : Sub 0x401 fm) (port ident value : Nat) (s : State) (h : Frame fm s0 s) :
    Frame fm s0 ((stimPacket port ident value s)) := by
  unfold stimPacket
  repeat' (first | exact Sub.trans (by decide) hm | intro _ | with_reducible assumption | with_reducible apply centralHits_frame | with_reducible apply centralPacket_frame | with_reducible apply Frame.ite | extract_lets | split)

theorem writeStationBlock_frame {fm : Nat} {s0 : State} (hm : Sub 0x1010431 fm) (ts stn : Nat) (m : UpMsg) (s : State) (h : Frame fm s0 s) :
    Frame fm s0 ((writeStationBlock ts stn m s)) := by
  unfold writeStationBlock
  repeat' (first | exact Sub.trans (by decide) hm | intro _ | with_reducible assumption | with_reducible refine Frame.pair ‹_› ?_ | with_reducible apply countGapsWritten_frame | with_reducible apply endWindow_frame | with_reducible apply freeDrained_frame | with_reducible apply loseMsg_frame | with_reducible apply putBlockAt_frame | with_reducible apply putGaps_frame | with_reducible apply ringTakes_frame | with_reducible apply writeBatch_frame | with_reducible apply Frame.ite | with_reducible apply Frame.foldl | extract_lets | split)

theorem writeNetGaps_frame {fm : Nat} {s0 : State} (hm : Sub 0x1010431 fm) (stn : Nat) (s : State) (h : Frame fm s0 s) :
    Frame fm s0 ((writeNetGaps stn s)) := by
  unfold writeNetGaps
  repeat' (first | exact Sub.trans (by decide) hm | intro _ | with_reducible assumption | with_reducible refine Frame.pair ‹_› ?_ | with_reducible apply putGaps_frame | with_reducible apply ringTakes_frame | with_reducible apply writeBatch_frame | with_reducible apply Frame.ite | extract_lets | split)

theorem netLoss_frame {fm : Nat} {s0 : State} (hm : Sub 0x1010431 fm) (stn : Nat) (s : State) (h : Frame fm s0 s) :
    Frame fm s0 ((netLoss stn s)) := by
  unfold netLoss
  repeat' (first | exact Sub.trans (by decide) hm | intro _ | with_reducible assumption | with_reducible apply loseMsg_frame | with_reducible apply writeNetGaps_frame)

theorem triggerAction_frame {fm : Nat} {s0 : State} (hm : Sub 0x1010401 fm) (rule : Nat) (e : SeqEvent) (count : Nat) (s : State) (h : Frame fm s0 s) :
    Frame fm s0 ((triggerAction rule e count s)) := by
  unfold triggerAction
  repeat' (first | exact Sub.trans (by decide) hm | intro _ | with_reducible assumption | with_reducible refine Frame.pair ‹_› ?_ | with_reducible apply endWindow_frame | with_reducible apply freezeRing_frame | with_reducible apply State.fs_frame | with_reducible apply State.fsat_frame | with_reducible apply loseCentral_frame | with_reducible apply modTrc_frame | with_reducible apply putBlock_frame | with_reducible apply ringTakes_frame | with_reducible apply State.wr64_frame | with_reducible apply State.wrN_frame | with_reducible apply writeBatch_frame | with_reducible apply Frame.ite | extract_lets | split | (show Memory.wf _ = true; assumption))

theorem absentPacket_frame {fm : Nat} {s0 : State} (hm : Sub 0x401 fm) (rib : Nat) (degraded : Bool) (tsStart : Nat) (s : State) (h : Frame fm s0 s) :
    Frame fm s0 ((absentPacket rib degraded tsStart s)) := by
  unfold absentPacket
  repeat' (first | exact Sub.trans (by decide) hm | intro _ | with_reducible assumption | with_reducible apply writerPacket_frame)

/-! ### CaneOps -/

theorem takeInbox_frame {fm : Nat} {s0 : State} (hm : Sub 0x10 fm) (n kind : Nat) (sub : DownMsg → Bool) (s : State) {r : DownMsg} {t : State} (he : takeInbox n kind sub s = some (r, t)) (h : Frame fm s0 s) :
    Frame fm s0 t := by
  unfold takeInbox at he
  extract_lets at he
  repeat' split at he
  all_goals first | (cases he; done) | skip
  all_goals (cases he; repeat' (first | exact Sub.trans (by decide) hm | with_reducible assumption | with_reducible apply setStn_frame | (simp only [Frame_mk]; with_reducible apply FrameC.spine_upd)))
theorem sendSlotLoad_frame {fm : Nat} {s0 : State} (hm : Sub 0x30 fm) (n : Nat) (s : State) (h : Frame fm s0 s) :
    Frame fm s0 ((sendSlotLoad n s)) := by
  unfold sendSlotLoad
  repeat' (first | exact Sub.trans (by decide) hm | intro _ | with_reducible assumption | with_reducible apply modRib_frame | with_reducible apply modStn_frame | with_reducible apply Frame.ite | extract_lets | split)

theorem sendRegWr_frame {fm : Nat} {s0 : State} (hm : Sub 0x30 fm) (group target page off : Nat) (words : List Nat) (s : State) (h : Frame fm s0 s) :
    Frame fm s0 ((sendRegWr group target page off words s)) := by
  unfold sendRegWr
  repeat' (first | exact Sub.trans (by decide) hm | intro _ | with_reducible assumption | with_reducible apply sendDown_frame)

theorem launch_frame {fm : Nat} {s0 : State} (hm : Sub 0x30 fm) (a : StnAccess) (s : State) (h : Frame fm s0 s) :
    Frame fm s0 ((launch a s)) := by
  unfold launch
  repeat' (first | exact Sub.trans (by decide) hm | intro _ | with_reducible assumption | with_reducible apply sendDown_frame | with_reducible apply sendRegWr_frame | with_reducible apply Frame.refl | with_reducible apply Frame.ite | with_reducible apply Frame.when | with_reducible apply Frame.foldl | (simp only [Frame_mk]; first | with_reducible apply FrameC.spine_upd) | extract_lets | split | (show Memory.wf [] = true; rfl) | (apply memPutBytes_wf; assumption) | (apply ringPut_wf; assumption) | (show Memory.wf _ = true; assumption) | (dsimp +zetaDelta only))

theorem issueAccess_frame {fm : Nat} {s0 : State} (hm : Sub 0x30 fm) (a : StnAccess) (s : State) (h : Frame fm s0 s) :
    Frame fm s0 ((issueAccess a s)) := by
  unfold issueAccess
  repeat' (first | exact Sub.trans (by decide) hm | intro _ | with_reducible assumption | with_reducible apply launch_frame | with_reducible apply Frame.ite | (simp only [Frame_mk]; first | with_reducible apply FrameC.spine_upd) | extract_lets | split)

theorem pumpAccess_frame {fm : Nat} {s0 : State} (hm : Sub 0x30 fm) (z0 : List StnAccess) (z1 : List StnAccess) (z2 : State) (h : Frame fm s0 z2) :
    Frame fm s0 ((pumpAccess z0 z1 z2)) := by
  induction z0 generalizing z1 z2 with
  | nil =>
    unfold pumpAccess
    repeat' (first | exact Sub.trans (by decide) hm | intro _ | with_reducible assumption | with_reducible apply launch_frame | with_reducible apply Frame.ite | (simp only [Frame_mk]; first | with_reducible apply FrameC.spine_upd) | extract_lets | split)
  | cons a l ih =>
    unfold pumpAccess
    repeat' (first | exact Sub.trans (by decide) hm | intro _ | with_reducible assumption | with_reducible apply ih | with_reducible apply launch_frame | with_reducible apply Frame.ite | (simp only [Frame_mk]; first | with_reducible apply FrameC.spine_upd) | extract_lets | split)

theorem modSlotCount_frame {fm : Nat} {s0 : State} (hm : Sub 0x800 fm) (slot : Nat) (f : SlotCount → SlotCount) (s : State) (h : Frame fm s0 s) :
    Frame fm s0 ((modSlotCount slot f s)) := by
  unfold modSlotCount
  repeat' (first | exact Sub.trans (by decide) hm | intro _ | with_reducible assumption | (simp only [Frame_mk]; first | with_reducible apply FrameC.stria_upd) | extract_lets)

theorem discardUp_frame {fm : Nat} {s0 : State} (hm : Sub 0x1010c31 fm) (n : Nat) (m : UpMsg) (s : State) (h : Frame fm s0 s) :
    Frame fm s0 ((discardUp n m s)) := by
  unfold discardUp
  repeat' (first | exact Sub.trans (by decide) hm | intro _ | with_reducible assumption | with_reducible apply State.fs_frame | with_reducible apply modSlotCount_frame | with_reducible apply netLoss_frame | with_reducible apply Frame.ite | extract_lets | split)

theorem abandonUp_frame {fm : Nat} {s0 : State} (hm : Sub 0x1010c31 fm) (n : Nat) (s : State) (h : Frame fm s0 s) :
    Frame fm s0 ((abandonUp n s)) := by
  unfold abandonUp
  repeat' (first | exact Sub.trans (by decide) hm | intro _ | with_reducible assumption | with_reducible apply discardUp_frame | with_reducible apply setStn_frame | with_reducible apply Frame.ite | extract_lets | split)

theorem cutOff_frame {fm : Nat} {s0 : State} (hm : Sub 0x1010c31 fm) (n : Nat) (s : State) (h : Frame fm s0 s) :
    Frame fm s0 ((cutOff n s)) := by
  unfold cutOff
  repeat' (first | exact Sub.trans (by decide) hm | intro _ | with_reducible assumption | with_reducible apply abandonUp_frame | with_reducible apply discardUp_frame | with_reducible apply setStn_frame | with_reducible apply Frame.foldl | extract_lets)

theorem showLoaded_frame {fm : Nat} {s0 : State} (hm : Sub 0x1 fm) (s : State) (h : Frame fm s0 s) :
    Frame fm s0 ((showLoaded s)) := by
  unfold showLoaded
  repeat' (first | exact Sub.trans (by decide) hm | intro _ | with_reducible assumption | with_reducible apply State.fs_frame | extract_lets)

theorem loadTime_frame {fm : Nat} {s0 : State} (hm : Sub 0x30 fm) (group target : Nat) (s : State) (h : Frame fm s0 s) :
    Frame fm s0 ((loadTime group target s)) := by
  unfold loadTime
  repeat' (first | exact Sub.trans (by decide) hm | intro _ | with_reducible assumption | with_reducible apply sendRegWr_frame | with_reducible apply Frame.ite | extract_lets | split)

theorem checkLive_frame {fm : Nat} {s0 : State} (hm : Sub 0x31 fm) (s : State) (h : Frame fm s0 s) :
    Frame fm s0 ((checkLive s)) := by
  unfold checkLive
  repeat' (first | exact Sub.trans (by decide) hm | intro _ | with_reducible assumption | with_reducible apply State.fs_frame | with_reducible apply loadTime_frame | with_reducible apply Frame.ite | split)

theorem loseSlots_frame {fm : Nat} {s0 : State} (hm : Sub 0x1 fm) (s : State) (h : Frame fm s0 s) :
    Frame fm s0 ((loseSlots s)) := by
  unfold loseSlots
  repeat' (first | exact Sub.trans (by decide) hm | intro _ | with_reducible assumption | with_reducible apply State.fs_frame | with_reducible apply Frame.ite | with_reducible apply Frame.foldl | split)

theorem dropEntries_frame {fm : Nat} {s0 : State} (hm : Sub 0x10 fm) (n : Nat) (s : State) (h : Frame fm s0 s) :
    Frame fm s0 ((dropEntries n s)) := by
  unfold dropEntries
  repeat' (first | exact Sub.trans (by decide) hm | intro _ | with_reducible assumption | with_reducible apply modStn_frame | extract_lets)

theorem endRibWork_frame {fm : Nat} {s0 : State} (hm : Sub 0x21 fm) (r : Nat) (s : State) (h : Frame fm s0 s) :
    Frame fm s0 ((endRibWork r s)) := by
  unfold endRibWork
  repeat' (first | exact Sub.trans (by decide) hm | intro _ | with_reducible assumption | with_reducible apply State.fs_frame | with_reducible apply modRib_frame | extract_lets)

theorem degradeRib_frame {fm : Nat} {s0 : State} (hm : Sub 0x1010c31 fm) (r cause tsStart : Nat) (s : State) (h : Frame fm s0 s) :
    Frame fm s0 ((degradeRib r cause tsStart s)) := by
  unfold degradeRib
  repeat' (first | exact Sub.trans (by decide) hm | intro _ | with_reducible assumption | with_reducible apply absentPacket_frame | with_reducible apply checkLive_frame | with_reducible apply cutOff_frame | with_reducible apply dropEntries_frame | with_reducible apply endRibWork_frame | with_reducible apply State.fs_frame | with_reducible apply loseSlots_frame | with_reducible apply showLoaded_frame | with_reducible apply Frame.ite | with_reducible apply Frame.foldl | extract_lets | split)

theorem ribErrors_frame {fm : Nat} {s0 : State} (hm : Sub 0x32befbd fm) (r k slot : Nat) (s : State) (h : Frame fm s0 s) :
    Frame fm s0 ((ribErrors r k slot s)) := by
  unfold ribErrors
  repeat' (first | exact Sub.trans (by decide) hm | intro _ | with_reducible assumption | with_reducible apply centralFault_frame | with_reducible apply degradeRib_frame | with_reducible apply modRib_frame | with_reducible apply Frame.ite | extract_lets | split)

theorem readVerify_frame {fm : Nat} {s0 : State} (hm : Sub 0x30 fm) (n : Nat) (s : State) (h : Frame fm s0 s) :
    Frame fm s0 ((readVerify n s)) := by
  unfold readVerify
  repeat' (first | exact Sub.trans (by decide) hm | intro _ | with_reducible assumption | with_reducible apply issueAccess_frame | extract_lets)

theorem loadRib_frame {fm : Nat} {s0 : State} (hm : Sub 0x30 fm) (r : Nat) (s : State) (h : Frame fm s0 s) :
    Frame fm s0 ((loadRib r s)) := by
  unfold loadRib
  repeat' (first | exact Sub.trans (by decide) hm | intro _ | with_reducible assumption | with_reducible apply modRib_frame | with_reducible apply sendSlotLoad_frame | with_reducible apply Frame.foldl | extract_lets)

theorem verifyRib_frame {fm : Nat} {s0 : State} (hm : Sub 0x30 fm) (r : Nat) (s : State) (h : Frame fm s0 s) :
    Frame fm s0 ((verifyRib r s)) := by
  unfold verifyRib
  repeat' (first | exact Sub.trans (by decide) hm | intro _ | with_reducible assumption | with_reducible apply readVerify_frame | with_reducible apply Frame.foldl)

/-! ### Time -/

theorem takeAccess_frame {fm : Nat} {s0 : State} (hm : Sub 0x30 fm) (n tag : Nat) (s : State) {r : StnAccess} {t : State} (he : takeAccess n tag s = some (r, t)) (h : Frame fm s0 s) :
    Frame fm s0 t := by
  unfold takeAccess at he
  extract_lets at he
  repeat' split at he
  all_goals first | (cases he; done) | skip
  all_goals (cases he; repeat' (first | exact Sub.trans (by decide) hm | with_reducible assumption | with_reducible apply pumpAccess_frame | (simp only [Frame_mk]; with_reducible apply FrameC.spine_upd)))
theorem startTime_frame {fm : Nat} {s0 : State} (hm : Sub 0x31 fm) (s : State) (h : Frame fm s0 s) :
    Frame fm s0 ((startTime s)) := by
  unfold startTime
  repeat' (first | exact Sub.trans (by decide) hm | intro _ | with_reducible assumption | with_reducible apply State.fs_frame | with_reducible apply loadTime_frame | with_reducible apply Frame.ite | extract_lets | split)

theorem lockTime_frame {fm : Nat} {s0 : State} (hm : Sub 0x1 fm) (s : State) (h : Frame fm s0 s) :
    Frame fm s0 ((lockTime s)) := by
  unfold lockTime
  repeat' (first | exact Sub.trans (by decide) hm | intro _ | with_reducible assumption | with_reducible apply State.fs_frame)

theorem writeTimeInc_frame {fm : Nat} {s0 : State} (hm : Sub 0x1 fm) (v : Nat) (s : State) (h : Frame fm s0 s) :
    Frame fm s0 ((writeTimeInc v s)) := by
  unfold writeTimeInc
  repeat' (first | exact Sub.trans (by decide) hm | intro _ | with_reducible assumption | with_reducible apply State.fs_frame | with_reducible apply State.wr64_frame | with_reducible apply Frame.ite | split)

theorem downErrors_frame {fm : Nat} {s0 : State} (hm : Sub 0x11 fm) (n k : Nat) (s : State) (h : Frame fm s0 s) :
    Frame fm s0 ((downErrors n k s)) := by
  unfold downErrors
  repeat' (first | exact Sub.trans (by decide) hm | intro _ | with_reducible assumption | with_reducible apply State.fsat_frame | with_reducible apply modStn_frame | with_reducible apply pcStation_frame | with_reducible apply Frame.ite | extract_lets | split)

theorem startPw_frame {fm : Nat} {s0 : State} (hm : Sub 0x10 fm) (n : Nat) (s : State) (h : Frame fm s0 s) :
    Frame fm s0 ((startPw n s)) := by
  unfold startPw
  repeat' (first | exact Sub.trans (by decide) hm | intro _ | with_reducible assumption | with_reducible apply modPort_frame | with_reducible apply Frame.ite | with_reducible apply Frame.foldl | extract_lets | split)

theorem unload_frame {fm : Nat} {s0 : State} (hm : Sub 0x11 fm) (n f : Nat) (s : State) (h : Frame fm s0 s) :
    Frame fm s0 ((unload n f s)) := by
  unfold unload
  repeat' (first | exact Sub.trans (by decide) hm | intro _ | with_reducible assumption | with_reducible apply State.fs_frame | with_reducible apply modStn_frame | with_reducible apply showLoaded_frame | extract_lets)

theorem enterPass_frame {fm : Nat} {s0 : State} (hm : Sub 0x1010cb1 fm) (n : Nat) (s : State) (h : Frame fm s0 s) :
    Frame fm s0 ((enterPass n s)) := by
  unfold enterPass
  repeat' (first | exact Sub.trans (by decide) hm | intro _ | with_reducible assumption | with_reducible apply abandonUp_frame | with_reducible apply applySlot_frame | with_reducible apply State.fs_frame | with_reducible apply modStn_frame | with_reducible apply releaseHold_frame | with_reducible apply Frame.ite | with_reducible apply Frame.foldl | extract_lets | split)

theorem modGather_frame {fm : Nat} {s0 : State} (hm : Sub 0x80000 fm) (f : GatherState → GatherState) (s : State) (h : Frame fm s0 s) :
    Frame fm s0 ((modGather f s)) := by
  unfold modGather
  repeat' (first | exact Sub.trans (by decide) hm | intro _ | with_reducible assumption | (simp only [Frame_mk]; first | with_reducible apply FrameC.gather_upd) | extract_lets)

theorem sendFabric_frame {fm : Nat} {s0 : State} (hm : Sub 0x20000 fm) (node : Nat) (bytes : List Nat) (s : State) (h : Frame fm s0 s) :
    Frame fm s0 ((sendFabric node bytes s)) := by
  unfold sendFabric
  repeat' (first | exact Sub.trans (by decide) hm | intro _ | with_reducible assumption | (simp only [Frame_mk]; first | with_reducible apply FrameC.bus_upd) | extract_lets)

theorem beginRound_frame {fm : Nat} {s0 : State} (hm : Sub 0x2080000 fm) (round : Nat) (peers : List (Nat × Nat)) (s : State) (h : Frame fm s0 s) :
    Frame fm s0 ((beginRound round peers s)) := by
  unfold beginRound
  repeat' (first | exact Sub.trans (by decide) hm | intro _ | with_reducible assumption | with_reducible refine Frame.pair ‹_› ?_ | with_reducible apply State.free_frame | with_reducible apply modGather_frame | extract_lets | split)

theorem showNent_frame {fm : Nat} {s0 : State} (hm : Sub 0x1 fm) (s : State) (h : Frame fm s0 s) :
    Frame fm s0 ((showNent s)) := by
  unfold showNent
  repeat' (first | exact Sub.trans (by decide) hm | intro _ | with_reducible assumption | with_reducible apply State.fs_frame)

theorem noReply_frame {fm : Nat} {s0 : State} (hm : Sub 0x1 fm) (asym : Bool) (p : GatherPeer) (s : State) (h : Frame fm s0 s) :
    Frame fm s0 ((noReply asym p s)) := by
  unfold noReply
  repeat' (first | exact Sub.trans (by decide) hm | intro _ | with_reducible assumption | with_reducible apply State.wrN_frame | with_reducible apply Frame.ite | extract_lets | split)

theorem writeEntry_frame {fm : Nat} {s0 : State} (hm : Sub 0x1 fm) (first asym : Bool) (p : GatherPeer) (s : State) (h : Frame fm s0 s) :
    Frame fm s0 ((writeEntry first asym p s)) := by
  unfold writeEntry
  repeat' (first | exact Sub.trans (by decide) hm | intro _ | with_reducible assumption | with_reducible apply noReply_frame | with_reducible apply State.wrWords_frame | with_reducible apply Frame.ite | with_reducible apply Frame.foldl | extract_lets | split)

theorem endGather_frame {fm : Nat} {s0 : State} (hm : Sub 0x2090001 fm) (timeout : Bool) (s : State) (h : Frame fm s0 s) :
    Frame fm s0 ((endGather timeout s)) := by
  unfold endGather
  repeat' (first | exact Sub.trans (by decide) hm | intro _ | with_reducible assumption | with_reducible refine Frame.pair ‹_› ?_ | with_reducible apply completeCmd_frame | with_reducible apply State.free_frame | with_reducible apply State.fs_frame | with_reducible apply modGather_frame | with_reducible apply postEvent_frame | with_reducible apply Frame.ite | extract_lets | split)

theorem gatherMissed_frame {fm : Nat} {s0 : State} (hm : Sub 0x32befbd fm) (s : State) (h : Frame fm s0 s) :
    Frame fm s0 ((gatherMissed s)) := by
  unfold gatherMissed
  repeat' (first | exact Sub.trans (by decide) hm | intro _ | with_reducible assumption | with_reducible apply endGather_frame | with_reducible apply noReply_frame | with_reducible apply serviceMiss_frame | with_reducible apply showNent_frame | with_reducible apply writeEntry_frame | with_reducible apply Frame.ite | with_reducible apply Frame.foldl | extract_lets | split)

theorem execTimeStart_frame {fm : Nat} {s0 : State} (hm : Sub 0x31 fm) (id : Nat) (s : State) (h : Frame fm s0 s) :
    FrameO fm s0 (execTimeStart id s) := by
  unfold execTimeStart
  repeat' (first | with_reducible apply FrameO.act | with_reducible apply FrameO.ok | exact Sub.trans (by decide) hm | intro _ | with_reducible assumption | with_reducible apply State.gate_frame | with_reducible apply startTime_frame)

theorem execTimeLock_frame {fm : Nat} {s0 : State} (hm : Sub 0x1 fm) (id : Nat) (s : State) (h : Frame fm s0 s) :
    FrameO fm s0 (execTimeLock id s) := by
  unfold execTimeLock
  repeat' (first | with_reducible apply FrameO.act | with_reducible apply FrameO.ok | exact Sub.trans (by decide) hm | intro _ | with_reducible assumption | with_reducible apply State.gate_frame | with_reducible apply lockTime_frame)

theorem execTimeIncWrite_frame {fm : Nat} {s0 : State} (hm : Sub 0x1 fm) (id value64 : Nat) (s : State) (h : Frame fm s0 s) :
    FrameO fm s0 (execTimeIncWrite id value64 s) := by
  unfold execTimeIncWrite
  repeat' (first | with_reducible apply FrameO.act | with_reducible apply FrameO.ok | exact Sub.trans (by decide) hm | intro _ | with_reducible assumption | with_reducible apply State.gate_frame | with_reducible apply writeTimeInc_frame)

theorem execStationTsLoad_frame {fm : Nat} {s0 : State} (hm : Sub 0x31 fm) (stn : Nat) (marksOk : Bool) (s : State) (h : Frame fm s0 s) :
    FrameO fm s0 (execStationTsLoad stn marksOk s) := by
  unfold execStationTsLoad
  repeat' (first | with_reducible apply FrameO.act | with_reducible apply FrameO.ok | with_reducible apply FrameO.ite | exact Sub.trans (by decide) hm | intro _ | with_reducible assumption | with_reducible apply State.fs_frame | with_reducible apply loadTime_frame | with_reducible apply setStn_frame | with_reducible apply showLoaded_frame | with_reducible apply startPw_frame | with_reducible apply Frame.ite | extract_lets | split)

theorem execStationFrameMark_frame {fm : Nat} {s0 : State} (hm : Sub 0x11 fm) (stn fInv : Nat) (fPar : Bool) (loInv : Nat) (loPar : Bool) (hiInv : Nat) (hiPar : Bool) (s : State) (h : Frame fm s0 s) :
    FrameO fm s0 (execStationFrameMark stn fInv fPar loInv loPar hiInv hiPar s) := by
  unfold execStationFrameMark
  repeat' (first | with_reducible apply FrameO.act | with_reducible apply FrameO.ok | with_reducible apply FrameO.ite | exact Sub.trans (by decide) hm | intro _ | with_reducible assumption | with_reducible apply downErrors_frame | with_reducible apply State.fs_frame | with_reducible apply modStn_frame | with_reducible apply setStn_frame | with_reducible apply Frame.ite | extract_lets | split)

theorem execStationMarkTimeout_frame {fm : Nat} {s0 : State} (hm : Sub 0x1010cb1 fm) (stn : Nat) (s : State) (h : Frame fm s0 s) :
    FrameO fm s0 (execStationMarkTimeout stn s) := by
  unfold execStationMarkTimeout
  repeat' (first | with_reducible apply FrameO.act | with_reducible apply FrameO.ok | with_reducible apply FrameO.ite | exact Sub.trans (by decide) hm | intro _ | with_reducible assumption | with_reducible apply enterPass_frame | with_reducible apply Frame.ite | extract_lets | split)

theorem execGatherPingSend_frame {fm : Nat} {s0 : State} (hm : Sub 0xa0000 fm) (s : State) (h : Frame fm s0 s) :
    FrameO fm s0 (execGatherPingSend s) := by
  unfold execGatherPingSend
  repeat' (first | with_reducible apply FrameO.awake | with_reducible apply FrameO.ok | with_reducible apply FrameO.ite | exact Sub.trans (by decide) hm | intro _ | with_reducible assumption | with_reducible apply modGather_frame | with_reducible apply sendFabric_frame | with_reducible apply Frame.ite | extract_lets | split)

theorem execGpingReceive_frame {fm : Nat} {s0 : State} (hm : Sub 0x2020001 fm) (node index session t1 : Nat) (s : State) (h : Frame fm s0 s) :
    FrameO fm s0 (execGpingReceive node index session t1 s) := by
  unfold execGpingReceive
  repeat' (first | with_reducible apply FrameO.awake | with_reducible apply FrameO.ok | with_reducible apply FrameO.ite | exact Sub.trans (by decide) hm | intro _ | with_reducible assumption | with_reducible refine Frame.pair ‹_› ?_ | with_reducible apply State.free_frame | with_reducible apply State.fsat_frame | with_reducible apply sendFabric_frame | with_reducible apply Frame.ite | extract_lets | split)

theorem execGpongReceive_frame {fm : Nat} {s0 : State} (hm : Sub 0x80000 fm) (node index session t1 t2 t3 : Nat) (s : State) (h : Frame fm s0 s) :
    FrameO fm s0 (execGpongReceive node index session t1 t2 t3 s) := by
  unfold execGpongReceive
  repeat' (first | with_reducible apply FrameO.awake | with_reducible apply FrameO.ok | with_reducible apply FrameO.ite | exact Sub.trans (by decide) hm | intro _ | with_reducible assumption | with_reducible apply modGather_frame | with_reducible apply Frame.ite | extract_lets | split)

theorem execGatherRoundEnd_frame {fm : Nat} {s0 : State} (hm : Sub 0x32befbd fm) (s : State) (h : Frame fm s0 s) :
    FrameO fm s0 (execGatherRoundEnd s) := by
  unfold execGatherRoundEnd
  repeat' (first | with_reducible apply FrameO.act | with_reducible apply FrameO.ok | with_reducible apply FrameO.ite | exact Sub.trans (by decide) hm | intro _ | with_reducible assumption | with_reducible apply endGather_frame | with_reducible apply gatherMissed_frame | with_reducible apply modGather_frame | with_reducible apply showNent_frame | with_reducible apply writeEntry_frame | with_reducible apply Frame.ite | with_reducible apply Frame.foldl | extract_lets | split)

theorem execGatherSecondRound_frame {fm : Nat} {s0 : State} (hm : Sub 0x2080000 fm) (s : State) (h : Frame fm s0 s) :
    FrameO fm s0 (execGatherSecondRound s) := by
  unfold execGatherSecondRound
  repeat' (first | with_reducible apply FrameO.awake | with_reducible apply FrameO.ok | with_reducible apply FrameO.ite | exact Sub.trans (by decide) hm | intro _ | with_reducible assumption | with_reducible apply beginRound_frame | with_reducible apply Frame.ite | extract_lets | split)

theorem execGatherPeriodicRound_frame {fm : Nat} {s0 : State} (hm : Sub 0x2080001 fm) (s : State) (h : Frame fm s0 s) :
    FrameO fm s0 (execGatherPeriodicRound s) := by
  unfold execGatherPeriodicRound
  repeat' (first | with_reducible apply FrameO.awake | with_reducible apply FrameO.ok | with_reducible apply FrameO.ite | exact Sub.trans (by decide) hm | intro _ | with_reducible assumption | with_reducible apply beginRound_frame | with_reducible apply State.fs_frame | with_reducible apply modGather_frame | with_reducible apply Frame.ite | extract_lets | split)

theorem execGatherTimeout_frame {fm : Nat} {s0 : State} (hm : Sub 0x32befbd fm) (s : State) (h : Frame fm s0 s) :
    FrameO fm s0 (execGatherTimeout s) := by
  unfold execGatherTimeout
  repeat' (first | with_reducible apply FrameO.act | with_reducible apply FrameO.ok | exact Sub.trans (by decide) hm | intro _ | with_reducible assumption | with_reducible apply gatherMissed_frame | with_reducible apply State.when_frame | with_reducible apply Frame.when)

/-! ### Shear -/

theorem modShear_frame {fm : Nat} {s0 : State} (hm : Sub 0x80 fm) (f : ShearState → ShearState) (s : State) (h : Frame fm s0 s) :
    Frame fm s0 ((modShear f s)) := by
  unfold modShear
  repeat' (first | exact Sub.trans (by decide) hm | intro _ | with_reducible assumption | (simp only [Frame_mk]; first | with_reducible apply FrameC.shear_upd) | extract_lets)

theorem showOpen_frame {fm : Nat} {s0 : State} (hm : Sub 0x1 fm) (s : State) (h : Frame fm s0 s) :
    Frame fm s0 ((showOpen s)) := by
  unfold showOpen
  repeat' (first | exact Sub.trans (by decide) hm | intro _ | with_reducible assumption | with_reducible apply State.fs_frame)

theorem decideRequests_frame {fm : Nat} {s0 : State} (hm : Sub 0x32befbd fm) (d : Nat) (rs : List CutReq) (s : State) (h : Frame fm s0 s) :
    Frame fm s0 ((decideRequests d rs s)) := by
  unfold decideRequests
  repeat' (first | exact Sub.trans (by decide) hm | intro _ | with_reducible assumption | with_reducible apply modShear_frame | with_reducible apply showOpen_frame | with_reducible apply tick_frame | with_reducible apply Frame.ite | with_reducible apply Frame.foldl | extract_lets | split)

theorem stationTick_frame {fm : Nat} {s0 : State} (hm : Sub 0x32befbd fm) (n cls tick : Nat) (s : State) (h : Frame fm s0 s) :
    Frame fm s0 ((stationTick n cls tick s)) := by
  unfold stationTick
  repeat' (first | exact Sub.trans (by decide) hm | intro _ | with_reducible assumption | with_reducible apply State.fs_frame | with_reducible apply State.fsat_frame | with_reducible apply setPort_frame | with_reducible apply setStn_frame | with_reducible apply tick_frame | with_reducible apply withHolds_frame | with_reducible apply Frame.ite | with_reducible apply Frame.foldl | extract_lets | split)

theorem releasePkg_frame {fm : Nat} {s0 : State} (hm : Sub 0x91 fm) (n : Nat) (s : State) (h : Frame fm s0 s) :
    Frame fm s0 ((releasePkg n s)) := by
  unfold releasePkg
  repeat' (first | exact Sub.trans (by decide) hm | intro _ | with_reducible assumption | with_reducible apply modPort_frame | with_reducible apply withHolds_frame | with_reducible apply Frame.ite | with_reducible apply Frame.foldl | extract_lets | split)

theorem tickCut_frame {fm : Nat} {s0 : State} (hm : Sub 0x32befbd fm) (c : Cut) (s : State) (h : Frame fm s0 s) :
    Frame fm s0 ((tickCut c s)) := by
  unfold tickCut
  repeat' (first | exact Sub.trans (by decide) hm | intro _ | with_reducible assumption | with_reducible apply centralHits_frame | with_reducible apply State.fs_frame | with_reducible apply modShear_frame | with_reducible apply showOpen_frame | with_reducible apply stationTick_frame | with_reducible apply tick_frame | with_reducible apply State.wr64_frame | with_reducible apply State.wrN_frame | with_reducible apply Frame.foldl | extract_lets)

theorem registerResume_frame {fm : Nat} {s0 : State} (hm : Sub 0x80 fm) (cmd : Option CmdKey) (s : State) (h : Frame fm s0 s) :
    Frame fm s0 ((registerResume cmd s)) := by
  unfold registerResume
  repeat' (first | exact Sub.trans (by decide) hm | intro _ | with_reducible assumption | with_reducible apply modShear_frame | extract_lets)

theorem countTestFail_frame {fm : Nat} {s0 : State} (hm : Sub 0x81 fm) (f : Nat) (s : State) (h : Frame fm s0 s) :
    Frame fm s0 ((countTestFail f s)) := by
  unfold countTestFail
  repeat' (first | exact Sub.trans (by decide) hm | intro _ | with_reducible assumption | with_reducible apply State.fsat_frame | with_reducible apply modShear_frame | with_reducible apply Frame.ite | extract_lets | split)

theorem testFailure_frame {fm : Nat} {s0 : State} (hm : Sub 0x81 fm) (key f : Nat) (raise_ : State → State) (s : State) (hraise_ : ∀ (x0 : State), Frame fm s0 x0 → Frame fm s0 ((raise_ x0))) (h : Frame fm s0 s) :
    Frame fm s0 ((testFailure key f raise_ s)) := by
  unfold testFailure
  repeat' (first | exact Sub.trans (by decide) hm | intro _ | with_reducible assumption | with_reducible apply hraise_ | with_reducible apply countTestFail_frame | with_reducible apply modShear_frame | with_reducible apply Frame.ite | extract_lets | split)

theorem formStnFault_frame {fm : Nat} {s0 : State} (hm : Sub 0x11 fm) (n code d0 d1 d2 : Nat) (s : State) (h : Frame fm s0 s) :
    Frame fm s0 ((formStnFault n code d0 d1 d2 s)) := by
  unfold formStnFault
  repeat' (first | exact Sub.trans (by decide) hm | intro _ | with_reducible assumption | with_reducible apply placeFault_frame | with_reducible apply Frame.ite | split)

theorem stationTestFailure_frame {fm : Nat} {s0 : State} (hm : Sub 0x91 fm) (n row : Nat) (s : State) (h : Frame fm s0 s) :
    Frame fm s0 ((stationTestFailure n row s)) := by
  unfold stationTestFailure
  repeat' (first | exact Sub.trans (by decide) hm | intro _ | with_reducible assumption | with_reducible apply formStnFault_frame | with_reducible apply testFailure_frame)

theorem rootTestFailure_frame {fm : Nat} {s0 : State} (hm : Sub 0x32befbd fm) (row stn : Nat) (s : State) (h : Frame fm s0 s) :
    Frame fm s0 ((rootTestFailure row stn s)) := by
  unfold rootTestFailure
  repeat' (first | exact Sub.trans (by decide) hm | intro _ | with_reducible assumption | with_reducible apply centralFault_frame | with_reducible apply State.fs_frame | with_reducible apply testFailure_frame)

theorem runAct_frame {fm : Nat} {s0 : State} (hm : Sub 0x32befbd fm) (n : Nat) (a : StnAct) (s : State) (h : Frame fm s0 s) :
    Frame fm s0 ((runAct n a s)) := by
  unfold runAct
  repeat' (first | exact Sub.trans (by decide) hm | intro _ | with_reducible assumption | with_reducible apply endTiles_frame | with_reducible apply State.fs_frame | with_reducible apply modPort_frame | with_reducible apply releasePkg_frame | with_reducible apply stationTick_frame | with_reducible apply withHolds_frame | with_reducible apply Frame.ite | extract_lets | split)

theorem runActs_frame {fm : Nat} {s0 : State} (hm : Sub 0x32befbd fm) (n : Nat) (s : State) (h : Frame fm s0 s) :
    Frame fm s0 ((runActs n s)) := by
  unfold runActs
  repeat' (first | exact Sub.trans (by decide) hm | intro _ | with_reducible assumption | with_reducible apply modStn_frame | with_reducible apply runAct_frame | with_reducible apply Frame.foldl | extract_lets)

theorem actIn_frame {fm : Nat} {s0 : State} (hm : Sub 0x32befbd fm) (n d : Nat) (a : StnAct) (s : State) (h : Frame fm s0 s) :
    Frame fm s0 ((actIn n d a s)) := by
  unfold actIn
  repeat' (first | exact Sub.trans (by decide) hm | intro _ | with_reducible assumption | with_reducible apply addAct_frame | with_reducible apply runAct_frame | with_reducible apply Frame.ite | split)

theorem shearEnable_frame {fm : Nat} {s0 : State} (hm : Sub 0x1 fm) (s : State) (h : Frame fm s0 s) :
    Frame fm s0 ((shearEnable s)) := by
  unfold shearEnable
  repeat' (first | exact Sub.trans (by decide) hm | intro _ | with_reducible assumption | with_reducible apply State.fs_frame | with_reducible apply Frame.ite | split)

theorem shearDisable_frame {fm : Nat} {s0 : State} (hm : Sub 0x210081 fm) (s : State) (h : Frame fm s0 s) :
    Frame fm s0 ((shearDisable s)) := by
  unfold shearDisable
  repeat' (first | exact Sub.trans (by decide) hm | intro _ | with_reducible assumption | with_reducible apply completeCmd_frame | with_reducible apply State.fs_frame | with_reducible apply modShear_frame | with_reducible apply showOpen_frame | with_reducible apply Frame.foldl | (simp only [Frame_mk]; first | with_reducible apply FrameC.cont_upd) | extract_lets)

theorem triggerNow_frame {fm : Nat} {s0 : State} (hm : Sub 0x80 fm) (cls src : Nat) (who : CutWho) (s : State) (h : Frame fm s0 s) :
    Frame fm s0 ((triggerNow cls src who s)) := by
  unfold triggerNow
  repeat' (first | exact Sub.trans (by decide) hm | intro _ | with_reducible assumption | with_reducible apply centralTrigger_frame | with_reducible apply Frame.ite | split)

theorem shearTrig_frame {fm : Nat} {s0 : State} (hm : Sub 0x80 fm) (op : Nat) (s : State) (h : Frame fm s0 s) :
    Frame fm s0 ((shearTrig op s)) := by
  unfold shearTrig
  repeat' (first | exact Sub.trans (by decide) hm | intro _ | with_reducible assumption | with_reducible apply registerResume_frame | with_reducible apply triggerNow_frame | with_reducible apply Frame.ite | split)

theorem execShearRequestDecided_frame {fm : Nat} {s0 : State} (hm : Sub 0x32befbd fm) (s : State) (h : Frame fm s0 s) :
    FrameO fm s0 (execShearRequestDecided s) := by
  unfold execShearRequestDecided
  repeat' (first | with_reducible apply FrameO.act | with_reducible apply FrameO.ok | with_reducible apply FrameO.ite | exact Sub.trans (by decide) hm | intro _ | with_reducible assumption | with_reducible apply decideRequests_frame | with_reducible apply modShear_frame | with_reducible apply Frame.ite | extract_lets | split)

theorem execShearCommit_frame {fm : Nat} {s0 : State} (hm : Sub 0x80 fm) (s : State) (h : Frame fm s0 s) :
    FrameO fm s0 (execShearCommit s) := by
  unfold execShearCommit
  repeat' (first | with_reducible apply FrameO.act | with_reducible apply FrameO.ok | with_reducible apply FrameO.ite | exact Sub.trans (by decide) hm | intro _ | with_reducible assumption | with_reducible apply modShear_frame | with_reducible apply Frame.ite | extract_lets | split)

theorem execResumeIssue_frame {fm : Nat} {s0 : State} (hm : Sub 0x80 fm) (s : State) (h : Frame fm s0 s) :
    FrameO fm s0 (execResumeIssue s) := by
  unfold execResumeIssue
  repeat' (first | with_reducible apply FrameO.act | with_reducible apply FrameO.ok | with_reducible apply FrameO.ite | exact Sub.trans (by decide) hm | intro _ | with_reducible assumption | with_reducible apply modShear_frame | with_reducible apply Frame.ite | extract_lets | split)

theorem execResumeTick_frame {fm : Nat} {s0 : State} (hm : Sub 0x32befbd fm) (s : State) (h : Frame fm s0 s) :
    FrameO fm s0 (execResumeTick s) := by
  unfold execResumeTick
  repeat' (first | with_reducible apply FrameO.act | with_reducible apply FrameO.ok | exact Sub.trans (by decide) hm | intro _ | with_reducible assumption | with_reducible apply completeTick_frame | with_reducible apply modShear_frame | with_reducible apply releasePkg_frame | with_reducible apply State.wr64_frame | with_reducible apply Frame.foldl | extract_lets | split)

theorem execSelftestTestSend_frame {fm : Nat} {s0 : State} (hm : Sub 0x81 fm) (s : State) (h : Frame fm s0 s) :
    FrameO fm s0 (execSelftestTestSend s) := by
  unfold execSelftestTestSend
  repeat' (first | with_reducible apply FrameO.act | with_reducible apply FrameO.ok | with_reducible apply FrameO.ite | exact Sub.trans (by decide) hm | intro _ | with_reducible assumption | with_reducible apply State.fsat_frame | with_reducible apply modShear_frame | with_reducible apply State.when_frame | with_reducible apply Frame.ite | with_reducible apply Frame.when | extract_lets | split)

theorem execSelftestReply_frame {fm : Nat} {s0 : State} (hm : Sub 0x80 fm) (stn : Nat) (s : State) (h : Frame fm s0 s) :
    FrameO fm s0 (execSelftestReply stn s) := by
  unfold execSelftestReply
  repeat' (first | with_reducible apply FrameO.act | with_reducible apply FrameO.ok | with_reducible apply FrameO.ite | exact Sub.trans (by decide) hm | intro _ | with_reducible assumption | with_reducible apply modShear_frame | with_reducible apply Frame.ite | extract_lets | split)

theorem execSelftestRootCheck_frame {fm : Nat} {s0 : State} (hm : Sub 0x32befbd fm) (wrong : Bool) (s : State) (h : Frame fm s0 s) :
    FrameO fm s0 (execSelftestRootCheck wrong s) := by
  unfold execSelftestRootCheck
  repeat' (first | with_reducible apply FrameO.act | with_reducible apply FrameO.ok | with_reducible apply FrameO.ite | exact Sub.trans (by decide) hm | intro _ | with_reducible assumption | with_reducible apply State.fsat_frame | with_reducible apply modShear_frame | with_reducible apply rootTestFailure_frame | with_reducible apply Frame.ite | extract_lets | split)

theorem execUpwardDecodeError_frame {fm : Nat} {s0 : State} (hm : Sub 0x32befbd fm) (s : State) (h : Frame fm s0 s) :
    FrameO fm s0 (execUpwardDecodeError s) := by
  unfold execUpwardDecodeError
  repeat' (first | with_reducible apply FrameO.act | with_reducible apply FrameO.ok | with_reducible apply FrameO.ite | exact Sub.trans (by decide) hm | intro _ | with_reducible assumption | with_reducible apply State.fsat_frame | with_reducible apply rootTestFailure_frame | with_reducible apply Frame.ite | split)

theorem execStationShearDecode_frame {fm : Nat} {s0 : State} (hm : Sub 0x32befbd fm) (stn a b : Nat) (s : State) (h : Frame fm s0 s) :
    FrameO fm s0 (execStationShearDecode stn a b s) := by
  unfold execStationShearDecode
  repeat' (first | with_reducible apply FrameO.act | with_reducible apply FrameO.ok | with_reducible apply FrameO.ite | exact Sub.trans (by decide) hm | intro _ | with_reducible assumption | with_reducible apply actIn_frame | with_reducible apply State.fs_frame | with_reducible apply stationTestFailure_frame | with_reducible apply Frame.ite | extract_lets | split)

theorem execReceiverLock_frame {fm : Nat} {s0 : State} (hm : Sub 0x1 fm) (root : Bool) (stn : Nat) (s : State) (h : Frame fm s0 s) :
    FrameO fm s0 (execReceiverLock root stn s) := by
  unfold execReceiverLock
  repeat' (first | with_reducible apply FrameO.act | with_reducible apply FrameO.ok | with_reducible apply FrameO.ite | exact Sub.trans (by decide) hm | intro _ | with_reducible assumption | with_reducible apply State.fs_frame | with_reducible apply Frame.ite | split)

theorem execShearEnable_frame {fm : Nat} {s0 : State} (hm : Sub 0x1 fm) (id : Nat) (s : State) (h : Frame fm s0 s) :
    FrameO fm s0 (execShearEnable id s) := by
  unfold execShearEnable
  repeat' (first | with_reducible apply FrameO.act | with_reducible apply FrameO.ok | exact Sub.trans (by decide) hm | intro _ | with_reducible assumption | with_reducible apply State.gate_frame | with_reducible apply shearEnable_frame)

theorem execShearDisable_frame {fm : Nat} {s0 : State} (hm : Sub 0x210081 fm) (id : Nat) (s : State) (h : Frame fm s0 s) :
    FrameO fm s0 (execShearDisable id s) := by
  unfold execShearDisable
  repeat' (first | with_reducible apply FrameO.act | with_reducible apply FrameO.ok | exact Sub.trans (by decide) hm | intro _ | with_reducible assumption | with_reducible apply State.gate_frame | with_reducible apply shearDisable_frame)

theorem execShearTrigLatch_frame {fm : Nat} {s0 : State} (hm : Sub 0x81 fm) (id : Nat) (s : State) (h : Frame fm s0 s) :
    FrameO fm s0 (execShearTrigLatch id s) := by
  unfold execShearTrigLatch
  repeat' (first | with_reducible apply FrameO.act | with_reducible apply FrameO.ok | exact Sub.trans (by decide) hm | intro _ | with_reducible assumption | with_reducible apply State.gate_frame | with_reducible apply shearTrig_frame)

theorem execShearTrigFreeze_frame {fm : Nat} {s0 : State} (hm : Sub 0x81 fm) (id : Nat) (s : State) (h : Frame fm s0 s) :
    FrameO fm s0 (execShearTrigFreeze id s) := by
  unfold execShearTrigFreeze
  repeat' (first | with_reducible apply FrameO.act | with_reducible apply FrameO.ok | exact Sub.trans (by decide) hm | intro _ | with_reducible assumption | with_reducible apply State.gate_frame | with_reducible apply shearTrig_frame)

theorem execShearTrigDrain_frame {fm : Nat} {s0 : State} (hm : Sub 0x81 fm) (id : Nat) (s : State) (h : Frame fm s0 s) :
    FrameO fm s0 (execShearTrigDrain id s) := by
  unfold execShearTrigDrain
  repeat' (first | with_reducible apply FrameO.act | with_reducible apply FrameO.ok | exact Sub.trans (by decide) hm | intro _ | with_reducible assumption | with_reducible apply State.gate_frame | with_reducible apply shearTrig_frame)

theorem execShearTrigRunOn_frame {fm : Nat} {s0 : State} (hm : Sub 0x81 fm) (id : Nat) (s : State) (h : Frame fm s0 s) :
    FrameO fm s0 (execShearTrigRunOn id s) := by
  unfold execShearTrigRunOn
  repeat' (first | with_reducible apply FrameO.act | with_reducible apply FrameO.ok | exact Sub.trans (by decide) hm | intro _ | with_reducible assumption | with_reducible apply State.gate_frame | with_reducible apply shearTrig_frame)

theorem execShearTrigResume_frame {fm : Nat} {s0 : State} (hm : Sub 0x81 fm) (id : Nat) (s : State) (h : Frame fm s0 s) :
    FrameO fm s0 (execShearTrigResume id s) := by
  unfold execShearTrigResume
  repeat' (first | with_reducible apply FrameO.act | with_reducible apply FrameO.ok | exact Sub.trans (by decide) hm | intro _ | with_reducible assumption | with_reducible apply State.gate_frame | with_reducible apply shearTrig_frame)

theorem execCarrierShearRequest_frame {fm : Nat} {s0 : State} (hm : Sub 0x88 fm) (sampled : Bool) (s : State) (h : Frame fm s0 s) :
    FrameO fm s0 (execCarrierShearRequest sampled s) := by
  unfold execCarrierShearRequest
  repeat' (first | with_reducible apply FrameO.act | with_reducible apply FrameO.ok | with_reducible apply FrameO.ite | exact Sub.trans (by decide) hm | intro _ | with_reducible assumption | with_reducible apply triggerNow_frame | with_reducible apply Frame.ite | (simp only [Frame_mk]; first | with_reducible apply FrameC.pins_upd) | extract_lets | split)

theorem execCarrierShearPairError_frame {fm : Nat} {s0 : State} (hm : Sub 0x9 fm) (level : Bool) (s : State) (h : Frame fm s0 s) :
    FrameO fm s0 (execCarrierShearPairError level s) := by
  unfold execCarrierShearPairError
  repeat' (first | with_reducible apply FrameO.act | with_reducible apply FrameO.ok | with_reducible apply FrameO.ite | exact Sub.trans (by decide) hm | intro _ | with_reducible assumption | with_reducible apply State.fs_frame | with_reducible apply Frame.ite | (simp only [Frame_mk]; first | with_reducible apply FrameC.pins_upd) | extract_lets | split)

theorem execCutAtTrigger_frame {fm : Nat} {s0 : State} (hm : Sub 0x10081 fm) (s : State) (h : Frame fm s0 s) :
    FrameO fm s0 (execCutAtTrigger s) := by
  unfold execCutAtTrigger
  repeat' (first | with_reducible apply FrameO.act | with_reducible apply FrameO.ok | with_reducible apply FrameO.ite | exact Sub.trans (by decide) hm | intro _ | with_reducible assumption | with_reducible apply addRequest_frame | with_reducible apply completeCmd_frame | with_reducible apply modShear_frame | with_reducible apply Frame.ite | with_reducible apply Frame.foldl | extract_lets | split)

/-! ### Cullet -/

theorem lineWrite_frame {fm : Nat} {s0 : State} (hm : Sub 0x20000 fm) (ident addr : Nat) (data : List Nat) (use : LineUse) (s : State) (h : Frame fm s0 s) :
    Frame fm s0 ((lineWrite ident addr data use s)) := by
  unfold lineWrite
  repeat' (first | exact Sub.trans (by decide) hm | intro _ | with_reducible assumption | with_reducible refine Frame.pair ‹_› ?_ | with_reducible apply issueWrite_frame | with_reducible apply presentBulk_frame | with_reducible apply takeTag_frame | with_reducible apply Frame.ite | extract_lets | split)

theorem lineWrites_frame {fm : Nat} {s0 : State} (hm : Sub 0x20000 fm) (ident addr : Nat) (bs : List Nat) (use : LineUse) (s : State) (h : Frame fm s0 s) :
    Frame fm s0 ((lineWrites ident addr bs use s)) := by
  unfold lineWrites
  repeat' (first | exact Sub.trans (by decide) hm | intro _ | with_reducible assumption | with_reducible apply lineWrite_frame | with_reducible apply Frame.foldl)

theorem lineRead_frame {fm : Nat} {s0 : State} (hm : Sub 0x20000 fm) (ident addr size : Nat) (peek : Bool) (use : LineUse) (s : State) (h : Frame fm s0 s) :
    Frame fm s0 ((lineRead ident addr size peek use s)) := by
  unfold lineRead
  repeat' (first | exact Sub.trans (by decide) hm | intro _ | with_reducible assumption | with_reducible refine Frame.pair ‹_› ?_ | with_reducible apply issueRead_frame | with_reducible apply takeTag_frame | with_reducible apply Frame.ite | (simp only [Frame_mk]; first | with_reducible apply FrameC.bus_upd) | extract_lets | split)

theorem startGroup_frame {fm : Nat} {s0 : State} (hm : Sub 0x10 fm) (n : Nat) (s : State) (h : Frame fm s0 s) :
    Frame fm s0 ((startGroup n s)) := by
  unfold startGroup
  repeat' (first | exact Sub.trans (by decide) hm | intro _ | with_reducible assumption | with_reducible apply setStn_frame | with_reducible apply Frame.ite | extract_lets | split)

theorem showReadout_frame {fm : Nat} {s0 : State} (hm : Sub 0x1 fm) (n : Nat) (s : State) (h : Frame fm s0 s) :
    Frame fm s0 ((showReadout n s)) := by
  unfold showReadout
  repeat' (first | exact Sub.trans (by decide) hm | intro _ | with_reducible assumption | with_reducible apply State.fs_frame | extract_lets | split)

theorem culletSend_frame {fm : Nat} {s0 : State} (hm : Sub 0x91 fm) (stn g : Nat) (r : StnReadout) (parts : List (Nat × List Nat)) (s : State) (h : Frame fm s0 s) :
    Frame fm s0 ((culletSend stn g r parts s)) := by
  unfold culletSend
  repeat' (first | exact Sub.trans (by decide) hm | intro _ | with_reducible assumption | with_reducible apply offerMsg_frame | with_reducible apply protoViolation_frame | with_reducible apply Frame.ite | with_reducible apply Frame.foldl | extract_lets | split)

theorem modCullet_frame {fm : Nat} {s0 : State} (hm : Sub 0x100 fm) (f : CulletState → CulletState) (s : State) (hf : ∀ t : CulletState, Memory.wf t.buf = true → Memory.wf (f t).buf = true)
    (h : Frame fm s0 s) : Frame fm s0 (modCullet f s) := by
  unfold modCullet
  rw [Frame_mk]
  exact FrameC.cullet_upd _ hm (hf _) h

theorem setDirW_frame {fm : Nat} {s0 : State} (hm : Sub 0x1 fm) (d w v : Nat) (s : State) (h : Frame fm s0 s) :
    Frame fm s0 ((setDirW d w v s)) := by
  unfold setDirW
  repeat' (first | exact Sub.trans (by decide) hm | intro _ | with_reducible assumption | with_reducible apply State.wrN_frame)

theorem setDirFlag_frame {fm : Nat} {s0 : State} (hm : Sub 0x1 fm) (d b : Nat) (v : Bool) (s : State) (h : Frame fm s0 s) :
    Frame fm s0 ((setDirFlag d b v s)) := by
  unfold setDirFlag
  repeat' (first | exact Sub.trans (by decide) hm | intro _ | with_reducible assumption | with_reducible apply setDirW_frame)

theorem showCullet_frame {fm : Nat} {s0 : State} (hm : Sub 0x1 fm) (s : State) (h : Frame fm s0 s) :
    Frame fm s0 ((showCullet s)) := by
  unfold showCullet
  repeat' (first | exact Sub.trans (by decide) hm | intro _ | with_reducible assumption | with_reducible apply State.fs_frame | extract_lets)

theorem freeDir_frame {fm : Nat} {s0 : State} (hm : Sub 0x101 fm) (d : Nat) (s : State) (h : Frame fm s0 s) :
    Frame fm s0 ((freeDir d s)) := by
  unfold freeDir
  repeat' (first | exact Sub.trans (by decide) hm | intro _ | with_reducible assumption | with_reducible apply modCullet_frame | with_reducible apply setDirFlag_frame | with_reducible apply showCullet_frame | extract_lets | (show Memory.wf _ = true; assumption))

theorem unpinDir_frame {fm : Nat} {s0 : State} (hm : Sub 0x1 fm) (d : Nat) (s : State) (h : Frame fm s0 s) :
    Frame fm s0 ((unpinDir d s)) := by
  unfold unpinDir
  repeat' (first | exact Sub.trans (by decide) hm | intro _ | with_reducible assumption | with_reducible apply setDirFlag_frame)

theorem unpinSnap_frame {fm : Nat} {s0 : State} (hm : Sub 0x1 fm) (k : CmdKey) (d : Nat) (s : State) (h : Frame fm s0 s) :
    Frame fm s0 ((unpinSnap k d s)) := by
  unfold unpinSnap
  repeat' (first | exact Sub.trans (by decide) hm | intro _ | with_reducible assumption | with_reducible apply setDirFlag_frame | with_reducible apply showCullet_frame | extract_lets)

theorem makeRoom_frame {fm : Nat} {s0 : State} (hm : Sub 0x101 fm) (z0 : Nat) (z1 : Nat) (z2 : State) (h : Frame fm s0 z2) :
    Frame fm s0 ((makeRoom z0 z1 z2)) := by
  induction z0 generalizing z2 with
  | zero =>
    unfold makeRoom
    repeat' (first | exact Sub.trans (by decide) hm | intro _ | with_reducible assumption | with_reducible apply freeDir_frame | with_reducible apply Frame.ite | extract_lets | split)
  | succ k ih =>
    unfold makeRoom
    repeat' (first | exact Sub.trans (by decide) hm | intro _ | with_reducible assumption | with_reducible apply ih | with_reducible apply freeDir_frame | with_reducible apply Frame.ite | extract_lets | split)

theorem bufAppend_frame {fm : Nat} {s0 : State} (hm : Sub 0x101 fm) (d : Nat) (bs : List Nat) (s : State) (h : Frame fm s0 s) :
    Frame fm s0 ((bufAppend d bs s)) := by
  unfold bufAppend
  repeat' (first | exact Sub.trans (by decide) hm | intro _ | with_reducible assumption | with_reducible apply modCullet_frame | with_reducible apply setDirW_frame | with_reducible apply showCullet_frame | with_reducible apply Frame.refl | with_reducible apply Frame.ite | with_reducible apply Frame.when | with_reducible apply Frame.foldl | extract_lets | split | (show Memory.wf [] = true; rfl) | (apply memPutBytes_wf; assumption) | (apply ringPut_wf; assumption) | (show Memory.wf _ = true; assumption) | (dsimp +zetaDelta only))

theorem countRecord_frame {fm : Nat} {s0 : State} (hm : Sub 0x1 fm) (d stat : Nat) (s : State) (h : Frame fm s0 s) :
    Frame fm s0 ((countRecord d stat s)) := by
  unfold countRecord
  repeat' (first | exact Sub.trans (by decide) hm | intro _ | with_reducible assumption | with_reducible apply setDirW_frame | extract_lets)

theorem lostRecord_frame {fm : Nat} {s0 : State} (hm : Sub 0x101 fm) (d unit cv : Nat) (s : State) (h : Frame fm s0 s) :
    Frame fm s0 ((lostRecord d unit cv s)) := by
  unfold lostRecord
  repeat' (first | exact Sub.trans (by decide) hm | intro _ | with_reducible assumption | with_reducible apply bufAppend_frame | with_reducible apply countRecord_frame | with_reducible apply makeRoom_frame | with_reducible apply Frame.ite | extract_lets | split)

theorem putRecord_frame {fm : Nat} {s0 : State} (hm : Sub 0x20101 fm) (d unit cv stat : Nat) (bs : List Nat) (s : State) (h : Frame fm s0 s) :
    Frame fm s0 ((putRecord d unit cv stat bs s)) := by
  unfold putRecord
  repeat' (first | exact Sub.trans (by decide) hm | intro _ | with_reducible assumption | with_reducible apply bufAppend_frame | with_reducible apply countRecord_frame | with_reducible apply State.fs_frame | with_reducible apply lineWrites_frame | with_reducible apply lostRecord_frame | with_reducible apply makeRoom_frame | with_reducible apply modCullet_frame | with_reducible apply setDirFlag_frame | with_reducible apply setDirW_frame | with_reducible apply Frame.ite | extract_lets | split | (show Memory.wf _ = true; assumption))

theorem culletGo_frame {fm : Nat} {s0 : State} (hm : Sub 0x32befbd fm) (types : Nat) (s : State) (h : Frame fm s0 s) :
    Frame fm s0 ((culletGo types s)) := by
  unfold culletGo
  repeat' (first | exact Sub.trans (by decide) hm | intro _ | with_reducible assumption | with_reducible refine Frame.pair ‹_› ?_ | with_reducible apply askReadout_frame | with_reducible apply Frame.ite | split)

theorem bridgeAnswers_frame {fm : Nat} {s0 : State} (hm : Sub 0x10 fm) (q : ReadReq) (rdtag : Nat) (l : List (Nat × Nat)) (s : State) (h : Frame fm s0 s) :
    Frame fm s0 ((bridgeAnswers q rdtag l s)) := by
  unfold bridgeAnswers
  repeat' (first | exact Sub.trans (by decide) hm | intro _ | with_reducible assumption | with_reducible apply modStn_frame | with_reducible apply Frame.foldl | extract_lets | split)

theorem readoutOwed_frame {fm : Nat} {s0 : State} (hm : Sub 0x32befbd fm) (q : ReadReq) (d : Nat) (s : State) (h : Frame fm s0 s) :
    Frame fm s0 ((readoutOwed q d s)) := by
  unfold readoutOwed
  repeat' (first | exact Sub.trans (by decide) hm | intro _ | with_reducible assumption | with_reducible apply completeTick_frame | with_reducible apply finishWithBytes_frame | with_reducible apply modCmd_frame | with_reducible apply tick_frame | with_reducible apply unpinSnap_frame | with_reducible apply Frame.ite | extract_lets | split)

theorem endReadout_frame {fm : Nat} {s0 : State} (hm : Sub 0x32befbd fm) (s : State) (h : Frame fm s0 s) :
    Frame fm s0 ((endReadout s)) := by
  unfold endReadout
  repeat' (first | exact Sub.trans (by decide) hm | intro _ | with_reducible assumption | with_reducible apply State.fs_frame | with_reducible apply lostRecord_frame | with_reducible apply modCullet_frame | with_reducible apply readoutOwed_frame | with_reducible apply setDirFlag_frame | with_reducible apply setDirW_frame | with_reducible apply Frame.foldl | extract_lets | split | (show Memory.wf _ = true; assumption))

theorem beginReadout_frame {fm : Nat} {s0 : State} (hm : Sub 0x32befbd fm) (d : Nat) (q : ReadReq) (left : List (Nat × Nat)) (s : State) (h : Frame fm s0 s) :
    Frame fm s0 ((beginReadout d q left s)) := by
  unfold beginReadout
  repeat' (first | exact Sub.trans (by decide) hm | intro _ | with_reducible assumption | with_reducible apply bridgeAnswers_frame | with_reducible apply State.fs_frame | with_reducible apply modCullet_frame | with_reducible apply sendDown_frame | with_reducible apply showCullet_frame | with_reducible apply tick_frame | with_reducible apply State.wrWords_frame | with_reducible apply Frame.ite | extract_lets | split | (show Memory.wf _ = true; assumption))

theorem takeCulletMessage_frame {fm : Nat} {s0 : State} (hm : Sub 0x32befbd fm) (n : Nat) (m : UpMsg) (s : State) (h : Frame fm s0 s) :
    Frame fm s0 ((takeCulletMessage n m s)) := by
  unfold takeCulletMessage
  repeat' (first | exact Sub.trans (by decide) hm | intro _ | with_reducible assumption | with_reducible apply lostRecord_frame | with_reducible apply modCullet_frame | with_reducible apply putRecord_frame | with_reducible apply setDirW_frame | with_reducible apply tick_frame | with_reducible apply Frame.ite | with_reducible apply Frame.foldl | extract_lets | split | (show Memory.wf _ = true; assumption))

theorem execStationCulletRd_frame {fm : Nat} {s0 : State} (hm : Sub 0x11 fm) (stn : Nat) (s : State) (h : Frame fm s0 s) :
    FrameO fm s0 (execStationCulletRd stn s) := by
  unfold execStationCulletRd
  repeat' (first | with_reducible apply FrameO.act | with_reducible apply FrameO.ok | with_reducible apply FrameO.ite | exact Sub.trans (by decide) hm | intro _ | with_reducible assumption | with_reducible refine takeInbox_frame ?_ _ _ _ _ ‹_› ?_ | with_reducible apply State.fs_frame | with_reducible apply modStn_frame | with_reducible apply showReadout_frame | with_reducible apply startGroup_frame | with_reducible apply Frame.ite | extract_lets | split)

theorem execStationCulletGroupDone_frame {fm : Nat} {s0 : State} (hm : Sub 0x91 fm) (stn : Nat) (vectors : List (List Nat)) (s : State) (h : Frame fm s0 s) :
    FrameO fm s0 (execStationCulletGroupDone stn vectors s) := by
  unfold execStationCulletGroupDone
  repeat' (first | with_reducible apply FrameO.act | with_reducible apply FrameO.ok | with_reducible apply FrameO.ite | exact Sub.trans (by decide) hm | intro _ | with_reducible assumption | with_reducible apply culletSend_frame | with_reducible apply State.fs_frame | with_reducible apply setStn_frame | with_reducible apply showReadout_frame | with_reducible apply startGroup_frame | with_reducible apply Frame.ite | extract_lets | split)

theorem execCulletReadGo_frame {fm : Nat} {s0 : State} (hm : Sub 0x32befbd fm) (id types : Nat) (s : State) (h : Frame fm s0 s) :
    FrameO fm s0 (execCulletReadGo id types s) := by
  unfold execCulletReadGo
  repeat' (first | with_reducible apply FrameO.act | with_reducible apply FrameO.ok | exact Sub.trans (by decide) hm | intro _ | with_reducible assumption | with_reducible apply culletGo_frame | with_reducible apply State.gate_frame)

theorem execCulletReadoutStart_frame {fm : Nat} {s0 : State} (hm : Sub 0x32befbd fm) (s : State) (h : Frame fm s0 s) :
    FrameO fm s0 (execCulletReadoutStart s) := by
  unfold execCulletReadoutStart
  repeat' (first | with_reducible apply FrameO.act | with_reducible apply FrameO.awake | with_reducible apply FrameO.ok | with_reducible apply FrameO.ite | with_reducible apply FrameO.fault | exact Sub.trans (by decide) hm | intro _ | with_reducible assumption | with_reducible apply beginReadout_frame | with_reducible apply endReadout_frame | with_reducible apply freeDir_frame | with_reducible apply State.fs_frame | with_reducible apply modCullet_frame | with_reducible apply refuseReadout_frame | with_reducible apply Frame.refl | with_reducible apply Frame.ite | with_reducible apply Frame.when | with_reducible apply Frame.foldl | extract_lets | split | (show Memory.wf [] = true; rfl) | (apply memPutBytes_wf; assumption) | (apply ringPut_wf; assumption) | (show Memory.wf _ = true; assumption) | (dsimp +zetaDelta only))

/-! ### Counters -/

theorem modCtr_frame {fm : Nat} {s0 : State} (hm : Sub 0x200 fm) (f : CtrState → CtrState) (s : State) (h : Frame fm s0 s) :
    Frame fm s0 ((modCtr f s)) := by
  unfold modCtr
  repeat' (first | exact Sub.trans (by decide) hm | intro _ | with_reducible assumption | (simp only [Frame_mk]; first | with_reducible apply FrameC.ctr_upd) | extract_lets)

theorem ownCounter_frame {fm : Nat} {s0 : State} (hm : Sub 0x200 fm) (n i owner : Nat) (s : State) (h : Frame fm s0 s) :
    Frame fm s0 ((ownCounter n i owner s)) := by
  unfold ownCounter
  repeat' (first | exact Sub.trans (by decide) hm | intro _ | with_reducible assumption | with_reducible apply modCtr_frame | extract_lets)

theorem configureCounter_frame {fm : Nat} {s0 : State} (hm : Sub 0x230 fm) (group target i lo hi owner : Nat) (ring : Option Nat) (s : State) (h : Frame fm s0 s) :
    Frame fm s0 ((configureCounter group target i lo hi owner ring s).2) := by
  unfold configureCounter
  repeat' (first | exact Sub.trans (by decide) hm | intro _ | with_reducible assumption | with_reducible refine Frame.pair ‹_› ?_ | with_reducible apply modCtr_frame | with_reducible apply sendDown_frame | with_reducible apply Frame.ite | with_reducible apply Frame.foldl | extract_lets | split)

theorem pcCfgWord_frame {fm : Nat} {s0 : State} (hm : Sub 0x231 fm) (id n i : Nat) (hi : Bool) (v : Nat) (s : State) (h : Frame fm s0 s) :
    Frame fm s0 ((pcCfgWord id n i hi v s)) := by
  unfold pcCfgWord
  repeat' (first | exact Sub.trans (by decide) hm | intro _ | with_reducible assumption | with_reducible refine Frame.pair ‹_› ?_ | with_reducible apply configureCounter_frame | with_reducible apply State.fs_frame | with_reducible apply Frame.ite | extract_lets | split)

theorem applyCfg_frame {fm : Nat} {s0 : State} (hm : Sub 0x11 fm) (n i lo hi : Nat) (copy : Bool) (s : State) (h : Frame fm s0 s) :
    Frame fm s0 ((applyCfg n i lo hi copy s)) := by
  unfold applyCfg
  repeat' (first | exact Sub.trans (by decide) hm | intro _ | with_reducible assumption | with_reducible apply modStn_frame | with_reducible apply pcSet_frame | with_reducible apply State.wrN_frame | with_reducible apply Frame.ite | extract_lets | split)

theorem addSample_frame {fm : Nat} {s0 : State} (hm : Sub 0x10 fm) (n f sub rtag w : Nat) (s : State) (h : Frame fm s0 s) :
    Frame fm s0 ((addSample n f sub rtag w s)) := by
  unfold addSample
  repeat' (first | exact Sub.trans (by decide) hm | intro _ | with_reducible assumption | with_reducible apply modStn_frame | extract_lets)

theorem modRead_frame {fm : Nat} {s0 : State} (hm : Sub 0x200 fm) (rtag : Nat) (f : CtrRead → CtrRead) (s : State) (h : Frame fm s0 s) :
    Frame fm s0 ((modRead rtag f s)) := by
  unfold modRead
  repeat' (first | exact Sub.trans (by decide) hm | intro _ | with_reducible assumption | with_reducible apply modCtr_frame | extract_lets)

theorem noteCutSample_frame {fm : Nat} {s0 : State} (hm : Sub 0x200 fm) (n rtag : Nat) (s : State) (h : Frame fm s0 s) :
    Frame fm s0 ((noteCutSample n rtag s)) := by
  unfold noteCutSample
  repeat' (first | exact Sub.trans (by decide) hm | intro _ | with_reducible assumption | with_reducible apply modRead_frame | with_reducible apply Frame.ite | extract_lets | split)

theorem showCtrBusy_frame {fm : Nat} {s0 : State} (hm : Sub 0x1 fm) (s : State) (h : Frame fm s0 s) :
    Frame fm s0 ((showCtrBusy s)) := by
  unfold showCtrBusy
  repeat' (first | exact Sub.trans (by decide) hm | intro _ | with_reducible assumption | with_reducible apply State.fs_frame)

theorem sampleTsOf_frame {fm : Nat} {s0 : State} (hm : Sub 0x2000000 fm) (f : Nat) (s : State) (h : Frame fm s0 s) :
    Frame fm s0 ((sampleTsOf f s).2) := by
  unfold sampleTsOf
  repeat' (first | exact Sub.trans (by decide) hm | intro _ | with_reducible assumption | with_reducible refine Frame.pair ‹_› ?_ | with_reducible apply State.free_frame | with_reducible apply Frame.ite | extract_lets | split)

theorem beginCtrRead_frame {fm : Nat} {s0 : State} (hm : Sub 0x2000231 fm) (cmd : Option CmdKey) (group target : Nat) (energy : Bool) (w owner cls seen : Nat) (s : State) (h : Frame fm s0 s) :
    Frame fm s0 ((beginCtrRead cmd group target energy w owner cls seen s)) := by
  unfold beginCtrRead
  repeat' (first | exact Sub.trans (by decide) hm | intro _ | with_reducible assumption | with_reducible refine Frame.pair ‹_› ?_ | with_reducible apply modCtr_frame | with_reducible apply sampleTsOf_frame | with_reducible apply sendDown_frame | with_reducible apply showCtrBusy_frame | with_reducible apply Frame.ite | extract_lets | split)

theorem takeCounterMessage_frame {fm : Nat} {s0 : State} (hm : Sub 0x201 fm) (n : Nat) (m : UpMsg) (s : State) (h : Frame fm s0 s) :
    Frame fm s0 ((takeCounterMessage n m s)) := by
  unfold takeCounterMessage
  repeat' (first | exact Sub.trans (by decide) hm | intro _ | with_reducible assumption | with_reducible apply State.fs_frame | with_reducible apply modRead_frame | with_reducible apply Frame.ite | extract_lets | split)

theorem takeAttribMessage_frame {fm : Nat} {s0 : State} (hm : Sub 0x200 fm) (n : Nat) (m : UpMsg) (s : State) (h : Frame fm s0 s) :
    Frame fm s0 ((takeAttribMessage n m s)) := by
  unfold takeAttribMessage
  repeat' (first | exact Sub.trans (by decide) hm | intro _ | with_reducible assumption | with_reducible apply modRead_frame | with_reducible apply Frame.ite | extract_lets | split)

theorem endCtrRead_frame {fm : Nat} {s0 : State} (hm : Sub 0x32201 fm) (r : CtrRead) (s : State) (h : Frame fm s0 s) :
    Frame fm s0 ((endCtrRead r s)) := by
  unfold endCtrRead
  repeat' (first | exact Sub.trans (by decide) hm | intro _ | with_reducible assumption | with_reducible apply finishWithBytes_frame | with_reducible apply State.fs_frame | with_reducible apply modCtr_frame | with_reducible apply showCtrBusy_frame | with_reducible apply Frame.ite | (simp only [Frame_mk]; first | with_reducible apply FrameC.lehr_upd) | extract_lets | split)

theorem settleReads_frame {fm : Nat} {s0 : State} (hm : Sub 0x32201 fm) (s : State) (h : Frame fm s0 s) :
    Frame fm s0 ((settleReads s)) := by
  unfold settleReads
  repeat' (first | exact Sub.trans (by decide) hm | intro _ | with_reducible assumption | with_reducible apply endCtrRead_frame | with_reducible apply Frame.foldl)

theorem giveAttr_frame {fm : Nat} {s0 : State} (hm : Sub 0x11 fm) (n : Nat) (s : State) (h : Frame fm s0 s) :
    Frame fm s0 ((giveAttr n s)) := by
  unfold giveAttr
  repeat' (first | exact Sub.trans (by decide) hm | intro _ | with_reducible assumption | with_reducible apply attrClear_frame | with_reducible apply modStn_frame | with_reducible apply Frame.ite | extract_lets | split)

theorem shareAttr_frame {fm : Nat} {s0 : State} (hm : Sub 0x11 fm) (s : State) (h : Frame fm s0 s) :
    Frame fm s0 ((shareAttr s)) := by
  unfold shareAttr
  repeat' (first | exact Sub.trans (by decide) hm | intro _ | with_reducible assumption | with_reducible apply giveAttr_frame | with_reducible apply Frame.foldl)

theorem ctrCtlWrite_frame {fm : Nat} {s0 : State} (hm : Sub 0x11 fm) (v : Nat) (s : State) (h : Frame fm s0 s) :
    Frame fm s0 ((ctrCtlWrite v s)) := by
  unfold ctrCtlWrite
  repeat' (first | exact Sub.trans (by decide) hm | intro _ | with_reducible assumption | with_reducible apply plainWrite_frame | with_reducible apply shareAttr_frame)

theorem attrCtxWrite_frame {fm : Nat} {s0 : State} (hm : Sub 0x11 fm) (i v : Nat) (s : State) (h : Frame fm s0 s) :
    Frame fm s0 ((attrCtxWrite i v s)) := by
  unfold attrCtxWrite
  repeat' (first | exact Sub.trans (by decide) hm | intro _ | with_reducible assumption | with_reducible apply shareAttr_frame | with_reducible apply State.wrN_frame)

theorem execStnPcCfgWrite_frame {fm : Nat} {s0 : State} (hm : Sub 0x231 fm) (id stn ctr value64 : Nat) (s : State) (h : Frame fm s0 s) :
    FrameO fm s0 (execStnPcCfgWrite id stn ctr value64 s) := by
  unfold execStnPcCfgWrite
  repeat' (first | with_reducible apply FrameO.act | with_reducible apply FrameO.ok | with_reducible apply FrameO.ite | exact Sub.trans (by decide) hm | intro _ | with_reducible assumption | with_reducible refine Frame.pair ‹_› ?_ | with_reducible apply configureCounter_frame | with_reducible apply State.fs_frame | with_reducible apply State.gate_frame | with_reducible apply Frame.ite | extract_lets | split)

theorem execStationCtrConfig_frame {fm : Nat} {s0 : State} (hm : Sub 0x10 fm) (stn : Nat) (s : State) (h : Frame fm s0 s) :
    FrameO fm s0 (execStationCtrConfig stn s) := by
  unfold execStationCtrConfig
  repeat' (first | with_reducible apply FrameO.act | with_reducible apply FrameO.ok | exact Sub.trans (by decide) hm | intro _ | with_reducible assumption | with_reducible refine takeInbox_frame ?_ _ _ _ _ ‹_› ?_ | with_reducible apply modStn_frame | extract_lets | split)

theorem execCounterConfigApply_frame {fm : Nat} {s0 : State} (hm : Sub 0x11 fm) (stn : Nat) (s : State) (h : Frame fm s0 s) :
    FrameO fm s0 (execCounterConfigApply stn s) := by
  unfold execCounterConfigApply
  repeat' (first | with_reducible apply FrameO.act | with_reducible apply FrameO.ok | exact Sub.trans (by decide) hm | intro _ | with_reducible assumption | with_reducible apply applyCfg_frame | with_reducible apply modStn_frame | with_reducible apply Frame.foldl | extract_lets)

theorem execStationCtrRead_frame {fm : Nat} {s0 : State} (hm : Sub 0x10 fm) (stn : Nat) (s : State) (h : Frame fm s0 s) :
    FrameO fm s0 (execStationCtrRead stn s) := by
  unfold execStationCtrRead
  repeat' (first | with_reducible apply FrameO.act | with_reducible apply FrameO.ok | exact Sub.trans (by decide) hm | intro _ | with_reducible assumption | with_reducible refine takeInbox_frame ?_ _ _ _ _ ‹_› ?_ | with_reducible apply addSample_frame | extract_lets | split)

theorem execStationCtrKeys_frame {fm : Nat} {s0 : State} (hm : Sub 0x10 fm) (stn : Nat) (s : State) (h : Frame fm s0 s) :
    FrameO fm s0 (execStationCtrKeys stn s) := by
  unfold execStationCtrKeys
  repeat' (first | with_reducible apply FrameO.act | with_reducible apply FrameO.ok | exact Sub.trans (by decide) hm | intro _ | with_reducible assumption | with_reducible refine takeInbox_frame ?_ _ _ _ _ ‹_› ?_ | with_reducible apply modStn_frame | extract_lets | split)

theorem execStationAttrDump_frame {fm : Nat} {s0 : State} (hm : Sub 0x10 fm) (stn : Nat) (s : State) (h : Frame fm s0 s) :
    FrameO fm s0 (execStationAttrDump stn s) := by
  unfold execStationAttrDump
  repeat' (first | with_reducible apply FrameO.act | with_reducible apply FrameO.ok | exact Sub.trans (by decide) hm | intro _ | with_reducible assumption | with_reducible refine takeInbox_frame ?_ _ _ _ _ ‹_› ?_ | with_reducible apply addSample_frame | extract_lets | split)

theorem execCounterSample_frame {fm : Nat} {s0 : State} (hm : Sub 0x211 fm) (stn : Nat) (s : State) (h : Frame fm s0 s) :
    FrameO fm s0 (execCounterSample stn s) := by
  unfold execCounterSample
  repeat' (first | with_reducible apply FrameO.act | with_reducible apply FrameO.ok | with_reducible apply FrameO.ite | exact Sub.trans (by decide) hm | intro _ | with_reducible assumption | with_reducible apply attrClear_frame | with_reducible apply modStn_frame | with_reducible apply noteCutSample_frame | with_reducible apply offerMsg_frame | with_reducible apply Frame.ite | with_reducible apply Frame.foldl | extract_lets | split)

theorem execCounterWrapNoteSend_frame {fm : Nat} {s0 : State} (hm : Sub 0x11 fm) (stn : Nat) (s : State) (h : Frame fm s0 s) :
    FrameO fm s0 (execCounterWrapNoteSend stn s) := by
  unfold execCounterWrapNoteSend
  repeat' (first | with_reducible apply FrameO.act | with_reducible apply FrameO.ok | with_reducible apply FrameO.ite | exact Sub.trans (by decide) hm | intro _ | with_reducible assumption | with_reducible apply sendNote_frame | with_reducible apply setStn_frame | with_reducible apply State.wrN_frame | with_reducible apply Frame.ite | extract_lets | split)

theorem execCounterWrapNoteArrival_frame {fm : Nat} {s0 : State} (hm : Sub 0x10011 fm) (stn : Nat) (s : State) (h : Frame fm s0 s) :
    FrameO fm s0 (execCounterWrapNoteArrival stn s) := by
  unfold execCounterWrapNoteArrival
  repeat' (first | with_reducible apply FrameO.act | with_reducible apply FrameO.ok | with_reducible apply FrameO.ite | exact Sub.trans (by decide) hm | intro _ | with_reducible assumption | with_reducible refine takeNote_frame ?_ _ _ _ ‹_› ?_ | with_reducible apply postEvent_frame | with_reducible apply Frame.ite | extract_lets | split)

theorem execCtrCtlWrite_frame {fm : Nat} {s0 : State} (hm : Sub 0x11 fm) (id value : Nat) (s : State) (h : Frame fm s0 s) :
    FrameO fm s0 (execCtrCtlWrite id value s) := by
  unfold execCtrCtlWrite
  repeat' (first | with_reducible apply FrameO.act | with_reducible apply FrameO.ok | exact Sub.trans (by decide) hm | intro _ | with_reducible assumption | with_reducible apply ctrCtlWrite_frame | with_reducible apply State.gate_frame)

theorem execAttrCtxEnWrite_frame {fm : Nat} {s0 : State} (hm : Sub 0x11 fm) (id index8 value : Nat) (s : State) (h : Frame fm s0 s) :
    FrameO fm s0 (execAttrCtxEnWrite id index8 value s) := by
  unfold execAttrCtxEnWrite
  repeat' (first | with_reducible apply FrameO.act | with_reducible apply FrameO.ok | exact Sub.trans (by decide) hm | intro _ | with_reducible assumption | with_reducible apply attrCtxWrite_frame | with_reducible apply State.gate_frame)

/-! ### Trace -/

theorem clearRing_frame {fm : Nat} {s0 : State} (hm : Sub 0x401 fm) (s : State) (h : Frame fm s0 s) :
    Frame fm s0 ((clearRing s)) := by
  unfold clearRing
  repeat' (first | exact Sub.trans (by decide) hm | intro _ | with_reducible assumption | with_reducible apply centralSync_frame | with_reducible apply State.fs_frame | with_reducible apply modTrc_frame | with_reducible apply showTrcPtrs_frame | with_reducible apply State.wrN_frame | with_reducible apply Frame.ite | extract_lets | split | (show Memory.wf [] = true; rfl) | (show Memory.wf _ = true; assumption))

theorem sendPorts_frame {fm : Nat} {s0 : State} (hm : Sub 0x30 fm) (n : Nat) (s : State) (h : Frame fm s0 s) :
    Frame fm s0 ((sendPorts n s)) := by
  unfold sendPorts
  repeat' (first | exact Sub.trans (by decide) hm | intro _ | with_reducible assumption | with_reducible apply sendTraceCmd_frame)

theorem sendCmp_frame {fm : Nat} {s0 : State} (hm : Sub 0x30 fm) (group target c : Nat) (s : State) (h : Frame fm s0 s) :
    Frame fm s0 ((sendCmp group target c s)) := by
  unfold sendCmp
  repeat' (first | exact Sub.trans (by decide) hm | intro _ | with_reducible assumption | with_reducible apply sendTraceCmd_frame)

theorem sendCtx_frame {fm : Nat} {s0 : State} (hm : Sub 0x30 fm) (group target : Nat) (s : State) (h : Frame fm s0 s) :
    Frame fm s0 ((sendCtx group target s)) := by
  unfold sendCtx
  repeat' (first | exact Sub.trans (by decide) hm | intro _ | with_reducible assumption | with_reducible apply sendTraceCmd_frame)

theorem sendParam_frame {fm : Nat} {s0 : State} (hm : Sub 0x30 fm) (group target : Nat) (s : State) (h : Frame fm s0 s) :
    Frame fm s0 ((sendParam group target s)) := by
  unfold sendParam
  repeat' (first | exact Sub.trans (by decide) hm | intro _ | with_reducible assumption | with_reducible apply sendTraceCmd_frame)

theorem resendTrace_frame {fm : Nat} {s0 : State} (hm : Sub 0x30 fm) (n : Nat) (s : State) (h : Frame fm s0 s) :
    Frame fm s0 ((resendTrace n s)) := by
  unfold resendTrace
  repeat' (first | exact Sub.trans (by decide) hm | intro _ | with_reducible assumption | with_reducible apply sendCmp_frame | with_reducible apply sendCtx_frame | with_reducible apply sendParam_frame | with_reducible apply sendPorts_frame | with_reducible apply Frame.foldl)

theorem passToTenant_frame {fm : Nat} {s0 : State} (hm : Sub 0x431 fm) (s : State) (h : Frame fm s0 s) :
    Frame fm s0 ((passToTenant s)) := by
  unfold passToTenant
  repeat' (first | exact Sub.trans (by decide) hm | intro _ | with_reducible assumption | with_reducible apply clearRing_frame | with_reducible apply modTrc_frame | with_reducible apply sendCmp_frame | with_reducible apply sendCtx_frame | with_reducible apply sendPorts_frame | with_reducible apply State.wr_frame | with_reducible apply State.wrWords_frame | with_reducible apply Frame.foldl | extract_lets | (show Memory.wf [] = true; rfl) | (show Memory.wf _ = true; assumption))

theorem takeRing_frame {fm : Nat} {s0 : State} (hm : Sub 0x431 fm) (id cls : Nat) (s : State) (h : Frame fm s0 s) :
    Frame fm s0 ((takeRing id cls s)) := by
  unfold takeRing
  repeat' (first | exact Sub.trans (by decide) hm | intro _ | with_reducible assumption | with_reducible apply State.fs_frame | with_reducible apply passToTenant_frame | with_reducible apply Frame.ite | extract_lets | split)

theorem trcGate_frame {fm : Nat} {s0 : State} (hm : Sub 0x431 fm) (id a : Nat) (f : Bool → State → State) (s : State) (hf : ∀ (x0 : Bool) (x1 : State), Frame fm s0 x1 → Frame fm s0 ((f x0 x1))) (h : Frame fm s0 s) :
    Frame fm s0 ((trcGate id a f s)) := by
  unfold trcGate
  repeat' (first | exact Sub.trans (by decide) hm | intro _ | with_reducible assumption | with_reducible apply hf | with_reducible apply refuseAccess_frame | with_reducible apply takeRing_frame | with_reducible apply Frame.ite | extract_lets | split)

theorem trcCtlWrite_frame {fm : Nat} {s0 : State} (hm : Sub 0x10431 fm) (v : Nat) (ten : Bool) (s : State) (h : Frame fm s0 s) :
    Frame fm s0 ((trcCtlWrite v ten s)) := by
  unfold trcCtlWrite
  repeat' (first | exact Sub.trans (by decide) hm | intro _ | with_reducible assumption | with_reducible apply clearRing_frame | with_reducible apply freezeRing_frame | with_reducible apply sendParam_frame | with_reducible apply State.wrN_frame | with_reducible apply Frame.ite | extract_lets | split)

theorem trcPortWrite_frame {fm : Nat} {s0 : State} (hm : Sub 0x430 fm) (p v : Nat) (ten : Bool) (s : State) (h : Frame fm s0 s) :
    Frame fm s0 ((trcPortWrite p v ten s)) := by
  unfold trcPortWrite
  repeat' (first | exact Sub.trans (by decide) hm | intro _ | with_reducible assumption | with_reducible apply modTrc_frame | with_reducible apply sendPorts_frame | with_reducible apply Frame.ite | extract_lets | split | (show Memory.wf _ = true; assumption))

theorem trcCmpWrite_frame {fm : Nat} {s0 : State} (hm : Sub 0x31 fm) (c w v : Nat) (ten : Bool) (s : State) (h : Frame fm s0 s) :
    Frame fm s0 ((trcCmpWrite c w v ten s)) := by
  unfold trcCmpWrite
  repeat' (first | exact Sub.trans (by decide) hm | intro _ | with_reducible assumption | with_reducible apply sendCmp_frame | with_reducible apply State.wrN_frame | with_reducible apply Frame.ite | split)

theorem trcCmpReg_frame {fm : Nat} {s0 : State} (hm : Sub 0x33 fm) (id c w v : Nat) (ten : Bool) (s : State) (h : Frame fm s0 s) :
    Frame fm s0 ((trcCmpReg id c w v ten s)) := by
  unfold trcCmpReg
  repeat' (first | exact Sub.trans (by decide) hm | intro _ | with_reducible assumption | with_reducible apply dropWide_frame | with_reducible apply holdWide_frame | with_reducible apply trcCmpWrite_frame | with_reducible apply Frame.ite | extract_lets | split)

theorem trcCtxWrite_frame {fm : Nat} {s0 : State} (hm : Sub 0x31 fm) (id i v : Nat) (ten : Bool) (s : State) (h : Frame fm s0 s) :
    Frame fm s0 ((trcCtxWrite id i v ten s)) := by
  unfold trcCtxWrite
  repeat' (first | exact Sub.trans (by decide) hm | intro _ | with_reducible assumption | with_reducible apply sendCtx_frame | with_reducible apply State.wrN_frame | with_reducible apply Frame.ite | split)

theorem trcLlWrite_frame {fm : Nat} {s0 : State} (hm : Sub 0x31 fm) (v : Nat) (ten : Bool) (s : State) (h : Frame fm s0 s) :
    Frame fm s0 ((trcLlWrite v ten s)) := by
  unfold trcLlWrite
  repeat' (first | exact Sub.trans (by decide) hm | intro _ | with_reducible assumption | with_reducible apply sendParam_frame | with_reducible apply State.wrN_frame | with_reducible apply Frame.ite | extract_lets | split)

theorem trcRdWrite_frame {fm : Nat} {s0 : State} (hm : Sub 0x401 fm) (v : Nat) (ten : Bool) (s : State) (h : Frame fm s0 s) :
    Frame fm s0 ((trcRdWrite v ten s)) := by
  unfold trcRdWrite
  repeat' (first | exact Sub.trans (by decide) hm | intro _ | with_reducible assumption | with_reducible apply freeDrained_frame | with_reducible apply modTrc_frame | with_reducible apply showTrcPtrs_frame | with_reducible apply Frame.ite | extract_lets | split | (show Memory.wf _ = true; assumption))

theorem armSeq_frame {fm : Nat} {s0 : State} (hm : Sub 0x401 fm) (s : State) (h : Frame fm s0 s) :
    Frame fm s0 ((armSeq s)) := by
  unfold armSeq
  repeat' (first | exact Sub.trans (by decide) hm | intro _ | with_reducible assumption | with_reducible apply State.fs_frame | with_reducible apply modTrc_frame | with_reducible apply setCapture_frame | with_reducible apply State.wr_frame | with_reducible apply Frame.ite | extract_lets | split | (show Memory.wf [] = true; rfl) | (show Memory.wf _ = true; assumption))

theorem disarmSeq_frame {fm : Nat} {s0 : State} (hm : Sub 0x401 fm) (s : State) (h : Frame fm s0 s) :
    Frame fm s0 ((disarmSeq s)) := by
  unfold disarmSeq
  repeat' (first | exact Sub.trans (by decide) hm | intro _ | with_reducible assumption | with_reducible apply State.fs_frame | with_reducible apply modTrc_frame | with_reducible apply setCapture_frame | extract_lets | (show Memory.wf [] = true; rfl) | (show Memory.wf _ = true; assumption))

theorem seqCtlWrite_frame {fm : Nat} {s0 : State} (hm : Sub 0x401 fm) (v : Nat) (s : State) (h : Frame fm s0 s) :
    Frame fm s0 ((seqCtlWrite v s)) := by
  unfold seqCtlWrite
  repeat' (first | exact Sub.trans (by decide) hm | intro _ | with_reducible assumption | with_reducible apply armSeq_frame | with_reducible apply disarmSeq_frame | with_reducible apply State.fs_frame | with_reducible apply Frame.ite | extract_lets | split)

theorem trcRegWrite_frame {fm : Nat} {s0 : State} (hm : Sub 0x10433 fm) (id a v : Nat) (ten : Bool) (s : State) (h : Frame fm s0 s) :
    Frame fm s0 ((trcRegWrite id a v ten s)) := by
  unfold trcRegWrite
  repeat' (first | exact Sub.trans (by decide) hm | intro _ | with_reducible assumption | with_reducible apply plainWrite_frame | with_reducible apply seqCtlWrite_frame | with_reducible apply trcCmpReg_frame | with_reducible apply trcCtlWrite_frame | with_reducible apply trcCtxWrite_frame | with_reducible apply trcLlWrite_frame | with_reducible apply trcPortWrite_frame | with_reducible apply trcRdWrite_frame | with_reducible apply Frame.ite | extract_lets | split)

theorem ruleActions_frame {fm : Nat} {s0 : State} (hm : Sub 0x1010401 fm) (st r : Nat) (e : SeqEvent) (s : State) (h : Frame fm s0 s) :
    Frame fm s0 ((ruleActions st r e s)) := by
  unfold ruleActions
  repeat' (first | exact Sub.trans (by decide) hm | intro _ | with_reducible assumption | with_reducible apply State.fs_frame | with_reducible apply setCapture_frame | with_reducible apply triggerAction_frame | with_reducible apply State.wr_frame | with_reducible apply State.wrN_frame | with_reducible apply Frame.ite | extract_lets | split)

theorem fireTime_frame {fm : Nat} {s0 : State} (hm : Sub 0x400 fm) (c : Nat) (s : State) (h : Frame fm s0 s) :
    Frame fm s0 ((fireTime c s)) := by
  unfold fireTime
  repeat' (first | exact Sub.trans (by decide) hm | intro _ | with_reducible assumption | with_reducible apply modTrc_frame | with_reducible apply pushSeq_frame | with_reducible apply Frame.ite | extract_lets | split | (show Memory.wf _ = true; assumption))

theorem bringLoss_frame {fm : Nat} {s0 : State} (hm : Sub 0x400 fm) (stn : Nat) (l : Option Loss) (s : State) (h : Frame fm s0 s) :
    Frame fm s0 ((bringLoss stn l s)) := by
  unfold bringLoss
  repeat' (first | exact Sub.trans (by decide) hm | intro _ | with_reducible assumption | with_reducible apply modTrc_frame | extract_lets | split | (show Memory.wf _ = true; assumption))

theorem loseQueued_frame {fm : Nat} {s0 : State} (hm : Sub 0x401 fm) (stn : Nat) (s : State) (h : Frame fm s0 s) :
    Frame fm s0 ((loseQueued stn s)) := by
  unfold loseQueued
  repeat' (first | exact Sub.trans (by decide) hm | intro _ | with_reducible assumption | with_reducible apply State.fsat_frame | with_reducible apply modTrc_frame | extract_lets | split | (show Memory.wf _ = true; assumption))

theorem startPort_frame {fm : Nat} {s0 : State} (hm : Sub 0x11 fm) (stn p : Nat) (s : State) (h : Frame fm s0 s) :
    Frame fm s0 ((startPort stn p s)) := by
  unfold startPort
  repeat' (first | exact Sub.trans (by decide) hm | intro _ | with_reducible assumption | with_reducible apply portPacket_frame | with_reducible apply Frame.ite | extract_lets | split)

theorem applyAction_frame {fm : Nat} {s0 : State} (hm : Sub 0x91 fm) (stn : Nat) (run : Bool) (act : Nat) (s : State) (h : Frame fm s0 s) :
    Frame fm s0 ((applyAction stn run act s)) := by
  unfold applyAction
  repeat' (first | exact Sub.trans (by decide) hm | intro _ | with_reducible assumption | with_reducible apply closeTrace_frame | with_reducible apply State.fs_frame | with_reducible apply modStn_frame | with_reducible apply releaseHold_frame | with_reducible apply startPort_frame | with_reducible apply syncStn_frame | with_reducible apply Frame.ite | with_reducible apply Frame.foldl | extract_lets | split)

theorem pendTrace_frame {fm : Nat} {s0 : State} (hm : Sub 0x10 fm) (n sub : Nat) (s : State) (h : Frame fm s0 s) :
    Frame fm s0 ((pendTrace n sub s)) := by
  unfold pendTrace
  repeat' (first | exact Sub.trans (by decide) hm | intro _ | with_reducible assumption | with_reducible refine takeInbox_frame ?_ _ _ _ _ ‹_› ?_ | with_reducible apply modStn_frame | extract_lets | split)

theorem applyTrace_frame {fm : Nat} {s0 : State} (hm : Sub 0x91 fm) (n sub : Nat) (ws : List Nat) (s : State) (h : Frame fm s0 s) :
    Frame fm s0 ((applyTrace n sub ws s)) := by
  unfold applyTrace
  repeat' (first | exact Sub.trans (by decide) hm | intro _ | with_reducible assumption | with_reducible apply modStn_frame | with_reducible apply releaseHold_frame | with_reducible apply Frame.ite | with_reducible apply Frame.foldl | extract_lets | split)

theorem execTrcCtlWrite_frame {fm : Nat} {s0 : State} (hm : Sub 0x10431 fm) (id value : Nat) (s : State) (h : Frame fm s0 s) :
    FrameO fm s0 (execTrcCtlWrite id value s) := by
  unfold execTrcCtlWrite
  repeat' (first | with_reducible apply FrameO.act | with_reducible apply FrameO.ok | exact Sub.trans (by decide) hm | intro _ | with_reducible assumption | with_reducible apply trcCtlWrite_frame | with_reducible apply trcGate_frame)

theorem execTrcFreeze_frame {fm : Nat} {s0 : State} (hm : Sub 0x10431 fm) (id : Nat) (s : State) (h : Frame fm s0 s) :
    FrameO fm s0 (execTrcFreeze id s) := by
  unfold execTrcFreeze
  repeat' (first | with_reducible apply FrameO.act | with_reducible apply FrameO.ok | with_reducible apply FrameO.ite | exact Sub.trans (by decide) hm | intro _ | with_reducible assumption | with_reducible apply freezeRing_frame | with_reducible apply trcGate_frame | with_reducible apply Frame.ite | split)

theorem execTrcClear_frame {fm : Nat} {s0 : State} (hm : Sub 0x431 fm) (id : Nat) (s : State) (h : Frame fm s0 s) :
    FrameO fm s0 (execTrcClear id s) := by
  unfold execTrcClear
  repeat' (first | with_reducible apply FrameO.act | with_reducible apply FrameO.ok | with_reducible apply FrameO.ite | exact Sub.trans (by decide) hm | intro _ | with_reducible assumption | with_reducible apply clearRing_frame | with_reducible apply trcGate_frame | with_reducible apply Frame.ite | split)

theorem execTrcPortWrite_frame {fm : Nat} {s0 : State} (hm : Sub 0x431 fm) (id port value : Nat) (s : State) (h : Frame fm s0 s) :
    FrameO fm s0 (execTrcPortWrite id port value s) := by
  unfold execTrcPortWrite
  repeat' (first | with_reducible apply FrameO.act | with_reducible apply FrameO.ok | exact Sub.trans (by decide) hm | intro _ | with_reducible assumption | with_reducible apply trcGate_frame | with_reducible apply trcPortWrite_frame)

theorem execTrcCmpWrite_frame {fm : Nat} {s0 : State} (hm : Sub 0x433 fm) (id cmp word value : Nat) (s : State) (h : Frame fm s0 s) :
    FrameO fm s0 (execTrcCmpWrite id cmp word value s) := by
  unfold execTrcCmpWrite
  repeat' (first | with_reducible apply FrameO.act | with_reducible apply FrameO.ok | exact Sub.trans (by decide) hm | intro _ | with_reducible assumption | with_reducible apply trcCmpReg_frame | with_reducible apply trcGate_frame)

theorem execTrcCtxEnWrite_frame {fm : Nat} {s0 : State} (hm : Sub 0x431 fm) (id index8 value : Nat) (s : State) (h : Frame fm s0 s) :
    FrameO fm s0 (execTrcCtxEnWrite id index8 value s) := by
  unfold execTrcCtxEnWrite
  repeat' (first | with_reducible apply FrameO.act | with_reducible apply FrameO.ok | exact Sub.trans (by decide) hm | intro _ | with_reducible assumption | with_reducible apply trcCtxWrite_frame | with_reducible apply trcGate_frame)

theorem execTrcLlWrite_frame {fm : Nat} {s0 : State} (hm : Sub 0x431 fm) (id value : Nat) (s : State) (h : Frame fm s0 s) :
    FrameO fm s0 (execTrcLlWrite id value s) := by
  unfold execTrcLlWrite
  repeat' (first | with_reducible apply FrameO.act | with_reducible apply FrameO.ok | exact Sub.trans (by decide) hm | intro _ | with_reducible assumption | with_reducible apply trcGate_frame | with_reducible apply trcLlWrite_frame)

theorem execTrcRdWrite_frame {fm : Nat} {s0 : State} (hm : Sub 0x431 fm) (id value : Nat) (s : State) (h : Frame fm s0 s) :
    FrameO fm s0 (execTrcRdWrite id value s) := by
  unfold execTrcRdWrite
  repeat' (first | with_reducible apply FrameO.act | with_reducible apply FrameO.ok | exact Sub.trans (by decide) hm | intro _ | with_reducible assumption | with_reducible apply trcGate_frame | with_reducible apply trcRdWrite_frame)

theorem execSeqArm_frame {fm : Nat} {s0 : State} (hm : Sub 0x431 fm) (id : Nat) (s : State) (h : Frame fm s0 s) :
    FrameO fm s0 (execSeqArm id s) := by
  unfold execSeqArm
  repeat' (first | with_reducible apply FrameO.act | with_reducible apply FrameO.ok | exact Sub.trans (by decide) hm | intro _ | with_reducible assumption | with_reducible apply armSeq_frame | with_reducible apply trcGate_frame)

theorem execSeqDisarm_frame {fm : Nat} {s0 : State} (hm : Sub 0x431 fm) (id : Nat) (s : State) (h : Frame fm s0 s) :
    FrameO fm s0 (execSeqDisarm id s) := by
  unfold execSeqDisarm
  repeat' (first | with_reducible apply FrameO.act | with_reducible apply FrameO.ok | exact Sub.trans (by decide) hm | intro _ | with_reducible assumption | with_reducible apply disarmSeq_frame | with_reducible apply trcGate_frame)

theorem execSequencerEvent_frame {fm : Nat} {s0 : State} (hm : Sub 0x1010401 fm) (s : State) (h : Frame fm s0 s) :
    FrameO fm s0 (execSequencerEvent s) := by
  unfold execSequencerEvent
  repeat' (first | with_reducible apply FrameO.act | with_reducible apply FrameO.ok | with_reducible apply FrameO.ite | exact Sub.trans (by decide) hm | intro _ | with_reducible assumption | with_reducible apply State.fsat_frame | with_reducible apply modTrc_frame | with_reducible apply ruleActions_frame | with_reducible apply Frame.ite | extract_lets | split | (show Memory.wf _ = true; assumption))

theorem execTimeComparatorMatch_frame {fm : Nat} {s0 : State} (hm : Sub 0x400 fm) (s : State) (h : Frame fm s0 s) :
    FrameO fm s0 (execTimeComparatorMatch s) := by
  unfold execTimeComparatorMatch
  repeat' (first | with_reducible apply FrameO.act | with_reducible apply FrameO.ok | with_reducible apply FrameO.ite | exact Sub.trans (by decide) hm | intro _ | with_reducible assumption | with_reducible apply fireTime_frame | with_reducible apply Frame.ite | with_reducible apply Frame.foldl | split)

theorem execTriggerNoteSend_frame {fm : Nat} {s0 : State} (hm : Sub 0x10 fm) (stn : Nat) (s : State) (h : Frame fm s0 s) :
    FrameO fm s0 (execTriggerNoteSend stn s) := by
  unfold execTriggerNoteSend
  repeat' (first | with_reducible apply FrameO.act | with_reducible apply FrameO.ok | with_reducible apply FrameO.ite | exact Sub.trans (by decide) hm | intro _ | with_reducible assumption | with_reducible apply sendNote_frame | with_reducible apply setStn_frame | with_reducible apply Frame.ite | extract_lets | split)

theorem execTriggerNoteArrival_frame {fm : Nat} {s0 : State} (hm : Sub 0x410 fm) (stn : Nat) (s : State) (h : Frame fm s0 s) :
    FrameO fm s0 (execTriggerNoteArrival stn s) := by
  unfold execTriggerNoteArrival
  repeat' (first | with_reducible apply FrameO.act | with_reducible apply FrameO.ok | exact Sub.trans (by decide) hm | intro _ | with_reducible assumption | with_reducible refine takeNote_frame ?_ _ _ _ ‹_› ?_ | with_reducible apply pushSeq_frame | with_reducible apply Frame.foldl | extract_lets | split)

theorem execCentralBatchWrite_frame {fm : Nat} {s0 : State} (hm : Sub 0x1010401 fm) (s : State) (h : Frame fm s0 s) :
    FrameO fm s0 (execCentralBatchWrite s) := by
  unfold execCentralBatchWrite
  repeat' (first | with_reducible apply FrameO.act | with_reducible apply FrameO.ok | exact Sub.trans (by decide) hm | intro _ | with_reducible assumption | with_reducible apply writeBatch_frame)

theorem execTraceMessageArrival_frame {fm : Nat} {s0 : State} (hm : Sub 0x1010431 fm) (stn : Nat) (s : State) (h : Frame fm s0 s) :
    FrameO fm s0 (execTraceMessageArrival stn s) := by
  unfold execTraceMessageArrival
  repeat' (first | with_reducible apply FrameO.act | with_reducible apply FrameO.ok | with_reducible apply FrameO.ite | exact Sub.trans (by decide) hm | intro _ | with_reducible assumption | with_reducible refine takeAir_frame ?_ _ _ _ ‹_› ?_ | with_reducible apply bringLoss_frame | with_reducible apply loseQueued_frame | with_reducible apply modTrc_frame | with_reducible apply writeStationBlock_frame | with_reducible apply Frame.ite | extract_lets | split | (show Memory.wf _ = true; assumption))

theorem execTraceMessageFlush_frame {fm : Nat} {s0 : State} (hm : Sub 0x11 fm) (stn : Nat) (s : State) (h : Frame fm s0 s) :
    FrameO fm s0 (execTraceMessageFlush stn s) := by
  unfold execTraceMessageFlush
  repeat' (first | with_reducible apply FrameO.act | with_reducible apply FrameO.ok | with_reducible apply FrameO.ite | exact Sub.trans (by decide) hm | intro _ | with_reducible assumption | with_reducible apply closeTrace_frame | with_reducible apply Frame.ite | extract_lets | split)

theorem execCaptureStateApply_frame {fm : Nat} {s0 : State} (hm : Sub 0x91 fm) (stn : Nat) (s : State) (h : Frame fm s0 s) :
    FrameO fm s0 (execCaptureStateApply stn s) := by
  unfold execCaptureStateApply
  repeat' (first | with_reducible apply FrameO.act | with_reducible apply FrameO.ok | exact Sub.trans (by decide) hm | intro _ | with_reducible assumption | with_reducible apply applyAction_frame | with_reducible apply modStn_frame | with_reducible apply Frame.foldl | extract_lets)

theorem execStationTracePorts_frame {fm : Nat} {s0 : State} (hm : Sub 0x10 fm) (stn : Nat) (s : State) (h : Frame fm s0 s) :
    FrameO fm s0 (execStationTracePorts stn s) := by
  unfold execStationTracePorts
  repeat' (first | with_reducible apply FrameO.act | with_reducible apply FrameO.ok | exact Sub.trans (by decide) hm | intro _ | with_reducible assumption | with_reducible apply pendTrace_frame)

theorem execStationTraceCmp_frame {fm : Nat} {s0 : State} (hm : Sub 0x10 fm) (stn : Nat) (s : State) (h : Frame fm s0 s) :
    FrameO fm s0 (execStationTraceCmp stn s) := by
  unfold execStationTraceCmp
  repeat' (first | with_reducible apply FrameO.act | with_reducible apply FrameO.ok | exact Sub.trans (by decide) hm | intro _ | with_reducible assumption | with_reducible apply pendTrace_frame)

theorem execStationTraceCtx_frame {fm : Nat} {s0 : State} (hm : Sub 0x10 fm) (stn : Nat) (s : State) (h : Frame fm s0 s) :
    FrameO fm s0 (execStationTraceCtx stn s) := by
  unfold execStationTraceCtx
  repeat' (first | with_reducible apply FrameO.act | with_reducible apply FrameO.ok | exact Sub.trans (by decide) hm | intro _ | with_reducible assumption | with_reducible apply pendTrace_frame)

theorem execStationTraceParam_frame {fm : Nat} {s0 : State} (hm : Sub 0x10 fm) (stn : Nat) (s : State) (h : Frame fm s0 s) :
    FrameO fm s0 (execStationTraceParam stn s) := by
  unfold execStationTraceParam
  repeat' (first | with_reducible apply FrameO.act | with_reducible apply FrameO.ok | exact Sub.trans (by decide) hm | intro _ | with_reducible assumption | with_reducible apply pendTrace_frame)

theorem execStationTraceResync_frame {fm : Nat} {s0 : State} (hm : Sub 0x10 fm) (stn : Nat) (s : State) (h : Frame fm s0 s) :
    FrameO fm s0 (execStationTraceResync stn s) := by
  unfold execStationTraceResync
  repeat' (first | with_reducible apply FrameO.act | with_reducible apply FrameO.ok | exact Sub.trans (by decide) hm | intro _ | with_reducible assumption | with_reducible refine takeInbox_frame ?_ _ _ _ _ ‹_› ?_ | with_reducible apply syncStn_frame | extract_lets | split)

theorem execTraceConfigApply_frame {fm : Nat} {s0 : State} (hm : Sub 0x91 fm) (stn : Nat) (s : State) (h : Frame fm s0 s) :
    FrameO fm s0 (execTraceConfigApply stn s) := by
  unfold execTraceConfigApply
  repeat' (first | with_reducible apply FrameO.act | with_reducible apply FrameO.ok | exact Sub.trans (by decide) hm | intro _ | with_reducible assumption | with_reducible apply applyTrace_frame | with_reducible apply modStn_frame | with_reducible apply Frame.foldl | extract_lets)

/-! ### Reduce -/

theorem sendReduction_frame {fm : Nat} {s0 : State} (hm : Sub 0x30 fm) (s : State) (h : Frame fm s0 s) :
    Frame fm s0 ((sendReduction s)) := by
  unfold sendReduction
  repeat' (first | exact Sub.trans (by decide) hm | intro _ | with_reducible assumption | with_reducible apply sendDown_frame | with_reducible apply Frame.ite | (simp only [Frame_mk]; first | with_reducible apply FrameC.spine_upd) | extract_lets | split)

theorem requestReduction_frame {fm : Nat} {s0 : State} (hm : Sub 0x30 fm) (group target : Nat) (values : List RedValue) (use : RedUse) (s : State) (h : Frame fm s0 s) :
    Frame fm s0 ((requestReduction group target values use s)) := by
  unfold requestReduction
  repeat' (first | exact Sub.trans (by decide) hm | intro _ | with_reducible assumption | with_reducible apply sendReduction_frame | (simp only [Frame_mk]; first | with_reducible apply FrameC.spine_upd) | extract_lets)

theorem endReduceCmd_frame {fm : Nat} {s0 : State} (hm : Sub 0x30001 fm) (k : CmdKey) (ts : Nat) (values : List RedValue) (results : List (Nat × Nat)) (s : State) (h : Frame fm s0 s) :
    Frame fm s0 ((endReduceCmd k ts values results s)) := by
  unfold endReduceCmd
  repeat' (first | exact Sub.trans (by decide) hm | intro _ | with_reducible assumption | with_reducible apply finishWithBytes_frame | with_reducible apply Frame.ite | extract_lets | split)

theorem execStationReduceReq_frame {fm : Nat} {s0 : State} (hm : Sub 0x10 fm) (stn : Nat) (s : State) (h : Frame fm s0 s) :
    FrameO fm s0 (execStationReduceReq stn s) := by
  unfold execStationReduceReq
  repeat' (first | with_reducible apply FrameO.act | with_reducible apply FrameO.ok | with_reducible apply FrameO.ite | exact Sub.trans (by decide) hm | intro _ | with_reducible assumption | with_reducible refine takeInbox_frame ?_ _ _ _ _ ‹_› ?_ | with_reducible apply setStn_frame | with_reducible apply Frame.ite | extract_lets | split)

theorem execReducePartnerTimeout_frame {fm : Nat} {s0 : State} (hm : Sub 0x10 fm) (stn : Nat) (s : State) (h : Frame fm s0 s) :
    FrameO fm s0 (execReducePartnerTimeout stn s) := by
  unfold execReducePartnerTimeout
  repeat' (first | with_reducible apply FrameO.act | with_reducible apply FrameO.ok | exact Sub.trans (by decide) hm | intro _ | with_reducible assumption | with_reducible apply modStn_frame | extract_lets)

theorem execReductionSample_frame {fm : Nat} {s0 : State} (hm : Sub 0x31 fm) (s : State) (h : Frame fm s0 s) :
    FrameO fm s0 (execReductionSample s) := by
  unfold execReductionSample
  repeat' (first | with_reducible apply FrameO.act | with_reducible apply FrameO.awake | with_reducible apply FrameO.ok | with_reducible apply FrameO.ite | with_reducible apply FrameO.fault | exact Sub.trans (by decide) hm | intro _ | with_reducible assumption | with_reducible apply attrClear_frame | with_reducible apply modStn_frame | with_reducible apply Frame.refl | with_reducible apply Frame.ite | with_reducible apply Frame.when | with_reducible apply Frame.foldl | (simp only [Frame_mk]; first | with_reducible apply FrameC.spine_upd) | extract_lets | split | (show Memory.wf [] = true; rfl) | (apply memPutBytes_wf; assumption) | (apply ringPut_wf; assumption) | (show Memory.wf _ = true; assumption) | (dsimp +zetaDelta only))

/-! ### Stria -/

theorem modStria_frame {fm : Nat} {s0 : State} (hm : Sub 0x800 fm) (f : StriaState → StriaState) (s : State) (h : Frame fm s0 s) :
    Frame fm s0 ((modStria f s)) := by
  unfold modStria
  repeat' (first | exact Sub.trans (by decide) hm | intro _ | with_reducible assumption | (simp only [Frame_mk]; first | with_reducible apply FrameC.stria_upd) | extract_lets)

theorem showStria_frame {fm : Nat} {s0 : State} (hm : Sub 0x1 fm) (s : State) (h : Frame fm s0 s) :
    Frame fm s0 ((showStria s)) := by
  unfold showStria
  repeat' (first | exact Sub.trans (by decide) hm | intro _ | with_reducible assumption | with_reducible apply State.fs_frame | extract_lets)

theorem clearSlot_frame {fm : Nat} {s0 : State} (hm : Sub 0x801 fm) (i : Nat) (s : State) (h : Frame fm s0 s) :
    Frame fm s0 ((clearSlot i s)) := by
  unfold clearSlot
  repeat' (first | exact Sub.trans (by decide) hm | intro _ | with_reducible assumption | with_reducible apply State.fs_frame | with_reducible apply modStria_frame | extract_lets)

theorem markPerturbed_frame {fm : Nat} {s0 : State} (hm : Sub 0x801 fm) (s : State) (h : Frame fm s0 s) :
    Frame fm s0 ((markPerturbed s)) := by
  unfold markPerturbed
  repeat' (first | exact Sub.trans (by decide) hm | intro _ | with_reducible assumption | with_reducible apply State.fs_frame | with_reducible apply modStria_frame | with_reducible apply Frame.ite | with_reducible apply Frame.foldl | extract_lets | split)

theorem sendSlot_frame {fm : Nat} {s0 : State} (hm : Sub 0x30 fm) (copy : Bool) (group target f i : Nat) (s : State) (h : Frame fm s0 s) :
    Frame fm s0 ((sendSlot copy group target f i s)) := by
  unfold sendSlot
  repeat' (first | exact Sub.trans (by decide) hm | intro _ | with_reducible assumption | with_reducible apply sendDownAs_frame)

theorem armSlot_frame {fm : Nat} {s0 : State} (hm : Sub 0x831 fm) (i base owner : Nat) (cfg sel layer op hist : Nat) (s : State) (h : Frame fm s0 s) :
    Frame fm s0 ((armSlot i base owner cfg sel layer op hist s).2) := by
  unfold armSlot
  repeat' (first | exact Sub.trans (by decide) hm | intro _ | with_reducible assumption | with_reducible refine Frame.pair ‹_› ?_ | with_reducible apply clearSlot_frame | with_reducible apply State.fs_frame | with_reducible apply modStria_frame | with_reducible apply sendSlot_frame | with_reducible apply showStria_frame | with_reducible apply State.wrWords_frame | with_reducible apply Frame.ite | extract_lets | split)

theorem disarmSlot_frame {fm : Nat} {s0 : State} (hm : Sub 0x31 fm) (i : Nat) (free : Bool) (s : State) (h : Frame fm s0 s) :
    Frame fm s0 ((disarmSlot i free s).2) := by
  unfold disarmSlot
  repeat' (first | exact Sub.trans (by decide) hm | intro _ | with_reducible assumption | with_reducible refine Frame.pair ‹_› ?_ | with_reducible apply State.free_frame | with_reducible apply State.fs_frame | with_reducible apply sendSlot_frame | with_reducible apply showStria_frame | with_reducible apply Frame.ite | extract_lets | split)

theorem striaFrame_frame {fm : Nat} {s0 : State} (hm : Sub 0x10801 fm) (s : State) (h : Frame fm s0 s) :
    Frame fm s0 ((striaFrame s)) := by
  unfold striaFrame
  repeat' (first | exact Sub.trans (by decide) hm | intro _ | with_reducible assumption | with_reducible apply clearSlot_frame | with_reducible apply completeCmd_frame | with_reducible apply modStria_frame | with_reducible apply Frame.foldl | extract_lets | split)

theorem settleStn_frame {fm : Nat} {s0 : State} (hm : Sub 0x11 fm) (n f slot first cnt rtag : Nat) (s : State) (h : Frame fm s0 s) :
    Frame fm s0 ((settleStn n f slot first cnt rtag s)) := by
  unfold settleStn
  repeat' (first | exact Sub.trans (by decide) hm | intro _ | with_reducible assumption | with_reducible apply absorbPair_frame | with_reducible apply modStn_frame | with_reducible apply offerMsg_frame | with_reducible apply setStn_frame | with_reducible apply Frame.ite | with_reducible apply Frame.foldl | extract_lets | split)

theorem returnHeld_frame {fm : Nat} {s0 : State} (hm : Sub 0x10 fm) (n : Nat) (e : StnEntry) (s : State) (h : Frame fm s0 s) :
    Frame fm s0 ((returnHeld n e s)) := by
  unfold returnHeld
  repeat' (first | exact Sub.trans (by decide) hm | intro _ | with_reducible assumption | with_reducible apply offerMsg_frame | with_reducible apply setStn_frame | with_reducible apply Frame.ite | extract_lets | split)

theorem mergeStore_frame {fm : Nat} {s0 : State} (hm : Sub 0x800 fm) (slot cell : Nat) (c : Cell) (s : State) (h : Frame fm s0 s) :
    Frame fm s0 ((mergeStore slot cell c s)) := by
  unfold mergeStore
  repeat' (first | exact Sub.trans (by decide) hm | intro _ | with_reducible assumption | with_reducible apply modStria_frame | with_reducible apply Frame.ite | extract_lets | split)

theorem mergeTile_frame {fm : Nat} {s0 : State} (hm : Sub 0x801 fm) (m : UpMsg) (s : State) (h : Frame fm s0 s) :
    Frame fm s0 ((mergeTile m s)) := by
  unfold mergeTile
  repeat' (first | exact Sub.trans (by decide) hm | intro _ | with_reducible assumption | with_reducible apply State.fs_frame | with_reducible apply State.fsat_frame | with_reducible apply mergeStore_frame | with_reducible apply modStria_frame | with_reducible apply Frame.ite | with_reducible apply Frame.foldl | extract_lets | split)

theorem nextCells_frame {fm : Nat} {s0 : State} (hm : Sub 0x30 fm) (r : StriaRead) (s : State) (h : Frame fm s0 s) :
    Frame fm s0 ((nextCells r s)) := by
  unfold nextCells
  repeat' (first | exact Sub.trans (by decide) hm | intro _ | with_reducible assumption | with_reducible apply requestReduction_frame | extract_lets)

theorem finishStriaCmd_frame {fm : Nat} {s0 : State} (hm : Sub 0x10001 fm) (k : CmdKey) (slot flags ts : Nat) (s : State) (h : Frame fm s0 s) :
    Frame fm s0 ((finishStriaCmd k slot flags ts s)) := by
  unfold finishStriaCmd
  repeat' (first | exact Sub.trans (by decide) hm | intro _ | with_reducible assumption | with_reducible apply completeCmd_frame | with_reducible apply postEvent_frame | with_reducible apply Frame.ite | extract_lets | split)

theorem writeStriaResult_frame {fm : Nat} {s0 : State} (hm : Sub 0x30001 fm) (k : CmdKey) (slot flags ts : Nat) (bytes : List Nat) (s : State) (h : Frame fm s0 s) :
    Frame fm s0 ((writeStriaResult k slot flags ts bytes s)) := by
  unfold writeStriaResult
  repeat' (first | exact Sub.trans (by decide) hm | intro _ | with_reducible assumption | with_reducible apply finishStriaCmd_frame | with_reducible apply hostWriteBytes_frame | with_reducible apply modCmd_frame | with_reducible apply Frame.ite | extract_lets | split)

theorem concludeRead_frame {fm : Nat} {s0 : State} (hm : Sub 0x2032831 fm) (r : StriaRead) (s : State) (h : Frame fm s0 s) :
    Frame fm s0 ((concludeRead r s)) := by
  unfold concludeRead
  repeat' (first | exact Sub.trans (by decide) hm | intro _ | with_reducible assumption | with_reducible refine Frame.pair ‹_› ?_ | with_reducible apply State.fs_frame | with_reducible apply mergeTile_frame | with_reducible apply modStria_frame | with_reducible apply sampleTsOf_frame | with_reducible apply sendDown_frame | with_reducible apply writeStriaResult_frame | with_reducible apply Frame.ite | with_reducible apply Frame.foldl | (simp only [Frame_mk]; first | with_reducible apply FrameC.lehr_upd) | extract_lets | split)

theorem startRead_frame {fm : Nat} {s0 : State} (hm : Sub 0x2032831 fm) (r : StriaRead) (s : State) (h : Frame fm s0 s) :
    Frame fm s0 ((startRead r s).2) := by
  unfold startRead
  repeat' (first | exact Sub.trans (by decide) hm | intro _ | with_reducible assumption | with_reducible refine Frame.pair ‹_› ?_ | with_reducible apply concludeRead_frame | with_reducible apply modStria_frame | with_reducible apply sendDown_frame | with_reducible apply Frame.ite | extract_lets | split)

theorem fencesDone_frame {fm : Nat} {s0 : State} (hm : Sub 0x2032831 fm) (r : StriaRead) (s : State) (h : Frame fm s0 s) :
    Frame fm s0 ((fencesDone r s)) := by
  unfold fencesDone
  repeat' (first | exact Sub.trans (by decide) hm | intro _ | with_reducible assumption | with_reducible apply concludeRead_frame | with_reducible apply modStria_frame | with_reducible apply nextCells_frame | with_reducible apply Frame.ite | extract_lets | split)

theorem armCmd_frame {fm : Nat} {s0 : State} (hm : Sub 0x10831 fm) (k : CmdKey) (s : State) (h : Frame fm s0 s) :
    Frame fm s0 ((armCmd k s)) := by
  unfold armCmd
  repeat' (first | exact Sub.trans (by decide) hm | intro _ | with_reducible assumption | with_reducible refine Frame.pair ‹_› ?_ | with_reducible apply armSlot_frame | with_reducible apply completeCmd_frame | with_reducible apply modCmd_frame | with_reducible apply modStria_frame | extract_lets | split)

theorem disarmCmd_frame {fm : Nat} {s0 : State} (hm : Sub 0x10831 fm) (k : CmdKey) (s : State) (h : Frame fm s0 s) :
    Frame fm s0 ((disarmCmd k s)) := by
  unfold disarmCmd
  repeat' (first | exact Sub.trans (by decide) hm | intro _ | with_reducible assumption | with_reducible refine Frame.pair ‹_› ?_ | with_reducible apply completeCmd_frame | with_reducible apply disarmSlot_frame | with_reducible apply modCmd_frame | with_reducible apply modStria_frame | extract_lets | split)

theorem changeSlot_frame {fm : Nat} {s0 : State} (hm : Sub 0x10831 fm) (k : CmdKey) (s : State) (h : Frame fm s0 s) :
    Frame fm s0 ((changeSlot k s)) := by
  unfold changeSlot
  repeat' (first | exact Sub.trans (by decide) hm | intro _ | with_reducible assumption | with_reducible apply armCmd_frame | with_reducible apply disarmCmd_frame | with_reducible apply modStria_frame | with_reducible apply Frame.ite | extract_lets | split)

theorem pumpReads_frame {fm : Nat} {s0 : State} (hm : Sub 0x2032831 fm) (z0 : Nat) (z1 : State) (h : Frame fm s0 z1) :
    Frame fm s0 ((pumpReads z0 z1)) := by
  induction z0 generalizing z1 with
  | zero =>
    unfold pumpReads
    repeat' (first | exact Sub.trans (by decide) hm | intro _ | with_reducible assumption | with_reducible refine Frame.pair ‹_› ?_ | with_reducible apply modStria_frame | with_reducible apply startRead_frame | extract_lets | split)
  | succ k ih =>
    unfold pumpReads
    repeat' (first | exact Sub.trans (by decide) hm | intro _ | with_reducible assumption | with_reducible apply ih | with_reducible refine Frame.pair ‹_› ?_ | with_reducible apply modStria_frame | with_reducible apply startRead_frame | extract_lets | split)

theorem afterRead_frame {fm : Nat} {s0 : State} (hm : Sub 0x2032831 fm) (s : State) (h : Frame fm s0 s) :
    Frame fm s0 ((afterRead s)) := by
  unfold afterRead
  repeat' (first | exact Sub.trans (by decide) hm | intro _ | with_reducible assumption | with_reducible apply changeSlot_frame | with_reducible apply modStria_frame | with_reducible apply pumpReads_frame | with_reducible apply showStria_frame | with_reducible apply Frame.ite | with_reducible apply Frame.foldl | extract_lets | split)

theorem askRead_frame {fm : Nat} {s0 : State} (hm : Sub 0x2032831 fm) (slot first n : Nat) (clear : Bool) (cmd : Option CmdKey) (s : State) (h : Frame fm s0 s) :
    Frame fm s0 ((askRead slot first n clear cmd s)) := by
  unfold askRead
  repeat' (first | exact Sub.trans (by decide) hm | intro _ | with_reducible assumption | with_reducible apply afterRead_frame | with_reducible apply modStria_frame | extract_lets)

theorem striaReduced_frame {fm : Nat} {s0 : State} (hm : Sub 0x2032831 fm) (rtag : Nat) (cells : List Nat) (results : List (Nat × Nat)) (s : State) (h : Frame fm s0 s) :
    Frame fm s0 ((striaReduced rtag cells results s)) := by
  unfold striaReduced
  repeat' (first | exact Sub.trans (by decide) hm | intro _ | with_reducible assumption | with_reducible apply afterRead_frame | with_reducible apply concludeRead_frame | with_reducible apply mergeStore_frame | with_reducible apply modStria_frame | with_reducible apply nextCells_frame | with_reducible apply Frame.ite | with_reducible apply Frame.foldl | extract_lets | split)

theorem abortRead_frame {fm : Nat} {s0 : State} (hm : Sub 0x2032831 fm) (s : State) (h : Frame fm s0 s) :
    Frame fm s0 ((abortRead s)) := by
  unfold abortRead
  repeat' (first | exact Sub.trans (by decide) hm | intro _ | with_reducible assumption | with_reducible apply concludeRead_frame | extract_lets | split)

theorem execStationStriaSlot_frame {fm : Nat} {s0 : State} (hm : Sub 0x10 fm) (stn : Nat) (s : State) (h : Frame fm s0 s) :
    FrameO fm s0 (execStationStriaSlot stn s) := by
  unfold execStationStriaSlot
  repeat' (first | with_reducible apply FrameO.act | with_reducible apply FrameO.ok | exact Sub.trans (by decide) hm | intro _ | with_reducible assumption | with_reducible refine takeInbox_frame ?_ _ _ _ _ ‹_› ?_ | with_reducible apply modStn_frame | extract_lets | split)

theorem execStriaSlotApply_frame {fm : Nat} {s0 : State} (hm : Sub 0x11 fm) (stn : Nat) (s : State) (h : Frame fm s0 s) :
    FrameO fm s0 (execStriaSlotApply stn s) := by
  unfold execStriaSlotApply
  repeat' (first | with_reducible apply FrameO.act | with_reducible apply FrameO.ok | exact Sub.trans (by decide) hm | intro _ | with_reducible assumption | with_reducible apply applySlot_frame | with_reducible apply modStn_frame | with_reducible apply Frame.foldl | extract_lets)

theorem execStationStriaSettle_frame {fm : Nat} {s0 : State} (hm : Sub 0x10 fm) (stn : Nat) (s : State) (h : Frame fm s0 s) :
    FrameO fm s0 (execStationStriaSettle stn s) := by
  unfold execStationStriaSettle
  repeat' (first | with_reducible apply FrameO.act | with_reducible apply FrameO.ok | exact Sub.trans (by decide) hm | intro _ | with_reducible assumption | with_reducible refine takeInbox_frame ?_ _ _ _ _ ‹_› ?_ | with_reducible apply modStn_frame | extract_lets | split)

theorem execStriaSettle_frame {fm : Nat} {s0 : State} (hm : Sub 0x11 fm) (stn : Nat) (s : State) (h : Frame fm s0 s) :
    FrameO fm s0 (execStriaSettle stn s) := by
  unfold execStriaSettle
  repeat' (first | with_reducible apply FrameO.act | with_reducible apply FrameO.ok | exact Sub.trans (by decide) hm | intro _ | with_reducible assumption | with_reducible apply modStn_frame | with_reducible apply settleStn_frame | with_reducible apply Frame.foldl | extract_lets)

theorem execStationStriaRelease_frame {fm : Nat} {s0 : State} (hm : Sub 0x10 fm) (stn : Nat) (s : State) (h : Frame fm s0 s) :
    FrameO fm s0 (execStationStriaRelease stn s) := by
  unfold execStationStriaRelease
  repeat' (first | with_reducible apply FrameO.act | with_reducible apply FrameO.ok | exact Sub.trans (by decide) hm | intro _ | with_reducible assumption | with_reducible refine takeInbox_frame ?_ _ _ _ _ ‹_› ?_ | with_reducible apply modStn_frame | with_reducible apply returnHeld_frame | with_reducible apply Frame.foldl | extract_lets | split)

theorem execStriaTileMessageArrival_frame {fm : Nat} {s0 : State} (hm : Sub 0x811 fm) (stn : Nat) (s : State) (h : Frame fm s0 s) :
    FrameO fm s0 (execStriaTileMessageArrival stn s) := by
  unfold execStriaTileMessageArrival
  repeat' (first | with_reducible apply FrameO.act | with_reducible apply FrameO.ok | with_reducible apply FrameO.ite | exact Sub.trans (by decide) hm | intro _ | with_reducible assumption | with_reducible refine takeAir_frame ?_ _ _ _ ‹_› ?_ | with_reducible apply State.fsat_frame | with_reducible apply mergeTile_frame | with_reducible apply modStria_frame | with_reducible apply Frame.ite | extract_lets | split)

theorem execStriaFenceArrival_frame {fm : Nat} {s0 : State} (hm : Sub 0x2032831 fm) (stn : Nat) (s : State) (h : Frame fm s0 s) :
    FrameO fm s0 (execStriaFenceArrival stn s) := by
  unfold execStriaFenceArrival
  repeat' (first | with_reducible apply FrameO.act | with_reducible apply FrameO.ok | with_reducible apply FrameO.ite | exact Sub.trans (by decide) hm | intro _ | with_reducible assumption | with_reducible refine takeAir_frame ?_ _ _ _ ‹_› ?_ | with_reducible apply afterRead_frame | with_reducible apply fencesDone_frame | with_reducible apply modStria_frame | with_reducible apply Frame.ite | extract_lets | split)

theorem execStriaFenceTimeout_frame {fm : Nat} {s0 : State} (hm : Sub 0x2032831 fm) (s : State) (h : Frame fm s0 s) :
    FrameO fm s0 (execStriaFenceTimeout s) := by
  unfold execStriaFenceTimeout
  repeat' (first | with_reducible apply FrameO.act | with_reducible apply FrameO.ok | with_reducible apply FrameO.ite | exact Sub.trans (by decide) hm | intro _ | with_reducible assumption | with_reducible apply afterRead_frame | with_reducible apply fencesDone_frame | with_reducible apply Frame.ite | extract_lets | split)

end Sys2Proof.Machine
end

