-- ==== Sys2Proof/Laws/Frames3.lean ====
section
/-! SUPPORT. The footprint of every operation and command, one lemma each, in the order of the files: deadlines, mailboxes, continuity, Lehr, reset and notices. Each says
which parts of the state its operation may change; all others, the queue and the canonical form of the buffers stay. -/

namespace Sys2Proof.Machine

open Host (Outcome)

/-! ### Window -/

theorem pageRead_frame {fm : Nat} {s0 : State} (hm : Sub 0x33 fm) (id page n b : Nat) (peek : Bool) (use : Nat → Nat → StnUse) (s : State) (h : Frame fm s0 s) :
    Frame fm s0 ((pageRead id page n b peek use s).2) := by
  unfold pageRead
  repeat' (first | exact Sub.trans (by decide) hm | intro _ | with_reducible assumption | with_reducible refine Frame.pair ‹_› ?_ | with_reducible apply dropWide_frame | with_reducible apply State.fs_frame | with_reducible apply issueAccess_frame | with_reducible apply State.when_frame | with_reducible apply Frame.refl | with_reducible apply Frame.ite | with_reducible apply Frame.when | with_reducible apply Frame.foldl | extract_lets | split | (show Memory.wf [] = true; rfl) | (apply memPutBytes_wf; assumption) | (apply ringPut_wf; assumption) | (show Memory.wf _ = true; assumption) | (dsimp +zetaDelta only))

theorem winWrite_frame {fm : Nat} {s0 : State} (hm : Sub 0x33 fm) (id page n b v : Nat) (s : State) (h : Frame fm s0 s) :
    Frame fm s0 ((winWrite id page n b v s)) := by
  unfold winWrite
  repeat' (first | exact Sub.trans (by decide) hm | intro _ | with_reducible assumption | with_reducible apply dropWide_frame | with_reducible apply State.fs_frame | with_reducible apply holdWide_frame | with_reducible apply issueAccess_frame | with_reducible apply Frame.ite | extract_lets | split)

/-! ### Deadlines -/

theorem modDl_frame {fm : Nat} {s0 : State} (hm : Sub 0x1000 fm) (f : DeadlineState → DeadlineState) (s : State) (h : Frame fm s0 s) :
    Frame fm s0 ((modDl f s)) := by
  unfold modDl
  repeat' (first | exact Sub.trans (by decide) hm | intro _ | with_reducible assumption | (simp only [Frame_mk]; first | with_reducible apply FrameC.dl_upd) | extract_lets)

theorem showRow_frame {fm : Nat} {s0 : State} (hm : Sub 0x1 fm) (r ctx : Nat) (bs : List Nat) (s : State) (h : Frame fm s0 s) :
    Frame fm s0 ((showRow r ctx bs s)) := by
  unfold showRow
  repeat' (first | exact Sub.trans (by decide) hm | intro _ | with_reducible assumption | with_reducible apply State.fs_frame | with_reducible apply State.wr_frame | with_reducible apply State.wr64_frame | with_reducible apply Frame.ite | with_reducible apply Frame.foldl | extract_lets | split)

theorem giveRow_frame {fm : Nat} {s0 : State} (hm : Sub 0x10 fm) (n ctx : Nat) (bs : List Nat) (s : State) (h : Frame fm s0 s) :
    Frame fm s0 ((giveRow n ctx bs s)) := by
  unfold giveRow
  repeat' (first | exact Sub.trans (by decide) hm | intro _ | with_reducible assumption | with_reducible apply modStn_frame | with_reducible apply Frame.ite | extract_lets | split)

theorem loadRow_frame {fm : Nat} {s0 : State} (hm : Sub 0x11001 fm) (k : CmdKey) (ctx : Nat) (bs : List Nat) (s : State) (h : Frame fm s0 s) :
    Frame fm s0 ((loadRow k ctx bs s)) := by
  unfold loadRow
  repeat' (first | exact Sub.trans (by decide) hm | intro _ | with_reducible assumption | with_reducible apply completeCmd_frame | with_reducible apply modCmd_frame | with_reducible apply modDl_frame | with_reducible apply showRow_frame | with_reducible apply Frame.refl | with_reducible apply Frame.ite | with_reducible apply Frame.when | with_reducible apply Frame.foldl | extract_lets | split | (show Memory.wf [] = true; rfl) | (apply memPutBytes_wf; assumption) | (apply ringPut_wf; assumption) | (show Memory.wf _ = true; assumption) | (dsimp +zetaDelta only))

theorem deadlineFrame_frame {fm : Nat} {s0 : State} (hm : Sub 0x11001 fm) (s : State) (h : Frame fm s0 s) :
    Frame fm s0 ((deadlineFrame s)) := by
  unfold deadlineFrame
  repeat' (first | exact Sub.trans (by decide) hm | intro _ | with_reducible assumption | with_reducible apply completeCmd_frame | with_reducible apply modDl_frame | with_reducible apply Frame.foldl | extract_lets | split)

theorem beatHb_frame {fm : Nat} {s0 : State} (hm : Sub 0x1001 fm) (n : Nat) (s : State) (h : Frame fm s0 s) :
    Frame fm s0 ((beatHb n s)) := by
  unfold beatHb
  repeat' (first | exact Sub.trans (by decide) hm | intro _ | with_reducible assumption | with_reducible apply modDl_frame | with_reducible apply State.wr64_frame | with_reducible apply Frame.ite | extract_lets | split)

theorem expireHb_frame {fm : Nat} {s0 : State} (hm : Sub 0x32bffbd fm) (n : Nat) (s : State) (h : Frame fm s0 s) :
    Frame fm s0 ((expireHb n s)) := by
  unfold expireHb
  repeat' (first | exact Sub.trans (by decide) hm | intro _ | with_reducible assumption | with_reducible apply centralFault_frame | with_reducible apply modDl_frame | with_reducible apply Frame.ite | extract_lets | split)

theorem hbCtlWrite_frame {fm : Nat} {s0 : State} (hm : Sub 0x1001 fm) (n v : Nat) (s : State) (h : Frame fm s0 s) :
    Frame fm s0 ((hbCtlWrite n v s)) := by
  unfold hbCtlWrite
  repeat' (first | exact Sub.trans (by decide) hm | intro _ | with_reducible assumption | with_reducible apply beatHb_frame | with_reducible apply modDl_frame | with_reducible apply plainWrite_frame | with_reducible apply Frame.ite | extract_lets | split)

theorem stimWrite_frame {fm : Nat} {s0 : State} (hm : Sub 0x32bffbd fm) (id n v : Nat) (s : State) (h : Frame fm s0 s) :
    Frame fm s0 ((stimWrite id n v s)) := by
  unfold stimWrite
  repeat' (first | exact Sub.trans (by decide) hm | intro _ | with_reducible assumption | with_reducible apply beatHb_frame | with_reducible apply expireHb_frame | with_reducible apply modDl_frame | with_reducible apply stimPacket_frame | with_reducible apply State.wrN_frame | extract_lets)

theorem ackLatches_frame {fm : Nat} {s0 : State} (hm : Sub 0x1 fm) (n : Nat) (hi : Bool) (v : Nat) (s : State) (h : Frame fm s0 s) :
    Frame fm s0 ((ackLatches n hi v s)) := by
  unfold ackLatches
  repeat' (first | exact Sub.trans (by decide) hm | intro _ | with_reducible assumption | with_reducible apply plainWrite_frame | with_reducible apply Frame.ite | split)

theorem completeFaults_frame {fm : Nat} {s0 : State} (hm : Sub 0x32befbd fm) (n : Nat) (s : State) (h : Frame fm s0 s) :
    Frame fm s0 ((completeFaults n s)) := by
  unfold completeFaults
  repeat' (first | exact Sub.trans (by decide) hm | intro _ | with_reducible assumption | with_reducible apply offerMsg_frame | with_reducible apply releaseOvf_frame | with_reducible apply setStn_frame | with_reducible apply tick_frame | with_reducible apply Frame.ite | with_reducible apply Frame.foldl | extract_lets | split)

theorem sendPolicies_frame {fm : Nat} {s0 : State} (hm : Sub 0x30 fm) (group target : Nat) (s : State) (h : Frame fm s0 s) :
    Frame fm s0 ((sendPolicies group target s)) := by
  unfold sendPolicies
  repeat' (first | exact Sub.trans (by decide) hm | intro _ | with_reducible assumption | with_reducible apply sendRegWr_frame)

theorem ctxPolWrite_frame {fm : Nat} {s0 : State} (hm : Sub 0x31 fm) (i v : Nat) (s : State) (h : Frame fm s0 s) :
    Frame fm s0 ((ctxPolWrite i v s)) := by
  unfold ctxPolWrite
  repeat' (first | exact Sub.trans (by decide) hm | intro _ | with_reducible assumption | with_reducible apply sendPolicies_frame | with_reducible apply State.wrN_frame)

theorem policyWrite_frame {fm : Nat} {s0 : State} (hm : Sub 0x31 fm) (k v : Nat) (s : State) (h : Frame fm s0 s) :
    Frame fm s0 ((policyWrite k v s)) := by
  unfold policyWrite
  repeat' (first | exact Sub.trans (by decide) hm | intro _ | with_reducible assumption | with_reducible apply plainWrite_frame | with_reducible apply sendPolicies_frame)

theorem putEpoch_frame {fm : Nat} {s0 : State} (hm : Sub 0x1 fm) (a ctx v : Nat) (s : State) (h : Frame fm s0 s) :
    Frame fm s0 ((putEpoch a ctx v s)) := by
  unfold putEpoch
  repeat' (first | exact Sub.trans (by decide) hm | intro _ | with_reducible assumption | with_reducible apply State.fs_frame)

theorem setCtxEpoch_frame {fm : Nat} {s0 : State} (hm : Sub 0x1 fm) (ctx v : Nat) (s : State) (h : Frame fm s0 s) :
    Frame fm s0 ((setCtxEpoch ctx v s)) := by
  unfold setCtxEpoch
  repeat' (first | exact Sub.trans (by decide) hm | intro _ | with_reducible assumption | with_reducible apply putEpoch_frame)

theorem makeStale_frame {fm : Nat} {s0 : State} (hm : Sub 0x11 fm) (n p q : Nat) (s : State) (h : Frame fm s0 s) :
    Frame fm s0 ((makeStale n p q s)) := by
  unfold makeStale
  repeat' (first | exact Sub.trans (by decide) hm | intro _ | with_reducible assumption | with_reducible apply endTiles_frame | with_reducible apply freeWd_frame | with_reducible apply State.fsat_frame | with_reducible apply modPort_frame | with_reducible apply Frame.ite | extract_lets | split)

theorem stnSetEpoch_frame {fm : Nat} {s0 : State} (hm : Sub 0x11 fm) (n ctx v : Nat) (s : State) (h : Frame fm s0 s) :
    Frame fm s0 ((stnSetEpoch n ctx v s)) := by
  unfold stnSetEpoch
  repeat' (first | exact Sub.trans (by decide) hm | intro _ | with_reducible assumption | with_reducible apply makeStale_frame | with_reducible apply putEpoch_frame | with_reducible apply Frame.foldl | extract_lets)

theorem runBind_frame {fm : Nat} {s0 : State} (hm : Sub 0x11001 fm) (k : CmdKey) (s : State) (h : Frame fm s0 s) :
    Frame fm s0 ((runBind k s)) := by
  unfold runBind
  repeat' (first | exact Sub.trans (by decide) hm | intro _ | with_reducible assumption | with_reducible apply completeCmd_frame | with_reducible apply State.fs_frame | with_reducible apply modCmd_frame | with_reducible apply modDl_frame | with_reducible apply setCtxEpoch_frame | with_reducible apply Frame.ite | extract_lets | split)

theorem pumpBinds_frame {fm : Nat} {s0 : State} (hm : Sub 0x11001 fm) (z0 : Nat) (z1 : State) (h : Frame fm s0 z1) :
    Frame fm s0 ((pumpBinds z0 z1)) := by
  induction z0 generalizing z1 with
  | zero =>
    unfold pumpBinds
    repeat' (first | exact Sub.trans (by decide) hm | intro _ | with_reducible assumption | with_reducible apply modDl_frame | with_reducible apply runBind_frame | with_reducible apply Frame.ite | extract_lets | split)
  | succ k ih =>
    unfold pumpBinds
    repeat' (first | exact Sub.trans (by decide) hm | intro _ | with_reducible assumption | with_reducible apply ih | with_reducible apply modDl_frame | with_reducible apply runBind_frame | with_reducible apply Frame.ite | extract_lets | split)

theorem askBind_frame {fm : Nat} {s0 : State} (hm : Sub 0x11001 fm) (k : CmdKey) (s : State) (h : Frame fm s0 s) :
    Frame fm s0 ((askBind k s)) := by
  unfold askBind
  repeat' (first | exact Sub.trans (by decide) hm | intro _ | with_reducible assumption | with_reducible apply modCmd_frame | with_reducible apply modDl_frame | with_reducible apply runBind_frame | with_reducible apply Frame.ite | extract_lets | split)

theorem keepEpoch_frame {fm : Nat} {s0 : State} (hm : Sub 0x1000 fm) (s : State) (h : Frame fm s0 s) :
    Frame fm s0 ((keepEpoch s)) := by
  unfold keepEpoch
  repeat' (first | exact Sub.trans (by decide) hm | intro _ | with_reducible assumption | with_reducible apply modDl_frame | with_reducible apply Frame.ite | extract_lets | split)

theorem endEpoch_frame {fm : Nat} {s0 : State} (hm : Sub 0x11001 fm) (s : State) (h : Frame fm s0 s) :
    Frame fm s0 ((endEpoch s)) := by
  unfold endEpoch
  repeat' (first | exact Sub.trans (by decide) hm | intro _ | with_reducible assumption | with_reducible apply completeCmd_frame | with_reducible apply State.fs_frame | with_reducible apply keepEpoch_frame | with_reducible apply modDl_frame | with_reducible apply pumpBinds_frame | with_reducible apply setCtxEpoch_frame | extract_lets | split)

theorem lateEpoch_frame {fm : Nat} {s0 : State} (hm : Sub 0x1030 fm) (n : Nat) (s : State) (h : Frame fm s0 s) :
    Frame fm s0 ((lateEpoch n s)) := by
  unfold lateEpoch
  repeat' (first | exact Sub.trans (by decide) hm | intro _ | with_reducible assumption | with_reducible apply modDl_frame | with_reducible apply sendRegWr_frame | with_reducible apply Frame.foldl | extract_lets)

theorem warmEpoch_frame {fm : Nat} {s0 : State} (hm : Sub 0x1001 fm) (s : State) (h : Frame fm s0 s) :
    Frame fm s0 ((warmEpoch s)) := by
  unfold warmEpoch
  repeat' (first | exact Sub.trans (by decide) hm | intro _ | with_reducible assumption | with_reducible apply State.fs_frame | with_reducible apply modDl_frame | with_reducible apply setCtxEpoch_frame | with_reducible apply Frame.ite | extract_lets | split)

theorem dlPageRead_frame {fm : Nat} {s0 : State} (hm : Sub 0x33 fm) (id b : Nat) (peek : Bool) (use : Nat → Nat → StnUse) (s : State) (h : Frame fm s0 s) :
    Frame fm s0 ((dlPageRead id b peek use s).2) := by
  unfold dlPageRead
  repeat' (first | exact Sub.trans (by decide) hm | intro _ | with_reducible assumption | with_reducible refine Frame.pair ‹_› ?_ | with_reducible apply pageRead_frame)

theorem dlPageWrite_frame {fm : Nat} {s0 : State} (hm : Sub 0x33 fm) (id b v : Nat) (s : State) (h : Frame fm s0 s) :
    Frame fm s0 ((dlPageWrite id b v s)) := by
  unfold dlPageWrite
  repeat' (first | exact Sub.trans (by decide) hm | intro _ | with_reducible assumption | with_reducible apply winWrite_frame | with_reducible apply Frame.ite | split)

theorem execBudgetRowApply_frame {fm : Nat} {s0 : State} (hm : Sub 0x1011 fm) (s : State) (h : Frame fm s0 s) :
    FrameO fm s0 (execBudgetRowApply s) := by
  unfold execBudgetRowApply
  repeat' (first | with_reducible apply FrameO.act | with_reducible apply FrameO.ok | exact Sub.trans (by decide) hm | intro _ | with_reducible assumption | with_reducible apply giveRow_frame | with_reducible apply modDl_frame | with_reducible apply showRow_frame | with_reducible apply Frame.foldl | extract_lets | split)

theorem execBudgetWatchdogExpiry_frame {fm : Nat} {s0 : State} (hm : Sub 0x91 fm) (unit : Nat) (s : State) (h : Frame fm s0 s) :
    FrameO fm s0 (execBudgetWatchdogExpiry unit s) := by
  unfold execBudgetWatchdogExpiry
  repeat' (first | with_reducible apply FrameO.act | with_reducible apply FrameO.ok | exact Sub.trans (by decide) hm | intro _ | with_reducible assumption | with_reducible apply expireWd_frame)

theorem execProgressWatchdogExpiry_frame {fm : Nat} {s0 : State} (hm : Sub 0x91 fm) (unit : Nat) (s : State) (h : Frame fm s0 s) :
    FrameO fm s0 (execProgressWatchdogExpiry unit s) := by
  unfold execProgressWatchdogExpiry
  repeat' (first | with_reducible apply FrameO.act | with_reducible apply FrameO.ok | exact Sub.trans (by decide) hm | intro _ | with_reducible assumption | with_reducible apply expirePw_frame)

theorem execHbCtlWrite_frame {fm : Nat} {s0 : State} (hm : Sub 0x1001 fm) (id index32 value : Nat) (s : State) (h : Frame fm s0 s) :
    FrameO fm s0 (execHbCtlWrite id index32 value s) := by
  unfold execHbCtlWrite
  repeat' (first | with_reducible apply FrameO.act | with_reducible apply FrameO.ok | exact Sub.trans (by decide) hm | intro _ | with_reducible assumption | with_reducible apply State.gate_frame | with_reducible apply hbCtlWrite_frame)

theorem execStimWrite_frame {fm : Nat} {s0 : State} (hm : Sub 0x32bffbd fm) (id stim value : Nat) (s : State) (h : Frame fm s0 s) :
    FrameO fm s0 (execStimWrite id stim value s) := by
  unfold execStimWrite
  repeat' (first | with_reducible apply FrameO.act | with_reducible apply FrameO.ok | exact Sub.trans (by decide) hm | intro _ | with_reducible assumption | with_reducible apply State.gate_frame | with_reducible apply stimWrite_frame)

theorem execHeartbeatWatchdogExpiry_frame {fm : Nat} {s0 : State} (hm : Sub 0x32bffbd fm) (index32 : Nat) (s : State) (h : Frame fm s0 s) :
    FrameO fm s0 (execHeartbeatWatchdogExpiry index32 s) := by
  unfold execHeartbeatWatchdogExpiry
  repeat' (first | with_reducible apply FrameO.act | with_reducible apply FrameO.ok | exact Sub.trans (by decide) hm | intro _ | with_reducible assumption | with_reducible apply expireHb_frame)

theorem execFaultLatchAck_frame {fm : Nat} {s0 : State} (hm : Sub 0x11 fm) (stn : Nat) (s : State) (h : Frame fm s0 s) :
    FrameO fm s0 (execFaultLatchAck stn s) := by
  unfold execFaultLatchAck
  repeat' (first | with_reducible apply FrameO.act | with_reducible apply FrameO.ok | exact Sub.trans (by decide) hm | intro _ | with_reducible assumption | with_reducible refine takeInbox_frame ?_ _ _ _ _ ‹_› ?_ | with_reducible apply ackLatches_frame | extract_lets | split)

theorem execFaultRecordCompletion_frame {fm : Nat} {s0 : State} (hm : Sub 0x32befbd fm) (stn : Nat) (s : State) (h : Frame fm s0 s) :
    FrameO fm s0 (execFaultRecordCompletion stn s) := by
  unfold execFaultRecordCompletion
  repeat' (first | with_reducible apply FrameO.act | with_reducible apply FrameO.ok | exact Sub.trans (by decide) hm | intro _ | with_reducible assumption | with_reducible apply completeFaults_frame)

theorem execFaultNoteSend_frame {fm : Nat} {s0 : State} (hm : Sub 0x11 fm) (stn : Nat) (s : State) (h : Frame fm s0 s) :
    FrameO fm s0 (execFaultNoteSend stn s) := by
  unfold execFaultNoteSend
  repeat' (first | with_reducible apply FrameO.act | with_reducible apply FrameO.ok | with_reducible apply FrameO.ite | exact Sub.trans (by decide) hm | intro _ | with_reducible assumption | with_reducible apply releaseOvf_frame | with_reducible apply sendNote_frame | with_reducible apply setStn_frame | with_reducible apply Frame.ite | extract_lets | split)

theorem execFaultNoteArrival_frame {fm : Nat} {s0 : State} (hm : Sub 0x21f019 fm) (stn : Nat) (s : State) (h : Frame fm s0 s) :
    FrameO fm s0 (execFaultNoteArrival stn s) := by
  unfold execFaultNoteArrival
  repeat' (first | with_reducible apply FrameO.act | with_reducible apply FrameO.ok | with_reducible apply FrameO.ite | exact Sub.trans (by decide) hm | intro _ | with_reducible assumption | with_reducible refine takeNote_frame ?_ _ _ _ ‹_› ?_ | with_reducible refine Frame.pair ‹_› ?_ | with_reducible apply modDl_frame | with_reducible apply takeActions_frame | with_reducible apply Frame.ite | extract_lets | split)

theorem execFaultMessageArrival_frame {fm : Nat} {s0 : State} (hm : Sub 0x32bffbd fm) (stn : Nat) (s : State) (h : Frame fm s0 s) :
    FrameO fm s0 (execFaultMessageArrival stn s) := by
  unfold execFaultMessageArrival
  repeat' (first | with_reducible apply FrameO.act | with_reducible apply FrameO.ok | with_reducible apply FrameO.ite | exact Sub.trans (by decide) hm | intro _ | with_reducible assumption | with_reducible refine takeAir_frame ?_ _ _ _ ‹_› ?_ | with_reducible refine Frame.pair ‹_› ?_ | with_reducible apply State.fs_frame | with_reducible apply State.fsat_frame | with_reducible apply logTaken_frame | with_reducible apply modDl_frame | with_reducible apply takeActions_frame | with_reducible apply Frame.ite | extract_lets | split)

theorem execFaultPendingTimeout_frame {fm : Nat} {s0 : State} (hm : Sub 0x32bffbd fm) (s : State) (h : Frame fm s0 s) :
    FrameO fm s0 (execFaultPendingTimeout s) := by
  unfold execFaultPendingTimeout
  repeat' (first | with_reducible apply FrameO.act | with_reducible apply FrameO.ok | exact Sub.trans (by decide) hm | intro _ | with_reducible assumption | with_reducible apply State.fs_frame | with_reducible apply logTaken_frame | with_reducible apply modDl_frame | extract_lets | split)

theorem execFaultLoggedEntryExpiry_frame {fm : Nat} {s0 : State} (hm : Sub 0x1000 fm) (s : State) (h : Frame fm s0 s) :
    FrameO fm s0 (execFaultLoggedEntryExpiry s) := by
  unfold execFaultLoggedEntryExpiry
  repeat' (first | with_reducible apply FrameO.act | with_reducible apply FrameO.ok | exact Sub.trans (by decide) hm | intro _ | with_reducible assumption | with_reducible apply modDl_frame | extract_lets)

theorem execEpochSetSend_frame {fm : Nat} {s0 : State} (hm : Sub 0x1010 fm) (s : State) (h : Frame fm s0 s) :
    FrameO fm s0 (execEpochSetSend s) := by
  unfold execEpochSetSend
  repeat' (first | with_reducible apply FrameO.act | with_reducible apply FrameO.ok | with_reducible apply FrameO.ite | exact Sub.trans (by decide) hm | intro _ | with_reducible assumption | with_reducible apply modDl_frame | with_reducible apply sendNoteDown_frame | with_reducible apply Frame.ite | extract_lets | split)

theorem execStationEpochNote_frame {fm : Nat} {s0 : State} (hm : Sub 0x10 fm) (stn : Nat) (s : State) (h : Frame fm s0 s) :
    FrameO fm s0 (execStationEpochNote stn s) := by
  unfold execStationEpochNote
  repeat' (first | with_reducible apply FrameO.act | with_reducible apply FrameO.ok | with_reducible apply FrameO.ite | exact Sub.trans (by decide) hm | intro _ | with_reducible assumption | with_reducible apply setStn_frame | with_reducible apply Frame.ite | extract_lets | split)

theorem execEpochApply_frame {fm : Nat} {s0 : State} (hm : Sub 0x11011 fm) (s : State) (h : Frame fm s0 s) :
    FrameO fm s0 (execEpochApply s) := by
  unfold execEpochApply
  repeat' (first | with_reducible apply FrameO.act | with_reducible apply FrameO.ok | with_reducible apply FrameO.ite | exact Sub.trans (by decide) hm | intro _ | with_reducible assumption | with_reducible apply endEpoch_frame | with_reducible apply modStn_frame | with_reducible apply stnSetEpoch_frame | with_reducible apply Frame.ite | with_reducible apply Frame.foldl | extract_lets | split)

theorem execDeadlinePageAccess_frame {fm : Nat} {s0 : State} (hm : Sub 0x3b fm) (id off : Nat) (isWrite : Bool) (value : Nat) (peek : Bool) (s : State) (h : Frame fm s0 s) :
    FrameO fm s0 (execDeadlinePageAccess id off isWrite value peek s) := by
  unfold execDeadlinePageAccess
  repeat' (first | with_reducible apply FrameO.act | with_reducible apply FrameO.ok | with_reducible apply FrameO.ite | exact Sub.trans (by decide) hm | intro _ | with_reducible assumption | with_reducible apply presentAnswer_frame | with_reducible refine Frame.pair ‹_› ?_ | with_reducible apply dlPageRead_frame | with_reducible apply dlPageWrite_frame | with_reducible apply State.gate_frame | with_reducible apply State.readGate_frame | with_reducible apply Frame.ite | extract_lets | split)

/-! ### Mailboxes -/

theorem setChan_frame {fm : Nat} {s0 : State} (hm : Sub 0x100000 fm) (c : Nat) (x : MbxChan) (s : State) (h : Frame fm s0 s) :
    Frame fm s0 ((setChan c x s)) := by
  unfold setChan
  repeat' (first | exact Sub.trans (by decide) hm | intro _ | with_reducible assumption | (simp only [Frame_mk]; first | with_reducible apply FrameC.mbx_upd) | extract_lets)

theorem setMdir_frame {fm : Nat} {s0 : State} (hm : Sub 0x100000 fm) (c d : Nat) (x : MbxDir) (s : State) (h : Frame fm s0 s) :
    Frame fm s0 ((setMdir c d x s)) := by
  unfold setMdir
  repeat' (first | exact Sub.trans (by decide) hm | intro _ | with_reducible assumption | with_reducible apply setChan_frame | with_reducible apply Frame.ite | extract_lets | split)

theorem modMdir_frame {fm : Nat} {s0 : State} (hm : Sub 0x100000 fm) (c d : Nat) (f : MbxDir → MbxDir) (s : State) (h : Frame fm s0 s) :
    Frame fm s0 ((modMdir c d f s)) := by
  unfold modMdir
  repeat' (first | exact Sub.trans (by decide) hm | intro _ | with_reducible assumption | with_reducible apply setMdir_frame)

theorem driveMbxIrq_frame {fm : Nat} {s0 : State} (hm : Sub 0x8 fm) (i : Nat) (s : State) (h : Frame fm s0 s) :
    Frame fm s0 ((driveMbxIrq i s)) := by
  unfold driveMbxIrq
  repeat' (first | exact Sub.trans (by decide) hm | intro _ | with_reducible assumption | with_reducible apply Frame.ite | (simp only [Frame_mk]; first | with_reducible apply FrameC.pins_upd) | extract_lets | split)

theorem signalDb_frame {fm : Nat} {s0 : State} (hm : Sub 0x9 fm) (i : Nat) (was : Word) (s : State) (h : Frame fm s0 s) :
    Frame fm s0 ((signalDb i was s)) := by
  unfold signalDb
  repeat' (first | exact Sub.trans (by decide) hm | intro _ | with_reducible assumption | with_reducible apply driveMbxIrq_frame | with_reducible apply signalVec_frame | with_reducible apply Frame.ite | extract_lets | split)

theorem withDb_frame {fm : Nat} {s0 : State} (hm : Sub 0x9 fm) (i : Nat) (f : State → State) (s : State) (hf : ∀ (x0 : State), Frame fm s0 x0 → Frame fm s0 ((f x0))) (h : Frame fm s0 s) :
    Frame fm s0 ((withDb i f s)) := by
  unfold withDb
  repeat' (first | exact Sub.trans (by decide) hm | intro _ | with_reducible assumption | with_reducible apply hf | with_reducible apply signalDb_frame | extract_lets)

theorem ringDb_frame {fm : Nat} {s0 : State} (hm : Sub 0x9 fm) (i b : Nat) (s : State) (h : Frame fm s0 s) :
    Frame fm s0 ((ringDb i b s)) := by
  unfold ringDb
  repeat' (first | exact Sub.trans (by decide) hm | intro _ | with_reducible assumption | with_reducible apply withDb_frame | with_reducible apply State.wrN_frame | extract_lets)

theorem mbxErr_frame {fm : Nat} {s0 : State} (hm : Sub 0x100000 fm) (c d : Nat) (s : State) (h : Frame fm s0 s) :
    Frame fm s0 ((mbxErr c d s)) := by
  unfold mbxErr
  repeat' (first | exact Sub.trans (by decide) hm | intro _ | with_reducible assumption | with_reducible apply modMdir_frame | extract_lets)

theorem mbxRej_frame {fm : Nat} {s0 : State} (hm : Sub 0x1 fm) (id : Nat) (s : State) (h : Frame fm s0 s) :
    Frame fm s0 ((mbxRej id s)) := by
  unfold mbxRej
  repeat' (first | exact Sub.trans (by decide) hm | intro _ | with_reducible assumption | with_reducible apply State.fs_frame | with_reducible apply State.fsat_frame)

theorem takeAnswer_frame {fm : Nat} {s0 : State} (hm : Sub 0x100009 fm) (c d code : Nat) (s : State) (h : Frame fm s0 s) :
    Frame fm s0 ((takeAnswer c d code s)) := by
  unfold takeAnswer
  repeat' (first | exact Sub.trans (by decide) hm | intro _ | with_reducible assumption | with_reducible apply ringDb_frame | with_reducible apply setMdir_frame | with_reducible apply Frame.ite | extract_lets | split)

theorem writeAck_frame {fm : Nat} {s0 : State} (hm : Sub 0x100009 fm) (c d code : Nat) (s : State) (h : Frame fm s0 s) :
    Frame fm s0 ((writeAck c d code s)) := by
  unfold writeAck
  repeat' (first | exact Sub.trans (by decide) hm | intro _ | with_reducible assumption | with_reducible apply mbxErr_frame | with_reducible apply setMdir_frame | with_reducible apply takeAnswer_frame | with_reducible apply Frame.ite | extract_lets | split)

theorem postGo_frame {fm : Nat} {s0 : State} (hm : Sub 0x100009 fm) (c d node : Nat) (s : State) (h : Frame fm s0 s) :
    Frame fm s0 ((postGo c d node s)) := by
  unfold postGo
  repeat' (first | exact Sub.trans (by decide) hm | intro _ | with_reducible assumption | with_reducible apply mbxErr_frame | with_reducible apply ringDb_frame | with_reducible apply setMdir_frame | with_reducible apply Frame.ite | extract_lets | split)

theorem retract_frame {fm : Nat} {s0 : State} (hm : Sub 0x100000 fm) (c d : Nat) (s : State) (h : Frame fm s0 s) :
    Frame fm s0 ((retract c d s)) := by
  unfold retract
  repeat' (first | exact Sub.trans (by decide) hm | intro _ | with_reducible assumption | with_reducible apply mbxErr_frame | with_reducible apply setMdir_frame | with_reducible apply Frame.ite | extract_lets | split)

theorem mbxDump_frame {fm : Nat} {s0 : State} (hm : Sub 0x102009 fm) (c d : Nat) (s : State) (h : Frame fm s0 s) :
    Frame fm s0 ((mbxDump c d s)) := by
  unfold mbxDump
  repeat' (first | exact Sub.trans (by decide) hm | intro _ | with_reducible assumption | with_reducible refine Frame.pair ‹_› ?_ | with_reducible apply askDump_frame | with_reducible apply setMdir_frame | with_reducible apply writeAck_frame | with_reducible apply Frame.ite | extract_lets | split)

theorem writeMbxCtl_frame {fm : Nat} {s0 : State} (hm : Sub 0x102009 fm) (id c d v node : Nat) (s : State) (h : Frame fm s0 s) :
    Frame fm s0 ((writeMbxCtl id c d v node s)) := by
  unfold writeMbxCtl
  repeat' (first | exact Sub.trans (by decide) hm | intro _ | with_reducible assumption | with_reducible apply mbxDump_frame | with_reducible apply mbxErr_frame | with_reducible apply postGo_frame | with_reducible apply retract_frame | with_reducible apply Frame.ite | extract_lets | split)

theorem mbxRead_frame {fm : Nat} {s0 : State} (hm : Sub 0x100001 fm) (id c o : Nat) (peek : Bool) (s : State) (h : Frame fm s0 s) :
    Frame fm s0 ((mbxRead id c o peek s).2) := by
  unfold mbxRead
  repeat' (first | exact Sub.trans (by decide) hm | intro _ | with_reducible assumption | with_reducible refine Frame.pair ‹_› ?_ | with_reducible apply mbxRej_frame | with_reducible apply setMdir_frame | with_reducible apply Frame.ite | extract_lets | split)

theorem mbxWrite_frame {fm : Nat} {s0 : State} (hm : Sub 0x102009 fm) (id c o v node : Nat) (s : State) (h : Frame fm s0 s) :
    Frame fm s0 ((mbxWrite id c o v node s)) := by
  unfold mbxWrite
  repeat' (first | exact Sub.trans (by decide) hm | intro _ | with_reducible assumption | with_reducible apply mbxErr_frame | with_reducible apply mbxRej_frame | with_reducible apply setMdir_frame | with_reducible apply writeAck_frame | with_reducible apply writeMbxCtl_frame | with_reducible apply Frame.ite | extract_lets | split)

theorem mbxGate_frame {fm : Nat} {s0 : State} (hm : Sub 0x1 fm) (id c o : Nat) (f : State → State) (s : State) (hf : ∀ (x0 : State), Frame fm s0 x0 → Frame fm s0 ((f x0))) (h : Frame fm s0 s) :
    Frame fm s0 ((mbxGate id c o f s)) := by
  unfold mbxGate
  repeat' (first | exact Sub.trans (by decide) hm | intro _ | with_reducible assumption | with_reducible apply hf | with_reducible apply State.gate_frame)

theorem dbGate_frame {fm : Nat} {s0 : State} (hm : Sub 0x1 fm) (id target a : Nat) (f : State → State) (s : State) (hf : ∀ (x0 : State), Frame fm s0 x0 → Frame fm s0 ((f x0))) (h : Frame fm s0 s) :
    Frame fm s0 ((dbGate id target a f s)) := by
  unfold dbGate
  repeat' (first | exact Sub.trans (by decide) hm | intro _ | with_reducible assumption | with_reducible apply hf | with_reducible apply State.gate_frame | with_reducible apply Frame.ite | split)

theorem clearDb_frame {fm : Nat} {s0 : State} (hm : Sub 0x9 fm) (i v : Nat) (s : State) (h : Frame fm s0 s) :
    Frame fm s0 ((clearDb i v s)) := by
  unfold clearDb
  repeat' (first | exact Sub.trans (by decide) hm | intro _ | with_reducible assumption | with_reducible apply plainWrite_frame | with_reducible apply withDb_frame | extract_lets)

theorem writeDbMask_frame {fm : Nat} {s0 : State} (hm : Sub 0x9 fm) (i v : Nat) (s : State) (h : Frame fm s0 s) :
    Frame fm s0 ((writeDbMask i v s)) := by
  unfold writeDbMask
  repeat' (first | exact Sub.trans (by decide) hm | intro _ | with_reducible assumption | with_reducible apply withDb_frame | with_reducible apply State.wrN_frame | extract_lets)

theorem writeBind_frame {fm : Nat} {s0 : State} (hm : Sub 0x100001 fm) (c v : Nat) (s : State) (h : Frame fm s0 s) :
    Frame fm s0 ((writeBind c v s)) := by
  unfold writeBind
  repeat' (first | exact Sub.trans (by decide) hm | intro _ | with_reducible assumption | with_reducible apply State.fs_frame | with_reducible apply setChan_frame | with_reducible apply State.wr_frame | with_reducible apply Frame.ite | extract_lets | split)

theorem lockBind_frame {fm : Nat} {s0 : State} (hm : Sub 0x1 fm) (s : State) (h : Frame fm s0 s) :
    Frame fm s0 ((lockBind s)) := by
  unfold lockBind
  repeat' (first | exact Sub.trans (by decide) hm | intro _ | with_reducible assumption | with_reducible apply State.fs_frame)

theorem resetDir_frame {fm : Nat} {s0 : State} (hm : Sub 0x100009 fm) (ids : List Nat) (c d : Nat) (s : State) (h : Frame fm s0 s) :
    Frame fm s0 ((resetDir ids c d s)) := by
  unfold resetDir
  repeat' (first | exact Sub.trans (by decide) hm | intro _ | with_reducible assumption | with_reducible apply ringDb_frame | with_reducible apply setMdir_frame | with_reducible apply Frame.ite | extract_lets | split)

theorem resetIdentities_frame {fm : Nat} {s0 : State} (hm : Sub 0x100009 fm) (ids : List Nat) (s : State) (h : Frame fm s0 s) :
    Frame fm s0 ((resetIdentities ids s)) := by
  unfold resetIdentities
  repeat' (first | exact Sub.trans (by decide) hm | intro _ | with_reducible assumption | with_reducible apply driveMbxIrq_frame | with_reducible apply resetDir_frame | with_reducible apply State.wr_frame | with_reducible apply State.wrN_frame | with_reducible apply Frame.foldl | extract_lets)

theorem clearMailboxes_frame {fm : Nat} {s0 : State} (hm : Sub 0x100008 fm) (s : State) (h : Frame fm s0 s) :
    Frame fm s0 ((clearMailboxes s)) := by
  unfold clearMailboxes
  repeat' (first | exact Sub.trans (by decide) hm | intro _ | with_reducible assumption | (simp only [Frame_mk]; first | with_reducible apply FrameC.mbx_upd | with_reducible apply FrameC.pins_upd | with_reducible apply FrameC.mbx_pins_upd) | extract_lets)

theorem remoteRead_frame {fm : Nat} {s0 : State} (hm : Sub 0x100001 fm) (a : Nat) (peek : Bool) (s : State) (h : Frame fm s0 s) :
    Frame fm s0 ((remoteRead a peek s).2) := by
  unfold remoteRead
  repeat' (first | exact Sub.trans (by decide) hm | intro _ | with_reducible assumption | with_reducible refine Frame.pair ‹_› ?_ | with_reducible apply mbxRead_frame | with_reducible apply refuseAccess_frame | with_reducible apply Frame.ite | split)

theorem remoteWrite_frame {fm : Nat} {s0 : State} (hm : Sub 0x102009 fm) (node a v : Nat) (s : State) (h : Frame fm s0 s) :
    Frame fm s0 ((remoteWrite node a v s)) := by
  unfold remoteWrite
  repeat' (first | exact Sub.trans (by decide) hm | intro _ | with_reducible assumption | with_reducible apply clearDb_frame | with_reducible apply mbxWrite_frame | with_reducible apply refuseAccess_frame | with_reducible apply writeDbMask_frame | with_reducible apply Frame.ite | split)

theorem sendBulk_frame {fm : Nat} {s0 : State} (hm : Sub 0x20000 fm) (node : Nat) (bytes : List Nat) (s : State) (h : Frame fm s0 s) :
    Frame fm s0 ((sendBulk node bytes s)) := by
  unfold sendBulk
  repeat' (first | exact Sub.trans (by decide) hm | intro _ | with_reducible assumption | with_reducible apply presentBulk_frame)

theorem execMbxGo_frame {fm : Nat} {s0 : State} (hm : Sub 0x102009 fm) (id ch dir : Nat) (s : State) (h : Frame fm s0 s) :
    FrameO fm s0 (execMbxGo id ch dir s) := by
  unfold execMbxGo
  repeat' (first | with_reducible apply FrameO.act | with_reducible apply FrameO.ok | exact Sub.trans (by decide) hm | intro _ | with_reducible assumption | with_reducible apply mbxGate_frame | with_reducible apply mbxWrite_frame)

theorem execMbxRetract_frame {fm : Nat} {s0 : State} (hm : Sub 0x102009 fm) (id ch dir : Nat) (s : State) (h : Frame fm s0 s) :
    FrameO fm s0 (execMbxRetract id ch dir s) := by
  unfold execMbxRetract
  repeat' (first | with_reducible apply FrameO.act | with_reducible apply FrameO.ok | exact Sub.trans (by decide) hm | intro _ | with_reducible assumption | with_reducible apply mbxGate_frame | with_reducible apply mbxWrite_frame)

theorem execMbxClaim_frame {fm : Nat} {s0 : State} (hm : Sub 0x100009 fm) (id ch dir : Nat) (s : State) (h : Frame fm s0 s) :
    FrameO fm s0 (execMbxClaim id ch dir s) := by
  unfold execMbxClaim
  repeat' (first | with_reducible apply FrameO.act | with_reducible apply FrameO.ok | exact Sub.trans (by decide) hm | intro _ | with_reducible assumption | with_reducible refine Frame.pair ‹_› ?_ | with_reducible apply mbxGate_frame | with_reducible apply mbxRead_frame | with_reducible apply presentRead_frame | extract_lets | split)

theorem execMbxAck_frame {fm : Nat} {s0 : State} (hm : Sub 0x102009 fm) (id ch dir code : Nat) (s : State) (h : Frame fm s0 s) :
    FrameO fm s0 (execMbxAck id ch dir code s) := by
  unfold execMbxAck
  repeat' (first | with_reducible apply FrameO.act | with_reducible apply FrameO.ok | exact Sub.trans (by decide) hm | intro _ | with_reducible assumption | with_reducible apply mbxGate_frame | with_reducible apply mbxWrite_frame)

theorem execMbxCrossDefer_frame {fm : Nat} {s0 : State} (hm : Sub 0x100009 fm) (ch : Nat) (s : State) (h : Frame fm s0 s) :
    FrameO fm s0 (execMbxCrossDefer ch s) := by
  unfold execMbxCrossDefer
  repeat' (first | with_reducible apply FrameO.act | with_reducible apply FrameO.ok | with_reducible apply FrameO.ite | exact Sub.trans (by decide) hm | intro _ | with_reducible assumption | with_reducible apply modMdir_frame | with_reducible apply ringDb_frame | with_reducible apply Frame.ite | extract_lets | split)

theorem execMbxAckDelayedEffect_frame {fm : Nat} {s0 : State} (hm : Sub 0x100009 fm) (ch dir : Nat) (s : State) (h : Frame fm s0 s) :
    FrameO fm s0 (execMbxAckDelayedEffect ch dir s) := by
  unfold execMbxAckDelayedEffect
  repeat' (first | with_reducible apply FrameO.act | with_reducible apply FrameO.ok | with_reducible apply FrameO.ite | exact Sub.trans (by decide) hm | intro _ | with_reducible assumption | with_reducible apply takeAnswer_frame | with_reducible apply Frame.ite | extract_lets | split)

theorem execDoorbellClear_frame {fm : Nat} {s0 : State} (hm : Sub 0x9 fm) (id target value : Nat) (s : State) (h : Frame fm s0 s) :
    FrameO fm s0 (execDoorbellClear id target value s) := by
  unfold execDoorbellClear
  repeat' (first | with_reducible apply FrameO.act | with_reducible apply FrameO.ok | exact Sub.trans (by decide) hm | intro _ | with_reducible assumption | with_reducible apply clearDb_frame | with_reducible apply dbGate_frame)

theorem execDoorbellMaskWrite_frame {fm : Nat} {s0 : State} (hm : Sub 0x9 fm) (id target value : Nat) (s : State) (h : Frame fm s0 s) :
    FrameO fm s0 (execDoorbellMaskWrite id target value s) := by
  unfold execDoorbellMaskWrite
  repeat' (first | with_reducible apply FrameO.act | with_reducible apply FrameO.ok | exact Sub.trans (by decide) hm | intro _ | with_reducible assumption | with_reducible apply dbGate_frame | with_reducible apply writeDbMask_frame)

theorem execMbxBindWrite_frame {fm : Nat} {s0 : State} (hm : Sub 0x100001 fm) (id ch value : Nat) (s : State) (h : Frame fm s0 s) :
    FrameO fm s0 (execMbxBindWrite id ch value s) := by
  unfold execMbxBindWrite
  repeat' (first | with_reducible apply FrameO.act | with_reducible apply FrameO.ok | exact Sub.trans (by decide) hm | intro _ | with_reducible assumption | with_reducible apply State.gate_frame | with_reducible apply writeBind_frame)

theorem execMbxBindLock_frame {fm : Nat} {s0 : State} (hm : Sub 0x1 fm) (id : Nat) (s : State) (h : Frame fm s0 s) :
    FrameO fm s0 (execMbxBindLock id s) := by
  unfold execMbxBindLock
  repeat' (first | with_reducible apply FrameO.act | with_reducible apply FrameO.ok | exact Sub.trans (by decide) hm | intro _ | with_reducible assumption | with_reducible apply State.gate_frame | with_reducible apply lockBind_frame)

theorem execMbxReqReceive_frame {fm : Nat} {s0 : State} (hm : Sub 0x122009 fm) (node mop tag off32 value job64 : Nat) (s : State) (h : Frame fm s0 s) :
    FrameO fm s0 (execMbxReqReceive node mop tag off32 value job64 s) := by
  unfold execMbxReqReceive
  repeat' (first | with_reducible apply FrameO.awake | with_reducible apply FrameO.ok | with_reducible apply FrameO.ite | exact Sub.trans (by decide) hm | intro _ | with_reducible assumption | with_reducible refine Frame.pair ‹_› ?_ | with_reducible apply remoteRead_frame | with_reducible apply remoteWrite_frame | with_reducible apply sendBulk_frame | with_reducible apply Frame.ite | extract_lets | split)

theorem execMbxRspReceive_frame {fm : Nat} {s0 : State} (hm : Sub 0x100000 fm) (node status tag off32 value : Nat) (s : State) (h : Frame fm s0 s) :
    FrameO fm s0 (execMbxRspReceive node status tag off32 value s) := by
  unfold execMbxRspReceive
  repeat' (first | with_reducible apply FrameO.awake | with_reducible apply FrameO.ok | with_reducible apply FrameO.ite | exact Sub.trans (by decide) hm | intro _ | with_reducible assumption | with_reducible apply Frame.ite | (simp only [Frame_mk]; first | with_reducible apply FrameC.mbx_upd) | extract_lets | split)

/-! ### Lines -/

theorem modBus_frame {fm : Nat} {s0 : State} (hm : Sub 0x20000 fm) (f : BusState → BusState) (s : State) (h : Frame fm s0 s) :
    Frame fm s0 ((modBus f s)) := by
  unfold modBus
  repeat' (first | exact Sub.trans (by decide) hm | intro _ | with_reducible assumption | (simp only [Frame_mk]; first | with_reducible apply FrameC.bus_upd) | extract_lets)

theorem pumpJob_frame {fm : Nat} {s0 : State} (hm : Sub 0x20000 fm) (who : Reader) (ident : Nat) (z0 : Nat) (z1 : LineJob) (z2 : State) (h : Frame fm s0 z2) :
    Frame fm s0 ((pumpJob who ident z0 z1 z2).2) := by
  induction z0 generalizing z1 z2 with
  | zero =>
    unfold pumpJob
    repeat' (first | exact Sub.trans (by decide) hm | intro _ | with_reducible assumption | with_reducible refine Frame.pair ‹_› ?_ | with_reducible apply lineRead_frame | with_reducible apply Frame.ite | extract_lets | split)
  | succ k ih =>
    unfold pumpJob
    repeat' (first | exact Sub.trans (by decide) hm | intro _ | with_reducible assumption | with_reducible apply ih | with_reducible refine Frame.pair ‹_› ?_ | with_reducible apply lineRead_frame | with_reducible apply Frame.ite | extract_lets | split)

theorem startJob_frame {fm : Nat} {s0 : State} (hm : Sub 0x20000 fm) (who : Reader) (ident addr n stride : Nat) (s : State) (h : Frame fm s0 s) :
    Frame fm s0 ((startJob who ident addr n stride s).2) := by
  unfold startJob
  repeat' (first | exact Sub.trans (by decide) hm | intro _ | with_reducible assumption | with_reducible refine Frame.pair ‹_› ?_ | with_reducible apply pumpJob_frame)

theorem abandonReads_frame {fm : Nat} {s0 : State} (hm : Sub 0x20000 fm) (who : Reader) (s : State) (h : Frame fm s0 s) :
    Frame fm s0 ((abandonReads who s)) := by
  unfold abandonReads
  repeat' (first | exact Sub.trans (by decide) hm | intro _ | with_reducible assumption | with_reducible apply modBus_frame | extract_lets)

theorem fetchMore_frame {fm : Nat} {s0 : State} (hm : Sub 0x20000 fm) (k : CmdKey) (s : State) (h : Frame fm s0 s) :
    Frame fm s0 ((fetchMore k s)) := by
  unfold fetchMore
  repeat' (first | exact Sub.trans (by decide) hm | intro _ | with_reducible assumption | with_reducible apply hostRead_frame | extract_lets | split)

theorem fetchTable_frame {fm : Nat} {s0 : State} (hm : Sub 0x30000 fm) (k : CmdKey) (addr len : Nat) (s : State) (h : Frame fm s0 s) :
    Frame fm s0 ((fetchTable k addr len s)) := by
  unfold fetchTable
  repeat' (first | exact Sub.trans (by decide) hm | intro _ | with_reducible assumption | with_reducible apply fetchMore_frame | with_reducible apply modCmd_frame | with_reducible apply Frame.ite | extract_lets | split)

/-! ### Continuity -/

theorem modCont_frame {fm : Nat} {s0 : State} (hm : Sub 0x200000 fm) (f : ContState → ContState) (s : State) (h : Frame fm s0 s) :
    Frame fm s0 ((modCont f s)) := by
  unfold modCont
  repeat' (first | exact Sub.trans (by decide) hm | intro _ | with_reducible assumption | (simp only [Frame_mk]; first | with_reducible apply FrameC.cont_upd) | extract_lets)

theorem showCont_frame {fm : Nat} {s0 : State} (hm : Sub 0x1 fm) (s : State) (h : Frame fm s0 s) :
    Frame fm s0 ((showCont s)) := by
  unfold showCont
  repeat' (first | exact Sub.trans (by decide) hm | intro _ | with_reducible assumption | with_reducible apply State.fs_frame | extract_lets | split)

theorem writeStreamMap_frame {fm : Nat} {s0 : State} (hm : Sub 0x1 fm) (i v : Nat) (s : State) (h : Frame fm s0 s) :
    Frame fm s0 ((writeStreamMap i v s)) := by
  unfold writeStreamMap
  repeat' (first | exact Sub.trans (by decide) hm | intro _ | with_reducible assumption | with_reducible apply plainWrite_frame | with_reducible apply State.wrN_frame | with_reducible apply Frame.ite | extract_lets | split)

theorem ledgerCut_frame {fm : Nat} {s0 : State} (hm : Sub 0x80 fm) (k : CmdKey) (check : Bool) (s : State) (h : Frame fm s0 s) :
    Frame fm s0 ((ledgerCut k check s).2) := by
  unfold ledgerCut
  repeat' (first | exact Sub.trans (by decide) hm | intro _ | with_reducible assumption | with_reducible refine Frame.pair ‹_› ?_ | with_reducible apply triggerNow_frame | with_reducible apply Frame.ite | split)

theorem readStreams_frame {fm : Nat} {s0 : State} (hm : Sub 0x30 fm) (check : Bool) (sr : StreamRead) (s : State) (h : Frame fm s0 s) :
    Frame fm s0 ((readStreams check sr s).2) := by
  unfold readStreams
  repeat' (first | exact Sub.trans (by decide) hm | intro _ | with_reducible assumption | with_reducible refine Frame.pair ‹_› ?_ | with_reducible apply issueAccess_frame | with_reducible apply Frame.foldl | extract_lets)

theorem endRecord_frame {fm : Nat} {s0 : State} (hm : Sub 0x210001 fm) (status result : Nat) (s : State) (h : Frame fm s0 s) :
    Frame fm s0 ((endRecord status result s)) := by
  unfold endRecord
  repeat' (first | exact Sub.trans (by decide) hm | intro _ | with_reducible assumption | with_reducible apply completeCmd_frame | with_reducible apply modCont_frame | with_reducible apply showCont_frame | extract_lets | split)

theorem writeRecord_frame {fm : Nat} {s0 : State} (hm : Sub 0x220000 fm) (j : RecordJob) (s : State) (h : Frame fm s0 s) :
    Frame fm s0 ((writeRecord j s)) := by
  unfold writeRecord
  repeat' (first | exact Sub.trans (by decide) hm | intro _ | with_reducible assumption | with_reducible apply lineWrites_frame | with_reducible apply modCont_frame | extract_lets | split)

theorem runRecord_frame {fm : Nat} {s0 : State} (hm : Sub 0x230081 fm) (s : State) (h : Frame fm s0 s) :
    Frame fm s0 ((runRecord s)) := by
  unfold runRecord
  repeat' (first | exact Sub.trans (by decide) hm | intro _ | with_reducible assumption | with_reducible refine Frame.pair ‹_› ?_ | with_reducible apply endRecord_frame | with_reducible apply ledgerCut_frame | with_reducible apply modCont_frame | with_reducible apply writeRecord_frame | with_reducible apply Frame.ite | extract_lets | split)

theorem beginRecord_frame {fm : Nat} {s0 : State} (hm : Sub 0x230081 fm) (k : CmdKey) (s : State) (h : Frame fm s0 s) :
    Frame fm s0 ((beginRecord k s)) := by
  unfold beginRecord
  repeat' (first | exact Sub.trans (by decide) hm | intro _ | with_reducible assumption | with_reducible apply modCont_frame | with_reducible apply runRecord_frame | with_reducible apply showCont_frame | extract_lets)

theorem recordReads_frame {fm : Nat} {s0 : State} (hm : Sub 0x230081 fm) (j : RecordJob) (s : State) (h : Frame fm s0 s) :
    Frame fm s0 ((recordReads j s)) := by
  unfold recordReads
  repeat' (first | exact Sub.trans (by decide) hm | intro _ | with_reducible assumption | with_reducible apply modCont_frame | with_reducible apply runRecord_frame | with_reducible apply Frame.ite | extract_lets | split)

theorem expireRecord_frame {fm : Nat} {s0 : State} (hm : Sub 0x32befbd fm) (s : State) (h : Frame fm s0 s) :
    Frame fm s0 ((expireRecord s)) := by
  unfold expireRecord
  repeat' (first | exact Sub.trans (by decide) hm | intro _ | with_reducible assumption | with_reducible apply endRecord_frame | with_reducible apply serviceMiss_frame | with_reducible apply Frame.ite | extract_lets | split)

theorem ledgerAck_frame {fm : Nat} {s0 : State} (hm : Sub 0x32befbd fm) (k : CmdKey) (good : Bool) (s : State) (h : Frame fm s0 s) :
    Frame fm s0 ((ledgerAck k good s)) := by
  unfold ledgerAck
  repeat' (first | exact Sub.trans (by decide) hm | intro _ | with_reducible assumption | with_reducible apply endRecord_frame | with_reducible apply expireRecord_frame | with_reducible apply State.fs_frame | with_reducible apply Frame.ite | extract_lets | split)

theorem runScan_frame {fm : Nat} {s0 : State} (hm : Sub 0x220000 fm) (s : State) (h : Frame fm s0 s) :
    Frame fm s0 ((runScan s)) := by
  unfold runScan
  repeat' (first | exact Sub.trans (by decide) hm | intro _ | with_reducible assumption | with_reducible refine Frame.pair ‹_› ?_ | with_reducible apply modCont_frame | with_reducible apply pumpJob_frame | with_reducible apply Frame.ite | extract_lets | split)

theorem writeContCtl_frame {fm : Nat} {s0 : State} (hm : Sub 0x220001 fm) (v : Nat) (s : State) (h : Frame fm s0 s) :
    Frame fm s0 ((writeContCtl v s)) := by
  unfold writeContCtl
  repeat' (first | exact Sub.trans (by decide) hm | intro _ | with_reducible assumption | with_reducible apply abandonReads_frame | with_reducible apply modCont_frame | with_reducible apply plainWrite_frame | with_reducible apply runScan_frame | with_reducible apply showCont_frame | with_reducible apply Frame.ite | extract_lets | split)

theorem endCheck_frame {fm : Nat} {s0 : State} (hm : Sub 0x230001 fm) (status result : Nat) (s : State) (h : Frame fm s0 s) :
    Frame fm s0 ((endCheck status result s)) := by
  unfold endCheck
  repeat' (first | exact Sub.trans (by decide) hm | intro _ | with_reducible assumption | with_reducible apply abandonReads_frame | with_reducible apply completeCmd_frame | with_reducible apply modCont_frame | with_reducible apply showCont_frame | extract_lets | split)

theorem concludeCheck_frame {fm : Nat} {s0 : State} (hm : Sub 0x32befbd fm) (j : CheckJob) (s : State) (h : Frame fm s0 s) :
    Frame fm s0 ((concludeCheck j s)) := by
  unfold concludeCheck
  repeat' (first | exact Sub.trans (by decide) hm | intro _ | with_reducible assumption | with_reducible apply centralFault_frame | with_reducible apply finishWithBytes_frame | with_reducible apply modCont_frame | with_reducible apply postEvent_frame | with_reducible apply showCont_frame | with_reducible apply tick_frame | with_reducible apply Frame.ite | extract_lets | split)

theorem runCheck_frame {fm : Nat} {s0 : State} (hm : Sub 0x230081 fm) (s : State) (h : Frame fm s0 s) :
    Frame fm s0 ((runCheck s)) := by
  unfold runCheck
  repeat' (first | exact Sub.trans (by decide) hm | intro _ | with_reducible assumption | with_reducible refine Frame.pair ‹_› ?_ | with_reducible apply endCheck_frame | with_reducible apply ledgerCut_frame | with_reducible apply modCont_frame | with_reducible apply pumpJob_frame | with_reducible apply Frame.ite | extract_lets | split)

theorem lookAt_frame {fm : Nat} {s0 : State} (hm : Sub 0x230081 fm) (j : CheckJob) (idx : Nat) (s : State) (h : Frame fm s0 s) :
    Frame fm s0 ((lookAt j idx s)) := by
  unfold lookAt
  repeat' (first | exact Sub.trans (by decide) hm | intro _ | with_reducible assumption | with_reducible apply endCheck_frame | with_reducible apply modCont_frame | with_reducible apply runCheck_frame | with_reducible apply Frame.ite | extract_lets | split)

theorem beginCheck_frame {fm : Nat} {s0 : State} (hm : Sub 0x230081 fm) (k : CmdKey) (s : State) (h : Frame fm s0 s) :
    Frame fm s0 ((beginCheck k s)) := by
  unfold beginCheck
  repeat' (first | exact Sub.trans (by decide) hm | intro _ | with_reducible assumption | with_reducible apply endCheck_frame | with_reducible apply lookAt_frame | with_reducible apply modCont_frame | with_reducible apply showCont_frame | with_reducible apply Frame.ite | extract_lets | split)

theorem checkEntry_frame {fm : Nat} {s0 : State} (hm : Sub 0x32befbd fm) (j : CheckJob) (s : State) (h : Frame fm s0 s) :
    Frame fm s0 ((checkEntry j s)) := by
  unfold checkEntry
  repeat' (first | exact Sub.trans (by decide) hm | intro _ | with_reducible assumption | with_reducible apply concludeCheck_frame | with_reducible apply State.fs_frame | with_reducible apply lookAt_frame | with_reducible apply modCont_frame | with_reducible apply runCheck_frame | with_reducible apply Frame.ite | extract_lets | split)

theorem checkReads_frame {fm : Nat} {s0 : State} (hm : Sub 0x32befbd fm) (j : CheckJob) (s : State) (h : Frame fm s0 s) :
    Frame fm s0 ((checkReads j s)) := by
  unfold checkReads
  repeat' (first | exact Sub.trans (by decide) hm | intro _ | with_reducible assumption | with_reducible apply concludeCheck_frame | with_reducible apply modCont_frame | with_reducible apply runCheck_frame | with_reducible apply Frame.ite | extract_lets | split)

theorem expireCheck_frame {fm : Nat} {s0 : State} (hm : Sub 0x32befbd fm) (s : State) (h : Frame fm s0 s) :
    Frame fm s0 ((expireCheck s)) := by
  unfold expireCheck
  repeat' (first | exact Sub.trans (by decide) hm | intro _ | with_reducible assumption | with_reducible apply endCheck_frame | with_reducible apply serviceMiss_frame | with_reducible apply Frame.ite | extract_lets | split)

theorem ledgerTick_frame {fm : Nat} {s0 : State} (hm : Sub 0x32befbd fm) (check : Bool) (tick count : Nat) (s : State) (h : Frame fm s0 s) :
    Frame fm s0 ((ledgerTick check tick count s)) := by
  unfold ledgerTick
  repeat' (first | exact Sub.trans (by decide) hm | intro _ | with_reducible assumption | with_reducible refine Frame.pair ‹_› ?_ | with_reducible apply checkReads_frame | with_reducible apply expireCheck_frame | with_reducible apply expireRecord_frame | with_reducible apply modCont_frame | with_reducible apply readStreams_frame | with_reducible apply recordReads_frame | with_reducible apply tick_frame | with_reducible apply Frame.ite | extract_lets | split)

theorem streamWord_frame {fm : Nat} {s0 : State} (hm : Sub 0x32befbd fm) (check : Bool) (strm word : Nat) (v : Option Nat) (s : State) (h : Frame fm s0 s) :
    Frame fm s0 ((streamWord check strm word v s)) := by
  unfold streamWord
  repeat' (first | exact Sub.trans (by decide) hm | intro _ | with_reducible assumption | with_reducible apply checkReads_frame | with_reducible apply expireCheck_frame | with_reducible apply expireRecord_frame | with_reducible apply modCont_frame | with_reducible apply recordReads_frame | with_reducible apply Frame.ite | extract_lets | split)

theorem runDigest_frame {fm : Nat} {s0 : State} (hm : Sub 0x220000 fm) (s : State) (h : Frame fm s0 s) :
    Frame fm s0 ((runDigest s)) := by
  unfold runDigest
  repeat' (first | exact Sub.trans (by decide) hm | intro _ | with_reducible assumption | with_reducible refine Frame.pair ‹_› ?_ | with_reducible apply modCont_frame | with_reducible apply pumpJob_frame | with_reducible apply Frame.ite | extract_lets | split)

theorem askDigest_frame {fm : Nat} {s0 : State} (hm : Sub 0x220001 fm) (use : DigestUse) (addr len : Nat) (s : State) (h : Frame fm s0 s) :
    Frame fm s0 ((askDigest use addr len s)) := by
  unfold askDigest
  repeat' (first | exact Sub.trans (by decide) hm | intro _ | with_reducible assumption | with_reducible apply modCont_frame | with_reducible apply runDigest_frame | with_reducible apply showCont_frame | extract_lets)

theorem dropDigest_frame {fm : Nat} {s0 : State} (hm : Sub 0x220001 fm) (use : DigestUse → Bool) (s : State) (h : Frame fm s0 s) :
    Frame fm s0 ((dropDigest use s)) := by
  unfold dropDigest
  repeat' (first | exact Sub.trans (by decide) hm | intro _ | with_reducible assumption | with_reducible apply abandonReads_frame | with_reducible apply modCont_frame | with_reducible apply runDigest_frame | with_reducible apply showCont_frame | with_reducible apply Frame.ite | extract_lets | split)

theorem endVerify_frame {fm : Nat} {s0 : State} (hm : Sub 0x230001 fm) (result status : Nat) (j : VerifyJob) (s : State) (h : Frame fm s0 s) :
    Frame fm s0 ((endVerify result status j s)) := by
  unfold endVerify
  repeat' (first | exact Sub.trans (by decide) hm | intro _ | with_reducible assumption | with_reducible apply dropDigest_frame | with_reducible apply finishWithBytes_frame | with_reducible apply modCont_frame | extract_lets | split)

theorem decideVerify_frame {fm : Nat} {s0 : State} (hm : Sub 0x32befbd fm) (s : State) (h : Frame fm s0 s) :
    Frame fm s0 ((decideVerify s)) := by
  unfold decideVerify
  repeat' (first | exact Sub.trans (by decide) hm | intro _ | with_reducible assumption | with_reducible apply centralFault_frame | with_reducible apply endVerify_frame | with_reducible apply Frame.ite | extract_lets | split)

theorem runVerify_frame {fm : Nat} {s0 : State} (hm : Sub 0x220000 fm) (s : State) (h : Frame fm s0 s) :
    Frame fm s0 ((runVerify s)) := by
  unfold runVerify
  repeat' (first | exact Sub.trans (by decide) hm | intro _ | with_reducible assumption | with_reducible apply modCont_frame | with_reducible apply sendBulk_frame | with_reducible apply Frame.ite | extract_lets | split)

theorem beginVerify_frame {fm : Nat} {s0 : State} (hm : Sub 0x220001 fm) (k : CmdKey) (s : State) (h : Frame fm s0 s) :
    Frame fm s0 ((beginVerify k s)) := by
  unfold beginVerify
  repeat' (first | exact Sub.trans (by decide) hm | intro _ | with_reducible assumption | with_reducible apply askDigest_frame | with_reducible apply modCont_frame | with_reducible apply runVerify_frame | extract_lets | split)

theorem expireVerify_frame {fm : Nat} {s0 : State} (hm : Sub 0x32befbd fm) (s : State) (h : Frame fm s0 s) :
    Frame fm s0 ((expireVerify s)) := by
  unfold expireVerify
  repeat' (first | exact Sub.trans (by decide) hm | intro _ | with_reducible assumption | with_reducible apply endVerify_frame | with_reducible apply serviceMiss_frame | with_reducible apply Frame.ite | extract_lets | split)

theorem finishCopy_frame {fm : Nat} {s0 : State} (hm : Sub 0x32befbd fm) (cause failTs : Nat) (j : CopyJob) (s : State) (h : Frame fm s0 s) :
    Frame fm s0 ((finishCopy cause failTs j s)) := by
  unfold finishCopy
  repeat' (first | exact Sub.trans (by decide) hm | intro _ | with_reducible assumption | with_reducible apply abandonReads_frame | with_reducible apply centralFault_frame | with_reducible apply dropDigest_frame | with_reducible apply finishWithBytes_frame | with_reducible apply modCont_frame | with_reducible apply serviceMiss_frame | with_reducible apply Frame.ite | extract_lets | split)

theorem settleCopy_frame {fm : Nat} {s0 : State} (hm : Sub 0x32befbd fm) (s : State) (h : Frame fm s0 s) :
    Frame fm s0 ((settleCopy s)) := by
  unfold settleCopy
  repeat' (first | exact Sub.trans (by decide) hm | intro _ | with_reducible assumption | with_reducible apply finishCopy_frame | extract_lets | split)

theorem failCopy_frame {fm : Nat} {s0 : State} (hm : Sub 0x32befbd fm) (cause : Nat) (s : State) (h : Frame fm s0 s) :
    Frame fm s0 ((failCopy cause s)) := by
  unfold failCopy
  repeat' (first | exact Sub.trans (by decide) hm | intro _ | with_reducible assumption | with_reducible apply modCont_frame | with_reducible apply settleCopy_frame | extract_lets | split)

theorem expireCopy_frame {fm : Nat} {s0 : State} (hm : Sub 0x32befbd fm) (s : State) (h : Frame fm s0 s) :
    Frame fm s0 ((expireCopy s)) := by
  unfold expireCopy
  repeat' (first | exact Sub.trans (by decide) hm | intro _ | with_reducible assumption | with_reducible apply failCopy_frame | with_reducible apply Frame.ite | extract_lets | split)

theorem pumpCopy_frame {fm : Nat} {s0 : State} (hm : Sub 0x220000 fm) (s : State) (h : Frame fm s0 s) :
    Frame fm s0 ((pumpCopy s)) := by
  unfold pumpCopy
  repeat' (first | exact Sub.trans (by decide) hm | intro _ | with_reducible assumption | with_reducible refine Frame.pair ‹_› ?_ | with_reducible apply modCont_frame | with_reducible apply pumpJob_frame | with_reducible apply Frame.ite | extract_lets | split)

theorem beginShard_frame {fm : Nat} {s0 : State} (hm : Sub 0x32befbd fm) (s : State) (h : Frame fm s0 s) :
    Frame fm s0 ((beginShard s)) := by
  unfold beginShard
  repeat' (first | exact Sub.trans (by decide) hm | intro _ | with_reducible assumption | with_reducible apply finishCopy_frame | with_reducible apply modCont_frame | with_reducible apply pumpCopy_frame | extract_lets | split)

theorem closeShard_frame {fm : Nat} {s0 : State} (hm : Sub 0x32befbd fm) (state : Nat) (s : State) (h : Frame fm s0 s) :
    Frame fm s0 ((closeShard state s)) := by
  unfold closeShard
  repeat' (first | exact Sub.trans (by decide) hm | intro _ | with_reducible assumption | with_reducible apply beginShard_frame | with_reducible apply modCont_frame | extract_lets | split)

theorem copyPlan_frame {fm : Nat} {s0 : State} (hm : Sub 0x32befbd fm) (k : CmdKey) (s : State) (h : Frame fm s0 s) :
    Frame fm s0 ((copyPlan k s)) := by
  unfold copyPlan
  repeat' (first | exact Sub.trans (by decide) hm | intro _ | with_reducible assumption | with_reducible apply beginShard_frame | with_reducible apply completeCmd_frame | with_reducible apply modCont_frame | with_reducible apply showCont_frame | with_reducible apply Frame.ite | extract_lets | split)

theorem beginCopy_frame {fm : Nat} {s0 : State} (hm : Sub 0x230001 fm) (k : CmdKey) (s : State) (h : Frame fm s0 s) :
    Frame fm s0 ((beginCopy k s)) := by
  unfold beginCopy
  repeat' (first | exact Sub.trans (by decide) hm | intro _ | with_reducible assumption | with_reducible apply fetchTable_frame | with_reducible apply modCont_frame | with_reducible apply showCont_frame | extract_lets | split)

theorem runShardVerify_frame {fm : Nat} {s0 : State} (hm : Sub 0x220000 fm) (s : State) (h : Frame fm s0 s) :
    Frame fm s0 ((runShardVerify s)) := by
  unfold runShardVerify
  repeat' (first | exact Sub.trans (by decide) hm | intro _ | with_reducible assumption | with_reducible apply modCont_frame | with_reducible apply sendBulk_frame | with_reducible apply Frame.ite | extract_lets | split)

theorem beginShardVerify_frame {fm : Nat} {s0 : State} (hm : Sub 0x220001 fm) (s : State) (h : Frame fm s0 s) :
    Frame fm s0 ((beginShardVerify s)) := by
  unfold beginShardVerify
  repeat' (first | exact Sub.trans (by decide) hm | intro _ | with_reducible assumption | with_reducible apply askDigest_frame | with_reducible apply modCont_frame | with_reducible apply runShardVerify_frame | with_reducible apply Frame.ite | extract_lets | split)

theorem decideShard_frame {fm : Nat} {s0 : State} (hm : Sub 0x32befbd fm) (s : State) (h : Frame fm s0 s) :
    Frame fm s0 ((decideShard s)) := by
  unfold decideShard
  repeat' (first | exact Sub.trans (by decide) hm | intro _ | with_reducible assumption | with_reducible apply centralFault_frame | with_reducible apply closeShard_frame | with_reducible apply Frame.ite | extract_lets | split)

theorem copyLine_frame {fm : Nat} {s0 : State} (hm : Sub 0x32befbd fm) (addr : Nat) (data : List Nat) (err : Bool) (s : State) (h : Frame fm s0 s) :
    Frame fm s0 ((copyLine addr data err s)) := by
  unfold copyLine
  repeat' (first | exact Sub.trans (by decide) hm | intro _ | with_reducible assumption | with_reducible apply expireCopy_frame | with_reducible apply failCopy_frame | with_reducible apply lineWrite_frame | with_reducible apply modCont_frame | with_reducible apply pumpCopy_frame | with_reducible apply Frame.ite | extract_lets | split)

theorem copyAck_frame {fm : Nat} {s0 : State} (hm : Sub 0x32befbd fm) (k : CmdKey) (good : Bool) (s : State) (h : Frame fm s0 s) :
    Frame fm s0 ((copyAck k good s)) := by
  unfold copyAck
  repeat' (first | exact Sub.trans (by decide) hm | intro _ | with_reducible assumption | with_reducible apply beginShardVerify_frame | with_reducible apply closeShard_frame | with_reducible apply expireCopy_frame | with_reducible apply failCopy_frame | with_reducible apply modCont_frame | with_reducible apply pumpCopy_frame | with_reducible apply Frame.ite | extract_lets | split)

theorem contResume_frame {fm : Nat} {s0 : State} (hm : Sub 0x230081 fm) (s : State) (h : Frame fm s0 s) :
    Frame fm s0 ((contResume s)) := by
  unfold contResume
  repeat' (first | exact Sub.trans (by decide) hm | intro _ | with_reducible assumption | with_reducible apply pumpCopy_frame | with_reducible apply runCheck_frame | with_reducible apply runDigest_frame | with_reducible apply runRecord_frame | with_reducible apply runScan_frame | with_reducible apply runShardVerify_frame | with_reducible apply runVerify_frame | with_reducible apply showCont_frame)

theorem warmCont_frame {fm : Nat} {s0 : State} (hm : Sub 0x200001 fm) (s : State) (h : Frame fm s0 s) :
    Frame fm s0 ((warmCont s)) := by
  unfold warmCont
  repeat' (first | exact Sub.trans (by decide) hm | intro _ | with_reducible assumption | with_reducible apply State.fs_frame | with_reducible apply showCont_frame | with_reducible apply Frame.ite | (simp only [Frame_mk]; first | with_reducible apply FrameC.cont_upd) | extract_lets | split)

theorem contLine_frame {fm : Nat} {s0 : State} (hm : Sub 0x32befbd fm) (who : Reader) (addr : Nat) (data : List Nat) (err : Bool) (s : State) (h : Frame fm s0 s) :
    Frame fm s0 ((contLine who addr data err s)) := by
  unfold contLine
  repeat' (first | exact Sub.trans (by decide) hm | intro _ | with_reducible assumption | with_reducible apply checkEntry_frame | with_reducible apply copyLine_frame | with_reducible apply expireCheck_frame | with_reducible apply modCont_frame | with_reducible apply runCheck_frame | with_reducible apply runDigest_frame | with_reducible apply runScan_frame | with_reducible apply Frame.ite | extract_lets | split)

theorem execStreamMapWrite_frame {fm : Nat} {s0 : State} (hm : Sub 0x1 fm) (id strm value : Nat) (s : State) (h : Frame fm s0 s) :
    FrameO fm s0 (execStreamMapWrite id strm value s) := by
  unfold execStreamMapWrite
  repeat' (first | with_reducible apply FrameO.act | with_reducible apply FrameO.ok | exact Sub.trans (by decide) hm | intro _ | with_reducible assumption | with_reducible apply State.gate_frame | with_reducible apply writeStreamMap_frame)

theorem execLedgerRecordTimeout_frame {fm : Nat} {s0 : State} (hm : Sub 0x32befbd fm) (s : State) (h : Frame fm s0 s) :
    FrameO fm s0 (execLedgerRecordTimeout s) := by
  unfold execLedgerRecordTimeout
  repeat' (first | with_reducible apply FrameO.act | with_reducible apply FrameO.ok | exact Sub.trans (by decide) hm | intro _ | with_reducible assumption | with_reducible apply expireRecord_frame)

theorem execLedgerScanStart_frame {fm : Nat} {s0 : State} (hm : Sub 0x220001 fm) (id value : Nat) (s : State) (h : Frame fm s0 s) :
    FrameO fm s0 (execLedgerScanStart id value s) := by
  unfold execLedgerScanStart
  repeat' (first | with_reducible apply FrameO.act | with_reducible apply FrameO.ok | exact Sub.trans (by decide) hm | intro _ | with_reducible assumption | with_reducible apply State.gate_frame | with_reducible apply writeContCtl_frame)

theorem execLedgerScanDone_frame {fm : Nat} {s0 : State} (hm : Sub 0x200001 fm) (s : State) (h : Frame fm s0 s) :
    FrameO fm s0 (execLedgerScanDone s) := by
  unfold execLedgerScanDone
  repeat' (first | with_reducible apply FrameO.act | with_reducible apply FrameO.ok | with_reducible apply FrameO.ite | exact Sub.trans (by decide) hm | intro _ | with_reducible assumption | with_reducible apply State.fs_frame | with_reducible apply modCont_frame | with_reducible apply showCont_frame | with_reducible apply Frame.ite | with_reducible apply Frame.foldl | extract_lets | split)

theorem execLedgerCheckTimeout_frame {fm : Nat} {s0 : State} (hm : Sub 0x32befbd fm) (s : State) (h : Frame fm s0 s) :
    FrameO fm s0 (execLedgerCheckTimeout s) := by
  unfold execLedgerCheckTimeout
  repeat' (first | with_reducible apply FrameO.act | with_reducible apply FrameO.ok | exact Sub.trans (by decide) hm | intro _ | with_reducible assumption | with_reducible apply expireCheck_frame)

theorem execDigestReqReceive_frame {fm : Nat} {s0 : State} (hm : Sub 0x220001 fm) (node tag job64 addr64 len64 : Nat) (s : State) (h : Frame fm s0 s) :
    FrameO fm s0 (execDigestReqReceive node tag job64 addr64 len64 s) := by
  unfold execDigestReqReceive
  repeat' (first | with_reducible apply FrameO.awake | with_reducible apply FrameO.ok | with_reducible apply FrameO.ite | exact Sub.trans (by decide) hm | intro _ | with_reducible assumption | with_reducible apply askDigest_frame | with_reducible apply sendBulk_frame | with_reducible apply Frame.ite | extract_lets | split)

theorem execMirrorVerifyTimeout_frame {fm : Nat} {s0 : State} (hm : Sub 0x32befbd fm) (s : State) (h : Frame fm s0 s) :
    FrameO fm s0 (execMirrorVerifyTimeout s) := by
  unfold execMirrorVerifyTimeout
  repeat' (first | with_reducible apply FrameO.act | with_reducible apply FrameO.ok | exact Sub.trans (by decide) hm | intro _ | with_reducible assumption | with_reducible apply expireVerify_frame)

theorem execCopyTimeout_frame {fm : Nat} {s0 : State} (hm : Sub 0x32befbd fm) (s : State) (h : Frame fm s0 s) :
    FrameO fm s0 (execCopyTimeout s) := by
  unfold execCopyTimeout
  repeat' (first | with_reducible apply FrameO.act | with_reducible apply FrameO.ok | exact Sub.trans (by decide) hm | intro _ | with_reducible assumption | with_reducible apply expireCopy_frame)

theorem execContAbortCopy_frame {fm : Nat} {s0 : State} (hm : Sub 0x32befbd fm) (id : Nat) (s : State) (h : Frame fm s0 s) :
    FrameO fm s0 (execContAbortCopy id s) := by
  unfold execContAbortCopy
  repeat' (first | with_reducible apply FrameO.act | with_reducible apply FrameO.ok | exact Sub.trans (by decide) hm | intro _ | with_reducible assumption | with_reducible apply failCopy_frame | with_reducible apply State.gate_frame)

theorem execRegionDigestDone_frame {fm : Nat} {s0 : State} (hm : Sub 0x32befbd fm) (s : State) (h : Frame fm s0 s) :
    FrameO fm s0 (execRegionDigestDone s) := by
  unfold execRegionDigestDone
  repeat' (first | with_reducible apply FrameO.act | with_reducible apply FrameO.ok | with_reducible apply FrameO.ite | exact Sub.trans (by decide) hm | intro _ | with_reducible assumption | with_reducible apply abandonReads_frame | with_reducible apply decideShard_frame | with_reducible apply decideVerify_frame | with_reducible apply expireCopy_frame | with_reducible apply expireVerify_frame | with_reducible apply modCont_frame | with_reducible apply runDigest_frame | with_reducible apply sendBulk_frame | with_reducible apply showCont_frame | with_reducible apply Frame.ite | extract_lets | split)

theorem execDigestRspReceive_frame {fm : Nat} {s0 : State} (hm : Sub 0x32befbd fm) (node status tag addr64 len64 digest64 : Nat) (s : State) (h : Frame fm s0 s) :
    FrameO fm s0 (execDigestRspReceive node status tag addr64 len64 digest64 s) := by
  unfold execDigestRspReceive
  repeat' (first | with_reducible apply FrameO.awake | with_reducible apply FrameO.ok | with_reducible apply FrameO.ite | exact Sub.trans (by decide) hm | intro _ | with_reducible assumption | with_reducible apply decideShard_frame | with_reducible apply decideVerify_frame | with_reducible apply expireCopy_frame | with_reducible apply expireVerify_frame | with_reducible apply modCont_frame | with_reducible apply Frame.ite | extract_lets | split)

/-! ### Container -/

theorem modLehr_frame {fm : Nat} {s0 : State} (hm : Sub 0x2000 fm) (f : LehrState → LehrState) (s : State) (hf : ∀ t : LehrState, Memory.wf t.keep = true → Memory.wf (f t).keep = true)
    (h : Frame fm s0 s) : Frame fm s0 (modLehr f s) := by
  unfold modLehr
  rw [Frame_mk]
  exact FrameC.lehr_upd _ hm (hf _) h

theorem modDest_frame {fm : Nat} {s0 : State} (hm : Sub 0x2000 fm) (i : Nat) (f : DumpDest → DumpDest) (s : State) (h : Frame fm s0 s) :
    Frame fm s0 ((modDest i f s)) := by
  unfold modDest
  repeat' (first | exact Sub.trans (by decide) hm | intro _ | with_reducible assumption | with_reducible apply modLehr_frame | with_reducible apply Frame.ite | extract_lets | split | (show Memory.wf _ = true; assumption))

theorem pumpDest_frame {fm : Nat} {s0 : State} (hm : Sub 0x22000 fm) (i : Nat) (z0 : Nat) (z1 : State) (h : Frame fm s0 z1) :
    Frame fm s0 ((pumpDest i z0 z1)) := by
  induction z0 generalizing z1 with
  | zero =>
    unfold pumpDest
    repeat' (first | exact Sub.trans (by decide) hm | intro _ | with_reducible assumption | with_reducible apply hostWriteBytes_frame | with_reducible apply lineWrites_frame | with_reducible apply modDest_frame | with_reducible apply modLehr_frame | with_reducible apply Frame.ite | extract_lets | split | (apply memPutBytes_wf; assumption) | (show Memory.wf _ = true; assumption))
  | succ k ih =>
    unfold pumpDest
    repeat' (first | exact Sub.trans (by decide) hm | intro _ | with_reducible assumption | with_reducible apply ih | with_reducible apply hostWriteBytes_frame | with_reducible apply lineWrites_frame | with_reducible apply modDest_frame | with_reducible apply modLehr_frame | with_reducible apply Frame.ite | extract_lets | split | (apply memPutBytes_wf; assumption) | (show Memory.wf _ = true; assumption))

theorem pushWrites_frame {fm : Nat} {s0 : State} (hm : Sub 0x22000 fm) (i : Nat) (ws : List (Nat × List Nat)) (s : State) (h : Frame fm s0 s) :
    Frame fm s0 ((pushWrites i ws s)) := by
  unfold pushWrites
  repeat' (first | exact Sub.trans (by decide) hm | intro _ | with_reducible assumption | with_reducible apply modDest_frame | with_reducible apply pumpDest_frame | extract_lets)

theorem writeOpen_frame {fm : Nat} {s0 : State} (hm : Sub 0x22000 fm) (i : Nat) (s : State) (h : Frame fm s0 s) :
    Frame fm s0 ((writeOpen i s)) := by
  unfold writeOpen
  repeat' (first | exact Sub.trans (by decide) hm | intro _ | with_reducible assumption | with_reducible apply pushWrites_frame)

theorem placeKeep_frame {fm : Nat} {s0 : State} (hm : Sub 0x22000 fm) (i : Nat) (x : DumpSect) (s : State) (h : Frame fm s0 s) :
    Frame fm s0 ((placeKeep i x s)) := by
  unfold placeKeep
  repeat' (first | exact Sub.trans (by decide) hm | intro _ | with_reducible assumption | with_reducible apply modDest_frame | with_reducible apply modLehr_frame | with_reducible apply pushWrites_frame | with_reducible apply Frame.ite | extract_lets | split | (show Memory.wf _ = true; assumption))

theorem writeTable_frame {fm : Nat} {s0 : State} (hm : Sub 0x22000 fm) (i : Nat) (s : State) (h : Frame fm s0 s) :
    Frame fm s0 ((writeTable i s)) := by
  unfold writeTable
  repeat' (first | exact Sub.trans (by decide) hm | intro _ | with_reducible assumption | with_reducible apply pushWrites_frame | extract_lets | split)

theorem writeSeal_frame {fm : Nat} {s0 : State} (hm : Sub 0x22000 fm) (i : Nat) (s : State) (h : Frame fm s0 s) :
    Frame fm s0 ((writeSeal i s)) := by
  unfold writeSeal
  repeat' (first | exact Sub.trans (by decide) hm | intro _ | with_reducible assumption | with_reducible apply modLehr_frame | with_reducible apply pushWrites_frame | with_reducible apply Frame.ite | extract_lets | split | (show Memory.wf _ = true; assumption))

theorem clearKeep_frame {fm : Nat} {s0 : State} (hm : Sub 0x2001 fm) (s : State) (h : Frame fm s0 s) :
    Frame fm s0 ((clearKeep s)) := by
  unfold clearKeep
  repeat' (first | exact Sub.trans (by decide) hm | intro _ | with_reducible assumption | with_reducible apply modLehr_frame | with_reducible apply unpinDir_frame | with_reducible apply Frame.ite | extract_lets | split | (show Memory.wf [] = true; rfl) | (show Memory.wf _ = true; assumption))

theorem takeKeep_frame {fm : Nat} {s0 : State} (hm : Sub 0x22001 fm) (slot : Nat) (s : State) (h : Frame fm s0 s) :
    Frame fm s0 ((takeKeep slot s)) := by
  unfold takeKeep
  repeat' (first | exact Sub.trans (by decide) hm | intro _ | with_reducible assumption | with_reducible apply clearKeep_frame | with_reducible apply State.fs_frame | with_reducible apply modLehr_frame | with_reducible apply placeKeep_frame | with_reducible apply writeOpen_frame | with_reducible apply writeSeal_frame | with_reducible apply writeTable_frame | with_reducible apply Frame.ite | with_reducible apply Frame.foldl | extract_lets | split | (show Memory.wf _ = true; assumption))

theorem failDest_frame {fm : Nat} {s0 : State} (hm : Sub 0x22001 fm) (i : Nat) (s : State) (h : Frame fm s0 s) :
    Frame fm s0 ((failDest i s)) := by
  unfold failDest
  repeat' (first | exact Sub.trans (by decide) hm | intro _ | with_reducible assumption | with_reducible apply State.fs_frame | with_reducible apply modDest_frame | with_reducible apply modLehr_frame | with_reducible apply takeKeep_frame | with_reducible apply Frame.ite | extract_lets | split | (show Memory.wf [] = true; rfl) | (show Memory.wf _ = true; assumption))

theorem openSect_frame {fm : Nat} {s0 : State} (hm : Sub 0x22000 fm) (ty enc : Nat) (s : State) (h : Frame fm s0 s) :
    Frame fm s0 ((openSect ty enc s)) := by
  unfold openSect
  repeat' (first | exact Sub.trans (by decide) hm | intro _ | with_reducible assumption | with_reducible apply modDest_frame | with_reducible apply modLehr_frame | with_reducible apply pushWrites_frame | with_reducible apply Frame.ite | with_reducible apply Frame.foldl | extract_lets | split | (show Memory.wf _ = true; assumption))

theorem appendSect_frame {fm : Nat} {s0 : State} (hm : Sub 0x22001 fm) (bs : List Nat) (s : State) (h : Frame fm s0 s) :
    Frame fm s0 ((appendSect bs s)) := by
  unfold appendSect
  repeat' (first | exact Sub.trans (by decide) hm | intro _ | with_reducible assumption | with_reducible apply failDest_frame | with_reducible apply modLehr_frame | with_reducible apply pushWrites_frame | with_reducible apply Frame.ite | with_reducible apply Frame.foldl | extract_lets | split | (show Memory.wf _ = true; assumption))

theorem closeSect_frame {fm : Nat} {s0 : State} (hm : Sub 0x22000 fm) (sflags aux raw : Nat) (s : State) (h : Frame fm s0 s) :
    Frame fm s0 ((closeSect sflags aux raw s)) := by
  unfold closeSect
  repeat' (first | exact Sub.trans (by decide) hm | intro _ | with_reducible assumption | with_reducible apply modDest_frame | with_reducible apply modLehr_frame | with_reducible apply placeKeep_frame | with_reducible apply pushWrites_frame | with_reducible apply Frame.ite | with_reducible apply Frame.foldl | extract_lets | split | (show Memory.wf _ = true; assumption))

theorem addSect_frame {fm : Nat} {s0 : State} (hm : Sub 0x22001 fm) (x : DumpSect) (s : State) (h : Frame fm s0 s) :
    Frame fm s0 ((addSect x s)) := by
  unfold addSect
  repeat' (first | exact Sub.trans (by decide) hm | intro _ | with_reducible assumption | with_reducible apply appendSect_frame | with_reducible apply closeSect_frame | with_reducible apply modLehr_frame | with_reducible apply openSect_frame | with_reducible apply Frame.ite | extract_lets | split | (show Memory.wf _ = true; assumption))

/-! ### Lehr -/

theorem checkDest_frame {fm : Nat} {s0 : State} (hm : Sub 0x1 fm) (d : Nat) (s : State) (h : Frame fm s0 s) :
    Frame fm s0 ((checkDest d s)) := by
  unfold checkDest
  repeat' (first | exact Sub.trans (by decide) hm | intro _ | with_reducible assumption | with_reducible apply State.fs_frame)

theorem writeDest_frame {fm : Nat} {s0 : State} (hm : Sub 0x1 fm) (d w v : Nat) (s : State) (h : Frame fm s0 s) :
    Frame fm s0 ((writeDest d w v s)) := by
  unfold writeDest
  repeat' (first | exact Sub.trans (by decide) hm | intro _ | with_reducible assumption | with_reducible apply checkDest_frame | with_reducible apply plainWrite_frame | with_reducible apply State.wr64_frame | with_reducible apply Frame.ite | extract_lets | split)

theorem chooseDests_frame {fm : Nat} {s0 : State} (hm : Sub 0x22001 fm) (s : State) (h : Frame fm s0 s) :
    Frame fm s0 ((chooseDests s)) := by
  unfold chooseDests
  repeat' (first | exact Sub.trans (by decide) hm | intro _ | with_reducible assumption | with_reducible apply clearKeep_frame | with_reducible apply State.fs_frame | with_reducible apply modLehr_frame | with_reducible apply writeOpen_frame | with_reducible apply Frame.ite | with_reducible apply Frame.foldl | extract_lets | split | (show Memory.wf _ = true; assumption))

theorem enterPhase_frame {fm : Nat} {s0 : State} (hm : Sub 0x2001 fm) (p : Nat) (own : Option Nat) (s : State) (h : Frame fm s0 s) :
    Frame fm s0 ((enterPhase p own s)) := by
  unfold enterPhase
  repeat' (first | exact Sub.trans (by decide) hm | intro _ | with_reducible assumption | with_reducible apply State.fs_frame | with_reducible apply modLehr_frame | with_reducible apply Frame.ite | extract_lets | split | (show Memory.wf _ = true; assumption))

theorem lateDump_frame {fm : Nat} {s0 : State} (hm : Sub 0x32befbd fm) (p deadline : Nat) (atLimit : Bool) (s : State) (h : Frame fm s0 s) :
    Frame fm s0 ((lateDump p deadline atLimit s)) := by
  unfold lateDump
  repeat' (first | exact Sub.trans (by decide) hm | intro _ | with_reducible assumption | with_reducible apply centralFault_frame | with_reducible apply State.fs_frame | with_reducible apply modLehr_frame | extract_lets | split | (show Memory.wf _ = true; assumption))

theorem finishDump_frame {fm : Nat} {s0 : State} (hm : Sub 0x23e089 fm) (result : Nat) (sealed : Bool) (s : State) (h : Frame fm s0 s) :
    Frame fm s0 ((finishDump result sealed s)) := by
  unfold finishDump
  repeat' (first | exact Sub.trans (by decide) hm | intro _ | with_reducible assumption | with_reducible apply completeCmd_frame | with_reducible apply contResume_frame | with_reducible apply State.fs_frame | with_reducible apply modLehr_frame | with_reducible apply postEvent_frame | with_reducible apply releaseWaiting_frame | with_reducible apply unpinDir_frame | with_reducible apply State.wr64_frame | with_reducible apply State.wrN_frame | with_reducible apply Frame.ite | with_reducible apply Frame.foldl | extract_lets | split | (show Memory.wf _ = true; assumption))

theorem enterP5_frame {fm : Nat} {s0 : State} (hm : Sub 0x23e089 fm) (s : State) (h : Frame fm s0 s) :
    Frame fm s0 ((enterP5 s)) := by
  unfold enterP5
  repeat' (first | exact Sub.trans (by decide) hm | intro _ | with_reducible assumption | with_reducible apply enterPhase_frame | with_reducible apply finishDump_frame | with_reducible apply modLehr_frame | with_reducible apply writeSeal_frame | with_reducible apply Frame.ite | with_reducible apply Frame.foldl | extract_lets | split | (show Memory.wf _ = true; assumption))

theorem enterP4_frame {fm : Nat} {s0 : State} (hm : Sub 0x22001 fm) (s : State) (h : Frame fm s0 s) :
    Frame fm s0 ((enterP4 s)) := by
  unfold enterP4
  repeat' (first | exact Sub.trans (by decide) hm | intro _ | with_reducible assumption | with_reducible apply enterPhase_frame | with_reducible apply failDest_frame | with_reducible apply modLehr_frame | with_reducible apply writeTable_frame | with_reducible apply Frame.ite | with_reducible apply Frame.foldl | extract_lets | split | (show Memory.wf _ = true; assumption))

theorem closeWindow_frame {fm : Nat} {s0 : State} (hm : Sub 0x22001 fm) (u idx tag addr len flags : Nat) (j : LineJob) (cut : Bool) (s : State) (h : Frame fm s0 s) :
    Frame fm s0 ((closeWindow u idx tag addr len flags j cut s)) := by
  unfold closeWindow
  repeat' (first | exact Sub.trans (by decide) hm | intro _ | with_reducible assumption | with_reducible apply appendSect_frame | with_reducible apply modLehr_frame | with_reducible apply Frame.ite | extract_lets | split | (show Memory.wf _ = true; assumption))

theorem closeItem_frame {fm : Nat} {s0 : State} (hm : Sub 0x22001 fm) (cut : Bool) (s : State) (h : Frame fm s0 s) :
    Frame fm s0 ((closeItem cut s)) := by
  unfold closeItem
  repeat' (first | exact Sub.trans (by decide) hm | intro _ | with_reducible assumption | with_reducible apply closeWindow_frame | with_reducible apply modLehr_frame | with_reducible apply Frame.ite | with_reducible apply Frame.foldl | extract_lets | split | (show Memory.wf [] = true; rfl) | (show Memory.wf _ = true; assumption))

theorem endP3_frame {fm : Nat} {s0 : State} (hm : Sub 0x22001 fm) (s : State) (h : Frame fm s0 s) :
    Frame fm s0 ((endP3 s)) := by
  unfold endP3
  repeat' (first | exact Sub.trans (by decide) hm | intro _ | with_reducible assumption | with_reducible apply appendSect_frame | with_reducible apply closeSect_frame | with_reducible apply enterP4_frame | extract_lets | split)

theorem listRest_frame {fm : Nat} {s0 : State} (hm : Sub 0x22001 fm) (s : State) (h : Frame fm s0 s) :
    Frame fm s0 ((listRest s)) := by
  unfold listRest
  repeat' (first | exact Sub.trans (by decide) hm | intro _ | with_reducible assumption | with_reducible apply closeWindow_frame | with_reducible apply modLehr_frame | with_reducible apply Frame.foldl | extract_lets | split | (show Memory.wf [] = true; rfl) | (show Memory.wf _ = true; assumption))

theorem runP3_frame {fm : Nat} {s0 : State} (hm : Sub 0x22001 fm) (z0 : Nat) (z1 : State) (h : Frame fm s0 z1) :
    Frame fm s0 ((runP3 z0 z1)) := by
  induction z0 generalizing z1 with
  | zero =>
    unfold runP3
    repeat' (first | exact Sub.trans (by decide) hm | intro _ | with_reducible assumption | with_reducible refine Frame.pair ‹_› ?_ | with_reducible apply closeItem_frame | with_reducible apply closeWindow_frame | with_reducible apply endP3_frame | with_reducible apply modLehr_frame | with_reducible apply pumpJob_frame | with_reducible apply startJob_frame | with_reducible apply Frame.ite | extract_lets | split | (show Memory.wf _ = true; assumption))
  | succ k ih =>
    unfold runP3
    repeat' (first | exact Sub.trans (by decide) hm | intro _ | with_reducible assumption | with_reducible apply ih | with_reducible refine Frame.pair ‹_› ?_ | with_reducible apply closeItem_frame | with_reducible apply closeWindow_frame | with_reducible apply endP3_frame | with_reducible apply modLehr_frame | with_reducible apply pumpJob_frame | with_reducible apply startJob_frame | with_reducible apply Frame.ite | extract_lets | split | (show Memory.wf _ = true; assumption))

theorem enterP3_frame {fm : Nat} {s0 : State} (hm : Sub 0x22001 fm) (s : State) (h : Frame fm s0 s) :
    Frame fm s0 ((enterP3 s)) := by
  unfold enterP3
  repeat' (first | exact Sub.trans (by decide) hm | intro _ | with_reducible assumption | with_reducible apply appendSect_frame | with_reducible apply enterPhase_frame | with_reducible apply modLehr_frame | with_reducible apply openSect_frame | with_reducible apply runP3_frame | with_reducible apply Frame.ite | with_reducible apply Frame.foldl | extract_lets | split | (show Memory.wf _ = true; assumption))

theorem faultSection_frame {fm : Nat} {s0 : State} (hm : Sub 0x22001 fm) (s : State) (h : Frame fm s0 s) :
    Frame fm s0 ((faultSection s)) := by
  unfold faultSection
  repeat' (first | exact Sub.trans (by decide) hm | intro _ | with_reducible assumption | with_reducible apply addSect_frame | with_reducible apply modLehr_frame | extract_lets | split | (show Memory.wf _ = true; assumption))

theorem traceSection_frame {fm : Nat} {s0 : State} (hm : Sub 0x32401 fm) (s : State) (h : Frame fm s0 s) :
    Frame fm s0 ((traceSection s)) := by
  unfold traceSection
  repeat' (first | exact Sub.trans (by decide) hm | intro _ | with_reducible assumption | with_reducible apply addSect_frame | with_reducible apply freezeRing_frame | with_reducible apply modLehr_frame | extract_lets | (show Memory.wf _ = true; assumption))

theorem counterSection_frame {fm : Nat} {s0 : State} (hm : Sub 0x32befbd fm) (cut : Bool) (s : State) (h : Frame fm s0 s) :
    Frame fm s0 ((counterSection cut s)) := by
  unfold counterSection
  repeat' (first | exact Sub.trans (by decide) hm | intro _ | with_reducible assumption | with_reducible apply addSect_frame | with_reducible apply tick_frame | extract_lets)

theorem striaSection_frame {fm : Nat} {s0 : State} (hm : Sub 0x22001 fm) (cut : Bool) (s : State) (h : Frame fm s0 s) :
    Frame fm s0 ((striaSection cut s)) := by
  unfold striaSection
  repeat' (first | exact Sub.trans (by decide) hm | intro _ | with_reducible assumption | with_reducible apply addSect_frame | with_reducible apply modLehr_frame | extract_lets | (show Memory.wf _ = true; assumption))

theorem ledgerSection_frame {fm : Nat} {s0 : State} (hm : Sub 0x22001 fm) (cut : Bool) (s : State) (h : Frame fm s0 s) :
    Frame fm s0 ((ledgerSection cut s)) := by
  unfold ledgerSection
  repeat' (first | exact Sub.trans (by decide) hm | intro _ | with_reducible assumption | with_reducible apply addSect_frame | with_reducible apply modLehr_frame | extract_lets | (show Memory.wf [] = true; rfl) | (show Memory.wf _ = true; assumption))

theorem perturbSection_frame {fm : Nat} {s0 : State} (hm : Sub 0x22001 fm) (s : State) (h : Frame fm s0 s) :
    Frame fm s0 ((perturbSection s)) := by
  unfold perturbSection
  repeat' (first | exact Sub.trans (by decide) hm | intro _ | with_reducible assumption | with_reducible apply addSect_frame | with_reducible apply modLehr_frame | with_reducible apply Frame.ite | extract_lets | split | (show Memory.wf _ = true; assumption))

theorem runP2_frame {fm : Nat} {s0 : State} (hm : Sub 0x32befbd fm) (z0 : Nat) (z1 : State) (h : Frame fm s0 z1) :
    Frame fm s0 ((runP2 z0 z1)) := by
  induction z0 generalizing z1 with
  | zero =>
    unfold runP2
    repeat' (first | exact Sub.trans (by decide) hm | intro _ | with_reducible assumption | with_reducible refine Frame.pair ‹_› ?_ | with_reducible apply counterSection_frame | with_reducible apply enterP3_frame | with_reducible apply ledgerSection_frame | with_reducible apply modLehr_frame | with_reducible apply perturbSection_frame | with_reducible apply pumpJob_frame | with_reducible apply startJob_frame | with_reducible apply striaSection_frame | with_reducible apply Frame.ite | extract_lets | split | (show Memory.wf _ = true; assumption))
  | succ k ih =>
    unfold runP2
    repeat' (first | exact Sub.trans (by decide) hm | intro _ | with_reducible assumption | with_reducible apply ih | with_reducible refine Frame.pair ‹_› ?_ | with_reducible apply counterSection_frame | with_reducible apply enterP3_frame | with_reducible apply ledgerSection_frame | with_reducible apply modLehr_frame | with_reducible apply perturbSection_frame | with_reducible apply pumpJob_frame | with_reducible apply startJob_frame | with_reducible apply striaSection_frame | with_reducible apply Frame.ite | extract_lets | split | (show Memory.wf _ = true; assumption))

theorem enterP2_frame {fm : Nat} {s0 : State} (hm : Sub 0x32befbd fm) (s : State) (h : Frame fm s0 s) :
    Frame fm s0 ((enterP2 s)) := by
  unfold enterP2
  repeat' (first | exact Sub.trans (by decide) hm | intro _ | with_reducible assumption | with_reducible apply askRead_frame | with_reducible apply beginCtrRead_frame | with_reducible apply enterPhase_frame | with_reducible apply faultSection_frame | with_reducible apply modLehr_frame | with_reducible apply runP2_frame | with_reducible apply settleReads_frame | with_reducible apply tick_frame | with_reducible apply traceSection_frame | with_reducible apply Frame.ite | with_reducible apply Frame.foldl | extract_lets | split | (show Memory.wf [] = true; rfl) | (show Memory.wf _ = true; assumption))

theorem culletSection_frame {fm : Nat} {s0 : State} (hm : Sub 0x22001 fm) (cut : Bool) (spilled : List Nat) (s : State) (h : Frame fm s0 s) :
    Frame fm s0 ((culletSection cut spilled s)) := by
  unfold culletSection
  repeat' (first | exact Sub.trans (by decide) hm | intro _ | with_reducible assumption | with_reducible apply addSect_frame | with_reducible apply modLehr_frame | extract_lets | split | (show Memory.wf _ = true; assumption))

theorem runP1_frame {fm : Nat} {s0 : State} (hm : Sub 0x32befbd fm) (s : State) (h : Frame fm s0 s) :
    Frame fm s0 ((runP1 s)) := by
  unfold runP1
  repeat' (first | exact Sub.trans (by decide) hm | intro _ | with_reducible assumption | with_reducible refine Frame.pair ‹_› ?_ | with_reducible apply culletSection_frame | with_reducible apply enterP2_frame | with_reducible apply modLehr_frame | with_reducible apply pumpJob_frame | with_reducible apply setDirFlag_frame | with_reducible apply startJob_frame | with_reducible apply tick_frame | with_reducible apply Frame.ite | extract_lets | split | (show Memory.wf _ = true; assumption))

theorem lehrTick_frame {fm : Nat} {s0 : State} (hm : Sub 0x32befbd fm) (tick startTs cls : Nat) (s : State) (h : Frame fm s0 s) :
    Frame fm s0 ((lehrTick tick startTs cls s)) := by
  unfold lehrTick
  repeat' (first | exact Sub.trans (by decide) hm | intro _ | with_reducible assumption | with_reducible refine Frame.pair ‹_› ?_ | with_reducible apply askReadout_frame | with_reducible apply enterPhase_frame | with_reducible apply modLehr_frame | with_reducible apply runP1_frame | with_reducible apply tick_frame | with_reducible apply Frame.ite | extract_lets | split | (show Memory.wf _ = true; assumption))

theorem lehrNoCut_frame {fm : Nat} {s0 : State} (hm : Sub 0x32befbd fm) (s : State) (h : Frame fm s0 s) :
    Frame fm s0 ((lehrNoCut s)) := by
  unfold lehrNoCut
  repeat' (first | exact Sub.trans (by decide) hm | intro _ | with_reducible assumption | with_reducible apply enterP2_frame | with_reducible apply State.fs_frame | with_reducible apply lateDump_frame | extract_lets)

theorem endStriaReads_frame {fm : Nat} {s0 : State} (hm : Sub 0x2032831 fm) (s : State) (h : Frame fm s0 s) :
    Frame fm s0 ((endStriaReads s)) := by
  unfold endStriaReads
  repeat' (first | exact Sub.trans (by decide) hm | intro _ | with_reducible assumption | with_reducible apply abortRead_frame | with_reducible apply afterRead_frame | with_reducible apply modStria_frame | with_reducible apply Frame.ite | extract_lets | split)

theorem endCtrReads_frame {fm : Nat} {s0 : State} (hm : Sub 0x32201 fm) (s : State) (h : Frame fm s0 s) :
    Frame fm s0 ((endCtrReads s)) := by
  unfold endCtrReads
  repeat' (first | exact Sub.trans (by decide) hm | intro _ | with_reducible assumption | with_reducible apply endCtrRead_frame | with_reducible apply Frame.foldl)

theorem stopPhase_frame {fm : Nat} {s0 : State} (hm : Sub 0x32befbd fm) (p : Nat) (s : State) (h : Frame fm s0 s) :
    Frame fm s0 ((stopPhase p s)) := by
  unfold stopPhase
  repeat' (first | exact Sub.trans (by decide) hm | intro _ | with_reducible assumption | with_reducible apply abandonReads_frame | with_reducible apply closeItem_frame | with_reducible apply counterSection_frame | with_reducible apply culletSection_frame | with_reducible apply endCtrReads_frame | with_reducible apply endP3_frame | with_reducible apply endReadout_frame | with_reducible apply endStriaReads_frame | with_reducible apply enterP2_frame | with_reducible apply enterP3_frame | with_reducible apply enterP5_frame | with_reducible apply State.fs_frame | with_reducible apply ledgerSection_frame | with_reducible apply listRest_frame | with_reducible apply modCullet_frame | with_reducible apply modLehr_frame | with_reducible apply perturbSection_frame | with_reducible apply striaSection_frame | with_reducible apply tick_frame | with_reducible apply Frame.ite | extract_lets | split | (show Memory.wf _ = true; assumption))

theorem sealAgain_frame {fm : Nat} {s0 : State} (hm : Sub 0x22000 fm) (old : List (List (Nat × List Nat))) (s : State) (h : Frame fm s0 s) :
    Frame fm s0 ((sealAgain old s)) := by
  unfold sealAgain
  repeat' (first | exact Sub.trans (by decide) hm | intro _ | with_reducible assumption | with_reducible apply modDest_frame | with_reducible apply modLehr_frame | with_reducible apply writeSeal_frame | with_reducible apply Frame.ite | with_reducible apply Frame.foldl | extract_lets | split | (show Memory.wf _ = true; assumption))

theorem missPhase_frame {fm : Nat} {s0 : State} (hm : Sub 0x32befbd fm) (s : State) (h : Frame fm s0 s) :
    Frame fm s0 ((missPhase s)) := by
  unfold missPhase
  repeat' (first | exact Sub.trans (by decide) hm | intro _ | with_reducible assumption | with_reducible apply lateDump_frame | with_reducible apply modLehr_frame | with_reducible apply sealAgain_frame | with_reducible apply stopPhase_frame | with_reducible apply Frame.ite | extract_lets | split | (show Memory.wf _ = true; assumption))

theorem lehrRun_frame {fm : Nat} {s0 : State} (hm : Sub 0x32befbd fm) (s : State) (h : Frame fm s0 s) :
    Frame fm s0 ((lehrRun s)) := by
  unfold lehrRun
  repeat' (first | exact Sub.trans (by decide) hm | intro _ | with_reducible assumption | with_reducible apply enterP5_frame | with_reducible apply finishDump_frame | with_reducible apply lehrNoCut_frame | with_reducible apply missPhase_frame | with_reducible apply runP1_frame | with_reducible apply runP2_frame | with_reducible apply runP3_frame | with_reducible apply Frame.ite | extract_lets | split)

theorem lehrStart_frame {fm : Nat} {s0 : State} (hm : Sub 0x2001 fm) (v : Nat) (s : State) (h : Frame fm s0 s) :
    Frame fm s0 ((lehrStart v s)) := by
  unfold lehrStart
  repeat' (first | exact Sub.trans (by decide) hm | intro _ | with_reducible assumption | with_reducible refine Frame.pair ‹_› ?_ | with_reducible apply askDump_frame | with_reducible apply Frame.ite | split)

theorem suppressDump_frame {fm : Nat} {s0 : State} (hm : Sub 0x1001 fm) (q : DumpReq) (s : State) (h : Frame fm s0 s) :
    Frame fm s0 ((suppressDump q s)) := by
  unfold suppressDump
  repeat' (first | exact Sub.trans (by decide) hm | intro _ | with_reducible assumption | with_reducible apply State.fs_frame | with_reducible apply Frame.ite | (simp only [Frame_mk]; first | with_reducible apply FrameC.dl_upd) | extract_lets | split)

theorem refuseDump_frame {fm : Nat} {s0 : State} (hm : Sub 0x31d009 fm) (q : DumpReq) (s : State) (h : Frame fm s0 s) :
    Frame fm s0 ((refuseDump q s)) := by
  unfold refuseDump
  repeat' (first | exact Sub.trans (by decide) hm | intro _ | with_reducible assumption | with_reducible apply completeCmd_frame | with_reducible apply State.fs_frame | with_reducible apply releaseWaiting_frame | with_reducible apply suppressDump_frame | with_reducible apply writeAck_frame | with_reducible apply Frame.ite | extract_lets | split)

theorem beginDump_frame {fm : Nat} {s0 : State} (hm : Sub 0x122009 fm) (q : DumpReq) (s : State) (h : Frame fm s0 s) :
    Frame fm s0 ((beginDump q s)) := by
  unfold beginDump
  repeat' (first | exact Sub.trans (by decide) hm | intro _ | with_reducible assumption | with_reducible apply chooseDests_frame | with_reducible apply State.fs_frame | with_reducible apply modLehr_frame | with_reducible apply showCont_frame | with_reducible apply writeAck_frame | with_reducible apply Frame.ite | extract_lets | split | (show Memory.wf _ = true; assumption))

theorem cutDump_frame {fm : Nat} {s0 : State} (hm : Sub 0x32befbd fm) (s : State) (h : Frame fm s0 s) :
    Frame fm s0 ((cutDump s)) := by
  unfold cutDump
  repeat' (first | exact Sub.trans (by decide) hm | intro _ | with_reducible assumption | with_reducible apply centralTrigger_frame | with_reducible apply lehrNoCut_frame | with_reducible apply lehrTick_frame | with_reducible apply Frame.ite | extract_lets | split)

theorem abortDump_frame {fm : Nat} {s0 : State} (hm : Sub 0x223eab9 fm) (s : State) (h : Frame fm s0 s) :
    Frame fm s0 ((abortDump s)) := by
  unfold abortDump
  repeat' (first | exact Sub.trans (by decide) hm | intro _ | with_reducible assumption | with_reducible apply abandonReads_frame | with_reducible apply appendSect_frame | with_reducible apply closeSect_frame | with_reducible apply endCtrReads_frame | with_reducible apply endStriaReads_frame | with_reducible apply enterP4_frame | with_reducible apply enterP5_frame | with_reducible apply modLehr_frame | with_reducible apply unpinDir_frame | with_reducible apply Frame.ite | extract_lets | split | (show Memory.wf _ = true; assumption))

theorem warmLehr_frame {fm : Nat} {s0 : State} (hm : Sub 0x2001 fm) (s : State) (h : Frame fm s0 s) :
    Frame fm s0 ((warmLehr s)) := by
  unfold warmLehr
  repeat' (first | exact Sub.trans (by decide) hm | intro _ | with_reducible assumption | with_reducible apply State.fs_frame | with_reducible apply modLehr_frame | with_reducible apply State.wrN_frame | with_reducible apply Frame.ite | extract_lets | split | (show Memory.wf _ = true; assumption))

theorem lehrWatchdog_frame {fm : Nat} {s0 : State} (hm : Sub 0x223eab9 fm) (s : State) (h : Frame fm s0 s) :
    Frame fm s0 ((lehrWatchdog s)) := by
  unfold lehrWatchdog
  repeat' (first | exact Sub.trans (by decide) hm | intro _ | with_reducible assumption | with_reducible apply abandonReads_frame | with_reducible apply endCtrReads_frame | with_reducible apply endStriaReads_frame | with_reducible apply finishDump_frame | with_reducible apply modLehr_frame | with_reducible apply Frame.ite | extract_lets | split | (show Memory.wf _ = true; assumption))

theorem lehrLine_frame {fm : Nat} {s0 : State} (hm : Sub 0x32befbd fm) (addr : Nat) (data : List Nat) (err : Bool) (s : State) (h : Frame fm s0 s) :
    Frame fm s0 ((lehrLine addr data err s)) := by
  unfold lehrLine
  repeat' (first | exact Sub.trans (by decide) hm | intro _ | with_reducible assumption | with_reducible apply lehrRun_frame | with_reducible apply modLehr_frame | extract_lets | split | (show Memory.wf _ = true; assumption))

theorem lehrLate_frame {fm : Nat} {s0 : State} (hm : Sub 0x32befbd fm) (s : State) (h : Frame fm s0 s) :
    Frame fm s0 ((lehrLate s)) := by
  unfold lehrLate
  repeat' (first | exact Sub.trans (by decide) hm | intro _ | with_reducible assumption | with_reducible apply abandonReads_frame | with_reducible apply lehrRun_frame | with_reducible apply modLehr_frame | extract_lets | split | (show Memory.wf _ = true; assumption))

theorem dumpAck_frame {fm : Nat} {s0 : State} (hm : Sub 0x32befbd fm) (copy : Nat) (good : Bool) (s : State) (h : Frame fm s0 s) :
    Frame fm s0 ((dumpAck copy good s)) := by
  unfold dumpAck
  repeat' (first | exact Sub.trans (by decide) hm | intro _ | with_reducible assumption | with_reducible apply failDest_frame | with_reducible apply lehrRun_frame | with_reducible apply pumpDest_frame | with_reducible apply Frame.ite | extract_lets | split)

theorem releaseKeep_frame {fm : Nat} {s0 : State} (hm : Sub 0x2001 fm) (s : State) (h : Frame fm s0 s) :
    Frame fm s0 ((releaseKeep s)) := by
  unfold releaseKeep
  repeat' (first | exact Sub.trans (by decide) hm | intro _ | with_reducible assumption | with_reducible apply clearKeep_frame | with_reducible apply Frame.ite | split)

theorem execLehrDestWrite_frame {fm : Nat} {s0 : State} (hm : Sub 0x1 fm) (id index4 word value64 : Nat) (s : State) (h : Frame fm s0 s) :
    FrameO fm s0 (execLehrDestWrite id index4 word value64 s) := by
  unfold execLehrDestWrite
  repeat' (first | with_reducible apply FrameO.act | with_reducible apply FrameO.ok | exact Sub.trans (by decide) hm | intro _ | with_reducible assumption | with_reducible apply State.gate_frame | with_reducible apply writeDest_frame)

theorem execLehrPhaseDeadline_frame {fm : Nat} {s0 : State} (hm : Sub 0x32befbd fm) (s : State) (h : Frame fm s0 s) :
    FrameO fm s0 (execLehrPhaseDeadline s) := by
  unfold execLehrPhaseDeadline
  repeat' (first | with_reducible apply FrameO.act | with_reducible apply FrameO.ok | exact Sub.trans (by decide) hm | intro _ | with_reducible assumption | with_reducible apply missPhase_frame)

theorem execLehrStartWrite_frame {fm : Nat} {s0 : State} (hm : Sub 0x2001 fm) (id value : Nat) (s : State) (h : Frame fm s0 s) :
    FrameO fm s0 (execLehrStartWrite id value s) := by
  unfold execLehrStartWrite
  repeat' (first | with_reducible apply FrameO.act | with_reducible apply FrameO.ok | exact Sub.trans (by decide) hm | intro _ | with_reducible assumption | with_reducible apply State.gate_frame | with_reducible apply lehrStart_frame)

theorem execDumpAccept_frame {fm : Nat} {s0 : State} (hm : Sub 0x33bffbd fm) (s : State) (h : Frame fm s0 s) :
    FrameO fm s0 (execDumpAccept s) := by
  unfold execDumpAccept
  repeat' (first | with_reducible apply FrameO.awake | with_reducible apply FrameO.ok | with_reducible apply FrameO.ite | exact Sub.trans (by decide) hm | intro _ | with_reducible assumption | with_reducible apply beginDump_frame | with_reducible apply cutDump_frame | with_reducible apply modLehr_frame | with_reducible apply refuseDump_frame | with_reducible apply Frame.ite | extract_lets | split | (show Memory.wf _ = true; assumption))

theorem execLehrAbortWrite_frame {fm : Nat} {s0 : State} (hm : Sub 0x223eab9 fm) (id : Nat) (s : State) (h : Frame fm s0 s) :
    FrameO fm s0 (execLehrAbortWrite id s) := by
  unfold execLehrAbortWrite
  repeat' (first | with_reducible apply FrameO.act | with_reducible apply FrameO.ok | exact Sub.trans (by decide) hm | intro _ | with_reducible assumption | with_reducible apply abortDump_frame | with_reducible apply State.gate_frame)

/-! ### Reset -/

theorem modLadder_frame {fm : Nat} {s0 : State} (hm : Sub 0x4000 fm) (f : LadderState → LadderState) (s : State) (h : Frame fm s0 s) :
    Frame fm s0 ((modLadder f s)) := by
  unfold modLadder
  repeat' (first | exact Sub.trans (by decide) hm | intro _ | with_reducible assumption | (simp only [Frame_mk]; first | with_reducible apply FrameC.ladder_upd) | extract_lets)

theorem rstReq_frame {fm : Nat} {s0 : State} (hm : Sub 0x21c009 fm) (v : Nat) (s : State) (h : Frame fm s0 s) :
    Frame fm s0 ((rstReq v s)) := by
  unfold rstReq
  repeat' (first | exact Sub.trans (by decide) hm | intro _ | with_reducible assumption | with_reducible refine Frame.pair ‹_› ?_ | with_reducible apply requestReset_frame | with_reducible apply Frame.ite | extract_lets | split)

theorem answerReset_frame {fm : Nat} {s0 : State} (hm : Sub 0x10001 fm) (cmds : List (CmdKey × Bool)) (step : Nat) (bad escalated : Bool) (num : Nat) (s : State) (h : Frame fm s0 s) :
    Frame fm s0 ((answerReset cmds step bad escalated num s)) := by
  unfold answerReset
  repeat' (first | exact Sub.trans (by decide) hm | intro _ | with_reducible assumption | with_reducible apply completeCmd_frame | with_reducible apply Frame.ite | with_reducible apply Frame.foldl | split)

theorem endLadder_frame {fm : Nat} {s0 : State} (hm : Sub 0x4009 fm) (s : State) (h : Frame fm s0 s) :
    Frame fm s0 ((endLadder s)) := by
  unfold endLadder
  repeat' (first | exact Sub.trans (by decide) hm | intro _ | with_reducible assumption | with_reducible apply driveRstq_frame | with_reducible apply State.fs_frame | with_reducible apply modLadder_frame | extract_lets)

theorem modCollect_frame {fm : Nat} {s0 : State} (hm : Sub 0x4000 fm) (num : Nat) (f : Collect → Collect) (s : State) (h : Frame fm s0 s) :
    Frame fm s0 ((modCollect num f s)) := by
  unfold modCollect
  repeat' (first | exact Sub.trans (by decide) hm | intro _ | with_reducible assumption | with_reducible apply modLadder_frame | extract_lets)

theorem collectRead_frame {fm : Nat} {s0 : State} (hm : Sub 0x30 fm) (num n what entry : Nat) (s : State) (h : Frame fm s0 s) :
    Frame fm s0 ((collectRead num n what entry s)) := by
  unfold collectRead
  repeat' (first | exact Sub.trans (by decide) hm | intro _ | with_reducible assumption | with_reducible apply issueAccess_frame)

theorem reported_frame {fm : Nat} {s0 : State} (hm : Sub 0x14001 fm) (c : Collect) (s : State) (h : Frame fm s0 s) :
    Frame fm s0 ((reported c s)) := by
  unfold reported
  repeat' (first | exact Sub.trans (by decide) hm | intro _ | with_reducible assumption | with_reducible apply answerReset_frame | with_reducible apply milestone_frame | with_reducible apply modLadder_frame | extract_lets)

theorem runReports_frame {fm : Nat} {s0 : State} (hm : Sub 0x34001 fm) (s : State) (h : Frame fm s0 s) :
    Frame fm s0 ((runReports s)) := by
  unfold runReports
  repeat' (first | exact Sub.trans (by decide) hm | intro _ | with_reducible assumption | with_reducible apply State.fs_frame | with_reducible apply hostWriteBytes_frame | with_reducible apply modCollect_frame | with_reducible apply reported_frame | with_reducible apply State.when_frame | with_reducible apply Frame.ite | with_reducible apply Frame.when | extract_lets | split)

theorem reportAck_frame {fm : Nat} {s0 : State} (hm : Sub 0x34001 fm) (s : State) (h : Frame fm s0 s) :
    Frame fm s0 ((reportAck s)) := by
  unfold reportAck
  repeat' (first | exact Sub.trans (by decide) hm | intro _ | with_reducible assumption | with_reducible apply reported_frame | with_reducible apply runReports_frame | with_reducible apply Frame.ite | extract_lets | split)

theorem endCollect_frame {fm : Nat} {s0 : State} (hm : Sub 0x34001 fm) (num : Nat) (s : State) (h : Frame fm s0 s) :
    Frame fm s0 ((endCollect num s)) := by
  unfold endCollect
  repeat' (first | exact Sub.trans (by decide) hm | intro _ | with_reducible assumption | with_reducible apply modCollect_frame | with_reducible apply runReports_frame | extract_lets)

theorem beginCollect_frame {fm : Nat} {s0 : State} (hm : Sub 0x34031 fm) (c : Collect) (s : State) (h : Frame fm s0 s) :
    Frame fm s0 ((beginCollect c s)) := by
  unfold beginCollect
  repeat' (first | exact Sub.trans (by decide) hm | intro _ | with_reducible assumption | with_reducible apply collectRead_frame | with_reducible apply endCollect_frame | with_reducible apply modLadder_frame | with_reducible apply Frame.ite | with_reducible apply Frame.foldl | extract_lets | split)

theorem collectClear_frame {fm : Nat} {s0 : State} (hm : Sub 0x30 fm) (c : Collect) (x : CollectStation) (s : State) (h : Frame fm s0 s) :
    Frame fm s0 ((collectClear c x s)) := by
  unfold collectClear
  repeat' (first | exact Sub.trans (by decide) hm | intro _ | with_reducible assumption | with_reducible apply issueAccess_frame | with_reducible apply Frame.ite | with_reducible apply Frame.foldl | extract_lets | split)

theorem collectWord_frame {fm : Nat} {s0 : State} (hm : Sub 0x32befbf fm) (num n what entry v : Nat) (s : State) (h : Frame fm s0 s) :
    Frame fm s0 ((collectWord num n what entry v s)) := by
  unfold collectWord
  repeat' (first | exact Sub.trans (by decide) hm | intro _ | with_reducible assumption | with_reducible apply answered_frame | with_reducible apply collectClear_frame | with_reducible apply collectRead_frame | with_reducible apply endCollect_frame | with_reducible apply modCollect_frame | with_reducible apply State.when_frame | with_reducible apply Frame.ite | with_reducible apply Frame.when | with_reducible apply Frame.foldl | extract_lets | split)

theorem endWithQueue_frame {fm : Nat} {s0 : State} (hm : Sub 0x21c009 fm) (done : Option (Nat × Nat × Nat)) (s : State) (h : Frame fm s0 s) :
    Frame fm s0 ((endWithQueue done s).2) := by
  unfold endWithQueue
  repeat' (first | exact Sub.trans (by decide) hm | intro _ | with_reducible assumption | with_reducible refine Frame.pair ‹_› ?_ | with_reducible apply takeQueue_frame)

theorem endChip_frame {fm : Nat} {s0 : State} (hm : Sub 0x21c009 fm) (accepted : Bool) (s : State) (h : Frame fm s0 s) :
    Frame fm s0 ((endChip accepted s)) := by
  unfold endChip
  repeat' (first | exact Sub.trans (by decide) hm | intro _ | with_reducible assumption | with_reducible refine Frame.pair ‹_› ?_ | with_reducible apply answerReset_frame | with_reducible apply endLadder_frame | with_reducible apply endWithQueue_frame | with_reducible apply Frame.ite | extract_lets | split)

theorem resetDeadline_frame {fm : Nat} {s0 : State} (hm : Sub 0x32befbd fm) (refused noAccept : Bool) (s : State) (h : Frame fm s0 s) :
    Frame fm s0 ((resetDeadline refused noAccept s)) := by
  unfold resetDeadline
  repeat' (first | exact Sub.trans (by decide) hm | intro _ | with_reducible assumption | with_reducible apply centralFault_frame | with_reducible apply State.fs_frame | with_reducible apply modLadder_frame | with_reducible apply Frame.ite | extract_lets | split)

theorem escalate_frame {fm : Nat} {s0 : State} (hm : Sub 0x32befbd fm) (refused : Bool) (s : State) (h : Frame fm s0 s) :
    Frame fm s0 ((escalate refused s)) := by
  unfold escalate
  repeat' (first | exact Sub.trans (by decide) hm | intro _ | with_reducible assumption | with_reducible apply endChip_frame | with_reducible apply presentStep_frame | with_reducible apply resetDeadline_frame | with_reducible apply Frame.ite | extract_lets | split)

theorem resetAccepted_frame {fm : Nat} {s0 : State} (hm : Sub 0x32befbd fm) (seq : Nat) (s : State) (h : Frame fm s0 s) :
    Frame fm s0 ((resetAccepted seq s)) := by
  unfold resetAccepted
  repeat' (first | exact Sub.trans (by decide) hm | intro _ | with_reducible assumption | with_reducible apply driveRstq_frame | with_reducible apply endChip_frame | with_reducible apply escalate_frame | with_reducible apply milestone_frame | with_reducible apply modLadder_frame | with_reducible apply Frame.ite | extract_lets | split)

theorem releaseStep_frame {fm : Nat} {s0 : State} (hm : Sub 0x14001 fm) (s : State) (h : Frame fm s0 s) :
    Frame fm s0 ((releaseStep s)) := by
  unfold releaseStep
  repeat' (first | exact Sub.trans (by decide) hm | intro _ | with_reducible assumption | with_reducible apply milestone_frame | with_reducible apply modLadder_frame | extract_lets)

theorem resetDone_frame {fm : Nat} {s0 : State} (hm : Sub 0x32befbd fm) (seq : Nat) (s : State) (h : Frame fm s0 s) :
    Frame fm s0 ((resetDone seq s)) := by
  unfold resetDone
  repeat' (first | exact Sub.trans (by decide) hm | intro _ | with_reducible assumption | with_reducible refine Frame.pair ‹_› ?_ | with_reducible apply beginCollect_frame | with_reducible apply endLadder_frame | with_reducible apply endWithQueue_frame | with_reducible apply escalate_frame | with_reducible apply releaseStep_frame | with_reducible apply Frame.ite | extract_lets | split)

theorem resetRefused_frame {fm : Nat} {s0 : State} (hm : Sub 0x32befbd fm) (seq : Nat) (s : State) (h : Frame fm s0 s) :
    Frame fm s0 ((resetRefused seq s)) := by
  unfold resetRefused
  repeat' (first | exact Sub.trans (by decide) hm | intro _ | with_reducible assumption | with_reducible apply escalate_frame | with_reducible apply Frame.ite | split)

theorem stepOverrun_frame {fm : Nat} {s0 : State} (hm : Sub 0x32befbd fm) (chip : Bool) (s : State) (h : Frame fm s0 s) :
    Frame fm s0 ((stepOverrun chip s)) := by
  unfold stepOverrun
  repeat' (first | exact Sub.trans (by decide) hm | intro _ | with_reducible assumption | with_reducible apply escalate_frame | with_reducible apply Frame.ite | split)

theorem markLate_frame {fm : Nat} {s0 : State} (hm : Sub 0x32befbd fm) (m : Nat) (s : State) (h : Frame fm s0 s) :
    Frame fm s0 ((markLate m s)) := by
  unfold markLate
  repeat' (first | exact Sub.trans (by decide) hm | intro _ | with_reducible assumption | with_reducible apply State.fs_frame | with_reducible apply serviceMiss_frame)

theorem reheatMark_frame {fm : Nat} {s0 : State} (hm : Sub 0x32befbd fm) (m : Nat) (s : State) (h : Frame fm s0 s) :
    Frame fm s0 ((reheatMark m s)) := by
  unfold reheatMark
  repeat' (first | exact Sub.trans (by decide) hm | intro _ | with_reducible assumption | with_reducible refine Frame.pair ‹_› ?_ | with_reducible apply formFanOut_frame | with_reducible apply markLate_frame | with_reducible apply milestone_frame | with_reducible apply modLadder_frame | with_reducible apply Frame.ite | extract_lets | split)

theorem loadReheat_frame {fm : Nat} {s0 : State} (hm : Sub 0x1 fm) (mode : Nat) (s : State) (h : Frame fm s0 s) :
    Frame fm s0 ((loadReheat mode s)) := by
  unfold loadReheat
  repeat' (first | exact Sub.trans (by decide) hm | intro _ | with_reducible assumption | with_reducible apply State.fs_frame | with_reducible apply Frame.ite | with_reducible apply Frame.foldl | extract_lets | split)

theorem rstCtlWrite_frame {fm : Nat} {s0 : State} (hm : Sub 0x1 fm) (v : Nat) (s : State) (h : Frame fm s0 s) :
    Frame fm s0 ((rstCtlWrite v s)) := by
  unfold rstCtlWrite
  repeat' (first | exact Sub.trans (by decide) hm | intro _ | with_reducible assumption | with_reducible apply loadReheat_frame | with_reducible apply plainWrite_frame | with_reducible apply Frame.ite | extract_lets | split)

theorem warmLadder_frame {fm : Nat} {s0 : State} (hm : Sub 0x4009 fm) (s : State) (h : Frame fm s0 s) :
    Frame fm s0 ((warmLadder s)) := by
  unfold warmLadder
  repeat' (first | exact Sub.trans (by decide) hm | intro _ | with_reducible assumption | with_reducible apply State.fs_frame | with_reducible apply modLadder_frame | with_reducible apply Frame.ite | (simp only [Frame_mk]; first | with_reducible apply FrameC.pins_upd) | extract_lets | split)

theorem execRstReqGo_frame {fm : Nat} {s0 : State} (hm : Sub 0x21c009 fm) (id value : Nat) (s : State) (h : Frame fm s0 s) :
    FrameO fm s0 (execRstReqGo id value s) := by
  unfold execRstReqGo
  repeat' (first | with_reducible apply FrameO.act | with_reducible apply FrameO.ok | exact Sub.trans (by decide) hm | intro _ | with_reducible assumption | with_reducible apply State.gate_frame | with_reducible apply rstReq_frame)

theorem execResetCollectTimeout_frame {fm : Nat} {s0 : State} (hm : Sub 0x34001 fm) (s : State) (h : Frame fm s0 s) :
    FrameO fm s0 (execResetCollectTimeout s) := by
  unfold execResetCollectTimeout
  repeat' (first | with_reducible apply FrameO.act | with_reducible apply FrameO.ok | exact Sub.trans (by decide) hm | intro _ | with_reducible assumption | with_reducible apply endCollect_frame | extract_lets | split)

theorem execResetAnswerAccepted_frame {fm : Nat} {s0 : State} (hm : Sub 0x32befbd fm) (seq : Nat) (s : State) (h : Frame fm s0 s) :
    FrameO fm s0 (execResetAnswerAccepted seq s) := by
  unfold execResetAnswerAccepted
  repeat' (first | with_reducible apply FrameO.act | with_reducible apply FrameO.ok | exact Sub.trans (by decide) hm | intro _ | with_reducible assumption | with_reducible apply resetAccepted_frame)

theorem execResetAnswerDone_frame {fm : Nat} {s0 : State} (hm : Sub 0x32befbd fm) (seq : Nat) (s : State) (h : Frame fm s0 s) :
    FrameO fm s0 (execResetAnswerDone seq s) := by
  unfold execResetAnswerDone
  repeat' (first | with_reducible apply FrameO.act | with_reducible apply FrameO.ok | exact Sub.trans (by decide) hm | intro _ | with_reducible assumption | with_reducible apply resetDone_frame)

theorem execResetAnswerRefused_frame {fm : Nat} {s0 : State} (hm : Sub 0x32befbd fm) (seq : Nat) (s : State) (h : Frame fm s0 s) :
    FrameO fm s0 (execResetAnswerRefused seq s) := by
  unfold execResetAnswerRefused
  repeat' (first | with_reducible apply FrameO.act | with_reducible apply FrameO.ok | exact Sub.trans (by decide) hm | intro _ | with_reducible assumption | with_reducible apply resetRefused_frame)

theorem execResetAnswerInvalid_frame {fm : Nat} {s0 : State} (hm : Sub 0x1 fm) (s : State) (h : Frame fm s0 s) :
    FrameO fm s0 (execResetAnswerInvalid s) := by
  unfold execResetAnswerInvalid
  repeat' (first | with_reducible apply FrameO.act | with_reducible apply FrameO.ok | exact Sub.trans (by decide) hm | intro _ | with_reducible assumption | with_reducible apply State.fs_frame)

theorem execResetStepDeadline_frame {fm : Nat} {s0 : State} (hm : Sub 0x32befbd fm) (s : State) (h : Frame fm s0 s) :
    FrameO fm s0 (execResetStepDeadline s) := by
  unfold execResetStepDeadline
  repeat' (first | with_reducible apply FrameO.act | with_reducible apply FrameO.ok | exact Sub.trans (by decide) hm | intro _ | with_reducible assumption | with_reducible apply stepOverrun_frame)

theorem execChipStepNoAccept_frame {fm : Nat} {s0 : State} (hm : Sub 0x32befbd fm) (s : State) (h : Frame fm s0 s) :
    FrameO fm s0 (execChipStepNoAccept s) := by
  unfold execChipStepNoAccept
  repeat' (first | with_reducible apply FrameO.act | with_reducible apply FrameO.ok | exact Sub.trans (by decide) hm | intro _ | with_reducible assumption | with_reducible apply stepOverrun_frame)

theorem execReheatMarkWrite_frame {fm : Nat} {s0 : State} (hm : Sub 0x32befbd fm) (id value : Nat) (s : State) (h : Frame fm s0 s) :
    FrameO fm s0 (execReheatMarkWrite id value s) := by
  unfold execReheatMarkWrite
  repeat' (first | with_reducible apply FrameO.act | with_reducible apply FrameO.ok | with_reducible apply FrameO.ite | exact Sub.trans (by decide) hm | intro _ | with_reducible assumption | with_reducible apply State.gate_frame | with_reducible apply reheatMark_frame | with_reducible apply Frame.ite | split)

theorem execReheatMilestoneDeadline_frame {fm : Nat} {s0 : State} (hm : Sub 0x32befbd fm) (s : State) (h : Frame fm s0 s) :
    FrameO fm s0 (execReheatMilestoneDeadline s) := by
  unfold execReheatMilestoneDeadline
  repeat' (first | with_reducible apply FrameO.act | with_reducible apply FrameO.ok | exact Sub.trans (by decide) hm | intro _ | with_reducible assumption | with_reducible apply markLate_frame | extract_lets | split)

theorem execRstModeWrite_frame {fm : Nat} {s0 : State} (hm : Sub 0x1 fm) (id value : Nat) (s : State) (h : Frame fm s0 s) :
    FrameO fm s0 (execRstModeWrite id value s) := by
  unfold execRstModeWrite
  repeat' (first | with_reducible apply FrameO.act | with_reducible apply FrameO.ok | exact Sub.trans (by decide) hm | intro _ | with_reducible assumption | with_reducible apply State.gate_frame | with_reducible apply rstCtlWrite_frame)

/-! ### Notice -/

theorem modNotice_frame {fm : Nat} {s0 : State} (hm : Sub 0x8000 fm) (f : NoticeState → NoticeState) (s : State) (h : Frame fm s0 s) :
    Frame fm s0 ((modNotice f s)) := by
  unfold modNotice
  repeat' (first | exact Sub.trans (by decide) hm | intro _ | with_reducible assumption | (simp only [Frame_mk]; first | with_reducible apply FrameC.notice_upd) | extract_lets)

theorem showNotice_frame {fm : Nat} {s0 : State} (hm : Sub 0x1 fm) (s : State) (h : Frame fm s0 s) :
    Frame fm s0 ((showNotice s)) := by
  unfold showNotice
  repeat' (first | exact Sub.trans (by decide) hm | intro _ | with_reducible assumption | with_reducible apply State.fs_frame)

theorem fanOutMiss_frame {fm : Nat} {s0 : State} (hm : Sub 0x32befbd fm) (f : FanOut) (s : State) (h : Frame fm s0 s) :
    Frame fm s0 ((fanOutMiss f s)) := by
  unfold fanOutMiss
  repeat' (first | exact Sub.trans (by decide) hm | intro _ | with_reducible assumption | with_reducible apply State.fs_frame | with_reducible apply serviceMiss_frame)

theorem checkFanOut_frame {fm : Nat} {s0 : State} (hm : Sub 0x32befbd fm) (f : FanOut) (s : State) (h : Frame fm s0 s) :
    Frame fm s0 ((checkFanOut f s).2) := by
  unfold checkFanOut
  repeat' (first | exact Sub.trans (by decide) hm | intro _ | with_reducible assumption | with_reducible refine Frame.pair ‹_› ?_ | with_reducible apply fanOutMiss_frame | with_reducible apply State.when_frame | with_reducible apply Frame.when | extract_lets)

theorem keepFanOut_frame {fm : Nat} {s0 : State} (hm : Sub 0x18001 fm) (f : FanOut) (s : State) (h : Frame fm s0 s) :
    Frame fm s0 ((keepFanOut f s)) := by
  unfold keepFanOut
  repeat' (first | exact Sub.trans (by decide) hm | intro _ | with_reducible assumption | with_reducible apply completeCmd_frame | with_reducible apply modNotice_frame | with_reducible apply showNotice_frame | with_reducible apply Frame.ite | extract_lets | split)

theorem trackSender_frame {fm : Nat} {s0 : State} (hm : Sub 0x8001 fm) (node expect : Nat) (s : State) (h : Frame fm s0 s) :
    Frame fm s0 ((trackSender node expect s)) := by
  unfold trackSender
  repeat' (first | exact Sub.trans (by decide) hm | intro _ | with_reducible assumption | with_reducible apply State.fsat_frame | with_reducible apply modNotice_frame | with_reducible apply Frame.ite | extract_lets | split)

theorem untrack_frame {fm : Nat} {s0 : State} (hm : Sub 0x8000 fm) (node : Nat) (s : State) (h : Frame fm s0 s) :
    Frame fm s0 ((untrack node s)) := by
  unfold untrack
  repeat' (first | exact Sub.trans (by decide) hm | intro _ | with_reducible assumption | with_reducible apply modNotice_frame | extract_lets)

theorem peerSilent_frame {fm : Nat} {s0 : State} (hm : Sub 0x32befbd fm) (t : Tracked) (s : State) (h : Frame fm s0 s) :
    Frame fm s0 ((peerSilent t s)) := by
  unfold peerSilent
  repeat' (first | exact Sub.trans (by decide) hm | intro _ | with_reducible assumption | with_reducible apply centralFault_frame | with_reducible apply showNotice_frame | with_reducible apply untrack_frame)

theorem expireSender_frame {fm : Nat} {s0 : State} (hm : Sub 0x32befbd fm) (node : Nat) (s : State) (h : Frame fm s0 s) :
    Frame fm s0 ((expireSender node s)) := by
  unfold expireSender
  repeat' (first | exact Sub.trans (by decide) hm | intro _ | with_reducible assumption | with_reducible apply peerSilent_frame | extract_lets | split)

theorem takeNotice_frame {fm : Nat} {s0 : State} (hm : Sub 0x32befbd fm) (node : Nat) (bytes : List Nat) (s : State) (h : Frame fm s0 s) :
    Frame fm s0 ((takeNotice node bytes s)) := by
  unfold takeNotice
  repeat' (first | exact Sub.trans (by decide) hm | intro _ | with_reducible assumption | with_reducible apply centralFault_frame | with_reducible apply expireSender_frame | with_reducible apply failCopy_frame | with_reducible apply modNotice_frame | with_reducible apply postEvent_frame | with_reducible apply showNotice_frame | with_reducible apply trackSender_frame | with_reducible apply untrack_frame | with_reducible apply State.wrWords_frame | with_reducible apply Frame.ite | extract_lets | split)

theorem dropUntabled_frame {fm : Nat} {s0 : State} (hm : Sub 0x8001 fm) (s : State) (h : Frame fm s0 s) :
    Frame fm s0 ((dropUntabled s)) := by
  unfold dropUntabled
  repeat' (first | exact Sub.trans (by decide) hm | intro _ | with_reducible assumption | with_reducible apply modNotice_frame | with_reducible apply showNotice_frame | extract_lets)

theorem warmNotice_frame {fm : Nat} {s0 : State} (hm : Sub 0x8000 fm) (s : State) (h : Frame fm s0 s) :
    Frame fm s0 ((warmNotice s)) := by
  unfold warmNotice
  repeat' (first | exact Sub.trans (by decide) hm | intro _ | with_reducible assumption | with_reducible apply modNotice_frame | extract_lets)

theorem execNoticeFanoutStart_frame {fm : Nat} {s0 : State} (hm : Sub 0x18001 fm) (s : State) (h : Frame fm s0 s) :
    FrameO fm s0 (execNoticeFanoutStart s) := by
  unfold execNoticeFanoutStart
  repeat' (first | with_reducible apply FrameO.awake | with_reducible apply FrameO.ok | with_reducible apply FrameO.ite | exact Sub.trans (by decide) hm | intro _ | with_reducible assumption | with_reducible apply keepFanOut_frame | with_reducible apply modNotice_frame | with_reducible apply Frame.ite | extract_lets | split)

theorem execPeerNoticeSend_frame {fm : Nat} {s0 : State} (hm : Sub 0x32befbd fm) (s : State) (h : Frame fm s0 s) :
    FrameO fm s0 (execPeerNoticeSend s) := by
  unfold execPeerNoticeSend
  repeat' (first | with_reducible apply FrameO.awake | with_reducible apply FrameO.ok | with_reducible apply FrameO.ite | exact Sub.trans (by decide) hm | intro _ | with_reducible assumption | with_reducible refine Frame.pair ‹_› ?_ | with_reducible apply checkFanOut_frame | with_reducible apply State.free_frame | with_reducible apply keepFanOut_frame | with_reducible apply modNotice_frame | with_reducible apply Frame.ite | (simp only [Frame_mk]; first | with_reducible apply FrameC.bus_upd) | extract_lets | split)

theorem execNoticeFanoutDeadline_frame {fm : Nat} {s0 : State} (hm : Sub 0x32befbd fm) (s : State) (h : Frame fm s0 s) :
    FrameO fm s0 (execNoticeFanoutDeadline s) := by
  unfold execNoticeFanoutDeadline
  repeat' (first | with_reducible apply FrameO.act | with_reducible apply FrameO.ok | exact Sub.trans (by decide) hm | intro _ | with_reducible assumption | with_reducible refine Frame.pair ‹_› ?_ | with_reducible apply checkFanOut_frame | with_reducible apply keepFanOut_frame | extract_lets | split)

theorem execPeerNoticeReceive_frame {fm : Nat} {s0 : State} (hm : Sub 0x32befbd fm) (node : Nat) (bytes : List Nat) (s : State) (h : Frame fm s0 s) :
    FrameO fm s0 (execPeerNoticeReceive node bytes s) := by
  unfold execPeerNoticeReceive
  repeat' (first | with_reducible apply FrameO.awake | with_reducible apply FrameO.ok | with_reducible apply FrameO.ite | exact Sub.trans (by decide) hm | intro _ | with_reducible assumption | with_reducible apply State.fsat_frame | with_reducible apply takeNotice_frame | with_reducible apply Frame.ite | split)

theorem execPeerSilentExpiry_frame {fm : Nat} {s0 : State} (hm : Sub 0x32befbd fm) (s : State) (h : Frame fm s0 s) :
    FrameO fm s0 (execPeerSilentExpiry s) := by
  unfold execPeerSilentExpiry
  repeat' (first | with_reducible apply FrameO.act | with_reducible apply FrameO.ok | exact Sub.trans (by decide) hm | intro _ | with_reducible assumption | with_reducible apply peerSilent_frame | extract_lets | split)

end Sys2Proof.Machine
end

