-- ==== Sys2Proof/Laws/Frames4.lean ====
section
/-! SUPPORT. The footprint of every operation and command, one lemma each, in the order of the files: rings, commands, gaffer, Rolsal, privilege, the register window, the clock. Each says
which parts of the state its operation may change; all others, the queue and the canonical form of the buffers stay. -/

namespace Sys2Proof.Machine

open Host (Outcome)

/-! ### Cuts -/

theorem tickWho_frame {fm : Nat} {s0 : State} (hm : Sub 0x32befbd fm) (tick startTs cls count : Nat) (w : CutWho) (s : State) (h : Frame fm s0 s) :
    Frame fm s0 ((tickWho tick startTs cls count w s)) := by
  unfold tickWho
  repeat' (first | exact Sub.trans (by decide) hm | intro _ | with_reducible assumption | with_reducible refine Frame.pair ‹_› ?_ | with_reducible apply askReadout_frame | with_reducible apply completeTick_frame | with_reducible apply ledgerTick_frame | with_reducible apply lehrTick_frame | with_reducible apply tick_frame | with_reducible apply Frame.ite | extract_lets | split)

theorem expireReadout_frame {fm : Nat} {s0 : State} (hm : Sub 0x32befbd fm) (s : State) (h : Frame fm s0 s) :
    Frame fm s0 ((expireReadout s)) := by
  unfold expireReadout
  repeat' (first | exact Sub.trans (by decide) hm | intro _ | with_reducible assumption | with_reducible apply endReadout_frame | with_reducible apply lehrRun_frame | with_reducible apply Frame.ite | extract_lets | split)

theorem expireReads_frame {fm : Nat} {s0 : State} (hm : Sub 0x200 fm) (s : State) (h : Frame fm s0 s) :
    Frame fm s0 ((expireReads s)) := by
  unfold expireReads
  repeat' (first | exact Sub.trans (by decide) hm | intro _ | with_reducible assumption | with_reducible apply modRead_frame | with_reducible apply Frame.foldl)

theorem reductionEnds_frame {fm : Nat} {s0 : State} (hm : Sub 0x2032831 fm) (r : Reduction) (s : State) (h : Frame fm s0 s) :
    Frame fm s0 ((reductionEnds r s)) := by
  unfold reductionEnds
  repeat' (first | exact Sub.trans (by decide) hm | intro _ | with_reducible assumption | with_reducible apply endReduceCmd_frame | with_reducible apply striaReduced_frame | extract_lets | split)

theorem missReductions_frame {fm : Nat} {s0 : State} (hm : Sub 0x2032831 fm) (s : State) (h : Frame fm s0 s) :
    Frame fm s0 ((missReductions s)) := by
  unfold missReductions
  repeat' (first | exact Sub.trans (by decide) hm | intro _ | with_reducible assumption | with_reducible apply reductionEnds_frame | with_reducible apply Frame.foldl | (simp only [Frame_mk]; first | with_reducible apply FrameC.spine_upd) | extract_lets)

theorem loseCtrReads_frame {fm : Nat} {s0 : State} (hm : Sub 0x32201 fm) (gone : Nat → Bool) (s : State) (h : Frame fm s0 s) :
    Frame fm s0 ((loseCtrReads gone s)) := by
  unfold loseCtrReads
  repeat' (first | exact Sub.trans (by decide) hm | intro _ | with_reducible assumption | with_reducible apply modCtr_frame | with_reducible apply settleReads_frame | with_reducible apply Frame.ite | extract_lets | split)

theorem execCutTick_frame {fm : Nat} {s0 : State} (hm : Sub 0x32befbd fm) (s : State) (h : Frame fm s0 s) :
    FrameO fm s0 (execCutTick s) := by
  unfold execCutTick
  repeat' (first | with_reducible apply FrameO.act | with_reducible apply FrameO.ok | exact Sub.trans (by decide) hm | intro _ | with_reducible assumption | with_reducible refine Frame.pair ‹_› ?_ | with_reducible apply askReadout_frame | with_reducible apply tick_frame | with_reducible apply tickCut_frame | with_reducible apply tickWho_frame | with_reducible apply State.when_frame | with_reducible apply Frame.when | with_reducible apply Frame.foldl | extract_lets | split)

theorem execCulletMessageArrival_frame {fm : Nat} {s0 : State} (hm : Sub 0x32befbd fm) (stn : Nat) (s : State) (h : Frame fm s0 s) :
    FrameO fm s0 (execCulletMessageArrival stn s) := by
  unfold execCulletMessageArrival
  repeat' (first | with_reducible apply FrameO.act | with_reducible apply FrameO.ok | with_reducible apply FrameO.ite | exact Sub.trans (by decide) hm | intro _ | with_reducible assumption | with_reducible refine takeAir_frame ?_ _ _ _ ‹_› ?_ | with_reducible apply endReadout_frame | with_reducible apply expireReadout_frame | with_reducible apply lehrRun_frame | with_reducible apply takeCulletMessage_frame | with_reducible apply Frame.ite | extract_lets | split)

theorem execCulletReadoutTimeout_frame {fm : Nat} {s0 : State} (hm : Sub 0x32befbd fm) (s : State) (h : Frame fm s0 s) :
    FrameO fm s0 (execCulletReadoutTimeout s) := by
  unfold execCulletReadoutTimeout
  repeat' (first | with_reducible apply FrameO.act | with_reducible apply FrameO.ok | exact Sub.trans (by decide) hm | intro _ | with_reducible assumption | with_reducible apply expireReadout_frame)

theorem execCounterMessageArrival_frame {fm : Nat} {s0 : State} (hm : Sub 0x32befbd fm) (stn : Nat) (s : State) (h : Frame fm s0 s) :
    FrameO fm s0 (execCounterMessageArrival stn s) := by
  unfold execCounterMessageArrival
  repeat' (first | with_reducible apply FrameO.act | with_reducible apply FrameO.ok | exact Sub.trans (by decide) hm | intro _ | with_reducible assumption | with_reducible refine takeAir_frame ?_ _ _ _ ‹_› ?_ | with_reducible apply expireReads_frame | with_reducible apply lehrRun_frame | with_reducible apply settleReads_frame | with_reducible apply takeCounterMessage_frame | extract_lets | split)

theorem execAttribMessageArrival_frame {fm : Nat} {s0 : State} (hm : Sub 0x32befbd fm) (stn : Nat) (s : State) (h : Frame fm s0 s) :
    FrameO fm s0 (execAttribMessageArrival stn s) := by
  unfold execAttribMessageArrival
  repeat' (first | with_reducible apply FrameO.act | with_reducible apply FrameO.ok | exact Sub.trans (by decide) hm | intro _ | with_reducible assumption | with_reducible refine takeAir_frame ?_ _ _ _ ‹_› ?_ | with_reducible apply expireReads_frame | with_reducible apply lehrRun_frame | with_reducible apply settleReads_frame | with_reducible apply takeAttribMessage_frame | extract_lets | split)

theorem execCounterReadTimeout_frame {fm : Nat} {s0 : State} (hm : Sub 0x32befbd fm) (s : State) (h : Frame fm s0 s) :
    FrameO fm s0 (execCounterReadTimeout s) := by
  unfold execCounterReadTimeout
  repeat' (first | with_reducible apply FrameO.act | with_reducible apply FrameO.ok | exact Sub.trans (by decide) hm | intro _ | with_reducible assumption | with_reducible apply expireReads_frame | with_reducible apply lehrRun_frame | with_reducible apply settleReads_frame)

theorem execReductionResult_frame {fm : Nat} {s0 : State} (hm : Sub 0x32befbd fm) (tag : Nat) (s : State) (h : Frame fm s0 s) :
    FrameO fm s0 (execReductionResult tag s) := by
  unfold execReductionResult
  repeat' (first | with_reducible apply FrameO.act | with_reducible apply FrameO.ok | with_reducible apply FrameO.ite | exact Sub.trans (by decide) hm | intro _ | with_reducible assumption | with_reducible apply lehrRun_frame | with_reducible apply reductionEnds_frame | with_reducible apply sendReduction_frame | with_reducible apply Frame.ite | (simp only [Frame_mk]; first | with_reducible apply FrameC.spine_upd) | extract_lets | split)

/-! ### Rings -/

theorem modRings_frame {fm : Nat} {s0 : State} (hm : Sub 0x10000 fm) (f : RingState → RingState) (s : State) (h : Frame fm s0 s) :
    Frame fm s0 ((modRings f s)) := by
  unfold modRings
  repeat' (first | exact Sub.trans (by decide) hm | intro _ | with_reducible assumption | (simp only [Frame_mk]; first | with_reducible apply FrameC.rings_upd) | extract_lets)

theorem ringRej_frame {fm : Nat} {s0 : State} (hm : Sub 0x1 fm) (id : Nat) (s : State) (h : Frame fm s0 s) :
    Frame fm s0 ((ringRej id s)) := by
  unfold ringRej
  repeat' (first | exact Sub.trans (by decide) hm | intro _ | with_reducible assumption | with_reducible apply State.fs_frame | with_reducible apply State.fsat_frame)

theorem dbOwner_frame {fm : Nat} {s0 : State} (hm : Sub 0x1 fm) (id owner : Nat) (f : State → State) (s : State) (hf : ∀ (x0 : State), Frame fm s0 x0 → Frame fm s0 ((f x0))) (h : Frame fm s0 s) :
    Frame fm s0 ((dbOwner id owner f s)) := by
  unfold dbOwner
  repeat' (first | exact Sub.trans (by decide) hm | intro _ | with_reducible assumption | with_reducible apply hf | with_reducible apply ringRej_frame | with_reducible apply Frame.ite | split)

theorem sqDoorbell_frame {fm : Nat} {s0 : State} (hm : Sub 0x1 fm) (r v : Nat) (s : State) (h : Frame fm s0 s) :
    Frame fm s0 ((sqDoorbell r v s)) := by
  unfold sqDoorbell
  repeat' (first | exact Sub.trans (by decide) hm | intro _ | with_reducible assumption | with_reducible apply State.fs_frame | with_reducible apply Frame.ite | extract_lets | split)

theorem eqDoorbell_frame {fm : Nat} {s0 : State} (hm : Sub 0x10009 fm) (r v : Nat) (s : State) (h : Frame fm s0 s) :
    Frame fm s0 ((eqDoorbell r v s)) := by
  unfold eqDoorbell
  repeat' (first | exact Sub.trans (by decide) hm | intro _ | with_reducible assumption | with_reducible apply State.fs_frame | with_reducible apply modRings_frame | with_reducible apply trySignal_frame | with_reducible apply Frame.ite | extract_lets | split)

theorem dropFetched_frame {fm : Nat} {s0 : State} (hm : Sub 0x10000 fm) (r : Nat) (s : State) (h : Frame fm s0 s) :
    Frame fm s0 ((dropFetched r s)) := by
  unfold dropFetched
  repeat' (first | exact Sub.trans (by decide) hm | intro _ | with_reducible assumption | with_reducible apply modRings_frame | extract_lets)

theorem zeroSq_frame {fm : Nat} {s0 : State} (hm : Sub 0x10001 fm) (r : Nat) (s : State) (h : Frame fm s0 s) :
    Frame fm s0 ((zeroSq r s)) := by
  unfold zeroSq
  repeat' (first | exact Sub.trans (by decide) hm | intro _ | with_reducible assumption | with_reducible apply dropFetched_frame | with_reducible apply State.fs_frame | with_reducible apply State.wr_frame | with_reducible apply Frame.ite | extract_lets | split)

theorem zeroEq_frame {fm : Nat} {s0 : State} (hm : Sub 0x10001 fm) (r : Nat) (s : State) (h : Frame fm s0 s) :
    Frame fm s0 ((zeroEq r s)) := by
  unfold zeroEq
  repeat' (first | exact Sub.trans (by decide) hm | intro _ | with_reducible assumption | with_reducible apply State.fs_frame | with_reducible apply modRings_frame | with_reducible apply Frame.ite | extract_lets | split)

theorem enableSq_frame {fm : Nat} {s0 : State} (hm : Sub 0x1 fm) (r : Nat) (s : State) (h : Frame fm s0 s) :
    Frame fm s0 ((enableSq r s)) := by
  unfold enableSq
  repeat' (first | exact Sub.trans (by decide) hm | intro _ | with_reducible assumption | with_reducible apply State.fs_frame | with_reducible apply Frame.ite | extract_lets | split)

theorem enableEq_frame {fm : Nat} {s0 : State} (hm : Sub 0x1 fm) (r : Nat) (s : State) (h : Frame fm s0 s) :
    Frame fm s0 ((enableEq r s)) := by
  unfold enableEq
  repeat' (first | exact Sub.trans (by decide) hm | intro _ | with_reducible assumption | with_reducible apply State.fs_frame | with_reducible apply Frame.ite | extract_lets | split)

theorem disableSq_frame {fm : Nat} {s0 : State} (hm : Sub 0x10001 fm) (r : Nat) (s : State) (h : Frame fm s0 s) :
    Frame fm s0 ((disableSq r s)) := by
  unfold disableSq
  repeat' (first | exact Sub.trans (by decide) hm | intro _ | with_reducible assumption | with_reducible apply dropFetched_frame | with_reducible apply State.fs_frame | with_reducible apply settleSq_frame | with_reducible apply Frame.ite | extract_lets | split)

theorem disableEq_frame {fm : Nat} {s0 : State} (hm : Sub 0x1 fm) (r : Nat) (s : State) (h : Frame fm s0 s) :
    Frame fm s0 ((disableEq r s)) := by
  unfold disableEq
  repeat' (first | exact Sub.trans (by decide) hm | intro _ | with_reducible assumption | with_reducible apply State.fs_frame | with_reducible apply settleEq_frame | with_reducible apply Frame.ite | extract_lets | split)

theorem writeSqCtl_frame {fm : Nat} {s0 : State} (hm : Sub 0x10001 fm) (r v : Nat) (s : State) (h : Frame fm s0 s) :
    Frame fm s0 ((writeSqCtl r v s)) := by
  unfold writeSqCtl
  repeat' (first | exact Sub.trans (by decide) hm | intro _ | with_reducible assumption | with_reducible apply disableSq_frame | with_reducible apply enableSq_frame | with_reducible apply zeroSq_frame | with_reducible apply Frame.ite | extract_lets | split)

theorem writeEqCtl_frame {fm : Nat} {s0 : State} (hm : Sub 0x10001 fm) (r v : Nat) (s : State) (h : Frame fm s0 s) :
    Frame fm s0 ((writeEqCtl r v s)) := by
  unfold writeEqCtl
  repeat' (first | exact Sub.trans (by decide) hm | intro _ | with_reducible assumption | with_reducible apply disableEq_frame | with_reducible apply enableEq_frame | with_reducible apply zeroEq_frame | with_reducible apply Frame.ite | extract_lets | split)

theorem writeRingSetup_frame {fm : Nat} {s0 : State} (hm : Sub 0x1 fm) (eq : Bool) (r a v : Nat) (s : State) (h : Frame fm s0 s) :
    Frame fm s0 ((writeRingSetup eq r a v s)) := by
  unfold writeRingSetup
  repeat' (first | exact Sub.trans (by decide) hm | intro _ | with_reducible assumption | with_reducible apply plainWrite_frame | with_reducible apply Frame.ite | split)

theorem writeCtl_frame {fm : Nat} {s0 : State} (hm : Sub 0x10001 fm) (eq : Bool) (id r v : Nat) (s : State) (h : Frame fm s0 s) :
    Frame fm s0 ((writeCtl eq id r v s)) := by
  unfold writeCtl
  repeat' (first | exact Sub.trans (by decide) hm | intro _ | with_reducible assumption | with_reducible apply State.gate_frame | with_reducible apply writeEqCtl_frame | with_reducible apply writeSqCtl_frame | with_reducible apply Frame.ite | split)

theorem fetchOne_frame {fm : Nat} {s0 : State} (hm : Sub 0x30000 fm) (r : Nat) (s : State) (h : Frame fm s0 s) :
    Frame fm s0 ((fetchOne r s)) := by
  unfold fetchOne
  repeat' (first | exact Sub.trans (by decide) hm | intro _ | with_reducible assumption | with_reducible apply hostRead_frame | with_reducible apply modRings_frame | extract_lets)

theorem fetchFailed_frame {fm : Nat} {s0 : State} (hm : Sub 0x10009 fm) (r idx : Nat) (s : State) (h : Frame fm s0 s) :
    Frame fm s0 ((fetchFailed r idx s)) := by
  unfold fetchFailed
  repeat' (first | exact Sub.trans (by decide) hm | intro _ | with_reducible assumption | with_reducible apply dropFetched_frame | with_reducible apply State.fs_frame | with_reducible apply modRings_frame | with_reducible apply postEvent_frame | with_reducible apply settleSq_frame | with_reducible apply signalRingErr_frame | with_reducible apply State.wrN_frame | with_reducible apply Frame.ite | extract_lets | split)

theorem descriptorArrives_frame {fm : Nat} {s0 : State} (hm : Sub 0x10001 fm) (r idx : Nat) (bytes : List Nat) (s : State) (h : Frame fm s0 s) :
    Frame fm s0 ((descriptorArrives r idx bytes s)) := by
  unfold descriptorArrives
  repeat' (first | exact Sub.trans (by decide) hm | intro _ | with_reducible assumption | with_reducible apply modRings_frame | with_reducible apply settleSq_frame | with_reducible apply Frame.ite | extract_lets | split)

theorem eqFailed_frame {fm : Nat} {s0 : State} (hm : Sub 0x10009 fm) (r : Nat) (s : State) (h : Frame fm s0 s) :
    Frame fm s0 ((eqFailed r s)) := by
  unfold eqFailed
  repeat' (first | exact Sub.trans (by decide) hm | intro _ | with_reducible assumption | with_reducible apply State.fs_frame | with_reducible apply loseEvent_frame | with_reducible apply setDue_frame | with_reducible apply signalRingErr_frame | with_reducible apply Frame.foldl | extract_lets)

theorem entryAcked_frame {fm : Nat} {s0 : State} (hm : Sub 0x10009 fm) (r : Nat) (cmd : Option CmdKey) (pos : Nat) (good : Bool) (s : State) (h : Frame fm s0 s) :
    Frame fm s0 ((entryAcked r cmd pos good s)) := by
  unfold entryAcked
  repeat' (first | exact Sub.trans (by decide) hm | intro _ | with_reducible assumption | with_reducible apply eqFailed_frame | with_reducible apply modRings_frame | with_reducible apply retireCmd_frame | with_reducible apply settleEq_frame | with_reducible apply signalRingErr_frame | with_reducible apply trySignal_frame | with_reducible apply Frame.ite | extract_lets | split)

theorem writeMask_frame {fm : Nat} {s0 : State} (hm : Sub 0x9 fm) (hi : Bool) (v : Nat) (s : State) (h : Frame fm s0 s) :
    Frame fm s0 ((writeMask hi v s)) := by
  unfold writeMask
  repeat' (first | exact Sub.trans (by decide) hm | intro _ | with_reducible assumption | with_reducible refine Frame.pair ‹_› ?_ | with_reducible apply State.free_frame | with_reducible apply State.wr64_frame | with_reducible apply State.wrN_frame | with_reducible apply Frame.ite | with_reducible apply Frame.foldl | (simp only [Frame_mk]; first | with_reducible apply FrameC.pins_upd) | extract_lets | split)

theorem stopFunction_frame {fm : Nat} {s0 : State} (hm : Sub 0x30001 fm) (i : Nat) (s : State) (h : Frame fm s0 s) :
    Frame fm s0 ((stopFunction i s)) := by
  unfold stopFunction
  repeat' (first | exact Sub.trans (by decide) hm | intro _ | with_reducible assumption | with_reducible apply disableEq_frame | with_reducible apply disableSq_frame | with_reducible apply loseEvent_frame | with_reducible apply modBus_frame | with_reducible apply modRings_frame | with_reducible apply setDue_frame | with_reducible apply Frame.ite | with_reducible apply Frame.foldl | extract_lets | split)

theorem settleSuppressed_frame {fm : Nat} {s0 : State} (hm : Sub 0x10001 fm) (s : State) (h : Frame fm s0 s) :
    Frame fm s0 ((settleSuppressed s)) := by
  unfold settleSuppressed
  repeat' (first | exact Sub.trans (by decide) hm | intro _ | with_reducible assumption | with_reducible apply completeCmd_frame | with_reducible apply unpinSnap_frame | with_reducible apply State.when_frame | with_reducible apply Frame.when | with_reducible apply Frame.foldl)

theorem warmRings_frame {fm : Nat} {s0 : State} (hm : Sub 0x10001 fm) (s : State) (h : Frame fm s0 s) :
    Frame fm s0 ((warmRings s)) := by
  unfold warmRings
  repeat' (first | exact Sub.trans (by decide) hm | intro _ | with_reducible assumption | with_reducible apply State.fs_frame | with_reducible apply modRings_frame | with_reducible apply State.wrN_frame | with_reducible apply Frame.foldl | extract_lets | split)

theorem execSqDoorbell_frame {fm : Nat} {s0 : State} (hm : Sub 0x1 fm) (id ring value : Nat) (s : State) (h : Frame fm s0 s) :
    FrameO fm s0 (execSqDoorbell id ring value s) := by
  unfold execSqDoorbell
  repeat' (first | with_reducible apply FrameO.act | with_reducible apply FrameO.ok | exact Sub.trans (by decide) hm | intro _ | with_reducible assumption | with_reducible apply dbOwner_frame | with_reducible apply sqDoorbell_frame)

theorem execEqDoorbell_frame {fm : Nat} {s0 : State} (hm : Sub 0x10009 fm) (id ring value : Nat) (s : State) (h : Frame fm s0 s) :
    FrameO fm s0 (execEqDoorbell id ring value s) := by
  unfold execEqDoorbell
  repeat' (first | with_reducible apply FrameO.act | with_reducible apply FrameO.ok | exact Sub.trans (by decide) hm | intro _ | with_reducible assumption | with_reducible apply dbOwner_frame | with_reducible apply eqDoorbell_frame)

theorem execRingEnable_frame {fm : Nat} {s0 : State} (hm : Sub 0x10001 fm) (id : Nat) (eq : Bool) (ring : Nat) (s : State) (h : Frame fm s0 s) :
    FrameO fm s0 (execRingEnable id eq ring s) := by
  unfold execRingEnable
  repeat' (first | with_reducible apply FrameO.act | with_reducible apply FrameO.ok | exact Sub.trans (by decide) hm | intro _ | with_reducible assumption | with_reducible apply writeCtl_frame)

theorem execRingDisable_frame {fm : Nat} {s0 : State} (hm : Sub 0x10001 fm) (id : Nat) (eq : Bool) (ring : Nat) (s : State) (h : Frame fm s0 s) :
    FrameO fm s0 (execRingDisable id eq ring s) := by
  unfold execRingDisable
  repeat' (first | with_reducible apply FrameO.act | with_reducible apply FrameO.ok | exact Sub.trans (by decide) hm | intro _ | with_reducible assumption | with_reducible apply writeCtl_frame)

theorem execRingZero_frame {fm : Nat} {s0 : State} (hm : Sub 0x10001 fm) (id : Nat) (eq : Bool) (ring : Nat) (en : Bool) (s : State) (h : Frame fm s0 s) :
    FrameO fm s0 (execRingZero id eq ring en s) := by
  unfold execRingZero
  repeat' (first | with_reducible apply FrameO.act | with_reducible apply FrameO.ok | exact Sub.trans (by decide) hm | intro _ | with_reducible assumption | with_reducible apply writeCtl_frame)

theorem execRingFetchTurn_frame {fm : Nat} {s0 : State} (hm : Sub 0x30000 fm) (s : State) (h : Frame fm s0 s) :
    FrameO fm s0 (execRingFetchTurn s) := by
  unfold execRingFetchTurn
  repeat' (first | with_reducible apply FrameO.awake | with_reducible apply FrameO.ok | exact Sub.trans (by decide) hm | intro _ | with_reducible assumption | with_reducible apply fetchOne_frame | with_reducible apply modRings_frame | with_reducible apply Frame.foldl | extract_lets | split)

theorem execDescriptorFetchError_frame {fm : Nat} {s0 : State} (hm : Sub 0x30009 fm) (tag : Nat) (s : State) (h : Frame fm s0 s) :
    FrameO fm s0 (execDescriptorFetchError tag s) := by
  unfold execDescriptorFetchError
  repeat' (first | with_reducible apply FrameO.act | with_reducible apply FrameO.ok | exact Sub.trans (by decide) hm | intro _ | with_reducible assumption | with_reducible apply fetchFailed_frame | with_reducible apply modBus_frame | extract_lets | split)

theorem execEventEntryWrite_frame {fm : Nat} {s0 : State} (hm : Sub 0x30001 fm) (ring : Nat) (s : State) (h : Frame fm s0 s) :
    FrameO fm s0 (execEventEntryWrite ring s) := by
  unfold execEventEntryWrite
  repeat' (first | with_reducible apply FrameO.awake | with_reducible apply FrameO.ok | exact Sub.trans (by decide) hm | intro _ | with_reducible assumption | with_reducible apply settleEq_frame | with_reducible apply writeEventEntry_frame)

theorem execEqInterruptTimer_frame {fm : Nat} {s0 : State} (hm : Sub 0x10009 fm) (s : State) (h : Frame fm s0 s) :
    FrameO fm s0 (execEqInterruptTimer s) := by
  unfold execEqInterruptTimer
  repeat' (first | with_reducible apply FrameO.act | with_reducible apply FrameO.ok | exact Sub.trans (by decide) hm | intro _ | with_reducible assumption | with_reducible apply trySignal_frame | extract_lets | split)

theorem execIntMaskWrite_frame {fm : Nat} {s0 : State} (hm : Sub 0x9 fm) (id : Nat) (hi : Bool) (value : Nat) (s : State) (h : Frame fm s0 s) :
    FrameO fm s0 (execIntMaskWrite id hi value s) := by
  unfold execIntMaskWrite
  repeat' (first | with_reducible apply FrameO.act | with_reducible apply FrameO.ok | with_reducible apply FrameO.ite | exact Sub.trans (by decide) hm | intro _ | with_reducible assumption | with_reducible apply State.gate_frame | with_reducible apply writeMask_frame | with_reducible apply Frame.ite | split)

theorem execFunctionReset_frame {fm : Nat} {s0 : State} (hm : Sub 0x130009 fm) (ident : Nat) (s : State) (h : Frame fm s0 s) :
    FrameO fm s0 (execFunctionReset ident s) := by
  unfold execFunctionReset
  repeat' (first | with_reducible apply FrameO.act | with_reducible apply FrameO.ok | with_reducible apply FrameO.ite | exact Sub.trans (by decide) hm | intro _ | with_reducible assumption | with_reducible apply resetIdentities_frame | with_reducible apply settleSuppressed_frame | with_reducible apply stopFunction_frame | with_reducible apply Frame.ite | split)

theorem execControlGroupReset_frame {fm : Nat} {s0 : State} (hm : Sub 0x100009 fm) (group : Nat) (s : State) (h : Frame fm s0 s) :
    FrameO fm s0 (execControlGroupReset group s) := by
  unfold execControlGroupReset
  repeat' (first | with_reducible apply FrameO.act | with_reducible apply FrameO.ok | with_reducible apply FrameO.ite | exact Sub.trans (by decide) hm | intro _ | with_reducible assumption | with_reducible apply resetIdentities_frame | with_reducible apply Frame.ite | split)

/-! ### Checks -/

theorem settleAccepted_frame {fm : Nat} {s0 : State} (hm : Sub 0x10201 fm) (c : Cmd) (s : State) (h : Frame fm s0 s) :
    Frame fm s0 ((settleAccepted c s)) := by
  unfold settleAccepted
  repeat' (first | exact Sub.trans (by decide) hm | intro _ | with_reducible assumption | with_reducible apply completeCmd_frame | with_reducible apply State.fs_frame | with_reducible apply modCmd_frame | with_reducible apply ownCounter_frame | with_reducible apply Frame.ite | with_reducible apply Frame.foldl | extract_lets | split)

theorem markRefusal_frame {fm : Nat} {s0 : State} (hm : Sub 0x1 fm) (op st : Nat) (s : State) (h : Frame fm s0 s) :
    Frame fm s0 ((markRefusal op st s)) := by
  unfold markRefusal
  repeat' (first | exact Sub.trans (by decide) hm | intro _ | with_reducible assumption | with_reducible apply State.fs_frame | with_reducible apply Frame.ite | split)

theorem acceptDesc_frame {fm : Nat} {s0 : State} (hm : Sub 0x10201 fm) (k : CmdKey) (bytes : List Nat) (s : State) (h : Frame fm s0 s) :
    Frame fm s0 ((acceptDesc k bytes s)) := by
  unfold acceptDesc
  repeat' (first | exact Sub.trans (by decide) hm | intro _ | with_reducible assumption | with_reducible apply completeCmd_frame | with_reducible apply State.fs_frame | with_reducible apply markRefusal_frame | with_reducible apply modRings_frame | with_reducible apply settleAccepted_frame | extract_lets | split)

theorem execDescriptorAccept_frame {fm : Nat} {s0 : State} (hm : Sub 0x10201 fm) (s : State) (h : Frame fm s0 s) :
    FrameO fm s0 (execDescriptorAccept s) := by
  unfold execDescriptorAccept
  repeat' (first | with_reducible apply FrameO.awake | with_reducible apply FrameO.ok | exact Sub.trans (by decide) hm | intro _ | with_reducible assumption | with_reducible apply acceptDesc_frame | extract_lets | split)

/-! ### Commands -/

theorem startCmd_frame {fm : Nat} {s0 : State} (hm : Sub 0x10000 fm) (k : CmdKey) (op : Nat) (body : Cmd → State → State) (s : State) (hbody : ∀ (x0 : Cmd) (x1 : State), Frame fm s0 x1 → Frame fm s0 ((body x0 x1))) (h : Frame fm s0 s) :
    Frame fm s0 ((startCmd k op body s)) := by
  unfold startCmd
  repeat' (first | exact Sub.trans (by decide) hm | intro _ | with_reducible assumption | with_reducible apply hbody | with_reducible apply modCmd_frame | with_reducible apply Frame.ite | extract_lets | split)

theorem counterConfig_frame {fm : Nat} {s0 : State} (hm : Sub 0x1010e31 fm) (c : Cmd) (s : State) (h : Frame fm s0 s) :
    Frame fm s0 ((counterConfig c s)) := by
  unfold counterConfig
  repeat' (first | exact Sub.trans (by decide) hm | intro _ | with_reducible assumption | with_reducible refine Frame.pair ‹_› ?_ | with_reducible apply completeCmd_frame | with_reducible apply configureCounter_frame | with_reducible apply cutOff_frame | with_reducible apply modCmd_frame | with_reducible apply modCtr_frame | with_reducible apply Frame.ite | extract_lets | split)

theorem counterRead_frame {fm : Nat} {s0 : State} (hm : Sub 0x2032231 fm) (c : Cmd) (s : State) (h : Frame fm s0 s) :
    Frame fm s0 ((counterRead c s)) := by
  unfold counterRead
  repeat' (first | exact Sub.trans (by decide) hm | intro _ | with_reducible assumption | with_reducible apply beginCtrRead_frame | with_reducible apply settleReads_frame | extract_lets)

theorem reduceFor_frame {fm : Nat} {s0 : State} (hm : Sub 0x2030031 fm) (c : Cmd) (g : Nat × Nat) (vs : List RedValue) (s : State) (h : Frame fm s0 s) :
    Frame fm s0 ((reduceFor c g vs s)) := by
  unfold reduceFor
  repeat' (first | exact Sub.trans (by decide) hm | intro _ | with_reducible assumption | with_reducible refine Frame.pair ‹_› ?_ | with_reducible apply endReduceCmd_frame | with_reducible apply requestReduction_frame | with_reducible apply sampleTsOf_frame | with_reducible apply Frame.ite | extract_lets | split)

theorem counterReduce_frame {fm : Nat} {s0 : State} (hm : Sub 0x2030031 fm) (c : Cmd) (s : State) (h : Frame fm s0 s) :
    Frame fm s0 ((counterReduce c s)) := by
  unfold counterReduce
  repeat' (first | exact Sub.trans (by decide) hm | intro _ | with_reducible assumption | with_reducible apply reduceFor_frame | with_reducible apply Frame.ite | split)

theorem energyReduce_frame {fm : Nat} {s0 : State} (hm : Sub 0x2030031 fm) (c : Cmd) (s : State) (h : Frame fm s0 s) :
    Frame fm s0 ((energyReduce c s)) := by
  unfold energyReduce
  repeat' (first | exact Sub.trans (by decide) hm | intro _ | with_reducible assumption | with_reducible apply completeCmd_frame | with_reducible apply State.fs_frame | with_reducible apply reduceFor_frame | with_reducible apply sendDown_frame | with_reducible apply Frame.ite | extract_lets | split)

theorem energyRead_frame {fm : Nat} {s0 : State} (hm : Sub 0x2032231 fm) (c : Cmd) (s : State) (h : Frame fm s0 s) :
    Frame fm s0 ((energyRead c s)) := by
  unfold energyRead
  repeat' (first | exact Sub.trans (by decide) hm | intro _ | with_reducible assumption | with_reducible apply beginCtrRead_frame | with_reducible apply fetchTable_frame | with_reducible apply modRead_frame | with_reducible apply settleReads_frame | with_reducible apply Frame.ite | extract_lets | split)

theorem traceWait_frame {fm : Nat} {s0 : State} (hm : Sub 0x10401 fm) (k : CmdKey) (f res : Nat) (s : State) (h : Frame fm s0 s) :
    Frame fm s0 ((traceWait k f res s)) := by
  unfold traceWait
  repeat' (first | exact Sub.trans (by decide) hm | intro _ | with_reducible assumption | with_reducible apply completeCmd_frame | with_reducible apply modCmd_frame | with_reducible apply modTrc_frame | with_reducible apply Frame.ite | extract_lets | split | (show Memory.wf _ = true; assumption))

theorem traceConfig_frame {fm : Nat} {s0 : State} (hm : Sub 0x10433 fm) (c : Cmd) (s : State) (h : Frame fm s0 s) :
    Frame fm s0 ((traceConfig c s)) := by
  unfold traceConfig
  repeat' (first | exact Sub.trans (by decide) hm | intro _ | with_reducible assumption | with_reducible apply completeCmd_frame | with_reducible apply takeRing_frame | with_reducible apply traceWait_frame | with_reducible apply trcRegWrite_frame | with_reducible apply Frame.ite | with_reducible apply Frame.foldl | extract_lets | split)

theorem captureWait_frame {fm : Nat} {s0 : State} (hm : Sub 0x10401 fm) (k : CmdKey) (was : Bool) (s : State) (h : Frame fm s0 s) :
    Frame fm s0 ((captureWait k was s)) := by
  unfold captureWait
  repeat' (first | exact Sub.trans (by decide) hm | intro _ | with_reducible assumption | with_reducible apply completeCmd_frame | with_reducible apply traceWait_frame | with_reducible apply Frame.ite | split)

theorem traceArm_frame {fm : Nat} {s0 : State} (hm : Sub 0x10431 fm) (c : Cmd) (s : State) (h : Frame fm s0 s) :
    Frame fm s0 ((traceArm c s)) := by
  unfold traceArm
  repeat' (first | exact Sub.trans (by decide) hm | intro _ | with_reducible assumption | with_reducible apply armSeq_frame | with_reducible apply captureWait_frame | with_reducible apply centralSync_frame | with_reducible apply clearRing_frame | with_reducible apply completeCmd_frame | with_reducible apply State.fs_frame | with_reducible apply takeRing_frame | with_reducible apply Frame.ite | extract_lets | split)

theorem traceStop_frame {fm : Nat} {s0 : State} (hm : Sub 0x10431 fm) (c : Cmd) (s : State) (h : Frame fm s0 s) :
    Frame fm s0 ((traceStop c s)) := by
  unfold traceStop
  repeat' (first | exact Sub.trans (by decide) hm | intro _ | with_reducible assumption | with_reducible apply captureWait_frame | with_reducible apply completeCmd_frame | with_reducible apply disarmSeq_frame | with_reducible apply State.fs_frame | with_reducible apply takeRing_frame | with_reducible apply Frame.ite | extract_lets | split)

theorem drainNext_frame {fm : Nat} {s0 : State} (hm : Sub 0x30001 fm) (k : CmdKey) (s : State) (h : Frame fm s0 s) :
    Frame fm s0 ((drainNext k s)) := by
  unfold drainNext
  repeat' (first | exact Sub.trans (by decide) hm | intro _ | with_reducible assumption | with_reducible apply completeCmd_frame | with_reducible apply hostWriteBytes_frame | with_reducible apply modCmd_frame | with_reducible apply Frame.ite | extract_lets | split)

theorem drainAcked_frame {fm : Nat} {s0 : State} (hm : Sub 0x30401 fm) (k : CmdKey) (s : State) (h : Frame fm s0 s) :
    Frame fm s0 ((drainAcked k s)) := by
  unfold drainAcked
  repeat' (first | exact Sub.trans (by decide) hm | intro _ | with_reducible assumption | with_reducible apply completeCmd_frame | with_reducible apply drainNext_frame | with_reducible apply freeDrained_frame | with_reducible apply modCmd_frame | with_reducible apply modTrc_frame | with_reducible apply showTrcPtrs_frame | with_reducible apply Frame.ite | extract_lets | split | (show Memory.wf _ = true; assumption))

theorem traceDrain_frame {fm : Nat} {s0 : State} (hm : Sub 0x30431 fm) (c : Cmd) (s : State) (h : Frame fm s0 s) :
    Frame fm s0 ((traceDrain c s)) := by
  unfold traceDrain
  repeat' (first | exact Sub.trans (by decide) hm | intro _ | with_reducible assumption | with_reducible apply completeCmd_frame | with_reducible apply drainNext_frame | with_reducible apply takeRing_frame | with_reducible apply Frame.ite | split)

theorem traceMark_frame {fm : Nat} {s0 : State} (hm : Sub 0x10431 fm) (c : Cmd) (s : State) (h : Frame fm s0 s) :
    Frame fm s0 ((traceMark c s)) := by
  unfold traceMark
  repeat' (first | exact Sub.trans (by decide) hm | intro _ | with_reducible assumption | with_reducible apply completeCmd_frame | with_reducible apply stimPacket_frame | with_reducible apply takeRing_frame | with_reducible apply Frame.ite | extract_lets | split)

theorem striaReadCmd_frame {fm : Nat} {s0 : State} (hm : Sub 0x2032831 fm) (c : Cmd) (s : State) (h : Frame fm s0 s) :
    Frame fm s0 ((striaReadCmd c s)) := by
  unfold striaReadCmd
  repeat' (first | exact Sub.trans (by decide) hm | intro _ | with_reducible assumption | with_reducible apply askRead_frame | with_reducible apply completeCmd_frame | with_reducible apply Frame.ite | split)

theorem cutCmd_frame {fm : Nat} {s0 : State} (hm : Sub 0x10081 fm) (c : Cmd) (s : State) (h : Frame fm s0 s) :
    Frame fm s0 ((cutCmd c s)) := by
  unfold cutCmd
  repeat' (first | exact Sub.trans (by decide) hm | intro _ | with_reducible assumption | with_reducible apply centralTrigger_frame | with_reducible apply completeCmd_frame | with_reducible apply Frame.ite | split)

theorem cutAtCmd_frame {fm : Nat} {s0 : State} (hm : Sub 0x10081 fm) (c : Cmd) (s : State) (h : Frame fm s0 s) :
    Frame fm s0 ((cutAtCmd c s)) := by
  unfold cutAtCmd
  repeat' (first | exact Sub.trans (by decide) hm | intro _ | with_reducible assumption | with_reducible apply completeCmd_frame | with_reducible apply State.fs_frame | with_reducible apply modShear_frame | with_reducible apply Frame.ite | extract_lets | split)

theorem snapshotCmd_frame {fm : Nat} {s0 : State} (hm : Sub 0x10081 fm) (c : Cmd) (s : State) (h : Frame fm s0 s) :
    Frame fm s0 ((snapshotCmd c s)) := by
  unfold snapshotCmd
  repeat' (first | exact Sub.trans (by decide) hm | intro _ | with_reducible assumption | with_reducible apply centralTrigger_frame | with_reducible apply completeCmd_frame | with_reducible apply Frame.ite | split)

theorem dumpCmd_frame {fm : Nat} {s0 : State} (hm : Sub 0x12001 fm) (c : Cmd) (s : State) (h : Frame fm s0 s) :
    Frame fm s0 ((dumpCmd c s)) := by
  unfold dumpCmd
  repeat' (first | exact Sub.trans (by decide) hm | intro _ | with_reducible assumption | with_reducible refine Frame.pair ‹_› ?_ | with_reducible apply askDump_frame | with_reducible apply completeCmd_frame | with_reducible apply Frame.ite | extract_lets | split)

theorem dumpAbortCmd_frame {fm : Nat} {s0 : State} (hm : Sub 0x223eab9 fm) (c : Cmd) (s : State) (h : Frame fm s0 s) :
    Frame fm s0 ((dumpAbortCmd c s)) := by
  unfold dumpAbortCmd
  repeat' (first | exact Sub.trans (by decide) hm | intro _ | with_reducible assumption | with_reducible apply abortDump_frame | with_reducible apply completeCmd_frame | with_reducible apply Frame.ite | split)

theorem dumpReleases_frame {fm : Nat} {s0 : State} (hm : Sub 0x2001 fm) (c : Cmd) (s : State) (h : Frame fm s0 s) :
    Frame fm s0 ((dumpReleases c s)) := by
  unfold dumpReleases
  repeat' (first | exact Sub.trans (by decide) hm | intro _ | with_reducible assumption | with_reducible apply State.fs_frame | with_reducible apply releaseKeep_frame | with_reducible apply Frame.ite | extract_lets | split)

theorem dumpStatusCmd_frame {fm : Nat} {s0 : State} (hm : Sub 0x32001 fm) (c : Cmd) (s : State) (h : Frame fm s0 s) :
    Frame fm s0 ((dumpStatusCmd c s)) := by
  unfold dumpStatusCmd
  repeat' (first | exact Sub.trans (by decide) hm | intro _ | with_reducible assumption | with_reducible apply completeCmd_frame | with_reducible apply dumpReleases_frame | with_reducible apply finishWithBytes_frame | with_reducible apply Frame.ite | extract_lets | split)

theorem resetRequestCmd_frame {fm : Nat} {s0 : State} (hm : Sub 0x21c009 fm) (c : Cmd) (s : State) (h : Frame fm s0 s) :
    Frame fm s0 ((resetRequestCmd c s)) := by
  unfold resetRequestCmd
  repeat' (first | exact Sub.trans (by decide) hm | intro _ | with_reducible assumption | with_reducible refine Frame.pair ‹_› ?_ | with_reducible apply completeCmd_frame | with_reducible apply requestReset_frame | extract_lets | split)

theorem reheatStatusCmd_frame {fm : Nat} {s0 : State} (hm : Sub 0x30001 fm) (c : Cmd) (s : State) (h : Frame fm s0 s) :
    Frame fm s0 ((reheatStatusCmd c s)) := by
  unfold reheatStatusCmd
  repeat' (first | exact Sub.trans (by decide) hm | intro _ | with_reducible assumption | with_reducible apply completeCmd_frame | with_reducible apply finishWithBytes_frame | with_reducible apply Frame.ite | extract_lets | split)

theorem contCmd_frame {fm : Nat} {s0 : State} (hm : Sub 0x10001 fm) (begin_ : CmdKey → State → State) (c : Cmd) (s : State) (hbegin_ : ∀ (x0 : CmdKey) (x1 : State), Frame fm s0 x1 → Frame fm s0 ((begin_ x0 x1))) (h : Frame fm s0 s) :
    Frame fm s0 ((contCmd begin_ c s)) := by
  unfold contCmd
  repeat' (first | exact Sub.trans (by decide) hm | intro _ | with_reducible assumption | with_reducible apply hbegin_ | with_reducible apply completeCmd_frame | with_reducible apply Frame.ite | split)

theorem gatherCmd_frame {fm : Nat} {s0 : State} (hm : Sub 0xb0001 fm) (c : Cmd) (s : State) (h : Frame fm s0 s) :
    Frame fm s0 ((gatherCmd c s)) := by
  unfold gatherCmd
  repeat' (first | exact Sub.trans (by decide) hm | intro _ | with_reducible assumption | with_reducible apply completeCmd_frame | with_reducible apply fetchTable_frame | with_reducible apply State.fs_frame | with_reducible apply modGather_frame | with_reducible apply Frame.ite | extract_lets | split)

theorem dropGather_frame {fm : Nat} {s0 : State} (hm : Sub 0x80001 fm) (s : State) (h : Frame fm s0 s) :
    Frame fm s0 ((dropGather s)) := by
  unfold dropGather
  repeat' (first | exact Sub.trans (by decide) hm | intro _ | with_reducible assumption | with_reducible apply State.fs_frame | with_reducible apply modGather_frame | extract_lets)

theorem gatherList_frame {fm : Nat} {s0 : State} (hm : Sub 0x2090001 fm) (c : Cmd) (s : State) (h : Frame fm s0 s) :
    Frame fm s0 ((gatherList c s)) := by
  unfold gatherList
  repeat' (first | exact Sub.trans (by decide) hm | intro _ | with_reducible assumption | with_reducible apply beginRound_frame | with_reducible apply completeCmd_frame | with_reducible apply dropGather_frame | with_reducible apply State.wrN_frame | with_reducible apply Frame.ite | with_reducible apply Frame.foldl | extract_lets | split)

theorem noticeSendCmd_frame {fm : Nat} {s0 : State} (hm : Sub 0x18001 fm) (c : Cmd) (s : State) (h : Frame fm s0 s) :
    Frame fm s0 ((noticeSendCmd c s)) := by
  unfold noticeSendCmd
  repeat' (first | exact Sub.trans (by decide) hm | intro _ | with_reducible assumption | with_reducible refine Frame.pair ‹_› ?_ | with_reducible apply completeCmd_frame | with_reducible apply formFanOut_frame | with_reducible apply Frame.ite | extract_lets | split)

theorem jobTable_frame {fm : Nat} {s0 : State} (hm : Sub 0x58001 fm) (c : Cmd) (s : State) (h : Frame fm s0 s) :
    Frame fm s0 ((jobTable c s)) := by
  unfold jobTable
  repeat' (first | exact Sub.trans (by decide) hm | intro _ | with_reducible assumption | with_reducible apply checkDest_frame | with_reducible apply completeCmd_frame | with_reducible apply dropUntabled_frame | with_reducible apply State.fs_frame | with_reducible apply Frame.ite | with_reducible apply Frame.foldl | (simp only [Frame_mk]; first | with_reducible apply FrameC.job_upd) | extract_lets | split)

theorem jobTableCmd_frame {fm : Nat} {s0 : State} (hm : Sub 0x78001 fm) (c : Cmd) (s : State) (h : Frame fm s0 s) :
    Frame fm s0 ((jobTableCmd c s)) := by
  unfold jobTableCmd
  repeat' (first | exact Sub.trans (by decide) hm | intro _ | with_reducible assumption | with_reducible apply completeCmd_frame | with_reducible apply fetchTable_frame | with_reducible apply jobTable_frame | with_reducible apply Frame.ite | split)

theorem budgetTable_frame {fm : Nat} {s0 : State} (hm : Sub 0x11001 fm) (c : Cmd) (s : State) (h : Frame fm s0 s) :
    Frame fm s0 ((budgetTable c s)) := by
  unfold budgetTable
  repeat' (first | exact Sub.trans (by decide) hm | intro _ | with_reducible assumption | with_reducible apply completeCmd_frame | with_reducible apply loadRow_frame | with_reducible apply Frame.ite | extract_lets | split)

theorem accessWord_frame {fm : Nat} {s0 : State} (hm : Sub 0x30001 fm) (k : CmdKey) (i : Nat) (v : Option Nat) (s : State) (h : Frame fm s0 s) :
    Frame fm s0 ((accessWord k i v s)) := by
  unfold accessWord
  repeat' (first | exact Sub.trans (by decide) hm | intro _ | with_reducible assumption | with_reducible apply finishWithBytes_frame | with_reducible apply modCmd_frame | with_reducible apply Frame.ite | extract_lets | split)

theorem accessWrite_frame {fm : Nat} {s0 : State} (hm : Sub 0x231 fm) (c : Cmd) (n page off v : Nat) (s : State) (h : Frame fm s0 s) :
    Frame fm s0 ((accessWrite c n page off v s)) := by
  unfold accessWrite
  repeat' (first | exact Sub.trans (by decide) hm | intro _ | with_reducible assumption | with_reducible apply State.fs_frame | with_reducible apply issueAccess_frame | with_reducible apply pcCfgWord_frame | with_reducible apply Frame.ite | split)

theorem stationAccess_frame {fm : Nat} {s0 : State} (hm : Sub 0x30231 fm) (c : Cmd) (s : State) (h : Frame fm s0 s) :
    Frame fm s0 ((stationAccess c s)) := by
  unfold stationAccess
  repeat' (first | exact Sub.trans (by decide) hm | intro _ | with_reducible assumption | with_reducible apply accessWord_frame | with_reducible apply accessWrite_frame | with_reducible apply completeCmd_frame | with_reducible apply State.fs_frame | with_reducible apply issueAccess_frame | with_reducible apply modCmd_frame | with_reducible apply Frame.ite | with_reducible apply Frame.foldl | extract_lets | split)

theorem execNop_frame {fm : Nat} {s0 : State} (hm : Sub 0x10001 fm) (ring idx : Nat) (s : State) (h : Frame fm s0 s) :
    FrameO fm s0 (execNop ring idx s) := by
  unfold execNop
  repeat' (first | with_reducible apply FrameO.act | with_reducible apply FrameO.ok | exact Sub.trans (by decide) hm | intro _ | with_reducible assumption | with_reducible apply completeCmd_frame | with_reducible apply startCmd_frame)

theorem execFence_frame {fm : Nat} {s0 : State} (hm : Sub 0x10001 fm) (ring idx : Nat) (s : State) (h : Frame fm s0 s) :
    FrameO fm s0 (execFence ring idx s) := by
  unfold execFence
  repeat' (first | with_reducible apply FrameO.act | with_reducible apply FrameO.ok | with_reducible apply FrameO.ite | exact Sub.trans (by decide) hm | intro _ | with_reducible assumption | with_reducible apply completeCmd_frame | with_reducible apply startCmd_frame | with_reducible apply Frame.ite | split)

theorem execCounterConfig_frame {fm : Nat} {s0 : State} (hm : Sub 0x1010e31 fm) (ring idx : Nat) (s : State) (h : Frame fm s0 s) :
    FrameO fm s0 (execCounterConfig ring idx s) := by
  unfold execCounterConfig
  repeat' (first | with_reducible apply FrameO.act | with_reducible apply FrameO.ok | exact Sub.trans (by decide) hm | intro _ | with_reducible assumption | with_reducible apply counterConfig_frame | with_reducible apply startCmd_frame)

theorem execCounterRead_frame {fm : Nat} {s0 : State} (hm : Sub 0x2032231 fm) (ring idx : Nat) (s : State) (h : Frame fm s0 s) :
    FrameO fm s0 (execCounterRead ring idx s) := by
  unfold execCounterRead
  repeat' (first | with_reducible apply FrameO.act | with_reducible apply FrameO.ok | exact Sub.trans (by decide) hm | intro _ | with_reducible assumption | with_reducible apply counterRead_frame | with_reducible apply startCmd_frame)

theorem execCounterReduce_frame {fm : Nat} {s0 : State} (hm : Sub 0x2030031 fm) (ring idx : Nat) (s : State) (h : Frame fm s0 s) :
    FrameO fm s0 (execCounterReduce ring idx s) := by
  unfold execCounterReduce
  repeat' (first | with_reducible apply FrameO.act | with_reducible apply FrameO.ok | exact Sub.trans (by decide) hm | intro _ | with_reducible assumption | with_reducible apply counterReduce_frame | with_reducible apply startCmd_frame)

theorem execEnergyRead_frame {fm : Nat} {s0 : State} (hm : Sub 0x2032231 fm) (ring idx : Nat) (s : State) (h : Frame fm s0 s) :
    FrameO fm s0 (execEnergyRead ring idx s) := by
  unfold execEnergyRead
  repeat' (first | with_reducible apply FrameO.act | with_reducible apply FrameO.ok | exact Sub.trans (by decide) hm | intro _ | with_reducible assumption | with_reducible apply energyRead_frame | with_reducible apply startCmd_frame)

theorem execTraceConfig_frame {fm : Nat} {s0 : State} (hm : Sub 0x30000 fm) (ring idx : Nat) (s : State) (h : Frame fm s0 s) :
    FrameO fm s0 (execTraceConfig ring idx s) := by
  unfold execTraceConfig
  repeat' (first | with_reducible apply FrameO.act | with_reducible apply FrameO.ok | exact Sub.trans (by decide) hm | intro _ | with_reducible assumption | with_reducible apply fetchTable_frame | with_reducible apply startCmd_frame)

theorem execTraceArm_frame {fm : Nat} {s0 : State} (hm : Sub 0x10431 fm) (ring idx : Nat) (s : State) (h : Frame fm s0 s) :
    FrameO fm s0 (execTraceArm ring idx s) := by
  unfold execTraceArm
  repeat' (first | with_reducible apply FrameO.act | with_reducible apply FrameO.ok | exact Sub.trans (by decide) hm | intro _ | with_reducible assumption | with_reducible apply startCmd_frame | with_reducible apply traceArm_frame)

theorem execTraceStop_frame {fm : Nat} {s0 : State} (hm : Sub 0x10431 fm) (ring idx : Nat) (s : State) (h : Frame fm s0 s) :
    FrameO fm s0 (execTraceStop ring idx s) := by
  unfold execTraceStop
  repeat' (first | with_reducible apply FrameO.act | with_reducible apply FrameO.ok | exact Sub.trans (by decide) hm | intro _ | with_reducible assumption | with_reducible apply startCmd_frame | with_reducible apply traceStop_frame)

theorem execTraceDrain_frame {fm : Nat} {s0 : State} (hm : Sub 0x30431 fm) (ring idx : Nat) (s : State) (h : Frame fm s0 s) :
    FrameO fm s0 (execTraceDrain ring idx s) := by
  unfold execTraceDrain
  repeat' (first | with_reducible apply FrameO.act | with_reducible apply FrameO.ok | exact Sub.trans (by decide) hm | intro _ | with_reducible assumption | with_reducible apply startCmd_frame | with_reducible apply traceDrain_frame)

theorem execTraceMark_frame {fm : Nat} {s0 : State} (hm : Sub 0x10431 fm) (ring idx : Nat) (s : State) (h : Frame fm s0 s) :
    FrameO fm s0 (execTraceMark ring idx s) := by
  unfold execTraceMark
  repeat' (first | with_reducible apply FrameO.act | with_reducible apply FrameO.ok | exact Sub.trans (by decide) hm | intro _ | with_reducible assumption | with_reducible apply startCmd_frame | with_reducible apply traceMark_frame)

theorem execStriaArm_frame {fm : Nat} {s0 : State} (hm : Sub 0x10831 fm) (ring idx : Nat) (s : State) (h : Frame fm s0 s) :
    FrameO fm s0 (execStriaArm ring idx s) := by
  unfold execStriaArm
  repeat' (first | with_reducible apply FrameO.act | with_reducible apply FrameO.ok | exact Sub.trans (by decide) hm | intro _ | with_reducible assumption | with_reducible apply changeSlot_frame | with_reducible apply startCmd_frame)

theorem execStriaDisarm_frame {fm : Nat} {s0 : State} (hm : Sub 0x10831 fm) (ring idx : Nat) (s : State) (h : Frame fm s0 s) :
    FrameO fm s0 (execStriaDisarm ring idx s) := by
  unfold execStriaDisarm
  repeat' (first | with_reducible apply FrameO.act | with_reducible apply FrameO.ok | with_reducible apply FrameO.ite | exact Sub.trans (by decide) hm | intro _ | with_reducible assumption | with_reducible apply changeSlot_frame | with_reducible apply completeCmd_frame | with_reducible apply startCmd_frame | with_reducible apply Frame.ite | split)

theorem execStriaRead_frame {fm : Nat} {s0 : State} (hm : Sub 0x2032831 fm) (ring idx : Nat) (s : State) (h : Frame fm s0 s) :
    FrameO fm s0 (execStriaRead ring idx s) := by
  unfold execStriaRead
  repeat' (first | with_reducible apply FrameO.act | with_reducible apply FrameO.ok | exact Sub.trans (by decide) hm | intro _ | with_reducible assumption | with_reducible apply startCmd_frame | with_reducible apply striaReadCmd_frame)

theorem execCut_frame {fm : Nat} {s0 : State} (hm : Sub 0x10081 fm) (ring idx : Nat) (s : State) (h : Frame fm s0 s) :
    FrameO fm s0 (execCut ring idx s) := by
  unfold execCut
  repeat' (first | with_reducible apply FrameO.act | with_reducible apply FrameO.ok | exact Sub.trans (by decide) hm | intro _ | with_reducible assumption | with_reducible apply cutCmd_frame | with_reducible apply startCmd_frame)

theorem execCutAt_frame {fm : Nat} {s0 : State} (hm : Sub 0x10081 fm) (ring idx : Nat) (s : State) (h : Frame fm s0 s) :
    FrameO fm s0 (execCutAt ring idx s) := by
  unfold execCutAt
  repeat' (first | with_reducible apply FrameO.act | with_reducible apply FrameO.ok | exact Sub.trans (by decide) hm | intro _ | with_reducible assumption | with_reducible apply cutAtCmd_frame | with_reducible apply startCmd_frame)

theorem execResume_frame {fm : Nat} {s0 : State} (hm : Sub 0x10081 fm) (ring idx : Nat) (s : State) (h : Frame fm s0 s) :
    FrameO fm s0 (execResume ring idx s) := by
  unfold execResume
  repeat' (first | with_reducible apply FrameO.act | with_reducible apply FrameO.ok | with_reducible apply FrameO.ite | exact Sub.trans (by decide) hm | intro _ | with_reducible assumption | with_reducible apply completeCmd_frame | with_reducible apply registerResume_frame | with_reducible apply startCmd_frame | with_reducible apply Frame.ite | split)

theorem execSnapshot_frame {fm : Nat} {s0 : State} (hm : Sub 0x10081 fm) (ring idx : Nat) (s : State) (h : Frame fm s0 s) :
    FrameO fm s0 (execSnapshot ring idx s) := by
  unfold execSnapshot
  repeat' (first | with_reducible apply FrameO.act | with_reducible apply FrameO.ok | exact Sub.trans (by decide) hm | intro _ | with_reducible assumption | with_reducible apply snapshotCmd_frame | with_reducible apply startCmd_frame)

theorem execDump_frame {fm : Nat} {s0 : State} (hm : Sub 0x12001 fm) (ring idx : Nat) (s : State) (h : Frame fm s0 s) :
    FrameO fm s0 (execDump ring idx s) := by
  unfold execDump
  repeat' (first | with_reducible apply FrameO.act | with_reducible apply FrameO.ok | exact Sub.trans (by decide) hm | intro _ | with_reducible assumption | with_reducible apply dumpCmd_frame | with_reducible apply startCmd_frame)

theorem execDumpAbort_frame {fm : Nat} {s0 : State} (hm : Sub 0x223eab9 fm) (ring idx : Nat) (s : State) (h : Frame fm s0 s) :
    FrameO fm s0 (execDumpAbort ring idx s) := by
  unfold execDumpAbort
  repeat' (first | with_reducible apply FrameO.act | with_reducible apply FrameO.ok | exact Sub.trans (by decide) hm | intro _ | with_reducible assumption | with_reducible apply dumpAbortCmd_frame | with_reducible apply startCmd_frame)

theorem execDumpStatus_frame {fm : Nat} {s0 : State} (hm : Sub 0x32001 fm) (ring idx : Nat) (s : State) (h : Frame fm s0 s) :
    FrameO fm s0 (execDumpStatus ring idx s) := by
  unfold execDumpStatus
  repeat' (first | with_reducible apply FrameO.act | with_reducible apply FrameO.ok | exact Sub.trans (by decide) hm | intro _ | with_reducible assumption | with_reducible apply dumpStatusCmd_frame | with_reducible apply startCmd_frame)

theorem execResetRequest_frame {fm : Nat} {s0 : State} (hm : Sub 0x21c009 fm) (ring idx : Nat) (s : State) (h : Frame fm s0 s) :
    FrameO fm s0 (execResetRequest ring idx s) := by
  unfold execResetRequest
  repeat' (first | with_reducible apply FrameO.act | with_reducible apply FrameO.ok | exact Sub.trans (by decide) hm | intro _ | with_reducible assumption | with_reducible apply resetRequestCmd_frame | with_reducible apply startCmd_frame)

theorem execReheatStatus_frame {fm : Nat} {s0 : State} (hm : Sub 0x30001 fm) (ring idx : Nat) (s : State) (h : Frame fm s0 s) :
    FrameO fm s0 (execReheatStatus ring idx s) := by
  unfold execReheatStatus
  repeat' (first | with_reducible apply FrameO.act | with_reducible apply FrameO.ok | exact Sub.trans (by decide) hm | intro _ | with_reducible assumption | with_reducible apply reheatStatusCmd_frame | with_reducible apply startCmd_frame)

theorem execLedgerRecord_frame {fm : Nat} {s0 : State} (hm : Sub 0x230081 fm) (ring idx : Nat) (s : State) (h : Frame fm s0 s) :
    FrameO fm s0 (execLedgerRecord ring idx s) := by
  unfold execLedgerRecord
  repeat' (first | with_reducible apply FrameO.act | with_reducible apply FrameO.ok | exact Sub.trans (by decide) hm | intro _ | with_reducible assumption | with_reducible apply beginRecord_frame | with_reducible apply contCmd_frame | with_reducible apply startCmd_frame)

theorem execLedgerCheck_frame {fm : Nat} {s0 : State} (hm : Sub 0x230081 fm) (ring idx : Nat) (s : State) (h : Frame fm s0 s) :
    FrameO fm s0 (execLedgerCheck ring idx s) := by
  unfold execLedgerCheck
  repeat' (first | with_reducible apply FrameO.act | with_reducible apply FrameO.ok | exact Sub.trans (by decide) hm | intro _ | with_reducible assumption | with_reducible apply beginCheck_frame | with_reducible apply contCmd_frame | with_reducible apply startCmd_frame)

theorem execMirrorVerify_frame {fm : Nat} {s0 : State} (hm : Sub 0x230001 fm) (ring idx : Nat) (s : State) (h : Frame fm s0 s) :
    FrameO fm s0 (execMirrorVerify ring idx s) := by
  unfold execMirrorVerify
  repeat' (first | with_reducible apply FrameO.act | with_reducible apply FrameO.ok | exact Sub.trans (by decide) hm | intro _ | with_reducible assumption | with_reducible apply beginVerify_frame | with_reducible apply contCmd_frame | with_reducible apply startCmd_frame)

theorem execCopy_frame {fm : Nat} {s0 : State} (hm : Sub 0x230001 fm) (ring idx : Nat) (s : State) (h : Frame fm s0 s) :
    FrameO fm s0 (execCopy ring idx s) := by
  unfold execCopy
  repeat' (first | with_reducible apply FrameO.act | with_reducible apply FrameO.ok | exact Sub.trans (by decide) hm | intro _ | with_reducible assumption | with_reducible apply beginCopy_frame | with_reducible apply contCmd_frame | with_reducible apply startCmd_frame)

theorem execGather_frame {fm : Nat} {s0 : State} (hm : Sub 0xb0001 fm) (ring idx : Nat) (s : State) (h : Frame fm s0 s) :
    FrameO fm s0 (execGather ring idx s) := by
  unfold execGather
  repeat' (first | with_reducible apply FrameO.act | with_reducible apply FrameO.ok | exact Sub.trans (by decide) hm | intro _ | with_reducible assumption | with_reducible apply gatherCmd_frame | with_reducible apply startCmd_frame)

theorem execNoticeSend_frame {fm : Nat} {s0 : State} (hm : Sub 0x18001 fm) (ring idx : Nat) (s : State) (h : Frame fm s0 s) :
    FrameO fm s0 (execNoticeSend ring idx s) := by
  unfold execNoticeSend
  repeat' (first | with_reducible apply FrameO.act | with_reducible apply FrameO.ok | exact Sub.trans (by decide) hm | intro _ | with_reducible assumption | with_reducible apply noticeSendCmd_frame | with_reducible apply startCmd_frame)

theorem execJobTableLoad_frame {fm : Nat} {s0 : State} (hm : Sub 0x78001 fm) (ring idx : Nat) (s : State) (h : Frame fm s0 s) :
    FrameO fm s0 (execJobTableLoad ring idx s) := by
  unfold execJobTableLoad
  repeat' (first | with_reducible apply FrameO.act | with_reducible apply FrameO.ok | exact Sub.trans (by decide) hm | intro _ | with_reducible assumption | with_reducible apply jobTableCmd_frame | with_reducible apply startCmd_frame)

theorem execBudgetTableLoad_frame {fm : Nat} {s0 : State} (hm : Sub 0x30000 fm) (ring idx : Nat) (s : State) (h : Frame fm s0 s) :
    FrameO fm s0 (execBudgetTableLoad ring idx s) := by
  unfold execBudgetTableLoad
  repeat' (first | with_reducible apply FrameO.act | with_reducible apply FrameO.ok | exact Sub.trans (by decide) hm | intro _ | with_reducible assumption | with_reducible apply fetchTable_frame | with_reducible apply startCmd_frame)

theorem execContextBind_frame {fm : Nat} {s0 : State} (hm : Sub 0x11001 fm) (ring idx : Nat) (s : State) (h : Frame fm s0 s) :
    FrameO fm s0 (execContextBind ring idx s) := by
  unfold execContextBind
  repeat' (first | with_reducible apply FrameO.act | with_reducible apply FrameO.ok | exact Sub.trans (by decide) hm | intro _ | with_reducible assumption | with_reducible apply askBind_frame | with_reducible apply startCmd_frame)

theorem execStationAccess_frame {fm : Nat} {s0 : State} (hm : Sub 0x30231 fm) (ring idx : Nat) (s : State) (h : Frame fm s0 s) :
    FrameO fm s0 (execStationAccess ring idx s) := by
  unfold execStationAccess
  repeat' (first | with_reducible apply FrameO.act | with_reducible apply FrameO.ok | exact Sub.trans (by decide) hm | intro _ | with_reducible assumption | with_reducible apply startCmd_frame | with_reducible apply stationAccess_frame)

/-! ### HostIo -/

theorem tableRead_frame {fm : Nat} {s0 : State} (hm : Sub 0x32fffbf fm) (k : CmdKey) (s : State) (h : Frame fm s0 s) :
    Frame fm s0 ((tableRead k s)) := by
  unfold tableRead
  repeat' (first | exact Sub.trans (by decide) hm | intro _ | with_reducible assumption | with_reducible apply budgetTable_frame | with_reducible apply copyPlan_frame | with_reducible apply energyReduce_frame | with_reducible apply gatherList_frame | with_reducible apply jobTable_frame | with_reducible apply traceConfig_frame | with_reducible apply Frame.ite | extract_lets | split)

theorem tableFailed_frame {fm : Nat} {s0 : State} (hm : Sub 0x290001 fm) (k : CmdKey) (s : State) (h : Frame fm s0 s) :
    Frame fm s0 ((tableFailed k s)) := by
  unfold tableFailed
  repeat' (first | exact Sub.trans (by decide) hm | intro _ | with_reducible assumption | with_reducible apply completeCmd_frame | with_reducible apply dropGather_frame | with_reducible apply modCont_frame | with_reducible apply showCont_frame | with_reducible apply Frame.ite | extract_lets | split)

theorem settleTables_frame {fm : Nat} {s0 : State} (hm : Sub 0x290001 fm) (s : State) (h : Frame fm s0 s) :
    Frame fm s0 ((settleTables s)) := by
  unfold settleTables
  repeat' (first | exact Sub.trans (by decide) hm | intro _ | with_reducible assumption | with_reducible apply tableFailed_frame | with_reducible apply Frame.foldl)

theorem readOver_frame {fm : Nat} {s0 : State} (hm : Sub 0x32fffbf fm) (q : HostReq) (data : Option (List Nat)) (s : State) (h : Frame fm s0 s) :
    Frame fm s0 ((readOver q data s)) := by
  unfold readOver
  repeat' (first | exact Sub.trans (by decide) hm | intro _ | with_reducible assumption | with_reducible apply descriptorArrives_frame | with_reducible apply fetchFailed_frame | with_reducible apply fetchMore_frame | with_reducible apply modCmd_frame | with_reducible apply tableFailed_frame | with_reducible apply tableRead_frame | with_reducible apply Frame.ite | extract_lets | split)

theorem resultWritten_frame {fm : Nat} {s0 : State} (hm : Sub 0x32befbd fm) (k : CmdKey) (s : State) (h : Frame fm s0 s) :
    Frame fm s0 ((resultWritten k s)) := by
  unfold resultWritten
  repeat' (first | exact Sub.trans (by decide) hm | intro _ | with_reducible assumption | with_reducible apply completeCmd_frame | with_reducible apply completeTick_frame | with_reducible apply drainAcked_frame | with_reducible apply dumpReleases_frame | with_reducible apply finishStriaCmd_frame | with_reducible apply unpinSnap_frame | with_reducible apply Frame.ite | extract_lets | split)

theorem resultAcked_frame {fm : Nat} {s0 : State} (hm : Sub 0x32befbd fm) (k : CmdKey) (good : Bool) (s : State) (h : Frame fm s0 s) :
    Frame fm s0 ((resultAcked k good s)) := by
  unfold resultAcked
  repeat' (first | exact Sub.trans (by decide) hm | intro _ | with_reducible assumption | with_reducible apply modCmd_frame | with_reducible apply resultWritten_frame | with_reducible apply Frame.ite | extract_lets | split)

theorem writeOver_frame {fm : Nat} {s0 : State} (hm : Sub 0x32befbd fm) (q : HostReq) (good : Bool) (s : State) (h : Frame fm s0 s) :
    Frame fm s0 ((writeOver q good s)) := by
  unfold writeOver
  repeat' (first | exact Sub.trans (by decide) hm | intro _ | with_reducible assumption | with_reducible apply dumpAck_frame | with_reducible apply entryAcked_frame | with_reducible apply reportAck_frame | with_reducible apply resultAcked_frame | extract_lets | split)

theorem execHostReadReturn_frame {fm : Nat} {s0 : State} (hm : Sub 0x32fffbf fm) (tag : Nat) (data : List Nat) (err : Bool) (s : State) (h : Frame fm s0 s) :
    FrameO fm s0 (execHostReadReturn tag data err s) := by
  unfold execHostReadReturn
  repeat' (first | with_reducible apply FrameO.act | with_reducible apply FrameO.ok | with_reducible apply FrameO.ite | exact Sub.trans (by decide) hm | intro _ | with_reducible assumption | with_reducible apply modBus_frame | with_reducible apply readOver_frame | with_reducible apply Frame.ite | extract_lets | split)

theorem execHostReadTimeout_frame {fm : Nat} {s0 : State} (hm : Sub 0x32fffbf fm) (s : State) (h : Frame fm s0 s) :
    FrameO fm s0 (execHostReadTimeout s) := by
  unfold execHostReadTimeout
  repeat' (first | with_reducible apply FrameO.act | with_reducible apply FrameO.ok | exact Sub.trans (by decide) hm | intro _ | with_reducible assumption | with_reducible apply modBus_frame | with_reducible apply readOver_frame | extract_lets | split)

theorem execHostWriteAck_frame {fm : Nat} {s0 : State} (hm : Sub 0x32befbd fm) (tag : Nat) (err : Bool) (s : State) (h : Frame fm s0 s) :
    FrameO fm s0 (execHostWriteAck tag err s) := by
  unfold execHostWriteAck
  repeat' (first | with_reducible apply FrameO.act | with_reducible apply FrameO.ok | exact Sub.trans (by decide) hm | intro _ | with_reducible assumption | with_reducible apply modBus_frame | with_reducible apply writeOver_frame | extract_lets | split)

theorem execHostWriteTimeout_frame {fm : Nat} {s0 : State} (hm : Sub 0x32befbd fm) (s : State) (h : Frame fm s0 s) :
    FrameO fm s0 (execHostWriteTimeout s) := by
  unfold execHostWriteTimeout
  repeat' (first | with_reducible apply FrameO.act | with_reducible apply FrameO.ok | exact Sub.trans (by decide) hm | intro _ | with_reducible assumption | with_reducible apply modBus_frame | with_reducible apply writeOver_frame | extract_lets | split)

/-! ### Gaffer -/

theorem modGaf_frame {fm : Nat} {s0 : State} (hm : Sub 0x800000 fm) (f : GafState → GafState) (s : State) (h : Frame fm s0 s) :
    Frame fm s0 ((modGaf f s)) := by
  unfold modGaf
  repeat' (first | exact Sub.trans (by decide) hm | intro _ | with_reducible assumption | (simp only [Frame_mk]; first | with_reducible apply FrameC.gaf_upd) | extract_lets)

theorem modCore_frame {fm : Nat} {s0 : State} (hm : Sub 0x800000 fm) (n : Nat) (f : GafCore → GafCore) (s : State) (h : Frame fm s0 s) :
    Frame fm s0 ((modCore n f s)) := by
  unfold modCore
  repeat' (first | exact Sub.trans (by decide) hm | intro _ | with_reducible assumption | with_reducible apply modGaf_frame | with_reducible apply Frame.ite | extract_lets | split)

theorem startCore_frame {fm : Nat} {s0 : State} (hm : Sub 0x800000 fm) (n : Nat) (s : State) (h : Frame fm s0 s) :
    Frame fm s0 ((startCore n s)) := by
  unfold startCore
  repeat' (first | exact Sub.trans (by decide) hm | intro _ | with_reducible assumption | with_reducible apply modCore_frame)

theorem clearHalt_frame {fm : Nat} {s0 : State} (hm : Sub 0x1 fm) (n : Nat) (s : State) (h : Frame fm s0 s) :
    Frame fm s0 ((clearHalt n s)) := by
  unfold clearHalt
  repeat' (first | exact Sub.trans (by decide) hm | intro _ | with_reducible assumption | with_reducible apply State.fs_frame | extract_lets)

theorem releaseCore_frame {fm : Nat} {s0 : State} (hm : Sub 0x800001 fm) (n : Nat) (s : State) (h : Frame fm s0 s) :
    Frame fm s0 ((releaseCore n s)) := by
  unfold releaseCore
  repeat' (first | exact Sub.trans (by decide) hm | intro _ | with_reducible assumption | with_reducible apply State.fs_frame | with_reducible apply modGaf_frame | with_reducible apply startCore_frame | with_reducible apply Frame.ite | extract_lets | split)

theorem timeoutServed_frame {fm : Nat} {s0 : State} (hm : Sub 0x10001 fm) (ops : List Nat) (s : State) (h : Frame fm s0 s) :
    Frame fm s0 ((timeoutServed ops s)) := by
  unfold timeoutServed
  repeat' (first | exact Sub.trans (by decide) hm | intro _ | with_reducible assumption | with_reducible apply completeCmd_frame | with_reducible apply Frame.foldl | extract_lets)

theorem dropServices_frame {fm : Nat} {s0 : State} (hm : Sub 0x23beab9 fm) (n : Nat) (s : State) (h : Frame fm s0 s) :
    Frame fm s0 ((dropServices n s)) := by
  unfold dropServices
  repeat' (first | exact Sub.trans (by decide) hm | intro _ | with_reducible assumption | with_reducible apply dropGather_frame | with_reducible apply lehrWatchdog_frame | with_reducible apply modLehr_frame | with_reducible apply timeoutServed_frame | with_reducible apply warmCont_frame | with_reducible apply warmLadder_frame | with_reducible apply warmNotice_frame | with_reducible apply Frame.ite | (simp only [Frame_mk]; first | with_reducible apply FrameC.mbx_upd) | extract_lets | split | (show Memory.wf [] = true; rfl) | (show Memory.wf _ = true; assumption))

theorem resetCore_frame {fm : Nat} {s0 : State} (hm : Sub 0x2bbeab9 fm) (n : Nat) (s : State) (h : Frame fm s0 s) :
    Frame fm s0 ((resetCore n s)) := by
  unfold resetCore
  repeat' (first | exact Sub.trans (by decide) hm | intro _ | with_reducible assumption | with_reducible apply clearHalt_frame | with_reducible apply dropServices_frame | with_reducible apply State.fs_frame | with_reducible apply modCore_frame | with_reducible apply resetIdentities_frame | extract_lets)

theorem writeRun_frame {fm : Nat} {s0 : State} (hm : Sub 0x2bbeab9 fm) (id n : Nat) (on : Bool) (s : State) (h : Frame fm s0 s) :
    Frame fm s0 ((writeRun id n on s)) := by
  unfold writeRun
  repeat' (first | exact Sub.trans (by decide) hm | intro _ | with_reducible assumption | with_reducible apply State.fs_frame | with_reducible apply refuseAccess_frame | with_reducible apply releaseCore_frame | with_reducible apply resetCore_frame | with_reducible apply Frame.ite | split)

theorem writeGafCtl_frame {fm : Nat} {s0 : State} (hm : Sub 0x2bbeab9 fm) (id v : Nat) (s : State) (h : Frame fm s0 s) :
    Frame fm s0 ((writeGafCtl id v s)) := by
  unfold writeGafCtl
  repeat' (first | exact Sub.trans (by decide) hm | intro _ | with_reducible assumption | with_reducible apply writeRun_frame)

theorem coreGoesOn_frame {fm : Nat} {s0 : State} (hm : Sub 0x33befbd fm) (n : Nat) (s : State) (h : Frame fm s0 s) :
    Frame fm s0 ((coreGoesOn n s)) := by
  unfold coreGoesOn
  repeat' (first | exact Sub.trans (by decide) hm | intro _ | with_reducible assumption | with_reducible apply contResume_frame | with_reducible apply lehrRun_frame | with_reducible apply mbxDump_frame | with_reducible apply Frame.ite | with_reducible apply Frame.foldl | split)

theorem wdExpire_frame {fm : Nat} {s0 : State} (hm : Sub 0x3bbefbd fm) (n : Nat) (s : State) (h : Frame fm s0 s) :
    Frame fm s0 ((wdExpire n s)) := by
  unfold wdExpire
  repeat' (first | exact Sub.trans (by decide) hm | intro _ | with_reducible assumption | with_reducible refine Frame.pair ‹_› ?_ | with_reducible apply centralFault_frame | with_reducible apply State.free_frame | with_reducible apply State.fsat_frame | with_reducible apply resetCore_frame | with_reducible apply startCore_frame | extract_lets | split)

theorem freeRegs_frame {fm : Nat} {s0 : State} (hm : Sub 0x2000000 fm) (z0 : Nat) (z1 : State) (h : Frame fm s0 z1) :
    Frame fm s0 ((freeRegs z0 z1).2) := by
  induction z0 generalizing z1 with
  | zero =>
    unfold freeRegs
    repeat' (first | exact Sub.trans (by decide) hm | intro _ | with_reducible assumption | with_reducible refine Frame.pair ‹_› ?_ | with_reducible apply State.free_frame | with_reducible apply Frame.ite | extract_lets | split)
  | succ k ih =>
    unfold freeRegs
    repeat' (first | exact Sub.trans (by decide) hm | intro _ | with_reducible assumption | with_reducible apply ih | with_reducible refine Frame.pair ‹_› ?_ | with_reducible apply State.free_frame | with_reducible apply Frame.ite | extract_lets | split)

theorem takeRegs_frame {fm : Nat} {s0 : State} (hm : Sub 0x2800000 fm) (n : Nat) (s : State) (h : Frame fm s0 s) :
    Frame fm s0 ((takeRegs n s)) := by
  unfold takeRegs
  repeat' (first | exact Sub.trans (by decide) hm | intro _ | with_reducible assumption | with_reducible refine Frame.pair ‹_› ?_ | with_reducible apply freeRegs_frame | with_reducible apply modCore_frame | extract_lets | split)

theorem haltCore_frame {fm : Nat} {s0 : State} (hm : Sub 0x2800001 fm) (n cause hit : Nat) (s : State) (h : Frame fm s0 s) :
    Frame fm s0 ((haltCore n cause hit s)) := by
  unfold haltCore
  repeat' (first | exact Sub.trans (by decide) hm | intro _ | with_reducible assumption | with_reducible apply State.fs_frame | with_reducible apply modCore_frame | with_reducible apply takeRegs_frame | extract_lets | split)

theorem haltOrExpire_frame {fm : Nat} {s0 : State} (hm : Sub 0x3bbefbd fm) (n cause hit : Nat) (s : State) (h : Frame fm s0 s) :
    Frame fm s0 ((haltOrExpire n cause hit s)) := by
  unfold haltOrExpire
  repeat' (first | exact Sub.trans (by decide) hm | intro _ | with_reducible assumption | with_reducible apply haltCore_frame | with_reducible apply wdExpire_frame | with_reducible apply Frame.ite | split)

theorem dbgErr_frame {fm : Nat} {s0 : State} (hm : Sub 0x1 fm) (n : Nat) (s : State) (h : Frame fm s0 s) :
    Frame fm s0 ((dbgErr n s)) := by
  unfold dbgErr
  repeat' (first | exact Sub.trans (by decide) hm | intro _ | with_reducible assumption | with_reducible apply State.fs_frame)

theorem haltReq_frame {fm : Nat} {s0 : State} (hm : Sub 0x3bbefbd fm) (n : Nat) (inSeq : Bool) (s : State) (h : Frame fm s0 s) :
    Frame fm s0 ((haltReq n inSeq s)) := by
  unfold haltReq
  repeat' (first | exact Sub.trans (by decide) hm | intro _ | with_reducible assumption | with_reducible apply dbgErr_frame | with_reducible apply State.fs_frame | with_reducible apply haltOrExpire_frame | with_reducible apply modCore_frame | with_reducible apply Frame.ite | extract_lets | split)

theorem runCore_frame {fm : Nat} {s0 : State} (hm : Sub 0x3bbefbd fm) (n : Nat) (s : State) (h : Frame fm s0 s) :
    Frame fm s0 ((runCore n s)) := by
  unfold runCore
  repeat' (first | exact Sub.trans (by decide) hm | intro _ | with_reducible assumption | with_reducible apply clearHalt_frame | with_reducible apply coreGoesOn_frame | with_reducible apply modCore_frame | with_reducible apply Frame.ite | extract_lets | split)

theorem runReq_frame {fm : Nat} {s0 : State} (hm : Sub 0x3bbefbd fm) (n : Nat) (s : State) (h : Frame fm s0 s) :
    Frame fm s0 ((runReq n s)) := by
  unfold runReq
  repeat' (first | exact Sub.trans (by decide) hm | intro _ | with_reducible assumption | with_reducible apply dbgErr_frame | with_reducible apply runCore_frame | with_reducible apply Frame.ite | split)

theorem stepReq_frame {fm : Nat} {s0 : State} (hm : Sub 0x2800001 fm) (n : Nat) (s : State) (h : Frame fm s0 s) :
    Frame fm s0 ((stepReq n s)) := by
  unfold stepReq
  repeat' (first | exact Sub.trans (by decide) hm | intro _ | with_reducible assumption | with_reducible apply dbgErr_frame | with_reducible apply State.fs_frame | with_reducible apply takeRegs_frame | with_reducible apply Frame.ite | split)

theorem writeGafDbg_frame {fm : Nat} {s0 : State} (hm : Sub 0x3bbefbd fm) (n v : Nat) (s : State) (h : Frame fm s0 s) :
    Frame fm s0 ((writeGafDbg n v s)) := by
  unfold writeGafDbg
  repeat' (first | exact Sub.trans (by decide) hm | intro _ | with_reducible assumption | with_reducible refine Frame.pair ‹_› ?_ | with_reducible apply State.free_frame | with_reducible apply haltReq_frame | with_reducible apply runReq_frame | with_reducible apply stepReq_frame | with_reducible apply Frame.ite | extract_lets | split)

theorem readDbgData_frame {fm : Nat} {s0 : State} (hm : Sub 0x1 fm) (n : Nat) (s : State) (h : Frame fm s0 s) :
    Frame fm s0 ((readDbgData n s).2) := by
  unfold readDbgData
  repeat' (first | exact Sub.trans (by decide) hm | intro _ | with_reducible assumption | with_reducible refine Frame.pair ‹_› ?_ | with_reducible apply dbgErr_frame | with_reducible apply Frame.ite | extract_lets | split)

theorem writeDbgData_frame {fm : Nat} {s0 : State} (hm : Sub 0x800001 fm) (n v : Nat) (s : State) (h : Frame fm s0 s) :
    Frame fm s0 ((writeDbgData n v s)) := by
  unfold writeDbgData
  repeat' (first | exact Sub.trans (by decide) hm | intro _ | with_reducible assumption | with_reducible apply dbgErr_frame | with_reducible apply modCore_frame | with_reducible apply Frame.ite | extract_lets | split)

theorem portErr_frame {fm : Nat} {s0 : State} (hm : Sub 0x1 fm) (s : State) (h : Frame fm s0 s) :
    Frame fm s0 ((portErr s)) := by
  unfold portErr
  repeat' (first | exact Sub.trans (by decide) hm | intro _ | with_reducible assumption | with_reducible apply dbgErr_frame)

theorem stepAddr_frame {fm : Nat} {s0 : State} (hm : Sub 0x1 fm) (s : State) (h : Frame fm s0 s) :
    Frame fm s0 ((stepAddr s)) := by
  unfold stepAddr
  repeat' (first | exact Sub.trans (by decide) hm | intro _ | with_reducible assumption | with_reducible apply State.fs_frame)

theorem readSram_frame {fm : Nat} {s0 : State} (hm : Sub 0x2800000 fm) (i : Nat) (s : State) (h : Frame fm s0 s) :
    Frame fm s0 ((readSram i s).2) := by
  unfold readSram
  repeat' (first | exact Sub.trans (by decide) hm | intro _ | with_reducible assumption | with_reducible refine Frame.pair ‹_› ?_ | with_reducible apply State.free_frame | with_reducible apply modGaf_frame | with_reducible apply Frame.ite | extract_lets | split)

theorem writeSram_frame {fm : Nat} {s0 : State} (hm : Sub 0x802000 fm) (i v : Nat) (s : State) (h : Frame fm s0 s) :
    Frame fm s0 ((writeSram i v s)) := by
  unfold writeSram
  repeat' (first | exact Sub.trans (by decide) hm | intro _ | with_reducible assumption | with_reducible apply modGaf_frame | with_reducible apply modLehr_frame | with_reducible apply Frame.ite | extract_lets | split | (apply memPutBytes_wf; assumption) | (show Memory.wf _ = true; assumption))

theorem readGafMem_frame {fm : Nat} {s0 : State} (hm : Sub 0x2800001 fm) (s : State) (h : Frame fm s0 s) :
    Frame fm s0 ((readGafMem s).2) := by
  unfold readGafMem
  repeat' (first | exact Sub.trans (by decide) hm | intro _ | with_reducible assumption | with_reducible refine Frame.pair ‹_› ?_ | with_reducible apply portErr_frame | with_reducible apply readSram_frame | with_reducible apply stepAddr_frame | with_reducible apply Frame.ite | extract_lets | split)

theorem writeGafMem_frame {fm : Nat} {s0 : State} (hm : Sub 0x802001 fm) (v : Nat) (s : State) (h : Frame fm s0 s) :
    Frame fm s0 ((writeGafMem v s)) := by
  unfold writeGafMem
  repeat' (first | exact Sub.trans (by decide) hm | intro _ | with_reducible assumption | with_reducible apply portErr_frame | with_reducible apply stepAddr_frame | with_reducible apply writeSram_frame | extract_lets | split)

theorem restartBlob_frame {fm : Nat} {s0 : State} (hm : Sub 0x1 fm) (s : State) (h : Frame fm s0 s) :
    Frame fm s0 ((restartBlob s)) := by
  unfold restartBlob
  repeat' (first | exact Sub.trans (by decide) hm | intro _ | with_reducible assumption | with_reducible apply State.fs_frame)

theorem writeBlob_frame {fm : Nat} {s0 : State} (hm : Sub 0x800001 fm) (v : Nat) (s : State) (h : Frame fm s0 s) :
    Frame fm s0 ((writeBlob v s)) := by
  unfold writeBlob
  repeat' (first | exact Sub.trans (by decide) hm | intro _ | with_reducible assumption | with_reducible apply State.fs_frame | with_reducible apply modGaf_frame | with_reducible apply Frame.ite | extract_lets | split)

theorem applyBlob_frame {fm : Nat} {s0 : State} (hm : Sub 0x1 fm) (s : State) (h : Frame fm s0 s) :
    Frame fm s0 ((applyBlob s)) := by
  unfold applyBlob
  repeat' (first | exact Sub.trans (by decide) hm | intro _ | with_reducible assumption | with_reducible apply State.fs_frame | with_reducible apply Frame.ite | split)

theorem writePatchCtl_frame {fm : Nat} {s0 : State} (hm : Sub 0x1 fm) (v : Nat) (s : State) (h : Frame fm s0 s) :
    Frame fm s0 ((writePatchCtl v s)) := by
  unfold writePatchCtl
  repeat' (first | exact Sub.trans (by decide) hm | intro _ | with_reducible assumption | with_reducible apply applyBlob_frame | with_reducible apply restartBlob_frame | with_reducible apply Frame.ite | extract_lets | split)

theorem showUnits_frame {fm : Nat} {s0 : State} (hm : Sub 0x1 fm) (s : State) (h : Frame fm s0 s) :
    Frame fm s0 ((showUnits s)) := by
  unfold showUnits
  repeat' (first | exact Sub.trans (by decide) hm | intro _ | with_reducible assumption | with_reducible apply State.fs_frame)

theorem putLine_frame {fm : Nat} {s0 : State} (hm : Sub 0x800000 fm) (u : Nat) (ws : List Nat) (s : State) (h : Frame fm s0 s) :
    Frame fm s0 ((putLine u ws s)) := by
  unfold putLine
  repeat' (first | exact Sub.trans (by decide) hm | intro _ | with_reducible assumption | with_reducible apply modGaf_frame | with_reducible apply Frame.foldl | extract_lets)

theorem applyEntry_frame {fm : Nat} {s0 : State} (hm : Sub 0x800001 fm) (e : List Nat) (s : State) (h : Frame fm s0 s) :
    Frame fm s0 ((applyEntry e s)) := by
  unfold applyEntry
  repeat' (first | exact Sub.trans (by decide) hm | intro _ | with_reducible assumption | with_reducible apply putLine_frame | with_reducible apply State.wrN_frame | extract_lets)

theorem installBlob_frame {fm : Nat} {s0 : State} (hm : Sub 0x800001 fm) (b : List Nat) (s : State) (h : Frame fm s0 s) :
    Frame fm s0 ((installBlob b s)) := by
  unfold installBlob
  repeat' (first | exact Sub.trans (by decide) hm | intro _ | with_reducible assumption | with_reducible apply applyEntry_frame | with_reducible apply State.fs_frame | with_reducible apply modGaf_frame | with_reducible apply showUnits_frame | with_reducible apply Frame.foldl | extract_lets)

theorem writeUnit_frame {fm : Nat} {s0 : State} (hm : Sub 0x1 fm) (u v : Nat) (s : State) (h : Frame fm s0 s) :
    Frame fm s0 ((writeUnit u v s)) := by
  unfold writeUnit
  repeat' (first | exact Sub.trans (by decide) hm | intro _ | with_reducible assumption | with_reducible apply State.fs_frame | with_reducible apply State.wrN_frame | with_reducible apply Frame.ite | split)

theorem endGafDebug_frame {fm : Nat} {s0 : State} (hm : Sub 0x3bbefbd fm) (s : State) (h : Frame fm s0 s) :
    Frame fm s0 ((endGafDebug s)) := by
  unfold endGafDebug
  repeat' (first | exact Sub.trans (by decide) hm | intro _ | with_reducible assumption | with_reducible apply State.fs_frame | with_reducible apply modCore_frame | with_reducible apply runCore_frame | with_reducible apply Frame.ite | with_reducible apply Frame.foldl | extract_lets | split)

theorem warmGaffer_frame {fm : Nat} {s0 : State} (hm : Sub 0x800001 fm) (s : State) (h : Frame fm s0 s) :
    Frame fm s0 ((warmGaffer s)) := by
  unfold warmGaffer
  repeat' (first | exact Sub.trans (by decide) hm | intro _ | with_reducible assumption | with_reducible apply clearHalt_frame | with_reducible apply State.fs_frame | with_reducible apply modCore_frame | with_reducible apply startCore_frame | with_reducible apply State.wrN_frame | with_reducible apply Frame.ite | with_reducible apply Frame.foldl | extract_lets | split)

theorem execGafRelease_frame {fm : Nat} {s0 : State} (hm : Sub 0x2bbeab9 fm) (id core : Nat) (s : State) (h : Frame fm s0 s) :
    FrameO fm s0 (execGafRelease id core s) := by
  unfold execGafRelease
  repeat' (first | with_reducible apply FrameO.act | with_reducible apply FrameO.ok | exact Sub.trans (by decide) hm | intro _ | with_reducible assumption | with_reducible apply State.gate_frame | with_reducible apply writeRun_frame)

theorem execGafReset_frame {fm : Nat} {s0 : State} (hm : Sub 0x2bbeab9 fm) (id core : Nat) (s : State) (h : Frame fm s0 s) :
    FrameO fm s0 (execGafReset id core s) := by
  unfold execGafReset
  repeat' (first | with_reducible apply FrameO.act | with_reducible apply FrameO.ok | exact Sub.trans (by decide) hm | intro _ | with_reducible assumption | with_reducible apply State.gate_frame | with_reducible apply writeRun_frame)

theorem execGafReady_frame {fm : Nat} {s0 : State} (hm : Sub 0x33befbd fm) (core : Nat) (s : State) (h : Frame fm s0 s) :
    FrameO fm s0 (execGafReady core s) := by
  unfold execGafReady
  repeat' (first | with_reducible apply FrameO.awake | with_reducible apply FrameO.ok | with_reducible apply FrameO.ite | exact Sub.trans (by decide) hm | intro _ | with_reducible assumption | with_reducible apply coreGoesOn_frame | with_reducible apply State.fs_frame | with_reducible apply Frame.ite | split)

theorem execGafServiceDispatch_frame {fm : Nat} {s0 : State} (hm : Sub 0x3bbefbd fm) (core : Nat) (s : State) (h : Frame fm s0 s) :
    FrameO fm s0 (execGafServiceDispatch core s) := by
  unfold execGafServiceDispatch
  repeat' (first | with_reducible apply FrameO.awake | with_reducible apply FrameO.ok | with_reducible apply FrameO.ite | exact Sub.trans (by decide) hm | intro _ | with_reducible assumption | with_reducible apply coreGoesOn_frame | with_reducible apply modCore_frame | with_reducible apply Frame.ite | extract_lets | split)

theorem execGafYield_frame {fm : Nat} {s0 : State} (hm : Sub 0x800000 fm) (core : Nat) (s : State) (h : Frame fm s0 s) :
    FrameO fm s0 (execGafYield core s) := by
  unfold execGafYield
  repeat' (first | with_reducible apply FrameO.awake | with_reducible apply FrameO.ok | with_reducible apply FrameO.ite | exact Sub.trans (by decide) hm | intro _ | with_reducible assumption | with_reducible apply modCore_frame | with_reducible apply Frame.ite | extract_lets | split)

theorem execGafWatchdogExpiry_frame {fm : Nat} {s0 : State} (hm : Sub 0x3bbefbd fm) (core : Nat) (s : State) (h : Frame fm s0 s) :
    FrameO fm s0 (execGafWatchdogExpiry core s) := by
  unfold execGafWatchdogExpiry
  repeat' (first | with_reducible apply FrameO.awake | with_reducible apply FrameO.ok | with_reducible apply FrameO.ite | exact Sub.trans (by decide) hm | intro _ | with_reducible assumption | with_reducible apply wdExpire_frame | with_reducible apply Frame.ite | split)

theorem execGafDbgHalt_frame {fm : Nat} {s0 : State} (hm : Sub 0x3bbefbd fm) (id core : Nat) (inSeq : Bool) (s : State) (h : Frame fm s0 s) :
    FrameO fm s0 (execGafDbgHalt id core inSeq s) := by
  unfold execGafDbgHalt
  repeat' (first | with_reducible apply FrameO.act | with_reducible apply FrameO.ok | exact Sub.trans (by decide) hm | intro _ | with_reducible assumption | with_reducible apply State.gate_frame | with_reducible apply haltReq_frame)

theorem execGafDbgRun_frame {fm : Nat} {s0 : State} (hm : Sub 0x3bbefbd fm) (id core : Nat) (s : State) (h : Frame fm s0 s) :
    FrameO fm s0 (execGafDbgRun id core s) := by
  unfold execGafDbgRun
  repeat' (first | with_reducible apply FrameO.act | with_reducible apply FrameO.ok | exact Sub.trans (by decide) hm | intro _ | with_reducible assumption | with_reducible apply State.gate_frame | with_reducible apply runReq_frame)

theorem execGafDbgStep_frame {fm : Nat} {s0 : State} (hm : Sub 0x2800001 fm) (id core : Nat) (s : State) (h : Frame fm s0 s) :
    FrameO fm s0 (execGafDbgStep id core s) := by
  unfold execGafDbgStep
  repeat' (first | with_reducible apply FrameO.act | with_reducible apply FrameO.ok | exact Sub.trans (by decide) hm | intro _ | with_reducible assumption | with_reducible apply State.gate_frame | with_reducible apply stepReq_frame)

theorem execDeferredHaltTake_frame {fm : Nat} {s0 : State} (hm : Sub 0x3bbefbd fm) (core : Nat) (s : State) (h : Frame fm s0 s) :
    FrameO fm s0 (execDeferredHaltTake core s) := by
  unfold execDeferredHaltTake
  repeat' (first | with_reducible apply FrameO.act | with_reducible apply FrameO.ok | with_reducible apply FrameO.ite | exact Sub.trans (by decide) hm | intro _ | with_reducible assumption | with_reducible apply haltOrExpire_frame | with_reducible apply Frame.ite | extract_lets | split)

theorem execLockedHaltForce_frame {fm : Nat} {s0 : State} (hm : Sub 0x3bbefbd fm) (core : Nat) (s : State) (h : Frame fm s0 s) :
    FrameO fm s0 (execLockedHaltForce core s) := by
  unfold execLockedHaltForce
  repeat' (first | with_reducible apply FrameO.act | with_reducible apply FrameO.ok | with_reducible apply FrameO.ite | exact Sub.trans (by decide) hm | intro _ | with_reducible assumption | with_reducible apply haltOrExpire_frame | with_reducible apply Frame.ite | extract_lets | split)

theorem execGafBreakHit_frame {fm : Nat} {s0 : State} (hm : Sub 0x3bbefbd fm) (core unit : Nat) (s : State) (h : Frame fm s0 s) :
    FrameO fm s0 (execGafBreakHit core unit s) := by
  unfold execGafBreakHit
  repeat' (first | with_reducible apply FrameO.act | with_reducible apply FrameO.ok | with_reducible apply FrameO.ite | exact Sub.trans (by decide) hm | intro _ | with_reducible assumption | with_reducible refine Frame.pair ‹_› ?_ | with_reducible apply State.free_frame | with_reducible apply haltOrExpire_frame | with_reducible apply modCore_frame | with_reducible apply Frame.ite | extract_lets | split)

theorem execGafDbgDataWrite_frame {fm : Nat} {s0 : State} (hm : Sub 0x800001 fm) (id core value : Nat) (s : State) (h : Frame fm s0 s) :
    FrameO fm s0 (execGafDbgDataWrite id core value s) := by
  unfold execGafDbgDataWrite
  repeat' (first | with_reducible apply FrameO.act | with_reducible apply FrameO.ok | exact Sub.trans (by decide) hm | intro _ | with_reducible assumption | with_reducible apply State.gate_frame | with_reducible apply writeDbgData_frame)

theorem execGafMemAccess_frame {fm : Nat} {s0 : State} (hm : Sub 0x2802009 fm) (id : Nat) (isWrite : Bool) (value : Nat) (s : State) (h : Frame fm s0 s) :
    FrameO fm s0 (execGafMemAccess id isWrite value s) := by
  unfold execGafMemAccess
  repeat' (first | with_reducible apply FrameO.act | with_reducible apply FrameO.ok | with_reducible apply FrameO.ite | exact Sub.trans (by decide) hm | intro _ | with_reducible assumption | with_reducible refine Frame.pair ‹_› ?_ | with_reducible apply State.gate_frame | with_reducible apply presentRead_frame | with_reducible apply readGafMem_frame | with_reducible apply writeGafMem_frame | with_reducible apply Frame.ite | extract_lets | split)

theorem execPatchRestart_frame {fm : Nat} {s0 : State} (hm : Sub 0x1 fm) (id : Nat) (s : State) (h : Frame fm s0 s) :
    FrameO fm s0 (execPatchRestart id s) := by
  unfold execPatchRestart
  repeat' (first | with_reducible apply FrameO.act | with_reducible apply FrameO.ok | exact Sub.trans (by decide) hm | intro _ | with_reducible assumption | with_reducible apply State.gate_frame | with_reducible apply restartBlob_frame)

theorem execPatchBlobWrite_frame {fm : Nat} {s0 : State} (hm : Sub 0x800001 fm) (id value : Nat) (s : State) (h : Frame fm s0 s) :
    FrameO fm s0 (execPatchBlobWrite id value s) := by
  unfold execPatchBlobWrite
  repeat' (first | with_reducible apply FrameO.act | with_reducible apply FrameO.ok | exact Sub.trans (by decide) hm | intro _ | with_reducible assumption | with_reducible apply State.gate_frame | with_reducible apply writeBlob_frame)

theorem execPatchApply_frame {fm : Nat} {s0 : State} (hm : Sub 0x1 fm) (id : Nat) (s : State) (h : Frame fm s0 s) :
    FrameO fm s0 (execPatchApply id s) := by
  unfold execPatchApply
  repeat' (first | with_reducible apply FrameO.act | with_reducible apply FrameO.ok | exact Sub.trans (by decide) hm | intro _ | with_reducible assumption | with_reducible apply applyBlob_frame | with_reducible apply State.gate_frame)

theorem execPatchChecksDone_frame {fm : Nat} {s0 : State} (hm : Sub 0x3abefbd fm) (s : State) (h : Frame fm s0 s) :
    FrameO fm s0 (execPatchChecksDone s) := by
  unfold execPatchChecksDone
  repeat' (first | with_reducible apply FrameO.awake | with_reducible apply FrameO.ok | with_reducible apply FrameO.ite | exact Sub.trans (by decide) hm | intro _ | with_reducible assumption | with_reducible apply centralFault_frame | with_reducible apply State.fs_frame | with_reducible apply installBlob_frame | with_reducible apply Frame.ite | extract_lets | split)

theorem execPatchScrub_frame {fm : Nat} {s0 : State} (hm : Sub 0x3abefbd fm) (unit : Nat) (line : List Nat) (s : State) (h : Frame fm s0 s) :
    FrameO fm s0 (execPatchScrub unit line s) := by
  unfold execPatchScrub
  repeat' (first | with_reducible apply FrameO.act | with_reducible apply FrameO.ok | with_reducible apply FrameO.ite | exact Sub.trans (by decide) hm | intro _ | with_reducible assumption | with_reducible apply centralFault_frame | with_reducible apply State.fs_frame | with_reducible apply putLine_frame | with_reducible apply showUnits_frame | with_reducible apply Frame.ite | extract_lets | split)

theorem execPatchUnitWrite_frame {fm : Nat} {s0 : State} (hm : Sub 0x1 fm) (id unit value : Nat) (s : State) (h : Frame fm s0 s) :
    FrameO fm s0 (execPatchUnitWrite id unit value s) := by
  unfold execPatchUnitWrite
  repeat' (first | with_reducible apply FrameO.act | with_reducible apply FrameO.ok | exact Sub.trans (by decide) hm | intro _ | with_reducible assumption | with_reducible apply State.gate_frame | with_reducible apply writeUnit_frame)

/-! ### Secure -/

theorem resyncAll_frame {fm : Nat} {s0 : State} (hm : Sub 0x430 fm) (s : State) (h : Frame fm s0 s) :
    Frame fm s0 ((resyncAll s)) := by
  unfold resyncAll
  repeat' (first | exact Sub.trans (by decide) hm | intro _ | with_reducible assumption | with_reducible apply centralSync_frame | with_reducible apply sendTraceCmd_frame)

theorem showApplied_frame {fm : Nat} {s0 : State} (hm : Sub 0xc31 fm) (s : State) (h : Frame fm s0 s) :
    Frame fm s0 ((showApplied s)) := by
  unfold showApplied
  repeat' (first | exact Sub.trans (by decide) hm | intro _ | with_reducible assumption | with_reducible apply State.fs_frame | with_reducible apply markPerturbed_frame | with_reducible apply resyncAll_frame | with_reducible apply Frame.ite | extract_lets | split)

theorem sendSec_frame {fm : Nat} {s0 : State} (hm : Sub 0x30 fm) (group target word v : Nat) (s : State) (h : Frame fm s0 s) :
    Frame fm s0 ((sendSec group target word v s)) := by
  unfold sendSec
  repeat' (first | exact Sub.trans (by decide) hm | intro _ | with_reducible assumption | with_reducible apply sendRegWr_frame)

theorem resendSec_frame {fm : Nat} {s0 : State} (hm : Sub 0xc31 fm) (n : Nat) (s : State) (h : Frame fm s0 s) :
    Frame fm s0 ((resendSec n s)) := by
  unfold resendSec
  repeat' (first | exact Sub.trans (by decide) hm | intro _ | with_reducible assumption | with_reducible apply sendSec_frame | with_reducible apply showApplied_frame | extract_lets)

theorem setSecEn_frame {fm : Nat} {s0 : State} (hm : Sub 0xc31 fm) (on : Bool) (s : State) (h : Frame fm s0 s) :
    Frame fm s0 ((setSecEn on s)) := by
  unfold setSecEn
  repeat' (first | exact Sub.trans (by decide) hm | intro _ | with_reducible assumption | with_reducible apply State.fs_frame | with_reducible apply sendSec_frame | with_reducible apply showApplied_frame | with_reducible apply Frame.ite | split)

theorem driveSec_frame {fm : Nat} {s0 : State} (hm : Sub 0x11 fm) (n : Nat) (on : Bool) (s : State) (h : Frame fm s0 s) :
    Frame fm s0 ((driveSec n on s)) := by
  unfold driveSec
  repeat' (first | exact Sub.trans (by decide) hm | intro _ | with_reducible assumption | with_reducible apply beginExcl_frame | with_reducible apply endExcl_frame | with_reducible apply Frame.ite | with_reducible apply Frame.foldl | extract_lets | split)

theorem writePtbCtl_frame {fm : Nat} {s0 : State} (hm : Sub 0xc31 fm) (v : Nat) (s : State) (h : Frame fm s0 s) :
    Frame fm s0 ((writePtbCtl v s)) := by
  unfold writePtbCtl
  repeat' (first | exact Sub.trans (by decide) hm | intro _ | with_reducible assumption | with_reducible apply sendSec_frame | with_reducible apply showApplied_frame | with_reducible apply State.wrN_frame | with_reducible apply Frame.ite | split)

theorem writePtbStat_frame {fm : Nat} {s0 : State} (hm : Sub 0xc31 fm) (v : Nat) (s : State) (h : Frame fm s0 s) :
    Frame fm s0 ((writePtbStat v s)) := by
  unfold writePtbStat
  repeat' (first | exact Sub.trans (by decide) hm | intro _ | with_reducible assumption | with_reducible apply plainWrite_frame | with_reducible apply showApplied_frame | with_reducible apply Frame.ite | extract_lets | split)

theorem writePtbParam_frame {fm : Nat} {s0 : State} (hm : Sub 0x31 fm) (a v : Nat) (s : State) (h : Frame fm s0 s) :
    Frame fm s0 ((writePtbParam a v s)) := by
  unfold writePtbParam
  repeat' (first | exact Sub.trans (by decide) hm | intro _ | with_reducible assumption | with_reducible apply plainWrite_frame | with_reducible apply sendSec_frame | with_reducible apply Frame.ite | extract_lets | split)

theorem flushAcks_frame {fm : Nat} {s0 : State} (hm : Sub 0x100009 fm) (s : State) (h : Frame fm s0 s) :
    Frame fm s0 ((flushAcks s)) := by
  unfold flushAcks
  repeat' (first | exact Sub.trans (by decide) hm | intro _ | with_reducible assumption | with_reducible apply takeAnswer_frame | with_reducible apply Frame.foldl | extract_lets | split)

theorem endTest_frame {fm : Nat} {s0 : State} (hm : Sub 0x100c39 fm) (s : State) (h : Frame fm s0 s) :
    Frame fm s0 ((endTest s)) := by
  unfold endTest
  repeat' (first | exact Sub.trans (by decide) hm | intro _ | with_reducible assumption | with_reducible apply flushAcks_frame | with_reducible apply State.fs_frame | with_reducible apply sendSec_frame | with_reducible apply showApplied_frame | with_reducible apply State.wr_frame | with_reducible apply Frame.ite | extract_lets | split)

theorem setTestEn_frame {fm : Nat} {s0 : State} (hm : Sub 0x100c39 fm) (on : Bool) (s : State) (h : Frame fm s0 s) :
    Frame fm s0 ((setTestEn on s)) := by
  unfold setTestEn
  repeat' (first | exact Sub.trans (by decide) hm | intro _ | with_reducible assumption | with_reducible apply endTest_frame | with_reducible apply State.fs_frame | with_reducible apply Frame.ite | split)

theorem writeSecCtl_frame {fm : Nat} {s0 : State} (hm : Sub 0x100c39 fm) (v : Nat) (s : State) (h : Frame fm s0 s) :
    Frame fm s0 ((writeSecCtl v s)) := by
  unfold writeSecCtl
  repeat' (first | exact Sub.trans (by decide) hm | intro _ | with_reducible assumption | with_reducible apply setSecEn_frame | with_reducible apply setTestEn_frame)

theorem endCustodian_frame {fm : Nat} {s0 : State} (hm : Sub 0x100c39 fm) (s : State) (h : Frame fm s0 s) :
    Frame fm s0 ((endCustodian s)) := by
  unfold endCustodian
  repeat' (first | exact Sub.trans (by decide) hm | intro _ | with_reducible assumption | with_reducible apply endTest_frame | with_reducible apply State.fs_frame | with_reducible apply setSecEn_frame)

theorem writePtbForce_frame {fm : Nat} {s0 : State} (hm : Sub 0x32befbd fm) (v : Nat) (s : State) (h : Frame fm s0 s) :
    Frame fm s0 ((writePtbForce v s)) := by
  unfold writePtbForce
  repeat' (first | exact Sub.trans (by decide) hm | intro _ | with_reducible assumption | with_reducible apply State.fs_frame | with_reducible apply logFault_frame | with_reducible apply sendSec_frame | with_reducible apply Frame.ite | extract_lets | split)

theorem execSecEnWrite_frame {fm : Nat} {s0 : State} (hm : Sub 0xc31 fm) (id : Nat) (on : Bool) (s : State) (h : Frame fm s0 s) :
    FrameO fm s0 (execSecEnWrite id on s) := by
  unfold execSecEnWrite
  repeat' (first | with_reducible apply FrameO.act | with_reducible apply FrameO.ok | exact Sub.trans (by decide) hm | intro _ | with_reducible assumption | with_reducible apply State.gate_frame | with_reducible apply setSecEn_frame)

theorem execStationSecurityApply_frame {fm : Nat} {s0 : State} (hm : Sub 0xc31 fm) (stn : Nat) (s : State) (h : Frame fm s0 s) :
    FrameO fm s0 (execStationSecurityApply stn s) := by
  unfold execStationSecurityApply
  repeat' (first | with_reducible apply FrameO.act | with_reducible apply FrameO.ok | with_reducible apply FrameO.ite | exact Sub.trans (by decide) hm | intro _ | with_reducible assumption | with_reducible refine takeInbox_frame ?_ _ _ _ _ ‹_› ?_ | with_reducible apply driveSec_frame | with_reducible apply modStn_frame | with_reducible apply showApplied_frame | with_reducible apply Frame.ite | extract_lets | split)

theorem execPtbCtlWrite_frame {fm : Nat} {s0 : State} (hm : Sub 0xc31 fm) (id value : Nat) (s : State) (h : Frame fm s0 s) :
    FrameO fm s0 (execPtbCtlWrite id value s) := by
  unfold execPtbCtlWrite
  repeat' (first | with_reducible apply FrameO.act | with_reducible apply FrameO.ok | exact Sub.trans (by decide) hm | intro _ | with_reducible assumption | with_reducible apply State.gate_frame | with_reducible apply writePtbCtl_frame)

theorem execPtbParamWrite_frame {fm : Nat} {s0 : State} (hm : Sub 0x31 fm) (id reg value : Nat) (s : State) (h : Frame fm s0 s) :
    FrameO fm s0 (execPtbParamWrite id reg value s) := by
  unfold execPtbParamWrite
  repeat' (first | with_reducible apply FrameO.act | with_reducible apply FrameO.ok | exact Sub.trans (by decide) hm | intro _ | with_reducible assumption | with_reducible apply State.gate_frame | with_reducible apply writePtbParam_frame)

theorem execTestEnWrite_frame {fm : Nat} {s0 : State} (hm : Sub 0x100c39 fm) (id : Nat) (on : Bool) (s : State) (h : Frame fm s0 s) :
    FrameO fm s0 (execTestEnWrite id on s) := by
  unfold execTestEnWrite
  repeat' (first | with_reducible apply FrameO.act | with_reducible apply FrameO.ok | exact Sub.trans (by decide) hm | intro _ | with_reducible assumption | with_reducible apply State.gate_frame | with_reducible apply setTestEn_frame)

theorem execPtbForceWrite_frame {fm : Nat} {s0 : State} (hm : Sub 0x32befbd fm) (id value : Nat) (s : State) (h : Frame fm s0 s) :
    FrameO fm s0 (execPtbForceWrite id value s) := by
  unfold execPtbForceWrite
  repeat' (first | with_reducible apply FrameO.act | with_reducible apply FrameO.ok | exact Sub.trans (by decide) hm | intro _ | with_reducible assumption | with_reducible apply State.gate_frame | with_reducible apply writePtbForce_frame)

theorem execForcedFaultStation_frame {fm : Nat} {s0 : State} (hm : Sub 0x91 fm) (stn : Nat) (s : State) (h : Frame fm s0 s) :
    FrameO fm s0 (execForcedFaultStation stn s) := by
  unfold execForcedFaultStation
  repeat' (first | with_reducible apply FrameO.act | with_reducible apply FrameO.ok | with_reducible apply FrameO.ite | exact Sub.trans (by decide) hm | intro _ | with_reducible assumption | with_reducible refine takeInbox_frame ?_ _ _ _ _ ‹_› ?_ | with_reducible apply State.fs_frame | with_reducible apply State.fsat_frame | with_reducible apply placeFormed_frame | with_reducible apply Frame.ite | extract_lets | split)

/-! ### Session -/

theorem modRs_frame {fm : Nat} {s0 : State} (hm : Sub 0x1000000 fm) (f : RolsalState → RolsalState) (s : State) (h : Frame fm s0 s) :
    Frame fm s0 ((modRs f s)) := by
  unfold modRs
  repeat' (first | exact Sub.trans (by decide) hm | intro _ | with_reducible assumption | (simp only [Frame_mk]; first | with_reducible apply FrameC.rolsal_upd) | extract_lets)

theorem modAuth_frame {fm : Nat} {s0 : State} (hm : Sub 0x1000000 fm) (f : AuthState → AuthState) (s : State) (h : Frame fm s0 s) :
    Frame fm s0 ((modAuth f s)) := by
  unfold modAuth
  repeat' (first | exact Sub.trans (by decide) hm | intro _ | with_reducible assumption | with_reducible apply modRs_frame | extract_lets)

theorem rsAccept_frame {fm : Nat} {s0 : State} (hm : Sub 0x1000000 fm) (s : State) (h : Frame fm s0 s) :
    Frame fm s0 ((rsAccept s)) := by
  unfold rsAccept
  repeat' (first | exact Sub.trans (by decide) hm | intro _ | with_reducible assumption | with_reducible apply modRs_frame | extract_lets)

theorem rsAbandon_frame {fm : Nat} {s0 : State} (hm : Sub 0x1000000 fm) (s : State) (h : Frame fm s0 s) :
    Frame fm s0 ((rsAbandon s)) := by
  unfold rsAbandon
  repeat' (first | exact Sub.trans (by decide) hm | intro _ | with_reducible assumption | with_reducible apply modRs_frame | extract_lets)

theorem endDrain_frame {fm : Nat} {s0 : State} (hm : Sub 0x1000000 fm) (cause : Nat) (s : State) (h : Frame fm s0 s) :
    Frame fm s0 ((endDrain cause s)) := by
  unfold endDrain
  repeat' (first | exact Sub.trans (by decide) hm | intro _ | with_reducible assumption | with_reducible apply modRs_frame | with_reducible apply Frame.ite | extract_lets | split)

theorem endSession_frame {fm : Nat} {s0 : State} (hm : Sub 0x3bbefbd fm) (s : State) (h : Frame fm s0 s) :
    Frame fm s0 ((endSession s)) := by
  unfold endSession
  repeat' (first | exact Sub.trans (by decide) hm | intro _ | with_reducible assumption | with_reducible apply endCustodian_frame | with_reducible apply endDrain_frame | with_reducible apply endGafDebug_frame | with_reducible apply modRs_frame | with_reducible apply resetIdentities_frame | with_reducible apply rsAbandon_frame | with_reducible apply Frame.ite | extract_lets | split)

theorem lineReset_frame {fm : Nat} {s0 : State} (hm : Sub 0x3bbefbd fm) (s : State) (h : Frame fm s0 s) :
    Frame fm s0 ((lineReset s)) := by
  unfold lineReset
  repeat' (first | exact Sub.trans (by decide) hm | intro _ | with_reducible assumption | with_reducible apply endSession_frame | with_reducible apply modRs_frame | with_reducible apply rsAbandon_frame | extract_lets)

theorem randomKey_frame {fm : Nat} {s0 : State} (hm : Sub 0x2000000 fm) (s : State) (h : Frame fm s0 s) :
    Frame fm s0 ((randomKey s).2) := by
  unfold randomKey
  repeat' (first | exact Sub.trans (by decide) hm | intro _ | with_reducible assumption | with_reducible refine Frame.pair ‹_› ?_ | with_reducible apply State.free_frame | extract_lets | split)

theorem authBegin_frame {fm : Nat} {s0 : State} (hm : Sub 0x3bbefbd fm) (s : State) (h : Frame fm s0 s) :
    Frame fm s0 ((authBegin s)) := by
  unfold authBegin
  repeat' (first | exact Sub.trans (by decide) hm | intro _ | with_reducible assumption | with_reducible refine Frame.pair ‹_› ?_ | with_reducible apply endSession_frame | with_reducible apply modAuth_frame | with_reducible apply randomKey_frame | with_reducible apply Frame.ite | extract_lets | split)

theorem authIn_frame {fm : Nat} {s0 : State} (hm : Sub 0x1000000 fm) (v : Nat) (s : State) (h : Frame fm s0 s) :
    Frame fm s0 ((authIn v s)) := by
  unfold authIn
  repeat' (first | exact Sub.trans (by decide) hm | intro _ | with_reducible assumption | with_reducible apply modAuth_frame | with_reducible apply Frame.ite | extract_lets | split)

theorem authVerify_frame {fm : Nat} {s0 : State} (hm : Sub 0x3bbefbd fm) (s : State) (h : Frame fm s0 s) :
    Frame fm s0 ((authVerify s)) := by
  unfold authVerify
  repeat' (first | exact Sub.trans (by decide) hm | intro _ | with_reducible assumption | with_reducible apply endSession_frame | with_reducible apply modAuth_frame | extract_lets)

theorem writeAuthCtl_frame {fm : Nat} {s0 : State} (hm : Sub 0x3bbefbd fm) (v : Nat) (s : State) (h : Frame fm s0 s) :
    Frame fm s0 ((writeAuthCtl v s)) := by
  unfold writeAuthCtl
  repeat' (first | exact Sub.trans (by decide) hm | intro _ | with_reducible assumption | with_reducible apply authBegin_frame | with_reducible apply authVerify_frame | with_reducible apply endSession_frame | with_reducible apply Frame.ite | extract_lets | split)

theorem expireSession_frame {fm : Nat} {s0 : State} (hm : Sub 0x3bbefbd fm) (s : State) (h : Frame fm s0 s) :
    Frame fm s0 ((expireSession s)) := by
  unfold expireSession
  repeat' (first | exact Sub.trans (by decide) hm | intro _ | with_reducible assumption | with_reducible apply endSession_frame | with_reducible apply Frame.ite | split)

theorem win0_frame {fm : Nat} {s0 : State} (hm : Sub 0x3bbefbd fm) (f : State → State) (s : State) (hf : ∀ (x0 : State), Frame fm s0 x0 → Frame fm s0 ((f x0))) (h : Frame fm s0 s) :
    Frame fm s0 ((win0 f s)) := by
  unfold win0
  repeat' (first | exact Sub.trans (by decide) hm | intro _ | with_reducible assumption | with_reducible apply hf | with_reducible apply expireSession_frame | with_reducible apply modRs_frame | with_reducible apply rsAccept_frame | with_reducible apply Frame.ite | extract_lets | split)

theorem authFail_frame {fm : Nat} {s0 : State} (hm : Sub 0x1000000 fm) (err : Nat) (s : State) (h : Frame fm s0 s) :
    Frame fm s0 ((authFail err s)) := by
  unfold authFail
  repeat' (first | exact Sub.trans (by decide) hm | intro _ | with_reducible assumption | with_reducible apply modAuth_frame | with_reducible apply Frame.ite | extract_lets | split)

theorem authGrant_frame {fm : Nat} {s0 : State} (hm : Sub 0x1000000 fm) (s : State) (h : Frame fm s0 s) :
    Frame fm s0 ((authGrant s)) := by
  unfold authGrant
  repeat' (first | exact Sub.trans (by decide) hm | intro _ | with_reducible assumption | with_reducible apply modRs_frame | extract_lets | split)

theorem authRenew_frame {fm : Nat} {s0 : State} (hm : Sub 0x3bbefbd fm) (mac : Nat) (s : State) (h : Frame fm s0 s) :
    Frame fm s0 ((authRenew mac s)) := by
  unfold authRenew
  repeat' (first | exact Sub.trans (by decide) hm | intro _ | with_reducible assumption | with_reducible apply authFail_frame | with_reducible apply endSession_frame | with_reducible apply modRs_frame | with_reducible apply Frame.ite | extract_lets | split)

theorem rsSessEnd_frame {fm : Nat} {s0 : State} (hm : Sub 0x3bbefbd fm) (id : Nat) (s : State) (h : Frame fm s0 s) :
    Frame fm s0 ((rsSessEnd id s)) := by
  unfold rsSessEnd
  repeat' (first | exact Sub.trans (by decide) hm | intro _ | with_reducible assumption | with_reducible apply endSession_frame | with_reducible apply Frame.ite | split)

theorem resetPort_frame {fm : Nat} {s0 : State} (hm : Sub 0x3bbefbd fm) (warm : Bool) (s : State) (h : Frame fm s0 s) :
    Frame fm s0 ((resetPort warm s)) := by
  unfold resetPort
  repeat' (first | exact Sub.trans (by decide) hm | intro _ | with_reducible assumption | with_reducible apply endSession_frame | with_reducible apply Frame.ite | (simp only [Frame_mk]; first | with_reducible apply FrameC.rolsal_upd) | extract_lets | split)

theorem execRolsalLineReset_frame {fm : Nat} {s0 : State} (hm : Sub 0x3bbefbd fm) (s : State) (h : Frame fm s0 s) :
    FrameO fm s0 (execRolsalLineReset s) := by
  unfold execRolsalLineReset
  repeat' (first | with_reducible apply FrameO.act | with_reducible apply FrameO.ok | with_reducible apply FrameO.ite | exact Sub.trans (by decide) hm | intro _ | with_reducible assumption | with_reducible apply lineReset_frame | with_reducible apply Frame.ite | split)

theorem execAuthBegin_frame {fm : Nat} {s0 : State} (hm : Sub 0x3bbefbd fm) (s : State) (h : Frame fm s0 s) :
    FrameO fm s0 (execAuthBegin s) := by
  unfold execAuthBegin
  repeat' (first | with_reducible apply FrameO.act | with_reducible apply FrameO.ok | exact Sub.trans (by decide) hm | intro _ | with_reducible assumption | with_reducible apply authBegin_frame | with_reducible apply win0_frame)

theorem execAuthInWrite_frame {fm : Nat} {s0 : State} (hm : Sub 0x3bbefbd fm) (value : Nat) (s : State) (h : Frame fm s0 s) :
    FrameO fm s0 (execAuthInWrite value s) := by
  unfold execAuthInWrite
  repeat' (first | with_reducible apply FrameO.act | with_reducible apply FrameO.ok | exact Sub.trans (by decide) hm | intro _ | with_reducible assumption | with_reducible apply authIn_frame | with_reducible apply win0_frame)

theorem execAuthVerify_frame {fm : Nat} {s0 : State} (hm : Sub 0x3bbefbd fm) (s : State) (h : Frame fm s0 s) :
    FrameO fm s0 (execAuthVerify s) := by
  unfold execAuthVerify
  repeat' (first | with_reducible apply FrameO.act | with_reducible apply FrameO.ok | exact Sub.trans (by decide) hm | intro _ | with_reducible assumption | with_reducible apply authVerify_frame | with_reducible apply win0_frame)

theorem execAuthEnd_frame {fm : Nat} {s0 : State} (hm : Sub 0x3bbefbd fm) (s : State) (h : Frame fm s0 s) :
    FrameO fm s0 (execAuthEnd s) := by
  unfold execAuthEnd
  repeat' (first | with_reducible apply FrameO.act | with_reducible apply FrameO.ok | exact Sub.trans (by decide) hm | intro _ | with_reducible assumption | with_reducible apply endSession_frame | with_reducible apply win0_frame)

theorem execAuthVerifyDone_frame {fm : Nat} {s0 : State} (hm : Sub 0x1000000 fm) (s : State) (h : Frame fm s0 s) :
    FrameO fm s0 (execAuthVerifyDone s) := by
  unfold execAuthVerifyDone
  repeat' (first | with_reducible apply FrameO.act | with_reducible apply FrameO.ok | with_reducible apply FrameO.ite | exact Sub.trans (by decide) hm | intro _ | with_reducible assumption | with_reducible apply authFail_frame | with_reducible apply authGrant_frame | with_reducible apply Frame.ite | extract_lets | split)

theorem execAuthRenewWrite_frame {fm : Nat} {s0 : State} (hm : Sub 0x3bbefbd fm) (mac : Nat) (s : State) (h : Frame fm s0 s) :
    FrameO fm s0 (execAuthRenewWrite mac s) := by
  unfold execAuthRenewWrite
  repeat' (first | with_reducible apply FrameO.act | with_reducible apply FrameO.ok | exact Sub.trans (by decide) hm | intro _ | with_reducible assumption | with_reducible apply authRenew_frame | with_reducible apply win0_frame)

theorem execRolsalIdleTimeout_frame {fm : Nat} {s0 : State} (hm : Sub 0x3bbefbd fm) (s : State) (h : Frame fm s0 s) :
    FrameO fm s0 (execRolsalIdleTimeout s) := by
  unfold execRolsalIdleTimeout
  repeat' (first | with_reducible apply FrameO.act | with_reducible apply FrameO.ok | with_reducible apply FrameO.ite | exact Sub.trans (by decide) hm | intro _ | with_reducible assumption | with_reducible apply endSession_frame | with_reducible apply Frame.ite | split)

theorem execRolsalSessionExpiry_frame {fm : Nat} {s0 : State} (hm : Sub 0x3bbefbd fm) (s : State) (h : Frame fm s0 s) :
    FrameO fm s0 (execRolsalSessionExpiry s) := by
  unfold execRolsalSessionExpiry
  repeat' (first | with_reducible apply FrameO.act | with_reducible apply FrameO.ok | with_reducible apply FrameO.ite | exact Sub.trans (by decide) hm | intro _ | with_reducible assumption | with_reducible apply endSession_frame | with_reducible apply Frame.ite | split)

theorem execRsSessEndWrite_frame {fm : Nat} {s0 : State} (hm : Sub 0x3bbefbd fm) (id : Nat) (s : State) (h : Frame fm s0 s) :
    FrameO fm s0 (execRsSessEndWrite id s) := by
  unfold execRsSessEndWrite
  repeat' (first | with_reducible apply FrameO.act | with_reducible apply FrameO.ok | exact Sub.trans (by decide) hm | intro _ | with_reducible assumption | with_reducible apply State.gate_frame | with_reducible apply rsSessEnd_frame)

/-! ### Privilege -/

theorem writePrivMap_frame {fm : Nat} {s0 : State} (hm : Sub 0x1 fm) (k v : Nat) (s : State) (h : Frame fm s0 s) :
    Frame fm s0 ((writePrivMap k v s)) := by
  unfold writePrivMap
  repeat' (first | exact Sub.trans (by decide) hm | intro _ | with_reducible assumption | with_reducible apply State.wrN_frame | with_reducible apply Frame.ite | extract_lets | split)

theorem lockPriv_frame {fm : Nat} {s0 : State} (hm : Sub 0x1 fm) (s : State) (h : Frame fm s0 s) :
    Frame fm s0 ((lockPriv s)) := by
  unfold lockPriv
  repeat' (first | exact Sub.trans (by decide) hm | intro _ | with_reducible assumption | with_reducible apply State.fs_frame)

theorem writeCustGrant_frame {fm : Nat} {s0 : State} (hm : Sub 0x1 fm) (id v : Nat) (s : State) (h : Frame fm s0 s) :
    Frame fm s0 ((writeCustGrant id v s)) := by
  unfold writeCustGrant
  repeat' (first | exact Sub.trans (by decide) hm | intro _ | with_reducible assumption | with_reducible apply refuseAccess_frame | with_reducible apply State.wrN_frame | with_reducible apply Frame.ite | extract_lets | split)

theorem showOtp_frame {fm : Nat} {s0 : State} (hm : Sub 0x1 fm) (s : State) (h : Frame fm s0 s) :
    Frame fm s0 ((showOtp s)) := by
  unfold showOtp
  repeat' (first | exact Sub.trans (by decide) hm | intro _ | with_reducible assumption | with_reducible apply State.fs_frame | with_reducible apply Frame.ite | extract_lets | split)

theorem writeOtpCtl_frame {fm : Nat} {s0 : State} (hm : Sub 0x400001 fm) (id v : Nat) (s : State) (h : Frame fm s0 s) :
    Frame fm s0 ((writeOtpCtl id v s)) := by
  unfold writeOtpCtl
  repeat' (first | exact Sub.trans (by decide) hm | intro _ | with_reducible assumption | with_reducible apply State.fs_frame | with_reducible apply refuseAccess_frame | with_reducible apply State.wrN_frame | with_reducible apply Frame.ite | (simp only [Frame_mk]; first | with_reducible apply FrameC.otp_upd) | extract_lets | split)

theorem revoke_frame {fm : Nat} {s0 : State} (hm : Sub 0x3bbefbd fm) (s : State) (h : Frame fm s0 s) :
    Frame fm s0 ((revoke s)) := by
  unfold revoke
  repeat' (first | exact Sub.trans (by decide) hm | intro _ | with_reducible assumption | with_reducible apply endSession_frame | with_reducible apply Frame.ite | split)

theorem otpStore_frame {fm : Nat} {s0 : State} (hm : Sub 0x3fbefbd fm) (o : OtpOp) (back : Nat) (s : State) (h : Frame fm s0 s) :
    Frame fm s0 ((otpStore o back s)) := by
  unfold otpStore
  repeat' (first | exact Sub.trans (by decide) hm | intro _ | with_reducible assumption | with_reducible apply revoke_frame | with_reducible apply Frame.ite | (simp only [Frame_mk]; first | with_reducible apply FrameC.otp_upd) | extract_lets | split)

theorem otpApply_frame {fm : Nat} {s0 : State} (hm : Sub 0x3fbefbd fm) (o : OtpOp) (back : List Nat) (s : State) (h : Frame fm s0 s) :
    Frame fm s0 ((otpApply o back s).2) := by
  unfold otpApply
  repeat' (first | exact Sub.trans (by decide) hm | intro _ | with_reducible assumption | with_reducible refine Frame.pair ‹_› ?_ | with_reducible apply otpStore_frame | with_reducible apply randomKey_frame | with_reducible apply State.wrWords_frame | with_reducible apply Frame.ite | (simp only [Frame_mk]; first | with_reducible apply FrameC.otp_upd) | extract_lets | split)

theorem execPrivMapWrite_frame {fm : Nat} {s0 : State} (hm : Sub 0x1 fm) (id index4 value : Nat) (s : State) (h : Frame fm s0 s) :
    FrameO fm s0 (execPrivMapWrite id index4 value s) := by
  unfold execPrivMapWrite
  repeat' (first | with_reducible apply FrameO.act | with_reducible apply FrameO.ok | exact Sub.trans (by decide) hm | intro _ | with_reducible assumption | with_reducible apply State.gate_frame | with_reducible apply writePrivMap_frame)

theorem execCustGrantWrite_frame {fm : Nat} {s0 : State} (hm : Sub 0x1 fm) (id value : Nat) (s : State) (h : Frame fm s0 s) :
    FrameO fm s0 (execCustGrantWrite id value s) := by
  unfold execCustGrantWrite
  repeat' (first | with_reducible apply FrameO.act | with_reducible apply FrameO.ok | with_reducible apply FrameO.ite | exact Sub.trans (by decide) hm | intro _ | with_reducible assumption | with_reducible apply writeCustGrant_frame | with_reducible apply Frame.ite | split)

theorem execOtpRead_frame {fm : Nat} {s0 : State} (hm : Sub 0x400001 fm) (id field : Nat) (s : State) (h : Frame fm s0 s) :
    FrameO fm s0 (execOtpRead id field s) := by
  unfold execOtpRead
  repeat' (first | with_reducible apply FrameO.act | with_reducible apply FrameO.ok | exact Sub.trans (by decide) hm | intro _ | with_reducible assumption | with_reducible apply State.gate_frame | with_reducible apply writeOtpCtl_frame)

theorem execOtpProgram_frame {fm : Nat} {s0 : State} (hm : Sub 0x400001 fm) (id field : Nat) (s : State) (h : Frame fm s0 s) :
    FrameO fm s0 (execOtpProgram id field s) := by
  unfold execOtpProgram
  repeat' (first | with_reducible apply FrameO.act | with_reducible apply FrameO.ok | exact Sub.trans (by decide) hm | intro _ | with_reducible assumption | with_reducible apply State.gate_frame | with_reducible apply writeOtpCtl_frame)

theorem execOtpGenkey_frame {fm : Nat} {s0 : State} (hm : Sub 0x400001 fm) (id field : Nat) (s : State) (h : Frame fm s0 s) :
    FrameO fm s0 (execOtpGenkey id field s) := by
  unfold execOtpGenkey
  repeat' (first | with_reducible apply FrameO.act | with_reducible apply FrameO.ok | exact Sub.trans (by decide) hm | intro _ | with_reducible assumption | with_reducible apply State.gate_frame | with_reducible apply writeOtpCtl_frame)

theorem execOtpOperationDone_frame {fm : Nat} {s0 : State} (hm : Sub 0x3fbefbd fm) (back : List Nat) (s : State) (h : Frame fm s0 s) :
    FrameO fm s0 (execOtpOperationDone back s) := by
  unfold execOtpOperationDone
  repeat' (first | with_reducible apply FrameO.awake | with_reducible apply FrameO.ok | exact Sub.trans (by decide) hm | intro _ | with_reducible assumption | with_reducible refine Frame.pair ‹_› ?_ | with_reducible apply State.fs_frame | with_reducible apply otpApply_frame | with_reducible apply showOtp_frame | (simp only [Frame_mk]; first | with_reducible apply FrameC.otp_upd) | extract_lets | split)

/-! ### SlotImg -/

theorem dropImage_frame {fm : Nat} {s0 : State} (hm : Sub 0x41 fm) (s : State) (h : Frame fm s0 s) :
    Frame fm s0 ((dropImage s)) := by
  unfold dropImage
  repeat' (first | exact Sub.trans (by decide) hm | intro _ | with_reducible assumption | with_reducible apply State.fs_frame | with_reducible apply State.wr_frame | with_reducible apply Frame.foldl | (simp only [Frame_mk]; first | with_reducible apply FrameC.slot_upd) | extract_lets)

theorem slotRestart_frame {fm : Nat} {s0 : State} (hm : Sub 0x41 fm) (s : State) (h : Frame fm s0 s) :
    Frame fm s0 ((slotRestart s)) := by
  unfold slotRestart
  repeat' (first | exact Sub.trans (by decide) hm | intro _ | with_reducible assumption | with_reducible apply dropImage_frame | with_reducible apply State.fs_frame | with_reducible apply Frame.ite | split)

theorem slotValidate_frame {fm : Nat} {s0 : State} (hm : Sub 0x41 fm) (s : State) (h : Frame fm s0 s) :
    Frame fm s0 ((slotValidate s)) := by
  unfold slotValidate
  repeat' (first | exact Sub.trans (by decide) hm | intro _ | with_reducible assumption | with_reducible apply dropImage_frame | with_reducible apply State.fs_frame | with_reducible apply Frame.ite | (simp only [Frame_mk]; first | with_reducible apply FrameC.slot_upd) | extract_lets | split)

theorem slotCtlWrite_frame {fm : Nat} {s0 : State} (hm : Sub 0x41 fm) (v : Nat) (s : State) (h : Frame fm s0 s) :
    Frame fm s0 ((slotCtlWrite v s)) := by
  unfold slotCtlWrite
  repeat' (first | exact Sub.trans (by decide) hm | intro _ | with_reducible assumption | with_reducible apply slotRestart_frame | with_reducible apply slotValidate_frame | with_reducible apply State.when_frame | with_reducible apply Frame.when)

theorem slotDataWrite_frame {fm : Nat} {s0 : State} (hm : Sub 0x41 fm) (v : Nat) (s : State) (h : Frame fm s0 s) :
    Frame fm s0 ((slotDataWrite v s)) := by
  unfold slotDataWrite
  repeat' (first | exact Sub.trans (by decide) hm | intro _ | with_reducible assumption | with_reducible apply State.fs_frame | with_reducible apply Frame.refl | with_reducible apply Frame.ite | with_reducible apply Frame.when | with_reducible apply Frame.foldl | (simp only [Frame_mk]; first | with_reducible apply FrameC.slot_upd) | extract_lets | split | (show Memory.wf [] = true; rfl) | (apply memPutBytes_wf; assumption) | (apply ringPut_wf; assumption) | (show Memory.wf _ = true; assumption) | (dsimp +zetaDelta only))

theorem installImage_frame {fm : Nat} {s0 : State} (hm : Sub 0x41 fm) (v : ImageView) (s : State) (h : Frame fm s0 s) :
    Frame fm s0 ((installImage v s)) := by
  unfold installImage
  repeat' (first | exact Sub.trans (by decide) hm | intro _ | with_reducible assumption | with_reducible apply State.fs_frame | with_reducible apply State.wr64_frame | with_reducible apply State.wrN_frame | with_reducible apply Frame.foldl | (simp only [Frame_mk]; first | with_reducible apply FrameC.slot_upd) | extract_lets)

theorem warmSlot_frame {fm : Nat} {s0 : State} (hm : Sub 0x1 fm) (s : State) (h : Frame fm s0 s) :
    Frame fm s0 ((warmSlot s)) := by
  unfold warmSlot
  repeat' (first | exact Sub.trans (by decide) hm | intro _ | with_reducible assumption | with_reducible apply State.fs_frame)

theorem execSlotRestart_frame {fm : Nat} {s0 : State} (hm : Sub 0x41 fm) (id : Nat) (s : State) (h : Frame fm s0 s) :
    FrameO fm s0 (execSlotRestart id s) := by
  unfold execSlotRestart
  repeat' (first | with_reducible apply FrameO.act | with_reducible apply FrameO.ok | exact Sub.trans (by decide) hm | intro _ | with_reducible assumption | with_reducible apply State.gate_frame | with_reducible apply slotRestart_frame)

theorem execSlotValidate_frame {fm : Nat} {s0 : State} (hm : Sub 0x41 fm) (id : Nat) (s : State) (h : Frame fm s0 s) :
    FrameO fm s0 (execSlotValidate id s) := by
  unfold execSlotValidate
  repeat' (first | with_reducible apply FrameO.act | with_reducible apply FrameO.ok | exact Sub.trans (by decide) hm | intro _ | with_reducible assumption | with_reducible apply State.gate_frame | with_reducible apply slotValidate_frame)

theorem execSlotDataWrite_frame {fm : Nat} {s0 : State} (hm : Sub 0x41 fm) (id value : Nat) (s : State) (h : Frame fm s0 s) :
    FrameO fm s0 (execSlotDataWrite id value s) := by
  unfold execSlotDataWrite
  repeat' (first | with_reducible apply FrameO.act | with_reducible apply FrameO.ok | exact Sub.trans (by decide) hm | intro _ | with_reducible assumption | with_reducible apply State.gate_frame | with_reducible apply slotDataWrite_frame)

theorem execSlotValidationDone_frame {fm : Nat} {s0 : State} (hm : Sub 0x41 fm) (s : State) (h : Frame fm s0 s) :
    FrameO fm s0 (execSlotValidationDone s) := by
  unfold execSlotValidationDone
  repeat' (first | with_reducible apply FrameO.awake | with_reducible apply FrameO.ok | with_reducible apply FrameO.ite | exact Sub.trans (by decide) hm | intro _ | with_reducible assumption | with_reducible apply State.fs_frame | with_reducible apply installImage_frame | with_reducible apply Frame.ite | extract_lets | split)

/-! ### Cane -/

theorem modSpine_frame {fm : Nat} {s0 : State} (hm : Sub 0x20 fm) (f : SpineState → SpineState) (s : State) (h : Frame fm s0 s) :
    Frame fm s0 ((modSpine f s)) := by
  unfold modSpine
  repeat' (first | exact Sub.trans (by decide) hm | intro _ | with_reducible assumption | (simp only [Frame_mk]; first | with_reducible apply FrameC.spine_upd) | extract_lets)

theorem readStn_frame {fm : Nat} {s0 : State} (hm : Sub 0x1 fm) (n page off k : Nat) (peek : Bool) (s : State) (h : Frame fm s0 s) :
    Frame fm s0 ((readStn n page off k peek s).2) := by
  unfold readStn
  repeat' (first | exact Sub.trans (by decide) hm | intro _ | with_reducible assumption | with_reducible refine Frame.pair ‹_› ?_ | with_reducible apply clearRc_frame | with_reducible apply Frame.ite | with_reducible apply Frame.foldl | extract_lets | split)

theorem freeLatches_frame {fm : Nat} {s0 : State} (hm : Sub 0x1 fm) (n base v : Nat) (s : State) (h : Frame fm s0 s) :
    Frame fm s0 ((freeLatches n base v s)) := by
  unfold freeLatches
  repeat' (first | exact Sub.trans (by decide) hm | intro _ | with_reducible assumption | with_reducible apply State.wrN_frame | with_reducible apply Frame.foldl | extract_lets)

theorem writeEpochWord_frame {fm : Nat} {s0 : State} (hm : Sub 0x11 fm) (n i v : Nat) (s : State) (h : Frame fm s0 s) :
    Frame fm s0 ((writeEpochWord n i v s)) := by
  unfold writeEpochWord
  repeat' (first | exact Sub.trans (by decide) hm | intro _ | with_reducible assumption | with_reducible apply stnSetEpoch_frame | with_reducible apply Frame.ite | with_reducible apply Frame.foldl | extract_lets | split)

theorem writeDlWord_frame {fm : Nat} {s0 : State} (hm : Sub 0x1011 fm) (n b v : Nat) (s : State) (h : Frame fm s0 s) :
    Frame fm s0 ((writeDlWord n b v s)) := by
  unfold writeDlWord
  repeat' (first | exact Sub.trans (by decide) hm | intro _ | with_reducible assumption | with_reducible apply ackLatches_frame | with_reducible apply State.fs_frame | with_reducible apply modDl_frame | with_reducible apply plainWrite_frame | with_reducible apply State.wrN_frame | with_reducible apply writeEpochWord_frame | with_reducible apply Frame.ite | extract_lets | split)

theorem writeRstWord_frame {fm : Nat} {s0 : State} (hm : Sub 0x1 fm) (n b v : Nat) (s : State) (h : Frame fm s0 s) :
    Frame fm s0 ((writeRstWord n b v s)) := by
  unfold writeRstWord
  repeat' (first | exact Sub.trans (by decide) hm | intro _ | with_reducible assumption | with_reducible apply freeLatches_frame | with_reducible apply plainWrite_frame | with_reducible apply Frame.ite | extract_lets | split)

theorem writeDbgWord_frame {fm : Nat} {s0 : State} (hm : Sub 0x91 fm) (n b v : Nat) (s : State) (h : Frame fm s0 s) :
    Frame fm s0 ((writeDbgWord n b v s)) := by
  unfold writeDbgWord
  repeat' (first | exact Sub.trans (by decide) hm | intro _ | with_reducible assumption | with_reducible apply State.fs_frame | with_reducible apply setPort_frame | with_reducible apply writeDbgAddr_frame | with_reducible apply writeDbgCmd_frame | with_reducible apply writeDbgCtl_frame | with_reducible apply Frame.ite | extract_lets | split)

theorem writeWinWord_frame {fm : Nat} {s0 : State} (hm : Sub 0x91 fm) (n grp b v : Nat) (s : State) (h : Frame fm s0 s) :
    Frame fm s0 ((writeWinWord n grp b v s)) := by
  unfold writeWinWord
  repeat' (first | exact Sub.trans (by decide) hm | intro _ | with_reducible assumption | with_reducible apply plainWrite_frame | with_reducible apply releasePkg_frame | with_reducible apply unload_frame | with_reducible apply withHolds_frame | with_reducible apply State.wrN_frame | with_reducible apply writeDbgWord_frame | with_reducible apply Frame.ite | extract_lets | split)

theorem writeStnWord_frame {fm : Nat} {s0 : State} (hm : Sub 0x1091 fm) (n page grp b v : Nat) (s : State) (h : Frame fm s0 s) :
    Frame fm s0 ((writeStnWord n page grp b v s)) := by
  unfold writeStnWord
  repeat' (first | exact Sub.trans (by decide) hm | intro _ | with_reducible assumption | with_reducible apply writeDlWord_frame | with_reducible apply writeRstWord_frame | with_reducible apply writeWinWord_frame | with_reducible apply Frame.ite | split)

theorem writeStn_frame {fm : Nat} {s0 : State} (hm : Sub 0x1091 fm) (n page grp : Nat) (z0 : Nat) (z1 : List Nat) (z2 : State) (h : Frame fm s0 z2) :
    Frame fm s0 ((writeStn n page grp z0 z1 z2)) := by
  induction z1 generalizing z0 z2 with
  | nil =>
    unfold writeStn
    repeat' (first | exact Sub.trans (by decide) hm | intro _ | with_reducible assumption | with_reducible apply writeStnWord_frame | split)
  | cons a l ih =>
    unfold writeStn
    repeat' (first | exact Sub.trans (by decide) hm | intro _ | with_reducible assumption | with_reducible apply ih | with_reducible apply writeStnWord_frame | split)

theorem verifyFail_frame {fm : Nat} {s0 : State} (hm : Sub 0x32befbd fm) (n : Nat) (s : State) (h : Frame fm s0 s) :
    Frame fm s0 ((verifyFail n s)) := by
  unfold verifyFail
  repeat' (first | exact Sub.trans (by decide) hm | intro _ | with_reducible assumption | with_reducible apply centralFault_frame | with_reducible apply degradeRib_frame | with_reducible apply State.fs_frame | with_reducible apply Frame.ite | extract_lets | split)

theorem resendStation_frame {fm : Nat} {s0 : State} (hm : Sub 0xc31 fm) (n : Nat) (s : State) (h : Frame fm s0 s) :
    Frame fm s0 ((resendStation n s)) := by
  unfold resendStation
  repeat' (first | exact Sub.trans (by decide) hm | intro _ | with_reducible assumption | with_reducible apply giveAttr_frame | with_reducible apply giveRow_frame | with_reducible apply modStn_frame | with_reducible apply resendSec_frame | with_reducible apply resendTrace_frame | with_reducible apply sendDownAs_frame | with_reducible apply sendPolicies_frame | with_reducible apply sendRegWr_frame | with_reducible apply sendSlot_frame | with_reducible apply Frame.ite | with_reducible apply Frame.foldl | extract_lets | split)

theorem retrainEnds_frame {fm : Nat} {s0 : State} (hm : Sub 0x21 fm) (r : Nat) (s : State) (h : Frame fm s0 s) :
    Frame fm s0 ((retrainEnds r s)) := by
  unfold retrainEnds
  repeat' (first | exact Sub.trans (by decide) hm | intro _ | with_reducible assumption | with_reducible apply State.fs_frame | with_reducible apply modRib_frame | with_reducible apply Frame.ite | extract_lets | split)

theorem ribVerified_frame {fm : Nat} {s0 : State} (hm : Sub 0xc31 fm) (r : Nat) (s : State) (h : Frame fm s0 s) :
    Frame fm s0 ((ribVerified r s)) := by
  unfold ribVerified
  repeat' (first | exact Sub.trans (by decide) hm | intro _ | with_reducible assumption | with_reducible apply checkLive_frame | with_reducible apply loadTime_frame | with_reducible apply modRib_frame | with_reducible apply retrainEnds_frame | with_reducible apply showApplied_frame | with_reducible apply showLoaded_frame | with_reducible apply State.when_frame | with_reducible apply Frame.when | extract_lets)

theorem stationVerified_frame {fm : Nat} {s0 : State} (hm : Sub 0xc31 fm) (n : Nat) (s : State) (h : Frame fm s0 s) :
    Frame fm s0 ((stationVerified n s)) := by
  unfold stationVerified
  repeat' (first | exact Sub.trans (by decide) hm | intro _ | with_reducible assumption | with_reducible apply modRib_frame | with_reducible apply resendStation_frame | with_reducible apply ribVerified_frame | with_reducible apply State.when_frame | with_reducible apply Frame.when | extract_lets)

theorem verifyWord_frame {fm : Nat} {s0 : State} (hm : Sub 0x32befbd fm) (crc : Bool) (n v : Nat) (s : State) (h : Frame fm s0 s) :
    Frame fm s0 ((verifyWord crc n v s)) := by
  unfold verifyWord
  repeat' (first | exact Sub.trans (by decide) hm | intro _ | with_reducible assumption | with_reducible apply modRib_frame | with_reducible apply stationVerified_frame | with_reducible apply verifyFail_frame | with_reducible apply Frame.ite | extract_lets | split)

theorem rolsalAnswer_frame {fm : Nat} {s0 : State} (hm : Sub 0x1000002 fm) (n base words : Nat) (good : Bool) (ws : List Nat) (s : State) (h : Frame fm s0 s) :
    Frame fm s0 ((rolsalAnswer n base words good ws s)) := by
  unfold rolsalAnswer
  repeat' (first | exact Sub.trans (by decide) hm | intro _ | with_reducible assumption | with_reducible apply holdWide_frame | with_reducible apply modRs_frame | with_reducible apply Frame.ite | extract_lets | split)

theorem answered_frame {fm : Nat} {s0 : State} (hm : Sub 0x32befbf fm) (a : StnAccess) (good : Bool) (ws : List Nat) (s : State) (h : Frame fm s0 s) :
    Frame fm s0 ((answered a good ws s)) := by
  unfold answered
  repeat' (first | exact Sub.trans (by decide) hm | intro _ | with_reducible assumption | with_reducible apply accessWord_frame | with_reducible apply collectWord_frame | with_reducible apply State.fs_frame | with_reducible apply holdWide_frame | with_reducible apply presentRead_frame | with_reducible apply rolsalAnswer_frame | with_reducible apply streamWord_frame | with_reducible apply verifyWord_frame | with_reducible apply State.when_frame | with_reducible apply Frame.ite | with_reducible apply Frame.when | extract_lets | split)

theorem failAccess_frame {fm : Nat} {s0 : State} (hm : Sub 0x32befbf fm) (a : StnAccess) (s : State) (h : Frame fm s0 s) :
    Frame fm s0 ((failAccess a s)) := by
  unfold failAccess
  repeat' (first | exact Sub.trans (by decide) hm | intro _ | with_reducible assumption | with_reducible apply answered_frame | with_reducible apply State.fs_frame | with_reducible apply rolsalAnswer_frame | with_reducible apply streamWord_frame | extract_lets | split)

theorem settleAccesses_frame {fm : Nat} {s0 : State} (hm : Sub 0x32befbf fm) (gone : Nat → Bool) (s : State) (h : Frame fm s0 s) :
    Frame fm s0 ((settleAccesses gone s)) := by
  unfold settleAccesses
  repeat' (first | exact Sub.trans (by decide) hm | intro _ | with_reducible assumption | with_reducible apply failAccess_frame | with_reducible apply modSpine_frame | with_reducible apply pumpAccess_frame | with_reducible apply Frame.foldl | extract_lets)

theorem loseFences_frame {fm : Nat} {s0 : State} (hm : Sub 0x2032831 fm) (gone : Nat → Bool) (s : State) (h : Frame fm s0 s) :
    Frame fm s0 ((loseFences gone s)) := by
  unfold loseFences
  repeat' (first | exact Sub.trans (by decide) hm | intro _ | with_reducible assumption | with_reducible apply afterRead_frame | with_reducible apply fencesDone_frame | with_reducible apply modStria_frame | with_reducible apply Frame.ite | extract_lets | split)

theorem settleGone_frame {fm : Nat} {s0 : State} (hm : Sub 0x32befbf fm) (gone : Nat → Bool) (s : State) (h : Frame fm s0 s) :
    Frame fm s0 ((settleGone gone s)) := by
  unfold settleGone
  repeat' (first | exact Sub.trans (by decide) hm | intro _ | with_reducible assumption | with_reducible apply loseCtrReads_frame | with_reducible apply loseFences_frame | with_reducible apply settleAccesses_frame)

theorem stationRead_frame {fm : Nat} {s0 : State} (hm : Sub 0x33 fm) (id a : Nat) (peek : Bool) (use : Nat → Nat → StnUse) (s : State) (h : Frame fm s0 s) :
    Frame fm s0 ((stationRead id a peek use s).2) := by
  unfold stationRead
  repeat' (first | exact Sub.trans (by decide) hm | intro _ | with_reducible assumption | with_reducible refine Frame.pair ‹_› ?_ | with_reducible apply pageRead_frame)

theorem stationWrite_frame {fm : Nat} {s0 : State} (hm : Sub 0x233 fm) (id a v : Nat) (s : State) (h : Frame fm s0 s) :
    Frame fm s0 ((stationWrite id a v s)) := by
  unfold stationWrite
  repeat' (first | exact Sub.trans (by decide) hm | intro _ | with_reducible assumption | with_reducible apply pcCfgWord_frame | with_reducible apply winWrite_frame | with_reducible apply Frame.ite | extract_lets | split)

theorem dropUp_frame {fm : Nat} {s0 : State} (hm : Sub 0x1010c31 fm) (rib slot : Nat) (s : State) (h : Frame fm s0 s) :
    Frame fm s0 ((dropUp rib slot s)) := by
  unfold dropUp
  repeat' (first | exact Sub.trans (by decide) hm | intro _ | with_reducible assumption | with_reducible apply discardUp_frame | with_reducible apply modSpine_frame | with_reducible apply modStn_frame | with_reducible apply setStn_frame | with_reducible apply Frame.ite | extract_lets | split)

theorem showIso_frame {fm : Nat} {s0 : State} (hm : Sub 0x1 fm) (s : State) (h : Frame fm s0 s) :
    Frame fm s0 ((showIso s)) := by
  unfold showIso
  repeat' (first | exact Sub.trans (by decide) hm | intro _ | with_reducible assumption | with_reducible apply State.fs_frame | with_reducible apply Frame.foldl | extract_lets)

theorem startSubst_frame {fm : Nat} {s0 : State} (hm : Sub 0x1010c31 fm) (r : Nat) (s : State) (h : Frame fm s0 s) :
    Frame fm s0 ((startSubst r s)) := by
  unfold startSubst
  repeat' (first | exact Sub.trans (by decide) hm | intro _ | with_reducible assumption | with_reducible apply absentPacket_frame | with_reducible apply checkLive_frame | with_reducible apply cutOff_frame | with_reducible apply dropEntries_frame | with_reducible apply loseSlots_frame | with_reducible apply modRib_frame | with_reducible apply modStn_frame | with_reducible apply showIso_frame | with_reducible apply showLoaded_frame | with_reducible apply Frame.foldl | extract_lets)

theorem endSubst_frame {fm : Nat} {s0 : State} (hm : Sub 0x21 fm) (r : Nat) (s : State) (h : Frame fm s0 s) :
    Frame fm s0 ((endSubst r s)) := by
  unfold endSubst
  repeat' (first | exact Sub.trans (by decide) hm | intro _ | with_reducible assumption | with_reducible apply modRib_frame | with_reducible apply showIso_frame | with_reducible apply showLoaded_frame | extract_lets)

theorem setIso_frame {fm : Nat} {s0 : State} (hm : Sub 0x8 fm) (seam on : Bool) (point : Nat) (s : State) (h : Frame fm s0 s) :
    Frame fm s0 ((setIso seam on point s)) := by
  unfold setIso
  repeat' (first | exact Sub.trans (by decide) hm | intro _ | with_reducible assumption | with_reducible apply Frame.ite | (simp only [Frame_mk]; first | with_reducible apply FrameC.pins_upd) | extract_lets | split)

theorem releaseRib_frame {fm : Nat} {s0 : State} (hm : Sub 0x21 fm) (r : Nat) (s : State) (h : Frame fm s0 s) :
    Frame fm s0 ((releaseRib r s)) := by
  unfold releaseRib
  repeat' (first | exact Sub.trans (by decide) hm | intro _ | with_reducible assumption | with_reducible apply endSubst_frame | with_reducible apply modRib_frame | with_reducible apply Frame.ite | extract_lets | split)

theorem caneTrain_frame {fm : Nat} {s0 : State} (hm : Sub 0x21 fm) (s : State) (h : Frame fm s0 s) :
    Frame fm s0 ((caneTrain s)) := by
  unfold caneTrain
  repeat' (first | exact Sub.trans (by decide) hm | intro _ | with_reducible assumption | with_reducible apply State.fs_frame | with_reducible apply modRib_frame | with_reducible apply modSpine_frame | with_reducible apply Frame.ite | with_reducible apply Frame.foldl | extract_lets | split)

theorem caneRetrain_frame {fm : Nat} {s0 : State} (hm : Sub 0x32befbf fm) (r : Nat) (s : State) (h : Frame fm s0 s) :
    Frame fm s0 ((caneRetrain r s)) := by
  unfold caneRetrain
  repeat' (first | exact Sub.trans (by decide) hm | intro _ | with_reducible assumption | with_reducible apply enterPass_frame | with_reducible apply State.fs_frame | with_reducible apply modRib_frame | with_reducible apply settleAccesses_frame | with_reducible apply Frame.ite | with_reducible apply Frame.foldl | extract_lets | split)

theorem tEndMismatch_frame {fm : Nat} {s0 : State} (hm : Sub 0x32befbd fm) (r : Nat) (s : State) (h : Frame fm s0 s) :
    Frame fm s0 ((tEndMismatch r s)) := by
  unfold tEndMismatch
  repeat' (first | exact Sub.trans (by decide) hm | intro _ | with_reducible assumption | with_reducible apply centralFault_frame | with_reducible apply State.fs_frame | split)

theorem trainingEnds_frame {fm : Nat} {s0 : State} (hm : Sub 0x32befbd fm) (s : State) (h : Frame fm s0 s) :
    Frame fm s0 ((trainingEnds s)) := by
  unfold trainingEnds
  repeat' (first | exact Sub.trans (by decide) hm | intro _ | with_reducible assumption | with_reducible apply State.fs_frame | with_reducible apply tEndMismatch_frame | with_reducible apply Frame.ite | with_reducible apply Frame.foldl | extract_lets | split)

theorem undegrade_frame {fm : Nat} {s0 : State} (hm : Sub 0x1 fm) (r : Nat) (s : State) (h : Frame fm s0 s) :
    Frame fm s0 ((undegrade r s)) := by
  unfold undegrade
  repeat' (first | exact Sub.trans (by decide) hm | intro _ | with_reducible assumption | with_reducible apply State.fs_frame | extract_lets)

theorem retrained_frame {fm : Nat} {s0 : State} (hm : Sub 0x31 fm) (r : Nat) (s : State) (h : Frame fm s0 s) :
    Frame fm s0 ((retrained r s)) := by
  unfold retrained
  repeat' (first | exact Sub.trans (by decide) hm | intro _ | with_reducible assumption | with_reducible apply endRibWork_frame | with_reducible apply loadRib_frame | with_reducible apply undegrade_frame | with_reducible apply verifyRib_frame | with_reducible apply State.when_frame | with_reducible apply Frame.ite | with_reducible apply Frame.when | extract_lets | split)

theorem startSpine_frame {fm : Nat} {s0 : State} (hm : Sub 0xb0 fm) (start : Nat) (s : State) (h : Frame fm s0 s) :
    Frame fm s0 ((startSpine start s)) := by
  unfold startSpine
  repeat' (first | exact Sub.trans (by decide) hm | intro _ | with_reducible assumption | with_reducible apply modShear_frame | with_reducible apply modSpine_frame | with_reducible apply modStn_frame | with_reducible apply Frame.foldl | extract_lets)

theorem caneEnable_frame {fm : Nat} {s0 : State} (hm : Sub 0x1010cb1 fm) (s : State) (h : Frame fm s0 s) :
    Frame fm s0 ((caneEnable s)) := by
  unfold caneEnable
  repeat' (first | exact Sub.trans (by decide) hm | intro _ | with_reducible assumption | with_reducible apply State.fs_frame | with_reducible apply loadRib_frame | with_reducible apply modSpine_frame | with_reducible apply startSpine_frame | with_reducible apply startSubst_frame | with_reducible apply verifyRib_frame | with_reducible apply State.wr64_frame | with_reducible apply Frame.ite | with_reducible apply Frame.foldl | extract_lets | split)

theorem caneDisable_frame {fm : Nat} {s0 : State} (hm : Sub 0x21 fm) (s : State) (h : Frame fm s0 s) :
    Frame fm s0 ((caneDisable s)) := by
  unfold caneDisable
  repeat' (first | exact Sub.trans (by decide) hm | intro _ | with_reducible assumption | with_reducible apply State.fs_frame | with_reducible apply modSpine_frame | extract_lets)

theorem caneCtlWrite_frame {fm : Nat} {s0 : State} (hm : Sub 0x32befbf fm) (v : Nat) (s : State) (h : Frame fm s0 s) :
    Frame fm s0 ((caneCtlWrite v s)) := by
  unfold caneCtlWrite
  repeat' (first | exact Sub.trans (by decide) hm | intro _ | with_reducible assumption | with_reducible apply caneDisable_frame | with_reducible apply caneEnable_frame | with_reducible apply caneRetrain_frame | with_reducible apply caneTrain_frame | with_reducible apply State.when_frame | with_reducible apply Frame.ite | with_reducible apply Frame.when | with_reducible apply Frame.foldl | extract_lets | split)

theorem completeWait_frame {fm : Nat} {s0 : State} (hm : Sub 0x10001 fm) (k : CmdKey) (s : State) (h : Frame fm s0 s) :
    Frame fm s0 ((completeWait k s)) := by
  unfold completeWait
  repeat' (first | exact Sub.trans (by decide) hm | intro _ | with_reducible assumption | with_reducible apply completeCmd_frame | with_reducible apply Frame.ite | extract_lets | split)

theorem waitsFrame_frame {fm : Nat} {s0 : State} (hm : Sub 0x10601 fm) (s : State) (h : Frame fm s0 s) :
    Frame fm s0 ((waitsFrame s)) := by
  unfold waitsFrame
  repeat' (first | exact Sub.trans (by decide) hm | intro _ | with_reducible assumption | with_reducible apply completeWait_frame | with_reducible apply modCtr_frame | with_reducible apply modTrc_frame | with_reducible apply Frame.foldl | extract_lets | (show Memory.wf _ = true; assumption))

theorem settleFrames_frame {fm : Nat} {s0 : State} (hm : Sub 0x11e01 fm) (s : State) (h : Frame fm s0 s) :
    Frame fm s0 ((settleFrames s)) := by
  unfold settleFrames
  repeat' (first | exact Sub.trans (by decide) hm | intro _ | with_reducible assumption | with_reducible apply clearSlot_frame | with_reducible apply completeWait_frame | with_reducible apply endEpoch_frame | with_reducible apply modCtr_frame | with_reducible apply modDl_frame | with_reducible apply modStria_frame | with_reducible apply modTrc_frame | with_reducible apply showRow_frame | with_reducible apply Frame.ite | with_reducible apply Frame.foldl | extract_lets | split | (show Memory.wf [] = true; rfl) | (show Memory.wf _ = true; assumption))

theorem stopFrames_frame {fm : Nat} {s0 : State} (hm : Sub 0x32bffbf fm) (s : State) (h : Frame fm s0 s) :
    Frame fm s0 ((stopFrames s)) := by
  unfold stopFrames
  repeat' (first | exact Sub.trans (by decide) hm | intro _ | with_reducible assumption | with_reducible apply abandonUp_frame | with_reducible apply abortRead_frame | with_reducible apply afterRead_frame | with_reducible apply endReadout_frame | with_reducible apply endRibWork_frame | with_reducible apply State.fs_frame | with_reducible apply lehrRun_frame | with_reducible apply loseCtrReads_frame | with_reducible apply missReductions_frame | with_reducible apply modRib_frame | with_reducible apply modSpine_frame | with_reducible apply modStn_frame | with_reducible apply releaseRib_frame | with_reducible apply settleAccesses_frame | with_reducible apply settleFrames_frame | with_reducible apply Frame.ite | with_reducible apply Frame.foldl | extract_lets | split)

theorem takeEcho_frame {fm : Nat} {s0 : State} (hm : Sub 0x1010c31 fm) (f r : Nat) (got : Option Nat) (s : State) (h : Frame fm s0 s) :
    Frame fm s0 ((takeEcho f r got s)) := by
  unfold takeEcho
  repeat' (first | exact Sub.trans (by decide) hm | intro _ | with_reducible assumption | with_reducible apply degradeRib_frame | with_reducible apply endSubst_frame | with_reducible apply modRib_frame | with_reducible apply retrainEnds_frame | with_reducible apply verifyRib_frame | with_reducible apply State.when_frame | with_reducible apply Frame.ite | with_reducible apply Frame.when | extract_lets | split)

theorem takeAction_frame {fm : Nat} {s0 : State} (hm : Sub 0x11 fm) (f n : Nat) (s : State) (h : Frame fm s0 s) :
    Frame fm s0 ((takeAction f n s)) := by
  unfold takeAction
  repeat' (first | exact Sub.trans (by decide) hm | intro _ | with_reducible assumption | with_reducible apply State.fs_frame | with_reducible apply setStn_frame | with_reducible apply State.when_frame | with_reducible apply Frame.ite | with_reducible apply Frame.when | extract_lets | split)

theorem sendAction_frame {fm : Nat} {s0 : State} (hm : Sub 0x411 fm) (f : Nat) (s : State) (h : Frame fm s0 s) :
    Frame fm s0 ((sendAction f s)) := by
  unfold sendAction
  repeat' (first | exact Sub.trans (by decide) hm | intro _ | with_reducible assumption | with_reducible apply State.fs_frame | with_reducible apply modTrc_frame | with_reducible apply takeAction_frame | with_reducible apply Frame.ite | with_reducible apply Frame.foldl | extract_lets | split | (show Memory.wf _ = true; assumption))

theorem restoreStation_frame {fm : Nat} {s0 : State} (hm : Sub 0x91 fm) (n : Nat) (s : State) (h : Frame fm s0 s) :
    Frame fm s0 ((restoreStation n s)) := by
  unfold restoreStation
  repeat' (first | exact Sub.trans (by decide) hm | intro _ | with_reducible assumption | with_reducible apply attrClear_frame | with_reducible apply bndTouch_frame | with_reducible apply freeWd_frame | with_reducible apply State.fs_frame | with_reducible apply modStn_frame | with_reducible apply syncStn_frame | with_reducible apply withHolds_frame | with_reducible apply State.wr_frame | with_reducible apply State.wrWords_frame | with_reducible apply Frame.foldl | extract_lets)

theorem installPort_frame {fm : Nat} {s0 : State} (hm : Sub 0x91 fm) (n p : Nat) (i : PortImage) (s : State) (h : Frame fm s0 s) :
    Frame fm s0 ((installPort n p i s)) := by
  unfold installPort
  repeat' (first | exact Sub.trans (by decide) hm | intro _ | with_reducible assumption | with_reducible apply portMismatch_frame | with_reducible apply setPort_frame | with_reducible apply State.when_frame | with_reducible apply Frame.ite | with_reducible apply Frame.when | extract_lets | split)

theorem loadTables_frame {fm : Nat} {s0 : State} (hm : Sub 0x11 fm) (n : Nat) (m : DownMsg) (s : State) (h : Frame fm s0 s) :
    Frame fm s0 ((loadTables n m s)) := by
  unfold loadTables
  repeat' (first | exact Sub.trans (by decide) hm | intro _ | with_reducible assumption | with_reducible apply State.fs_frame | with_reducible apply modStn_frame | with_reducible apply State.wrN_frame | extract_lets)

theorem execStationRegRd_frame {fm : Nat} {s0 : State} (hm : Sub 0x11 fm) (stn cap : Nat) (s : State) (h : Frame fm s0 s) :
    FrameO fm s0 (execStationRegRd stn cap s) := by
  unfold execStationRegRd
  repeat' (first | with_reducible apply FrameO.act | with_reducible apply FrameO.ok | with_reducible apply FrameO.ite | exact Sub.trans (by decide) hm | intro _ | with_reducible assumption | with_reducible refine takeInbox_frame ?_ _ _ _ _ ‹_› ?_ | with_reducible refine Frame.pair ‹_› ?_ | with_reducible apply offerMsg_frame | with_reducible apply readStn_frame | with_reducible apply Frame.ite | extract_lets | split)

theorem execStationRegWr_frame {fm : Nat} {s0 : State} (hm : Sub 0x1091 fm) (stn : Nat) (s : State) (h : Frame fm s0 s) :
    FrameO fm s0 (execStationRegWr stn s) := by
  unfold execStationRegWr
  repeat' (first | with_reducible apply FrameO.act | with_reducible apply FrameO.ok | exact Sub.trans (by decide) hm | intro _ | with_reducible assumption | with_reducible refine takeInbox_frame ?_ _ _ _ _ ‹_› ?_ | with_reducible apply writeStn_frame | extract_lets | split)

theorem execRegrdArrival_frame {fm : Nat} {s0 : State} (hm : Sub 0x32befbf fm) (stn : Nat) (s : State) (h : Frame fm s0 s) :
    FrameO fm s0 (execRegrdArrival stn s) := by
  unfold execRegrdArrival
  repeat' (first | with_reducible apply FrameO.act | with_reducible apply FrameO.ok | with_reducible apply FrameO.ite | exact Sub.trans (by decide) hm | intro _ | with_reducible assumption | with_reducible refine takeAir_frame ?_ _ _ _ ‹_› ?_ | with_reducible refine takeAccess_frame ?_ _ _ _ ‹_› ?_ | with_reducible apply answered_frame | with_reducible apply lehrRun_frame | with_reducible apply Frame.ite | extract_lets | split)

theorem execSlotVerifyTimeout_frame {fm : Nat} {s0 : State} (hm : Sub 0x32befbd fm) (stn : Nat) (s : State) (h : Frame fm s0 s) :
    FrameO fm s0 (execSlotVerifyTimeout stn s) := by
  unfold execSlotVerifyTimeout
  repeat' (first | with_reducible apply FrameO.act | with_reducible apply FrameO.ok | with_reducible apply FrameO.ite | exact Sub.trans (by decide) hm | intro _ | with_reducible assumption | with_reducible apply modSpine_frame | with_reducible apply verifyFail_frame | with_reducible apply Frame.ite | extract_lets | split)

theorem execStationWindowRead_frame {fm : Nat} {s0 : State} (hm : Sub 0x3b fm) (id addr : Nat) (peek : Bool) (s : State) (h : Frame fm s0 s) :
    FrameO fm s0 (execStationWindowRead id addr peek s) := by
  unfold execStationWindowRead
  repeat' (first | with_reducible apply FrameO.act | with_reducible apply FrameO.ok | with_reducible apply FrameO.ite | exact Sub.trans (by decide) hm | intro _ | with_reducible assumption | with_reducible apply presentAnswer_frame | with_reducible refine Frame.pair ‹_› ?_ | with_reducible apply presentRead_frame | with_reducible apply State.readGate_frame | with_reducible apply stationRead_frame | with_reducible apply Frame.ite | split)

theorem execStationWindowWrite_frame {fm : Nat} {s0 : State} (hm : Sub 0x233 fm) (id addr value : Nat) (s : State) (h : Frame fm s0 s) :
    FrameO fm s0 (execStationWindowWrite id addr value s) := by
  unfold execStationWindowWrite
  repeat' (first | with_reducible apply FrameO.act | with_reducible apply FrameO.ok | with_reducible apply FrameO.ite | exact Sub.trans (by decide) hm | intro _ | with_reducible assumption | with_reducible apply State.gate_frame | with_reducible apply stationWrite_frame | with_reducible apply Frame.ite | split)

theorem execStationUpstreamSend_frame {fm : Nat} {s0 : State} (hm : Sub 0x91 fm) (stn n : Nat) (s : State) (h : Frame fm s0 s) :
    FrameO fm s0 (execStationUpstreamSend stn n s) := by
  unfold execStationUpstreamSend
  repeat' (first | with_reducible apply FrameO.act | with_reducible apply FrameO.ok | with_reducible apply FrameO.ite | exact Sub.trans (by decide) hm | intro _ | with_reducible assumption | with_reducible apply losslessRelease_frame | with_reducible apply modStn_frame | with_reducible apply releaseOvf_frame | with_reducible apply Frame.ite | extract_lets | split)

theorem execUpstreamFlitError_frame {fm : Nat} {s0 : State} (hm : Sub 0x32befbd fm) (rib slot flit : Nat) (s : State) (h : Frame fm s0 s) :
    FrameO fm s0 (execUpstreamFlitError rib slot flit s) := by
  unfold execUpstreamFlitError
  repeat' (first | with_reducible apply FrameO.act | with_reducible apply FrameO.ok | with_reducible apply FrameO.ite | exact Sub.trans (by decide) hm | intro _ | with_reducible assumption | with_reducible apply dropUp_frame | with_reducible apply State.fsat_frame | with_reducible apply ribErrors_frame | with_reducible apply Frame.ite | extract_lets | split)

theorem execStationDownstreamError_frame {fm : Nat} {s0 : State} (hm : Sub 0x11 fm) (got : DownFlit) (s : State) (h : Frame fm s0 s) :
    FrameO fm s0 (execStationDownstreamError got s) := by
  unfold execStationDownstreamError
  repeat' (first | with_reducible apply FrameO.act | with_reducible apply FrameO.ok | with_reducible apply FrameO.ite | exact Sub.trans (by decide) hm | intro _ | with_reducible assumption | with_reducible apply downErrors_frame | with_reducible apply modStn_frame | with_reducible apply Frame.ite | extract_lets | split)

theorem execStationSlotCollision_frame {fm : Nat} {s0 : State} (hm : Sub 0x11 fm) (stn : Nat) (s : State) (h : Frame fm s0 s) :
    FrameO fm s0 (execStationSlotCollision stn s) := by
  unfold execStationSlotCollision
  repeat' (first | with_reducible apply FrameO.act | with_reducible apply FrameO.ok | with_reducible apply FrameO.ite | exact Sub.trans (by decide) hm | intro _ | with_reducible assumption | with_reducible apply State.fsat_frame | with_reducible apply modStn_frame | with_reducible apply pcStation_frame | with_reducible apply Frame.ite | extract_lets | split)

theorem execNetErrNoteSend_frame {fm : Nat} {s0 : State} (hm : Sub 0x10 fm) (stn : Nat) (s : State) (h : Frame fm s0 s) :
    FrameO fm s0 (execNetErrNoteSend stn s) := by
  unfold execNetErrNoteSend
  repeat' (first | with_reducible apply FrameO.act | with_reducible apply FrameO.ok | with_reducible apply FrameO.ite | exact Sub.trans (by decide) hm | intro _ | with_reducible assumption | with_reducible apply sendNote_frame | with_reducible apply setStn_frame | with_reducible apply Frame.ite | extract_lets | split)

theorem execNetErrNoteArrival_frame {fm : Nat} {s0 : State} (hm : Sub 0x32bffbd fm) (stn : Nat) (s : State) (h : Frame fm s0 s) :
    FrameO fm s0 (execNetErrNoteArrival stn s) := by
  unfold execNetErrNoteArrival
  repeat' (first | with_reducible apply FrameO.act | with_reducible apply FrameO.ok | with_reducible apply FrameO.ite | exact Sub.trans (by decide) hm | intro _ | with_reducible assumption | with_reducible refine takeNote_frame ?_ _ _ _ ‹_› ?_ | with_reducible apply State.fs_frame | with_reducible apply State.fsat_frame | with_reducible apply lateEpoch_frame | with_reducible apply ribErrors_frame | with_reducible apply Frame.ite | extract_lets | split)

theorem execIsolationAssert_frame {fm : Nat} {s0 : State} (hm : Sub 0x29 fm) (seam : Bool) (point : Nat) (s : State) (h : Frame fm s0 s) :
    FrameO fm s0 (execIsolationAssert seam point s) := by
  unfold execIsolationAssert
  repeat' (first | with_reducible apply FrameO.ok | with_reducible apply FrameO.ite | exact Sub.trans (by decide) hm | intro _ | with_reducible assumption | with_reducible apply modRib_frame | with_reducible apply setIso_frame | with_reducible apply showIso_frame | with_reducible apply Frame.ite | with_reducible apply Frame.foldl | extract_lets | split)

theorem execIsolationRelease_frame {fm : Nat} {s0 : State} (hm : Sub 0x29 fm) (seam : Bool) (point : Nat) (s : State) (h : Frame fm s0 s) :
    FrameO fm s0 (execIsolationRelease seam point s) := by
  unfold execIsolationRelease
  repeat' (first | with_reducible apply FrameO.ok | with_reducible apply FrameO.ite | exact Sub.trans (by decide) hm | intro _ | with_reducible assumption | with_reducible apply releaseRib_frame | with_reducible apply setIso_frame | with_reducible apply showIso_frame | with_reducible apply Frame.ite | with_reducible apply Frame.foldl | extract_lets | split)

theorem execRestorationTimeout_frame {fm : Nat} {s0 : State} (hm : Sub 0x1010c31 fm) (rib : Nat) (s : State) (h : Frame fm s0 s) :
    FrameO fm s0 (execRestorationTimeout rib s) := by
  unfold execRestorationTimeout
  repeat' (first | with_reducible apply FrameO.act | with_reducible apply FrameO.ok | with_reducible apply FrameO.ite | exact Sub.trans (by decide) hm | intro _ | with_reducible assumption | with_reducible apply degradeRib_frame | with_reducible apply Frame.ite | extract_lets | split)

theorem execCaneTrain_frame {fm : Nat} {s0 : State} (hm : Sub 0x21 fm) (id : Nat) (s : State) (h : Frame fm s0 s) :
    FrameO fm s0 (execCaneTrain id s) := by
  unfold execCaneTrain
  repeat' (first | with_reducible apply FrameO.act | with_reducible apply FrameO.ok | exact Sub.trans (by decide) hm | intro _ | with_reducible assumption | with_reducible apply caneTrain_frame | with_reducible apply State.gate_frame)

theorem execCaneRetrain_frame {fm : Nat} {s0 : State} (hm : Sub 0x32befbf fm) (id rib : Nat) (s : State) (h : Frame fm s0 s) :
    FrameO fm s0 (execCaneRetrain id rib s) := by
  unfold execCaneRetrain
  repeat' (first | with_reducible apply FrameO.act | with_reducible apply FrameO.ok | exact Sub.trans (by decide) hm | intro _ | with_reducible assumption | with_reducible apply caneRetrain_frame | with_reducible apply State.gate_frame)

theorem execTrainingComplete_frame {fm : Nat} {s0 : State} (hm : Sub 0x32befbd fm) (rib : Nat) (trips : List Nat) (parityOk : Bool) (s : State) (h : Frame fm s0 s) :
    FrameO fm s0 (execTrainingComplete rib trips parityOk s) := by
  unfold execTrainingComplete
  repeat' (first | with_reducible apply FrameO.act | with_reducible apply FrameO.ok | with_reducible apply FrameO.ite | exact Sub.trans (by decide) hm | intro _ | with_reducible assumption | with_reducible apply degradeRib_frame | with_reducible apply State.fs_frame | with_reducible apply modRib_frame | with_reducible apply retrained_frame | with_reducible apply tEndMismatch_frame | with_reducible apply trainingEnds_frame | with_reducible apply Frame.ite | extract_lets | split)

theorem execCaneEnable_frame {fm : Nat} {s0 : State} (hm : Sub 0x1010cb1 fm) (id : Nat) (s : State) (h : Frame fm s0 s) :
    FrameO fm s0 (execCaneEnable id s) := by
  unfold execCaneEnable
  repeat' (first | with_reducible apply FrameO.act | with_reducible apply FrameO.ok | exact Sub.trans (by decide) hm | intro _ | with_reducible assumption | with_reducible apply caneEnable_frame | with_reducible apply State.gate_frame)

theorem execCaneDisable_frame {fm : Nat} {s0 : State} (hm : Sub 0x21 fm) (id : Nat) (s : State) (h : Frame fm s0 s) :
    FrameO fm s0 (execCaneDisable id s) := by
  unfold execCaneDisable
  repeat' (first | with_reducible apply FrameO.act | with_reducible apply FrameO.ok | exact Sub.trans (by decide) hm | intro _ | with_reducible assumption | with_reducible apply caneDisable_frame | with_reducible apply State.gate_frame)

theorem execFramesStop_frame {fm : Nat} {s0 : State} (hm : Sub 0x32bffbf fm) (s : State) (h : Frame fm s0 s) :
    FrameO fm s0 (execFramesStop s) := by
  unfold execFramesStop
  repeat' (first | with_reducible apply FrameO.act | with_reducible apply FrameO.ok | with_reducible apply FrameO.ite | exact Sub.trans (by decide) hm | intro _ | with_reducible assumption | with_reducible apply enterPass_frame | with_reducible apply showLoaded_frame | with_reducible apply stopFrames_frame | with_reducible apply Frame.ite | with_reducible apply Frame.foldl | extract_lets | split)

theorem execFrameBoundary_frame {fm : Nat} {s0 : State} (hm : Sub 0x32bffbf fm) (echoes : List (Nat × Nat)) (s : State) (h : Frame fm s0 s) :
    FrameO fm s0 (execFrameBoundary echoes s) := by
  unfold execFrameBoundary
  repeat' (first | with_reducible apply FrameO.act | with_reducible apply FrameO.ok | with_reducible apply FrameO.ite | exact Sub.trans (by decide) hm | intro _ | with_reducible assumption | with_reducible apply deadlineFrame_frame | with_reducible apply lehrRun_frame | with_reducible apply modSpine_frame | with_reducible apply modStn_frame | with_reducible apply sendAction_frame | with_reducible apply settleGone_frame | with_reducible apply showApplied_frame | with_reducible apply startSubst_frame | with_reducible apply striaFrame_frame | with_reducible apply takeEcho_frame | with_reducible apply waitsFrame_frame | with_reducible apply State.wr64_frame | with_reducible apply Frame.ite | with_reducible apply Frame.foldl | extract_lets | split)

theorem execStationSlotLoad_frame {fm : Nat} {s0 : State} (hm : Sub 0x91 fm) (stn : Nat) (s : State) (h : Frame fm s0 s) :
    FrameO fm s0 (execStationSlotLoad stn s) := by
  unfold execStationSlotLoad
  repeat' (first | with_reducible apply FrameO.act | with_reducible apply FrameO.ok | exact Sub.trans (by decide) hm | intro _ | with_reducible assumption | with_reducible refine takeInbox_frame ?_ _ _ _ _ ‹_› ?_ | with_reducible apply installPort_frame | with_reducible apply loadTables_frame | with_reducible apply restoreStation_frame | with_reducible apply State.when_frame | with_reducible apply Frame.when | with_reducible apply Frame.foldl | extract_lets | split)

/-! ### Domain -/

theorem modClk_frame {fm : Nat} {s0 : State} (hm : Sub 0x4 fm) (f : ClockState → ClockState) (s : State) (h : Frame fm s0 s) :
    Frame fm s0 ((modClk f s)) := by
  unfold modClk
  repeat' (first | exact Sub.trans (by decide) hm | intro _ | with_reducible assumption | (simp only [Frame_mk]; first | with_reducible apply FrameC.clk_upd) | extract_lets)

theorem modPins_frame {fm : Nat} {s0 : State} (hm : Sub 0x8 fm) (f : PinState → PinState) (s : State) (h : Frame fm s0 s) :
    Frame fm s0 ((modPins f s)) := by
  unfold modPins
  repeat' (first | exact Sub.trans (by decide) hm | intro _ | with_reducible assumption | (simp only [Frame_mk]; first | with_reducible apply FrameC.pins_upd) | extract_lets)

theorem coldCell_frame {fm : Nat} {s0 : State} (hm : Sub 0x1010c31 fm) (n : Nat) (s : State) (h : Frame fm s0 s) :
    Frame fm s0 ((coldCell n s)) := by
  unfold coldCell
  repeat' (first | exact Sub.trans (by decide) hm | intro _ | with_reducible assumption | with_reducible apply abandonUp_frame | with_reducible apply discardUp_frame | with_reducible apply setStn_frame | with_reducible apply Frame.foldl | (simp only [Frame_mk]; first | with_reducible apply FrameC.regs_upd) | extract_lets)

theorem warmCell_frame {fm : Nat} {s0 : State} (hm : Sub 0x91 fm) (n : Nat) (s : State) (h : Frame fm s0 s) :
    Frame fm s0 ((warmCell n s)) := by
  unfold warmCell
  repeat' (first | exact Sub.trans (by decide) hm | intro _ | with_reducible assumption | with_reducible apply State.fs_frame | with_reducible apply modStn_frame | with_reducible apply portUp_frame | with_reducible apply Frame.ite | with_reducible apply Frame.foldl | extract_lets | split)

theorem abandonOtp_frame {fm : Nat} {s0 : State} (hm : Sub 0x3fbefbd fm) (s : State) (h : Frame fm s0 s) :
    Frame fm s0 ((abandonOtp s)) := by
  unfold abandonOtp
  repeat' (first | exact Sub.trans (by decide) hm | intro _ | with_reducible assumption | with_reducible refine Frame.pair ‹_› ?_ | with_reducible apply State.free_frame | with_reducible apply otpStore_frame | with_reducible apply randomKey_frame | with_reducible apply Frame.refl | with_reducible apply Frame.ite | with_reducible apply Frame.when | with_reducible apply Frame.foldl | (simp only [Frame_mk]; first | with_reducible apply FrameC.otp_upd) | extract_lets | split | (show Memory.wf [] = true; rfl) | (apply memPutBytes_wf; assumption) | (apply ringPut_wf; assumption) | (show Memory.wf _ = true; assumption) | (dsimp +zetaDelta only))

theorem coldReset_frame {fm : Nat} {s0 : State} (hm : Sub 0x3ffffff fm) (s : State) (h : Frame fm s0 s) :
    Frame fm s0 ((coldReset s)) := by
  unfold coldReset
  have k := abandonOtp_frame (Sub.trans (by decide) hm) s h
  exact ⟨k.pending, fun hz => absurd (Sub.bit (Sub.trans (by decide) hm) hz) (by decide : ¬ 0x1 = 0), fun hz => absurd (Sub.bit (Sub.trans (by decide) hm) hz) (by decide : ¬ 0x2 = 0), fun hz => absurd (Sub.bit (Sub.trans (by decide) hm) hz) (by decide : ¬ 0x4 = 0), fun hz => absurd (Sub.bit (Sub.trans (by decide) hm) hz) (by decide : ¬ 0x8 = 0), fun hz => absurd (Sub.bit (Sub.trans (by decide) hm) hz) (by decide : ¬ 0x10 = 0), fun hz => absurd (Sub.bit (Sub.trans (by decide) hm) hz) (by decide : ¬ 0x20 = 0), fun hz => absurd (Sub.bit (Sub.trans (by decide) hm) hz) (by decide : ¬ 0x40 = 0), fun hz => absurd (Sub.bit (Sub.trans (by decide) hm) hz) (by decide : ¬ 0x80 = 0), fun hz => absurd (Sub.bit (Sub.trans (by decide) hm) hz) (by decide : ¬ 0x100 = 0), fun hz => absurd (Sub.bit (Sub.trans (by decide) hm) hz) (by decide : ¬ 0x200 = 0), fun hz => absurd (Sub.bit (Sub.trans (by decide) hm) hz) (by decide : ¬ 0x400 = 0), fun hz => absurd (Sub.bit (Sub.trans (by decide) hm) hz) (by decide : ¬ 0x800 = 0), fun hz => absurd (Sub.bit (Sub.trans (by decide) hm) hz) (by decide : ¬ 0x1000 = 0), fun hz => absurd (Sub.bit (Sub.trans (by decide) hm) hz) (by decide : ¬ 0x2000 = 0), fun hz => absurd (Sub.bit (Sub.trans (by decide) hm) hz) (by decide : ¬ 0x4000 = 0), fun hz => absurd (Sub.bit (Sub.trans (by decide) hm) hz) (by decide : ¬ 0x8000 = 0), fun hz => absurd (Sub.bit (Sub.trans (by decide) hm) hz) (by decide : ¬ 0x10000 = 0), fun hz => absurd (Sub.bit (Sub.trans (by decide) hm) hz) (by decide : ¬ 0x20000 = 0), fun hz => absurd (Sub.bit (Sub.trans (by decide) hm) hz) (by decide : ¬ 0x40000 = 0), fun hz => absurd (Sub.bit (Sub.trans (by decide) hm) hz) (by decide : ¬ 0x80000 = 0), fun hz => absurd (Sub.bit (Sub.trans (by decide) hm) hz) (by decide : ¬ 0x100000 = 0), fun hz => absurd (Sub.bit (Sub.trans (by decide) hm) hz) (by decide : ¬ 0x200000 = 0), k.otp, fun hz => absurd (Sub.bit (Sub.trans (by decide) hm) hz) (by decide : ¬ 0x800000 = 0), fun hz => absurd (Sub.bit (Sub.trans (by decide) hm) hz) (by decide : ¬ 0x1000000 = 0), k.fresh, fun _ => rfl⟩

theorem takeStraps_frame {fm : Nat} {s0 : State} (hm : Sub 0x9 fm) (scope prio : Bool) (s : State) (h : Frame fm s0 s) :
    Frame fm s0 ((takeStraps scope prio s)) := by
  unfold takeStraps
  repeat' (first | exact Sub.trans (by decide) hm | intro _ | with_reducible assumption | with_reducible apply State.fs_frame | with_reducible apply loadReheat_frame | with_reducible apply modPins_frame | extract_lets)

theorem dropWarmRegs_frame {fm : Nat} {s0 : State} (hm : Sub 0x3fbffbf fm) (s : State) (h : Frame fm s0 s) :
    Frame fm s0 ((dropWarmRegs s)) := by
  unfold dropWarmRegs
  repeat' (first | exact Sub.trans (by decide) hm | intro _ | with_reducible assumption | with_reducible apply warmReset_frame | (simp only [Frame_mk]; first | with_reducible apply FrameC.regs_upd) | extract_lets | split)

theorem releaseLocks_frame {fm : Nat} {s0 : State} (hm : Sub 0x1 fm) (s : State) (h : Frame fm s0 s) :
    Frame fm s0 ((releaseLocks s)) := by
  unfold releaseLocks
  repeat' (first | exact Sub.trans (by decide) hm | intro _ | with_reducible assumption | with_reducible apply State.fs_frame)

theorem warmTrace_frame {fm : Nat} {s0 : State} (hm : Sub 0x491 fm) (s : State) (h : Frame fm s0 s) :
    Frame fm s0 ((warmTrace s)) := by
  unfold warmTrace
  repeat' (first | exact Sub.trans (by decide) hm | intro _ | with_reducible assumption | with_reducible apply disarmSeq_frame | with_reducible apply State.fs_frame | with_reducible apply State.fsat_frame | with_reducible apply modTrc_frame | with_reducible apply releaseHold_frame | with_reducible apply Frame.ite | with_reducible apply Frame.foldl | extract_lets | split | (show Memory.wf [] = true; rfl) | (show Memory.wf _ = true; assumption))

theorem endServices_frame {fm : Nat} {s0 : State} (hm : Sub 0x32bffbd fm) (s : State) (h : Frame fm s0 s) :
    Frame fm s0 ((endServices s)) := by
  unfold endServices
  repeat' (first | exact Sub.trans (by decide) hm | intro _ | with_reducible assumption | with_reducible apply dropGather_frame | with_reducible apply endReadout_frame | with_reducible apply State.fs_frame | with_reducible apply modCtr_frame | with_reducible apply modCullet_frame | with_reducible apply modSpine_frame | with_reducible apply modStria_frame | with_reducible apply showCtrBusy_frame | with_reducible apply warmCont_frame | with_reducible apply warmEpoch_frame | with_reducible apply warmLadder_frame | with_reducible apply warmLehr_frame | with_reducible apply warmNotice_frame | with_reducible apply warmRings_frame | with_reducible apply Frame.ite | extract_lets | split | (show Memory.wf [] = true; rfl) | (show Memory.wf _ = true; assumption))

theorem warmCane_frame {fm : Nat} {s0 : State} (hm : Sub 0x32bffbf fm) (s : State) (h : Frame fm s0 s) :
    Frame fm s0 ((warmCane s)) := by
  unfold warmCane
  repeat' (first | exact Sub.trans (by decide) hm | intro _ | with_reducible assumption | with_reducible apply modSpine_frame | with_reducible apply shearDisable_frame | with_reducible apply stopFrames_frame | extract_lets)

theorem showRibs_frame {fm : Nat} {s0 : State} (hm : Sub 0x1 fm) (s : State) (h : Frame fm s0 s) :
    Frame fm s0 ((showRibs s)) := by
  unfold showRibs
  repeat' (first | exact Sub.trans (by decide) hm | intro _ | with_reducible assumption | with_reducible apply State.fs_frame | with_reducible apply Frame.foldl)

theorem warmPorts_frame {fm : Nat} {s0 : State} (hm : Sub 0x2000a fm) (s : State) (h : Frame fm s0 s) :
    Frame fm s0 ((warmPorts s)) := by
  unfold warmPorts
  repeat' (first | exact Sub.trans (by decide) hm | intro _ | with_reducible assumption | with_reducible apply modPins_frame | (simp only [Frame_mk]; first | with_reducible apply FrameC.bus_upd | with_reducible apply FrameC.wide_upd | with_reducible apply FrameC.bus_wide_upd) | extract_lets)

theorem warmReset_frame {fm : Nat} {s0 : State} (hm : Sub 0x3fbffbf fm) (s : State) (h : Frame fm s0 s) :
    Frame fm s0 ((warmReset s)) := by
  unfold warmReset
  repeat' (first | exact Sub.trans (by decide) hm | intro _ | with_reducible assumption | with_reducible apply abandonOtp_frame | with_reducible apply clearMailboxes_frame | with_reducible apply dropWarmRegs_frame | with_reducible apply endCustodian_frame | with_reducible apply endServices_frame | with_reducible apply State.fs_frame | with_reducible apply releaseLocks_frame | with_reducible apply resetPort_frame | with_reducible apply showIso_frame | with_reducible apply showLoaded_frame | with_reducible apply showRibs_frame | with_reducible apply warmCane_frame | with_reducible apply warmGaffer_frame | with_reducible apply warmPorts_frame | with_reducible apply warmSlot_frame | with_reducible apply warmTrace_frame | extract_lets)

theorem warmAssert_frame {fm : Nat} {s0 : State} (hm : Sub 0x3fbffbf fm) (s : State) (h : Frame fm s0 s) :
    Frame fm s0 ((warmAssert s)) := by
  unfold warmAssert
  repeat' (first | exact Sub.trans (by decide) hm | intro _ | with_reducible assumption | with_reducible apply modClk_frame | with_reducible apply warmReset_frame | with_reducible apply Frame.ite | extract_lets | split)

theorem warmRelease_frame {fm : Nat} {s0 : State} (hm : Sub 0x5 fm) (s : State) (h : Frame fm s0 s) :
    Frame fm s0 ((warmRelease s)) := by
  unfold warmRelease
  repeat' (first | exact Sub.trans (by decide) hm | intro _ | with_reducible assumption | with_reducible apply State.fs_frame | with_reducible apply State.fsat_frame | with_reducible apply modClk_frame | with_reducible apply State.wr64_frame | extract_lets)

theorem execCellColdResetAssert_frame {fm : Nat} {s0 : State} (hm : Sub 0x1010c31 fm) (stn : Nat) (s : State) (h : Frame fm s0 s) :
    FrameO fm s0 (execCellColdResetAssert stn s) := by
  unfold execCellColdResetAssert
  repeat' (first | with_reducible apply FrameO.ok | with_reducible apply FrameO.ite | exact Sub.trans (by decide) hm | intro _ | with_reducible assumption | with_reducible apply coldCell_frame | with_reducible apply modStn_frame | with_reducible apply showLoaded_frame | with_reducible apply Frame.ite | extract_lets | split)

theorem execCellColdResetRelease_frame {fm : Nat} {s0 : State} (hm : Sub 0x91 fm) (stn : Nat) (s : State) (h : Frame fm s0 s) :
    FrameO fm s0 (execCellColdResetRelease stn s) := by
  unfold execCellColdResetRelease
  repeat' (first | with_reducible apply FrameO.ok | with_reducible apply FrameO.ite | exact Sub.trans (by decide) hm | intro _ | with_reducible assumption | with_reducible apply modStn_frame | with_reducible apply warmCell_frame | with_reducible apply Frame.ite | extract_lets | split)

theorem execHubColdAssert_frame {fm : Nat} {s0 : State} (hm : Sub 0x3ffffff fm) (s : State) (h : Frame fm s0 s) :
    FrameO fm s0 (execHubColdAssert s) := by
  unfold execHubColdAssert
  repeat' (first | with_reducible apply FrameO.ok | exact Sub.trans (by decide) hm | intro _ | with_reducible assumption | with_reducible apply coldReset_frame)

theorem execHubColdRelease_frame {fm : Nat} {s0 : State} (hm : Sub 0x9d fm) (scope prio scan : Bool) (s : State) (h : Frame fm s0 s) :
    FrameO fm s0 (execHubColdRelease scope prio scan s) := by
  unfold execHubColdRelease
  repeat' (first | with_reducible apply FrameO.ok | with_reducible apply FrameO.ite | with_reducible apply FrameO.fault | exact Sub.trans (by decide) hm | intro _ | with_reducible assumption | with_reducible apply State.fs_frame | with_reducible apply modClk_frame | with_reducible apply showIso_frame | with_reducible apply takeStraps_frame | with_reducible apply warmCell_frame | with_reducible apply Frame.ite | with_reducible apply Frame.foldl | extract_lets | split)

theorem execHubWarmAssert_frame {fm : Nat} {s0 : State} (hm : Sub 0x3fbffbf fm) (s : State) (h : Frame fm s0 s) :
    FrameO fm s0 (execHubWarmAssert s) := by
  unfold execHubWarmAssert
  repeat' (first | with_reducible apply FrameO.act | with_reducible apply FrameO.ok | with_reducible apply FrameO.ite | exact Sub.trans (by decide) hm | intro _ | with_reducible assumption | with_reducible apply modClk_frame | with_reducible apply warmAssert_frame | with_reducible apply Frame.ite | extract_lets | split)

theorem execHubWarmRelease_frame {fm : Nat} {s0 : State} (hm : Sub 0x5 fm) (s : State) (h : Frame fm s0 s) :
    FrameO fm s0 (execHubWarmRelease s) := by
  unfold execHubWarmRelease
  repeat' (first | with_reducible apply FrameO.act | with_reducible apply FrameO.ok | with_reducible apply FrameO.ite | exact Sub.trans (by decide) hm | intro _ | with_reducible assumption | with_reducible apply modClk_frame | with_reducible apply warmRelease_frame | with_reducible apply Frame.ite | extract_lets | split)

theorem execWarmWindowReopen_frame {fm : Nat} {s0 : State} (hm : Sub 0x5 fm) (s : State) (h : Frame fm s0 s) :
    FrameO fm s0 (execWarmWindowReopen s) := by
  unfold execWarmWindowReopen
  repeat' (first | with_reducible apply FrameO.act | with_reducible apply FrameO.ok | with_reducible apply FrameO.ite | exact Sub.trans (by decide) hm | intro _ | with_reducible assumption | with_reducible apply modClk_frame | with_reducible apply warmRelease_frame | with_reducible apply Frame.ite | extract_lets | split)

theorem execOtpStartupReadDone_frame {fm : Nat} {s0 : State} (hm : Sub 0x3fbffbf fm) (s : State) (h : Frame fm s0 s) :
    FrameO fm s0 (execOtpStartupReadDone s) := by
  unfold execOtpStartupReadDone
  repeat' (first | with_reducible apply FrameO.act | with_reducible apply FrameO.ok | with_reducible apply FrameO.ite | exact Sub.trans (by decide) hm | intro _ | with_reducible assumption | with_reducible apply State.fs_frame | with_reducible apply modClk_frame | with_reducible apply showOtp_frame | with_reducible apply warmAssert_frame | with_reducible apply warmRelease_frame | with_reducible apply Frame.ite | with_reducible apply Frame.foldl | extract_lets | split)

theorem execHubRootClkStop_frame {fm : Nat} {s0 : State} (hm : Sub 0x4 fm) (s : State) (h : Frame fm s0 s) :
    FrameO fm s0 (execHubRootClkStop s) := by
  unfold execHubRootClkStop
  repeat' (first | with_reducible apply FrameO.ok | with_reducible apply FrameO.ite | exact Sub.trans (by decide) hm | intro _ | with_reducible assumption | with_reducible apply modClk_frame | with_reducible apply Frame.ite | extract_lets | split)

theorem execHubAliveToggle_frame {fm : Nat} {s0 : State} (hm : Sub 0xc fm) (s : State) (h : Frame fm s0 s) :
    FrameO fm s0 (execHubAliveToggle s) := by
  unfold execHubAliveToggle
  repeat' (first | with_reducible apply FrameO.act | with_reducible apply FrameO.ok | with_reducible apply FrameO.ite | exact Sub.trans (by decide) hm | intro _ | with_reducible assumption | with_reducible apply modClk_frame | with_reducible apply modPins_frame | with_reducible apply Frame.ite | extract_lets | split)

theorem execFabricMessageDiscard_frame {fm : Nat} {s0 : State} (hm : Sub 0x0 fm) (s : State) (h : Frame fm s0 s) :
    FrameO fm s0 (execFabricMessageDiscard s) := by
  unfold execFabricMessageDiscard
  repeat' (first | with_reducible apply FrameO.awake | with_reducible apply FrameO.ok | exact Sub.trans (by decide) hm | intro _ | with_reducible assumption)

/-! ### Masters -/

theorem readHub_frame {fm : Nat} {s0 : State} (hm : Sub 0x2800003 fm) (id a : Nat) (r : RegRow) (peek : Bool) (s : State) (h : Frame fm s0 s) :
    Frame fm s0 ((readHub id a r peek s).2) := by
  unfold readHub
  repeat' (first | exact Sub.trans (by decide) hm | intro _ | with_reducible assumption | with_reducible refine Frame.pair ‹_› ?_ | with_reducible apply clearRc_frame | with_reducible apply holdWide_frame | with_reducible apply readDbgData_frame | with_reducible apply readGafMem_frame | with_reducible apply Frame.ite | extract_lets | split)

theorem readDb_frame {fm : Nat} {s0 : State} (hm : Sub 0x1 fm) (id i a k : Nat) (s : State) (h : Frame fm s0 s) :
    Frame fm s0 ((readDb id i a k s).2) := by
  unfold readDb
  repeat' (first | exact Sub.trans (by decide) hm | intro _ | with_reducible assumption | with_reducible refine Frame.pair ‹_› ?_ | with_reducible apply State.readGate_frame | with_reducible apply Frame.ite | split)

theorem readPage_frame {fm : Nat} {s0 : State} (hm : Sub 0x1 fm) (id a : Nat) (s : State) (h : Frame fm s0 s) :
    Frame fm s0 ((readPage id a s).2) := by
  unfold readPage
  repeat' (first | exact Sub.trans (by decide) hm | intro _ | with_reducible assumption | with_reducible refine Frame.pair ‹_› ?_ | with_reducible apply ringRej_frame | with_reducible apply Frame.refl | with_reducible apply Frame.ite | with_reducible apply Frame.when | with_reducible apply Frame.foldl | extract_lets | split | (show Memory.wf [] = true; rfl) | (apply memPutBytes_wf; assumption) | (apply ringPut_wf; assumption) | (show Memory.wf _ = true; assumption) | (dsimp +zetaDelta only))

theorem readReg_frame {fm : Nat} {s0 : State} (hm : Sub 0x2900033 fm) (id a : Nat) (peek : Bool) (use : Nat → Nat → StnUse) (s : State) (h : Frame fm s0 s) :
    Frame fm s0 ((readReg id a peek use s).2) := by
  unfold readReg
  repeat' (first | exact Sub.trans (by decide) hm | intro _ | with_reducible assumption | with_reducible refine Frame.pair ‹_› ?_ | with_reducible apply dlPageRead_frame | with_reducible apply mbxRead_frame | with_reducible apply pageRead_frame | with_reducible apply readDb_frame | with_reducible apply State.readGate_frame | with_reducible apply readHub_frame | with_reducible apply readPage_frame | with_reducible apply stationRead_frame | with_reducible apply Frame.ite | extract_lets | split)

theorem masterRead_frame {fm : Nat} {s0 : State} (hm : Sub 0x290003b fm) (id a be : Nat) (s : State) (h : Frame fm s0 s) :
    Frame fm s0 ((masterRead id a be s)) := by
  unfold masterRead
  repeat' (first | exact Sub.trans (by decide) hm | intro _ | with_reducible assumption | with_reducible apply presentAnswer_frame | with_reducible refine Frame.pair ‹_› ?_ | with_reducible apply presentRead_frame | with_reducible apply readReg_frame | with_reducible apply Frame.ite | split)

theorem shearCtlWrite_frame {fm : Nat} {s0 : State} (hm : Sub 0x210089 fm) (v : Nat) (s : State) (h : Frame fm s0 s) :
    Frame fm s0 ((shearCtlWrite v s)) := by
  unfold shearCtlWrite
  repeat' (first | exact Sub.trans (by decide) hm | intro _ | with_reducible assumption | with_reducible apply modPins_frame | with_reducible apply plainWrite_frame | with_reducible apply shearDisable_frame | with_reducible apply shearEnable_frame | with_reducible apply State.when_frame | with_reducible apply Frame.ite | with_reducible apply Frame.when | extract_lets | split)

theorem timeCtlWrite_frame {fm : Nat} {s0 : State} (hm : Sub 0x31 fm) (v : Nat) (s : State) (h : Frame fm s0 s) :
    Frame fm s0 ((timeCtlWrite v s)) := by
  unfold timeCtlWrite
  repeat' (first | exact Sub.trans (by decide) hm | intro _ | with_reducible assumption | with_reducible apply lockTime_frame | with_reducible apply startTime_frame | with_reducible apply State.when_frame | with_reducible apply Frame.when)

theorem wideWrite_frame {fm : Nat} {s0 : State} (hm : Sub 0x1 fm) (base v : Nat) (s : State) (h : Frame fm s0 s) :
    Frame fm s0 ((wideWrite base v s)) := by
  unfold wideWrite
  repeat' (first | exact Sub.trans (by decide) hm | intro _ | with_reducible assumption | with_reducible apply State.wr64_frame | with_reducible apply writeDest_frame | with_reducible apply writeTimeInc_frame | with_reducible apply Frame.ite | split)

theorem writeSecurity_frame {fm : Nat} {s0 : State} (hm : Sub 0x3fbefbd fm) (id a v : Nat) (s : State) (h : Frame fm s0 s) :
    Frame fm s0 ((writeSecurity id a v s)) := by
  unfold writeSecurity
  repeat' (first | exact Sub.trans (by decide) hm | intro _ | with_reducible assumption | with_reducible apply lockPriv_frame | with_reducible apply plainWrite_frame | with_reducible apply rsSessEnd_frame | with_reducible apply State.when_frame | with_reducible apply writeOtpCtl_frame | with_reducible apply writePrivMap_frame | with_reducible apply writeSecCtl_frame | with_reducible apply Frame.ite | with_reducible apply Frame.when | split)

theorem writeRingReg_frame {fm : Nat} {s0 : State} (hm : Sub 0x10001 fm) (a v : Nat) (s : State) (h : Frame fm s0 s) :
    Frame fm s0 ((writeRingReg a v s)) := by
  unfold writeRingReg
  repeat' (first | exact Sub.trans (by decide) hm | intro _ | with_reducible assumption | with_reducible apply plainWrite_frame | with_reducible apply writeEqCtl_frame | with_reducible apply writeRingSetup_frame | with_reducible apply writeSqCtl_frame | with_reducible apply Frame.ite | extract_lets | split)

theorem writeNetReg_frame {fm : Nat} {s0 : State} (hm : Sub 0x32befff fm) (a v : Nat) (s : State) (h : Frame fm s0 s) :
    Frame fm s0 ((writeNetReg a v s)) := by
  unfold writeNetReg
  repeat' (first | exact Sub.trans (by decide) hm | intro _ | with_reducible assumption | with_reducible apply caneCtlWrite_frame | with_reducible apply culletGo_frame | with_reducible apply plainWrite_frame | with_reducible apply shearCtlWrite_frame | with_reducible apply shearTrig_frame | with_reducible apply slotCtlWrite_frame | with_reducible apply slotDataWrite_frame | with_reducible apply timeCtlWrite_frame | with_reducible apply State.when_frame | with_reducible apply Frame.ite | with_reducible apply Frame.when | split)

theorem writeServiceReg_frame {fm : Nat} {s0 : State} (hm : Sub 0x32bffbd fm) (a v : Nat) (s : State) (h : Frame fm s0 s) :
    Frame fm s0 ((writeServiceReg a v s)) := by
  unfold writeServiceReg
  repeat' (first | exact Sub.trans (by decide) hm | intro _ | with_reducible assumption | with_reducible apply abortDump_frame | with_reducible apply attrCtxWrite_frame | with_reducible apply ctrCtlWrite_frame | with_reducible apply ctxPolWrite_frame | with_reducible apply failCopy_frame | with_reducible apply hbCtlWrite_frame | with_reducible apply lehrStart_frame | with_reducible apply plainWrite_frame | with_reducible apply policyWrite_frame | with_reducible apply rstCtlWrite_frame | with_reducible apply rstReq_frame | with_reducible apply State.when_frame | with_reducible apply writeContCtl_frame | with_reducible apply writeDest_frame | with_reducible apply writeStreamMap_frame | with_reducible apply Frame.ite | with_reducible apply Frame.when | extract_lets | split)

theorem writeGafReg_frame {fm : Nat} {s0 : State} (hm : Sub 0x3bbefbd fm) (id a v : Nat) (s : State) (h : Frame fm s0 s) :
    Frame fm s0 ((writeGafReg id a v s)) := by
  unfold writeGafReg
  repeat' (first | exact Sub.trans (by decide) hm | intro _ | with_reducible assumption | with_reducible apply plainWrite_frame | with_reducible apply writeBlob_frame | with_reducible apply writeDbgData_frame | with_reducible apply writeGafCtl_frame | with_reducible apply writeGafDbg_frame | with_reducible apply writeGafMem_frame | with_reducible apply writePatchCtl_frame | with_reducible apply writePtbCtl_frame | with_reducible apply writePtbForce_frame | with_reducible apply writePtbParam_frame | with_reducible apply writePtbStat_frame | with_reducible apply writeUnit_frame | with_reducible apply Frame.ite | split)

theorem writeWord_frame {fm : Nat} {s0 : State} (hm : Sub 0x3fbffff fm) (id a v : Nat) (s : State) (h : Frame fm s0 s) :
    Frame fm s0 ((writeWord id a v s)) := by
  unfold writeWord
  repeat' (first | exact Sub.trans (by decide) hm | intro _ | with_reducible assumption | with_reducible apply lockBind_frame | with_reducible apply plainWrite_frame | with_reducible apply State.when_frame | with_reducible apply writeBind_frame | with_reducible apply writeGafReg_frame | with_reducible apply writeMask_frame | with_reducible apply writeNetReg_frame | with_reducible apply writeRingReg_frame | with_reducible apply writeSecurity_frame | with_reducible apply writeServiceReg_frame | with_reducible apply Frame.ite | with_reducible apply Frame.when | split)

theorem writeHub_frame {fm : Nat} {s0 : State} (hm : Sub 0x3fbffff fm) (id a : Nat) (r : RegRow) (v : Nat) (s : State) (h : Frame fm s0 s) :
    Frame fm s0 ((writeHub id a r v s)) := by
  unfold writeHub
  repeat' (first | exact Sub.trans (by decide) hm | intro _ | with_reducible assumption | with_reducible apply dropWide_frame | with_reducible apply holdWide_frame | with_reducible apply wideWrite_frame | with_reducible apply writeWord_frame | with_reducible apply Frame.ite | extract_lets | split)

theorem writeDb_frame {fm : Nat} {s0 : State} (hm : Sub 0x9 fm) (id i a k v : Nat) (s : State) (h : Frame fm s0 s) :
    Frame fm s0 ((writeDb id i a k v s)) := by
  unfold writeDb
  repeat' (first | exact Sub.trans (by decide) hm | intro _ | with_reducible assumption | with_reducible apply clearDb_frame | with_reducible apply dbGate_frame | with_reducible apply State.gate_frame | with_reducible apply plainWrite_frame | with_reducible apply writeDbMask_frame | with_reducible apply Frame.ite | split)

theorem writePage_frame {fm : Nat} {s0 : State} (hm : Sub 0x10009 fm) (id a v : Nat) (s : State) (h : Frame fm s0 s) :
    Frame fm s0 ((writePage id a v s)) := by
  unfold writePage
  repeat' (first | exact Sub.trans (by decide) hm | intro _ | with_reducible assumption | with_reducible apply dbOwner_frame | with_reducible apply eqDoorbell_frame | with_reducible apply sqDoorbell_frame | with_reducible apply Frame.ite | extract_lets | split)

theorem writeReg_frame {fm : Nat} {s0 : State} (hm : Sub 0x3fbffff fm) (id a v : Nat) (s : State) (h : Frame fm s0 s) :
    Frame fm s0 ((writeReg id a v s)) := by
  unfold writeReg
  repeat' (first | exact Sub.trans (by decide) hm | intro _ | with_reducible assumption | with_reducible apply dlPageWrite_frame | with_reducible apply State.gate_frame | with_reducible apply mbxWrite_frame | with_reducible apply reheatMark_frame | with_reducible apply stationWrite_frame | with_reducible apply stimWrite_frame | with_reducible apply trcGate_frame | with_reducible apply trcRegWrite_frame | with_reducible apply writeCustGrant_frame | with_reducible apply writeDb_frame | with_reducible apply writeHub_frame | with_reducible apply writePage_frame | with_reducible apply Frame.ite | extract_lets | split)

theorem masterWrite_frame {fm : Nat} {s0 : State} (hm : Sub 0x3fbffff fm) (id a be v : Nat) (s : State) (h : Frame fm s0 s) :
    Frame fm s0 ((masterWrite id a be v s)) := by
  unfold masterWrite
  repeat' (first | exact Sub.trans (by decide) hm | intro _ | with_reducible assumption | with_reducible apply writeReg_frame | with_reducible apply Frame.ite | split)

theorem execRegisterWrite_frame {fm : Nat} {s0 : State} (hm : Sub 0x3fbffff fm) (id addr be value : Nat) (s : State) (h : Frame fm s0 s) :
    FrameO fm s0 (execRegisterWrite id addr be value s) := by
  unfold execRegisterWrite
  repeat' (first | with_reducible apply FrameO.act | with_reducible apply FrameO.ok | exact Sub.trans (by decide) hm | intro _ | with_reducible assumption | with_reducible apply masterWrite_frame)

theorem execWideRegisterLowRead_frame {fm : Nat} {s0 : State} (hm : Sub 0x290003b fm) (id addr be : Nat) (s : State) (h : Frame fm s0 s) :
    FrameO fm s0 (execWideRegisterLowRead id addr be s) := by
  unfold execWideRegisterLowRead
  repeat' (first | with_reducible apply FrameO.act | with_reducible apply FrameO.ok | exact Sub.trans (by decide) hm | intro _ | with_reducible assumption | with_reducible apply masterRead_frame)

theorem execRcRegisterRead_frame {fm : Nat} {s0 : State} (hm : Sub 0x290003b fm) (id addr be : Nat) (s : State) (h : Frame fm s0 s) :
    FrameO fm s0 (execRcRegisterRead id addr be s) := by
  unfold execRcRegisterRead
  repeat' (first | with_reducible apply FrameO.act | with_reducible apply FrameO.ok | exact Sub.trans (by decide) hm | intro _ | with_reducible assumption | with_reducible apply masterRead_frame)

/-! ### RolsalPort -/

theorem respond_frame {fm : Nat} {s0 : State} (hm : Sub 0x1000000 fm) (code data : Nat) (s : State) (h : Frame fm s0 s) :
    Frame fm s0 ((respond code data s)) := by
  unfold respond
  repeat' (first | exact Sub.trans (by decide) hm | intro _ | with_reducible assumption | with_reducible apply modRs_frame | extract_lets)

theorem rsCount_frame {fm : Nat} {s0 : State} (hm : Sub 0x1000000 fm) (s : State) (h : Frame fm s0 s) :
    Frame fm s0 ((rsCount s)) := by
  unfold rsCount
  repeat' (first | exact Sub.trans (by decide) hm | intro _ | with_reducible assumption | with_reducible apply modRs_frame | with_reducible apply rsAccept_frame | extract_lets)

theorem rsForget_frame {fm : Nat} {s0 : State} (hm : Sub 0x1000000 fm) (s : State) (h : Frame fm s0 s) :
    Frame fm s0 ((rsForget s)) := by
  unfold rsForget
  repeat' (first | exact Sub.trans (by decide) hm | intro _ | with_reducible assumption | with_reducible apply modRs_frame | extract_lets)

theorem drainBoundary_frame {fm : Nat} {s0 : State} (hm : Sub 0x1000000 fm) (s : State) (h : Frame fm s0 s) :
    Frame fm s0 ((drainBoundary s)) := by
  unfold drainBoundary
  repeat' (first | exact Sub.trans (by decide) hm | intro _ | with_reducible assumption | with_reducible apply endDrain_frame | with_reducible apply modRs_frame | with_reducible apply Frame.ite | extract_lets | split)

theorem drainFollow_frame {fm : Nat} {s0 : State} (hm : Sub 0x1000000 fm) (s : State) (h : Frame fm s0 s) :
    Frame fm s0 ((drainFollow s)) := by
  unfold drainFollow
  repeat' (first | exact Sub.trans (by decide) hm | intro _ | with_reducible assumption | with_reducible apply drainBoundary_frame | with_reducible apply Frame.ite | split)

theorem drainStart_frame {fm : Nat} {s0 : State} (hm : Sub 0x1000000 fm) (s : State) (h : Frame fm s0 s) :
    Frame fm s0 ((drainStart s)) := by
  unfold drainStart
  repeat' (first | exact Sub.trans (by decide) hm | intro _ | with_reducible assumption | with_reducible apply drainBoundary_frame | with_reducible apply modRs_frame | with_reducible apply Frame.ite | extract_lets | split)

theorem drainStop_frame {fm : Nat} {s0 : State} (hm : Sub 0x1000000 fm) (s : State) (h : Frame fm s0 s) :
    Frame fm s0 ((drainStop s)) := by
  unfold drainStop
  repeat' (first | exact Sub.trans (by decide) hm | intro _ | with_reducible assumption | with_reducible apply drainBoundary_frame | with_reducible apply modRs_frame | with_reducible apply Frame.ite | extract_lets | split)

theorem writeDrnCtl_frame {fm : Nat} {s0 : State} (hm : Sub 0x1000000 fm) (v : Nat) (s : State) (h : Frame fm s0 s) :
    Frame fm s0 ((writeDrnCtl v s)) := by
  unfold writeDrnCtl
  repeat' (first | exact Sub.trans (by decide) hm | intro _ | with_reducible assumption | with_reducible apply drainStart_frame | with_reducible apply drainStop_frame | with_reducible apply modRs_frame | with_reducible apply Frame.ite | extract_lets | split)

theorem drainWord_frame {fm : Nat} {s0 : State} (hm : Sub 0x1000000 fm) (s : State) (h : Frame fm s0 s) :
    Frame fm s0 ((drainWord s).2) := by
  unfold drainWord
  repeat' (first | exact Sub.trans (by decide) hm | intro _ | with_reducible assumption | with_reducible refine Frame.pair ‹_› ?_ | with_reducible apply drainFollow_frame | with_reducible apply Frame.ite | extract_lets | split)

theorem drainConsume_frame {fm : Nat} {s0 : State} (hm : Sub 0x1000401 fm) (s : State) (h : Frame fm s0 s) :
    Frame fm s0 ((drainConsume s)) := by
  unfold drainConsume
  repeat' (first | exact Sub.trans (by decide) hm | intro _ | with_reducible assumption | with_reducible apply drainBoundary_frame | with_reducible apply freeDrained_frame | with_reducible apply modRs_frame | with_reducible apply modTrc_frame | with_reducible apply showTrcPtrs_frame | with_reducible apply Frame.ite | extract_lets | split | (show Memory.wf _ = true; assumption))

theorem readRsErr_frame {fm : Nat} {s0 : State} (hm : Sub 0x1000000 fm) (s : State) (h : Frame fm s0 s) :
    Frame fm s0 ((readRsErr s).2) := by
  unfold readRsErr
  repeat' (first | exact Sub.trans (by decide) hm | intro _ | with_reducible assumption | with_reducible refine Frame.pair ‹_› ?_ | with_reducible apply modRs_frame | extract_lets)

theorem readWin0_frame {fm : Nat} {s0 : State} (hm : Sub 0x1000000 fm) (reg : Nat) (s : State) (h : Frame fm s0 s) :
    Frame fm s0 ((readWin0 reg s).2) := by
  unfold readWin0
  repeat' (first | exact Sub.trans (by decide) hm | intro _ | with_reducible assumption | with_reducible refine Frame.pair ‹_› ?_ | with_reducible apply readRsErr_frame | with_reducible apply Frame.ite | extract_lets | split)

theorem rsCancel_frame {fm : Nat} {s0 : State} (hm : Sub 0x1000000 fm) (s : State) (h : Frame fm s0 s) :
    Frame fm s0 ((rsCancel s)) := by
  unfold rsCancel
  repeat' (first | exact Sub.trans (by decide) hm | intro _ | with_reducible assumption | with_reducible apply rsAbandon_frame | with_reducible apply Frame.ite | split)

theorem writeWin0_frame {fm : Nat} {s0 : State} (hm : Sub 0x3bbefbd fm) (reg v : Nat) (s : State) (h : Frame fm s0 s) :
    Frame fm s0 ((writeWin0 reg v s)) := by
  unfold writeWin0
  repeat' (first | exact Sub.trans (by decide) hm | intro _ | with_reducible assumption | with_reducible apply authIn_frame | with_reducible apply authRenew_frame | with_reducible apply modRs_frame | with_reducible apply rsCancel_frame | with_reducible apply writeAuthCtl_frame | with_reducible apply Frame.ite | extract_lets | split)

theorem writeP_frame {fm : Nat} {s0 : State} (hm : Sub 0x1000000 fm) (win reg v : Nat) (s : State) (h : Frame fm s0 s) :
    Frame fm s0 ((writeP win reg v s)) := by
  unfold writeP
  repeat' (first | exact Sub.trans (by decide) hm | intro _ | with_reducible assumption | with_reducible apply modRs_frame | with_reducible apply writeDrnCtl_frame | with_reducible apply Frame.ite | extract_lets | split)

theorem startC_frame {fm : Nat} {s0 : State} (hm : Sub 0x1000000 fm) (read : Bool) (win reg v : Nat) (s : State) (h : Frame fm s0 s) :
    Frame fm s0 ((startC read win reg v s)) := by
  unfold startC
  repeat' (first | exact Sub.trans (by decide) hm | intro _ | with_reducible assumption | with_reducible apply modRs_frame | extract_lets)

theorem damStep_frame {fm : Nat} {s0 : State} (hm : Sub 0x1000000 fm) (s : State) (h : Frame fm s0 s) :
    Frame fm s0 ((damStep s)) := by
  unfold damStep
  repeat' (first | exact Sub.trans (by decide) hm | intro _ | with_reducible assumption | with_reducible apply modRs_frame | with_reducible apply Frame.ite | extract_lets | split)

theorem endC_frame {fm : Nat} {s0 : State} (hm : Sub 0x1000000 fm) (a : RsAccess) (v : Nat) (s : State) (h : Frame fm s0 s) :
    Frame fm s0 ((endC a v s)) := by
  unfold endC
  repeat' (first | exact Sub.trans (by decide) hm | intro _ | with_reducible assumption | with_reducible apply damStep_frame | with_reducible apply modRs_frame | with_reducible apply Frame.ite | extract_lets | split)

theorem failC_frame {fm : Nat} {s0 : State} (hm : Sub 0x1000000 fm) (cause : Nat) (s : State) (h : Frame fm s0 s) :
    Frame fm s0 ((failC cause s)) := by
  unfold failC
  repeat' (first | exact Sub.trans (by decide) hm | intro _ | with_reducible assumption | with_reducible apply modRs_frame | with_reducible apply rsAbandon_frame | extract_lets)

theorem waitC_frame {fm : Nat} {s0 : State} (hm : Sub 0x1000000 fm) (a : RsAccess) (s : State) (h : Frame fm s0 s) :
    Frame fm s0 ((waitC a s)) := by
  unfold waitC
  repeat' (first | exact Sub.trans (by decide) hm | intro _ | with_reducible assumption | with_reducible apply modRs_frame | extract_lets)

theorem damAccess_frame {fm : Nat} {s0 : State} (hm : Sub 0x3fbffff fm) (a : RsAccess) (s : State) (h : Frame fm s0 s) :
    Frame fm s0 ((damAccess a s)) := by
  unfold damAccess
  repeat' (first | exact Sub.trans (by decide) hm | intro _ | with_reducible assumption | with_reducible refine Frame.pair ‹_› ?_ | with_reducible apply endC_frame | with_reducible apply failC_frame | with_reducible apply lineRead_frame | with_reducible apply lineWrite_frame | with_reducible apply readReg_frame | with_reducible apply waitC_frame | with_reducible apply writeReg_frame | with_reducible apply Frame.ite | extract_lets | split)

theorem gafAccess_frame {fm : Nat} {s0 : State} (hm : Sub 0x3fbffff fm) (a : RsAccess) (s : State) (h : Frame fm s0 s) :
    Frame fm s0 ((gafAccess a s)) := by
  unfold gafAccess
  repeat' (first | exact Sub.trans (by decide) hm | intro _ | with_reducible assumption | with_reducible refine Frame.pair ‹_› ?_ | with_reducible apply endC_frame | with_reducible apply readReg_frame | with_reducible apply writeReg_frame | with_reducible apply Frame.ite | extract_lets | split)

theorem performC_frame {fm : Nat} {s0 : State} (hm : Sub 0x3fbffff fm) (a : RsAccess) (s : State) (h : Frame fm s0 s) :
    Frame fm s0 ((performC a s)) := by
  unfold performC
  repeat' (first | exact Sub.trans (by decide) hm | intro _ | with_reducible assumption | with_reducible refine Frame.pair ‹_› ?_ | with_reducible apply damAccess_frame | with_reducible apply drainWord_frame | with_reducible apply endC_frame | with_reducible apply failC_frame | with_reducible apply gafAccess_frame | with_reducible apply Frame.ite | extract_lets | split)

theorem expireAcc_frame {fm : Nat} {s0 : State} (hm : Sub 0x1000000 fm) (s : State) (h : Frame fm s0 s) :
    Frame fm s0 ((expireAcc s)) := by
  unfold expireAcc
  repeat' (first | exact Sub.trans (by decide) hm | intro _ | with_reducible assumption | with_reducible apply modRs_frame | with_reducible apply rsAbandon_frame | with_reducible apply Frame.ite | extract_lets | split)

theorem portNow_frame {fm : Nat} {s0 : State} (hm : Sub 0x3bbefbd fm) (s : State) (h : Frame fm s0 s) :
    Frame fm s0 ((portNow s)) := by
  unfold portNow
  repeat' (first | exact Sub.trans (by decide) hm | intro _ | with_reducible assumption | with_reducible apply expireAcc_frame | with_reducible apply expireSession_frame)

theorem deliver_frame {fm : Nat} {s0 : State} (hm : Sub 0x1000401 fm) (s : State) (h : Frame fm s0 s) :
    Frame fm s0 ((deliver s)) := by
  unfold deliver
  repeat' (first | exact Sub.trans (by decide) hm | intro _ | with_reducible assumption | with_reducible apply drainConsume_frame | with_reducible apply modRs_frame | with_reducible apply respond_frame | with_reducible apply rsCount_frame | with_reducible apply Frame.ite | extract_lets | split)

theorem readPacket_frame {fm : Nat} {s0 : State} (hm : Sub 0x1000401 fm) (req : Nat) (s : State) (h : Frame fm s0 s) :
    Frame fm s0 ((readPacket req s)) := by
  unfold readPacket
  repeat' (first | exact Sub.trans (by decide) hm | intro _ | with_reducible assumption | with_reducible apply deliver_frame | with_reducible apply modRs_frame | with_reducible apply respond_frame | with_reducible apply rsCount_frame | with_reducible apply rsForget_frame | with_reducible apply startC_frame | with_reducible apply Frame.ite | extract_lets | split)

theorem writePacket_frame {fm : Nat} {s0 : State} (hm : Sub 0x1000000 fm) (req v : Nat) (parity : Bool) (s : State) (h : Frame fm s0 s) :
    Frame fm s0 ((writePacket req v parity s)) := by
  unfold writePacket
  repeat' (first | exact Sub.trans (by decide) hm | intro _ | with_reducible assumption | with_reducible apply modRs_frame | with_reducible apply respond_frame | with_reducible apply rsCount_frame | with_reducible apply rsForget_frame | with_reducible apply startC_frame | with_reducible apply State.when_frame | with_reducible apply writeP_frame | with_reducible apply Frame.ite | with_reducible apply Frame.when | extract_lets | split)

theorem takeRequest_frame {fm : Nat} {s0 : State} (hm : Sub 0x3bbefbd fm) (read : Bool) (req : Nat) (f : State → State) (s : State) (hf : ∀ (x0 : State), Frame fm s0 x0 → Frame fm s0 ((f x0))) (h : Frame fm s0 s) :
    Frame fm s0 ((takeRequest read req f s)) := by
  unfold takeRequest
  repeat' (first | exact Sub.trans (by decide) hm | intro _ | with_reducible assumption | with_reducible apply hf | with_reducible apply modRs_frame | with_reducible apply portNow_frame | with_reducible apply respond_frame | with_reducible apply Frame.ite | extract_lets | split)

theorem win3Write_frame {fm : Nat} {s0 : State} (hm : Sub 0x3bbefbd fm) (f : State → State) (s : State) (hf : ∀ (x0 : State), Frame fm s0 x0 → Frame fm s0 ((f x0))) (h : Frame fm s0 s) :
    Frame fm s0 ((win3Write f s)) := by
  unfold win3Write
  repeat' (first | exact Sub.trans (by decide) hm | intro _ | with_reducible assumption | with_reducible apply hf | with_reducible apply portNow_frame | with_reducible apply respond_frame | with_reducible apply rsCount_frame | with_reducible apply rsForget_frame | with_reducible apply Frame.ite | extract_lets | split)

theorem execRolsalAccessComplete_frame {fm : Nat} {s0 : State} (hm : Sub 0x3fbffff fm) (s : State) (h : Frame fm s0 s) :
    FrameO fm s0 (execRolsalAccessComplete s) := by
  unfold execRolsalAccessComplete
  repeat' (first | with_reducible apply FrameO.act | with_reducible apply FrameO.ok | with_reducible apply FrameO.ite | exact Sub.trans (by decide) hm | intro _ | with_reducible assumption | with_reducible apply performC_frame | with_reducible apply Frame.ite | extract_lets | split)

theorem execRolsalAccessTimeout_frame {fm : Nat} {s0 : State} (hm : Sub 0x1000000 fm) (s : State) (h : Frame fm s0 s) :
    FrameO fm s0 (execRolsalAccessTimeout s) := by
  unfold execRolsalAccessTimeout
  repeat' (first | with_reducible apply FrameO.act | with_reducible apply FrameO.ok | exact Sub.trans (by decide) hm | intro _ | with_reducible assumption | with_reducible apply expireAcc_frame)

theorem execRolsalReadPacket_frame {fm : Nat} {s0 : State} (hm : Sub 0x3bbefbd fm) (req : Nat) (s : State) (h : Frame fm s0 s) :
    FrameO fm s0 (execRolsalReadPacket req s) := by
  unfold execRolsalReadPacket
  repeat' (first | with_reducible apply FrameO.ok | with_reducible apply FrameO.ite | exact Sub.trans (by decide) hm | intro _ | with_reducible assumption | with_reducible refine Frame.pair ‹_› ?_ | with_reducible apply readPacket_frame | with_reducible apply readWin0_frame | with_reducible apply respond_frame | with_reducible apply rsAccept_frame | with_reducible apply takeRequest_frame | with_reducible apply Frame.ite | extract_lets | split)

theorem execRolsalWritePacket_frame {fm : Nat} {s0 : State} (hm : Sub 0x3bbefbd fm) (req value : Nat) (parity : Bool) (s : State) (h : Frame fm s0 s) :
    FrameO fm s0 (execRolsalWritePacket req value parity s) := by
  unfold execRolsalWritePacket
  repeat' (first | with_reducible apply FrameO.ok | with_reducible apply FrameO.ite | exact Sub.trans (by decide) hm | intro _ | with_reducible assumption | with_reducible apply modRs_frame | with_reducible apply respond_frame | with_reducible apply rsAccept_frame | with_reducible apply takeRequest_frame | with_reducible apply writePacket_frame | with_reducible apply writeWin0_frame | with_reducible apply Frame.ite | extract_lets | split)

theorem execRolsalCancel_frame {fm : Nat} {s0 : State} (hm : Sub 0x3bbefbd fm) (s : State) (h : Frame fm s0 s) :
    FrameO fm s0 (execRolsalCancel s) := by
  unfold execRolsalCancel
  repeat' (first | with_reducible apply FrameO.act | with_reducible apply FrameO.ok | exact Sub.trans (by decide) hm | intro _ | with_reducible assumption | with_reducible apply rsCancel_frame | with_reducible apply win0_frame)

theorem execDrainStart_frame {fm : Nat} {s0 : State} (hm : Sub 0x3bbefbd fm) (value : Nat) (s : State) (h : Frame fm s0 s) :
    FrameO fm s0 (execDrainStart value s) := by
  unfold execDrainStart
  repeat' (first | with_reducible apply FrameO.act | with_reducible apply FrameO.ok | exact Sub.trans (by decide) hm | intro _ | with_reducible assumption | with_reducible apply drainStart_frame | with_reducible apply modRs_frame | with_reducible apply win3Write_frame | extract_lets)

theorem execDrainStop_frame {fm : Nat} {s0 : State} (hm : Sub 0x3bbefbd fm) (s : State) (h : Frame fm s0 s) :
    FrameO fm s0 (execDrainStop s) := by
  unfold execDrainStop
  repeat' (first | with_reducible apply FrameO.act | with_reducible apply FrameO.ok | exact Sub.trans (by decide) hm | intro _ | with_reducible assumption | with_reducible apply drainStop_frame | with_reducible apply win3Write_frame)

theorem execDrainDataRead_frame {fm : Nat} {s0 : State} (hm : Sub 0x3bbefbd fm) (s : State) (h : Frame fm s0 s) :
    FrameO fm s0 (execDrainDataRead s) := by
  unfold execDrainDataRead
  repeat' (first | with_reducible apply FrameO.act | with_reducible apply FrameO.ok | with_reducible apply FrameO.ite | exact Sub.trans (by decide) hm | intro _ | with_reducible assumption | with_reducible apply deliver_frame | with_reducible apply portNow_frame | with_reducible apply respond_frame | with_reducible apply Frame.ite | extract_lets | split)

/-! ### DumpMaster -/

theorem rolsalBus_frame {fm : Nat} {s0 : State} (hm : Sub 0x1000002 fm) (n : Nat) (good : Bool) (v : Nat) (s : State) (h : Frame fm s0 s) :
    Frame fm s0 ((rolsalBus n good v s)) := by
  unfold rolsalBus
  repeat' (first | exact Sub.trans (by decide) hm | intro _ | with_reducible assumption | with_reducible apply rolsalAnswer_frame)

theorem lineAnswer_frame {fm : Nat} {s0 : State} (hm : Sub 0x32befbd fm) (who : Reader) (addr : Nat) (data : List Nat) (err : Bool) (s : State) (h : Frame fm s0 s) :
    Frame fm s0 ((lineAnswer who addr data err s)) := by
  unfold lineAnswer
  repeat' (first | exact Sub.trans (by decide) hm | intro _ | with_reducible assumption | with_reducible apply contLine_frame | with_reducible apply lehrLine_frame | extract_lets | split)

theorem dumpRead_frame {fm : Nat} {s0 : State} (hm : Sub 0x32befbf fm) (q : LineReq) (data : List Nat) (err : Bool) (s : State) (h : Frame fm s0 s) :
    Frame fm s0 ((dumpRead q data err s)) := by
  unfold dumpRead
  repeat' (first | exact Sub.trans (by decide) hm | intro _ | with_reducible assumption | with_reducible apply lineAnswer_frame | with_reducible apply rolsalBus_frame | extract_lets | split)

theorem dumpLate_frame {fm : Nat} {s0 : State} (hm : Sub 0x32befbd fm) (q : LineReq) (s : State) (h : Frame fm s0 s) :
    Frame fm s0 ((dumpLate q s)) := by
  unfold dumpLate
  repeat' (first | exact Sub.trans (by decide) hm | intro _ | with_reducible assumption | with_reducible apply contLine_frame | with_reducible apply lehrLate_frame | extract_lets | split)

theorem lineWritten_frame {fm : Nat} {s0 : State} (hm : Sub 0x32befbf fm) (q : LineReq) (good : Bool) (s : State) (h : Frame fm s0 s) :
    Frame fm s0 ((lineWritten q good s)) := by
  unfold lineWritten
  repeat' (first | exact Sub.trans (by decide) hm | intro _ | with_reducible assumption | with_reducible apply copyAck_frame | with_reducible apply dumpAck_frame | with_reducible apply State.fs_frame | with_reducible apply ledgerAck_frame | with_reducible apply lehrRun_frame | with_reducible apply rolsalBus_frame | with_reducible apply settleCopy_frame | with_reducible apply State.when_frame | with_reducible apply Frame.when | extract_lets | split)

theorem execDumpMasterReadData_frame {fm : Nat} {s0 : State} (hm : Sub 0x32befbf fm) (tag : Nat) (data : List Nat) (err : Bool) (s : State) (h : Frame fm s0 s) :
    FrameO fm s0 (execDumpMasterReadData tag data err s) := by
  unfold execDumpMasterReadData
  repeat' (first | with_reducible apply FrameO.act | with_reducible apply FrameO.ok | with_reducible apply FrameO.ite | exact Sub.trans (by decide) hm | intro _ | with_reducible assumption | with_reducible apply dumpLate_frame | with_reducible apply dumpRead_frame | with_reducible apply modBus_frame | with_reducible apply Frame.ite | extract_lets | split)

theorem execDumpMasterReadTimeout_frame {fm : Nat} {s0 : State} (hm : Sub 0x32befbd fm) (s : State) (h : Frame fm s0 s) :
    FrameO fm s0 (execDumpMasterReadTimeout s) := by
  unfold execDumpMasterReadTimeout
  repeat' (first | with_reducible apply FrameO.act | with_reducible apply FrameO.ok | exact Sub.trans (by decide) hm | intro _ | with_reducible assumption | with_reducible apply dumpLate_frame | with_reducible apply modBus_frame | extract_lets | split)

theorem execDumpMasterWriteAck_frame {fm : Nat} {s0 : State} (hm : Sub 0x32befbf fm) (tag : Nat) (err : Bool) (s : State) (h : Frame fm s0 s) :
    FrameO fm s0 (execDumpMasterWriteAck tag err s) := by
  unfold execDumpMasterWriteAck
  repeat' (first | with_reducible apply FrameO.act | with_reducible apply FrameO.ok | exact Sub.trans (by decide) hm | intro _ | with_reducible assumption | with_reducible apply lineWritten_frame | with_reducible apply modBus_frame | extract_lets | split)

theorem execDumpMasterWriteTimeout_frame {fm : Nat} {s0 : State} (hm : Sub 0x32befbf fm) (s : State) (h : Frame fm s0 s) :
    FrameO fm s0 (execDumpMasterWriteTimeout s) := by
  unfold execDumpMasterWriteTimeout
  repeat' (first | with_reducible apply FrameO.act | with_reducible apply FrameO.ok | exact Sub.trans (by decide) hm | intro _ | with_reducible assumption | with_reducible apply lineWritten_frame | with_reducible apply modBus_frame | extract_lets | split)

theorem execFabricWriteAck_frame {fm : Nat} {s0 : State} (hm : Sub 0x32befbf fm) (tag : Nat) (err : Bool) (s : State) (h : Frame fm s0 s) :
    FrameO fm s0 (execFabricWriteAck tag err s) := by
  unfold execFabricWriteAck
  repeat' (first | with_reducible apply FrameO.act | with_reducible apply FrameO.ok | exact Sub.trans (by decide) hm | intro _ | with_reducible assumption | with_reducible apply lineWritten_frame | with_reducible apply modBus_frame | extract_lets | split)

theorem execFabricWriteTimeout_frame {fm : Nat} {s0 : State} (hm : Sub 0x32befbf fm) (s : State) (h : Frame fm s0 s) :
    FrameO fm s0 (execFabricWriteTimeout s) := by
  unfold execFabricWriteTimeout
  repeat' (first | with_reducible apply FrameO.act | with_reducible apply FrameO.ok | exact Sub.trans (by decide) hm | intro _ | with_reducible assumption | with_reducible apply lineWritten_frame | with_reducible apply modBus_frame | extract_lets | split)

/-! ### Clock -/

theorem clockTick_frame {fm : Nat} {s0 : State} (hm : Sub 0x4 fm) (s : State) (h : Frame fm s0 s) :
    Frame fm s0 ((clockTick s)) := by
  unfold clockTick
  repeat' (first | exact Sub.trans (by decide) hm | intro _ | with_reducible assumption | with_reducible apply Frame.ite | (simp only [Frame_mk]; first | with_reducible apply FrameC.clk_upd) | extract_lets | split)

theorem endPulses_frame {fm : Nat} {s0 : State} (hm : Sub 0x8 fm) (s : State) (h : Frame fm s0 s) :
    Frame fm s0 ((endPulses s)) := by
  unfold endPulses
  repeat' (first | exact Sub.trans (by decide) hm | intro _ | with_reducible assumption | (simp only [Frame_mk]; first | with_reducible apply FrameC.pins_upd) | extract_lets)

theorem countFull_frame {fm : Nat} {s0 : State} (hm : Sub 0x11 fm) (s : State) (h : Frame fm s0 s) :
    Frame fm s0 ((countFull s)) := by
  unfold countFull
  repeat' (first | exact Sub.trans (by decide) hm | intro _ | with_reducible assumption | with_reducible apply pcStation_frame | with_reducible apply Frame.ite | with_reducible apply Frame.foldl | split)

theorem writerTick_frame {fm : Nat} {s0 : State} (hm : Sub 0x1010431 fm) (s : State) (h : Frame fm s0 s) :
    Frame fm s0 ((writerTick s)) := by
  unfold writerTick
  repeat' (first | exact Sub.trans (by decide) hm | intro _ | with_reducible assumption | with_reducible apply bringLoss_frame | with_reducible apply modTrc_frame | with_reducible apply writeStationBlock_frame | with_reducible apply Frame.ite | extract_lets | split | (show Memory.wf _ = true; assumption))

theorem servicesTick_frame {fm : Nat} {s0 : State} (hm : Sub 0x32befbd fm) (s : State) (h : Frame fm s0 s) :
    Frame fm s0 ((servicesTick s)) := by
  unfold servicesTick
  repeat' (first | exact Sub.trans (by decide) hm | intro _ | with_reducible assumption | with_reducible apply contResume_frame | with_reducible apply driveRstq_frame | with_reducible apply lehrRun_frame | with_reducible apply portsTick_frame | with_reducible apply settleCopy_frame | with_reducible apply settleSuppressed_frame | with_reducible apply settleTables_frame | with_reducible apply showApplied_frame | with_reducible apply writerTick_frame)

theorem stationsTick_frame {fm : Nat} {s0 : State} (hm : Sub 0x32befbd fm) (s : State) (h : Frame fm s0 s) :
    Frame fm s0 ((stationsTick s)) := by
  unfold stationsTick
  repeat' (first | exact Sub.trans (by decide) hm | intro _ | with_reducible assumption | with_reducible apply runActs_frame | with_reducible apply Frame.foldl)

theorem tick_frame {fm : Nat} {s0 : State} (hm : Sub 0x32befbd fm) (s : State) (h : Frame fm s0 s) :
    Frame fm s0 ((tick s)) := by
  unfold tick
  repeat' (first | exact Sub.trans (by decide) hm | intro _ | with_reducible assumption | with_reducible apply clockTick_frame | with_reducible apply countFull_frame | with_reducible apply endPulses_frame | with_reducible apply servicesTick_frame | with_reducible apply stationsTick_frame | with_reducible apply Frame.ite | extract_lets | split)

end Sys2Proof.Machine
end

