-- ==== Sys2Proof/Laws/Guards.lean ====
section
/-! SUPPORT. When a command acts at all: the running hub, the open register window, the class of a master. -/

namespace Sys2Proof.Machine

theorem State.act_runs (s : State) (f : State → Host.Outcome State Fault Refusal) (h : s.runs = true) : s.act f = f s := by
  simp [State.act, h]

theorem State.act_stopped (s : State) (f : State → Host.Outcome State Fault Refusal) (h : s.runs = false) : s.act f = .next s := by
  simp [State.act, h, ok]

theorem State.awake_up (s : State) (f : State → Host.Outcome State Fault Refusal) (h : s.runs = true) (hw : s.clk.warm = false) :
    s.awake f = f s := by
  simp [State.awake, h, hw]

theorem State.awake_stopped (s : State) (f : State → Host.Outcome State Fault Refusal) (h : s.runs = false) :
    s.awake f = .next s := by
  simp [State.awake, h, ok]

theorem State.awake_warm (s : State) (f : State → Host.Outcome State Fault Refusal) (h : s.clk.warm = true) :
    s.awake f = .next s := by
  simp [State.awake, h, ok]

/-- Everything a gated access can do: nothing while the window is closed, its effect where the master passes, else one refusal counted. -/
theorem State.gate_cases (s : State) (m a : Nat) (n : Need) (f : State → State) :
    (s.windowOpen = false ∧ s.gate m a n f = s) ∨ (s.windowOpen = true ∧ s.passes m n = true ∧ s.gate m a n f = f s) ∨
      (s.windowOpen = true ∧ s.passes m n = false ∧ s.gate m a n f = refuseAccess m a s) := by
  unfold State.gate
  cases hw : s.windowOpen <;> cases hp : s.passes m n <;> simp

theorem State.gate_pass (s : State) (m a : Nat) (n : Need) (f : State → State) (hw : s.windowOpen = true) (hp : s.passes m n = true) :
    s.gate m a n f = f s := by
  simp [State.gate, hw, hp]

theorem State.gate_refuse (s : State) (m a : Nat) (n : Need) (f : State → State) (hw : s.windowOpen = true)
    (hp : s.passes m n = false) : s.gate m a n f = refuseAccess m a s := by
  simp [State.gate, hw, hp]

theorem State.gate_closed (s : State) (m a : Nat) (n : Need) (f : State → State) (hw : s.windowOpen = false) : s.gate m a n f = s := by
  simp [State.gate, hw]

/-- An open window is a running hub with no reset asserted. -/
theorem State.windowOpen_runs (s : State) (h : s.windowOpen = true) : s.runs = true ∧ s.clk.warm = false := by
  unfold State.windowOpen at h
  unfold State.runs
  simp_all

end Sys2Proof.Machine
end

