-- ==== Sys2Proof/Laws/Network.lean ====
section
/-! SUPPORT. Messages taken from the front of a queue, ribs after a change of one, and what a fold leaves. -/

namespace Sys2Proof.Machine

theorem takeInbox_cons (n kind : Nat) (sub : DownMsg → Bool) (s : State) (m : DownMsg) (rest : List DownMsg) (h : (s.stn n).inbox = m :: rest)
    (hd : s.delivers n = true) (hk : m.kind = kind) (hs : sub m = true) :
    takeInbox n kind sub s = some (m, setStn n { s.stn n with inbox := rest } s) := by
  unfold takeInbox
  simp [h, hd, hk, hs]

theorem takeAir_cons (n kind : Nat) (s : State) (m : UpMsg) (rest : List UpMsg) (h : (s.stn n).air = m :: rest) (hk : m.kind = kind) :
    takeAir n kind s = some (m, setStn n { s.stn n with air := rest } s) := by
  unfold takeAir
  simp [h, hk, removeFirst]

theorem takeNote_cons (n kind : Nat) (s : State) (w : Nat) (rest : List Nat) (h : (s.stn n).noteAir = w :: rest) (hk : bitsOf w 28 4 = kind) :
    takeNote n kind s = some (w, setStn n { s.stn n with noteAir := rest } s) := by
  unfold takeNote
  simp [h, hk, removeFirst]

theorem fold_keep {α β : Type} (g : State → β) (l : List α) (f : State → α → State) (hf : ∀ s a, g (f s a) = g s) (s : State) :
    g (l.foldl f s) = g s := by
  induction l generalizing s with
  | nil => rfl
  | cons a l ih => exact (ih (f s a)).trans (hf s a)

theorem rib_modRib (r k : Nat) (f : RibState → RibState) (s : State) : (modRib r f s).rib k = if k = r then f (s.rib r) else s.rib k := by
  unfold State.rib modRib mmod
  by_cases h : k = r
  · simp [h, mget_mput_same]
  · simp [h, mget_mput_other]

/-- What a start of the frames makes of the registers, the spine and the shear tree. -/
theorem startSpine_regs (c : Nat) (s : State) : (startSpine c s).regs = s.regs :=
  fold_keep (fun s : State => s.regs) s.stations (fun t e => modStn e.1 (rebaseStn (c - s.spine.startCyc)) t) (fun _ _ => rfl) s

theorem startSpine_spine (c : Nat) (s : State) : (startSpine c s).spine = { s.spine with
    running := true, startCyc := c, frame := 0, stopAsked := false
    ribs := s.spine.ribs.map (fun b => (b.1, { b.2 with nextCmd := 0, errFrame := none, errFrames := [], restoring := b.2.restoring.map (fun _ => 0) })) } := by
  have h := fold_keep (fun s : State => s.spine) s.stations (fun t e => modStn e.1 (rebaseStn (c - s.spine.startCyc)) t) (fun _ _ => rfl) s
  exact congrArg (fun p : SpineState => ({ p with
    running := true, startCyc := c, frame := 0, stopAsked := false
    ribs := p.ribs.map (fun b => (b.1, { b.2 with nextCmd := 0, errFrame := none, errFrames := [], restoring := b.2.restoring.map (fun _ => 0) })) }
      : SpineState)) h

theorem startSpine_shear (c : Nat) (s : State) : (startSpine c s).shear = rebaseShear (c - s.spine.startCyc) s.shear := by
  have h := fold_keep (fun s : State => s.shear) s.stations (fun t e => modStn e.1 (rebaseStn (c - s.spine.startCyc)) t) (fun _ _ => rfl) s
  exact congrArg (rebaseShear (c - s.spine.startCyc)) h

end Sys2Proof.Machine
end

