-- ==== Sys2Proof/Laws/Reads.lean ====
section
/-! SUPPORT. An update outside the register file leaves every register and every field as it reads. -/

namespace Sys2Proof.Machine

theorem State.fb_fs_other (s : State) (f g : Fld) (n : Nat) (h : g.addr ≠ f.addr) : (s.fs f n).fb g = s.fb g := by
  unfold State.fb
  rw [State.fg_fs_other _ _ _ _ h]

theorem State.fb_fs_disjoint (s : State) (f g : Fld) (n : Nat) (hg : g.fits) (h : g.lo + g.width ≤ f.lo ∨ f.lo + f.width ≤ g.lo) :
    (s.fs f n).fb g = s.fb g := by
  unfold State.fb
  rw [State.fg_fs_disjoint _ _ _ _ hg h]

@[simp] theorem modSpine_rd (f : SpineState → SpineState) (s : State) (x : Nat) : (modSpine f s).rd x = s.rd x := (rfl)
@[simp] theorem modSpine_fg (f : SpineState → SpineState) (s : State) (x : Fld) : (modSpine f s).fg x = s.fg x := (rfl)
@[simp] theorem modSpine_fb (f : SpineState → SpineState) (s : State) (x : Fld) : (modSpine f s).fb x = s.fb x := (rfl)
@[simp] theorem modLehr_rd (f : LehrState → LehrState) (s : State) (x : Nat) : (modLehr f s).rd x = s.rd x := (rfl)
@[simp] theorem modLehr_fg (f : LehrState → LehrState) (s : State) (x : Fld) : (modLehr f s).fg x = s.fg x := (rfl)
@[simp] theorem modLehr_fb (f : LehrState → LehrState) (s : State) (x : Fld) : (modLehr f s).fb x = s.fb x := (rfl)
@[simp] theorem modCont_rd (f : ContState → ContState) (s : State) (x : Nat) : (modCont f s).rd x = s.rd x := (rfl)
@[simp] theorem modCont_fg (f : ContState → ContState) (s : State) (x : Fld) : (modCont f s).fg x = s.fg x := (rfl)
@[simp] theorem modCont_fb (f : ContState → ContState) (s : State) (x : Fld) : (modCont f s).fb x = s.fb x := (rfl)
@[simp] theorem modCtr_rd (f : CtrState → CtrState) (s : State) (x : Nat) : (modCtr f s).rd x = s.rd x := (rfl)
@[simp] theorem modCtr_fg (f : CtrState → CtrState) (s : State) (x : Fld) : (modCtr f s).fg x = s.fg x := (rfl)
@[simp] theorem modCtr_fb (f : CtrState → CtrState) (s : State) (x : Fld) : (modCtr f s).fb x = s.fb x := (rfl)
@[simp] theorem modCullet_rd (f : CulletState → CulletState) (s : State) (x : Nat) : (modCullet f s).rd x = s.rd x := (rfl)
@[simp] theorem modCullet_fg (f : CulletState → CulletState) (s : State) (x : Fld) : (modCullet f s).fg x = s.fg x := (rfl)
@[simp] theorem modCullet_fb (f : CulletState → CulletState) (s : State) (x : Fld) : (modCullet f s).fb x = s.fb x := (rfl)
@[simp] theorem modDl_rd (f : DeadlineState → DeadlineState) (s : State) (x : Nat) : (modDl f s).rd x = s.rd x := (rfl)
@[simp] theorem modDl_fg (f : DeadlineState → DeadlineState) (s : State) (x : Fld) : (modDl f s).fg x = s.fg x := (rfl)
@[simp] theorem modDl_fb (f : DeadlineState → DeadlineState) (s : State) (x : Fld) : (modDl f s).fb x = s.fb x := (rfl)
@[simp] theorem modClk_rd (f : ClockState → ClockState) (s : State) (x : Nat) : (modClk f s).rd x = s.rd x := (rfl)
@[simp] theorem modClk_fg (f : ClockState → ClockState) (s : State) (x : Fld) : (modClk f s).fg x = s.fg x := (rfl)
@[simp] theorem modClk_fb (f : ClockState → ClockState) (s : State) (x : Fld) : (modClk f s).fb x = s.fb x := (rfl)
@[simp] theorem modPins_rd (f : PinState → PinState) (s : State) (x : Nat) : (modPins f s).rd x = s.rd x := (rfl)
@[simp] theorem modPins_fg (f : PinState → PinState) (s : State) (x : Fld) : (modPins f s).fg x = s.fg x := (rfl)
@[simp] theorem modPins_fb (f : PinState → PinState) (s : State) (x : Fld) : (modPins f s).fb x = s.fb x := (rfl)
@[simp] theorem modGaf_rd (f : GafState → GafState) (s : State) (x : Nat) : (modGaf f s).rd x = s.rd x := (rfl)
@[simp] theorem modGaf_fg (f : GafState → GafState) (s : State) (x : Fld) : (modGaf f s).fg x = s.fg x := (rfl)
@[simp] theorem modGaf_fb (f : GafState → GafState) (s : State) (x : Fld) : (modGaf f s).fb x = s.fb x := (rfl)
@[simp] theorem modBus_rd (f : BusState → BusState) (s : State) (x : Nat) : (modBus f s).rd x = s.rd x := (rfl)
@[simp] theorem modBus_fg (f : BusState → BusState) (s : State) (x : Fld) : (modBus f s).fg x = s.fg x := (rfl)
@[simp] theorem modBus_fb (f : BusState → BusState) (s : State) (x : Fld) : (modBus f s).fb x = s.fb x := (rfl)
@[simp] theorem modNotice_rd (f : NoticeState → NoticeState) (s : State) (x : Nat) : (modNotice f s).rd x = s.rd x := (rfl)
@[simp] theorem modNotice_fg (f : NoticeState → NoticeState) (s : State) (x : Fld) : (modNotice f s).fg x = s.fg x := (rfl)
@[simp] theorem modNotice_fb (f : NoticeState → NoticeState) (s : State) (x : Fld) : (modNotice f s).fb x = s.fb x := (rfl)
@[simp] theorem modLadder_rd (f : LadderState → LadderState) (s : State) (x : Nat) : (modLadder f s).rd x = s.rd x := (rfl)
@[simp] theorem modLadder_fg (f : LadderState → LadderState) (s : State) (x : Fld) : (modLadder f s).fg x = s.fg x := (rfl)
@[simp] theorem modLadder_fb (f : LadderState → LadderState) (s : State) (x : Fld) : (modLadder f s).fb x = s.fb x := (rfl)
@[simp] theorem modRings_rd (f : RingState → RingState) (s : State) (x : Nat) : (modRings f s).rd x = s.rd x := (rfl)
@[simp] theorem modRings_fg (f : RingState → RingState) (s : State) (x : Fld) : (modRings f s).fg x = s.fg x := (rfl)
@[simp] theorem modRings_fb (f : RingState → RingState) (s : State) (x : Fld) : (modRings f s).fb x = s.fb x := (rfl)
@[simp] theorem modRs_rd (f : RolsalState → RolsalState) (s : State) (x : Nat) : (modRs f s).rd x = s.rd x := (rfl)
@[simp] theorem modRs_fg (f : RolsalState → RolsalState) (s : State) (x : Fld) : (modRs f s).fg x = s.fg x := (rfl)
@[simp] theorem modRs_fb (f : RolsalState → RolsalState) (s : State) (x : Fld) : (modRs f s).fb x = s.fb x := (rfl)
@[simp] theorem modAuth_rd (f : AuthState → AuthState) (s : State) (x : Nat) : (modAuth f s).rd x = s.rd x := (rfl)
@[simp] theorem modAuth_fg (f : AuthState → AuthState) (s : State) (x : Fld) : (modAuth f s).fg x = s.fg x := (rfl)
@[simp] theorem modAuth_fb (f : AuthState → AuthState) (s : State) (x : Fld) : (modAuth f s).fb x = s.fb x := (rfl)
@[simp] theorem modShear_rd (f : ShearState → ShearState) (s : State) (x : Nat) : (modShear f s).rd x = s.rd x := (rfl)
@[simp] theorem modShear_fg (f : ShearState → ShearState) (s : State) (x : Fld) : (modShear f s).fg x = s.fg x := (rfl)
@[simp] theorem modShear_fb (f : ShearState → ShearState) (s : State) (x : Fld) : (modShear f s).fb x = s.fb x := (rfl)
@[simp] theorem modTrc_rd (f : TraceState → TraceState) (s : State) (x : Nat) : (modTrc f s).rd x = s.rd x := (rfl)
@[simp] theorem modTrc_fg (f : TraceState → TraceState) (s : State) (x : Fld) : (modTrc f s).fg x = s.fg x := (rfl)
@[simp] theorem modTrc_fb (f : TraceState → TraceState) (s : State) (x : Fld) : (modTrc f s).fb x = s.fb x := (rfl)
@[simp] theorem modStria_rd (f : StriaState → StriaState) (s : State) (x : Nat) : (modStria f s).rd x = s.rd x := (rfl)
@[simp] theorem modStria_fg (f : StriaState → StriaState) (s : State) (x : Fld) : (modStria f s).fg x = s.fg x := (rfl)
@[simp] theorem modStria_fb (f : StriaState → StriaState) (s : State) (x : Fld) : (modStria f s).fb x = s.fb x := (rfl)
@[simp] theorem modGather_rd (f : GatherState → GatherState) (s : State) (x : Nat) : (modGather f s).rd x = s.rd x := (rfl)
@[simp] theorem modGather_fg (f : GatherState → GatherState) (s : State) (x : Fld) : (modGather f s).fg x = s.fg x := (rfl)
@[simp] theorem modGather_fb (f : GatherState → GatherState) (s : State) (x : Fld) : (modGather f s).fb x = s.fb x := (rfl)
@[simp] theorem modCmd_rd (k : CmdKey) (f : Cmd → Cmd) (s : State) (x : Nat) : (modCmd k f s).rd x = s.rd x := (rfl)
@[simp] theorem modCmd_fg (k : CmdKey) (f : Cmd → Cmd) (s : State) (x : Fld) : (modCmd k f s).fg x = s.fg x := (rfl)
@[simp] theorem modCmd_fb (k : CmdKey) (f : Cmd → Cmd) (s : State) (x : Fld) : (modCmd k f s).fb x = s.fb x := (rfl)
@[simp] theorem modCore_rd (k : Nat) (f : GafCore → GafCore) (s : State) (x : Nat) : (modCore k f s).rd x = s.rd x := (rfl)
@[simp] theorem modCore_fg (k : Nat) (f : GafCore → GafCore) (s : State) (x : Fld) : (modCore k f s).fg x = s.fg x := (rfl)
@[simp] theorem modCore_fb (k : Nat) (f : GafCore → GafCore) (s : State) (x : Fld) : (modCore k f s).fb x = s.fb x := (rfl)
@[simp] theorem modRib_rd (k : Nat) (f : RibState → RibState) (s : State) (x : Nat) : (modRib k f s).rd x = s.rd x := (rfl)
@[simp] theorem modRib_fg (k : Nat) (f : RibState → RibState) (s : State) (x : Fld) : (modRib k f s).fg x = s.fg x := (rfl)
@[simp] theorem modRib_fb (k : Nat) (f : RibState → RibState) (s : State) (x : Fld) : (modRib k f s).fb x = s.fb x := (rfl)
@[simp] theorem modStn_rd (k : Nat) (f : Station → Station) (s : State) (x : Nat) : (modStn k f s).rd x = s.rd x := (rfl)
@[simp] theorem modStn_fg (k : Nat) (f : Station → Station) (s : State) (x : Fld) : (modStn k f s).fg x = s.fg x := (rfl)
@[simp] theorem modStn_fb (k : Nat) (f : Station → Station) (s : State) (x : Fld) : (modStn k f s).fb x = s.fb x := (rfl)
@[simp] theorem modPort_rd (k : Nat) (f : Port → Port) (s : State) (x : Nat) : (modPort k f s).rd x = s.rd x := (rfl)
@[simp] theorem modPort_fg (k : Nat) (f : Port → Port) (s : State) (x : Fld) : (modPort k f s).fg x = s.fg x := (rfl)
@[simp] theorem modPort_fb (k : Nat) (f : Port → Port) (s : State) (x : Fld) : (modPort k f s).fb x = s.fb x := (rfl)
@[simp] theorem setStn_rd (k : Nat) (f : Station) (s : State) (x : Nat) : (setStn k f s).rd x = s.rd x := (rfl)
@[simp] theorem setStn_fg (k : Nat) (f : Station) (s : State) (x : Fld) : (setStn k f s).fg x = s.fg x := (rfl)
@[simp] theorem setStn_fb (k : Nat) (f : Station) (s : State) (x : Fld) : (setStn k f s).fb x = s.fb x := (rfl)
@[simp] theorem setPort_rd (k : Nat) (f : Port) (s : State) (x : Nat) : (setPort k f s).rd x = s.rd x := (rfl)
@[simp] theorem setPort_fg (k : Nat) (f : Port) (s : State) (x : Fld) : (setPort k f s).fg x = s.fg x := (rfl)
@[simp] theorem setPort_fb (k : Nat) (f : Port) (s : State) (x : Fld) : (setPort k f s).fb x = s.fb x := (rfl)
@[simp] theorem setChan_rd (k : Nat) (f : MbxChan) (s : State) (x : Nat) : (setChan k f s).rd x = s.rd x := (rfl)
@[simp] theorem setChan_fg (k : Nat) (f : MbxChan) (s : State) (x : Fld) : (setChan k f s).fg x = s.fg x := (rfl)
@[simp] theorem setChan_fb (k : Nat) (f : MbxChan) (s : State) (x : Fld) : (setChan k f s).fb x = s.fb x := (rfl)
@[simp] theorem setDue_rd (k : Nat) (f : List EvEntry) (s : State) (x : Nat) : (setDue k f s).rd x = s.rd x := (rfl)
@[simp] theorem setDue_fg (k : Nat) (f : List EvEntry) (s : State) (x : Fld) : (setDue k f s).fg x = s.fg x := (rfl)
@[simp] theorem setDue_fb (k : Nat) (f : List EvEntry) (s : State) (x : Fld) : (setDue k f s).fb x = s.fb x := (rfl)
@[simp] theorem modCollect_rd (k : Nat) (f : Collect → Collect) (s : State) (x : Nat) : (modCollect k f s).rd x = s.rd x := (rfl)
@[simp] theorem modCollect_fg (k : Nat) (f : Collect → Collect) (s : State) (x : Fld) : (modCollect k f s).fg x = s.fg x := (rfl)
@[simp] theorem modCollect_fb (k : Nat) (f : Collect → Collect) (s : State) (x : Fld) : (modCollect k f s).fb x = s.fb x := (rfl)

@[simp] theorem State.fs_stn (s : State) (f : Fld) (n : Nat) (k : Nat) : (s.fs f n).stn k = s.stn k := (rfl)
@[simp] theorem State.fs_port (s : State) (f : Fld) (n : Nat) (k : Nat) : (s.fs f n).port k = s.port k := (rfl)
@[simp] theorem State.fs_rib (s : State) (f : Fld) (n : Nat) (k : Nat) : (s.fs f n).rib k = s.rib k := (rfl)
@[simp] theorem State.fs_cmd (s : State) (f : Fld) (n : Nat) (k : CmdKey) : (s.fs f n).cmd? k = s.cmd? k := (rfl)
@[simp] theorem State.wr_stn (s : State) (f : Nat) (n : Word) (k : Nat) : (s.wr f n).stn k = s.stn k := (rfl)
@[simp] theorem State.wr_port (s : State) (f : Nat) (n : Word) (k : Nat) : (s.wr f n).port k = s.port k := (rfl)
@[simp] theorem State.wr_rib (s : State) (f : Nat) (n : Word) (k : Nat) : (s.wr f n).rib k = s.rib k := (rfl)
@[simp] theorem State.wr_cmd (s : State) (f : Nat) (n : Word) (k : CmdKey) : (s.wr f n).cmd? k = s.cmd? k := (rfl)
@[simp] theorem State.wrN_stn (s : State) (f n : Nat) (k : Nat) : (s.wrN f n).stn k = s.stn k := (rfl)
@[simp] theorem State.wrN_port (s : State) (f n : Nat) (k : Nat) : (s.wrN f n).port k = s.port k := (rfl)
@[simp] theorem State.wrN_rib (s : State) (f n : Nat) (k : Nat) : (s.wrN f n).rib k = s.rib k := (rfl)
@[simp] theorem State.wrN_cmd (s : State) (f n : Nat) (k : CmdKey) : (s.wrN f n).cmd? k = s.cmd? k := (rfl)
@[simp] theorem State.fsat_stn (s : State) (f : Fld) (n : Nat) (k : Nat) : (s.fsat f n).stn k = s.stn k := (rfl)
@[simp] theorem State.fsat_port (s : State) (f : Fld) (n : Nat) (k : Nat) : (s.fsat f n).port k = s.port k := (rfl)
@[simp] theorem State.fsat_rib (s : State) (f : Fld) (n : Nat) (k : Nat) : (s.fsat f n).rib k = s.rib k := (rfl)
@[simp] theorem State.fsat_cmd (s : State) (f : Fld) (n : Nat) (k : CmdKey) : (s.fsat f n).cmd? k = s.cmd? k := (rfl)

end Sys2Proof.Machine
end

