-- ==== Sys2Proof/Laws/Run.lean ====
section
/-! SUPPORT. Run control of the ports: what settling a station, an exclusion and a comparator hit leave. -/

namespace Sys2Proof.Machine

/-- What a settled station leaves: of a port the run control, and the registers of the debug part of a station page. -/
def Port.run (p : Port) : (List (Nat × Nat) × List Nat × List Nat) × (Nat × Option Nat × Bool × Bool × Bool) :=
  ((p.dbgWr, p.pulses, p.cmps), (p.debugHalt, p.reqCyc, p.haltLate, p.holdHalt, p.bpDrain))

structure Settled (s t : State) : Prop where
  run : ∀ v, (t.port v).run = (s.port v).run
  rd : ∀ a, 0x600 ≤ a % 0x800 → t.rd a = s.rd a

theorem Settled.refl {s : State} : Settled s s := ⟨fun _ => rfl, fun _ _ => rfl⟩

theorem Settled.of_regs {s0 s t : State} (e : t.regs = s.regs) (p : ∀ v, (t.port v).run = (s.port v).run) (h : Settled s0 s) : Settled s0 t :=
  ⟨fun v => (p v).trans (h.run v), fun a ha => by rw [← h.rd a ha]; unfold State.rd; rw [e]⟩

theorem Settled.foldl {α : Type} {s0 : State} (l : List α) (f : State → α → State) (s : State)
    (hf : ∀ s a, a ∈ l → Settled s0 s → Settled s0 (f s a)) (h : Settled s0 s) : Settled s0 (l.foldl f s) := by
  induction l generalizing s with
  | nil => exact h
  | cons a l ih => exact ih (f s a) (fun s b hb => hf s b (List.mem_cons_of_mem _ hb)) (hf s a List.mem_cons_self h)

theorem Settled.wr {s0 s : State} (a : Nat) (v : Word) (ha : a % 0x800 < 0x600) (h : Settled s0 s) : Settled s0 (s.wr a v) :=
  ⟨fun v => h.run v, fun b hb => by rw [State.rd_wr_other _ _ _ _ (by intro e; subst e; omega), h.rd b hb]⟩

theorem Settled.fs {s0 s : State} (f : Fld) (v : Nat) (hf : f.addr % 0x800 < 0x600) (h : Settled s0 s) : Settled s0 (s.fs f v) :=
  Settled.wr _ _ hf h

theorem Settled.setPort {s0 s : State} (u : Nat) (p : Port) (hp : p.run = (s.port u).run) (h : Settled s0 s) : Settled s0 (setPort u p s) :=
  ⟨fun v => by rw [port_setPort]; split
               · next e => rw [hp, ← e]; exact h.run v
               · exact h.run v, fun a ha => h.rd a ha⟩

theorem Settled.setStn {s0 s : State} (n : Nat) (x : Station) (hx : x.ports = (s.stn n).ports) (h : Settled s0 s) : Settled s0 (setStn n x s) :=
  Settled.of_regs (s := s) rfl (fun v => by
    rw [port_setStn]; split
    · next e => unfold Station.port State.port; rw [hx, e]; rfl
    · rfl) h

theorem Settled.modStn {s0 s : State} (n : Nat) (f : Station → Station) (hf : ∀ x, (f x).ports = x.ports) (h : Settled s0 s) :
    Settled s0 (modStn n f s) := Settled.setStn _ _ (hf _) h

theorem Settled.noteWrap {s0 s : State} (n c : Nat) (h : Settled s0 s) : Settled s0 (noteWrap n c s) := by
  unfold Machine.noteWrap
  extract_lets x
  split
  · exact Settled.fs _ _ (by simp only [R.STN_CTR_STAT]; omega) h
  · exact Settled.setStn _ _ rfl h

theorem Settled.ctrAdd {s0 s : State} (n lo hi c d : Nat) (hl : lo % 0x800 < 0x600) (hh : hi % 0x800 < 0x600) (h : Settled s0 s) :
    Settled s0 (ctrAdd n lo hi c d s) := by
  unfold Machine.ctrAdd
  split
  · exact h
  · extract_lets a b e s1 s2
    have h2 : Settled s0 s2 := Settled.wr _ _ hh (Settled.wr _ _ hl h)
    split
    · exact Settled.noteWrap _ _ h2
    · exact h2

theorem Settled.pcEvent {s0 s : State} (u code : Nat) (l : List Nat) (on : Nat → Bool) (h : Settled s0 s) : Settled s0 (pcEvent u code l on s) := by
  unfold Machine.pcEvent
  extract_lets n
  refine Settled.foldl _ _ _ (fun s i hi h => ?_) h
  have hi' : i < 16 := by simpa using hi
  have add : Settled s0 (pcAdd n i 1 s) :=
    Settled.ctrAdd _ _ _ _ _ (by simp only [R.STN_PC_LO]; omega) (by simp only [R.STN_PC_HI]; omega) h
  repeat' split
  all_goals first | exact h | exact add

theorem Settled.placeFault {s0 s : State} (n : Nat) (f : StnFault) (h : Settled s0 s) : Settled s0 (placeFault n f s) := by
  unfold Machine.placeFault
  extract_lets x x1
  split
  · split
    · exact Settled.setStn _ _ rfl h
    · exact Settled.setStn _ _ (offer_ports _ _) h
  · split
    · exact Settled.fs _ _ (by simp only [R.STN_FLT_OVF]; omega) (Settled.setStn _ _ rfl h)
    · exact Settled.fs _ _ (by simp only [R.STN_FLT_OVF]; omega) h

theorem Settled.addRun {s0 s : State} (stop : Bool) (n r : Nat) (h : Settled s0 s) : Settled s0 (addRun stop n r s) := by
  unfold Machine.addRun
  extract_lets same runs sh s1
  have k : Settled s0 s1 := Settled.of_regs (s := s) rfl (fun _ => rfl) h
  split
  · exact h
  · split
    · exact k
    · exact Settled.of_regs (s := s1) rfl (fun _ => rfl) k

theorem Settled.placeFormed {s0 s : State} (u : Nat) (r : FaultRec) (h : Settled s0 s) : Settled s0 (placeFormed u r s) := by
  have trig : ∀ n stop, Settled s0 (stnTrigger n stop s).2 := by
    intro n stop
    unfold stnTrigger
    split
    · exact Settled.addRun _ _ _ h
    · exact h
  unfold Machine.placeFormed
  extract_lets n cut r1
  split
  · split
    · next c t e => exact Settled.placeFault _ _ (by have := trig n (cut == 2); rw [e] at this; exact this)
    · next t e => exact Settled.placeFault _ _ (by have := trig n (cut == 2); rw [e] at this; exact this)
  · exact Settled.placeFault _ _ h

theorem Settled.missWd {s0 s : State} (n i : Nat) (w : Watchdog) (h : Settled s0 s) (_ : w.port < 16) : Settled s0 (missWd n i w s) := by
  unfold Machine.missWd
  extract_lets u s1 s2 s3 s4
  have h1 : Settled s0 s1 := Settled.fs _ _ (by simp only [R.STN_DL_STAT]; omega) (Settled.setStn _ _ rfl h)
  have h2 : Settled s0 s2 := Settled.modStn _ _ (fun _ => rfl) h1
  have h3 : Settled s0 s3 := Settled.ctrAdd _ _ _ _ _ (by simp only [R.STN_AO_LO, u]; omega) (by simp only [R.STN_AO_HI, u]; omega) h2
  exact Settled.placeFormed _ _ (Settled.pcEvent _ _ _ _ h3)

/-- Misses that are due change counters, watchdogs and fault records, no port. -/
theorem Settled.expireWd {s0 s : State} (u : Nat) (h : Settled s0 s) : Settled s0 (expireWd u s) := by
  unfold Machine.expireWd
  extract_lets n due
  refine Settled.foldl _ _ _ (fun s w hw h => Settled.missWd _ _ _ h ?_) h
  have := (List.mem_filter.mp hw).2
  simp only [Bool.and_eq_true, beq_iff_eq] at this
  omega

theorem Settled.driveSh {s0 s : State} (u : Nat) (h : Settled s0 s) : Settled s0 (driveSh u s) := by
  unfold Machine.driveSh
  extract_lets p v s1
  have h1 : Settled s0 s1 := Settled.setPort _ _ rfl h
  split
  · exact h
  · split
    · exact Settled.fs _ _ (by simp only [R.STN_SH_STAT]; omega) h1
    · exact Settled.modStn _ _ (fun _ => rfl) h1

theorem Settled.driveStn {s0 s : State} (n : Nat) (h : Settled s0 s) : Settled s0 (driveStn n s) := by
  unfold Machine.driveStn
  exact Settled.fs _ _ (by simp only [R.STN_SH_STAT]; omega)
    (Settled.foldl _ _ _ (fun s p _ h => Settled.driveSh _ h) h)

theorem Settled.holdChange {s0 s : State} (u : Nat) (b : Bool) (h : Settled s0 s) : Settled s0 (holdChange u b s) := by
  unfold Machine.holdChange
  extract_lets now s1 s2 g s3
  split
  · exact h
  · split
    · exact Settled.setPort _ _ rfl (Settled.modStn _ _ (fun _ => rfl) (Settled.expireWd _ h))
    · exact Settled.setPort _ _ rfl (Settled.modStn _ _ (fun _ => rfl) h)

theorem Settled.withHolds (n : Nat) (f : State → State) (s : State) : Settled (f s) (withHolds n f s) := by
  unfold Machine.withHolds
  extract_lets was t
  exact Settled.foldl _ _ _ (fun s p _ h => Settled.holdChange _ _ h) (Settled.driveStn _ Settled.refl)

theorem State.fb_fs_same (s : State) (f : Fld) (n : Nat) (hf : f.fits) (h1 : f.width = 1) : (s.fs f n).fb f = decide (n % 2 = 1) := by
  unfold State.fb
  rw [State.fg_fs_same _ _ _ hf, h1]
  rcases Nat.mod_two_eq_zero_or_one n with h | h <;> simp [h]

theorem rd_modPort (u : Nat) (f : Port → Port) (s : State) (a : Nat) : (modPort u f s).rd a = s.rd a := rfl

theorem Port.run_ext {p q : Port} (h : p.run = q.run) : p.dbgWr = q.dbgWr ∧ p.pulses = q.pulses ∧ p.debugHalt = q.debugHalt ∧ p.bpDrain = q.bpDrain := by
  simp only [Port.run, Prod.mk.injEq] at h
  exact ⟨h.1.1, h.1.2.1, h.2.1, h.2.2.2.2.2⟩

theorem dbgSec_fs (s : State) (f : Fld) (v n : Nat) : (s.fs f v).dbgSec n = s.dbgSec n := rfl

theorem port_fs (s : State) (f : Fld) (v u : Nat) : (s.fs f v).port u = s.port u := rfl

theorem port_stnHits (u : Nat) (f : List Nat → Bool) (c : Nat) (s : State) (v : Nat) : (stnHits u f c s).port v = s.port v := by
  unfold stnHits
  extract_lets n t h first
  split
  · rfl
  · exact modStn_port _ _ _ (by intro x; rfl) v

end Sys2Proof.Machine
end

