-- ==== Sys2Proof/Tests/Slice0.lean ====
section
/-! SUPPORT. Tests of single commands on small states, and for each statement a state that meets its hypotheses. -/

namespace Sys2Proof.Tests

open Sys2Proof Sys2Proof.Machine

/-! ### Small states -/

/-- The hub runs and its register window takes requests. -/
def up : State := { State.reset with clk := { State.reset.clk with otpRead := true, cyc := 2000200, acc := 10 ^ 15 * 2 ^ 32 } }

/-- A live port of a type. -/
def livePort (ty : Nat) : Port := { strapped := true, strapTy := ty, on := true }

/-- Frames run with one rib of two loaded stations; port 0 of station 0 is an engine, its port 1 a control core. -/
def net : State :=
  let s := { up with
    spine := { up.spine with running := true, startCyc := 0, frame := 3905 }
    slot := { up.slot with ribs := [(0, { lastPos := 1 })], stns := [(0, { slots := [0, 1, 2, 3] }), (1, { slots := [16] })], horizon := 80 }
    stations := [(0, { ports := [(0, livePort 0), (1, livePort 1)], installed := true, passThrough := false }), (1, { installed := true, passThrough := false })] }
  (((s.fs F.SLOT_STAT_VALID 1).fs F.SLOT_STAT_MATCH 1).fs F.SLOT_STAT_LIVE 1).fs F.CANE_CTL_ENABLE 1

/-- The same with the shear tree enabled and locked. -/
def tree : State := (net.fs F.SHEAR_STAT_ENABLED 1).fs F.SHEAR_STAT_LOCKED 1

/-- Both gaffer cores released and ready. -/
def cores : State := (((net.fs F.GAF_CTL_RUN_0 1).fs F.GAF_CTL_RUN_1 1).fs F.GAF_STAT_READY_0 1).fs F.GAF_STAT_READY_1 1

/-- A message at the front of station 0's queue. -/
def withMsg (kind head : Nat) (words : List Nat) (s : State) : State :=
  setStn 0 { s.stn 0 with inbox := [⟨kind, head, words, 0, false⟩] } s

/-- The same in a cycle in which station 0's NOTICE slot passes it. -/
def slotted : State := { net with clk := { net.clk with cyc := 2000216 } }

/-- A message from station 0 on its way. -/
def withAir (kind head : Nat) (words : List Nat) (s : State) : State := setStn 0 { s.stn 0 with air := [⟨kind, head, words⟩] } s

/-- A NOTE from station 0 on its way. -/
def withNote (w : Nat) (s : State) : State := setStn 0 { s.stn 0 with noteAir := [w] } s

/-- A command accepted on ring 0, whose event ring 0 runs. -/
def withCmd (desc : List Nat) (opcode : Nat) (s : State) : State :=
  { s with rings := { s.rings with cmds := [{ key := ⟨0, 0⟩, desc := opcode :: desc, owner := 3, cls := 2 }] } }.fs (F.EQ_STAT_STATE 0) stRunning


/-! ### Witnesses -/

theorem witness_PlainRegisterWrite : ∃ r, regRowAt R.INT_CTL = some r ∧ up.windowOpen = true ∧ up.passes 0 r.wr = true :=
  ⟨_, rfl, by decide, by decide⟩

theorem witness_ReadEffects : up.windowOpen = true ∧ up.wideOf 0 R.TS_LO true = none ∧
    ({ up with wide := [⟨0, R.TS_LO, true, [7]⟩] } : State).wideOf 0 R.TS_LO true = some [7] ∧ (regRowAt R.PRIV_REJ).isSome = true ∧
    (∀ r ∈ regRowAt R.PRIV_REJ, up.passes 0 r.rd = true) := by decide

theorem witness_RefusedAccess : (∀ r ∈ regRowAt R.INT_CTL, up.passes 63 r.wr = false) ∧ (∀ r ∈ regRowAt R.CANE_STAT, up.passes 63 r.rd = false) ∧
    (regRowAt R.INT_CTL).isSome = true ∧ (regRowAt R.CANE_STAT).isSome = true ∧ up.windowOpen = true := by decide

theorem witness_IgnoredAccess : up.windowOpen = true ∧ regRowAt 0xFFFC = none ∧ 0xFFFC < 0x020000 ∧ 0xFFFC < stationBase ∧
    0xFFFC < R.SQ_DB 0 ∧ 0xFFFC < R.STIM 0 := by decide

theorem witness_ClassOfIdentity : (up.fb F.CUST_GRANT_VALID = false) ∧
    ((up.fs F.CUST_GRANT_VALID 1).fs F.CUST_GRANT_ID 36).fb F.CUST_GRANT_VALID = true ∧
    ((up.fs F.CUST_GRANT_VALID 1).fs F.CUST_GRANT_ID 36).fg F.CUST_GRANT_ID = 36 ∧ up.passes 0 .custodian = true := by decide

theorem witness_StoppedHubDoesNothing : (modClk (fun c => { c with rootRuns := false }) up).runs = false ∧
    ({ up with clk := { up.clk with cold := true } } : State).runs = false ∧ unclocked (.nop 0 0) = false := by decide

theorem witness_EveryCommandCompletes : ∀ scope prio, Instr.nop 0 0 ≠ .hubColdRelease scope prio true := by decide

theorem witness_BuffersStayCanonical : up.buffersWf = true ∧ (∃ t, step up = .next t) := ⟨by decide, _, rfl⟩

theorem witness_FootprintOfEveryCommand : (∃ t, exec .framesStop up = .next t) ∧ Part.otp ∉ touched .framesStop := ⟨⟨_, rfl⟩, by decide⟩

theorem witness_PortPowerAndReset : net.portHeld 0 = false ∧ (net.port 0).on = true ∧ (net.port 0).rst = false ∧ (net.port 5).on = false ∧ (net.port 5).rst = false ∧ (net.port 0).ty ≠ 7 ∧
    ((modPort 0 (fun p => { p with rst := true }) net).port 0).rst = true ∧ ((modPort 5 (fun p => { p with rst := true }) net).port 5).on = false ∧
    ((modPort 5 (fun p => { p with rst := true }) net).port 5).rst = true ∧ ((setPort 0 (livePort 7) net).port 0).ty = 7 ∧ ((setPort 0 (livePort 7) net).port 0).on = true ∧
    (setPort 0 (livePort 7) net).portHeld 0 = false := by decide

/-- An open command on queue 0 of unit 0. -/
def opened : State := setPort 0 { net.port 0 with queues := [(0, ⟨1, 2, 3, 4, 5, 6, false, false, false⟩)] } net
def suspended : State := setPort 0 { net.port 0 with queues := [(0, ⟨1, 2, 3, 4, 5, 6, true, false, false⟩)] } net

theorem witness_CommandEvents : net.runs = true ∧ (net.port 0).live = true ∧ ¬ ((net.port 0).shCmd = 3 ∧ (net.port 0).ack = true) ∧
    mget? (net.port 0).queues 0 = none ∧ mget? (net.port 0).lastSeq 0 = none ∧
    mget? (opened.port 0).queues 0 = some ⟨1, 2, 3, 4, 5, 6, false, false, false⟩ ∧ (opened.port 0).live = true ∧
    mget? (suspended.port 0).queues 0 = some ⟨1, 2, 3, 4, 5, 6, true, false, false⟩ ∧ (net.port 5).live = false ∧
    ((setPort 0 { net.port 0 with shCmd := 3, ack := true } net).port 0).shCmd = 3 ∧
    ((setPort 0 { net.port 0 with shCmd := 3, ack := true } net).port 0).live = true := by decide

theorem witness_CounterIncrements : net.runs = true ∧ (net.port 0).live = true ∧ (true && false) = false ∧
    ¬ ((net.port 0).shCmd = 3 ∧ (net.port 0).ack = true) := by decide

theorem witness_ControlCoreDebug : (net.port 1).ty = 1 ∧ (net.port 1).live = true ∧ net.fg (F.DBG_SEL_IDX 0 1) ≤ 5 ∧
    net.fb (F.DBG_STAT_HALTED 0 1) = false ∧ (net.fs (F.DBG_STAT_HALTED 0 1) 1).fb (F.DBG_STAT_HALTED 0 1) = true ∧
    ((setPort 1 { net.port 1 with reqCyc := some 0 } net).port 1).reqCyc = some 0 ∧ (net.port 1).excl = false ∧ (net.port 1).haltLate = false ∧
    0 + 576 < net.clk.cyc := by decide

/-- Station 0 captures instruction and data records of port 1. -/
def captures : State :=
  (modStn 0 (fun x => { x with trace := { x.trace with run := true, ports := [0, 31] } }) net).fs (F.DBG_CTL_ITRACE_EN 0 1) 1

theorem witness_SecureAndTraceRecords : (net.port 1).live = true ∧ (net.port 1).ty = 1 ∧ net.portHeld 1 = false ∧ net.dbgSec 0 = false ∧
    (net.port 1).excl = false ∧ (net.stn 0).trace.run = false ∧ ((modPort 1 (fun p => { p with excl := true }) net).port 1).excl = true ∧
    captures.capturing 1 = true ∧ bitOf ((captures.stn 0).trace.portCfg (1 % 16)) 2 = true ∧ bitOf ((captures.stn 0).trace.portCfg (1 % 16)) 3 = true ∧
    captures.fb (F.DBG_CTL_ITRACE_EN 0 1) = true := by decide

theorem witness_ShearAcknowledge :
    ((modPort 0 (fun p => { p with shCmd := 1 }) net).port 0).shCmd ≠ 0 ∧ ((modPort 0 (fun p => { p with shCmd := 1 }) net).port 0).live = true ∧
    ((modPort 0 (fun p => { p with shCmd := 1 }) net).port 0).ack = false ∧ (net.port 0).shLate = false ∧
    (net.port 0).shSince + (net.port 0).shFlat + 2 ≤ net.clk.cyc := by decide

/-- A slot that watches tensor output 0 of context 1 in format 0. -/
def watch : List Nat := [1, 1, 0, 0]
def watched : State := modStn 0 (fun x => { x with stria := { x.stria with slots := [(3, watch)] } }) opened
def beat0 : Beat := ⟨1, 0, 0, 0, 0, 0, 0, 0, 0⟩
def queued : State := setStn 0 { net.stn 0 with stria := { (net.stn 0).stria with queues := [(3, [⟨3, beat0, 0⟩])] } } net

theorem witness_StriaTap : (net.port 0).live = true ∧ mget? (net.port 0).queues 0 = none ∧ (net.port 0).ended = none ∧
    (watched.port 0).ty = 0 ∧ (watched.stn 0).stria.slots = [(3, watch)] ∧ slSelects watch ⟨1, 2, 3, 4, 5, 6, false, false, false⟩ beat0 = true ∧
    slFmt watch = 0 ∧ mget? (watched.port 0).queues 0 = some ⟨1, 2, 3, 4, 5, 6, false, false, false⟩ ∧
    mget (queued.stn 0).stria.queues 3 [] = [⟨3, beat0, 0⟩] := by decide

theorem witness_StriaTap_queues : ∀ q, q ≠ 3 → mget (queued.stn 0).stria.queues q [] = [] := by
  intro q h
  show mget [(3, [_])] q [] = []
  unfold mget mget?
  rw [if_neg (fun e => h e.symm)]
  rfl


def access0 (use : StnUse) : StnAccess := { tag := 5, stn := 0, page := 0, off := 0, n := 1, peek := false, use := use }
def reading (use : StnUse) : State := modSpine (fun p => { p with reads := [access0 use] }) net

theorem witness_StationAccesses : net.runs = true ∧ ((withMsg 1 0 [] net).stn 0).inbox = [⟨1, 0, [], 0, false⟩] ∧ (withMsg 1 0 [] net).delivers 0 = true ∧ bitsOf 0 18 2 ≠ 3 ∧
    ((withMsg 0 0 [7] net).stn 0).inbox = [⟨0, 0, [7], 0, false⟩] ∧ plainRegWr ⟨0, 0, [7], 0, false⟩ = true ∧
    ((withAir 5 5 [9] (reading .posted)).stn 0).air = [⟨5, 5, [9]⟩] ∧ (reading .posted).unreachable 0 = false ∧
    (takeAccess 0 (5 % 256) (setStn 0 { net.stn 0 with air := [] } (reading .posted))).isSome = true ∧
    stationBase ≤ 0x200000 ∧ 0x200000 < deadlinePageBase ∧ net.windowOpen = true ∧ net.passes 0 .operator = true ∧ 0x200000 % 4 = 0 ∧
    stationBase ≤ 0x200002 ∧ 0x200002 < deadlinePageBase ∧ 0x200002 % 4 ≠ 0 ∧
    access0 .verifyCrc ∈ (reading .verifyCrc).spine.reads ∧ 0 + (reading .verifyCrc).readBound 0 1 < net.clk.cyc := by decide

def noted : State := setStn 0 { net.stn 0 with netErrDue := 2 } slotted
def slipped : State := setStn 0 { net.stn 0 with slipDue := true } slotted

theorem witness_NetworkErrors : net.spine.running = true ∧ (mget? net.slot.ribs 0).isSome = true ∧ net.ribDegraded 0 = false ∧ (net.rib 0).subst = false ∧
    (net.rib 0).stopped = false ∧ flitOdd 0 = false ∧ flitOdd 13 = true ∧ legalUp 5 13 = false ∧ net.upError 0 5 emptyFlit = none ∧
    5 % 16 ≠ 0 ∧ 5 % 16 ≠ 8 ∧ net.slotOwner 0 5 = none ∧ legalDown 5 13 = false ∧ wrongPlace 7 0 = true ∧ 48 % 16 = 0 ∧ legalDown 48 13 = false ∧
    flitOdd emptyFlit = true ∧ legalDown 5 emptyFlit = true ∧ wrongPlace emptyFlit 0 = false ∧ legalDown 48 emptyFlit = true ∧
    net.stnSends 0 = true ∧ net.noticeSlot 0 = false ∧ noted.noticeSlot 0 = true ∧ (noted.stn 0).announce = [] ∧ (noted.stn 0).netErrDue ≠ 0 ∧
    noted.stnSends 0 = true ∧ slipped.noticeSlot 0 = true ∧
    (slipped.stn 0).announce = [] ∧ (slipped.stn 0).netErrDue = 0 ∧ (slipped.stn 0).slipDue = true ∧ slipped.stnSends 0 = true ∧
    ((withNote (3 * 2 ^ 28 + 2) net).stn 0).noteAir = [3 * 2 ^ 28 + 2] ∧ bitsOf (3 * 2 ^ 28 + 2) 28 4 = 3 ∧
    bitsOf (3 * 2 ^ 28) 28 4 = 3 := by decide

def trains : State := modRib 0 (fun b => { b with training := true }) net

theorem witness_IsolationAndTraining : net.runs = true ∧ ((modRib 0 (fun b => { b with restoring := some 0 }) net).rib 0).restoring = some 0 ∧
    0 + 512 ≤ net.frameNow ∧ up.windowOpen = true ∧ up.passes 0 .operator = true ∧ up.fb F.CANE_CTL_ENABLE = false ∧ up.fb F.CANE_STAT_RUNNING = false ∧
    up.fb F.CANE_CTL_TRAIN = false ∧ up.fb F.SLOT_STAT_VALID = false ∧
    ((up.fs F.SLOT_STAT_VALID 1).fb F.SLOT_STAT_VALID = true ∧ bitOf (net.fg F.CANE_CTL_RETRAIN) 0 = false ∧
      (modSpine (fun p => { p with running := false }) net).spine.running = false ∧ (mget? net.slot.ribs 0).isSome = true) ∧
    (trains.rib 0).training = true ∧ trains.fb F.CANE_CTL_TRAIN = false ∧ trains.fb F.SLOT_STAT_VALID = true ∧
    (mget? trains.slot.ribs 0).map (·.tEnd) = some ((2 - 2) / 2 % 256) := by decide

def stopping : State := modSpine (fun p => { p with stopAsked := true }) net
def ready : State := (up.fs F.SLOT_STAT_VALID 1).fs F.SLOT_STAT_MATCH 1

theorem witness_FrameControl : ready.windowOpen = true ∧ ready.passes 0 .operator = true ∧ ready.fb F.CANE_CTL_ENABLE = false ∧
    ready.fb F.CANE_STAT_RUNNING = false ∧ ready.fb F.CANE_CTL_TRAIN = false ∧ ready.fb F.SLOT_STAT_VALID = true ∧ ready.fb F.SLOT_STAT_MATCH = true ∧
    stopping.spine.running = true ∧ stopping.spine.stopAsked = true ∧ 512 * (stopping.spine.frame + 1) ≤ stopping.spineCyc ∧
    net.spine.running = true ∧ net.spine.stopAsked = false ∧ 512 * (net.spine.frame + 1) ≤ net.spineCyc ∧ net.runs = true ∧
    ((withMsg 2 0 [0, 0, 0, 0, 0] net).stn 0).inbox = [⟨2, 0, [0, 0, 0, 0, 0], 0, false⟩] ∧
    (withMsg 2 0 [0, 0, 0, 0, 0] net).delivers 0 = true := by decide

def red1 : Reduction := { tag := 1, group := 3, target := 0, values := [{ w := 1, op := 0, source := 0x000600 }], use := .lehr, startFrame := some 3 }
def reducing : State := modSpine (fun p => { p with reds := [red1] }) net

theorem witness_Reductions : ((withMsg 3 7 [0, 0, 0] net).stn 0).inbox = [⟨3, 7, [0, 0, 0], 0, false⟩] ∧ (withMsg 3 7 [0, 0, 0] net).delivers 0 = true ∧ (net.stn 0).holdsRed red1 = false ∧ (∀ q ∈ (net.stn 0).reds, q.tag ≠ 7 % 256 ∨ q.more = false) ∧
    reducing.spine.reds = [red1] ∧ red1.startFrame = some 3 ∧ reducing.sampleDue 3 = true ∧ red1.samples = [] ∧ red1.use = .lehr ∧
    redDue { red1 with samples := [(0, [some 1])] } reducing = true ∧ red1.values.length ≤ red1.results.length + 1 ∧ 2 ≠ red1.tag ∧
    red1.results.length + 1 < (red1.values ++ red1.values).length := by decide

theorem witness_ImageStoreAndTime : up.windowOpen = true ∧ up.passes 0 .operator = true ∧ up.slotOpen = true ∧ up.fb F.SLOT_STAT_BUSY = false ∧
    up.fg F.SLOT_WPTR_WPTR < slotMax ∧ slotMax ≤ (up.fs F.SLOT_WPTR_WPTR slotMax).fg F.SLOT_WPTR_WPTR ∧ (up.fs F.SLOT_WPTR_WPTR slotMax).slotOpen = true ∧
    (up.fs F.SLOT_STAT_BUSY 1).fb F.SLOT_STAT_BUSY = true ∧ up.clk.warm = false ∧
    (viewOf (up.fs F.SLOT_STAT_BUSY 1).slotBytes ((up.fs F.SLOT_STAT_BUSY 1).fg F.SLOT_WPTR_WPTR)).check (up.fs F.SLOT_STAT_BUSY 1).slot.keyHash ≠ none ∧
    ((up.fs F.TIME_CTL_LOCK 1).fb F.TIME_CTL_LOCK = true ∧ up.fb F.TIME_STAT_RUN = false ∧ up.fb F.SLOT_STAT_LIVE = false ∧ net.fb F.SLOT_STAT_LIVE = true) ∧
    up.fb F.TIME_CTL_LOCK = false ∧ 0x100000000 ≤ 0x1AAAAAAAB ∧ 0 < 0x100000000 := by decide

def loads : State := setStn 0 { net.stn 0 with tsPend := true } (net.fs (F.STN_TS_STAT_LOAD_FRAME 0) 3905)
def counting : State := setStn 0 { net.stn 0 with accRuns := true } net

theorem witness_ImageStoreAndTime_stations : (loads.stn 0).tsPend = true ∧ loads.spine.running = true ∧ (loads.rib 0).subst = false ∧
    loads.fg (F.STN_TS_STAT_LOAD_FRAME 0) = loads.spine.frame % 65536 ∧ (counting.stn 0).cold = false ∧ counting.spine.running = true ∧ (counting.rib 0).subst = false ∧ (counting.stn 0).accRuns = true ∧
    (net.stn 0).accRuns = false ∧ (net.stn 0).passThrough = false ∧ (net.stn 0).mark + 1024 ≤ net.clk.cyc := by decide

def peer1 : GatherPeer := { node := 9, ent := 0 }
def pinging : State := { cores with gather := { cores.gather with round := some 1, peers := [peer1], session := 4, start := 0 } }
def jobbed : State := ({ pinging with job := { pinging.job with peers := [9] } }).fs F.TIME_STAT_RUN 1

theorem witness_GatherRounds : pinging.coreUp 1 = true ∧ pinging.gather.round.isSome = true ∧ pinging.gather.sent < 16 * pinging.gather.peers.length ∧
    pinging.gather.peers[pinging.gather.sent % pinging.gather.peers.length]? = some peer1 ∧
    pinging.gather.start + 2000 * (pinging.gather.sent / pinging.gather.peers.length) ≤ pinging.ts ∧ pinging.fb F.SEC_CTL_TEST_EN = false ∧ pinging.noticeStall pinging.core = false ∧ pinging.fb F.PTB_PORT_FAB_NOTICE = false ∧
    jobbed.fb F.TIME_STAT_RUN = true ∧ 9 ∈ jobbed.job.peers ∧ pinging.fb F.TIME_STAT_RUN = false ∧
    pinging.gather.peers.find? (fun p => p.node == 9) = some peer1 ∧
    (0, 3, pinging.ts) ∈ [(0, 3, pinging.ts)] ∧ pinging.ts ≤ pinging.ts + 50000 ∧
    ({ cores with gather := { cores.gather with between := true, round := none, start := 0 } } : State).gather.between = true ∧
    0 + 10000000 ≤ cores.ts ∧ ((jobbed.fs F.GATHER_CTL_PERIOD 1).fg F.GATHER_CTL_PERIOD ≠ 0) ∧ jobbed.fb F.GATHER_STAT_BUSY = false ∧
    jobbed.gather.last + 1 * 1000000000 ≤ jobbed.ts ∧ (jobbed.fs F.GATHER_STAT_BUSY 1).fb F.GATHER_STAT_BUSY = true ∧
    pinging.past (0 + 5) = true := by decide

def ended (late : Bool) : State :=
  ({ pinging with gather := { pinging.gather with sent := 16, open_ := [], cmd := some ⟨0, 0⟩, began := if late then 0 else pinging.ts } }).fs F.GATHER_STAT_BUSY 1

theorem witness_GatherRounds_end : ∀ late, (ended late).gather.isOver pinging.ts = true ∧ (ended late).gatherLate = late ∧ (ended late).gather.cmd.isSome = true ∧
    (ended true).fb F.GATHER_STAT_BUSY = true ∧ (ended true).past ((ended true).gather.began + (ended true).gather.budget) = true := by decide

def cut0 (committed : Bool) : Cut := { n := 4, commit := 4, tick := 84, cls := 0, srcs := 1, committed := committed, who := [] }
def shearing (f : ShearState → ShearState) : State := modShear f tree

theorem witness_ShearTreeCare : net.windowOpen = true ∧ net.passes 0 .operator = true ∧ net.fb F.SLOT_STAT_LIVE = true ∧ up.fb F.SLOT_STAT_LIVE = false ∧
    tree.fb F.SHEAR_STAT_ENABLED = true ∧ tree.idleUp = true ∧ tree.idleDown 0 = true ∧
    (shearing (fun h => { h with runs := [{ stop := false, stn := 0, n := 2000190 }] })).idleUp = false ∧ tree.shear.symbols = [] ∧ tree.shear.cuts = [] ∧ tree.shear.resumes = [] ∧
    (∃ x ∈ (shearing (fun h => { h with symbols := [(512 * net.frameNow + 256, 1)] })).shear.symbols, x.2 ≠ 5 ∧ x.1 = 512 * tree.frameNow + 256) ∧ net.populated 0 = true ∧ (tree.fs (F.STN_SH_CFG_VALID 0) 1).fb (F.STN_SH_CFG_VALID 0) = true ∧
    tree.spine.running = true ∧ 512 * tree.frameNow + 256 ≤ tree.spineCyc ∧ tree.shear.testNext ≤ tree.frameNow ∧
    ((shearing (fun h => { h with testFrame := some 1024 })).shear.testFrame = some 1024 ∧ 1024 % 1024 = 0 ∧
      (tree.fs (F.STN_SH_STAT_LOCKED 0) 1).fb (F.STN_SH_STAT_LOCKED 0) = true ∧ 512 * 1024 + 256 + tree.shE + 4 ≤ tree.spineCyc) ∧
    512 * 1024 + 256 + 2 * tree.shE + 4 + 2 ≤ tree.spineCyc ∧ tree.fb F.SHEAR_STAT_LOCKED = true ∧ tree.shear.runs = [] ∧ tree.shear.reqs = [] ∧
    (shearing (fun h => { h with replied := some 0 })).shear.replied = some (1024 % 1024) ∧ tree.ribDegraded 0 = false ∧ (tree.rib 0).subst = false ∧
    tree.shear.replied ≠ some (1024 % 1024) := by decide


theorem witness_ShearCuts :
    (dueDecision (shearing (fun h => { h with reqs := [⟨2, 4, 0, 1, 4, .none⟩] })) = some 4 ∧
      (shearing (fun h => { h with reqs := [⟨2, 4, 0, 1, 4, .none⟩] })).shear.cuts = []) ∧
    ((shearing (fun h => { h with cuts := [cut0 false] })).shear.cuts.find? (fun c => !c.committed) = some (cut0 false) ∧ 4 ≤ tree.spineCyc) ∧
    (∃ r ∈ (shearing (fun h => { h with cuts := [cut0 false], reqs := [⟨2, 4, 0, 1, 4, .none⟩] })).shear.reqs, r.d ≤ (cut0 false).commit) ∧
    dueCut (shearing (fun h => { h with cuts := [cut0 true] })) = some (cut0 true) ∧ tree.treeOn = true ∧
    (∃ c ∈ (shearing (fun h => { h with cutAts := [⟨⟨0, 0⟩, 100, 0, false⟩] })).shear.cutAts, c.x ≤ tree.spineCyc + tree.shH) ∧
    ((shearing (fun h => { h with resumes := [⟨100, false, none⟩] })).shear.resumes.find? (fun r => !r.driven) = some ⟨100, false, none⟩ ∧
      firstClear 6 100 [] ≤ tree.spineCyc) ∧
    (shearing (fun h => { h with resumes := [⟨100, true, none⟩] })).shear.resumes.find?
      (fun r => r.driven && decide (r.issue + tree.shE + 4 ≤ tree.spineCyc)) = some ⟨100, true, none⟩ ∧
    (tree.fs (F.STN_SH_STAT_LOCKED 0) 1).fb (F.STN_SH_STAT_LOCKED 0) = true ∧ (tree.rib 0).subst = false ∧ decodeSymbol 31 0 = none ∧ decodeSymbol 30 6 = some 5 ∧
    decodeSymbol 30 9 = some 4 ∧ 31 ≠ 30 ∧ tree.spineCyc % 512 ≠ tree.testCycle 0 % 512 ∧
    ({ tree with clk := { tree.clk with cyc := 512 * 3906 + 260 } } : State).spineCyc % 512 = tree.testCycle 0 % 512 ∧ tree.fb (F.STN_SH_STAT_SKEW 0) = false ∧
    tree.pins.carFrom + 5 ≤ tree.clk.cyc ∧
    ((modRib 0 (fun b => { b with subst := true }) tree).rib 0).subst = true ∧
    ((tree.fs (F.STN_SH_STAT_LOCKED 0) 1).fs (F.STN_SH_STAT_SKEW 0) 1).fb (F.STN_SH_STAT_SKEW 0) = true ∧
    (tree.fs F.SHEAR_CTL_EXT_EN 1).fb F.SHEAR_CTL_EXT_EN = true ∧ (tree.fs F.SHEAR_CTL_EXT_EN 1).treeOn = true ∧ tree.windowOpen = true ∧
    tree.passes 0 .operator = true := by decide

def readingOut : State := modStn 0 (fun x => { x with readout := some { rdtag := 0, types := 63, hit := some 0, skew := false, groups := [0], reading := true } }) net
def asked : ReadReq := ⟨100, 3, 0, 63, .register⟩
def readout0 : Readout := { req := asked, rdtag := 0, start := 0, deadline := 5, dir := 0, left := [(0, 0)] }
def reads : State := { net with cullet := { net.cullet with running := some readout0 } }

theorem witness_CulletReadout : ((withMsg 4 0 [100, 0] net).stn 0).inbox = [⟨4, 0, [100, 0], 0, false⟩] ∧ (withMsg 4 0 [100, 0] net).delivers 0 = true ∧
    [((100 : Nat), (0 : Nat))].find? (fun e => e.1 == [100, 0].getD 0 0 + 2 ^ 32 * [100, 0].getD 1 0) = some (100, 0) ∧
    (∃ x g, (readingOut.stn 0).readout = some x ∧ x.groups = [g] ∧ x.reading = true) ∧
    net.windowOpen = true ∧ net.passes 0 .operator = true ∧ 63 % 64 ≠ 0 ∧ (net.fs F.SHEAR_COUNT_CUTS 1).fg F.SHEAR_COUNT_CUTS ≠ 0 ∧
    net.cullet.running = none ∧ net.cullet.next = none ∧ net.clk.warm = false ∧
    ({ net with cullet := { net.cullet with next := some asked } } : State).nextDir = some 0 ∧
    ((withAir 1 0 [] net).stn 0).air = [⟨1, 0, []⟩] ∧ reads.cullet.running = some readout0 ∧ reads.past readout0.deadline = true := by
  refine ⟨by decide, by decide, by decide, ⟨_, _, rfl, rfl, rfl⟩, by decide, by decide, by decide, by decide, by decide, by decide, by decide, by decide, by decide, by decide, by decide⟩

/-- Every directory entry is valid and pinned. -/
def fullDir : State := (List.range 8).foldl (fun s d => s.wr (R.CULLET_DIR d 3) 0xA0) { net with cullet := { net.cullet with next := some asked } }

theorem witness_CulletReadout_full : fullDir.nextDir = none ∧ fullDir.cullet.next = some asked ∧ fullDir.cullet.running = none := by decide

theorem witness_CounterNetwork : net.windowOpen = true ∧ net.passes 0 .operator = true ∧ net.populated 0 = true ∧ net.unreachable 0 = false ∧
    eventReserved (0 % 256) = false ∧ ((withMsg 5 0 [4000, 1, 2, 3] net).stn 0).inbox = [⟨5, 0, [4000, 1, 2, 3], 0, false⟩] ∧ (withMsg 5 0 [4000, 1, 2, 3] net).delivers 0 = true ∧ 0 % 16 = 0 ∧ 1 % 16 = 1 ∧ 2 % 16 = 2 ∧
    ((modStn 0 (fun x => { x with cfgPend := [(0, 1, 2, 3, 0)] }) net).stn 0).cfgPend = [(0, 1, 2, 3, b2n false)] ∧
    ((modStn 0 (fun x => { x with cfgPend := [(0, 1, 2, 3, 1)] }) net).stn 0).cfgPend = [(0, 1, 2, 3, b2n true)] ∧ net.sampleDue 0 = true ∧
    ((modStn 0 (fun x => { x with samples := [(0, [1, 1, 0])] }) net).stn 0).samples = [(0, [1, 1, 0])] ∧
    ((modStn 0 (fun x => { x with samples := [(0, [3, 1, 0])] }) net).stn 0).samples = [(0, [3, 1, 0])] := by decide

theorem witness_CounterNetwork_notes : slotted.stnSends 0 = true ∧ slotted.noticeSlot 0 = true ∧
    (slotted.stn 0).announce = [] ∧ leastCode ((modStn 0 (fun x => { x with wrapCtr := [64] }) slotted).stn 0).wrapCtr = some 64 ∧ bitsOf 64 6 2 = 1 ∧
    ((withNote (2 ^ 28) net).stn 0).noteAir = [2 ^ 28] ∧ bitsOf (2 ^ 28) 28 4 = 1 ∧ bitsOf (2 ^ 28) 6 2 = 0 ∧
    (net.fs F.CTR_CTL_WRAP_EN 1).fb F.CTR_CTL_WRAP_EN = true ∧ ((withAir 3 0 [] net).stn 0).air = [⟨3, 0, []⟩] ∧
    ((withAir 6 0 [] net).stn 0).air = [⟨6, 0, []⟩] := by decide

def blocked : State := modTrc (fun t => { t with blocks := [⟨0, 1⟩] }) up

theorem witness_TraceRegisters : up.runs = true ∧ up.windowOpen = true ∧ 2 ≤ up.classOf 0 ∧ bitOf 0 14 = false ∧ bitOf 0 15 = false ∧
    (takeRing 0 (up.classOf 0) up).fb F.TRC_STAT_RUN = false ∧ bitOf 0 4 = false ∧ 0 < 4 ∧ 8 % 64 ≤ 40 ∧ bitsOf 8 8 6 < 8 % 64 ∧
    (takeRing 0 (blocked.classOf 0) blocked).trace.blocks.findIdx? (fun b => b.pos == 0 % 2 ^ 24 / 64 * 64) = some 0 := by decide

def event0 : SeqEvent := { cmp := 0, central := true }
def armed : State := (modTrc (fun t => { t with events := [event0] }) up).fs F.SEQ_STAT_ARMED 1
def popped : State := (modTrc (fun t => { t with events := [] }) armed).fsat F.SEQ_STAT_EVENTS 1
def held : State := ((net.fs F.SEC_CTL_TEST_EN 1).fs F.PTB_CTL_RING_EN 1).fs F.PTB_RING_HOLD 1

theorem witness_TraceFlow : armed.trace.events = [event0] ∧ armed.fb F.SEQ_STAT_ARMED = true ∧ popped.ruleMatches 0 0 event0 = false ∧
    popped.ruleMatches 0 1 event0 = false ∧ ((armed.fs (F.TRC_CMP_CTL_SRC 0) 7).fg (F.TRC_CMP_CTL_SRC 0) = 7 ∧ bitOf armed.trace.timeFired 0 = false ∧
      cmpVal (armed.cmpWords 0) ≤ armed.ts) ∧
    slotted.stnSends 0 = true ∧ slotted.noticeSlot 0 = true ∧ (slotted.stn 0).announce = [] ∧ (slotted.stn 0).wrapCtr = [] ∧
    ((modStn 0 (fun x => { x with trace := { x.trace with hits := 1 } }) slotted).stn 0).trace.hits ≠ 0 ∧
    ((withNote (2 * 2 ^ 28 + 1) net).stn 0).noteAir = [2 * 2 ^ 28 + 1] ∧ bitsOf (2 * 2 ^ 28 + 1) 28 4 = 2 ∧
    ((withAir 0 0 [1] net).stn 0).air = [⟨0, 0, [1]⟩] ∧ net.ringHeld = false ∧ net.trace.wq = [] ∧ held.ringHeld = true ∧
    held.wqBytes + 64 * blockLines (traceBytes ⟨0, 0, [1]⟩).length ≤ 16384 ∧
    ((modStn 0 (fun x => { x with trace := { x.trace with openBytes := [1] } }) net).stn 0).trace.openBytes ≠ [] ∧
    0 + 512 * max 1 (net.stn 0).trace.flush ≤ net.spineCyc ∧
    ((modStn 0 (fun x => { x with trace := { x.trace with actNext := [(true, 1, 0)] } }) net).stn 0).trace.actNext = [(true, 1, 0)] ∧ (net.stn 0).trace.run = false ∧
    ((modStn 0 (fun x => { x with trace := { x.trace with run := true } }) net).stn 0).trace.run = true ∧
    net.frameDue 0 = true ∧ ((withMsg 7 4 [] net).stn 0).inbox = [⟨7, 4, [], 0, false⟩] ∧ (withMsg 7 4 [] net).delivers 0 = true ∧ 4 % 16 = 4 ∧ 0 % 16 = 0 ∧ 1 % 16 = 1 ∧ 2 % 16 = 2 ∧ 3 % 16 = 3 ∧
    ((modStn 0 (fun x => { x with trace := { x.trace with cfgPend := [(0, 0, [])] } }) net).stn 0).trace.cfgPend = [(0, 0, [])] := by decide

theorem witness_TraceFlow_rules : ((popped.fs (F.SEQ_RULE_EN 0 0) 1).fs (F.SEQ_RULE_MATCH 0 0) 1).ruleMatches 0 0 event0 = true ∧
    ((popped.fs (F.SEQ_RULE_EN 0 1) 1).fs (F.SEQ_RULE_MATCH 0 1) 1).ruleMatches 0 0 event0 = false ∧
    ((popped.fs (F.SEQ_RULE_EN 0 1) 1).fs (F.SEQ_RULE_MATCH 0 1) 1).ruleMatches 0 1 event0 = true := by decide

set_option maxRecDepth 20000 in
theorem witness_TraceFlow_full : held.ringHeld = true ∧
    16384 < (modTrc (fun t => { t with wq := List.replicate 256 (0, ⟨0, 0, [1]⟩, none) }) held).wqBytes + 64 * blockLines (traceBytes ⟨0, 0, [1]⟩).length := by decide


def wd0 : Watchdog := { port := 0, queue := 0, cmd := ⟨1, 2, 3, 4, 5, 6, false, false, false⟩, begun := 0, budget := 1, d := 1 }
def timed : State := modStn 0 (fun x => { x with accRuns := true, acc := 10 ^ 15 * 2 ^ 32, wd := [(0, wd0)] }) net
def periodic : State := modPort 0 (fun p => { p with pwRun := true, pwFrom := 0 }) ((timed.wr (R.STN_PW_SEL 0) 1).fs (F.STN_PW_PER_PERIOD 0 0) 5)

theorem witness_BudgetsAndEpochs : ({ net with dl := { net.dl with rowLoads := [(0, 1, [], none, 0)] } } : State).dl.rowLoads = [(0, 1, [], none, 0)] ∧
    net.sampleDue 0 = true ∧ (timed.stn (0 / 16)).wd = [(0, wd0)] ∧ wd0.port = 0 % 16 ∧ wd0.rem = none ∧ wd0.d < timed.stnTs (0 / 16) ∧
    periodic.pwPeriod 0 = (1, 5) ∧ (periodic.port 0).pwRun = true ∧ periodic.held 0 = false ∧ (periodic.port 0).pwFrom + 5 < periodic.stnTs 0 ∧
    net.windowOpen = true ∧ net.passes 0 .operator = true ∧ (net.fs (F.HB_PER_PERIOD 0) 5).fg (F.HB_PER_PERIOD 0) ≠ 0 ∧ bitOf 1 0 = true ∧
    bitOf 0 0 = false ∧ net.passes 0 .open_ = true ∧
    net.past (net.rd64 (R.HB_LAST_LO 0) (R.HB_LAST_HI 0) + scaleBudget (mget net.dl.hbScale 0 16) (net.fg (F.HB_PER_PERIOD 0))) = true ∧
    (net.wr64 (R.HB_LAST_LO 0) (R.HB_LAST_HI 0) (10 ^ 15)).past ((net.wr64 (R.HB_LAST_LO 0) (R.HB_LAST_HI 0) (10 ^ 15)).rd64 (R.HB_LAST_LO 0) (R.HB_LAST_HI 0)) = false ∧ 0 < 0x800 ∧ 0 % 4 = 0 ∧ dlPageWritable 0 = true :=
  ⟨rfl, by decide⟩

def beating : State := ({ net with dl := { net.dl with hbArmed := [0] } }.fs (F.HB_PER_PERIOD 0) 5).fs (F.HB_CTL_EN 0) 1
def inNotice (sent : Nat) (f : Option Nat) : State :=
  ({ net with clk := { net.clk with cyc := 512 * 3906 + 70 }, dl := { net.dl with epochSent := sent, epochFrame := f } }).fs F.DL_STAT_EPOCH_BUSY 1

theorem witness_BudgetsAndEpochs_epochs : 0 ∈ beating.dl.hbArmed ∧ beating.fg (F.HB_PER_PERIOD 0) ≠ 0 ∧ beating.fb (F.HB_CTL_EN 0) = true ∧
    beating.past (beating.rd64 (R.HB_LAST_LO 0) (R.HB_LAST_HI 0) + scaleBudget (mget beating.dl.hbScale 0 16) (beating.fg (F.HB_PER_PERIOD 0))) = true ∧
    (inNotice 0 none).fb F.DL_STAT_EPOCH_BUSY = true ∧ (inNotice 0 none).spine.running = true ∧ 4 ≤ (inNotice 0 none).spineCyc % 512 / 16 ∧
    (inNotice 0 none).spineCyc % 512 / 16 ≤ 15 ∧ (inNotice 1 (some 3905)).dl.epochFrame = some ((inNotice 1 (some 3905)).frameNow - 1) ∧
    0 < (inNotice 1 (some 3905)).frameNow ∧
    ((modStn 0 (fun x => { x with noteIn := [2 ^ 28 + 2 ^ 8 + 5] }) net).stn 0).noteIn = [2 ^ 28 + 2 ^ 8 + 5] ∧ bitsOf (2 ^ 28 + 2 ^ 8 + 5) 28 4 = 1 ∧
    (let u : State := (net.slot.stns.map (·.1)).foldl (fun s n =>
        ((s.stn n).epochPend.filter (fun e => s.frameDue e.1)).foldl (fun s e => stnSetEpoch n e.2.1 e.2.2 s)
          (modStn n (fun x => { x with epochPend := x.epochPend.filter (fun e => !s.frameDue e.1) }) s)) (inNotice 2 (some 3900))
     u.dl.epochFrame = some 3900 ∧ u.fb F.DL_STAT_EPOCH_BUSY = true ∧ u.frameDue (3900 + 2) = true) := by decide

def pend0 : PendFault := ⟨0, 0x0101, 0, 0, 0, 0⟩
def waiting : State := { net with dl := { net.dl with pend := [pend0] } }

/-- An entry closed just now without its record. -/
def closed0 : PendFault := ⟨0, 0, 0, 0, 10 ^ 15, 0⟩

theorem witness_FaultFlow_late : closed0 ∈ ({ net with dl := { net.dl with closed := [closed0] } } : State).dl.closed ∧ samePend 0 0 0 closed0 = true ∧
    net.past (closed0.ts + net.fltWait) = false := by decide

theorem witness_FaultFlow : ((withMsg 0 (512 + 2) [1] net).stn 0).inbox = [⟨0, 514, [1], 0, false⟩] ∧ (withMsg 0 514 [1] net).delivers 0 = true ∧ 514 % 2 ^ 12 = 512 + 2 ∧ slotted.stnSends 0 = true ∧ slotted.noticeSlot 0 = true ∧
    ((modStn 0 (fun x => { x with announce := [0x0101] }) slotted).stn 0).announce = [0x0101] ∧ ((withNote 0x0101 net).stn 0).noteAir = [0x0101] ∧
    bitsOf 0x0101 28 4 = 0 ∧ net.dl.logged = [] ∧ ((withAir 2 0 [] net).stn 0).air = [⟨2, 0, []⟩] ∧
    (∃ r : FaultRec, r = FaultRec.ofBytes (bytesOfWords (List.replicate 16 0)) ∧ samePend 0 r.code (match r.unit with | some u => u % 16 | none => 0) ⟨0, r.code, 0, 0, 0, 0⟩ = true) ∧
    net.dl.pend = [] ∧ net.dl.closed = [] ∧ waiting.dl.pend.find? (fun p => waiting.past (p.ts + waiting.fltWait)) = some pend0 := by
  refine ⟨by decide, by decide, by decide, by decide, by decide, by decide, by decide, by decide, by decide, by decide, ⟨_, rfl, by decide⟩, by decide, by decide, by decide⟩

def sread : StriaRead := { slot := 0, first := 0, n := 1, clear := false, cmd := none, fences := [(0, [])], left := [0], deadline := 5 }
def sreading : State := { net with stria := { net.stria with running := some sread } }

theorem witness_StriaFlow : ((withMsg 6 0 [4000, 1] net).stn 0).inbox = [⟨6, 0, [4000, 1], 0, false⟩] ∧ (withMsg 6 0 [4000, 1] net).delivers 0 = true ∧ 0 % 16 = 0 ∧ 1 % 16 = 1 ∧ 2 % 16 = 2 ∧
    ((modStn 0 (fun x => { x with stria := { x.stria with slotPend := [(0, 1, [])] } }) net).stn 0).stria.slotPend = [(0, 1 + 64 * b2n false, [])] ∧ 1 < 64 ∧
    ((modStn 0 (fun x => { x with stria := { x.stria with slotPend := [(0, 65, [])] } }) net).stn 0).stria.slotPend = [(0, 1 + 64 * b2n true, [])] ∧ net.sampleDue 0 = true ∧
    ((modStn 0 (fun x => { x with stria := { x.stria with settlePend := [(0, 1, 0, 1, 0)] } }) net).stn 0).stria.settlePend = [(0, 1, 0, 1, 0)] ∧
    ((withAir 4 0 [0] net).stn 0).air = [⟨4, 0, [0]⟩] ∧ bitOf 0 6 = false ∧ net.stria.running = none ∧ bitOf 64 6 = true ∧
    sreading.stria.running = some sread ∧ sread.slot ≠ 1 % 64 ∧ sread.slot = 0 % 64 ∧ (mget? sread.fences 0).isSome = true ∧
    sread.deferBytes + (⟨4, 0, [0]⟩ : UpMsg).bytes ≤ 65536 ∧ 0 ∈ sread.left ∧ [0].getD 0 0 % 256 = sread.rtag ∧ sread.left ≠ [] ∧
    sreading.past sread.deadline = true ∧ sreading.past (10 ^ 15) = false := by decide

def dumps (phase : Nat) : State := ({ cores with lehr := { cores.lehr with running := true } }).fs F.LEHR_STAT_PHASE phase
def dumpReq : DumpReq := { scope := 0xFFFF, noScratch := false, unit := none, src := .register }
def line0 (use : LineUse) : LineReq := { tag := 1, ident := 0, addr := 0, data := [], size := 64, use := use, issued := 0 }
def lines (use : LineUse) : State := { net with bus := { net.bus with dmpRd := [line0 use], dmpWr := [line0 use], fabWr := [line0 use], fabRd := [line0 use] } }
def fresh (use : LineUse) : LineReq := { line0 use with issued := 10 ^ 15 }
def freshLines (use : LineUse) : State := { net with bus := { net.bus with dmpRd := [fresh use] } }

theorem witness_DumpControl : cores.windowOpen = true ∧ cores.passes 0 .operator = true ∧ cores.lehr.running = false ∧ bitOf 1 0 = true ∧
    (cores.fs F.LEHR_CTL_EN 1).lehrTakes = true ∧ (cores.fs F.LEHR_CTL_EN 0).lehrTakes = false ∧ (dumps 3).lehr.running = true ∧ 2 ≤ (dumps 3).lehrPhase ∧
    (dumps 3).past (dumps 3).lehr.deadline = true ∧ (dumps 3).lehrPhase ≠ 6 ∧ (dumps 6).lehrPhase = 6 ∧ (dumps 6).lehr.lateP5 = false ∧
    cores.clk.warm = false ∧ (cores.fs F.LEHR_CTL_EN 1).lehrCoreUp = true ∧ (cores.fs F.LEHR_CTL_EN 0).fb F.LEHR_CTL_EN = false ∧
    ({ cores with lehr := { cores.lehr with asked := [dumpReq] } } : State).lehr.asked = [dumpReq] ∧
    takeLine 1 net.ts (lines (.rolsal 3)).bus.dmpRd = some (line0 (.rolsal 3), []) ∧ net.lineLate net.rdTmo (fresh (.rolsal 3)) = false ∧ takeLine 1 net.ts (freshLines (.rolsal 3)).bus.dmpRd = some (fresh (.rolsal 3), []) ∧
    net.lineLate net.rdTmo (line0 .spill) = true ∧ net.lateLine net.rdTmo net.bus.dmpRd = none ∧
    (lines .spill).lateLine net.rdTmo (lines .spill).bus.fabRd = some (line0 .spill) ∧
    takeLine 1 net.ts (lines .spill).bus.dmpWr = some (line0 .spill, []) ∧
    takeLine 1 net.ts (lines .spill).bus.fabWr = some (line0 .spill, []) ∧
    (lines .spill).lateLine net.rdTmo (lines .spill).bus.dmpRd = some (line0 .spill) ∧
    (lines .spill).lateLine net.wrTmo (lines .spill).bus.dmpWr = some (line0 .spill) := by decide

theorem witness_DumpControl_read : ∃ who : Reader, (fresh (.read who)).use = .read who ∧ takeLine 1 net.ts (freshLines (.read who)).bus.dmpRd = some (fresh (.read who), []) ∧
    (freshLines (.read who)).lineLate net.rdTmo (fresh (.read who)) = false :=
  ⟨.lehr, by decide, by decide, by decide⟩

def ladder0 (step : Nat) : State := { cores with ladder := { cores.ladder with running := true, step := step, start := cores.ts, budget := 1000, seq := 1 } }
def overdue (step : Nat) : State := { cores with ladder := { cores.ladder with running := true, step := step, start := 0, budget := 1000, seq := 1 } }
def collect0 : Collect := { num := 1, step := 0, unit := 0, part := 0, escalated := false, reqTs := 0, doneTs := 0, deadline := 5, stns := [], cmds := [] }
def reheats : State := { cores with ladder := { cores.ladder with reheat := true, reheatStep := 1 } }

theorem witness_ResetLadder : cores.windowOpen = true ∧ cores.passes 0 .operator = true ∧ bitOf (2 ^ 20) 20 = true ∧ cores.coreReady 0 = true ∧
    cores.fb F.RST_CTL_LOCK = false ∧ (cores.fs F.RST_CTL_LOCK 1).fb F.RST_CTL_LOCK = true ∧
    ({ cores with ladder := { cores.ladder with collects := [collect0] } } : State).ladder.collects.find? (fun c => !c.isOver && cores.past c.deadline) = some collect0 ∧
    (ladder0 0).ladder.running = true ∧ (ladder0 0).ladder.nextWord = none ∧ (ladder0 0).ladder.accepted = none ∧
    (ladder0 0).past ((ladder0 0).ladder.start + (ladder0 0).ladder.budget) = false ∧ (ladder0 3).ladder.step = 3 ∧ (ladder0 0).ladder.step ≠ 3 ∧
    (overdue 3).past ((overdue 3).ladder.start + (overdue 3).ladder.budget) = true ∧ (overdue 3).ladder.step = 3 ∧ (overdue 1).ladder.step ≠ 3 ∧
    reheats.passes 3 .open_ = true ∧ reheats.ladder.reheat = true ∧ reheats.ladder.reheatStep ≠ 0 ∧ bitOf (reheats.fg F.RHT_STAT_DONE) 4 = false ∧
    ((modLadder (fun l => { l with reheatStep := 3 }) reheats).markOpen 4 = false) ∧
    ([4, 5, 6, 7].find? (fun m => reheats.markOpen m && reheats.past (reheats.markDeadline m)) = some 4) := by decide

def fan0 : FanOut := { nclass := 3, bytes := [], left := [9], budgetFrom := 0 }
def fans (running : Bool) : State := { cores with notice := { cores.notice with running := if running then some fan0 else none, queue := if running then [] else [fan0] } }
def noticeOf (job : Nat) : List Nat := [3] ++ List.replicate 39 0 ++ toLe 8 job ++ List.replicate 16 0
def hears (job : Nat) : State := ({ cores with job := { cores.job with peers := [9], jobId := job } }).fs F.NOTICE_CTL_RX_EN 1

theorem witness_PeerNotices : (fans false).notice.running = none ∧ (fans false).notice.queue = [fan0] ∧ (fans false).coreUp 1 = true ∧
    (fans true).notice.running = some fan0 ∧ fan0.left = [9] ∧ (fans true).notice.lastSend = none ∧ (fans true).clk.warm = false ∧ (fans true).noticeStall (fans true).core = false ∧
    ((((cores.fs F.SEC_CTL_TEST_EN 1).fs F.PTB_CTL_FAB_EN 1).fs F.PTB_PORT_FAB_NOTICE 1).fs F.PTB_PORT_FAB_HOLD 15).noticeStall 14 = true ∧
    ((((cores.fs F.SEC_CTL_TEST_EN 1).fs F.PTB_CTL_FAB_EN 1).fs F.PTB_PORT_FAB_NOTICE 1).fs F.PTB_PORT_FAB_HOLD 15).noticeStall 31 = false ∧
    (noticeOf 7).length = 64 ∧ leAt (noticeOf 7) 0 1 = 3 ∧ (hears 7).fb F.NOTICE_CTL_RX_EN = true ∧ 9 ∈ (hears 7).job.peers ∧ leAt (noticeOf 7) 0x28 8 = (hears 7).job.jobId ∧
    ((hears 7).fs F.NOTICE_CTL_RX_EN 0).fb F.NOTICE_CTL_RX_EN = false ∧
    ({ cores with notice := { cores.notice with tracked := [⟨9, 0, 5⟩] } } : State).notice.tracked.find? (fun t => cores.past t.deadline) = some ⟨9, 0, 5⟩ := by decide

def key0 : CmdKey := ⟨0, 0⟩
def cont (f : ContState → ContState) : State := { cores with cont := f cores.cont }
def verify0 : VerifyJob := { cmd := key0, node := 9, start := 0, deadline := 5, sent := true }
def copy0 : CopyJob := { cmd := key0, start := 0, deadline := 5 }
def digest0 (use : DigestUse) : DigestJob := { use := use, addr := 0, len := 64 }
def partner : State := ({ hears 0 with cont := cores.cont }).fs F.CONT_CTL_MV_RX_EN 1
def verify1 : VerifyJob := { verify0 with deadline := 2 ^ 62 }
def verifying : State := withCmd (List.replicate 63 0) 0x72 (cont (fun c => { c with mv := some verify1 }))
/-- What the budgets of verification and copy leave. -/
def inTime (s : State) : State := expireCopy (expireVerify s)

theorem witness_ContinuityServices : cores.windowOpen = true ∧ cores.passes 0 .operator = true ∧ cores.ledgerRuns = false ∧
    cores.fb F.CONT_CTL_LEDGER_EN = false ∧ (plainWrite R.CONT_CTL (BitVec.ofNat 32 0xFFFFFFFF) cores).fb F.CONT_CTL_LEDGER_EN = true ∧
    (cores.fs F.CONT_CTL_LEDGER_EN 1).fb F.CONT_CTL_LEDGER_EN = true ∧
    (plainWrite R.CONT_CTL (BitVec.ofNat 32 0) (cores.fs F.CONT_CTL_LEDGER_EN 1)).fb F.CONT_CTL_LEDGER_EN = false ∧
    (cont (fun c => { c with copy := some copy0 })).cont.copy = some copy0 ∧ copy0.failing = none ∧ cores.past copy0.deadline = true ∧
    (cont (fun c => { c with rcd := some { cmd := key0, start := 0, deadline := 5 } })).cont.rcd = some { cmd := key0, start := 0, deadline := 5 } ∧
    (cont (fun c => { c with chk := some { cmd := key0, start := 0, deadline := 5 } })).cont.chk = some { cmd := key0, start := 0, deadline := 5 } ∧
    (cont (fun c => { c with mv := some verify0 })).cont.mv = some verify0 ∧ cores.past verify0.deadline = true ∧
    (cont (fun c => { c with scan := some {} })).cont.scan = some {} ∧ LineJob.isOver {} = true ∧ cores.fb F.CONT_CTL_MV_RX_EN = false ∧
    partner.fb F.CONT_CTL_MV_RX_EN = true ∧ 9 ∈ partner.job.peers ∧ regionOk 0 64 = true ∧ 0 >>> 40 = partner.node ∧
    partner.rd64 R.MV_RX_BASE_LO R.MV_RX_BASE_HI ≤ 0 ∧ partner.cont.digests = [] := by decide

theorem witness_ContinuityServices_digests :
    0 + 64 ≤ (partner.fs F.MV_RX_LEN_MIB 1).rd64 R.MV_RX_BASE_LO R.MV_RX_BASE_HI + (partner.fs F.MV_RX_LEN_MIB 1).fg F.MV_RX_LEN_MIB * 2 ^ 20 ∧
    (inTime verifying).cont.mv = some verify1 ∧ ((inTime verifying).cmd? verify1.cmd).isSome = true ∧ verify1.sent = true ∧ verify1.rsp = none ∧ verify1.node = 9 ∧
    (∀ c ∈ (inTime verifying).cmd? verify1.cmd, c.fld 0x28 2 = 0 ∧ c.fld 0x18 8 = 0 ∧ c.fld 0x20 8 = 0) ∧
    (∀ u ∈ [DigestUse.partner 9 0, .verify, .copySrc, .copyDst], (inTime (cont (fun c => { c with digests := [digest0 u] }))).cont.digests = [digest0 u] ∧
      (digest0 u).job.isOver = true ∧ (digest0 u).use = u) ∧ (inTime cores).lehr.running = false  ∧
    (∀ j, verifying.cont.mv = some j → verifying.past j.deadline = false) ∧ (∀ j, verifying.cont.copy = some j → verifying.past j.deadline = false) := by
  refine ⟨by decide, by decide, by decide, by decide, by decide, by decide, by decide, by decide, by decide, ?_, ?_⟩
  · intro j h; cases h; decide
  · intro j h; cases h


def hostReq0 (u : HostUse) (since : Nat) : HostReq := { tag := 1, ident := 0, addr := 0, bytes := [], len := 64, use := u, issued := since }
def hostOut (u : HostUse) (since : Nat) : State := { net with bus := { net.bus with hostRd := [hostReq0 u since], hostWr := [hostReq0 u since] } }
/-- Ring 0 and its event ring belong to the PF. -/
def owned : State := (net.fs (F.SQ_CFG_OWNER 0) 3).fs (F.EQ_CFG_OWNER 0) 3
def ringUp : State := (((owned.fs (F.SQ_STAT_STATE 0) stRunning).fs (F.EQ_STAT_STATE 0) stRunning).fs (F.SQ_CTL_EN 0) 1).fs (F.SQ_TAIL_INDEX 0) 1
def wantsInt : State := { (net.fs (F.EQ_STAT_ARMED 0) 1) with rings := { net.rings with unsig := [(0, [(0, 0)])] } }

theorem witness_RingControl : net.runs = true ∧ net.windowOpen = true ∧ owned.windowOpen = true ∧ ringUp.windowOpen = true ∧ owned.fg (F.SQ_CFG_OWNER 0) = 3 ∧ net.fg (F.SQ_CFG_OWNER 0) ≠ 5 ∧
    1 % 65536 < ringUp.sqSize 0 ∧ ringUp.fb (F.SQ_CTL_EN 0) = true ∧ ringUp.fg (F.SQ_CFG_OWNER 0) = 3 ∧
    ringUp.sqPending 0 + (1 + ringUp.sqSize 0 - ringUp.fg (F.SQ_TAIL_INDEX 0)) % ringUp.sqSize 0 ≤ ringUp.sqSize 0 - 1 ∧
    net.fb (F.SQ_CTL_EN 0) = false ∧ owned.fg (F.EQ_CFG_OWNER 0) = 3 ∧ bitOf 0 16 = false ∧
    (0 + net.eqSize 0 - net.fg (F.EQ_HEAD_INDEX 0)) % net.eqSize 0 ≤ (net.fg (F.EQ_TAIL_INDEX 0) + net.eqSize 0 - net.fg (F.EQ_HEAD_INDEX 0)) % net.eqSize 0 ∧
    net.passes 3 (ringNeed 3) = true ∧ net.fg (F.SQ_STAT_STATE 0) = stDisabled ∧ net.fg (F.EQ_STAT_STATE 0) = stDisabled ∧
    ringUp.fg (F.SQ_STAT_STATE 0) = stRunning ∧ ringUp.fg (F.EQ_STAT_STATE 0) = stRunning ∧ net.clk.warm = false ∧
    ((List.range 64).map (fun i => (ringUp.rings.turn + i) % 64)).find? (fun r => ringUp.fetchRoom r != 0) = some 0 ∧
    (let s : State := { ringUp with rings := { ringUp.rings with fetched := [(⟨0, 0⟩, [])] } }
     s.rings.fetched.find? (fun d => s.fg (F.SQ_STAT_STATE d.1.ring) == stRunning && s.fg (F.SQ_HEAD_INDEX d.1.ring) == d.1.idx) = some (⟨0, 0⟩, [])) ∧
    takeHost 1 net.ts (hostOut (.fetch 0 0 1) 0).bus.hostRd = some (hostReq0 (.fetch 0 0 1) 0, []) ∧
    (List.range 64).find? (fun r => wantsInt.signalDue r) = some 0 := by decide

theorem witness_RingZero : net.windowOpen = true ∧ net.passes 3 (ringNeed 3) = true ∧
    (∀ st ∈ [0, 1, 2, 3, 4], (net.fs (F.SQ_STAT_STATE 63) st).fg (F.SQ_STAT_STATE 63) = st ∧ (net.fs (F.EQ_STAT_STATE 63) st).fg (F.EQ_STAT_STATE 63) = st) := by decide

theorem witness_HostAnswersAndResets : takeHost 1 net.ts (hostOut .report 0).bus.hostRd = some (hostReq0 .report 0, []) ∧
    (hostOut .report 0).lateHost (hostOut .report 0).bus.hostRd = some (hostReq0 .report 0, []) ∧
    takeHost 1 net.ts (hostOut .report 0).bus.hostWr = some (hostReq0 .report 0, []) ∧
    (hostOut .report 0).lateHost (hostOut .report 0).bus.hostWr = some (hostReq0 .report 0, []) ∧
    net.windowOpen = true ∧ net.passes 0 .operator = true ∧ net.rd64 R.INT_PEND_LO R.INT_PEND_HI = 0 := by decide

theorem witness_CompletionEntry : ∀ op ∈ [1, 2], ∃ c, (withCmd (List.replicate 63 0) op net).cmd? ⟨0, 0⟩ = some c ∧ c.phase = .accepted ∧ c.opcode = op ∧
    (withCmd (List.replicate 63 0) op net).runs = true ∧ (withCmd (List.replicate 63 0) op net).mayStart ⟨0, 0⟩ = true ∧ c.suppressed = false ∧
    (withCmd (List.replicate 63 0) op net).fg (F.EQ_STAT_STATE ((withCmd (List.replicate 63 0) op net).fg (F.SQ_CFG_EQ 0))) = stRunning ∧
    (withCmd (List.replicate 63 0) op net).earlier ⟨0, 0⟩ = [] := by
  intro op h; simp only [List.mem_cons, List.not_mem_nil, or_false] at h
  rcases h with rfl | rfl <;> exact ⟨_, rfl, by decide⟩

/-- A command of an opcode whose byte i is b. -/
def cmdWith (i b op : Nat) (s : State) : State := withCmd ((List.replicate 63 0).set (i - 1) b) op s
/-- The command of that state, started. -/
def started (s : State) : State := modCmd ⟨0, 0⟩ (fun c => { c with phase := .running 0 }) s

/-- A command of each opcode of the counter and trace families meets what its clause asks. -/
theorem witness_CounterAndTraceCommands :
    (∀ op ∈ [0x10, 0x11, 0x12, 0x13, 0x20, 0x21, 0x22, 0x23, 0x24], ∃ c, (withCmd (List.replicate 63 0) op net).cmd? ⟨0, 0⟩ = some c ∧ c.phase = .accepted ∧ c.opcode = op ∧
      (withCmd (List.replicate 63 0) op net).runs = true ∧ (withCmd (List.replicate 63 0) op net).mayStart ⟨0, 0⟩ = true ∧
      (withCmd (List.replicate 63 0) op net).spine.running = true ∧
      (started (withCmd (List.replicate 63 0) op net)).traceMay op c.owner c.cls = true) := by
  intro op h; simp only [List.mem_cons, List.not_mem_nil, or_false] at h
  rcases h with rfl | rfl | rfl | rfl | rfl | rfl | rfl | rfl | rfl <;> exact ⟨_, rfl, by decide⟩

def stimming : State := (net.fs F.TRC_CTL_STIM_EN 1).fs F.TRC_STAT_RUN 1

theorem witness_CounterAndTraceCommands_fields :
    (∃ c, (cmdWith 0x12 1 0x13 net).cmd? ⟨0, 0⟩ = some c ∧ bitOf (c.fld 0x12 1) 0 = true) ∧
    (∃ c, (withCmd (List.replicate 63 0) 0x21 net).cmd? ⟨0, 0⟩ = some c ∧ bitOf (c.fld 0x10 1) 0 = false ∧
      (takeRing c.owner c.cls (started (withCmd (List.replicate 63 0) 0x21 net))).fb F.TRC_STAT_FROZEN = false) ∧
    (∃ c, (cmdWith 0x10 1 0x22 net).cmd? ⟨0, 0⟩ = some c ∧ bitOf (c.fld 0x10 1) 0 = true) ∧
    (∃ c, (withCmd (List.replicate 63 0) 0x23 net).cmd? ⟨0, 0⟩ = some c ∧ (withCmd (List.replicate 63 0) 0x23 net).rolsal.drain = false ∧
      (∀ d ∈ (started (withCmd (List.replicate 63 0) 0x23 net)).rings.cmds, d.key = ⟨0, 0⟩ ∨ d.opcode ≠ 0x23)) ∧
    (∃ c, (withCmd (List.replicate 63 0) 0x24 stimming).cmd? ⟨0, 0⟩ = some c ∧ (takeRing c.owner c.cls (started (withCmd (List.replicate 63 0) 0x24 stimming))).fb F.TRC_CTL_STIM_EN = true ∧
      (takeRing c.owner c.cls (started (withCmd (List.replicate 63 0) 0x24 stimming))).fb F.TRC_STAT_RUN = true) :=
  ⟨⟨_, rfl, by decide⟩, ⟨_, rfl, by decide⟩, ⟨_, rfl, by decide⟩, ⟨_, rfl, by decide⟩, ⟨_, rfl, by decide⟩⟩

def striaSlot : State := tree.fs (F.STRIA_CFG_ARMED 0) 1

theorem witness_StriaAndCutCommands :
    (∀ op ∈ [0x30, 0x31, 0x40, 0x42, 0x43], ∃ c, (withCmd (List.replicate 63 0) op striaSlot).cmd? ⟨0, 0⟩ = some c ∧ c.phase = .accepted ∧ c.opcode = op ∧
      (withCmd (List.replicate 63 0) op striaSlot).mayStart ⟨0, 0⟩ = true ∧ (withCmd (List.replicate 63 0) op striaSlot).treeOn = true) ∧
    (∃ c, (withCmd (List.replicate 63 0) 0x31 striaSlot).cmd? ⟨0, 0⟩ = some c ∧ (started (withCmd (List.replicate 63 0) 0x31 striaSlot)).exists_ c = true) := by
  refine ⟨fun op h => ?_, ⟨_, rfl, by decide⟩⟩
  simp only [List.mem_cons, List.not_mem_nil, or_false] at h
  rcases h with rfl | rfl | rfl | rfl | rfl <;> exact ⟨_, rfl, by decide⟩


/-- A CUT_AT whose target is in the future. -/
def cutAtState : State := withCmd (((((List.replicate 63 0).set 0x17 0xFF).set 0x18 0xFF).set 0x19 0xFF).set 0x1A 0xFF) 0x41 tree

theorem witness_StriaAndCutCommands_cutAt :
    (∃ c, cutAtState.cmd? ⟨0, 0⟩ = some c ∧ c.opcode = 0x41 ∧ c.phase = .accepted ∧ cutAtState.mayStart ⟨0, 0⟩ = true ∧ cutAtState.treeOn = true ∧
      cutAtState.shear.cutAts.length < 8 ∧ (started cutAtState).cutAtEntry c = true ∧ (started cutAtState).spineCyc + (started cutAtState).shH ≤ (started cutAtState).cutAtCycle c) :=
  ⟨_, rfl, by decide⟩

/-- A read of one cell of a slot of four. -/
def striaRead0 : State := (withCmd ((((List.replicate 63 0).set 0x13 1).set 0x20 1)) 0x32 tree).fs (F.STRIA_STORE_NCELL 0) 4

theorem witness_StriaAndCutCommands_read : ∃ c, striaRead0.cmd? ⟨0, 0⟩ = some c ∧ c.opcode = 0x32 ∧ c.phase = .accepted ∧ striaRead0.mayStart ⟨0, 0⟩ = true ∧
      (started striaRead0).exists_ c = true ∧ (started striaRead0).fieldsOk c = true := ⟨_, rfl, by decide⟩

def contReady : State := (cores.fs F.CONT_CTL_LEDGER_EN 1).fs F.LEHR_CTL_EN 1
def peersUp : State := { contReady with job := { contReady.job with peers := [0] } }

set_option maxRecDepth 20000 in
theorem witness_DumpResetContinuityCommands :
    (∀ op ∈ [0x52, 0x70, 0x71, 0x72, 0x73], ∃ c, (withCmd (List.replicate 63 0) op peersUp).cmd? ⟨0, 0⟩ = some c ∧ c.phase = .accepted ∧ c.opcode = op ∧
      (withCmd (List.replicate 63 0) op peersUp).runs = true ∧ (withCmd (List.replicate 63 0) op peersUp).mayStart ⟨0, 0⟩ = true ∧ c.suppressed = false ∧
      bitOf (c.fld 0x10 1) 1 = false ∧ (started (withCmd (List.replicate 63 0) op peersUp)).serviceBusy c = false ∧
      (started (withCmd (List.replicate 63 0) op peersUp)).exists_ c = true) := by
  intro op h; simp only [List.mem_cons, List.not_mem_nil, or_false] at h
  rcases h with rfl | rfl | rfl | rfl | rfl <;> exact ⟨_, rfl, by decide⟩

set_option maxRecDepth 20000 in
theorem witness_DumpResetContinuityCommands_ladder :
    (∃ c t, (withCmd (List.replicate 63 0) 0x50 peersUp).cmd? ⟨0, 0⟩ = some c ∧ c.opcode = 0x50 ∧ c.phase = .accepted ∧ (withCmd (List.replicate 63 0) 0x50 peersUp).mayStart ⟨0, 0⟩ = true ∧
      askDump ({ scope := c.fld 0x10 2, noScratch := bitOf (c.fld 0x12 1) 0, unit := if bitOf (c.fld 0x12 1) 1 then some (c.fld 0x14 2) else none, src := .command ⟨0, 0⟩ } : DumpReq)
        (started (withCmd (List.replicate 63 0) 0x50 peersUp)) = (true, t)) ∧
    (∃ c, (withCmd (List.replicate 63 0) 0x51 (dumps 3)).cmd? ⟨0, 0⟩ = some c ∧ c.opcode = 0x51 ∧ c.phase = .accepted ∧ (withCmd (List.replicate 63 0) 0x51 (dumps 3)).mayStart ⟨0, 0⟩ = true ∧
      (withCmd (List.replicate 63 0) 0x51 (dumps 3)).lehr.running = true) ∧
    (∃ c t, (cmdWith 0x10 2 0x60 peersUp).cmd? ⟨0, 0⟩ = some c ∧ c.opcode = 0x60 ∧ c.phase = .accepted ∧ (cmdWith 0x10 2 0x60 peersUp).mayStart ⟨0, 0⟩ = true ∧
      requestReset ⟨c.fld 0x10 1, c.fld 0x12 2, c.fld 0x11 1, .command ⟨0, 0⟩⟩ (started (cmdWith 0x10 2 0x60 peersUp)) = (.started, t)) ∧
    (∃ c, (withCmd (List.replicate 63 0) 0x61 (peersUp.fs F.RST_NUM_NUM 1)).cmd? ⟨0, 0⟩ = some c ∧ c.opcode = 0x61 ∧ c.phase = .accepted ∧
      (withCmd (List.replicate 63 0) 0x61 (peersUp.fs F.RST_NUM_NUM 1)).mayStart ⟨0, 0⟩ = true ∧ (started (withCmd (List.replicate 63 0) 0x61 (peersUp.fs F.RST_NUM_NUM 1))).exists_ c = true) := by
  refine ⟨⟨_, _, rfl, by decide, by decide, by decide, rfl⟩, ⟨_, rfl, by decide⟩, ⟨_, (requestReset ⟨2, 0, 0, .command ⟨0, 0⟩⟩ (started (cmdWith 0x10 2 0x60 peersUp))).2, rfl, by decide, by decide, by decide, ?_⟩, ⟨_, rfl, by decide⟩⟩
  exact Prod.ext (by decide) rfl

set_option maxRecDepth 20000 in
theorem witness_JobBudgetAndAccessCommands :
    (∀ op ∈ [0x80, 0x90, 0x91, 0xA0], ∃ c, (withCmd (List.replicate 63 0) op peersUp).cmd? ⟨0, 0⟩ = some c ∧ c.phase = .accepted ∧ c.opcode = op ∧
      (withCmd (List.replicate 63 0) op peersUp).runs = true ∧ (withCmd (List.replicate 63 0) op peersUp).mayStart ⟨0, 0⟩ = true ∧
      (withCmd (List.replicate 63 0) op peersUp).fb F.GATHER_STAT_BUSY = false ∧ (started (withCmd (List.replicate 63 0) op peersUp)).populated (c.fld 0x10 2) = true ∧
      (started (withCmd (List.replicate 63 0) op peersUp)).unreachable (c.fld 0x10 2) = false ∧ bitOf (c.fld 0x13 1) 0 = false) := by
  intro op h; simp only [List.mem_cons, List.not_mem_nil, or_false] at h
  rcases h with rfl | rfl | rfl | rfl <;> exact ⟨_, rfl, by decide⟩

set_option maxRecDepth 20000 in
theorem witness_JobBudgetAndAccessCommands_others :
    (∃ c, (withCmd (List.replicate 63 0) 0x81 peersUp).cmd? ⟨0, 0⟩ = some c ∧ c.opcode = 0x81 ∧ c.phase = .accepted ∧ (withCmd (List.replicate 63 0) 0x81 peersUp).mayStart ⟨0, 0⟩ = true ∧
      (withCmd (List.replicate 63 0) 0x81 peersUp).job.peers ≠ [] ∧
      (∀ u : State, u = started (withCmd (List.replicate 63 0) 0x81 peersUp) → ∃ t, formFanOut 3 (fun n => noticeBytes u 3 n (u.stepByte none) 0 0 0 0 0 0 0 0xFFFFFFFF (c.fld 0x10 16)) u.ts (some ⟨0, 0⟩) u = (true, t))) ∧
    (∃ c, (cmdWith 0x18 1 0x82 net).cmd? ⟨0, 0⟩ = some c ∧ c.opcode = 0x82 ∧ c.phase = .accepted ∧ (cmdWith 0x18 1 0x82 net).mayStart ⟨0, 0⟩ = true ∧
      (started (cmdWith 0x18 1 0x82 net)).jobBusy c = false ∧ c.fld 0x18 2 ≠ 0) ∧
    (∃ c, (cmdWith 0x13 1 0xA0 net).cmd? ⟨0, 0⟩ = some c ∧ c.opcode = 0xA0 ∧ c.phase = .accepted ∧ (cmdWith 0x13 1 0xA0 net).mayStart ⟨0, 0⟩ = true ∧
      (started (cmdWith 0x13 1 0xA0 net)).populated (c.fld 0x10 2) = true ∧ (started (cmdWith 0x13 1 0xA0 net)).unreachable (c.fld 0x10 2) = false ∧ bitOf (c.fld 0x13 1) 0 = true) := by
  refine ⟨⟨_, rfl, by decide, by decide, by decide, by decide, ?_⟩, ⟨_, rfl, by decide⟩, ⟨_, rfl, by decide⟩⟩
  rintro u rfl; exact ⟨_, if_neg (by decide)⟩


/-! ### Mailboxes, gaffer cores, the Rolsal port, privilege -/

/-- Channel 0 joins identities 3 and 4. -/
def bind0 : State := ((net.fs (F.BIND_ID_A 0) 3).fs (F.BIND_ID_B 0) 4).fs (F.BIND_VALID 0) 1
def posted (x : MbxDir) : State := setMdir 0 0 { x with go := true } bind0

theorem witness_Mailboxes : bind0.runs = true ∧ bind0.windowOpen = true ∧ bind0.passes 3 .open_ = true ∧ bind0.bound 0 = true ∧ 3 = bind0.senderOf 0 0 ∧
    4 = bind0.receiverOf 0 0 ∧ 4 ≠ bind0.senderOf 0 0 ∧ (bind0.mdir 0 0).go = false ∧ bind0.lehrChannel 0 0 = false ∧
    (posted {}).windowOpen = true ∧ (posted {}).bound 0 = true ∧ 3 = (posted {}).senderOf 0 0 ∧ 4 = (posted {}).receiverOf 0 0 ∧ ((posted {}).mdir 0 0).go = true ∧
    ((posted {}).mdir 0 0).claimed = false ∧ ((posted {}).mdir 0 0).delayed = none ∧ (posted {}).fb F.SEC_CTL_TEST_EN = false ∧
    ((setChan 0 { crossFrom := some 0 } bind0).chan 0).crossFrom = some 0 ∧ 0 + 64 ≤ (setChan 0 { crossFrom := some 0 } bind0).core ∧
    ((posted { delayed := some (0, 1) }).mdir 0 0).delayed = some (0, 1) ∧ 0 ≤ (posted {}).core ∧
    net.passes 0 .operator = true ∧ net.fb F.BIND_CTL_LOCK = false ∧ (net.mdir 0 0).go = false ∧ (net.mdir 0 1).go = false ∧
    bitOf 0x10403 16 = true ∧ 0x10403 % 64 ≠ bitsOf 0x10403 8 6 ∧ 0x10403 % 64 < 53 ∧ bitsOf 0x10403 8 6 < 53 ∧
    net.rd (R.BIND 0) ≠ BitVec.ofNat 32 (0x10403 % 64 + 2 ^ 8 * bitsOf 0x10403 8 6 + 2 ^ 16) ∧
    0 ∉ net.job.peers ∧ 0 ∈ peersUp.job.peers ∧ peersUp.windowOpen = true ∧ remoteOffset 0x020000 = true := by decide

theorem witness_MailboxAnswer : ((posted {}).mdir 0 0).go = true ∧ ((posted {}).mdir 0 0).senderGone = false ∧
    ((posted { senderGone := true }).mdir 0 0).go = true ∧ ((posted { senderGone := true }).mdir 0 0).senderGone = true := by decide

/-- Core 0 is released, and its watchdog is far away. -/
def steady : State := modCore 0 (fun c => { c with wdDead := 2 ^ 60 }) cores
def expired : State := modCore 0 (fun c => { c with wdDead := 0 }) cores

theorem witness_GafferCores : net.windowOpen = true ∧ net.passes 0 .operator = true ∧ (net.fs (fRun 0) 0).fb (fRun 0) = false ∧ net.fb F.GAF_PATCH_STAT_BUSY = false ∧
    cores.fb (fRun 0) = true ∧ 3 ≤ cores.classOf 0 ∧ cores.passes 3 .operator = true ∧ cores.classOf 3 < 3 ∧ cores.clk.warm = false ∧
    (cores.fs F.GAF_STAT_READY_0 0).fb (fRun 0) = true ∧ (cores.fs F.GAF_STAT_READY_0 0).coreReady 0 = false ∧ (cores.fs F.GAF_STAT_READY_0 0).coreHalted 0 = false ∧
    (dumps 3).coreUp 0 = true ∧ ((dumps 3).gcore 0).work = none ∧ (dumps 3).pendingWork 0 = [1] ∧
    steady.fb (fRun 0) = true ∧ steady.coreHalted 0 = false ∧ steady.wdPast 0 = false ∧ expired.wdPast 0 = true := by decide

def haltedCore : State := haltCore 0 3 0 steady
def deferring (t : Nat) : State := modCore 0 (fun c => { c with deferFrom := some t }) steady
def breaking : State := steady.fs (F.GAF_PU_CFG_EN 0) 1

theorem witness_GafferDebug : steady.windowOpen = true ∧ steady.passes 0 .custodian = true ∧ steady.coreReady 0 = true ∧ steady.coreHalted 0 = false ∧
    (steady.gcore 0).deferFrom = none ∧ steady.wdPast 0 = false ∧ haltedCore.windowOpen = true ∧ haltedCore.coreReady 0 = true ∧ haltedCore.coreHalted 0 = true ∧
    net.coreReady 0 = false ∧ haltedCore.fg (F.GAF_DBG_SEL_IDX 0) = 0 ∧ (haltedCore.fs (F.GAF_DBG_SEL_IDX 0) 1).fg (F.GAF_DBG_SEL_IDX 0) = 1 ∧
    (haltedCore.fs (F.GAF_DBG_SEL_IDX 0) 1).coreHalted 0 = true ∧ (haltedCore.fs (F.GAF_DBG_SEL_IDX 0) 32).fg (F.GAF_DBG_SEL_IDX 0) = 32 ∧
    net.fg F.GAF_MEM_ADDR_ADDR / 4 * 4 = 0 ∧ (net.fs F.GAF_MEM_ADDR_ADDR 0x10020000).fg F.GAF_MEM_ADDR_ADDR / 4 * 4 = 0x10020000 ∧
    (net.fs F.GAF_MEM_ADDR_ADDR 0x1003FFFC).fg F.GAF_MEM_ADDR_ADDR / 4 * 4 = 0x1003FFFC ∧
    ((deferring steady.core).gcore 0).deferFrom = some steady.core ∧ (deferring steady.core).core ≤ steady.core + 256 ∧ ((deferring 0).gcore 0).deferFrom = some 0 ∧
    0 + 256 ≤ (deferring 0).core ∧ (deferring 0).wdPast 0 = false ∧
    breaking.fb (fRun 0) = true ∧ breaking.coreHalted 0 = false ∧ breaking.fb (F.GAF_PU_CFG_EN 0) = true ∧ breaking.isPatch 0 = false ∧ breaking.wdPast 0 = false ∧
    (steady.gcore 0).wdRem = none := by decide

def checking : State := net.fs F.GAF_PATCH_STAT_BUSY 1
def patched : State := ((net.fs (F.GAF_PU_CFG_KIND 0) 1).fs (F.GAF_PU_CFG_EN 0) 1).wrN (R.GAF_PU_CRC 0) 0

set_option maxRecDepth 20000 in
theorem witness_SignedPatches : net.windowOpen = true ∧ net.passes 0 .custodian = true ∧ net.fg F.GAF_BLOB_WPTR_WPTR = 0 ∧
    (net.fs F.GAF_BLOB_WPTR_WPTR 65532).fg F.GAF_BLOB_WPTR_WPTR = 65532 ∧ (net.fs F.GAF_BLOB_WPTR_WPTR 65536).fg F.GAF_BLOB_WPTR_WPTR = 65536 ∧
    up.fwRuns = false ∧ cores.fwRuns = true ∧ net.isPatch 0 = false ∧ patched.isPatch 0 = true ∧ net.clk.warm = false ∧ checking.fb F.GAF_PATCH_STAT_BUSY = true ∧
    (checking.fs F.GAF_PATCH_STAT_BUSY 0).blobCheck checking.stageBytes = some 1 ∧ patched.fb (F.GAF_PU_CFG_EN 0) = true ∧
    (patched.wrN (R.GAF_PU_CRC 0) (crc32c (List.replicate 32 0))).isPatch 0 = true ∧ (patched.wrN (R.GAF_PU_CRC 0) (crc32c (List.replicate 32 0))).fb (F.GAF_PU_CFG_EN 0) = true ∧
    crc32c (bytesOfWords ((patched.wrN (R.GAF_PU_CRC 0) (crc32c (List.replicate 32 0))).patchLine 0)) = (patched.wrN (R.GAF_PU_CRC 0) (crc32c (List.replicate 32 0))).fg (F.GAF_PU_CRC_CRC 0) ∧
    crc32c (bytesOfWords ((putLine 0 [1] patched).patchLine 0)) ≠ patched.fg (F.GAF_PU_CRC_CRC 0) := by decide


/-- A blob without entries that fails no check but, by its signature. -/
def blob0 : List Nat := toLe 4 0x48435450 ++ [3, 0, 0, 0] ++ toLe 4 128 ++ [0, 0, 1, 0] ++ List.replicate 112 0
def staged : State :=
  let s := ((net.fs F.GAF_BLOB_WPTR_WPTR 128).fs F.GAF_PATCH_STAT_BUSY 1).fs F.GAF_FW_VER_ROM_BUILD 0
  { (modGaf (fun g => { g with sram := (List.range 32).map (fun i => (sramStage + i, (wordsOf blob0).getD i 0)) }) s) with
    otp := { s.otp with vals := [(6, ofLe (sha256 (List.replicate 32 0)))] } }

set_option maxRecDepth 100000 in
/-- The signature check is a free function (log entry 3), so that the blob passes is shown where that check passes. -/
theorem witness_SignedPatches_passes (h : ∀ k m g, Config.ed25519Verify k m g = true) :
    staged.clk.warm = false ∧ staged.fb F.GAF_PATCH_STAT_BUSY = true ∧ (staged.fs F.GAF_PATCH_STAT_BUSY 0).blobCheck staged.stageBytes = none := by
  refine ⟨by decide, by decide, ?_⟩
  simp only [State.blobCheck, h]
  decide


def session (cls : Nat) (f : RolsalState → RolsalState) : State :=
  modRs (fun r => f { r with lockout := false, lastReq := 10 ^ 15, sessClass := cls, auth := { r.auth with st := 3 } }) net
def dcert : List Nat := toLe 4 0x54524344 ++ [3, 0, 1, 0] ++ toLe 4 0 ++ [0xFF, 0xFF, 0xFF, 0] ++ List.replicate 144 0
/-- A session that was challenged and verifies a chain of one certificate. -/
def verifies : State :=
  let s := modRs (fun r => { r with lockout := false, auth := { r.auth with st := 2, challenged := true, wptr := 260, input := [1, 0, 0, 0] ++ dcert ++ List.replicate 96 0 } }) net
  { s with otp := { s.otp with vals := [(3, ofLe (sha256 (List.replicate 32 0)))] } }

set_option maxRecDepth 20000 in
theorem witness_RolsalSessions : net.portAlive = true ∧ (session 2 id).sessIdle = false ∧ (session 2 id).sessOld = false ∧ (session 2 (fun r => { r with lastReq := 0 })).sessIdle = true ∧ (session 2 id).rolsal.lockout = false ∧ (expireSession (session 2 id)).rolsal.auth.waitUntil ≤ (expireSession (session 2 id)).ts ∧
    ((expireSession (session 2 (fun r => { r with auth := { r.auth with waitUntil := 2 ^ 60 } }))).ts < (expireSession (session 2 (fun r => { r with auth := { r.auth with waitUntil := 2 ^ 60 } }))).rolsal.auth.waitUntil) ∧
    (expireSession (session 2 id)).rolsal.auth.wptr < 512 ∧ (expireSession (session 2 id)).hasSession = true ∧
    (∃ v, v = renewMac (expireSession (session 2 id)).rolsal.auth.sk (expireSession (session 2 id)).rolsal.auth.seq) ∧ (∃ v, v ≠ renewMac (expireSession (session 2 id)).rolsal.auth.sk (expireSession (session 2 id)).rolsal.auth.seq) ∧
    (modRs (fun r => { r with auth := { r.auth with st := 2 } }) net).rolsal.auth.st = 2 ∧
    (modRs (fun r => { r with auth := { r.auth with st := 2 } }) net).authCheck (modRs (fun r => { r with auth := { r.auth with st := 2 } }) net).rolsal.auth = some 1 ∧
    (session 2 (fun r => { r with idleTmo := 1, lastReq := 0 })).past ((session 2 (fun r => { r with idleTmo := 1, lastReq := 0 })).rolsal.lastReq + (if (session 2 (fun r => { r with idleTmo := 1, lastReq := 0 })).rolsal.idleTmo = 0 then 1000 else (session 2 (fun r => { r with idleTmo := 1, lastReq := 0 })).rolsal.idleTmo) * 1000000) = true ∧
    (session 2 (fun r => { r with auth := { r.auth with expires := some 0 } })).rolsal.auth.expires = some 0 ∧ (session 2 id).past 0 = true ∧
    (session 2 id).windowOpen = true ∧ (session 2 id).passes 3 .operator = true ∧ (session 2 id).rolsal.sessClass ≠ 3 ∧
    (session 3 id).rolsal.sessClass = 3 ∧ (session 3 id).classOf 3 < 3 := by
  refine ⟨by decide, by decide, by decide, by decide, by decide, by decide, by decide, by decide, by decide, ⟨_, rfl⟩, ⟨_, Nat.succ_ne_self _⟩, by decide, by decide, by decide, by decide, by decide, by decide, by decide, by decide, by decide, by decide⟩

set_option maxRecDepth 100000 in
/-- As for a blob: the signature check is a free function (log entry 3). -/
theorem witness_RolsalSessions_grant (h : ∀ k m g, Config.ed25519Verify k m g = true) :
    verifies.portAlive = true ∧ verifies.rolsal.auth.st = 2 ∧ verifies.authCheck verifies.rolsal.auth = none := by
  refine ⟨by decide, by decide, ?_⟩
  simp only [State.authCheck, h]
  decide

def rsAcc (win : Nat) (read : Bool) (ans : Option (Bool × Nat)) (start : Nat) : RsAccess := { n := 0, read := read, win := win, reg := 8, start := start, answer := ans }
def pendingAcc (win : Nat) (read : Bool) (ans : Option (Bool × Nat)) (start : Nat) : State := session 3 (fun r => { r with acc := some (rsAcc win read ans start), addr := 1 })

theorem witness_RolsalPackets : net.portAlive = true ∧ net.rolsal.lockout = true ∧ bitOf 0x8003 0 = true ∧ rqRead 0x8003 = true ∧ rqGood 0x8003 = true ∧ rqWin 0x8003 = 0 ∧ rqReg 0x8003 = 0 ∧
    (session 2 id).portAlive = true ∧ (session 2 id).rolsal.lockout = false ∧ bitOf 3 0 = true ∧ rqGood 3 = false ∧
    bitOf 0x23 0 = true ∧ rqGood 0x23 = true ∧ rqRead 0x23 = true ∧ rqWin 0x23 = 0 ∧ rqReg 0x23 = 2 ∧ bitOf 0x8017 0 = true ∧ rqGood 0x8017 = true ∧ rqRead 0x8017 = true ∧
    rqWin 0x8017 ≠ 0 ∧ (portNow (session 1 id)).rsMay (rqWin 0x8017) = false ∧ (portNow (session 2 id)).rsMay (rqWin 0x8017) = true ∧
    (portNow (session 2 (fun r => { r with accErr := true }))).rsMay (rqWin 0x8017) = true ∧ (portNow (session 2 (fun r => { r with accErr := true }))).rsSticky = true ∧
    (portNow (session 2 id)).rsSticky = false ∧ (portNow (session 2 id)).rsPending = false ∧ (portNow (session 2 id)).rolsal.lastRead ≠ some (rqKey 0x8017) ∧ isC (rqWin 0x8017) (rqReg 0x8017) = false ∧
    bitOf 0x8087 0 = true ∧ rqGood 0x8087 = true ∧ rqRead 0x8087 = true ∧ (portNow (session 2 id)).rsMay (rqWin 0x8087) = true ∧ isC (rqWin 0x8087) (rqReg 0x8087) = true ∧
    bitOf 0x8011 0 = true ∧ rqGood 0x8011 = true ∧ rqRead 0x8011 = false ∧ rqWin 0x8011 = 0 ∧
    bitOf 0x85 0 = true ∧ rqGood 0x85 = true ∧ rqRead 0x85 = false ∧ rqWin 0x85 ≠ 0 ∧ (portNow (session 1 id)).rsMay (rqWin 0x85) = false ∧ (portNow (session 2 id)).rsMay (rqWin 0x85) = true ∧
    (portNow (session 2 id)).rolsal.lastWrite ≠ some (rqKey 0x85) ∧ isC (rqWin 0x85) (rqReg 0x85) = true := by decide

theorem witness_RolsalPackets_pending : (expireSession (pendingAcc 1 true none 0)).rsPending = true ∧ (pendingAcc 1 true none 0).rolsal.lockout = false ∧ (pendingAcc 1 true none 0).rolsal.acc = some (rsAcc 1 true none 0) ∧
    (pendingAcc 1 true none 0).past (0 + (pendingAcc 1 true none 0).damTmo) = true ∧
    (pendingAcc 1 true none net.ts).past (net.ts + (pendingAcc 1 true none net.ts).damTmo) = false ∧ (rsAcc 1 true (some (true, 7)) net.ts).answer = some (true, 7) ∧
    (rsAcc 2 false none net.ts).answer = none ∧ (rsAcc 2 false none net.ts).out = false ∧ (rsAcc 2 false none net.ts).win = 2 ∧ (rsAcc 2 false none net.ts).read = false ∧
    (rsAcc 1 true none net.ts).win = 1 ∧ (pendingAcc 1 true none net.ts).rolsal.addr % 4 ≠ 0 ∧
    (portNow (session 2 id)).rsMay 3 = true ∧ (portNow (session 2 id)).rings.cmds.any (fun c => c.opcode == 0x23 && c.phase != .accepted && c.phase != .completing) = false ∧
    (portNow (session 2 (fun r => { r with drain := true, drnWord := 1 }))).rolsal.drain = true ∧ (portNow (session 2 (fun r => { r with drain := true, drnWord := 1 }))).rolsal.drnWord ≠ 0 ∧
    (portNow (session 2 (fun r => { r with drain := true, drnWord := 1 }))).rsPending = false ∧
    (portNow (session 2 (fun r => { r with lastRead := some (3, 2, 0), kept := some 9, fresh := true }))).rolsal.lastRead = some (3, 2, 0) ∧
    (portNow (session 2 (fun r => { r with lastRead := some (3, 2, 0), kept := some 9, fresh := true }))).rolsal.acc = none ∧
    (portNow (session 2 (fun r => { r with lastRead := some (3, 2, 0), kept := some 9, fresh := true }))).rolsal.kept = some 9 ∧
    (portNow (session 2 (fun r => { r with lastRead := some (3, 2, 0), kept := some 9, fresh := true }))).rolsal.fresh = true := by decide

def otpRuns (o : OtpOp) : State := { net with otp := { net.otp with running := some o } }

theorem witness_PrivilegeAndProgrammedFields : net.windowOpen = true ∧ net.passes 3 .operator = true ∧ net.passes 63 .open_ = true ∧ net.fb F.PRIV_CTL_LOCK = false ∧
    (net.fs F.PRIV_CTL_LOCK 1).fb F.PRIV_CTL_LOCK = true ∧ (net.wrN (R.PRIV_MAP 0) (mapWord (net.rdN (R.PRIV_MAP 0)) 0x80 0)).someOperator = true ∧
    (net.wrN (R.PRIV_MAP 0) (mapWord (net.rdN (R.PRIV_MAP 0)) 0 0)).someOperator = false ∧ (session 3 id).classOf 2 = 3 ∧ (session 3 id).windowOpen = true ∧
    3 % 64 = 3 ∧ net.classOf 2 ≠ 3 ∧ net.fb F.OTP_STAT_BUSY = false ∧ net.clk.warm = false ∧
    (∀ o ∈ [OtpOp.mk 1 3 0 5 0, OtpOp.mk 1 3 0 0 0, OtpOp.mk 2 3 0 0 0, OtpOp.mk 3 2 0 0 0], (otpRuns o).otp.running = some o ∧ (otpRuns o).clk.warm = false) := by decide

def withReg (off : Nat) (w : Nat) : State := withMsg 0 (2 ^ 11 + off) [w] net
def testing : State := net.fs F.SEC_CTL_TEST_EN 1

theorem witness_SecurityState : net.windowOpen = true ∧ net.passes 0 .custodian = true ∧ net.fb F.SEC_CTL_SEC_EN = false ∧ (net.fs F.SEC_CTL_SEC_EN 1).fb F.SEC_CTL_SEC_EN = true ∧
    testing.fb F.SEC_CTL_TEST_EN = true ∧ (testing.wrN R.PTB_CTL 1).rdN R.PTB_CTL ≠ 0 ∧ net.fb F.SEC_CTL_TEST_EN = false ∧
    ((takeInbox 0 0 (fun m => bitOf m.head 11 && decide (m.head % 512 < 4)) (withReg 1 5)).map (fun x => (x.1.head % 512, x.1.words)) = some (1, [5])) ∧
    ((takeInbox 0 0 (fun m => bitOf m.head 11 && decide (m.head % 512 < 4)) (withReg 0 1)).map (fun x => (x.1.head % 512, x.2.dbgSec 0, bitOf (x.1.words.headD 0) 0)) = some (0, false, true)) := by decide

set_option maxRecDepth 20000 in
theorem witness_Perturbation : net.windowOpen = true ∧ net.passes 0 .custodian = true ∧ net.fb F.SEC_CTL_TEST_EN = false ∧ testing.fb F.SEC_CTL_TEST_EN = true ∧
    testing.rdN R.PTB_CTL ≠ 1 % 128 ∧ codeGroup (0 % 2 ^ 16) = none ∧ codeGroup (0x0101 % 2 ^ 16) = some 0 ∧ codeGroup (0x0301 % 2 ^ 16) = some 3 ∧
    (testing.fs F.PTB_FORCE_ARG_UNIT_VALID 1).fb F.PTB_FORCE_ARG_UNIT_VALID = true ∧ (testing.fs F.PTB_FORCE_ARG_UNIT_VALID 1).fg F.PTB_FORCE_ARG_UNIT = 0 ∧
    (testing.fs F.PTB_FORCE_ARG_UNIT_VALID 1).fb F.SEC_CTL_TEST_EN = true ∧ (showApplied testing).fb F.PTB_STAT_ACTIVE = false ∧
    (showApplied (testing.fs F.PTB_CTL_DMP_EN 1)).fb F.PTB_STAT_ACTIVE = true ∧ (testing.fs F.PTB_CTL_DMP_EN 1).core % 16 < ((testing.fs F.PTB_CTL_DMP_EN 1).fs F.PTB_PORT_DMP_HOLD 15).fg F.PTB_PORT_DMP_HOLD ∧
    ((testing.fs F.PTB_CTL_FAB_EN 1).fs F.PTB_PORT_FAB_HOLD 15).core % 16 < ((testing.fs F.PTB_CTL_FAB_EN 1).fs F.PTB_PORT_FAB_HOLD 15).fg F.PTB_PORT_FAB_HOLD ∧
    testing.fb F.PTB_CTL_DMP_EN = false ∧ testing.fb F.PTB_CTL_FAB_EN = false ∧ testing.bus.rdWait = [] ∧ testing.bus.wrWait = [] ∧ testing.bus.bulkWait = [] ∧
    (∀ code ∈ [0x0101, 0x0102, 0x0103], (takeInbox 0 0 (fun m => bitOf m.head 11 && m.head % 512 == 4) (withReg 4 code)).map (fun x => x.1.words.headD 0 % 2 ^ 16) = some code) ∧
    (∃ code, latchOf code = none) ∧ latchOf cUncorrectable = some 0 ∧ bitOf ((withReg 4 cUncorrectable).fg (latchFld 0 0)) 0 = false ∧
    bitOf (((withReg 4 cUncorrectable).fs (latchFld 0 0) 1).fg (latchFld 0 0)) 0 = true := by
  refine ⟨by decide, by decide, by decide, by decide, by decide, by decide, by decide, by decide, by decide, by decide, by decide, by decide, by decide, by decide, by decide, by decide, by decide, by decide, by decide, by decide, by decide, ⟨0, by decide⟩, by decide, by decide, by decide⟩

theorem witness_ColdReset : net.otp.running = none ∧ (modClk (fun c => { c with cold := true }) net).clk.cold = true ∧ net.clk.cold = false ∧
    (net.stn 0).pgood = true ∧ ((modStn 0 (fun x => { x with pgood := false }) net).stn 0).pgood = false ∧ net.runs = true ∧ (mget? net.stations 0).isSome = true := by decide

def freshly (cyc : Nat) : State := { State.reset with clk := { State.reset.clk with cyc := cyc } }

theorem witness_WarmReset : net.coldStarts = false ∧ net.clk.warm = false ∧ net.clk.windowTakes = true ∧ (modClk (fun c => { c with windowTakes := false }) net).clk.windowTakes = false ∧
    (modClk (fun c => { c with warm := true }) net).clk.warm = true ∧ (modClk (fun c => { c with warm := true }) net).runs = true ∧ (modClk (fun c => { c with warm := true }) net).coldStarts = false ∧
    State.reset.coldStarts = true ∧ State.reset.runs = true ∧ State.reset.clk.warmPend % 2 = 0 ∧ net.clk.warmRelease + 64 ≤ net.core ∧
    State.reset.clk.otpRead = false ∧ State.reset.clk.warmPend = 0 ∧ 1000 ≤ (modClk (fun c => { c with aliveCnt := 1000 }) net).clk.aliveCnt := by decide

theorem witness_StepTakesTheFront : ({ net with pending := [.fabricMessageDiscard] } : State).pending = .fabricMessageDiscard :: [] ∧ net.pending = [] := by decide

theorem witness_VarField : (300 : Nat) < 2 ^ 64 ∧ (0 : Nat) < 2 ^ 64 ∧ (2 ^ 64 - 1 : Nat) < 2 ^ 64 := by decide


/-! ### Well-formed commands -/

/-- One operand past the end of its range makes a command ill formed. -/
theorem test_illFormed_1 : ([.registerWrite 64 0 0 0,
    .registerWrite 0 (2 ^ 22) 0 0,
    .registerWrite 0 0 16 0,
    .registerWrite 0 0 0 (2 ^ 32),
    .uapPowerOff 16384,
    .uapPowerOn 0 8 0 0,
    .uapPowerOn 0 0 4 0,
    .uapPowerOn 0 0 0 64,
    .cmdEventBegin 0 true 256 0 0 0 0 0 0,
    .cmdEventBegin 0 true 0 256 0 0 0 0 0,
    .cmdEventBegin 0 true 0 0 (2 ^ 32) 0 0 0 0,
    .cmdEventBegin 0 true 0 0 0 65536 0 0 0,
    .cmdEventBegin 0 true 0 0 0 0 65536 0 0,
    .cmdEventBegin 0 true 0 0 0 0 0 16 0,
    .cmdEventBegin 0 true 0 0 0 0 0 0 64,
    .unitIncrementCycle 0 true true true 16 true [] [] 0 0 0 0 0 true 0,
    .unitIncrementCycle 0 true true true 0 true [0, 4096] [] 0 0 0 0 0 true 0,
    .unitIncrementCycle 0 true true true 0 true [] [0, 4096] 0 0 0 0 0 true 0,
    .unitIncrementCycle 0 true true true 0 true [] [] 4096 0 0 0 0 true 0,
    .unitIncrementCycle 0 true true true 0 true [] [] 0 8 0 0 0 true 0,
    .unitIncrementCycle 0 true true true 0 true [] [] 0 0 4096 0 0 true 0,
    .unitIncrementCycle 0 true true true 0 true [] [] 0 0 0 8 0 true 0,
    .unitIncrementCycle 0 true true true 0 true [] [] 0 0 0 0 65536 true 0,
    .unitIncrementCycle 0 true true true 0 true [] [] 0 0 0 0 0 true 256,
    .striaTapBeat 0 true 256 0 0 0 0 0 0 0 0,
    .striaTapBeat 0 true 0 (2 ^ 256) 0 0 0 0 0 0 0] : List Instr).all (fun c => !c.wf) = true := by decide

/-- One operand past the end of its range makes a command ill formed. -/
theorem test_illFormed_2 : ([.striaTapBeat 0 true 0 0 16 0 0 0 0 0 0,
    .striaTapBeat 0 true 0 0 0 (2 ^ 47) 0 0 0 0 0,
    .striaTapBeat 0 true 0 0 0 0 256 0 0 0 0,
    .striaTapBeat 0 true 0 0 0 0 0 (2 ^ 22) 0 0 0,
    .striaTapBeat 0 true 0 0 0 0 0 0 0 16 0,
    .striaTapBeat 0 true 0 0 0 0 0 0 0 0 256,
    .striaPairAbsorb 1024,
    .dbgAddrWrite 0 (2 ^ 64),
    .coreHaltedRise 0 8 0,
    .coreHaltedRise 0 0 8,
    .itRecord 0 true 4 0 0 true,
    .itRecord 0 true 0 256 0 true,
    .itRecord 0 true 0 0 (2 ^ 64) true,
    .dtRecord 0 true true 4 0 0 true,
    .dtRecord 0 true true 0 0 (2 ^ 64) true,
    .frameBoundary [(16, 0)],
    .frameBoundary [(0, 2 ^ 32)],
    .upstreamFlitError 16 0 0,
    .upstreamFlitError 0 512 0,
    .upstreamFlitError 0 0 (2 ^ 40),
    .stationDownstreamError ⟨1024, 0, 0, 0⟩,
    .stationDownstreamError ⟨0, 512, 0, 0⟩,
    .stationDownstreamError ⟨0, 0, 2 ^ 40, 0⟩,
    .stationDownstreamError ⟨0, 0, 0, 256⟩,
    .reductionResult 256,
    .stationFrameMark 0 (2 ^ 32) true 0 true 0 true,
    .stationUpstreamSend 0 17,
    .stationRegRd 0 (2 ^ 32),
    .isolationAssert true 8,
    .trainingComplete 0 [0, 65536] true,
    .stationFrameMark 1024 0 true 0 true 0 true] : List Instr).all (fun c => !c.wf) = true := by decide

/-- One operand past the end of its range makes a command ill formed. -/
theorem test_illFormed_3 : ([.gpingReceive (2 ^ 24) 0 0 0,
    .gpingReceive 0 16 0 0,
    .gpingReceive 0 0 65536 0,
    .gpingReceive 0 0 0 (2 ^ 64),
    .gpongReceive 0 0 0 0 (2 ^ 64) 0,
    .gpongReceive 0 0 0 0 0 (2 ^ 64),
    .stationShearDecode 0 32 0,
    .stationShearDecode 0 0 16,
    .culletReadGo 0 64,
    .stationCulletGroupDone 0 [[256]],
    .stnPcCfgWrite 0 0 16 0,
    .attrCtxEnWrite 0 8 0,
    .stimWrite 0 32 0,
    .trcPortWrite 0 16 0,
    .trcCmpWrite 0 8 0 0,
    .trcCmpWrite 0 0 8 0,
    .hbCtlWrite 0 32 0,
    .deadlinePageAccess 0 2048 true 0 true,
    .dumpMasterReadData 1024 [] true,
    .dumpMasterReadData 0 [0, 256] true,
    .lehrDestWrite 0 4 0 0,
    .resetAnswerAccepted 4,
    .peerNoticeReceive 0 [0, 256],
    .streamMapWrite 0 64 0,
    .digestReqReceive 0 65536 0 0 0,
    .digestReqReceive 0 0 (2 ^ 64) 0 0] : List Instr).all (fun c => !c.wf) = true := by decide

/-- One operand past the end of its range makes a command ill formed. -/
theorem test_illFormed_4 : ([.digestReqReceive 0 0 0 0 (2 ^ 64),
    .digestRspReceive 0 256 0 0 0 0,
    .digestRspReceive 0 0 0 0 0 (2 ^ 64),
    .sqDoorbell 0 64 0,
    .descriptorFetchError 64,
    .functionReset 64,
    .controlGroupReset 16,
    .nop 0 (2 ^ 16),
    .mbxGo 0 32 0,
    .mbxGo 0 0 2,
    .mbxAck 0 0 0 256,
    .doorbellClear 0 53 0,
    .mbxReqReceive 0 3 0 0 0 0,
    .mbxReqReceive 0 0 0 (2 ^ 32) 0 0,
    .gafRelease 0 2,
    .gafBreakHit 0 16,
    .patchScrub 0 [0, 4294967296],
    .rolsalReadPacket (2 ^ 16),
    .authRenewWrite (2 ^ 32),
    .otpRead 0 16,
    .otpOperationDone [0, 2 ^ 32],
    .ptbParamWrite 0 7 0] : List Instr).all (fun c => !c.wf) = true := by decide

/-- The same commands with operands in range are well formed. -/
theorem test_wellFormed_1 : ([.attrCtxEnWrite 0 0 0,
    .authRenewWrite 0,
    .cmdEventBegin 0 true 0 0 0 0 0 0 0,
    .controlGroupReset 0,
    .coreHaltedRise 0 0 0,
    .culletReadGo 0 0,
    .dbgAddrWrite 0 0,
    .deadlinePageAccess 0 0 true 0 true,
    .descriptorFetchError 0,
    .digestReqReceive 0 0 0 0 0,
    .digestRspReceive 0 0 0 0 0 0,
    .doorbellClear 0 0 0,
    .dtRecord 0 true true 0 0 0 true,
    .dumpMasterReadData 0 [] true,
    .frameBoundary [],
    .functionReset 0,
    .gafBreakHit 0 0,
    .gafRelease 0 0,
    .gpingReceive 0 0 0 0,
    .gpongReceive 0 0 0 0 0 0,
    .hbCtlWrite 0 0 0,
    .isolationAssert true 0,
    .itRecord 0 true 0 0 0 true,
    .lehrDestWrite 0 0 0 0,
    .mbxAck 0 0 0 0,
    .mbxGo 0 0 0,
    .mbxReqReceive 0 0 0 0 0 0,
    .nop 0 0,
    .otpOperationDone [],
    .otpRead 0 0,
    .patchScrub 0 [],
    .peerNoticeReceive 0 [],
    .ptbParamWrite 0 0 0,
    .registerWrite 0 0 0 0,
    .resetAnswerAccepted 0,
    .rolsalReadPacket 0,
    .sqDoorbell 0 0 0,
    .stationCulletGroupDone 0 [],
    .stationFrameMark 0 0 true 0 true 0 true,
    .stationDownstreamError ⟨0, 0, 0, 0⟩,
    .stationRegRd 0 0,
    .stationShearDecode 0 0 0,
    .stationUpstreamSend 0 0,
    .stimWrite 0 0 0,
    .stnPcCfgWrite 0 0 0 0,
    .streamMapWrite 0 0 0,
    .striaPairAbsorb 0,
    .striaTapBeat 0 true 0 0 0 0 0 0 0 0 0,
    .trainingComplete 0 [] true,
    .trcCmpWrite 0 0 0 0,
    .trcPortWrite 0 0 0] : List Instr).all (fun c => c.wf) = true := by decide

/-- The same commands with operands in range are well formed. -/
theorem test_wellFormed_2 : ([.uapPowerOff 0,
    .uapPowerOn 0 0 0 0,
    .unitIncrementCycle 0 true true true 0 true [] [] 0 0 0 0 0 true 0,
    .upstreamFlitError 0 0 0] : List Instr).all (fun c => c.wf) = true := by decide


/-! ### Single commands against the spec's own worked examples -/

/-- What one command leaves, through a test of the next state. -/
def after (c : Instr) (s : State) (p : State → Bool) : Bool := match exec c s with | .next t => p t | _ => false

/-- 03_cane_network, a 48-bit sum with carry. -/
theorem test_reduction_sum :
    redValue (fun _ => false) { tag := 0, group := 0, target := 0, values := [⟨2, 0, 0⟩], use := RedUse.lehr, samples := [(0, [some 0x0001F0000000]), (1, [some 0x000220000001]), (2, [some 0xFFFFFFFFFFFF])] } 0 = (0x0001000410000000, 0) := by decide

/-- 05_timebase, ticks at a 2.4 GHz root: three increments of 0x1AAAAAAAB after 1,000.0. -/
theorem test_timebase_ticks :
    let s : State := ((net.fs F.TIME_STAT_RUN 1).wr64 R.TIME_INC_LO R.TIME_INC_HI 0x1AAAAAAAB)
    let s : State := { s with clk := { s.clk with cyc := 0, acc := 1000 * 2 ^ 32 } }
    ((List.range 7).map (fun n => ((List.range n).foldl (fun s _ => clockTick s) s).ts)) = [1000, 1000, 1001, 1001, 1003, 1003, 1005] := by decide

def exchanges : List Exchange := [⟨0, 918, 706, 5000000000, 5000000770⟩, ⟨5, 912, 718, 5000010000, 5000010782⟩, ⟨9, 921, 719, 5000018000, 5000018783⟩, ⟨12, 908, 728, 5000024000, 5000024792⟩]
def gathered : State := writeEntry true false { node := 0x231, ent := 0, got := exchanges } net

/-- 05_timebase, gathering with one peer: the first round, then the second. -/
theorem test_gather_first : (gathered.offStatus 0, gathered.offEnt 0 1, gathered.offEnt 0 2, gathered.offEnt 0 4 + 2 ^ 32 * gathered.offEnt 0 5, gathered.offEnt 0 7 % 65536) =
    (1, 706, 918, 5000000385, 7) := by decide
theorem test_gather_second :
    let t := writeEntry false false { node := 0x231, ent := 0, got := [⟨0, 1018, 706, 5010000006, 5010000776⟩] } gathered
    (t.offEnt 0 2, t.offEnt 0 4 + 2 ^ 32 * t.offEnt 0 5, t.offEnt 0 6) = (1018, 5010000391, 21475) := by decide

/-- 05_timebase: a GPONG gives off2 918 and rtt 706. -/
theorem test_gpong :
    let s : State := { net with clk := { net.clk with acc := 5000000770 * 2 ^ 32 }, gather := { net.gather with round := some 1, session := 9, open_ := [(0, 0, 5000000000)], peers := [{ node := 0x231, ent := 0 }] } }
    after (.gpongReceive 0x231 0 9 5000000000 5000000812 5000000876) s (fun t => t.gather.peers == [{ node := 0x231, ent := 0, got := [⟨0, 918, 706, 5000000000, 5000000770⟩] }]) = true := by decide

/-- 18_commands, a scheduled cut and its completion: the entry of the ring's first pass. -/
theorem test_completion_entry : entryBytes (completionEvent ⟨7, 12⟩ 0x41 0 0x1234 37800 2000087800 0 none) 1 0 =
    [0x01, 0x01, 0, 0, 0x41, 0, 0x07, 0, 0xF8, 0xEA, 0x36, 0x77, 0, 0, 0, 0, 0x34, 0x12, 0, 0, 0, 0, 0, 0, 0x0C, 0, 0, 0, 0xA8, 0x93, 0, 0] := by decide

/-- 17_rings, a ring handed to a virtual function: SQ_DB with TAIL 0 from identity 9. -/
theorem test_doorbell :
    let s : State := ((((net.fs (F.SQ_CFG_OWNER 7) 9).fs (F.SQ_CFG_LOG2 7) 8).fs (F.SQ_CTL_EN 7) 1).fs (F.SQ_TAIL_INDEX 7) 254).fs (F.SQ_HEAD_INDEX 7) 254
    s.sqSize 7 = 256 ∧ after (.sqDoorbell 9 7 0) s (fun t => t.fg (F.SQ_TAIL_INDEX 7) == 0 && t.sqPending 7 == 2 && !t.fb (F.SQ_STAT_DB_ERR 7)) = true := by decide

/-- 19_mailboxes, a host and a gaffer core cross: ACK1 reads 0x00000107 and bit 4 of the host's doorbells is set. -/
theorem test_mailbox_cross :
    let s : State := ((net.fs (F.BIND_ID_A 4) 0).fs (F.BIND_ID_B 4) 3).fs (F.BIND_VALID 4) 1
    let s : State := setChan 4 { crossFrom := some 0, d0 := { go := true }, d1 := { go := true } } s
    after (.mbxCrossDefer 4) s (fun t => !(t.mdir 4 1).go && (t.mdir 4 1).code == 7 && (t.mdir 4 1).valid && (t.mdir 4 1).crossed && (t.mdir 4 0).go &&
      bitOf (t.rdN (R.DB_PEND 3)) 4 && (mbxRead 3 4 0x94 true t).1 == 0x107) = true := by decide

/-- 21_rolsal_port, a peek of a read-clear register: the address write, then the read that starts the access. -/
theorem test_rolsal_address : after (.rolsalWritePacket 0x9045 0x00060028 true) (session 2 id) (fun t => t.rolsal.response == 6 && t.rolsal.addr == 0x60028) = true := by decide
theorem test_rolsal_read_waits : after (.rolsalReadPacket 0x2087) (session 2 id) (fun t => t.rolsal.response == 3 && t.rsPending) = true := by decide

/-- 14_dump_format, a cullet vector and an empty window. -/
theorem test_zrw : zrwEncode ([0x00012345032A0210, 0x00000502034254C7, 0x0000000007071C1A, 0x420, 0x0001050020004000, 0x00040011, 0, 0, 0x0000000400020000] ++ List.replicate 23 0) =
      [0x20AAA, 0x00012345032A0210, 0x00000502034254C7, 0x0000000007071C1A, 0x420, 0x0001050020004000, 0x00040011, 0x0000000400020000] ∧
    zrwEncode [5, 5, 0] = [6, 5] ∧ zrwEncode (List.replicate 100 0) = [3, 100] := by decide

/-- 16_continuity, one draw ahead: slot 5,000 mod 4,096. -/
theorem test_ledger_address : (net.wr64 R.LEDGER_BASE_LO R.LEDGER_BASE_HI 0x0001054000000000).ledgerAddr 5000 = 0x00010540000F0200 := by decide

/-- 11_stria, one tensor, two tilings. -/
theorem test_stria_digest : canonWord 2 false 0x8000 = 0 ∧ canonWord 2 false 0xFFC1 = 0x7FC0 ∧
    mix 0 0x3F80 = 0x0000354ECB2ED6CE ∧ mix 1 0 = 0xF6E8FEB9 ∧ mix 2 0x7FC0 = 0x00006B4032EEA472 ∧ mix 3 0x4020 = 0x000035D7C189269C := by decide

/-- 15_reset_and_reheat, the reset after the sealed dump: the word of the COMPUTE step. -/
theorem test_reset_word : rstqWordOf 2 1 0 0 = 0xA9000001 := by decide

/-- 20_gaffer_cores, two halts: M = 6,000,000, and RUN from it; then M = 200,000 acts as 1,000,000. -/
def atTs (t : Nat) (s : State) : State := { s with clk := { s.clk with acc := t * 2 ^ 32 } }
theorem test_watchdog_run : after (.gafDbgHalt 0 0 false) (atTs 5004000000 (modCore 0 (fun c => { c with wdDead := 5010000000 }) cores))
      (fun t => (t.gcore 0).wdRem == some 6000000) = true ∧
    after (.gafDbgRun 0 0) (atTs 5900000000 (modCore 0 (fun c => { c with wdRem := some 6000000 }) haltedCore)) (fun t => (t.gcore 0).wdDead == 5906000000) = true ∧
    after (.gafDbgRun 0 0) (atTs 5950000000 (modCore 0 (fun c => { c with wdRem := some 200000 }) haltedCore)) (fun t => (t.gcore 0).wdDead == 5951000000) = true := by decide

/-- 10_trace_format, one command, decoded: the station's open message after the BEGIN. -/
def tracing : State :=
  let tr : StnTrace := { run := true, ports := [0, 0, 0, 1], ctxEn := List.replicate 8 0xFFFFFFFF, srcs := [(srcKey 3 srcCmd, { due := some 0 })] }
  let pt : Port := { livePort 0 with queues := [(5, ⟨9, 0, 7, 0, 0, 0, false, false, false⟩)] }
  { up with stations := [(332, { accRuns := true, acc := 10 ^ 9 * 2 ^ 32, accCyc := 2000200, installed := true, passThrough := false, ports := [(3, pt)], trace := tr })] }
set_option maxRecDepth 20000 in
theorem test_trace_begin : after (.cmdEventBegin 0x14C3 true 0x2A 3 0x12346 0x11 4 6 2) (stnSetEpoch 332 0x2A 3 tracing) (fun t => (t.stn 332).trace.openBytes ==
    [0x11, 0x00, 0xCA, 0x9A, 0x3B, 0, 0, 0, 0, 0x30, 0x00, 0x20, 0, 0, 0, 0, 0, 0, 0, 0, 0, 0, 0, 0, 0, 0, 0, 0x35, 0x00, 0x2A, 0x03, 0x11, 0x00, 0x04, 0x00, 0x06,
     0x32, 0x02, 0x00, 0x46, 0x23, 0x01, 0x00]) = true := by decide
/-- The same example: a TS_DELTA of 180 ns. -/
theorem test_trace_delta : tsDelta (some 1000000000) 1000000180 = [0x01, 0xB4, 0x01] := by decide

set_option maxRecDepth 20000 in
/-- 23_integration: a release of HUB_COLD_N in scan mode stops, one outside scan mode completes. -/
theorem test_scanMode : (match exec (.hubColdRelease false false true) (modClk (fun c => { c with cold := true }) net) with | .fault f => decide (f = .scanMode) | _ => false) = true ∧
    after (.hubColdRelease false false false) (modClk (fun c => { c with cold := true }) net) (fun t => !t.clk.cold && t.fg F.HUB_STAT_RST_CAUSE == 1) = true := by decide

theorem witness_QueueIsFirstInFirstOut : ∃ t, step net = .next t := ⟨_, rfl⟩

set_option maxRecDepth 20000 in
/-- 14_dump_format and R10: CRC-32C of the ASCII digits 1 to 9. -/
theorem test_crc32c : crc32c [0x31, 0x32, 0x33, 0x34, 0x35, 0x36, 0x37, 0x38, 0x39] = 0xE3069283 := by decide

/-- R240: the TRIGGER packet of rule 1 of S2 on comparator 3, a central hit: RULE is 0x5E. The block starts with a header of 16
bytes and a TS_DELTA of 9 (R227, R231) and holds nothing else, so the SYNC that source WRITER owes at its start (R205, R232) stands in the
block before it. -/
def seqState : State :=
  modTrc (fun t => { t with events := [{ cmp := 3, central := true }] })
    (((((((up.fs F.TRC_CTL_ENABLE 1).fs F.SEQ_STAT_ARMED 1).fs F.SEQ_STAT_STATE 2).fs (F.SEQ_RULE_EN 2 1) 1).fs (F.SEQ_RULE_MATCH 2 1) 8)).fs
      (F.SEQ_RULE_TRIGGER 2 1) 1)
set_option maxRecDepth 20000 in
theorem test_trigger_rule : after .sequencerEvent seqState (fun t => memGetBytes t.trace.ring 25 3 == [0x00, 0x06, 0x00] && memGetBytes t.trace.ring 89 2 == [0x0C, 0x5E]) = true := by decide
/-- R227: BSEQ counts from the last CLEAR. -/
theorem test_clear_bseq : after (.trcClear 3) (modTrc (fun t => { t with bseq := 5 }) up) (fun t => t.trace.bseq == 0) = true := by decide
/-- R149: a debug trigger at a station of an isolated branch makes no request. -/
theorem test_isolated_trigger : (stnTrigger 0 false (tree.fs (F.STN_SH_STAT_LOCKED 0) 1)).2.shear.reqs.length = 1 ∧
    (stnTrigger 0 false (modRib 0 (fun b => { b with subst := true }) (tree.fs (F.STN_SH_STAT_LOCKED 0) 1))).2.shear.reqs = [] := by decide
/-- 09_trace_capture: a message of FLUSH 4 closes 2,048 spine cycles after its first packet, and not a cycle before. -/
theorem test_flush : after (.traceMessageFlush 0) (modStn 0 (fun x => { x with trace := { x.trace with openBytes := [1], openCyc := net.spineCyc - 2048 } }) net)
      (fun t => (t.stn 0).trace.openBytes == []) = true ∧
    after (.traceMessageFlush 0) (modStn 0 (fun x => { x with trace := { x.trace with openBytes := [1], openCyc := net.spineCyc - 2047 } }) net)
      (fun t => (t.stn 0).trace.openBytes == [1]) = true := by decide

/-- R51: a REG_WR of the two words of DBG_ADDR presents one DBG_WR, with the whole address. -/
theorem test_dbg_addr_once : after (.stationRegWr 0) (withMsg 0 0x18B [0x11, 0x22] net) (fun t => (t.port 1).dbgWr == [(0, 0x2200000011)]) = true := by decide
set_option maxRecDepth 20000 in
/-- R132: a station with SKEW acts on what it decodes SHCOMP cycles later. -/
theorem test_skew_acts_late :
    let s : State := (tree.fs (F.STN_SH_STAT_LOCKED 0) 1).fs (F.STN_SH_STAT_SKEW 0) 1
    let s : State := { s with slot := { s.slot with stns := [(0, { shcomp := 5 })] } }
    after (.stationShearDecode 0 30 15) s (fun t => (t.stn 0).acts == [(s.clk.cyc + 5, .cut 1)]) = true := by decide
/-- R569: with DMP_HOLD 4 the dump master issues nothing in the first 4 of 16 CORECLK cycles; cycle 1,000,100 is the fifth. -/
theorem test_port_stall : (((testing.fs F.PTB_CTL_DMP_EN 1).fs F.PTB_PORT_DMP_HOLD 4).dmpStall, ((testing.fs F.PTB_CTL_DMP_EN 1).fs F.PTB_PORT_DMP_HOLD 5).dmpStall) =
    (false, true) := by decide
set_option maxRecDepth 20000 in
/-- R140: ACK_PEND is set in the cycle after SH_CMD changes. -/
theorem test_ack_pend : (match step (driveSh 0 (modPort 0 (fun p => { p with pkg := 1 }) net)) with
    | .next t => !bitOf ((driveSh 0 (modPort 0 (fun p => { p with pkg := 1 }) net)).fg (F.STN_SH_STAT_ACK_PEND 0)) 0 && bitOf (t.fg (F.STN_SH_STAT_ACK_PEND 0)) 0
    | _ => false) = true := by decide
/-- R78: a rib that is DEGRADED or isolated when its words are due gives the identity with MISS. -/
theorem test_reduction_gone :
    redValue (fun k => k == 0) { tag := 0, group := 0, target := 0, values := [⟨2, 0, 0⟩], use := RedUse.lehr, samples := [(0, [some 5]), (64, [some 7])] } 0 = (7, 2) := by decide
/-- R61: an EMPTY flit has odd parity by its parity bit alone, and no single bit that turns leaves it so. -/
theorem test_flit_parity : flitOdd emptyFlit = true ∧ (List.range 40).all (fun k => !flitOdd (emptyFlit ^^^ 2 ^ k)) = true := by decide

/-- A MARK word reaches a station as the spine formed it; with one bit inverted its parity fails, and with two it does not (R61, R68). -/
theorem test_mark_word :
    (flitOdd (markFlit 1 0x12345678 0 true), flitPay (markFlit 1 0x12345678 0 true)) = (true, 0x12345678) ∧
    flitOdd (markFlit 1 0x12345678 1 true) = false ∧ flitOdd (markFlit 1 0x12345678 0 false) = false ∧
    (flitOdd (markFlit 0 5 3 true), flitPay (markFlit 0 5 3 true)) = (true, 6) := by decide

end Sys2Proof.Tests
end

section
/-! PROOFS. Accesses the register window ignores (R4, R7): partial byte enables, misaligned offsets, offsets no row lists. -/

namespace Sys2Proof.Machine

/-! ### The register commands while the window is open -/

theorem exec_registerWrite_open (s : State) (id a v : Nat) (hw : s.windowOpen = true) :
    exec (.registerWrite id a 15 v) s = .next (writeReg id a v s) := by
  rw [exec_registerWrite, execRegisterWrite, State.act_runs s _ (s.windowOpen_runs hw).1]
  simp [ok, masterWrite, hw]

/-- A write with byte enables other than all four is ignored (R4). -/
theorem exec_registerWrite_partial (s : State) (id a be v : Nat) (hw : s.windowOpen = true) (hbe : be ≠ 15) :
    exec (.registerWrite id a be v) s = .next s := by
  rw [exec_registerWrite, execRegisterWrite, State.act_runs s _ (s.windowOpen_runs hw).1]
  simp [ok, masterWrite, hbe]

/-- Both read commands are the read of the register window's target. -/
theorem exec_reads_open (s : State) (id a be : Nat) (hw : s.windowOpen = true) :
    exec (.wideRegisterLowRead id a be) s = .next (masterRead id a be s) ∧
      exec (.rcRegisterRead id a be) s = .next (masterRead id a be s) := by
  rw [exec_wideRegisterLowRead, exec_rcRegisterRead, execWideRegisterLowRead, execRcRegisterRead,
    State.act_runs s _ (s.windowOpen_runs hw).1]
  exact ⟨rfl, rfl⟩

theorem masterRead_partial (s : State) (id a be : Nat) (hw : s.windowOpen = true) (hbe : be ≠ 15) :
    masterRead id a be s = presentRead 0 s := by
  simp [masterRead, hw, hbe]

/-- A read the window answers with 0 at once, with no effect, presents 0. -/
theorem masterRead_of_readReg_zero (s : State) (id a : Nat) (hw : s.windowOpen = true)
    (hr : readReg id a false (.master id) s = (some 0, s)) : masterRead id a 15 s = presentRead 0 s := by
  simp [masterRead, hw, hr, presentAnswer]

/-! ### Offsets that are not a multiple of 4 (R4) -/

theorem writeReg_misaligned (s : State) (id a v : Nat) (ha : a % 4 ≠ 0) : writeReg id a v s = s := by
  simp [writeReg, ha]

theorem readReg_misaligned (s : State) (id a : Nat) (peek : Bool) (use : Nat → Nat → StnUse) (ha : a % 4 ≠ 0) :
    readReg id a peek use s = (some 0, s) := by
  simp [readReg, ha]

/-! ### Offsets no row lists (R7) -/

/-- The offset lies in none of the blocks the window sends elsewhere before it looks for a row: the mailbox and doorbell words, the
station windows, the selected-station pages, the ring doorbell pages. -/
structure OutsideBlocks (a : Nat) : Prop where
  mailboxes : a < 0x020000 ∨ 0x022810 ≤ a
  stations : a < stationBase
  dlPage : a < 0x093000 ∨ 0x093800 ≤ a
  rstPage : a < 0x0B3000 ∨ 0x0B3800 ≤ a
  ringPages : a < R.SQ_DB 0 ∨ R.SQ_DB 64 ≤ a

/-- Each block's test of `readReg` and `writeReg` fails at such an offset. -/
theorem OutsideBlocks.tests_fail {a : Nat} (h : OutsideBlocks a) :
    ¬ deadlinePageBase ≤ a ∧ ¬ stationBase ≤ a ∧ ¬ (0x093000 ≤ a ∧ a < 0x093800) ∧ ¬ (0x0B3000 ≤ a ∧ a < 0x0B3800) ∧
      ¬ (0x020000 ≤ a ∧ a < 0x022000) ∧ ¬ (0x022000 ≤ a ∧ a < 0x022000 + 16 * 53) ∧ ¬ (0x022800 ≤ a ∧ a < 0x022810) ∧
      ¬ (R.SQ_DB 0 ≤ a ∧ a < R.SQ_DB 64) := by
  obtain ⟨hmbx, hstn, hdl, hrst, hring⟩ := h
  unfold stationBase at *
  unfold deadlinePageBase
  omega

theorem readReg_unlisted (s : State) (id a : Nat) (peek : Bool) (use : Nat → Nat → StnUse) (h : OutsideBlocks a)
    (hrow : regRowAt a = none) : readReg id a peek use s = (some 0, s) := by
  by_cases ha : a % 4 = 0
  · obtain ⟨hpage, hstn, hdl, hrst, hmbx, hdb, hown, hring⟩ := h.tests_fail
    rw [readReg, if_neg (by simp [ha]), if_neg hpage, if_neg hstn, if_neg hdl, if_neg hrst, if_neg hmbx, if_neg hdb, if_neg hown,
      if_neg hring, hrow]
  · exact readReg_misaligned s id a peek use ha

/-- Writes have two blocks more: the stimulus words and CUST_GRANT. -/
theorem writeReg_unlisted (s : State) (id a v : Nat) (h : OutsideBlocks a) (hstim : a < R.STIM 0 ∨ R.STIM 32 ≤ a)
    (hgrant : a ≠ R.CUST_GRANT) (hrow : regRowAt a = none) : writeReg id a v s = s := by
  by_cases ha : a % 4 = 0
  · obtain ⟨hpage, hstn, hdl, hrst, hmbx, hdb, hown, hring⟩ := h.tests_fail
    rw [writeReg, if_neg (by simp [ha]), if_neg hpage, if_neg hstn, if_neg hdl, if_neg hrst, if_neg hmbx, if_neg hdb, if_neg hown,
      if_neg hring, if_neg (by omega), if_neg hgrant, hrow]
  · exact writeReg_misaligned s id a v ha

/-- Settles O11: an access is dropped by its byte enables, then by its alignment, then because no block and no row takes its offset. -/
theorem ignoredAccess : Obligations.IgnoredAccess := by
  unfold Obligations.IgnoredAccess
  intro s id a be v hw
  have reads_zero (h : readReg id a false (.master id) s = (some 0, s)) :
      exec (.wideRegisterLowRead id a 15) s = .next (presentRead 0 s) ∧ exec (.rcRegisterRead id a 15) s = .next (presentRead 0 s) :=
    masterRead_of_readReg_zero s id a hw h ▸ exec_reads_open s id a 15 hw
  refine ⟨fun hbe => ⟨exec_registerWrite_partial s id a be v hw hbe, ?_⟩, fun ha => ⟨?_, ?_⟩,
    fun hrow hmbx hstn hdl hrst hring hstim hgrant => ⟨?_, ?_⟩⟩
  · exact masterRead_partial s id a be hw hbe ▸ exec_reads_open s id a be hw
  · rw [exec_registerWrite_open s id a v hw, writeReg_misaligned s id a v ha]
  · exact reads_zero (readReg_misaligned s id a false _ ha)
  · rw [exec_registerWrite_open s id a v hw, writeReg_unlisted s id a v ⟨hmbx, hstn, hdl, hrst, hring⟩ hstim hgrant hrow]
  · exact (reads_zero (readReg_unlisted s id a false _ ⟨hmbx, hstn, hdl, hrst, hring⟩ hrow)).2

end Sys2Proof.Machine
end

section
/-! PROOFS. The VAR field (R229): each fact by induction on the groups still to be written. -/

namespace Sys2Proof.Machine

/-! ### The bytes of a VAR -/

theorem varBytesF_length_pos (k n : Nat) : 1 ≤ (varBytesF k n).length := by
  fun_cases varBytesF k n <;> simp

/-- One byte for each round, and the last one. -/
theorem varBytesF_length_le (k n : Nat) : (varBytesF k n).length ≤ k + 1 := by
  fun_induction varBytesF k n with
  | case1 n => simp
  | case2 k n small => simp
  | case3 k n large ih => simpa using ih

theorem varBytesF_lt_256 (k n : Nat) : ∀ x ∈ varBytesF k n, x < 256 := by
  fun_induction varBytesF k n with
  | case1 n => simp; omega
  | case2 k n small => simp; omega
  | case3 k n large ih => exact List.forall_mem_cons.mpr ⟨by omega, ih⟩

/-! ### Bit 7: set in every byte but the last -/

theorem varBytesF_bit7_of_not_last (k n i : Nat) (hi : i + 1 < (varBytesF k n).length) : 128 ≤ (varBytesF k n).getD i 0 := by
  fun_induction varBytesF k n generalizing i with
  | case1 n => simp at hi
  | case2 k n small => simp at hi
  | case3 k n large ih =>
    cases i with
    | zero => simp
    | succ i => simpa using ih i (by simpa using hi)

theorem varBytesF_last_lt_128 (k n : Nat) : (varBytesF k n).getD ((varBytesF k n).length - 1) 0 < 128 := by
  fun_induction varBytesF k n with
  | case1 n => simp; omega
  | case2 k n small => simpa using small
  | case3 k n large ih =>
    obtain ⟨m, hm⟩ := Nat.exists_eq_add_of_le' (varBytesF_length_pos k (n / 128))
    simpa [hm] using ih

/-! ### The value -/

/-- What the bytes read back as: their low 7 bits, least significant group first. -/
def varValue (bs : List Nat) : Nat := bs.foldr (fun x m => x % 128 + 128 * m) 0

@[simp] theorem varValue_cons (b : Nat) (bs : List Nat) : varValue (b :: bs) = b % 128 + 128 * varValue bs := rfl

@[simp] theorem varValue_nil : varValue [] = 0 := rfl

/-- Nothing is cut off when the value fits the `k + 1` groups. -/
theorem varValue_varBytesF (k n : Nat) (fits : n < 128 ^ (k + 1)) : varValue (varBytesF k n) = n := by
  fun_induction varBytesF k n with
  | case1 n => simp; omega
  | case2 k n small => simp; omega
  | case3 k n large ih =>
    have hrest : varValue (varBytesF k (n / 128)) = n / 128 := ih (Nat.div_lt_of_lt_mul (by rwa [← Nat.pow_succ']))
    rw [varValue_cons, hrest]
    omega

/-- No byte is spare: one byte fewer holds only values below `128 ^ (length - 1)`. -/
theorem pow_length_pred_le_of_varBytesF (k n : Nat) (hn : n ≠ 0) : 128 ^ ((varBytesF k n).length - 1) ≤ n := by
  fun_induction varBytesF k n with
  | case1 n => simp; omega
  | case2 k n small => simp; omega
  | case3 k n large ih =>
    obtain ⟨m, hm⟩ := Nat.exists_eq_add_of_le' (varBytesF_length_pos k (n / 128))
    have hrest : 128 ^ m ≤ n / 128 := by simpa [hm] using ih (by omega)
    simp only [List.length_cons, hm, Nat.add_sub_cancel, Nat.pow_succ]
    omega

/-! ### The field -/

theorem varBytes_zero : varBytes 0 = [0] := rfl

/-- Ten groups of 7 bits hold 64 bits. -/
theorem varValue_varBytes {n : Nat} (hn : n < 2 ^ 64) : varValue (varBytes n) = n :=
  varValue_varBytesF 9 n (by omega)

/-- Settles O33, with the facts about `varBytesF` at the nine groups that may come before the last. -/
theorem varField : Obligations.VarField := by
  unfold Obligations.VarField
  refine ⟨varBytes_zero, ?_⟩
  rintro n hn _ rfl
  refine ⟨varBytesF_length_pos 9 n, varBytesF_length_le 9 n, varBytesF_lt_256 9 n, varBytesF_bit7_of_not_last 9 n,
    varBytesF_last_lt_128 9 n, varValue_varBytes hn, fun hlen => pow_length_pred_le_of_varBytesF 9 n ?_⟩
  rintro rfl
  simp [varBytes_zero] at hlen

end Sys2Proof.Machine
end

section
/-! PROOFS. CTL.ZERO of a ring (R395): what the bit does in each state of the ring, and what the EN bit of the same write adds. -/

namespace Sys2Proof.Machine

/-! ### The write that carries ZERO -/

/-- ZERO acts first, then the EN bit of the same word. -/
theorem writeSqCtl_zero (r : Nat) (en : Bool) (s : State) :
    writeSqCtl r (2 + b2n en) s = if en then enableSq r (zeroSq r s) else disableSq r (zeroSq r s) := by
  cases en <;> rfl

theorem writeEqCtl_zero (r : Nat) (en : Bool) (s : State) :
    writeEqCtl r (2 + b2n en) s = if en then enableEq r (zeroEq r s) else disableEq r (zeroEq r s) := by
  cases en <;> rfl

/-- The command reaches the ring's CTL register when the window is open and the master passes. -/
theorem exec_ringZero_open (s : State) (id r : Nat) (eq en : Bool) (hr : r < 64) (hw : s.windowOpen = true)
    (hp : s.passes id (ringNeed id) = true) :
    exec (.ringZero id eq r en) s = .next ((if eq then writeEqCtl r (2 + b2n en) else writeSqCtl r (2 + b2n en)) s) := by
  rw [exec_ringZero, execRingZero, State.act_runs s _ (s.windowOpen_runs hw).1, ok, writeCtl, State.gate_pass s _ _ _ _ hw hp,
    Nat.mod_eq_of_lt hr]

theorem exec_ringZero_sq (s : State) (id r : Nat) (en : Bool) (hr : r < 64) (hw : s.windowOpen = true)
    (hp : s.passes id (ringNeed id) = true) :
    exec (.ringZero id false r en) s = .next (if en then enableSq r (zeroSq r s) else disableSq r (zeroSq r s)) :=
  writeSqCtl_zero r en s ▸ exec_ringZero_open s id r false en hr hw hp

theorem exec_ringZero_eq (s : State) (id r : Nat) (en : Bool) (hr : r < 64) (hw : s.windowOpen = true)
    (hp : s.passes id (ringNeed id) = true) :
    exec (.ringZero id true r en) s = .next (if en then enableEq r (zeroEq r s) else disableEq r (zeroEq r s)) :=
  writeEqCtl_zero r en s ▸ exec_ringZero_open s id r true en hr hw hp

/-! ### EN in the states where it changes nothing -/

theorem enableSq_eq_self (r : Nat) (s : State)
    (h : s.fg (F.SQ_STAT_STATE r) ≠ stDisabled ∧ s.fg (F.SQ_STAT_STATE r) ≠ stWarm) : enableSq r s = s := by
  simp [enableSq, h]

theorem enableEq_eq_self (r : Nat) (s : State)
    (h : s.fg (F.EQ_STAT_STATE r) ≠ stDisabled ∧ s.fg (F.EQ_STAT_STATE r) ≠ stWarm) : enableEq r s = s := by
  simp [enableEq, h]

theorem disableSq_eq_self (r : Nat) (s : State)
    (h : s.fg (F.SQ_STAT_STATE r) ≠ stRunning ∧ s.fg (F.SQ_STAT_STATE r) ≠ stError) : disableSq r s = s := by
  simp [disableSq, h]

theorem disableEq_eq_self (r : Nat) (s : State)
    (h : s.fg (F.EQ_STAT_STATE r) ≠ stRunning ∧ s.fg (F.EQ_STAT_STATE r) ≠ stError) : disableEq r s = s := by
  simp [disableEq, h]

/-! ### ZERO in RUNNING and STOPPING: ignored -/

theorem zeroSq_eq_self (r : Nat) (s : State)
    (h : s.fg (F.SQ_STAT_STATE r) = stRunning ∨ s.fg (F.SQ_STAT_STATE r) = stStopping) : zeroSq r s = s := by
  rcases h with h | h <;> simp [zeroSq, h, stDisabled, stRunning, stStopping, stError, stWarm]

theorem zeroEq_eq_self (r : Nat) (s : State)
    (h : s.fg (F.EQ_STAT_STATE r) = stRunning ∨ s.fg (F.EQ_STAT_STATE r) = stStopping) : zeroEq r s = s := by
  rcases h with h | h <;> simp [zeroEq, h, stDisabled, stRunning, stStopping, stError, stWarm]

/-! ### ZERO in DISABLED, ERROR and WARM: the ring starts afresh -/

@[simp] theorem dropFetched_rd (r : Nat) (s : State) (a : Nat) : (dropFetched r s).rd a = s.rd a := (rfl)

@[simp] theorem dropFetched_fg (r : Nat) (s : State) (f : Fld) : (dropFetched r s).fg f = s.fg f := (rfl)

theorem zeroSq_fresh (r : Nat) (s : State)
    (h : s.fg (F.SQ_STAT_STATE r) = stDisabled ∨ s.fg (F.SQ_STAT_STATE r) = stError ∨ s.fg (F.SQ_STAT_STATE r) = stWarm) :
    (zeroSq r s).fg (F.SQ_STAT_STATE r) = stDisabled ∧ (zeroSq r s).fg (F.SQ_HEAD_INDEX r) = 0 ∧
      (zeroSq r s).fg (F.SQ_TAIL_INDEX r) = 0 ∧ (zeroSq r s).rd (R.SQ_ERRINFO r) = 0 ∧
      (zeroSq r s).fg (F.SQ_STAT_OUTST r) = 0 := by
  have hz : zeroSq r s = dropFetched r ((((((s.fs (F.SQ_STAT_STATE r) stDisabled).fs (F.SQ_CTL_EN r) 0).fs (F.SQ_STAT_OUTST r) 0).fs
      (F.SQ_HEAD_INDEX r) 0).fs (F.SQ_TAIL_INDEX r) 0).wr (R.SQ_ERRINFO r) 0) := by
    rw [zeroSq, if_pos (by simpa [or_assoc] using h)]
  rw [hz, dropFetched_rd, State.rd_wr_same]
  refine ⟨?state, ?head, ?tail, rfl, ?outst⟩
  case state => simp [State.fg_wr_other, State.fg_fs_other, State.fg_fs_disjoint, State.fg_fs_same, stDisabled]
  case head => simp [State.fg_wr_other, State.fg_fs_other, State.fg_fs_same]
  case tail => simp [State.fg_wr_other, State.fg_fs_same]
  case outst => simp [State.fg_wr_other, State.fg_fs_other, State.fg_fs_same]

theorem zeroEq_fresh (r : Nat) (s : State)
    (h : s.fg (F.EQ_STAT_STATE r) = stDisabled ∨ s.fg (F.EQ_STAT_STATE r) = stError ∨ s.fg (F.EQ_STAT_STATE r) = stWarm) :
    (zeroEq r s).fg (F.EQ_STAT_STATE r) = stDisabled ∧ (zeroEq r s).fg (F.EQ_HEAD_INDEX r) = 0 ∧
      (zeroEq r s).fg (F.EQ_TAIL_INDEX r) = 0 ∧ (zeroEq r s).fb (F.EQ_STAT_PHASE r) = true := by
  obtain ⟨f, hz⟩ : ∃ f, zeroEq r s = modRings f ((((((s.fs (F.EQ_STAT_STATE r) stDisabled).fs (F.EQ_CTL_EN r) 0).fs (F.EQ_STAT_LOST r) 0).fs
      (F.EQ_HEAD_INDEX r) 0).fs (F.EQ_TAIL_INDEX r) 0).fs (F.EQ_STAT_PHASE r) 1) :=
    ⟨_, by rw [zeroEq, if_pos (by simpa [or_assoc] using h)]⟩
  rw [hz]
  refine ⟨?state, ?head, ?tail, ?phase⟩
  case state => simp [State.fg_fs_other, State.fg_fs_disjoint, State.fg_fs_same, stDisabled]
  case head => simp [State.fg_fs_other, State.fg_fs_same]
  case tail => simp [State.fg_fs_other, State.fg_fs_same]
  case phase => simp [State.fb, State.fg_fs_same]

/-! ### Submission and event rings -/

/-- Settles O42: from DISABLED, ERROR or WARM, ZERO leaves a fresh DISABLED ring, which EN = 0 keeps; RUNNING ignores ZERO and stays
with EN = 1; STOPPING ignores both bits. -/
theorem ringZero : Obligations.RingZero := by
  unfold Obligations.RingZero
  intro s id r st hr hw hp
  refine ⟨?sq, ?eq⟩
  case sq =>
    rintro rfl
    refine ⟨fun idle => ⟨zeroSq r s, ?_, zeroSq_fresh r s idle⟩, fun running => ?_, fun stopping en => ?_⟩
    · have disabled : (zeroSq r s).fg (F.SQ_STAT_STATE r) = stDisabled := (zeroSq_fresh r s idle).1
      rw [exec_ringZero_sq s id r false hr hw hp, if_neg (by decide), disableSq_eq_self r _ (by rw [disabled]; decide)]
    · rw [exec_ringZero_sq s id r true hr hw hp, if_pos rfl, zeroSq_eq_self r s (.inl running),
        enableSq_eq_self r s (by rw [running]; decide)]
    · rw [exec_ringZero_sq s id r en hr hw hp, zeroSq_eq_self r s (.inr stopping), enableSq_eq_self r s (by rw [stopping]; decide),
        disableSq_eq_self r s (by rw [stopping]; decide), ite_self]
  case eq =>
    rintro rfl
    refine ⟨fun idle => ⟨zeroEq r s, ?_, zeroEq_fresh r s idle⟩, fun running => ?_, fun stopping en => ?_⟩
    · have disabled : (zeroEq r s).fg (F.EQ_STAT_STATE r) = stDisabled := (zeroEq_fresh r s idle).1
      rw [exec_ringZero_eq s id r false hr hw hp, if_neg (by decide), disableEq_eq_self r _ (by rw [disabled]; decide)]
    · rw [exec_ringZero_eq s id r true hr hw hp, if_pos rfl, zeroEq_eq_self r s (.inl running),
        enableEq_eq_self r s (by rw [running]; decide)]
    · rw [exec_ringZero_eq s id r en hr hw hp, zeroEq_eq_self r s (.inr stopping), enableEq_eq_self r s (by rw [stopping]; decide),
        disableEq_eq_self r s (by rw [stopping]; decide), ite_self]

end Sys2Proof.Machine
end

section
/-! PROOFS. The obligations about every command and every step (O1 to O7): which commands act only in a running hub, that each
completes, and what each leaves, from the footprint lemmas of Frames1 to Frames4. -/

namespace Sys2Proof.Machine

open Host (Outcome)

/-! ### Commands that wait for the hub's clock -/

/-- A command that is not on the list of `unclocked` acts in a running hub alone. -/
theorem exec_clocked (c : Instr) (s : State) (h : unclocked c = false) : ∃ f, exec c s = s.act f ∨ exec c s = s.awake f := by
  cases c
  case uapPowerOff | uapPowerOn | uapResetAssert | uapResetRelease | secureEnter | secureExit | isolationAssert | isolationRelease |
      rolsalReadPacket | rolsalWritePacket | hubColdAssert | hubColdRelease | cellColdResetAssert | cellColdResetRelease |
      hubRootClkStop => cases h
  case gatherPingSend | gpingReceive | gpongReceive | gatherSecondRound | gatherPeriodicRound | culletReadoutStart | mbxReqReceive |
      mbxRspReceive | digestReqReceive | digestRspReceive | dumpAccept | noticeFanoutStart | peerNoticeSend | peerNoticeReceive |
      ringFetchTurn | eventEntryWrite | descriptorAccept | gafReady | gafServiceDispatch | gafYield | gafWatchdogExpiry |
      patchChecksDone | otpOperationDone | slotValidationDone | fabricMessageDiscard =>
    unfold exec
    exact ⟨_, .inr rfl⟩
  all_goals
    unfold exec
    exact ⟨_, .inl rfl⟩

/-- Settles O4: a command that waits for the clock is an `act` or an `awake`, and neither does anything while the hub does not run. -/
theorem stoppedHubDoesNothing : Obligations.StoppedHubDoesNothing := by
  unfold Obligations.StoppedHubDoesNothing
  intro s c hs hc
  obtain ⟨f, h | h⟩ := exec_clocked c s hc
  · rw [h, State.act_stopped s f hs]
  · rw [h, State.awake_stopped s f hs]

/-! ### The footprint of each command -/

theorem Sub.refl (m : Nat) : Sub m m := Nat.and_self m

/-- The footprint lemmas, command by command, against the footprint table. -/
theorem exec_frame : ∀ (c : Instr) (s : State), FrameO (Part.mask (touched c)) s (exec c s)
  | .registerWrite _ _ _ _, s => execRegisterWrite_frame (.refl _) _ _ _ _ s .refl
  | .wideRegisterLowRead _ _ _, s => execWideRegisterLowRead_frame (.refl _) _ _ _ s .refl
  | .rcRegisterRead _ _ _, s => execRcRegisterRead_frame (.refl _) _ _ _ s .refl
  | .uapPowerOff _, s => execUapPowerOff_frame (.refl _) _ s .refl
  | .uapPowerOn _ _ _ _, s => execUapPowerOn_frame (.refl _) _ _ _ _ s .refl
  | .uapResetAssert _, s => execUapResetAssert_frame (.refl _) _ s .refl
  | .uapResetRelease _, s => execUapResetRelease_frame (.refl _) _ s .refl
  | .cmdEventBegin _ _ _ _ _ _ _ _ _, s => execCmdEventBegin_frame (.refl _) _ _ _ _ _ _ _ _ _ s .refl
  | .cmdEventEnd _ _ _ _ _ _ _ _ _, s => execCmdEventEnd_frame (.refl _) _ _ _ _ _ _ _ _ _ s .refl
  | .cmdEventAbort _ _ _ _ _ _ _ _ _, s => execCmdEventAbort_frame (.refl _) _ _ _ _ _ _ _ _ _ s .refl
  | .cmdEventSuspend _ _ _ _ _ _ _ _ _, s => execCmdEventSuspend_frame (.refl _) _ _ _ _ _ _ _ _ _ s .refl
  | .cmdEventResume _ _ _ _ _ _ _ _ _, s => execCmdEventResume_frame (.refl _) _ _ _ _ _ _ _ _ _ s .refl
  | .unitIncrementCycle _ _ _ _ _ _ _ _ _ _ _ _ _ _ _, s => execUnitIncrementCycle_frame (.refl _) _ _ _ _ _ _ _ _ _ _ _ _ _ _ _ s .refl
  | .shAckRise _, s => execShAckRise_frame (.refl _) _ s .refl
  | .shAckLate _, s => execShAckLate_frame (.refl _) _ s .refl
  | .striaTapBeat _ _ _ _ _ _ _ _ _ _ _, s => execStriaTapBeat_frame (.refl _) _ _ _ _ _ _ _ _ _ _ _ s .refl
  | .striaPairAbsorb _, s => execStriaPairAbsorb_frame (.refl _) _ s .refl
  | .dbgCtlWrite _ _, s => execDbgCtlWrite_frame (.refl _) _ _ s .refl
  | .dbgAddrWrite _ _, s => execDbgAddrWrite_frame (.refl _) _ _ s .refl
  | .dbgCmdHalt _, s => execDbgCmdHalt_frame (.refl _) _ s .refl
  | .dbgCmdRun _, s => execDbgCmdRun_frame (.refl _) _ s .refl
  | .dbgCmdStep _, s => execDbgCmdStep_frame (.refl _) _ s .refl
  | .coreHaltedRise _ _ _, s => execCoreHaltedRise_frame (.refl _) _ _ _ s .refl
  | .coreHaltedFall _, s => execCoreHaltedFall_frame (.refl _) _ s .refl
  | .haltedLate _, s => execHaltedLate_frame (.refl _) _ s .refl
  | .secureEnter _, s => execSecureEnter_frame (.refl _) _ s .refl
  | .secureExit _, s => execSecureExit_frame (.refl _) _ s .refl
  | .itRecord _ _ _ _ _ _, s => execItRecord_frame (.refl _) _ _ _ _ _ _ s .refl
  | .dtRecord _ _ _ _ _ _ _, s => execDtRecord_frame (.refl _) _ _ _ _ _ _ _ s .refl
  | .frameBoundary _, s => execFrameBoundary_frame (.refl _) _ s .refl
  | .upstreamFlitError _ _ _, s => execUpstreamFlitError_frame (.refl _) _ _ _ s .refl
  | .stationDownstreamError _, s => execStationDownstreamError_frame (.refl _) _ s .refl
  | .stationSlotCollision _, s => execStationSlotCollision_frame (.refl _) _ s .refl
  | .netErrNoteSend _, s => execNetErrNoteSend_frame (.refl _) _ s .refl
  | .netErrNoteArrival _, s => execNetErrNoteArrival_frame (.refl _) _ s .refl
  | .stationUpstreamSend _ _, s => execStationUpstreamSend_frame (.refl _) _ _ s .refl
  | .stationWindowRead _ _ _, s => execStationWindowRead_frame (.refl _) _ _ _ s .refl
  | .stationWindowWrite _ _ _, s => execStationWindowWrite_frame (.refl _) _ _ _ s .refl
  | .stationRegRd _ _, s => execStationRegRd_frame (.refl _) _ _ s .refl
  | .stationRegWr _, s => execStationRegWr_frame (.refl _) _ s .refl
  | .regrdArrival _, s => execRegrdArrival_frame (.refl _) _ s .refl
  | .stationReduceReq _, s => execStationReduceReq_frame (.refl _) _ s .refl
  | .reducePartnerTimeout _, s => execReducePartnerTimeout_frame (.refl _) _ s .refl
  | .reductionSample, s => execReductionSample_frame (.refl _) s .refl
  | .reductionResult _, s => execReductionResult_frame (.refl _) _ s .refl
  | .isolationAssert _ _, s => execIsolationAssert_frame (.refl _) _ _ s .refl
  | .isolationRelease _ _, s => execIsolationRelease_frame (.refl _) _ _ s .refl
  | .restorationTimeout _, s => execRestorationTimeout_frame (.refl _) _ s .refl
  | .caneTrain _, s => execCaneTrain_frame (.refl _) _ s .refl
  | .caneRetrain _ _, s => execCaneRetrain_frame (.refl _) _ _ s .refl
  | .trainingComplete _ _ _, s => execTrainingComplete_frame (.refl _) _ _ _ s .refl
  | .caneEnable _, s => execCaneEnable_frame (.refl _) _ s .refl
  | .caneDisable _, s => execCaneDisable_frame (.refl _) _ s .refl
  | .framesStop, s => execFramesStop_frame (.refl _) s .refl
  | .slotRestart _, s => execSlotRestart_frame (.refl _) _ s .refl
  | .slotDataWrite _ _, s => execSlotDataWrite_frame (.refl _) _ _ s .refl
  | .slotValidate _, s => execSlotValidate_frame (.refl _) _ s .refl
  | .slotValidationDone, s => execSlotValidationDone_frame (.refl _) s .refl
  | .stationSlotLoad _, s => execStationSlotLoad_frame (.refl _) _ s .refl
  | .slotVerifyTimeout _, s => execSlotVerifyTimeout_frame (.refl _) _ s .refl
  | .timeStart _, s => execTimeStart_frame (.refl _) _ s .refl
  | .timeLock _, s => execTimeLock_frame (.refl _) _ s .refl
  | .timeIncWrite _ _, s => execTimeIncWrite_frame (.refl _) _ _ s .refl
  | .stationTsLoad _ _, s => execStationTsLoad_frame (.refl _) _ _ s .refl
  | .stationFrameMark _ _ _ _ _ _ _, s => execStationFrameMark_frame (.refl _) _ _ _ _ _ _ _ s .refl
  | .stationMarkTimeout _, s => execStationMarkTimeout_frame (.refl _) _ s .refl
  | .gatherPingSend, s => execGatherPingSend_frame (.refl _) s .refl
  | .gpingReceive _ _ _ _, s => execGpingReceive_frame (.refl _) _ _ _ _ s .refl
  | .gpongReceive _ _ _ _ _ _, s => execGpongReceive_frame (.refl _) _ _ _ _ _ _ s .refl
  | .gatherRoundEnd, s => execGatherRoundEnd_frame (.refl _) s .refl
  | .gatherSecondRound, s => execGatherSecondRound_frame (.refl _) s .refl
  | .gatherPeriodicRound, s => execGatherPeriodicRound_frame (.refl _) s .refl
  | .gatherTimeout, s => execGatherTimeout_frame (.refl _) s .refl
  | .shearRequestDecided, s => execShearRequestDecided_frame (.refl _) s .refl
  | .shearCommit, s => execShearCommit_frame (.refl _) s .refl
  | .stationShearDecode _ _ _, s => execStationShearDecode_frame (.refl _) _ _ _ s .refl
  | .cutTick, s => execCutTick_frame (.refl _) s .refl
  | .resumeIssue, s => execResumeIssue_frame (.refl _) s .refl
  | .resumeTick, s => execResumeTick_frame (.refl _) s .refl
  | .selftestTestSend, s => execSelftestTestSend_frame (.refl _) s .refl
  | .selftestReply _, s => execSelftestReply_frame (.refl _) _ s .refl
  | .selftestRootCheck _, s => execSelftestRootCheck_frame (.refl _) _ s .refl
  | .receiverLock _ _, s => execReceiverLock_frame (.refl _) _ _ s .refl
  | .shearEnable _, s => execShearEnable_frame (.refl _) _ s .refl
  | .shearDisable _, s => execShearDisable_frame (.refl _) _ s .refl
  | .shearTrigLatch _, s => execShearTrigLatch_frame (.refl _) _ s .refl
  | .shearTrigFreeze _, s => execShearTrigFreeze_frame (.refl _) _ s .refl
  | .shearTrigDrain _, s => execShearTrigDrain_frame (.refl _) _ s .refl
  | .shearTrigRunOn _, s => execShearTrigRunOn_frame (.refl _) _ s .refl
  | .shearTrigResume _, s => execShearTrigResume_frame (.refl _) _ s .refl
  | .carrierShearRequest _, s => execCarrierShearRequest_frame (.refl _) _ s .refl
  | .carrierShearPairError _, s => execCarrierShearPairError_frame (.refl _) _ s .refl
  | .cutAtTrigger, s => execCutAtTrigger_frame (.refl _) s .refl
  | .culletReadGo _ _, s => execCulletReadGo_frame (.refl _) _ _ s .refl
  | .culletReadoutStart, s => execCulletReadoutStart_frame (.refl _) s .refl
  | .stationCulletRd _, s => execStationCulletRd_frame (.refl _) _ s .refl
  | .stationCulletGroupDone _ _, s => execStationCulletGroupDone_frame (.refl _) _ _ s .refl
  | .culletMessageArrival _, s => execCulletMessageArrival_frame (.refl _) _ s .refl
  | .culletReadoutTimeout, s => execCulletReadoutTimeout_frame (.refl _) s .refl
  | .stnPcCfgWrite _ _ _ _, s => execStnPcCfgWrite_frame (.refl _) _ _ _ _ s .refl
  | .stationCtrConfig _, s => execStationCtrConfig_frame (.refl _) _ s .refl
  | .counterConfigApply _, s => execCounterConfigApply_frame (.refl _) _ s .refl
  | .stationCtrRead _, s => execStationCtrRead_frame (.refl _) _ s .refl
  | .counterSample _, s => execCounterSample_frame (.refl _) _ s .refl
  | .stationCtrKeys _, s => execStationCtrKeys_frame (.refl _) _ s .refl
  | .stationAttrDump _, s => execStationAttrDump_frame (.refl _) _ s .refl
  | .counterMessageArrival _, s => execCounterMessageArrival_frame (.refl _) _ s .refl
  | .attribMessageArrival _, s => execAttribMessageArrival_frame (.refl _) _ s .refl
  | .counterReadTimeout, s => execCounterReadTimeout_frame (.refl _) s .refl
  | .counterWrapNoteSend _, s => execCounterWrapNoteSend_frame (.refl _) _ s .refl
  | .counterWrapNoteArrival _, s => execCounterWrapNoteArrival_frame (.refl _) _ s .refl
  | .ctrCtlWrite _ _, s => execCtrCtlWrite_frame (.refl _) _ _ s .refl
  | .attrCtxEnWrite _ _ _, s => execAttrCtxEnWrite_frame (.refl _) _ _ _ s .refl
  | .traceMessageFlush _, s => execTraceMessageFlush_frame (.refl _) _ s .refl
  | .stimWrite _ _ _, s => execStimWrite_frame (.refl _) _ _ _ s .refl
  | .centralBatchWrite, s => execCentralBatchWrite_frame (.refl _) s .refl
  | .traceMessageArrival _, s => execTraceMessageArrival_frame (.refl _) _ s .refl
  | .trcFreeze _, s => execTrcFreeze_frame (.refl _) _ s .refl
  | .trcClear _, s => execTrcClear_frame (.refl _) _ s .refl
  | .trcCtlWrite _ _, s => execTrcCtlWrite_frame (.refl _) _ _ s .refl
  | .trcPortWrite _ _ _, s => execTrcPortWrite_frame (.refl _) _ _ _ s .refl
  | .trcCmpWrite _ _ _ _, s => execTrcCmpWrite_frame (.refl _) _ _ _ _ s .refl
  | .trcCtxEnWrite _ _ _, s => execTrcCtxEnWrite_frame (.refl _) _ _ _ s .refl
  | .trcLlWrite _ _, s => execTrcLlWrite_frame (.refl _) _ _ s .refl
  | .trcRdWrite _ _, s => execTrcRdWrite_frame (.refl _) _ _ s .refl
  | .seqArm _, s => execSeqArm_frame (.refl _) _ s .refl
  | .seqDisarm _, s => execSeqDisarm_frame (.refl _) _ s .refl
  | .sequencerEvent, s => execSequencerEvent_frame (.refl _) s .refl
  | .timeComparatorMatch, s => execTimeComparatorMatch_frame (.refl _) s .refl
  | .triggerNoteSend _, s => execTriggerNoteSend_frame (.refl _) _ s .refl
  | .triggerNoteArrival _, s => execTriggerNoteArrival_frame (.refl _) _ s .refl
  | .captureStateApply _, s => execCaptureStateApply_frame (.refl _) _ s .refl
  | .stationTracePorts _, s => execStationTracePorts_frame (.refl _) _ s .refl
  | .stationTraceCmp _, s => execStationTraceCmp_frame (.refl _) _ s .refl
  | .stationTraceCtx _, s => execStationTraceCtx_frame (.refl _) _ s .refl
  | .stationTraceParam _, s => execStationTraceParam_frame (.refl _) _ s .refl
  | .stationTraceResync _, s => execStationTraceResync_frame (.refl _) _ s .refl
  | .traceConfigApply _, s => execTraceConfigApply_frame (.refl _) _ s .refl
  | .stationStriaSlot _, s => execStationStriaSlot_frame (.refl _) _ s .refl
  | .striaSlotApply _, s => execStriaSlotApply_frame (.refl _) _ s .refl
  | .stationStriaSettle _, s => execStationStriaSettle_frame (.refl _) _ s .refl
  | .striaSettle _, s => execStriaSettle_frame (.refl _) _ s .refl
  | .stationStriaRelease _, s => execStationStriaRelease_frame (.refl _) _ s .refl
  | .striaTileMessageArrival _, s => execStriaTileMessageArrival_frame (.refl _) _ s .refl
  | .striaFenceArrival _, s => execStriaFenceArrival_frame (.refl _) _ s .refl
  | .striaFenceTimeout, s => execStriaFenceTimeout_frame (.refl _) s .refl
  | .budgetRowApply, s => execBudgetRowApply_frame (.refl _) s .refl
  | .budgetWatchdogExpiry _, s => execBudgetWatchdogExpiry_frame (.refl _) _ s .refl
  | .progressWatchdogExpiry _, s => execProgressWatchdogExpiry_frame (.refl _) _ s .refl
  | .hbCtlWrite _ _ _, s => execHbCtlWrite_frame (.refl _) _ _ _ s .refl
  | .heartbeatWatchdogExpiry _, s => execHeartbeatWatchdogExpiry_frame (.refl _) _ s .refl
  | .faultLatchAck _, s => execFaultLatchAck_frame (.refl _) _ s .refl
  | .faultRecordCompletion _, s => execFaultRecordCompletion_frame (.refl _) _ s .refl
  | .faultNoteSend _, s => execFaultNoteSend_frame (.refl _) _ s .refl
  | .faultNoteArrival _, s => execFaultNoteArrival_frame (.refl _) _ s .refl
  | .faultMessageArrival _, s => execFaultMessageArrival_frame (.refl _) _ s .refl
  | .faultPendingTimeout, s => execFaultPendingTimeout_frame (.refl _) s .refl
  | .faultLoggedEntryExpiry, s => execFaultLoggedEntryExpiry_frame (.refl _) s .refl
  | .epochSetSend, s => execEpochSetSend_frame (.refl _) s .refl
  | .stationEpochNote _, s => execStationEpochNote_frame (.refl _) _ s .refl
  | .epochApply, s => execEpochApply_frame (.refl _) s .refl
  | .deadlinePageAccess _ _ _ _ _, s => execDeadlinePageAccess_frame (.refl _) _ _ _ _ _ s .refl
  | .lehrStartWrite _ _, s => execLehrStartWrite_frame (.refl _) _ _ s .refl
  | .dumpAccept, s => execDumpAccept_frame (.refl _) s .refl
  | .lehrPhaseDeadline, s => execLehrPhaseDeadline_frame (.refl _) s .refl
  | .dumpMasterReadData _ _ _, s => execDumpMasterReadData_frame (.refl _) _ _ _ s .refl
  | .dumpMasterReadTimeout, s => execDumpMasterReadTimeout_frame (.refl _) s .refl
  | .dumpMasterWriteAck _ _, s => execDumpMasterWriteAck_frame (.refl _) _ _ s .refl
  | .dumpMasterWriteTimeout, s => execDumpMasterWriteTimeout_frame (.refl _) s .refl
  | .lehrAbortWrite _, s => execLehrAbortWrite_frame (.refl _) _ s .refl
  | .lehrDestWrite _ _ _ _, s => execLehrDestWrite_frame (.refl _) _ _ _ _ s .refl
  | .rstReqGo _ _, s => execRstReqGo_frame (.refl _) _ _ s .refl
  | .resetAnswerAccepted _, s => execResetAnswerAccepted_frame (.refl _) _ s .refl
  | .resetAnswerDone _, s => execResetAnswerDone_frame (.refl _) _ s .refl
  | .resetAnswerRefused _, s => execResetAnswerRefused_frame (.refl _) _ s .refl
  | .resetAnswerInvalid, s => execResetAnswerInvalid_frame (.refl _) s .refl
  | .resetStepDeadline, s => execResetStepDeadline_frame (.refl _) s .refl
  | .chipStepNoAccept, s => execChipStepNoAccept_frame (.refl _) s .refl
  | .resetCollectTimeout, s => execResetCollectTimeout_frame (.refl _) s .refl
  | .reheatMarkWrite _ _, s => execReheatMarkWrite_frame (.refl _) _ _ s .refl
  | .reheatMilestoneDeadline, s => execReheatMilestoneDeadline_frame (.refl _) s .refl
  | .rstModeWrite _ _, s => execRstModeWrite_frame (.refl _) _ _ s .refl
  | .noticeFanoutStart, s => execNoticeFanoutStart_frame (.refl _) s .refl
  | .peerNoticeSend, s => execPeerNoticeSend_frame (.refl _) s .refl
  | .noticeFanoutDeadline, s => execNoticeFanoutDeadline_frame (.refl _) s .refl
  | .peerNoticeReceive _ _, s => execPeerNoticeReceive_frame (.refl _) _ _ s .refl
  | .peerSilentExpiry, s => execPeerSilentExpiry_frame (.refl _) s .refl
  | .streamMapWrite _ _ _, s => execStreamMapWrite_frame (.refl _) _ _ _ s .refl
  | .ledgerScanStart _ _, s => execLedgerScanStart_frame (.refl _) _ _ s .refl
  | .ledgerScanDone, s => execLedgerScanDone_frame (.refl _) s .refl
  | .ledgerRecordTimeout, s => execLedgerRecordTimeout_frame (.refl _) s .refl
  | .ledgerCheckTimeout, s => execLedgerCheckTimeout_frame (.refl _) s .refl
  | .regionDigestDone, s => execRegionDigestDone_frame (.refl _) s .refl
  | .digestReqReceive _ _ _ _ _, s => execDigestReqReceive_frame (.refl _) _ _ _ _ _ s .refl
  | .digestRspReceive _ _ _ _ _ _, s => execDigestRspReceive_frame (.refl _) _ _ _ _ _ _ s .refl
  | .mirrorVerifyTimeout, s => execMirrorVerifyTimeout_frame (.refl _) s .refl
  | .copyTimeout, s => execCopyTimeout_frame (.refl _) s .refl
  | .contAbortCopy _, s => execContAbortCopy_frame (.refl _) _ s .refl
  | .fabricWriteAck _ _, s => execFabricWriteAck_frame (.refl _) _ _ s .refl
  | .fabricWriteTimeout, s => execFabricWriteTimeout_frame (.refl _) s .refl
  | .sqDoorbell _ _ _, s => execSqDoorbell_frame (.refl _) _ _ _ s .refl
  | .eqDoorbell _ _ _, s => execEqDoorbell_frame (.refl _) _ _ _ s .refl
  | .ringFetchTurn, s => execRingFetchTurn_frame (.refl _) s .refl
  | .descriptorAccept, s => execDescriptorAccept_frame (.refl _) s .refl
  | .descriptorFetchError _, s => execDescriptorFetchError_frame (.refl _) _ s .refl
  | .hostReadReturn _ _ _, s => execHostReadReturn_frame (.refl _) _ _ _ s .refl
  | .hostReadTimeout, s => execHostReadTimeout_frame (.refl _) s .refl
  | .eventEntryWrite _, s => execEventEntryWrite_frame (.refl _) _ s .refl
  | .hostWriteAck _ _, s => execHostWriteAck_frame (.refl _) _ _ s .refl
  | .hostWriteTimeout, s => execHostWriteTimeout_frame (.refl _) s .refl
  | .eqInterruptTimer, s => execEqInterruptTimer_frame (.refl _) s .refl
  | .intMaskWrite _ _ _, s => execIntMaskWrite_frame (.refl _) _ _ _ s .refl
  | .ringEnable _ _ _, s => execRingEnable_frame (.refl _) _ _ _ s .refl
  | .ringDisable _ _ _, s => execRingDisable_frame (.refl _) _ _ _ s .refl
  | .ringZero _ _ _ _, s => execRingZero_frame (.refl _) _ _ _ _ s .refl
  | .functionReset _, s => execFunctionReset_frame (.refl _) _ s .refl
  | .controlGroupReset _, s => execControlGroupReset_frame (.refl _) _ s .refl
  | .nop _ _, s => execNop_frame (.refl _) _ _ s .refl
  | .fence _ _, s => execFence_frame (.refl _) _ _ s .refl
  | .counterConfig _ _, s => execCounterConfig_frame (.refl _) _ _ s .refl
  | .counterRead _ _, s => execCounterRead_frame (.refl _) _ _ s .refl
  | .counterReduce _ _, s => execCounterReduce_frame (.refl _) _ _ s .refl
  | .energyRead _ _, s => execEnergyRead_frame (.refl _) _ _ s .refl
  | .traceConfig _ _, s => execTraceConfig_frame (.refl _) _ _ s .refl
  | .traceArm _ _, s => execTraceArm_frame (.refl _) _ _ s .refl
  | .traceStop _ _, s => execTraceStop_frame (.refl _) _ _ s .refl
  | .traceDrain _ _, s => execTraceDrain_frame (.refl _) _ _ s .refl
  | .traceMark _ _, s => execTraceMark_frame (.refl _) _ _ s .refl
  | .striaArm _ _, s => execStriaArm_frame (.refl _) _ _ s .refl
  | .striaDisarm _ _, s => execStriaDisarm_frame (.refl _) _ _ s .refl
  | .striaRead _ _, s => execStriaRead_frame (.refl _) _ _ s .refl
  | .cut _ _, s => execCut_frame (.refl _) _ _ s .refl
  | .cutAt _ _, s => execCutAt_frame (.refl _) _ _ s .refl
  | .resume _ _, s => execResume_frame (.refl _) _ _ s .refl
  | .snapshot _ _, s => execSnapshot_frame (.refl _) _ _ s .refl
  | .dump _ _, s => execDump_frame (.refl _) _ _ s .refl
  | .dumpAbort _ _, s => execDumpAbort_frame (.refl _) _ _ s .refl
  | .dumpStatus _ _, s => execDumpStatus_frame (.refl _) _ _ s .refl
  | .resetRequest _ _, s => execResetRequest_frame (.refl _) _ _ s .refl
  | .reheatStatus _ _, s => execReheatStatus_frame (.refl _) _ _ s .refl
  | .ledgerRecord _ _, s => execLedgerRecord_frame (.refl _) _ _ s .refl
  | .ledgerCheck _ _, s => execLedgerCheck_frame (.refl _) _ _ s .refl
  | .mirrorVerify _ _, s => execMirrorVerify_frame (.refl _) _ _ s .refl
  | .copy _ _, s => execCopy_frame (.refl _) _ _ s .refl
  | .gather _ _, s => execGather_frame (.refl _) _ _ s .refl
  | .noticeSend _ _, s => execNoticeSend_frame (.refl _) _ _ s .refl
  | .jobTableLoad _ _, s => execJobTableLoad_frame (.refl _) _ _ s .refl
  | .budgetTableLoad _ _, s => execBudgetTableLoad_frame (.refl _) _ _ s .refl
  | .contextBind _ _, s => execContextBind_frame (.refl _) _ _ s .refl
  | .stationAccess _ _, s => execStationAccess_frame (.refl _) _ _ s .refl
  | .mbxGo _ _ _, s => execMbxGo_frame (.refl _) _ _ _ s .refl
  | .mbxRetract _ _ _, s => execMbxRetract_frame (.refl _) _ _ _ s .refl
  | .mbxClaim _ _ _, s => execMbxClaim_frame (.refl _) _ _ _ s .refl
  | .mbxAck _ _ _ _, s => execMbxAck_frame (.refl _) _ _ _ _ s .refl
  | .mbxCrossDefer _, s => execMbxCrossDefer_frame (.refl _) _ s .refl
  | .mbxAckDelayedEffect _ _, s => execMbxAckDelayedEffect_frame (.refl _) _ _ s .refl
  | .doorbellClear _ _ _, s => execDoorbellClear_frame (.refl _) _ _ _ s .refl
  | .doorbellMaskWrite _ _ _, s => execDoorbellMaskWrite_frame (.refl _) _ _ _ s .refl
  | .mbxBindWrite _ _ _, s => execMbxBindWrite_frame (.refl _) _ _ _ s .refl
  | .mbxBindLock _, s => execMbxBindLock_frame (.refl _) _ s .refl
  | .mbxReqReceive _ _ _ _ _ _, s => execMbxReqReceive_frame (.refl _) _ _ _ _ _ _ s .refl
  | .mbxRspReceive _ _ _ _ _, s => execMbxRspReceive_frame (.refl _) _ _ _ _ _ s .refl
  | .gafRelease _ _, s => execGafRelease_frame (.refl _) _ _ s .refl
  | .gafReset _ _, s => execGafReset_frame (.refl _) _ _ s .refl
  | .gafReady _, s => execGafReady_frame (.refl _) _ s .refl
  | .gafServiceDispatch _, s => execGafServiceDispatch_frame (.refl _) _ s .refl
  | .gafYield _, s => execGafYield_frame (.refl _) _ s .refl
  | .gafWatchdogExpiry _, s => execGafWatchdogExpiry_frame (.refl _) _ s .refl
  | .gafDbgHalt _ _ _, s => execGafDbgHalt_frame (.refl _) _ _ _ s .refl
  | .gafDbgRun _ _, s => execGafDbgRun_frame (.refl _) _ _ s .refl
  | .gafDbgStep _ _, s => execGafDbgStep_frame (.refl _) _ _ s .refl
  | .gafBreakHit _ _, s => execGafBreakHit_frame (.refl _) _ _ s .refl
  | .lockedHaltForce _, s => execLockedHaltForce_frame (.refl _) _ s .refl
  | .gafDbgDataWrite _ _ _, s => execGafDbgDataWrite_frame (.refl _) _ _ _ s .refl
  | .gafMemAccess _ _ _, s => execGafMemAccess_frame (.refl _) _ _ _ s .refl
  | .patchRestart _, s => execPatchRestart_frame (.refl _) _ s .refl
  | .patchBlobWrite _ _, s => execPatchBlobWrite_frame (.refl _) _ _ s .refl
  | .patchApply _, s => execPatchApply_frame (.refl _) _ s .refl
  | .patchChecksDone, s => execPatchChecksDone_frame (.refl _) s .refl
  | .patchScrub _ _, s => execPatchScrub_frame (.refl _) _ _ s .refl
  | .patchUnitWrite _ _ _, s => execPatchUnitWrite_frame (.refl _) _ _ _ s .refl
  | .rolsalLineReset, s => execRolsalLineReset_frame (.refl _) s .refl
  | .rolsalReadPacket _, s => execRolsalReadPacket_frame (.refl _) _ s .refl
  | .rolsalWritePacket _ _ _, s => execRolsalWritePacket_frame (.refl _) _ _ _ s .refl
  | .rolsalAccessComplete, s => execRolsalAccessComplete_frame (.refl _) s .refl
  | .rolsalAccessTimeout, s => execRolsalAccessTimeout_frame (.refl _) s .refl
  | .rolsalCancel, s => execRolsalCancel_frame (.refl _) s .refl
  | .authBegin, s => execAuthBegin_frame (.refl _) s .refl
  | .authInWrite _, s => execAuthInWrite_frame (.refl _) _ s .refl
  | .authVerify, s => execAuthVerify_frame (.refl _) s .refl
  | .authVerifyDone, s => execAuthVerifyDone_frame (.refl _) s .refl
  | .authEnd, s => execAuthEnd_frame (.refl _) s .refl
  | .authRenewWrite _, s => execAuthRenewWrite_frame (.refl _) _ s .refl
  | .rolsalIdleTimeout, s => execRolsalIdleTimeout_frame (.refl _) s .refl
  | .rolsalSessionExpiry, s => execRolsalSessionExpiry_frame (.refl _) s .refl
  | .rsSessEndWrite _, s => execRsSessEndWrite_frame (.refl _) _ s .refl
  | .drainStart _, s => execDrainStart_frame (.refl _) _ s .refl
  | .drainStop, s => execDrainStop_frame (.refl _) s .refl
  | .drainDataRead, s => execDrainDataRead_frame (.refl _) s .refl
  | .privMapWrite _ _ _, s => execPrivMapWrite_frame (.refl _) _ _ _ s .refl
  | .secEnWrite _ _, s => execSecEnWrite_frame (.refl _) _ _ s .refl
  | .stationSecurityApply _, s => execStationSecurityApply_frame (.refl _) _ s .refl
  | .testEnWrite _ _, s => execTestEnWrite_frame (.refl _) _ _ s .refl
  | .custGrantWrite _ _, s => execCustGrantWrite_frame (.refl _) _ _ s .refl
  | .otpRead _ _, s => execOtpRead_frame (.refl _) _ _ s .refl
  | .otpProgram _ _, s => execOtpProgram_frame (.refl _) _ _ s .refl
  | .otpGenkey _ _, s => execOtpGenkey_frame (.refl _) _ _ s .refl
  | .otpOperationDone _, s => execOtpOperationDone_frame (.refl _) _ s .refl
  | .hubColdAssert, s => execHubColdAssert_frame (.refl _) s .refl
  | .hubColdRelease _ _ _, s => execHubColdRelease_frame (.refl _) _ _ _ s .refl
  | .otpStartupReadDone, s => execOtpStartupReadDone_frame (.refl _) s .refl
  | .hubWarmAssert, s => execHubWarmAssert_frame (.refl _) s .refl
  | .hubWarmRelease, s => execHubWarmRelease_frame (.refl _) s .refl
  | .cellColdResetAssert _, s => execCellColdResetAssert_frame (.refl _) _ s .refl
  | .cellColdResetRelease _, s => execCellColdResetRelease_frame (.refl _) _ s .refl
  | .hubAliveToggle, s => execHubAliveToggle_frame (.refl _) s .refl
  | .fabricMessageDiscard, s => execFabricMessageDiscard_frame (.refl _) s .refl
  | .ptbCtlWrite _ _, s => execPtbCtlWrite_frame (.refl _) _ _ s .refl
  | .ptbParamWrite _ _ _, s => execPtbParamWrite_frame (.refl _) _ _ _ s .refl
  | .ptbForceWrite _ _, s => execPtbForceWrite_frame (.refl _) _ _ s .refl
  | .forcedFaultStation _, s => execForcedFaultStation_frame (.refl _) _ s .refl
  | .hubRootClkStop, s => execHubRootClkStop_frame (.refl _) s .refl
  | .deferredHaltTake _, s => execDeferredHaltTake_frame (.refl _) _ s .refl
  | .evKindReserved _ _, s => execEvKindReserved_frame (.refl _) _ _ s .refl
  | .upwardDecodeError, s => execUpwardDecodeError_frame (.refl _) s .refl
  | .warmWindowReopen, s => execWarmWindowReopen_frame (.refl _) s .refl

/-- Settles O5: a part outside a command's list has no bit in the mask of its footprint. -/
theorem footprintOfEveryCommand : Obligations.FootprintOfEveryCommand := by
  unfold Obligations.FootprintOfEveryCommand
  intro c s t p ht hp
  exact (exec_frame c s).part ht p hp

/-! ### The footprint of a step -/

/-- Whatever a step does, it is the footprint of some operation on the state whose queue has lost its front. -/
theorem step_frame (s t : State) (h : step s = .next t) : ∃ m, Frame m { s with pending := s.pending.tail } t := by
  unfold step at h
  split at h
  next c rest hp =>
    rw [hp, List.tail_cons]
    exact ⟨_, (exec_frame c _).out t h⟩
  next hp =>
    cases h
    have hs : ({ s with pending := s.pending.tail } : State) = s := by rw [hp, List.tail_nil, ← hp]
    rw [hs]
    exact ⟨0x32befbd, tick_frame (.refl _) s .refl⟩

/-- Settles O6: no operation changes the queue. -/
theorem queueIsFirstInFirstOut : Obligations.QueueIsFirstInFirstOut := by
  unfold Obligations.QueueIsFirstInFirstOut
  intro s t h
  obtain ⟨m, hf⟩ := step_frame s t h
  exact hf.pending

/-- Settles O7: every operation keeps the canonical form of the buffers. -/
theorem buffersStayCanonical : Obligations.BuffersStayCanonical := by
  unfold Obligations.BuffersStayCanonical
  intro s t hwf h
  obtain ⟨m, hf⟩ := step_frame s t h
  exact hf.wf hwf

/-! ### Every command completes -/

/-- The outcome is a next state. -/
def Answers (o : Outcome State Fault Refusal) : Prop := ∃ t, o = .next t

theorem answers_ok (s : State) : Answers (ok s) := ⟨s, rfl⟩

theorem answers_act (s : State) (f : State → Outcome State Fault Refusal) (h : ∀ t, Answers (f t)) : Answers (s.act f) := by
  unfold State.act
  split
  · exact h s
  · exact answers_ok s

theorem answers_awake (s : State) (f : State → Outcome State Fault Refusal) (h : ∀ t, Answers (f t)) : Answers (s.awake f) := by
  unfold State.awake
  split
  · exact h s
  · exact answers_ok s

theorem answers_ite (c : Prop) [Decidable c] (a b : Outcome State Fault Refusal) (ha : Answers a) (hb : Answers b) :
    Answers (if c then a else b) := by
  split
  · exact ha
  · exact hb

/-- Settles O3: every path through a command ends in a next state, but for the scan mode of a HUB_COLD_N release. -/
theorem everyCommandCompletes : Obligations.EveryCommandCompletes := by
  unfold Obligations.EveryCommandCompletes
  intro s c hscan
  change Answers (exec c s)
  cases c
  case hubColdRelease scope prio scan =>
    have hno : scan = false := by
      cases scan
      · rfl
      · exact absurd rfl (hscan scope prio)
    unfold exec execHubColdRelease
    rw [hno]
    exact answers_ite _ _ _ (answers_ok _) (answers_ok _)
  all_goals
    unfold exec
    first
      | exact answers_ok _
      | refine answers_act _ _ fun _ => ?_
      | refine answers_awake _ _ fun _ => ?_
      | skip
  repeat' first
    | exact answers_ok _
    | refine answers_ite _ _ _ ?_ ?_
    | extract_lets
    | split

/-! ### One step, and the state after reset -/

/-- Settles O1. -/
theorem stepTakesTheFront : Obligations.StepTakesTheFront := by
  unfold Obligations.StepTakesTheFront
  intro s c rest
  refine ⟨fun h => ?_, fun h => ?_⟩ <;> rw [step, h]

/-- Settles O2: each clause evaluates the reset state. -/
theorem resetState : Obligations.ResetState := by
  unfold Obligations.ResetState
  decide

end Sys2Proof.Machine
end

section
/-! PROOFS. Accesses of registers that a row of the register index lists (R4 to R6, R496): plain writes, reads with an effect, refusals,
and the class of each identity (R492 to R494). -/

namespace Sys2Proof.Machine

/-! ### The way to a row -/

/-- The offset lies in none of the blocks, pages and words that the register window serves before it looks for a row. -/
def reachesRow (a : Nat) : Bool :=
  a % 4 == 0 && (decide (a < 0x020000) || decide (0x022810 ≤ a)) && decide (a < stationBase) &&
    (decide (a < 0x093000) || decide (0x093800 ≤ a)) && (decide (a < 0x0B3000) || decide (0x0B3800 ≤ a)) &&
    (decide (a < R.SQ_DB 0) || decide (R.SQ_DB 64 ≤ a)) && (decide (a < R.STIM 0) || decide (R.STIM 32 ≤ a)) && a != R.CUST_GRANT

theorem reachesRow_iff (a : Nat) :
    reachesRow a = true ↔ a % 4 = 0 ∧ OutsideBlocks a ∧ (a < R.STIM 0 ∨ R.STIM 32 ≤ a) ∧ a ≠ R.CUST_GRANT := by
  simp only [reachesRow, Bool.and_eq_true, Bool.or_eq_true, decide_eq_true_eq, beq_iff_eq, bne_iff_ne]
  constructor
  · rintro ⟨⟨⟨⟨⟨⟨⟨hal, hmbx⟩, hstn⟩, hdl⟩, hrst⟩, hring⟩, hstim⟩, hgrant⟩
    exact ⟨hal, ⟨hmbx, hstn, hdl, hrst, hring⟩, hstim, hgrant⟩
  · rintro ⟨hal, ⟨hmbx, hstn, hdl, hrst, hring⟩, hstim, hgrant⟩
    exact ⟨⟨⟨⟨⟨⟨⟨hal, hmbx⟩, hstn⟩, hdl⟩, hrst⟩, hring⟩, hstim⟩, hgrant⟩

/-- A read of a row that is no watch slot's asks for the row's class and goes to the central hub. -/
theorem readReg_row (s : State) (id a : Nat) (peek : Bool) (use : Nat → Nat → StnUse) (r : RegRow) (ha : reachesRow a = true)
    (hrow : regRowAt a = some r) (hslot : striaSlotOf a = none) :
    readReg id a peek use s = s.readGate id a r.rd (fun s => (some (readHub id a r peek s).1, (readHub id a r peek s).2)) := by
  obtain ⟨hal, hout, -, -⟩ := (reachesRow_iff a).mp ha
  obtain ⟨hpage, hstn, hdl, hrst, hmbx, hdb, hown, hring⟩ := hout.tests_fail
  rw [readReg, if_neg (by simp [hal]), if_neg hpage, if_neg hstn, if_neg hdl, if_neg hrst, if_neg hmbx, if_neg hdb, if_neg hown,
    if_neg hring, hrow]
  simp only [hslot]

/-- A write of a row outside the trace unit asks for the row's class and goes to the central hub. -/
theorem writeReg_row (s : State) (id a v : Nat) (r : RegRow) (ha : reachesRow a = true) (hrow : regRowAt a = some r)
    (htrc : a < 0x060000 ∨ 0x070000 ≤ a) (hmark : a ≠ R.REHEAT_MARK) :
    writeReg id a v s = s.gate id a (writeNeed id a r) (writeHub id a r v) := by
  obtain ⟨hal, hout, hstim, hgrant⟩ := (reachesRow_iff a).mp ha
  obtain ⟨hpage, hstn, hdl, hrst, hmbx, hdb, hown, hring⟩ := hout.tests_fail
  rw [writeReg, if_neg (by simp [hal]), if_neg hpage, if_neg hstn, if_neg hdl, if_neg hrst, if_neg hmbx, if_neg hdb, if_neg hown,
    if_neg hring, if_neg (by omega), if_neg hgrant, hrow]
  simp only
  rw [if_neg (by omega), if_neg hmark]

/-- The offset asks its writer for the class its row lists. -/
theorem writeNeed_row (id a : Nat) (r : RegRow) (hring : a < 0x10000 ∨ 0x12000 ≤ a) (hotp : a ≠ R.OTP_CTL) (hmark : a ≠ R.REHEAT_MARK) :
    writeNeed id a r = r.wr := by
  rw [writeNeed, if_neg (by omega), if_neg hotp, if_neg hmark]

/-! ### Plain writes -/

/-- What of a write is settled by the offset alone: it reaches a row, outside the trace unit and the rings, whose class is the row's,
which is no wide register and has no lock. -/
def plainRow (a : Nat) : Bool :=
  reachesRow a && (decide (a < 0x060000) || decide (0x070000 ≤ a)) && (decide (a < 0x10000) || decide (0x12000 ≤ a)) &&
    a != R.OTP_CTL && a != R.REHEAT_MARK && (hubWide a).isNone

theorem plainRow_iff (a : Nat) : plainRow a = true ↔ reachesRow a = true ∧ (a < 0x060000 ∨ 0x070000 ≤ a) ∧
    (a < 0x10000 ∨ 0x12000 ≤ a) ∧ a ≠ R.OTP_CTL ∧ a ≠ R.REHEAT_MARK ∧ hubWide a = none := by
  simp only [plainRow, Bool.and_eq_true, Bool.or_eq_true, decide_eq_true_eq, bne_iff_ne, Option.isNone_iff_eq_none, and_assoc]

/-- A write of such a row is the gated write of its word. -/
theorem writeReg_plainRow (s : State) (id a v : Nat) (r : RegRow) (ha : plainRow a = true) (hrow : regRowAt a = some r) :
    writeReg id a v s = s.gate id a r.wr (writeWord id a v) := by
  obtain ⟨hreach, htrc, hring, hotp, hmark, hwide⟩ := (plainRow_iff a).mp ha
  have hub : writeHub id a r v = writeWord id a v := by
    funext t
    simp only [writeHub, hwide, ite_self]
  rw [writeReg_row s id a v r hreach hrow htrc hmark, writeNeed_row id a r hring hotp hmark, hub]

/-- The registers whose fields are written by their access types alone (O8). -/
def plainRegs : List Nat :=
  [R.HUB_SCRATCH 0, R.HUB_SCRATCH 3, R.INT_CTL, R.INT_STAT, R.RING_TMO, R.GATHER_CTL, R.GATHER_BUDGET, R.TIME_STAT, R.CANE_STAT,
   R.CANE_ERR_LIM, R.SHEAR_STAT, R.CULLET_STAT, R.CULLET_BUDGET, R.CULLET_TRANSIT, R.CULLET_APT, R.CTR_STAT, R.CTR_BUDGET,
   R.STRIA_BUDGET, R.DL_STAT, R.FLT_WAIT, R.DL_GRACE, R.DL_STN_SEL, R.HB_PER 31, R.LEHR_CTL, R.LEHR_STAT, R.LEHR_TMO, R.RST_STAT,
   R.RST_COLLECT, R.RST_STN_SEL, R.NOTICE_CTL, R.NOTICE_STAT, R.CONT_STAT, R.CONT_TMO, R.MV_RX_LEN, R.GAF_WDT_PER]

theorem plainRegs_plainRow : ∀ a ∈ plainRegs, plainRow a = true := by decide

/-- None of them has an operation of its own, and none has a lock. -/
theorem writeWord_plainRegs (s : State) (id v : Nat) :
    ∀ a ∈ plainRegs, writeWord id a v s = plainWrite a (BitVec.ofNat 32 v) s ∧ s.lockedAt a = false := by
  simp only [plainRegs, List.forall_mem_cons, List.not_mem_nil, false_implies, implies_true, and_true]
  and_intros <;> rfl

theorem plainWrite_row (s : State) (a : Nat) (v : Word) (r : RegRow) (hrow : regRowAt a = some r) :
    plainWrite a v s = s.wr a (writeByTypes r (s.lockedAt a) (s.rd a) v) := by
  simp only [plainWrite, hrow]

/-- Settles O8: the write passes the gate of its row, no operation takes it, and no field is locked. -/
theorem plainRegisterWrite : Obligations.PlainRegisterWrite := by
  unfold Obligations.PlainRegisterWrite
  intro s id a v r ha hrow hw hp
  obtain ⟨hword, hlock⟩ := writeWord_plainRegs s id v a ha
  rw [exec_registerWrite_open s id a v hw, writeReg_plainRow s id a v r (plainRegs_plainRow a ha) hrow,
    State.gate_pass s id a r.wr _ hw hp, hword, plainWrite_row s a _ r hrow, hlock]

/-! ### Reads with an effect -/

/-- A read by a master that may, of a row that is no watch slot's, presents what the central hub reads. -/
theorem masterRead_row (s : State) (id a : Nat) (r : RegRow) (hw : s.windowOpen = true) (ha : reachesRow a = true)
    (hrow : regRowAt a = some r) (hslot : striaSlotOf a = none) (hp : s.passes id r.rd = true) :
    masterRead id a 15 s = presentRead (readHub id a r false s).1 (readHub id a r false s).2 := by
  simp [masterRead, hw, readReg_row s id a false _ r ha hrow hslot, State.readGate, hp, presentAnswer]

/-- Each half of TS is a row that every master may read. -/
theorem tsRows_open : (regRowAt R.TS_LO).map (·.rd) = some .open_ ∧ (regRowAt R.TS_HI).map (·.rd) = some .open_ := by decide

theorem hubWide_ts : hubWide R.TS_LO = some (R.TS_LO, 2, 0) ∧ hubWide R.TS_HI = some (R.TS_LO, 2, 1) := by decide

theorem hubWords_ts (s : State) : s.hubWords R.TS_LO 2 = [s.ts % 2 ^ 32, s.ts >>> 32] := rfl

/-- The low word is answered and the high word held (R5). -/
theorem readHub_tsLo (s : State) (id : Nat) (r : RegRow) :
    readHub id R.TS_LO r false s = (s.ts % 2 ^ 32, holdWide id R.TS_LO true [s.ts >>> 32] s) := by
  rw [readHub, if_neg (by decide), if_neg (by decide), if_neg (by decide), hubWide_ts.1]
  simp only [hubWords_ts, List.headD_cons, List.drop_one, List.tail_cons]

/-- The high word is the held one, where one is held. -/
theorem readHub_tsHi (s : State) (id : Nat) (r : RegRow) :
    readHub id R.TS_HI r false s = ((match s.wideOf id R.TS_LO true with | some ws => ws.getD 0 0 | none => s.ts >>> 32), s) := by
  rw [readHub, if_neg (by decide), if_neg (by decide), if_neg (by decide), hubWide_ts.2]
  rfl

theorem wideOf_holdWide_same (s : State) (id base : Nat) (isRead : Bool) (ws : List Nat) :
    (holdWide id base isRead ws s).wideOf id base isRead = some ws := by
  simp [holdWide, State.wideOf]

/-- A read of a half of TS, by any master. -/
theorem exec_read_ts (s : State) (id a : Nat) (hw : s.windowOpen = true) (ha : a = R.TS_LO ∨ a = R.TS_HI) :
    ∃ r, exec (.wideRegisterLowRead id a 15) s = .next (presentRead (readHub id a r false s).1 (readHub id a r false s).2) := by
  have hreach : reachesRow a = true ∧ striaSlotOf a = none := by rcases ha with rfl | rfl <;> decide
  have hopen : (regRowAt a).map (·.rd) = some .open_ := by
    rcases ha with rfl | rfl
    · exact tsRows_open.1
    · exact tsRows_open.2
  obtain ⟨r, hrow, hrd⟩ := Option.map_eq_some_iff.mp hopen
  refine ⟨r, ?_⟩
  rw [(exec_reads_open s id a 15 hw).1, masterRead_row s id a r hw hreach.1 hrow hreach.2 (by rw [hrd]; rfl)]

/-- The registers of O9 whose fields a read clears. -/
def clearingRegs : List Nat :=
  [R.PRIV_REJ, R.EVT_LOST, R.RING_REJ, R.GATHER_IGN, R.SHEAR_ERR, R.TRC_DROP, R.TRC_GAPS, R.STRIA_DEFER, R.FLT_DISC, R.NOTICE_CNT]

theorem clearingRegs_reach : ∀ a ∈ clearingRegs, reachesRow a = true ∧ striaSlotOf a = none ∧ (regRowAt a).map (·.wo) = some 0 ∧
    hubWide a = none := by decide

/-- Each of them is read from the register file and clears its RC fields. -/
theorem readHub_clearingRegs (s : State) (id : Nat) (r : RegRow) : ∀ a ∈ clearingRegs, hubWide a = none →
    readHub id a r false s = ((s.rd a &&& ~~~ BitVec.ofNat 32 r.wo).toNat, clearRc a s) := by
  simp only [clearingRegs, List.forall_mem_cons, List.not_mem_nil, false_implies, implies_true, and_true]
  and_intros
  all_goals
    intro hwide
    rw [readHub, if_neg (by decide), if_neg (by decide), if_neg (by decide), hwide]
    rfl

theorem clearRc_row (s : State) (a : Nat) (r : RegRow) (hrow : regRowAt a = some r) :
    clearRc a s = s.wr a (s.rd a &&& ~~~ BitVec.ofNat 32 r.rc) := by
  simp only [clearRc, hrow]

/-- Settles O9: TS through the hold of R5, the counting registers through the clearing of R6. -/
theorem readEffects : Obligations.ReadEffects := by
  unfold Obligations.ReadEffects
  refine ⟨fun s id hw => ⟨?low, wideOf_holdWide_same s id R.TS_LO true _, fun w hheld => ?held, fun hnone => ?unheld⟩,
    fun s id a r ha hrow hw hp => ?clears⟩
  case low =>
    obtain ⟨r, hread⟩ := exec_read_ts s id R.TS_LO hw (.inl rfl)
    rw [hread, readHub_tsLo]
  case held =>
    obtain ⟨r, hread⟩ := exec_read_ts s id R.TS_HI hw (.inr rfl)
    rw [hread, readHub_tsHi, hheld]
    rfl
  case unheld =>
    obtain ⟨r, hread⟩ := exec_read_ts s id R.TS_HI hw (.inr rfl)
    rw [hread, readHub_tsHi, hnone]
  case clears =>
    obtain ⟨hreach, hslot, hwo, hwide⟩ := clearingRegs_reach a ha
    have hwo : r.wo = 0 := by simpa [hrow] using hwo
    rw [(exec_reads_open s id a 15 hw).2, masterRead_row s id a r hw hreach hrow hslot hp, readHub_clearingRegs s id r a ha hwide,
      clearRc_row s a r hrow, hwo, show ~~~ BitVec.ofNat 32 0 = BitVec.allOnes 32 from rfl, BitVec.and_allOnes]

/-! ### Refusals -/

theorem rd_refuseAccess_other (m a b : Nat) (s : State) (h1 : b ≠ R.PRIV_REJ) (h2 : b ≠ R.PRIV_REJ_OFF) : (refuseAccess m a s).rd b = s.rd b := by
  unfold refuseAccess
  rw [State.rd_fs_other _ _ _ _ h2, State.rd_fs_other _ _ _ _ h1, State.rd_fsat_other _ _ _ _ h1]

/-- A refusal counts, and keeps the master and the offset (R496). -/
theorem refuseAccess_fields (m a : Nat) (s : State) (ha : a < 2 ^ 22) :
    (refuseAccess m a s).fg F.PRIV_REJ_COUNT = satAdd 16 (s.fg F.PRIV_REJ_COUNT) 1 ∧ (refuseAccess m a s).fg F.PRIV_REJ_LAST_ID = m % 64 ∧
      (refuseAccess m a s).fg F.PRIV_REJ_OFF_OFFSET = a := by
  unfold refuseAccess
  refine ⟨?count, ?last, ?offset⟩
  case count =>
    rw [State.fg_fs_other _ _ _ _ (by decide), State.fg_fs_disjoint _ _ _ _ (by decide) (by decide), State.fg_fsat_same _ _ _ (by decide)]
  case last => exact (State.fg_fs_other _ _ _ _ (by decide)).trans (State.fg_fs_same _ _ _ (by decide))
  case offset => rw [State.fg_fs_same _ _ _ (by decide), Nat.mod_eq_of_lt ha]

/-- A refusal touches the register file alone. -/
theorem refuseAccess_eq (m a : Nat) (s : State) : refuseAccess m a s = { s with regs := (refuseAccess m a s).regs } := rfl

/-- The registers of O10. -/
def refusedRegs : List Nat :=
  [R.HUB_SCRATCH 0, R.INT_CTL, R.RING_TMO, R.GATHER_BUDGET, R.CANE_STAT, R.CULLET_BUDGET, R.CTR_STAT, R.DL_GRACE, R.LEHR_STAT, R.RST_STAT,
   R.CONT_TMO, R.GAF_WDT_PER, R.PTB_STAT]

theorem refusedRegs_reach : ∀ a ∈ refusedRegs, plainRow a = true ∧ striaSlotOf a = none ∧ a < 2 ^ 22 ∧ a ≠ R.PRIV_REJ ∧
    a ≠ R.PRIV_REJ_OFF := by decide

/-- A refused read presents 0 (R496). -/
theorem masterRead_refused (s : State) (id a : Nat) (r : RegRow) (hw : s.windowOpen = true) (ha : reachesRow a = true)
    (hrow : regRowAt a = some r) (hslot : striaSlotOf a = none) (hp : s.passes id r.rd = false) :
    masterRead id a 15 s = presentRead 0 (refuseAccess id a s) := by
  simp [masterRead, hw, readReg_row s id a false _ r ha hrow hslot, State.readGate, hp, presentAnswer]

/-- Settles O10: the gate of the row counts the refusal and the operation behind it is not reached. -/
theorem refusedAccess : Obligations.RefusedAccess := by
  unfold Obligations.RefusedAccess
  intro s id a v r ha hrow hw
  obtain ⟨hplain, hslot, hlt, hrej, hoff⟩ := refusedRegs_reach a ha
  obtain ⟨hcount, hlast, hoffset⟩ := refuseAccess_fields id a s hlt
  have hkeep : (refuseAccess id a s).rd a = s.rd a := rd_refuseAccess_other id a a s hrej hoff
  refine ⟨fun hp => ⟨refuseAccess id a s, ?write, hkeep, hcount, hlast, hoffset, fun b => rd_refuseAccess_other id a b s,
    refuseAccess_eq id a s⟩, fun hp => ⟨presentRead 0 (refuseAccess id a s), ?read, rfl, hkeep, hcount, hlast, hoffset⟩⟩
  case write =>
    rw [exec_registerWrite_open s id a v hw, writeReg_plainRow s id a v r hplain hrow, State.gate_refuse s id a r.wr _ hw hp]
  case read =>
    rw [(exec_reads_open s id a 15 hw).2, masterRead_refused s id a r hw ((plainRow_iff a).mp hplain).1 hrow hslot hp]

/-! ### The class of an identity -/

theorem classOf_core (s : State) (m : Nat) (h : m = 0 ∨ m = 1) : s.classOf m = 3 := by
  simp [State.classOf, h]

theorem classOf_unassigned (s : State) (m : Nat) (h : 52 ≤ m) : s.classOf m = 0 := by
  rw [State.classOf, if_neg (by omega), if_neg (by omega), if_neg (by omega)]

/-- Without a grant an identity has the class of its field (R493). -/
theorem classOf_mapped (s : State) (m : Nat) (h3 : 3 ≤ m) (h51 : m ≤ 51) (hv : s.fb F.CUST_GRANT_VALID = false) :
    s.classOf m = bitsOf (s.rdN (R.PRIV_MAP (m / 16))) (2 * (m % 16)) 2 := by
  rw [State.classOf, if_neg (by omega), if_neg (by omega), if_pos ⟨h3, h51⟩, hv]
  simp

/-- The identity that the grant names (R494). -/
theorem classOf_granted (s : State) (m : Nat) (hv : s.fb F.CUST_GRANT_VALID = true) (hid : s.fg F.CUST_GRANT_ID = m)
    (hm : m = 3 ∨ (36 ≤ m ∧ m ≤ 51)) : s.classOf m = 3 := by
  have h36 : m = 3 ∨ 36 ≤ m := by omega
  rw [State.classOf, if_neg (by omega), if_neg (by omega), if_pos (by omega), if_pos (by simp [hv, hid, h36])]

/-- Settles O12. -/
theorem classOfIdentity : Obligations.ClassOfIdentity := by
  unfold Obligations.ClassOfIdentity
  intro s m
  refine ⟨classOf_core s m, ?session, classOf_unassigned s m, classOf_mapped s m, classOf_granted s m, ?op, ?ten⟩
  case session => rintro rfl; rfl
  case op => simp only [State.passes, decide_eq_true_eq]; omega
  case ten => simp only [State.passes, decide_eq_true_eq]; omega

end Sys2Proof.Machine
end

section
/-! PROOFS. Power and reset of a unit attach port (O13): what `portDown` and `portUp` leave in the port concerned and in every
other one, read off from the core of the ports. -/

namespace Sys2Proof.Machine

/-- What O13 says of the other ports, with either input. -/
theorem otherPort_of_core {s t : State} {u : Nat} (h : ∀ v, v ≠ u → (t.port v).core = (s.port v).core) (v : Nat) (hv : v ≠ u) :
    (t.port v).on = (s.port v).on ∧ (t.port v).rst = (s.port v).rst ∧ (t.port v).queues = (s.port v).queues := by
  obtain ⟨hon, hrst, -, -, hq, -⟩ := core_ext (h v hv)
  exact ⟨hon, hrst, hq⟩

theorem portDown_other (u reason : Nat) (f : Port → Port) (s : State) (hf : ∀ p q, p.core = q.core → (f p).core = (f q).core)
    (v : Nat) (hv : v ≠ u) : ((portDown u reason f s).port v).core = (s.port v).core := by
  rw [portDown_core u reason f s hf v, if_neg hv]

/-- The port that goes down, where its type is NONE and where it is not. -/
theorem portDown_same (u reason : Nat) (f : Port → Port) (s : State) (hf : ∀ p q, p.core = q.core → (f p).core = (f q).core) :
    ((portDown u reason f s).port u).on = (f (s.port u)).on ∧ ((portDown u reason f s).port u).rst = (f (s.port u)).rst ∧
    ((s.port u).ty ≠ 7 → ((portDown u reason f s).port u).pkg = 0 ∧ ((portDown u reason f s).port u).excl = false) ∧
    ((s.port u).ty = 7 → ((portDown u reason f s).port u).queues = (f (s.port u)).queues ∧
      ((portDown u reason f s).port u).excl = (f (s.port u)).excl) := by
  have h := portDown_core u reason f s hf u
  rw [if_pos rfl] at h
  by_cases ht : (s.port u).ty = 7
  · rw [if_pos ht] at h
    obtain ⟨hon, hrst, hexcl, -, hq, -⟩ := core_ext h
    exact ⟨hon, hrst, fun k => absurd ht k, fun _ => ⟨hq, hexcl⟩⟩
  · rw [if_neg ht] at h
    obtain ⟨hon, hrst, hexcl, hpkg, -⟩ := core_ext h
    exact ⟨hon, hrst, fun _ => ⟨hpkg, hexcl⟩, fun k => absurd k ht⟩

theorem portUp_other (u : Nat) (f : Port → Port) (s : State) (v : Nat) (hv : v ≠ u) :
    ((portUp u f s).port v).core = (s.port v).core := by
  rw [portUp_core u f s v, if_neg hv]

theorem portUp_same (u : Nat) (f : Port → Port) (s : State) :
    ((portUp u f s).port u).core = ({ f (s.port u) with queues := [], lastSeq := [] } : Port).core := by
  rw [portUp_core u f s u, if_pos rfl]

/-- Taking the power or the reset input changes nothing else of a port's core. -/
theorem core_setOn {p q : Port} (b : Bool) (h : p.core = q.core) :
    ({ p with on := b } : Port).core = ({ q with on := b } : Port).core := by
  simp only [Port.core, Prod.mk.injEq] at h ⊢
  simp [h]

theorem core_setRst {p q : Port} (b : Bool) (h : p.core = q.core) :
    ({ p with rst := b } : Port).core = ({ q with rst := b } : Port).core := by
  simp only [Port.core, Prod.mk.injEq] at h ⊢
  simp [h]

/-- A strap is taken once: a strapped port keeps its type. -/
theorem strapIn_once (p : Port) (ty cv flat : Nat) :
    (p.strapIn ty cv flat).strapped = true ∧ (p.strapIn ty cv flat).strapTy = if p.strapped then p.strapTy else ty := by
  unfold Port.strapIn
  cases h : p.strapped <;> simp [h]

theorem exec_powerOff_held (s : State) (u : Nat) (hh : s.portHeld u = false) (hon : (s.port u).on = true) :
    ∃ t, exec (.uapPowerOff u) s = .next t ∧ ∀ v, t.port v = (portDown u 0 (fun p => { p with on := false }) s).port v := by
  rw [exec_uapPowerOff]
  unfold execUapPowerOff
  rw [if_neg (by simp [hh]), if_pos hon]
  extract_lets down
  exact ⟨_, rfl, modStn_port (u / 16) (fun x => { x with offAt := mput x.offAt (u % 16) (down.stnTs (u / 16)) }) down (fun _ => rfl)⟩

/-- A port that is powered on: whether its first straps disagree with its slot record or not, its core is that of `portUp`
but for the type it then answers as. -/
theorem exec_powerOn_held (s : State) (u ty cv flat : Nat) (hh : s.portHeld u = false) (hon : (s.port u).on = false) :
    ∃ t b, exec (.uapPowerOn u ty cv flat) s = .next t ∧
      (t.port u).core = ({ (s.port u).strapIn ty cv flat with on := true, queues := [], lastSeq := [], asNone := b } : Port).core ∧
      ∀ v, v ≠ u → (t.port v).core = (s.port v).core := by
  rw [exec_uapPowerOn]
  unfold execUapPowerOn
  simp only [hh, hon, if_false, Bool.false_eq_true]
  split
  · refine ⟨_, true, rfl, ?_, fun v hv => ?_⟩
    · rw [port_modPort, if_pos rfl]
      have h := ((portMismatch_core u _ PortCore.refl).core u).trans (portUp_same u (fun p => { p.strapIn ty cv flat with on := true }) s)
      simp only [Port.core, Prod.mk.injEq] at h ⊢
      simp [h]
    · rw [port_modPort, if_neg hv, (portMismatch_core u _ PortCore.refl).core v, portUp_other _ _ _ _ hv]
  · exact ⟨_, ((s.port u).strapIn ty cv flat).asNone, rfl, portUp_same _ _ _, fun v hv => portUp_other _ _ _ _ hv⟩

/-- Settles O13: a port that goes down or comes up is settled through the core of `portDown` and `portUp`; a port without
power keeps all but the reset input. -/
theorem portPowerAndReset : Obligations.PortPowerAndReset := by
  unfold Obligations.PortPowerAndReset
  intro s u ty cv flat hh
  refine ⟨fun hon => ?off, fun hon => ?on, fun hon hrst => ?assert, fun hon hrst => ?assertOff, fun hon hrst => ?releaseOff,
    fun hon hrst => ?release⟩
  case off =>
    obtain ⟨t, ht, hp⟩ := exec_powerOff_held s u hh hon
    obtain ⟨h1, h2, h3, h4⟩ := portDown_same u 0 (fun p => { p with on := false }) s (fun _ _ => core_setOn false)
    refine ⟨t, ht, ?_⟩
    rw [hp u]
    refine ⟨h1, h2, h3, h4, fun v hv => ?_⟩
    rw [hp v]
    obtain ⟨ho, -, hq⟩ := otherPort_of_core (portDown_other u 0 _ s (fun _ _ => core_setOn false)) v hv
    exact ⟨ho, hq⟩
  case on =>
    obtain ⟨t, b, ht, hu, hv⟩ := exec_powerOn_held s u ty cv flat hh hon
    obtain ⟨h1, -, -, -, hq, hl, hs, hy⟩ := core_ext hu
    obtain ⟨k1, k2⟩ := strapIn_once (s.port u) ty cv flat
    refine ⟨t, ht, h1, hq, hl, hs.trans k1, hy.trans k2, fun v h => ?_⟩
    obtain ⟨ho, -, hq⟩ := otherPort_of_core hv v h
    exact ⟨ho, hq⟩
  case assert =>
    obtain ⟨h1, h2, h3, h4⟩ := portDown_same u 1 (fun p => { p with rst := true }) s (fun _ _ => core_setRst true)
    refine ⟨portDown u 1 (fun p => { p with rst := true }) s, ?_, h2, h1.trans hon, h3, h4, fun v hv =>
      (otherPort_of_core (portDown_other u 1 _ s (fun _ _ => core_setRst true)) v hv).2⟩
    rw [exec_uapResetAssert]
    simp [execUapResetAssert, hh, hon, hrst, ok]
  case assertOff =>
    rw [exec_uapResetAssert]
    simp [execUapResetAssert, hh, hon, hrst, ok]
  case releaseOff =>
    rw [exec_uapResetRelease]
    simp [execUapResetRelease, hh, hon, hrst, ok]
  case release =>
    obtain ⟨h1, h2, -, -, hq, hl, -⟩ := core_ext (portUp_same u (fun p => { p with rst := false }) s)
    refine ⟨portUp u (fun p => { p with rst := false }) s, ?_, h2, h1.trans hon, hq, hl, fun v hv =>
      (otherPort_of_core (portUp_other u _ s) v hv).2⟩
    rw [exec_uapResetRelease]
    simp [execUapResetRelease, hh, hon, hrst, ok]

end Sys2Proof.Machine
end

section
/-! PROOFS. Command events of a port (O14): which events are in error, and what the others leave in the command records. -/

namespace Sys2Proof.Machine

/-- A port that takes command events: its command interface is live and not frozen. -/
structure TakesEvents (s : State) (u : Nat) : Prop where
  runs : s.runs = true
  live : (s.port u).live = true
  unfrozen : ¬ ((s.port u).shCmd = 3 ∧ (s.port u).ack = true)

/-- The event of kind `k` that names the command in the record `r`. -/
def QRec.event (r : QRec) (k queue : Nat) : Event := ⟨k, r.ctx, r.epoch, r.seq, r.layer, r.op, r.bclass, queue⟩

/-- An event that is in order moves the records of its own port as `moveQueue` says. -/
theorem takeEvent_moves {s : State} {u : Nat} (h : TakesEvents s u) (e : Event) (he : eventError (s.port u) e = none) :
    ∃ stale drained : Bool,
      ((takeEvent u true e s).port u).queues = (moveQueue e stale drained s.clk.cyc (s.port u)).queues ∧
      ((takeEvent u true e s).port u).lastSeq = (moveQueue e stale drained s.clk.cyc (s.port u)).lastSeq ∧
      ∀ v, v ≠ u → ((takeEvent u true e s).port v).queues = (s.port v).queues := by
  obtain ⟨stale, drained, hc⟩ := takeEvent_core u e s h.live h.unfrozen he
  have hu := hc u
  rw [if_pos rfl] at hu
  obtain ⟨-, -, -, -, hq, hl, -⟩ := core_ext hu
  refine ⟨stale, drained, hq, hl, fun v hv => ?_⟩
  have h := hc v
  rw [if_neg hv] at h
  obtain ⟨-, -, -, -, hq, -⟩ := core_ext h
  exact hq

/-- An event in error is recorded as the row of R56 that it breaks, and does nothing else. -/
theorem takeEvent_error {s : State} {u : Nat} (h : TakesEvents s u) (e : Event) (row : Nat) (he : eventError (s.port u) e = some row) :
    takeEvent u true e s = protoViolation u row [e.ctx] (some e.queue) s := by
  unfold takeEvent
  extract_lets p
  rw [if_neg (by simp [p, h.live]), if_neg (by simpa [p] using h.unfrozen)]
  show (match eventError (s.port u) e with | some row => _ | none => _ : State) = _
  rw [he]

theorem takeEvent_frozen (s : State) (u : Nat) (e : Event) (hl : (s.port u).live = true) (h3 : (s.port u).shCmd = 3)
    (ha : (s.port u).ack = true) : takeEvent u true e s = protoViolation u 7 [e.ctx] (some e.queue) s := by
  unfold takeEvent
  extract_lets p
  rw [if_neg (by simp [p, hl]), if_pos (by simp [p, h3, ha])]

/-- An event of a port that is not live or not enabled only shows its clock enable. -/
theorem takeEvent_unseen (s : State) (u : Nat) (cken : Bool) (e : Event) (h : cken = false ∨ (s.port u).live = false) :
    takeEvent u cken e s = seeCken u cken s := by
  unfold takeEvent
  extract_lets p
  rw [if_pos (by rcases h with h | h <;> simp [p, h])]

theorem seeCken_regs (u : Nat) (cken : Bool) (s : State) : (seeCken u cken s).regs = s.regs := by
  unfold seeCken
  extract_lets
  split <;> rfl

/-- Which events are in error where the queue named is open (R31, R56). -/
theorem eventError_begin_open (p : Port) (e : Event) (r : QRec) (hk : e.kind = 0) (h : mget? p.queues e.queue = some r) :
    eventError p e = some 2 := by
  simp [eventError, hk, h]

theorem eventError_begin_new (p : Port) (e : Event) (hk : e.kind = 0) (h : mget? p.queues e.queue = none)
    (hs : mget? p.lastSeq e.queue = none) : eventError p e = none := by
  simp [eventError, hk, h, hs]

theorem eventError_other_empty (p : Port) (e : Event) (hk : e.kind ≠ 0) (h : mget? p.queues e.queue = none) :
    eventError p e = some 2 := by
  unfold eventError
  rw [h]
  split
  · contradiction
  · contradiction
  · rfl
  · contradiction

theorem eventError_other_open (p : Port) (e : Event) (r : QRec) (hk : e.kind ≠ 0) (h : mget? p.queues e.queue = some r) :
    eventError p e = if (e.kind = 1 ∨ e.kind = 3) ∧ r.susp then some 2
      else if e.kind = 4 ∧ !r.susp then some 2
      else if e.kind > 4 then some 1
      else if sameIdentity e r then none else some 3 := by
  unfold eventError
  rw [h]
  split
  · contradiction
  · contradiction
  · contradiction
  · next heq _ => obtain rfl := Option.some.inj heq; rfl

/-- The command in a queue may end or be suspended while it runs, be resumed while it is suspended, and be aborted in both. -/
theorem eventError_named (p : Port) (r : QRec) (k queue : Nat) (hk : k ≠ 0) (h : mget? p.queues queue = some r)
    (hrun : k = 1 ∨ k = 3 → r.susp = false) (hsusp : k = 4 → r.susp = true) (h4 : k ≤ 4) :
    eventError p (r.event k queue) = none := by
  have hid : sameIdentity (r.event k queue) r = true := by simp [sameIdentity, QRec.event]
  rw [eventError_other_open p (r.event k queue) r hk h, if_neg, if_neg, if_neg, if_pos hid]
  · exact Nat.not_lt.mpr h4
  · rintro ⟨hk4, hn⟩
    rw [hsusp hk4] at hn
    exact Bool.false_ne_true hn
  · rintro ⟨hk13, hs⟩
    rw [hrun hk13] at hs
    exact Bool.false_ne_true hs

theorem exec_beginEvent (s : State) (u ctx epoch seq layer op bclass queue : Nat) (h : s.runs = true) :
    exec (.cmdEventBegin u true ctx epoch seq layer op bclass queue) s =
      .next (takeEvent u true ⟨0, ctx, epoch, seq, layer, op, bclass, queue⟩ s) := by
  rw [exec_cmdEventBegin, execCmdEventBegin, State.act_runs _ _ h, ok]

theorem exec_endEvent (s : State) (u ctx epoch seq layer op bclass queue : Nat) (h : s.runs = true) :
    exec (.cmdEventEnd u true ctx epoch seq layer op bclass queue) s =
      .next (takeEvent u true ⟨1, ctx, epoch, seq, layer, op, bclass, queue⟩ s) := by
  rw [exec_cmdEventEnd, execCmdEventEnd, State.act_runs _ _ h, ok]

theorem exec_abortEvent (s : State) (u ctx epoch seq layer op bclass queue : Nat) (h : s.runs = true) :
    exec (.cmdEventAbort u true ctx epoch seq layer op bclass queue) s =
      .next (takeEvent u true ⟨2, ctx, epoch, seq, layer, op, bclass, queue⟩ s) := by
  rw [exec_cmdEventAbort, execCmdEventAbort, State.act_runs _ _ h, ok]

theorem exec_suspendEvent (s : State) (u ctx epoch seq layer op bclass queue : Nat) (h : s.runs = true) :
    exec (.cmdEventSuspend u true ctx epoch seq layer op bclass queue) s =
      .next (takeEvent u true ⟨3, ctx, epoch, seq, layer, op, bclass, queue⟩ s) := by
  rw [exec_cmdEventSuspend, execCmdEventSuspend, State.act_runs _ _ h, ok]

theorem exec_resumeEvent (s : State) (u ctx epoch seq layer op bclass queue : Nat) (h : s.runs = true) :
    exec (.cmdEventResume u true ctx epoch seq layer op bclass queue) s =
      .next (takeEvent u true ⟨4, ctx, epoch, seq, layer, op, bclass, queue⟩ s) := by
  rw [exec_cmdEventResume, execCmdEventResume, State.act_runs _ _ h, ok]

/-- BEGIN of a queue that no command has used opens it. -/
theorem takeEvent_begin {s : State} {u : Nat} (h : TakesEvents s u) (ctx epoch seq layer op bclass queue : Nat)
    (hq : mget? (s.port u).queues queue = none) (hs : mget? (s.port u).lastSeq queue = none) :
    ∃ t stale drained, exec (.cmdEventBegin u true ctx epoch seq layer op bclass queue) s = .next t ∧
      (t.port u).queues = mput (s.port u).queues queue ⟨ctx, epoch, seq, layer, op, bclass, false, stale, drained⟩ ∧
      (t.port u).lastSeq = mput (s.port u).lastSeq queue seq ∧ (∀ v, v ≠ u → (t.port v).queues = (s.port v).queues) := by
  obtain ⟨stale, drained, hmq, hml, hv⟩ := takeEvent_moves h ⟨0, ctx, epoch, seq, layer, op, bclass, queue⟩
    (eventError_begin_new _ _ rfl hq hs)
  exact ⟨_, stale, drained, exec_beginEvent _ _ _ _ _ _ _ _ _ h.runs, hmq, hml, hv⟩

section
variable {s : State} {u queue : Nat} {r : QRec} (h : TakesEvents s u) (hq : mget? (s.port u).queues queue = some r)
include h hq

/-- An event of an open command that is in order leaves its queue as `moveQueue` does. -/
theorem takeEvent_named (k : Nat) (hk : k ≠ 0) (hrun : k = 1 ∨ k = 3 → r.susp = false) (hsusp : k = 4 → r.susp = true) (h4 : k ≤ 4) :
    ∃ stale drained : Bool,
      ((takeEvent u true (r.event k queue) s).port u).queues =
        (moveQueue (r.event k queue) stale drained s.clk.cyc (s.port u)).queues ∧
      ∀ v, v ≠ u → ((takeEvent u true (r.event k queue) s).port v).queues = (s.port v).queues := by
  obtain ⟨stale, drained, hmq, -, hv⟩ := takeEvent_moves h (r.event k queue) (eventError_named _ r k queue hk hq hrun hsusp h4)
  exact ⟨stale, drained, hmq, hv⟩

/-- END and ABORT free the queue. -/
theorem takeEvent_frees (k : Nat) (hk : k = 1 ∧ r.susp = false ∨ k = 2) :
    ((takeEvent u true (r.event k queue) s).port u).queues = mdel (s.port u).queues queue ∧
    ∀ v, v ≠ u → ((takeEvent u true (r.event k queue) s).port v).queues = (s.port v).queues := by
  rcases hk with ⟨rfl, hs⟩ | rfl
  · obtain ⟨_, _, hmq, hv⟩ := takeEvent_named h hq 1 (by decide) (fun _ => hs) (fun k => by contradiction) (by decide)
    exact ⟨hmq.trans (by simp [moveQueue, QRec.event, hq]), hv⟩
  · obtain ⟨_, _, hmq, hv⟩ := takeEvent_named h hq 2 (by decide) (fun k => by omega) (fun k => by contradiction) (by decide)
    exact ⟨hmq.trans (by simp [moveQueue, QRec.event, hq]), hv⟩

/-- SUSPEND marks the record, RESUME clears the mark. -/
theorem takeEvent_marks (k : Nat) (b : Bool) (hk : k = 3 ∧ r.susp = false ∧ b = true ∨ k = 4 ∧ r.susp = true ∧ b = false) :
    ((takeEvent u true (r.event k queue) s).port u).queues = mput (s.port u).queues queue { r with susp := b } ∧
    ∀ v, v ≠ u → ((takeEvent u true (r.event k queue) s).port v).queues = (s.port v).queues := by
  rcases hk with ⟨rfl, hs, rfl⟩ | ⟨rfl, hs, rfl⟩
  · obtain ⟨_, _, hmq, hv⟩ := takeEvent_named h hq 3 (by decide) (fun _ => hs) (fun k => by contradiction) (by decide)
    exact ⟨hmq.trans (by simp [moveQueue, QRec.event, hq]), hv⟩
  · obtain ⟨_, _, hmq, hv⟩ := takeEvent_named h hq 4 (by decide) (fun k => by omega) (fun _ => hs) (by decide)
    exact ⟨hmq.trans (by simp [moveQueue, QRec.event, hq]), hv⟩

end

/-- Settles O14: an event is in order or breaks a row of R56 as `eventError` tells by the queue it names. -/
theorem commandEvents : Obligations.CommandEvents := by
  unfold Obligations.CommandEvents
  refine ⟨?taken, ?refused⟩
  case taken =>
    intro s u ctx epoch seq layer op bclass queue r hruns hlive hf
    have h : TakesEvents s u := ⟨hruns, hlive, hf⟩
    refine ⟨takeEvent_begin h _ _ _ _ _ _ _, ?_⟩
    rintro hq rfl rfl rfl rfl rfl rfl
    refine ⟨fun hs => ⟨?_, ?_⟩, ?_, fun hs => ?_⟩
    · exact ⟨_, exec_endEvent _ _ _ _ _ _ _ _ _ hruns, takeEvent_frees h hq 1 (.inl ⟨rfl, hs⟩)⟩
    · exact ⟨_, exec_suspendEvent _ _ _ _ _ _ _ _ _ hruns, takeEvent_marks h hq 3 true (.inl ⟨rfl, hs, rfl⟩)⟩
    · exact ⟨_, exec_abortEvent _ _ _ _ _ _ _ _ _ hruns, takeEvent_frees h hq 2 (.inr rfl)⟩
    · exact ⟨_, exec_resumeEvent _ _ _ _ _ _ _ _ _ hruns, takeEvent_marks h hq 4 false (.inr ⟨rfl, hs, rfl⟩)⟩
  case refused =>
    intro s u ctx epoch seq layer op bclass queue r hruns
    refine ⟨fun e hl => ?dead, fun e => ?disabled, fun hl => ⟨?reserved, fun hf => ?errors, fun h3 ha => ?frozen⟩, fun row ctxs q v => ?same⟩
    case dead =>
      rw [takeEvent_unseen s u true e (.inr hl)]
      simp [seeCken]
    case disabled =>
      rw [takeEvent_unseen s u false e (.inl rfl)]
      refine ⟨seeCken_regs _ _ _, fun v => ?_⟩
      obtain ⟨-, -, -, -, hq, hl, -⟩ := core_ext ((seeCken_core u false s PortCore.refl).core v)
      exact ⟨hq, hl⟩
    case reserved =>
      rw [exec_evKindReserved, execEvKindReserved, State.act_runs _ _ hruns, if_pos (by simp [hl]), ok]
    case errors =>
      have h : TakesEvents s u := ⟨hruns, hl, hf⟩
      refine ⟨fun hq => ?_, fun hq => ⟨?_, ?_⟩, fun hq hs hne => ?_⟩
      · rw [exec_beginEvent _ _ _ _ _ _ _ _ _ hruns, takeEvent_error h _ 2 (eventError_begin_open _ _ r rfl hq)]
      · rw [exec_endEvent _ _ _ _ _ _ _ _ _ hruns, takeEvent_error h _ 2 (eventError_other_empty _ _ (by simp) hq)]
      · rw [exec_resumeEvent _ _ _ _ _ _ _ _ _ hruns, takeEvent_error h _ 2 (eventError_other_empty _ _ (by simp) hq)]
      · rw [exec_endEvent _ _ _ _ _ _ _ _ _ hruns, takeEvent_error h _ 3]
        rw [eventError_other_open _ _ r (by simp) hq]
        simp [hs, sameIdentity, hne]
    case frozen => rw [exec_beginEvent _ _ _ _ _ _ _ _ _ hruns, takeEvent_frozen _ _ _ hl h3 ha]
    case same =>
      obtain ⟨-, -, -, -, hq, -⟩ := core_ext ((protoViolation_core u row ctxs q s PortCore.refl).core v)
      exact hq

end Sys2Proof.Machine
end

section
/-! PROOFS. The always-on counters (O15): one cycle adds its eight amounts, and nothing that follows in the cycle touches a
counter again. -/

namespace Sys2Proof.Machine

/-- The additions of a cycle to the first `m` counters of port `u`. -/
def aoAdds (u : Nat) (amount : Nat → Nat) (m : Nat) (s : State) : State :=
  (List.range m).foldl (fun s k => aoAdd u k (amount k) s) s

theorem aoAdds_succ (u : Nat) (amount : Nat → Nat) (m : Nat) (s : State) :
    aoAdds u amount (m + 1) s = aoAdd u m (amount m) (aoAdds u amount m s) := by
  simp [aoAdds, List.range_succ]

theorem aoVal_aoAdds (u : Nat) (amount : Nat → Nat) (m : Nat) (s : State) (hm : m ≤ 8) (v k : Nat) (hk : k < 8) :
    (aoAdds u amount m s).aoVal v k = if v = u ∧ k < m then (s.aoVal v k + amount k) % 2 ^ 48 else s.aoVal v k := by
  induction m with
  | zero => simp [aoAdds]
  | succ m ih =>
    have ih := ih (by omega)
    rw [aoAdds_succ]
    by_cases hc : v = u ∧ k = m
    · obtain ⟨rfl, rfl⟩ := hc
      rw [aoVal_aoAdd _ _ _ _ hk, ih, if_neg (by omega), if_pos (by omega)]
    · rw [aoVal_aoAdd_other _ _ _ _ _ _ (by omega) hk (by omega), ih]
      by_cases h : v = u ∧ k < m
      · rw [if_pos h, if_pos (by omega)]
      · rw [if_neg h, if_neg (by omega)]

/-- A cycle of a live port that neither is frozen nor reports both busy and stall: after the eight additions of `amounts`
every counter keeps its value. -/
theorem exec_incrementCycle {s : State} {u : Nat} (h : TakesEvents s u) (busy stall : Bool) (errCorr : Nat) (rds wrs : List Nat)
    (tx txTc rx rxTc energy fltCode : Nat) (hbs : (busy && stall) = false) :
    ∃ t, exec (.unitIncrementCycle u true busy stall errCorr false rds wrs tx txTc rx rxTc energy false fltCode) s = .next t ∧
      AoKeep (aoAdds u (fun k => [if stall then 0 else b2n busy, b2n stall, 0, errCorr, 0, 0, ((rds.take 5).map (· % 4096)).sum + rx,
        ((wrs.take 5).map (· % 4096)).sum + tx].getD k 0) 8 s) t := by
  have hf : ((s.port u).shCmd == 3 && (s.port u).ack) = false := by simpa using h.unfrozen
  rw [exec_unitIncrementCycle, execUnitIncrementCycle, State.act_runs _ _ h.runs]
  extract_lets p r w frozen extra both b st r' w' tx' rx' eu takers amounts s1 s2 lv s3 s4 s5 s6 ctxs s7
  have hfr : frozen = false := hf
  have hboth : both = false := by simp [both, hfr, hbs]
  have h5 : s5 = s4 := if_neg (by simp)
  have h6 : s6 = s4 := by rw [← h5]; exact if_neg (by simp)
  have h7 : s7 = s4 := by rw [← h6]; exact if_neg (by simp [hboth])
  rw [if_neg (by simp [p, h.live]), if_neg (by simp [hfr])]
  refine ⟨s7, rfl, ?_⟩
  rw [h7]
  have h1 : s1 = aoAdds u (fun k => [if stall then 0 else b2n busy, b2n stall, 0, errCorr, 0, 0, r.sum + rx, w.sum + tx].getD k 0) 8 s := by
    simp [s1, aoAdds, amounts, b, st, eu, r', w', tx', rx', hfr, b2n]
  exact AoKeep.progress _ _ (AoKeep.attrCharge _ _ _ _ (AoKeep.pcIncr _ _ _ (h1 ▸ AoKeep.refl)))

/-- Settles O15: the eight additions of a cycle, each to its own counter. -/
theorem counterIncrements : Obligations.CounterIncrements := by
  unfold Obligations.CounterIncrements
  refine ⟨fun s u k d hk => ⟨aoVal_aoAdd u k d s hk, fun j hj hne => aoVal_aoAdd_other u k d u j s hk hj (.inr hne),
    fun v j hv hj => aoVal_aoAdd_other u k d v j s hk hj (.inl hv)⟩, ?_⟩
  intro s u busy stall errCorr rds wrs tx txTc rx rxTc energy fltCode hruns hu hlive hbs hf
  obtain ⟨t, ht, keep⟩ := exec_incrementCycle ⟨hruns, hlive, hf⟩ busy stall errCorr rds wrs tx txTc rx rxTc energy fltCode hbs
  have hb : (if stall then 0 else b2n busy) = b2n busy := by
    cases stall
    · rfl
    · rw [Bool.and_true] at hbs
      simp [hbs, b2n]
  have own : ∀ k, k < 8 → t.aoVal u k = (s.aoVal u k + [if stall then 0 else b2n busy, b2n stall, 0, errCorr, 0, 0,
      ((rds.take 5).map (· % 4096)).sum + rx, ((wrs.take 5).map (· % 4096)).sum + tx].getD k 0) % 2 ^ 48 := fun k hk => by
    rw [keep.aoVal u k hu hk, aoVal_aoAdds _ _ _ _ (Nat.le_refl 8) _ _ hk, if_pos ⟨rfl, hk⟩]
  refine ⟨t, ht, (own 0 (by decide)).trans (congrArg (fun b => (s.aoVal u 0 + b) % 2 ^ 48) hb), own 1 (by decide), own 3 (by decide), own 6 (by decide),
    own 7 (by decide), fun v k hv hne hk => ?_⟩
  rw [keep.aoVal v k hv hk, aoVal_aoAdds _ _ _ _ (Nat.le_refl 8) _ _ hk, if_neg (fun c => hne c.1)]

end Sys2Proof.Machine
end

section
/-! PROOFS. Debug of a control core (O16): the run control that a settled station keeps, and the fields of DBG_STAT. -/

namespace Sys2Proof.Machine

/-- Settling a station after a port was set leaves the run control that was set. -/
theorem run_withHolds_setPort (n u : Nat) (p : Port) (s : State) :
    ((withHolds n (fun s => setPort u p s) s).port u).run = p.run := by
  rw [(Settled.withHolds n _ s).run u, port_setPort, if_pos rfl]

theorem run_withHolds_modPort (n u : Nat) (f : Port → Port) (s : State) :
    ((withHolds n (fun s => modPort u f s) s).port u).run = (f (s.port u)).run := by
  rw [(Settled.withHolds n _ s).run u, port_modPort, if_pos rfl]

/-- Settling after a change of a port leaves the fields of DBG_STAT, which stand beyond what it writes. -/
theorem fg_withHolds_modPort (n u : Nat) (f : Port → Port) (s : State) (g : Fld) (hg : 0x600 ≤ g.addr % 0x800) :
    (withHolds n (fun s => modPort u f s) s).fg g = s.fg g :=
  State.fg_congr _ _ g (((Settled.withHolds n _ s).rd _ hg).trans rfl)

theorem dbgStat_high (n i : Nat) (hi : i < 16) : 0x600 ≤ R.DBG_STAT n i % 0x800 := by
  simp only [R.DBG_STAT]
  omega

theorem exec_dbgCtlWrite_controlCore (s : State) (u v : Nat) (h : s.runs = true) (hty : (s.port u).ty = 1) :
    ∃ t, exec (.dbgCtlWrite u v) s = .next t ∧ t.rd (R.DBG_CTL (u / 16) (u % 16)) = BitVec.ofNat 32 (v % 2 ^ 23) ∧
      (t.port u).dbgWr = (s.port u).dbgWr ++ [(6, v % 2 ^ 23)] := by
  rw [exec_dbgCtlWrite, execDbgCtlWrite, State.act_runs _ _ h]
  refine ⟨_, rfl, ?_⟩
  unfold writeDbgCtl
  extract_lets n p was s1 s2 new
  have hp : (s2.port u).dbgWr = (s.port u).dbgWr ++ [(6, v % 2 ^ 23)] := by
    show ((setPort u _ s1).port u).dbgWr = _
    rw [port_setPort, if_pos rfl]
  have hr : s2.rd (R.DBG_CTL (u / 16) (u % 16)) = BitVec.ofNat 32 (v % 2 ^ 23) := State.rd_wr_same s _ _
  rw [if_neg (by simp [p, hty])]
  split
  · exact ⟨hr, (congrArg Port.dbgWr (modStn_port _ _ s2 (fun _ => by rfl) u)).trans hp⟩
  · exact ⟨hr, hp⟩

theorem exec_dbgAddrWrite_controlCore (s : State) (u v : Nat) (h : s.runs = true) (hty : (s.port u).ty = 1)
    (hsel : s.fg (F.DBG_SEL_IDX (u / 16) (u % 16)) ≤ 5) :
    exec (.dbgAddrWrite u v) s = .next (setPort u { s.port u with
      cmps := setAt 0 (s.port u).cmps (s.fg (F.DBG_SEL_IDX (u / 16) (u % 16))) v
      dbgWr := (s.port u).dbgWr ++ [(s.fg (F.DBG_SEL_IDX (u / 16) (u % 16)), v)] } s) := by
  rw [exec_dbgAddrWrite, execDbgAddrWrite, State.act_runs _ _ h, writeDbgAddr]
  extract_lets i
  rw [if_neg (by simp [hty, hsel]), ok]

/-- HALT, and a STEP of a halted core, ask the core and leave the request pending. -/
theorem writeDbgCmd_asks (s : State) (u op : Nat) (hty : (s.port u).ty = 1)
    (hop : op = 1 ∨ op = 3 ∧ s.fb (F.DBG_STAT_HALTED (u / 16) (u % 16)) = true) :
    ((writeDbgCmd u op s).port u).pulses = (s.port u).pulses ++ [op] ∧
    ((writeDbgCmd u op s).port u).debugHalt = (if op = 3 then 0 else (s.port u).debugHalt) ∧
    (writeDbgCmd u op s).fb (F.DBG_STAT_HALT_PENDING (u / 16) (u % 16)) = true := by
  unfold writeDbgCmd
  extract_lets n p q s1
  have hrun : (s1.port u).run = _ := run_withHolds_setPort n u _ s
  obtain ⟨-, hpul, hdbg, -⟩ := Port.run_ext hrun
  have h0 : ¬ (p.ty != 1 || decide (op = 0)) = true := by rcases hop with rfl | ⟨rfl, -⟩ <;> simp [p, hty]
  have h3 : ¬ (decide (op = 3) && !s.fb (F.DBG_STAT_HALTED n (u % 16))) = true := by
    rcases hop with rfl | ⟨rfl, h⟩
    · simp
    · simp [n, h]
  rw [if_neg h0, if_neg (by rcases hop with rfl | ⟨rfl, -⟩ <;> decide), if_neg h3]
  exact ⟨hpul, hdbg, State.fb_fs_same _ _ _ (by simp) rfl⟩

theorem writeDbgCmd_run (s : State) (u : Nat) (hty : (s.port u).ty = 1) :
    ((writeDbgCmd u 2 s).port u).pulses = (s.port u).pulses ++ [2] ∧ ((writeDbgCmd u 2 s).port u).debugHalt = 0 ∧
    ((writeDbgCmd u 2 s).port u).bpDrain = false := by
  unfold writeDbgCmd
  extract_lets n p q s1
  rw [if_neg (by simp [p, hty]), if_pos rfl]
  obtain ⟨-, hpul, hdbg, hdrain⟩ := Port.run_ext (run_withHolds_setPort n u { q with bpDrain := false, debugHalt := 0 } (dropDrain n (u % 16) s))
  exact ⟨hpul, hdbg, hdrain⟩

/-- A STEP of a core that runs drives its pulse and does nothing else. -/
theorem writeDbgCmd_step_running (s : State) (u : Nat) (hty : (s.port u).ty = 1)
    (hh : s.fb (F.DBG_STAT_HALTED (u / 16) (u % 16)) = false) :
    writeDbgCmd u 3 s = setPort u { s.port u with pulses := (s.port u).pulses ++ [3], holdHalt := false } s := by
  unfold writeDbgCmd
  extract_lets n p q s1
  rw [if_neg (by simp [p, hty]), if_neg (by decide), if_pos (by simp [n, hh])]

theorem exec_dbgCmdStep_controlCore (s : State) (u : Nat) (h : s.runs = true) (hty : (s.port u).ty = 1) :
    ∃ t, exec (.dbgCmdStep u) s = .next t ∧ (t.port u).pulses = (s.port u).pulses ++ [3] ∧
      (s.fb (F.DBG_STAT_HALTED (u / 16) (u % 16)) = true → (t.port u).debugHalt = 0 ∧
        t.fb (F.DBG_STAT_HALT_PENDING (u / 16) (u % 16)) = true) ∧
      (s.fb (F.DBG_STAT_HALTED (u / 16) (u % 16)) = false → (t.port u).reqCyc = (s.port u).reqCyc ∧ t.regs = s.regs) := by
  rw [exec_dbgCmdStep, execDbgCmdStep, State.act_runs _ _ h]
  refine ⟨_, rfl, ?_⟩
  cases hh : s.fb (F.DBG_STAT_HALTED (u / 16) (u % 16)) with
  | true =>
    obtain ⟨hpul, hdbg, hpend⟩ := writeDbgCmd_asks s u 3 hty (.inr ⟨rfl, hh⟩)
    exact ⟨hpul, fun _ => ⟨hdbg, hpend⟩, fun k => by contradiction⟩
  | false =>
    rw [writeDbgCmd_step_running s u hty hh, port_setPort, if_pos rfl]
    exact ⟨rfl, fun k => by contradiction, fun _ => ⟨rfl, rfl⟩⟩

/-- The registers after a rise of the halted input: `DBG_STAT` shows the halt, its cause and its hit. -/
def showHalt (n i cause hit : Nat) (s : State) : State :=
  (((s.fs (F.DBG_STAT_HALTED n i) 1).fs (F.DBG_STAT_CAUSE n i) cause).fs (F.DBG_STAT_HIT n i) hit).fs (F.DBG_STAT_HALT_PENDING n i) 0

theorem showHalt_fields (n i cause hit : Nat) (s : State) (hc : cause < 8) (hh : hit < 8) :
    (showHalt n i cause hit s).fg (F.DBG_STAT_HALTED n i) = 1 ∧ (showHalt n i cause hit s).fg (F.DBG_STAT_CAUSE n i) = cause ∧
    (showHalt n i cause hit s).fg (F.DBG_STAT_HIT n i) = hit ∧ (showHalt n i cause hit s).fg (F.DBG_STAT_HALT_PENDING n i) = 0 := by
  unfold showHalt
  refine ⟨?_, ?_, ?_, ?_⟩
  · rw [State.fg_fs_disjoint _ _ _ _ (by simp) (by simp), State.fg_fs_disjoint _ _ _ _ (by simp) (by simp),
      State.fg_fs_disjoint _ _ _ _ (by simp) (by simp)]
    exact State.fg_fs_same _ _ _ (by simp)
  · rw [State.fg_fs_disjoint _ _ _ _ (by simp) (by simp), State.fg_fs_disjoint _ _ _ _ (by simp) (by simp)]
    exact (State.fg_fs_same _ _ _ (by simp)).trans (Nat.mod_eq_of_lt hc)
  · rw [State.fg_fs_disjoint _ _ _ _ (by simp) (by simp)]
    exact (State.fg_fs_same _ _ _ (by simp)).trans (Nat.mod_eq_of_lt hh)
  · exact State.fg_fs_same _ _ _ (by simp)

theorem stnTrigger_regs (n : Nat) (stop : Bool) (s : State) : (stnTrigger n stop s).2.regs = s.regs :=
  (stnTrigger_frame (fm := 0x80) (s0 := s) rfl n stop s Frame.refl).regs rfl

theorem stnTrigger_stations (n : Nat) (stop : Bool) (s : State) : (stnTrigger n stop s).2.stations = s.stations :=
  (stnTrigger_frame (fm := 0x80) (s0 := s) rfl n stop s Frame.refl).stations rfl

/-- A rise of the halted input: the fields it shows, and the station it leaves before a trigger of a breakpoint cut. -/
theorem exec_coreHaltedRise_controlCore (s : State) (u cause hit : Nat) (h : s.runs = true) (hl : (s.port u).live = true)
    (hty : (s.port u).ty = 1) :
    ∃ t s1 : State, exec (.coreHaltedRise u cause hit) s = .next t ∧
      (∀ g : Fld, g.addr = R.DBG_STAT (u / 16) (u % 16) → t.fg g = (showHalt (u / 16) (u % 16) cause hit s).fg g) ∧
      (s.fb (F.DBG_STAT_HALTED (u / 16) (u % 16)) = false → 1 ≤ cause → cause ≤ 4 →
        t.stations = (addAct (u / 16) (s.clk.cyc + 1) (.drain (u % 16)) s1).stations ∧ (s1.port u).debugHalt = cause) := by
  rw [exec_coreHaltedRise, execCoreHaltedRise, State.act_runs _ _ h]
  extract_lets n i p was old s1 s2 debug s3 s4
  rw [if_neg (by simp [p, hl, hty])]
  have hs3 : ∀ g : Fld, g.addr = R.DBG_STAT n i → s3.fg g = s2.fg g := fun g hg =>
    fg_withHolds_modPort n u _ s2 g (by rw [hg]; exact dbgStat_high n i (Nat.mod_lt _ (by decide)))
  have hs4 : s4.regs = s3.regs := by
    show (State.when s3 debug _).regs = _
    unfold State.when
    split <;> rfl
  have hcyc : s3.clk.cyc = s.clk.cyc := by
    have e : s3.clk = s2.clk := (withHolds_frame (fm := 0x91) (s0 := s2) rfl n _ s2
      (fun x hx => modPort_frame (fm := 0x91) rfl _ _ _ hx) Frame.refl).clk rfl
    rw [e]
    rfl
  have hport : ((s3.port u).debugHalt) = if debug then cause else p.debugHalt := by
    obtain ⟨-, -, hd, -⟩ := Port.run_ext (run_withHolds_modPort n u (fun p => { p with
      reqCyc := none, haltLate := false
      debugHalt := (if debug then cause else p.debugHalt)
      holdHalt := p.holdHalt && decide (cause ≠ 1 ∧ cause ≠ 2) }) s2)
    exact hd
  have trig : ∀ (b : Bool) (t : State), (if b then (stnTrigger n false t).2 else t).regs = t.regs ∧
      (if b then (stnTrigger n false t).2 else t).stations = t.stations := by
    intro b t
    split
    · exact ⟨stnTrigger_regs _ _ _, stnTrigger_stations _ _ _⟩
    · exact ⟨rfl, rfl⟩
  obtain ⟨hreg, hstn⟩ := trig (debug && bitOf (s4.fg (F.STN_SH_CTL_BP_CUT n)) i) s4
  refine ⟨_, s3, rfl, fun g hg => ?_, fun hh h1 h4 => ?_⟩
  · exact (State.fg_congr s3 _ g (State.rd_congr _ _ (hreg.trans hs4) _)).trans (hs3 g hg)
  · have hdebug : debug = true := by simp [debug, was, hh, h1, h4, n, i]
    refine ⟨hstn.trans ?_, hport.trans (if_pos hdebug)⟩
    show (State.when s3 debug _).stations = _
    rw [State.when, if_pos hdebug, hcyc]

theorem exec_coreHaltedRise_shows (s : State) (u cause hit : Nat) (h : s.runs = true) (hl : (s.port u).live = true)
    (hty : (s.port u).ty = 1) (hc : cause < 8) (hhit : hit < 8) :
    ∃ t, exec (.coreHaltedRise u cause hit) s = .next t ∧ t.fb (F.DBG_STAT_HALTED (u / 16) (u % 16)) = true ∧
      t.fg (F.DBG_STAT_CAUSE (u / 16) (u % 16)) = cause ∧ t.fg (F.DBG_STAT_HIT (u / 16) (u % 16)) = hit ∧
      t.fb (F.DBG_STAT_HALT_PENDING (u / 16) (u % 16)) = false ∧
      (s.fb (F.DBG_STAT_HALTED (u / 16) (u % 16)) = false → 1 ≤ cause → cause ≤ 4 →
        (s.clk.cyc + 1, StnAct.drain (u % 16)) ∈ (t.stn (u / 16)).acts ∧ (t.port u).debugHalt = cause) := by
  obtain ⟨t, s1, ht, hf, hacts⟩ := exec_coreHaltedRise_controlCore s u cause hit h hl hty
  obtain ⟨f1, f2, f3, f4⟩ := showHalt_fields (u / 16) (u % 16) cause hit s hc hhit
  refine ⟨t, ht, ?_, (hf _ rfl).trans f2, (hf _ rfl).trans f3, ?_, fun hh h1 h4 => ?_⟩
  · rw [State.fb, hf _ rfl, f1]; rfl
  · rw [State.fb, hf _ rfl, f4]; rfl
  · obtain ⟨hstn, hd⟩ := hacts hh h1 h4
    have hst : ∀ n, t.stn n = (addAct (u / 16) (s.clk.cyc + 1) (.drain (u % 16)) s1).stn n := fun n => by
      rw [State.stn, hstn, ← State.stn]
    refine ⟨?_, ?_⟩
    · rw [hst, addAct, stn_modStn, if_pos rfl]
      exact List.mem_append_right _ (List.mem_singleton.mpr rfl)
    · have hp : t.port u = s1.port u := by
        rw [State.port, hst]
        exact modStn_port _ _ s1 (fun _ => by rfl) u
      rw [hp, hd]

theorem exec_coreHaltedFall_controlCore (s : State) (u : Nat) (h : s.runs = true) (hl : (s.port u).live = true) (hty : (s.port u).ty = 1) :
    ∃ t, exec (.coreHaltedFall u) s = .next t ∧ t.fb (F.DBG_STAT_HALTED (u / 16) (u % 16)) = false ∧
      t.fg (F.DBG_STAT_CAUSE (u / 16) (u % 16)) = 0 ∧
      t.fg (F.DBG_STAT_HIT (u / 16) (u % 16)) = s.fg (F.DBG_STAT_HIT (u / 16) (u % 16)) ∧ (t.port u).debugHalt = 0 := by
  rw [exec_coreHaltedFall, execCoreHaltedFall, State.act_runs _ _ h]
  extract_lets n i p s1
  rw [if_neg (by simp [p, hl, hty])]
  have hf : ∀ g : Fld, g.addr = R.DBG_STAT n i → (withHolds n (fun s => modPort u (fun p => { p with debugHalt := 0 }) s) s1).fg g = s1.fg g :=
    fun g hg => fg_withHolds_modPort n u _ s1 g (by rw [hg]; exact dbgStat_high n i (Nat.mod_lt _ (by decide)))
  refine ⟨_, rfl, ?_, ?_, ?_, ?_⟩
  · rw [State.fb, hf _ rfl, State.fg_fs_disjoint _ _ _ _ (by simp) (by simp), State.fg_fs_same _ _ _ (by simp)]
    rfl
  · rw [hf _ rfl]
    exact State.fg_fs_same _ _ _ (by simp)
  · rw [hf _ rfl, State.fg_fs_disjoint _ _ _ _ (by simp) (by simp), State.fg_fs_disjoint _ _ _ _ (by simp) (by simp)]
  · obtain ⟨-, -, hd, -⟩ := Port.run_ext (run_withHolds_modPort n u (fun p => { p with debugHalt := 0 }) s1)
    exact hd

theorem exec_haltedLate_due (s : State) (u c : Nat) (h : s.runs = true) (hl : (s.port u).live = true) (hr : (s.port u).reqCyc = some c)
    (he : (s.port u).excl = false) (hlate : (s.port u).haltLate = false) (hc : c + 576 < s.clk.cyc) :
    exec (.haltedLate u) s = .next (protoViolation u 10 [] none (setPort u { s.port u with haltLate := true } s)) := by
  rw [exec_haltedLate, execHaltedLate, State.act_runs _ _ h]
  extract_lets p
  show (match (s.port u).reqCyc with | some c => _ | none => _ : Host.Outcome State Fault Refusal) = _
  rw [hr]
  exact if_pos (by simp [p, hl, he, hlate, hc])

/-- Settles O16: the register writes by `writeDbgCtl` and `writeDbgAddr`, the pulses by `writeDbgCmd`, the halts by the settling of
the station. -/
theorem controlCoreDebug : Obligations.ControlCoreDebug := by
  unfold Obligations.ControlCoreDebug
  refine ⟨fun s u v h hty => ⟨exec_dbgCtlWrite_controlCore s u v h hty, exec_dbgAddrWrite_controlCore s u v h hty, ?halt, ?run,
    exec_dbgCmdStep_controlCore s u h hty⟩, fun s u cause hit c h hl => ⟨fun hty hc hhit => ⟨exec_coreHaltedRise_shows s u cause hit h hl hty hc hhit,
      exec_coreHaltedFall_controlCore s u h hl hty⟩, exec_haltedLate_due s u c h hl⟩⟩
  case halt =>
    obtain ⟨hpul, -, hpend⟩ := writeDbgCmd_asks s u 1 hty (.inl rfl)
    exact ⟨_, by rw [exec_dbgCmdHalt, execDbgCmdHalt, State.act_runs _ _ h, ok], hpul, hpend⟩
  case run => exact ⟨_, by rw [exec_dbgCmdRun, execDbgCmdRun, State.act_runs _ _ h, ok], writeDbgCmd_run s u hty⟩

end Sys2Proof.Machine
end

section
/-! PROOFS. Secure state and trace records of a port (O17), acknowledgement of a shear response (O18), beats of the stria tap (O19). -/

namespace Sys2Proof.Machine

theorem excl_of_core {p q : Port} (h : p.core = q.core) : p.excl = q.excl := by
  obtain ⟨-, -, he, -⟩ := core_ext h
  exact he

theorem beginExcl_excl (u : Nat) (s : State) : ((beginExcl u s).port u).excl = true := by
  unfold beginExcl
  extract_lets p s1
  rw [port_showExcl, port_setPort, if_pos rfl]

/-- The end of an exclusion clears it at its own port, and leaves every other port's. -/
theorem endExcl_excl (u : Nat) (s : State) (v : Nat) :
    ((endExcl u s).port v).excl = if v = u then false else (s.port v).excl := by
  unfold endExcl
  extract_lets s1
  rw [port_showExcl, excl_of_core ((syncPort_core _ _ _ s1 PortCore.refl).core v)]
  show ((modPort u _ s).port v).excl = _
  rw [port_modPort]
  split <;> rfl

theorem exec_secureEnter_live (s : State) (u : Nat) (hl : (s.port u).live = true) (hty : (s.port u).ty = 1) (hh : s.portHeld u = false) :
    exec (.secureEnter u) s = .next (if s.dbgSec (u / 16) || (s.port u).excl then s.fs (F.DBG_STAT_SECURE (u / 16) (u % 16)) 1
      else beginExcl u (s.fs (F.DBG_STAT_SECURE (u / 16) (u % 16)) 1)) := by
  rw [exec_secureEnter, execSecureEnter]
  extract_lets s1
  rw [if_neg (by simp [hh]), if_neg (by simp [hl, hty]), ok]
  rfl

theorem exec_secureExit_live (s : State) (u : Nat) (hl : (s.port u).live = true) (hty : (s.port u).ty = 1) (hh : s.portHeld u = false) :
    exec (.secureExit u) s = .next (if (s.port u).excl then endExcl u (s.fs (F.DBG_STAT_SECURE (u / 16) (u % 16)) 0)
      else s.fs (F.DBG_STAT_SECURE (u / 16) (u % 16)) 0) := by
  rw [exec_secureExit, execSecureExit]
  extract_lets s1
  rw [if_neg (by simp [hh]), if_neg (by simp [hl, hty]), ok]

/-- Nothing is traced while the station does not capture or the port is excluded. -/
theorem capturing_off (s : State) (u : Nat) (h : (s.stn (u / 16)).trace.run = false ∨ (s.port u).excl = true) : s.capturing u = false := by
  unfold State.capturing
  rcases h with h | h <;> simp [h]

/-- An instruction record of a control core, where it is traced and where it is not. -/
theorem exec_itRecord_core (s : State) (u kind count addr : Nat) (h : s.runs = true) (hl : (s.port u).live = true) (hty : (s.port u).ty = 1) :
    ∃ t body, exec (.itRecord u true kind count addr false) s = .next t ∧
      (kind = 3 → s.capturing u = false → t = modPort u (fun p => { p with afterSec := false }) s) ∧
      (kind ≠ 3 → t = stnHits u (fun w => cmpAddr w 2 (u % 16) addr) 0 (modPort u (fun p => { p with afterSec := false })
        (if s.capturing u && bitOf ((s.stn (u / 16)).trace.portCfg (u % 16)) 2 && s.fb (F.DBG_CTL_ITRACE_EN (u / 16) (u % 16)) then
          modPort u (fun p => { p with itFull := false, itAddr := some addr }) (formPacket u srcItrace none (fun _ => body) (s.port u) s) else s))) := by
  rw [exec_itRecord, execItRecord, State.act_runs _ _ h]
  extract_lets n i p traced s1 fresh va full body s2 s3 s4
  rw [if_neg (by simp [p, hl]), if_neg (by simp [p, hty])]
  have h1 : s1 = s := if_neg (by simp)
  refine ⟨_, body, rfl, fun hk hc => ?_, fun hk => ?_⟩
  · have h3 : s3 = s := if_neg (by simp [traced, hc])
    rw [if_pos hk, ← h3]
  · rw [if_neg hk]
    have h3 : s3 = if traced then modPort u (fun p => { p with itFull := false, itAddr := some addr })
        (formPacket u srcItrace none (fun _ => body) (s.port u) s) else s := by
      simp only [s3, s2, h1, hk, if_false]
      rfl
    simp only [s4, h3]
    rfl

theorem exec_dtRecord_core (s : State) (u : Nat) (wr : Bool) (size addr data : Nat) (h : s.runs = true) (hl : (s.port u).live = true)
    (hty : (s.port u).ty = 1) :
    ∃ body, exec (.dtRecord u true wr size addr data false) s = .next (stnHits u (fun w => cmpAddr w 3 (u % 16) addr) 0
      (if s.capturing u && bitOf ((s.stn (u / 16)).trace.portCfg (u % 16)) 3 then
        modPort u (fun p => { p with dtAddr := some addr }) (formPacket u srcDtrace none (fun _ => body) (s.port u) s) else s)) := by
  rw [exec_dtRecord, execDtRecord, State.act_runs _ _ h]
  extract_lets n i p traced s1 va full body s2 s3
  rw [if_neg (by simp [p, hl]), if_neg (by simp [p, hty])]
  have h1 : s1 = s := if_neg (by simp)
  exact ⟨body, by rw [ok]; simp only [s3, s2, h1]; rfl⟩

/-- Settles O17: the exclusion begins and ends as the station's enable says; a record is traced exactly while its port is
captured. -/
theorem secureAndTraceRecords : Obligations.SecureAndTraceRecords := by
  unfold Obligations.SecureAndTraceRecords
  intro s u kind count addr data size wr hl hty hh
  refine ⟨fun hs => ?enterShown, fun hs he => ?enter, fun he => ?exitShown, fun he => ?exit, fun hr hoff => ?untraced,
    fun hr hc hk => ⟨fun hcfg hen => ?instr, fun hcfg => ?data⟩⟩
  case enterShown =>
    rw [exec_secureEnter_live s u hl hty hh, if_pos (by rcases hs with h | h <;> simp [h])]
  case enter =>
    rw [exec_secureEnter_live s u hl hty hh, if_neg (by simp [hs, he])]
    exact ⟨_, rfl, beginExcl_excl _ _⟩
  case exitShown => rw [exec_secureExit_live s u hl hty hh, if_neg (by simp [he])]
  case exit =>
    rw [exec_secureExit_live s u hl hty hh, if_pos he]
    refine ⟨_, rfl, (endExcl_excl u _ u).trans (if_pos rfl), fun v hv => ?_⟩
    rw [endExcl_excl u _ v, if_neg hv]
    rfl
  case untraced =>
    have hc := capturing_off s u hoff
    constructor
    · obtain ⟨t, _, ht, h3, -⟩ := exec_itRecord_core s u 3 count addr hr hl hty
      rw [ht, h3 rfl hc]
    · obtain ⟨_, ht⟩ := exec_dtRecord_core s u wr size addr data hr hl hty
      rw [ht, hc]
      rfl
  case instr =>
    obtain ⟨t, body, ht, -, hk'⟩ := exec_itRecord_core s u kind count addr hr hl hty
    refine ⟨t, ht, ?_⟩
    rw [hk' hk, if_pos (by simp [hc, hcfg, hen]), port_stnHits, port_modPort, if_pos rfl, port_modPort, if_pos rfl]
    exact ⟨rfl, rfl⟩
  case data =>
    obtain ⟨body, ht⟩ := exec_dtRecord_core s u wr size addr data hr hl hty
    refine ⟨_, ht, ?_⟩
    rw [if_pos (by simp [hc, hcfg]), port_stnHits, port_modPort, if_pos rfl]

/-- Clearing one bit of a field leaves its other bits. -/
theorem bitOf_fs_clearBit (s : State) (f : Fld) (hf : f.fits) (i : Nat) (hi : i < f.width) (j : Nat) :
    bitOf ((s.fs f (setBit (s.fg f) i false)).fg f) j = if j = i then false else bitOf (s.fg f) j := by
  rw [State.fg_fs_same _ _ _ hf, Nat.mod_eq_of_lt (setBit_lt _ _ _ _ (State.fg_lt s f) hi), bitOf_setBit]

/-- Settles O18: the acknowledgement clears the port's own bit of ACK_PEND; a late one is row 6 of R56. -/
theorem shearAcknowledge : Obligations.ShearAcknowledge := by
  unfold Obligations.ShearAcknowledge
  intro s u hr hl
  refine ⟨fun hcmd hu => ?_, fun hcmd ha hlate hdue => ?_⟩
  · have bits := bitOf_fs_clearBit (setPort u { s.port u with ack := true } s) (F.STN_SH_STAT_ACK_PEND (u / 16)) (by simp) (u % 16) hu
    rw [exec_shAckRise, execShAckRise, State.act_runs _ _ hr]
    extract_lets p f
    rw [if_pos (by simp [p, hl, hcmd])]
    refine ⟨_, rfl, ?_, (bits (u % 16)).trans (if_pos rfl), fun i _ hne => (bits i).trans (if_neg hne)⟩
    rw [port_fs, port_setPort, if_pos rfl]
  · rw [exec_shAckLate, execShAckLate, State.act_runs _ _ hr]
    extract_lets p
    rw [if_pos (by rcases hcmd with h | h <;> simp [p, hl, ha, hlate, hdue, h]), ok]

/-- Where one queue of pairs alone waits, round robin takes it. -/
theorem find_waiting {queues : SMap (List Pair)} (rr p : Nat) (x : Pair) (rest : List Pair) (hp : p < 16)
    (hother : ∀ q, q ≠ p → mget queues q [] = []) (hx : mget queues p [] = x :: rest) :
    ((List.range 16).map (fun i => (rr + 1 + i) % 16)).find? (fun p => !(mget queues p []).isEmpty) = some p := by
  cases hf : ((List.range 16).map (fun i => (rr + 1 + i) % 16)).find? (fun p => !(mget queues p []).isEmpty) with
  | none =>
    have hmem : p ∈ (List.range 16).map (fun i => (rr + 1 + i) % 16) :=
      List.mem_map.mpr ⟨(p + 15 * (rr + 1)) % 16, List.mem_range.mpr (Nat.mod_lt _ (by decide)), by omega⟩
    have h := List.find?_eq_none.mp hf p hmem
    rw [hx] at h
    exact absurd rfl h
  | some q =>
    have h := List.find?_some hf
    by_cases hq : q = p
    · rw [hq]
    · rw [hother q hq] at h
      exact absurd h (by decide)

/-- A beat of a live port that is not frozen, with a mask. -/
theorem exec_striaTapBeat_live {s : State} {u : Nat} (h : TakesEvents s u) (mask data fmt coord sample pos queue out scale : Nat)
    (hm : mask ≠ 0) (q : Option QRec) (hq : beatCmd (s.port u) queue s.clk.cyc = q) :
    (beatBad q ⟨mask, data, fmt, coord, sample, pos, queue, out, scale⟩ = true →
      exec (.striaTapBeat u true mask data fmt coord sample pos queue out scale) s =
        .next (protoViolation u 9 (q.map (·.ctx)).toList (some queue) s)) ∧
    (∀ r, q = some r → beatBad q ⟨mask, data, fmt, coord, sample, pos, queue, out, scale⟩ = false → (s.port u).ty = 0 →
      exec (.striaTapBeat u true mask data fmt coord sample pos queue out scale) s =
        .next (((s.stn (u / 16)).stria.slots.filter (fun w => slSelects w.2 r ⟨mask, data, fmt, coord, sample, pos, queue, out, scale⟩)).foldl
          (fun s w =>
            if r.stale then modCount w.1 (fun c => { c with staleBeats := min (c.staleBeats + 1) 0xFFFFFFFF }) s
            else if slFmt w.2 != fmt then modCount w.1 (fun c => { c with fmtErr := min (c.fmtErr + 1) 0xFFFFFFFF }) s
            else queuePair u w.1 ⟨mask, data, fmt, coord, sample, pos, queue, out, scale⟩ s) s)) := by
  rw [exec_striaTapBeat, execStriaTapBeat, State.act_runs _ _ h.runs]
  extract_lets p b c ctxs
  have hc : c = q := hq
  rw [if_neg (by simp [p, h.live]), if_neg hm, if_neg (by simpa [p] using h.unfrozen)]
  refine ⟨fun hb => ?_, fun r hr hb hty => ?_⟩
  · rw [if_pos (by rw [hc]; exact hb), ok]
    show Host.Outcome.next (protoViolation u 9 (c.map (·.ctx)).toList _ _) = _
    rw [hc]
  · rw [if_neg (by rw [hc, hb]; decide)]
    simp only [hc, hr]
    exact if_neg (by simp [p, hty])

/-- Settles O19: the command a beat belongs to decides it, and round robin absorbs the first pair of the only waiting port. -/
theorem striaTap : Obligations.StriaTap := by
  unfold Obligations.StriaTap
  intro s u n p mask data fmt coord sample pos queue out scale r w x rest hr
  refine ⟨fun hl hm hf => ⟨fun hq he => ?none, fun hq hsusp hstale hfmt hty hslots hsel hfw => ?queued⟩, fun hother hp hx => ?absorb⟩
  case none =>
    have hcmd : beatCmd (s.port u) queue s.clk.cyc = none := by simp [beatCmd, hq, he]
    exact (exec_striaTapBeat_live ⟨hr, hl, hf⟩ mask data fmt coord sample pos queue out scale hm none hcmd).1 rfl
  case queued =>
    have hcmd : beatCmd (s.port u) queue s.clk.cyc = some r := by simp [beatCmd, hq]
    have hgood : beatBad (some r) ⟨mask, data, fmt, coord, sample, pos, queue, out, scale⟩ = false := by
      have h15 : (fmt == 15) = false := beq_eq_false_iff_ne.2 (by omega)
      have h14 : (fmt == 14) = false := beq_eq_false_iff_ne.2 (by omega)
      have hmx : isMx fmt = false := decide_eq_false (by omega)
      simp [beatBad, hsusp, h15, h14, hmx]
    rw [(exec_striaTapBeat_live ⟨hr, hl, hf⟩ mask data fmt coord sample pos queue out scale hm (some r) hcmd).2 r rfl hgood hty, hslots]
    simp [hsel, hstale, hfw]
  case absorb =>
    rw [exec_striaPairAbsorb, execStriaPairAbsorb, State.act_runs _ _ hr]
    extract_lets y
    show (match ((List.range 16).map (fun i => (y.stria.rr + 1 + i) % 16)).find? (fun p => !(mget y.stria.queues p []).isEmpty) with
      | none => _ | some p => _ : Host.Outcome State Fault Refusal) = _
    rw [find_waiting y.stria.rr p x rest hp hother hx]
    show (match mget y.stria.queues p [] with | [] => _ | r :: rest => _ : Host.Outcome State Fault Refusal) = _
    rw [hx]
    rfl

end Sys2Proof.Machine
end

section
/-! PROOFS. Accesses of station registers (O20). -/

namespace Sys2Proof.Machine

section
variable {s : State} {n : Nat} {m : DownMsg} {rest : List DownMsg} (hr : s.runs = true) (hin : (s.stn n).inbox = m :: rest)
  (hd : s.delivers n = true)
include hr hin hd

/-- A REG_RD of a register page waits while the reserve cannot hold its answer (R86, log entry 123). -/
theorem exec_stationRegRd_front (cap : Nat) (hk : m.kind = 1) (hpage : bitsOf m.head 18 2 ≠ 3) :
    exec (.stationRegRd n cap) s = .next
      (if (s.stn n).canForm 5 (4 + 4 * regrdWords (bitsOf m.head 18 2) (m.head % 512)) then
        (let r := readStn n (bitsOf m.head 18 2) (m.head % 512) (wideSpan (bitsOf m.head 18 2) (4 * (m.head % 512))) (bitOf m.head 9)
            (setStn n { s.stn n with inbox := rest } s)
         offerMsg n (regrd (bitsOf m.head 10 8) 0 r.1) r.2)
      else s) := by
  rw [exec_stationRegRd, execStationRegRd, State.act_runs _ _ hr]
  simp only [takeInbox_cons n 1 (fun _ => true) s m rest hin hd hk rfl]
  cases hc : (s.stn n).canForm 5 (4 + 4 * regrdWords (bitsOf m.head 18 2) (m.head % 512)) with
  | false => simp [ok]
  | true =>
    rw [if_neg (by simp), if_neg hpage]
    rfl

theorem exec_stationRegWr_front (hk : m.kind = 0) (hp : plainRegWr m = true) :
    exec (.stationRegWr n) s = .next
      (writeStn n (bitsOf m.head 9 2) m.grp (4 * (m.head % 512)) m.words (setStn n { s.stn n with inbox := rest } s)) := by
  rw [exec_stationRegWr, execStationRegWr, State.act_runs _ _ hr]
  simp only [takeInbox_cons n 0 plainRegWr s m rest hin hd hk hp]
  rfl

end

theorem exec_regrdArrival_front {s t : State} {n : Nat} {up : UpMsg} {ups : List UpMsg} {a : StnAccess} (hr : s.runs = true)
    (hair : (s.stn n).air = up :: ups) (hk : up.kind = 5) (hreach : s.unreachable n = false)
    (ht : takeAccess n (up.head % 256) (setStn n { s.stn n with air := ups } s) = some (a, t)) :
    exec (.regrdArrival n) s = .next (lehrRun (answered a (bitsOf up.head 8 2 == 0) up.words t)) := by
  rw [exec_regrdArrival, execRegrdArrival, State.act_runs _ _ hr]
  simp only [takeAir_cons n 5 s up ups hair hk]
  have hreach' : (setStn n { s.stn n with air := ups } s).unreachable n = false := hreach
  rw [if_neg (by simp [hreach'])]
  simp only [ht]
  rfl

/-- A station register takes no misaligned write (log entry 116). -/
theorem stationWrite_misaligned (id a v : Nat) (s : State) (h1 : stationBase ≤ a) (ha : a % 4 ≠ 0) : stationWrite id a v s = s := by
  unfold stationWrite
  extract_lets n b
  have hb : b % 4 ≠ 0 := by
    simp only [stationBase] at h1
    simp only [b, stationBase]
    omega
  exact if_pos (by simp [hb])

section
variable {s : State} {id addr : Nat} (h1 : stationBase ≤ addr) (h2 : addr < deadlinePageBase) (hw : s.windowOpen = true)
include h1 h2 hw

/-- A read of a word of the station window, aligned and misaligned (log entry 116). -/
theorem exec_stationWindowRead_open :
    (addr % 4 = 0 → s.passes id .operator = true →
      exec (.stationWindowRead id addr false) s = .next (presentAnswer (stationRead id addr false (.master id) s))) ∧
    (addr % 4 ≠ 0 → exec (.stationWindowRead id addr false) s = .next (presentRead 0 s)) := by
  have hin : ¬ (addr < stationBase ∨ deadlinePageBase ≤ addr ∨ (!s.windowOpen) = true) := by simp [hw]; omega
  rw [exec_stationWindowRead, execStationWindowRead, State.act_runs _ _ (State.windowOpen_runs s hw).1, if_neg hin]
  refine ⟨fun ha hp => ?_, fun ha => if_pos (by simpa using ha)⟩
  rw [if_neg (by simp [ha]), State.readGate, if_pos hp, ok]

omit h1 h2 in
theorem exec_stationWindowWrite_misaligned (value : Nat) (ha : addr % 4 ≠ 0) : exec (.stationWindowWrite id addr value) s = .next s := by
  rw [exec_stationWindowWrite, execStationWindowWrite, State.act_runs _ _ (State.windowOpen_runs s hw).1, if_pos (by omega), ok]

theorem exec_stationWindowWrite_open (value : Nat) (hp : s.passes id .operator = true) :
    exec (.stationWindowWrite id addr value) s = .next (stationWrite id addr value s) := by
  by_cases ha : addr % 4 = 0
  · rw [exec_stationWindowWrite, execStationWindowWrite, State.act_runs _ _ (State.windowOpen_runs s hw).1, if_neg (by omega),
      State.gate_pass _ _ _ _ _ hw hp, ok]
  · rw [stationWrite_misaligned id addr value s h1 ha, exec_stationWindowWrite_misaligned hw value ha]

end

theorem exec_slotVerifyTimeout_late {s : State} {n : Nat} {a : StnAccess} (hr : s.runs = true) (ha : a ∈ s.spine.reads) (hn : a.stn = n)
    (hu : a.use = .verifyCrc ∨ a.use = .verifySlot) (hlate : a.sent + s.readBound n 1 < s.clk.cyc) :
    exec (.slotVerifyTimeout n) s = .next (verifyFail n (modSpine (fun p => { p with
      reads := p.reads.filter (fun b => !(b.stn == n && (b.use == .verifyCrc || b.use == .verifySlot))) }) s)) := by
  rw [exec_slotVerifyTimeout, execSlotVerifyTimeout, State.act_runs _ _ hr]
  extract_lets late s1
  have hany : s.spine.reads.any late = true :=
    List.any_eq_true.mpr ⟨a, ha, by rcases hu with h | h <;> simp [late, hn, h, hlate]⟩
  rw [if_pos hany]
  rfl

/-- Settles O20: each message is the one at the front of its queue, each access of the window one that passes. -/
theorem stationAccesses : Obligations.StationAccesses := by
  unfold Obligations.StationAccesses
  intro s n id addr value cap m rest up ups a t hr
  refine ⟨fun hin hd hk hp => ⟨fun hc => ?_, fun hc => ?_⟩, fun hin hd hk hp => exec_stationRegWr_front hr hin hd hk hp,
    fun hair hk hreach ht => exec_regrdArrival_front hr hair hk hreach ht,
    fun h1 h2 hw hp => ⟨fun ha => (exec_stationWindowRead_open h1 h2 hw).1 ha hp, exec_stationWindowWrite_open h1 h2 hw value hp⟩,
    fun h1 h2 hw ha => ⟨(exec_stationWindowRead_open h1 h2 hw).2 ha, exec_stationWindowWrite_misaligned hw value ha⟩,
    fun ha hn hu hlate => exec_slotVerifyTimeout_late hr ha hn hu hlate⟩
  · rw [exec_stationRegRd_front hr hin hd cap hk hp, if_neg (by simp [hc])]
  · rw [exec_stationRegRd_front hr hin hd cap hk hp, if_pos hc]

end Sys2Proof.Machine
end

section
/-! PROOFS. Errors on the cane network (O21): an error is decided from its flit, and counting it changes no other count. -/

namespace Sys2Proof.Machine

/-- What the counting of a station event leaves: the errors due for announcement, and the registers beyond the counters. -/
structure CountKeep (s t : State) : Prop where
  due : ∀ n, (t.stn n).netErrDue = (s.stn n).netErrDue
  rd : ∀ a, 0x508 ≤ a % 0x800 → t.rd a = s.rd a

theorem CountKeep.refl {s : State} : CountKeep s s := ⟨fun _ => rfl, fun _ _ => rfl⟩

theorem CountKeep.trans {s t u : State} (h : CountKeep s t) (k : CountKeep t u) : CountKeep s u :=
  ⟨fun n => (k.due n).trans (h.due n), fun a ha => (k.rd a ha).trans (h.rd a ha)⟩

theorem CountKeep.wr (s : State) (a : Nat) (v : Word) (ha : a % 0x800 < 0x508) : CountKeep s (s.wr a v) :=
  ⟨fun _ => rfl, fun b hb => State.rd_wr_other _ _ _ _ (by intro e; subst e; omega)⟩

theorem CountKeep.noteWrap (n code : Nat) (s : State) : CountKeep s (noteWrap n code s) := by
  unfold Machine.noteWrap
  extract_lets x
  split
  · exact CountKeep.wr _ _ _ (by simp only [R.STN_CTR_STAT]; omega)
  · refine ⟨fun k => ?_, fun _ _ => rfl⟩
    rw [stn_setStn]
    split
    · next e => rw [e]
    · rfl

theorem CountKeep.pcAdd (n i d : Nat) (s : State) (hi : i < 16) : CountKeep s (pcAdd n i d s) := by
  have hlo : R.STN_PC_LO n i % 0x800 < 0x508 := by simp only [R.STN_PC_LO]; omega
  have hhi : R.STN_PC_HI n i % 0x800 < 0x508 := by simp only [R.STN_PC_HI]; omega
  unfold Machine.pcAdd Machine.ctrAdd
  split
  · exact CountKeep.refl
  · extract_lets h v carry s1 s2
    have h2 : CountKeep s s2 := CountKeep.trans (CountKeep.wr s _ _ hlo) (CountKeep.wr s1 _ _ hhi)
    split
    · exact h2.trans (CountKeep.noteWrap _ _ _)
    · exact h2

theorem CountKeep.pcStation (n code d : Nat) (s : State) : CountKeep s (pcStation n code d s) := by
  have key : ∀ (l : List Nat) (s : State), (∀ i ∈ l, i < 16) →
      CountKeep s (l.foldl (fun s i => if s.fg (F.STN_PC_CFG_LO_EVENT n i) == code then Machine.pcAdd n i d s else s) s) := by
    intro l
    induction l with
    | nil => exact fun _ _ => CountKeep.refl
    | cons i l ih =>
      intro s hl
      refine CountKeep.trans ?_ (ih _ (fun j hj => hl j (List.mem_cons_of_mem _ hj)))
      show CountKeep s (if _ then _ else _)
      split
      · exact CountKeep.pcAdd _ _ _ _ (hl i List.mem_cons_self)
      · exact CountKeep.refl
  exact key _ s (fun i hi => List.mem_range.mp hi)

section
variable {s : State} {rib slot f : Nat} (hr : s.runs = true) (hrun : s.spine.running = true) (himg : (mget? s.slot.ribs rib).isSome = true)
  (hdeg : s.ribDegraded rib = false) (hsub : (s.rib rib).subst = false)
include hr hrun himg hdeg hsub

theorem exec_upstreamFlitError_live : exec (.upstreamFlitError rib slot f) s = .next (match s.upError rib slot f with
    | none => s
    | some k => ribErrors rib 1 slot (dropUp rib slot (if k = 0 then s.fsat (F.CANE_RIB_ERR_PAR rib) 1 else s.fsat (F.CANE_RIB_ERR_FRAMING rib) 1))) := by
  rw [exec_upstreamFlitError, execUpstreamFlitError, State.act_runs _ _ hr,
    if_neg (by simp [hrun, hdeg, hsub, Option.isSome_iff_ne_none.mp himg])]
  cases s.upError rib slot f <;> rfl

end

/-- Parity is looked at first, the framing after it. -/
theorem upError_parity (s : State) (rib slot f : Nat) (h : flitOdd f = false) : s.upError rib slot f = some 0 := by
  unfold State.upError
  extract_lets here owner
  exact if_pos (by simp [h])

theorem upError_framing (s : State) (rib slot f : Nat) (h : flitOdd f = true) (hl : legalUp slot f = false) :
    s.upError rib slot f = some 1 := by
  unfold State.upError
  extract_lets here owner
  rw [if_neg (by simp [h]), if_pos (by simp [hl])]

theorem dropUp_unowned (s : State) (rib slot : Nat) (h0 : slot % 16 ≠ 0) (h8 : slot % 16 ≠ 8) (ho : s.slotOwner rib slot = none) :
    dropUp rib slot s = s := by
  unfold dropUp
  rw [if_neg h0, if_neg h8]
  simp only [ho]

section
variable {s : State} {n slot f idx : Nat} (hr : s.runs = true) (hrun : s.spine.running = true) (hsub : (s.rib (n / 64)).subst = false)
include hr hrun hsub

/-- An error in a slot of messages drops the message it belongs to. -/
theorem exec_stationDownstreamError_message (hslot : slot % 16 ≠ 0) (hstop : (s.rib (n / 64)).stopped = false)
    (hbad : flitOdd f = false ∨ legalDown slot f = false ∨ wrongPlace f idx = true) :
    exec (.stationDownstreamError ⟨n, slot, f, idx⟩) s = .next (downErrors n 1 (modStn n (fun x => { x with inbox := x.inbox.drop 1 }) s)) := by
  rw [exec_stationDownstreamError, execStationDownstreamError, State.act_runs _ _ hr]
  extract_lets stn note bad
  have hnote : note = false := by simpa [note] using hslot
  have hb : bad = true := by rcases hbad with h | h | h <;> simp [bad, h, hnote]
  rw [if_neg (by simp [stn, hrun, hsub, hb, hnote]), if_neg (by simp [hnote]), if_neg (by simp [stn, hstop]), ok]

/-- An error in a slot of the spine's words drops the word announced. -/
theorem exec_stationDownstreamError_note (hslot : slot % 16 = 0) (h48 : 48 ≤ slot) (hbad : flitOdd f = false ∨ legalDown slot f = false) :
    exec (.stationDownstreamError ⟨n, slot, f, idx⟩) s = .next (downErrors n 1 (modStn n (fun x => { x with noteIn := x.noteIn.drop 1 }) s)) := by
  rw [exec_stationDownstreamError, execStationDownstreamError, State.act_runs _ _ hr]
  extract_lets stn note bad
  have hnote : note = true := by simpa [note] using hslot
  have hb : bad = true := by rcases hbad with h | h <;> simp [bad, h]
  rw [if_neg (by simp [stn, hrun, hsub, hb]; omega), if_pos hnote, ok]

omit hrun hsub in
theorem exec_stationDownstreamError_good (hodd : flitOdd f = true) (hl : legalDown slot f = true)
    (hplace : slot % 16 = 0 ∨ wrongPlace f idx = false) : exec (.stationDownstreamError ⟨n, slot, f, idx⟩) s = .next s := by
  rw [exec_stationDownstreamError, execStationDownstreamError, State.act_runs _ _ hr]
  extract_lets stn note bad
  have hb : bad = false := by rcases hplace with h | h <;> simp [bad, note, hodd, hl, h]
  rw [if_pos (by simp [hb]), ok]

end

/-- A collision is counted once and is due for one announcement. -/
theorem exec_stationSlotCollision_counts {s : State} {n : Nat} (hr : s.runs = true) (hs : s.stnSends n = true) :
    ∃ t, exec (.stationSlotCollision n) s = .next t ∧ (t.stn n).netErrDue = (s.stn n).netErrDue + 1 ∧
      t.fg (F.STN_NET_ERR_COLL n) = satAdd 16 (s.fg (F.STN_NET_ERR_COLL n)) 1 := by
  rw [exec_stationSlotCollision, execStationSlotCollision, State.act_runs _ _ hr, if_neg (by simp [hs])]
  extract_lets s1
  have keep := CountKeep.pcStation n 0x83 1 s1
  refine ⟨_, rfl, ?_, ?_⟩
  · rw [keep.due]
    show ((modStn n _ _).stn n).netErrDue = _
    rw [stn_modStn, if_pos rfl]
    rfl
  · rw [State.fg_congr s1 _ _ (keep.rd _ (by simp only [R.STN_NET_ERR]; omega))]
    exact State.fg_fsat_same s (F.STN_NET_ERR_COLL n) 1 (by simp)

section
variable {s : State} {n : Nat} (hr : s.runs = true) (hs : s.stnSends n = true)
include hr hs

/-- In its own NOTICE slot a station announces the errors due before a slip of its time (log entry 47). -/
theorem exec_netErrNoteSend_slot (hslot : s.noticeSlot n = true) (ha : (s.stn n).announce = []) :
    exec (.netErrNoteSend n) s = .next (if (s.stn n).netErrDue ≠ 0 then
        sendNote n (noteWord 3 (min (s.stn n).netErrDue 0xFFFF) 0 0) (setStn n { s.stn n with netErrDue := 0 } s)
      else if (s.stn n).slipDue then sendNote n (noteWord 3 0 0 0) (setStn n { s.stn n with slipDue := false } s) else s) := by
  rw [exec_netErrNoteSend, execNetErrNoteSend, State.act_runs _ _ hr]
  extract_lets x
  rw [if_neg (by simp [x, hs, hslot, ha])]
  by_cases h : (s.stn n).netErrDue = 0
  · rw [if_neg (show ¬ (x.netErrDue != 0) = true by simp [x, h]), if_neg (show ¬ (s.stn n).netErrDue ≠ 0 by simp [h])]
    cases (s.stn n).slipDue <;> simp [x, ok]
  · rw [if_pos (show (x.netErrDue != 0) = true by simpa [x] using h), if_pos h, ok]

omit hs in
theorem exec_netErrNoteSend_waits (hslot : s.noticeSlot n = false) : exec (.netErrNoteSend n) s = .next s := by
  rw [exec_netErrNoteSend, execNetErrNoteSend, State.act_runs _ _ hr]
  extract_lets x
  rw [if_pos (by simp [hslot]), ok]

theorem exec_stationUpstreamSend_sends (slot : Nat) : exec (.stationUpstreamSend n slot) s =
    .next (releaseOvf n (losslessRelease n (modStn n (sendSlots slot (s.withholds n)) s))) := by
  rw [exec_stationUpstreamSend, execStationUpstreamSend, State.act_runs _ _ hr, if_neg (by simp [hs]), ok]

end

theorem exec_netErrNoteArrival_front {s : State} {n w : Nat} {ws : List Nat} (hr : s.runs = true) (hair : (s.stn n).noteAir = w :: ws)
    (hk : bitsOf w 28 4 = 3) :
    exec (.netErrNoteArrival n) s = .next (lateEpoch n
      (let t := (setStn n { s.stn n with noteAir := ws } s).fsat (F.CANE_RIB_ERR_NET_NOTES (n / 64)) 1
       if w % 65536 = 0 then t.fs F.TIME_STAT_SLIP 1 else ribErrors (n / 64) (w % 65536) (t.spineCyc % 512) t)) := by
  rw [exec_netErrNoteArrival, execNetErrNoteArrival, State.act_runs _ _ hr]
  simp only [takeNote_cons n 3 s w ws hair hk]
  rfl

/-- Settles O21: what a flit is decides its error, and each announcement waits for the station's own NOTICE slot. -/
theorem networkErrors : Obligations.NetworkErrors := by
  unfold Obligations.NetworkErrors
  intro s n rib slot w f idx ws hr
  refine ⟨fun hrun himg hdeg hsub => ?upstream, dropUp_unowned s rib slot, fun hrun hsub => ?downstream, fun hs => ?station,
    exec_netErrNoteArrival_front hr⟩
  case upstream =>
    rw [exec_upstreamFlitError_live hr hrun himg hdeg hsub]
    refine ⟨fun h => ?_, fun h hl => ?_, fun h => by rw [h]⟩
    · rw [upError_parity s rib slot f h]
      rfl
    · rw [upError_framing s rib slot f h hl]
      rfl
  case downstream =>
    exact ⟨exec_stationDownstreamError_message hr hrun hsub, exec_stationDownstreamError_note hr hrun hsub,
      exec_stationDownstreamError_good hr⟩
  case station =>
    refine ⟨exec_stationSlotCollision_counts hr hs, fun hslot ha hdue => ?_, exec_netErrNoteSend_waits hr,
      fun hslot ha hdue hslip => ?_, exec_stationUpstreamSend_sends hr hs slot⟩
    · rw [exec_netErrNoteSend_slot hr hs hslot ha, if_pos hdue]
    · rw [exec_netErrNoteSend_slot hr hs hslot ha, if_neg (by simp [hdue]), if_pos hslip]

end Sys2Proof.Machine
end

section
/-! PROOFS. Isolation, restoration and training of ribs (O22). -/

namespace Sys2Proof.Machine

theorem showIso_pins (s : State) : (showIso s).pins = s.pins :=
  (showIso_frame (fm := 0x1) (s0 := s) rfl s Frame.refl).pins rfl

/-- ISO_STAT shows the switches; what follows writes its other fields and other registers. -/
theorem showIso_fields (s : State) :
    (showIso s).fg F.ISO_STAT_SEAM_ISO = s.pins.seamIso % 4 ∧ (showIso s).fg F.ISO_STAT_BR_ISO = s.pins.brIso % 256 := by
  unfold showIso
  extract_lets s1 on seam br s2
  have keep : ∀ g : Fld, g.addr = R.ISO_STAT → ((List.range 16).foldl (fun s r => s.fs (F.CANE_RIB_STAT_ABSENT r) (b2n (s.rib r).subst)) s2).fg g = s2.fg g :=
    fun g hg => fold_keep (fun s : State => s.fg g) _ _ (fun s r => State.fg_fs_other _ _ _ _ (by
      rw [hg]; simp only [R.ISO_STAT, R.CANE_RIB_STAT]; omega)) s2
  have subst : ∀ g : Fld, g.fits → g.lo + g.width ≤ F.ISO_STAT_SEAM_SUBST.lo ∨ F.ISO_STAT_SEAM_SUBST.lo + F.ISO_STAT_SEAM_SUBST.width ≤ g.lo →
      g.lo + g.width ≤ F.ISO_STAT_BR_SUBST.lo ∨ F.ISO_STAT_BR_SUBST.lo + F.ISO_STAT_BR_SUBST.width ≤ g.lo → s2.fg g = s1.fg g :=
    fun g hg h1 h2 => (State.fg_fs_disjoint _ _ _ _ hg h2).trans (State.fg_fs_disjoint _ _ _ _ hg h1)
  constructor
  · rw [keep _ rfl, subst _ (by decide) (by decide) (by decide)]
    exact (State.fg_fs_disjoint _ _ _ _ (by decide) (by decide)).trans (State.fg_fs_same _ _ _ (by decide))
  · rw [keep _ rfl, subst _ (by decide) (by decide) (by decide)]
    exact State.fg_fs_same _ _ _ (by decide)

/-- Both inputs end in `showIso` of a state that has the switches as they were set. -/
theorem showIso_shows (u : State) (p : PinState) (hp : u.pins = p) :
    (showIso u).pins = p ∧ (showIso u).fg F.ISO_STAT_SEAM_ISO = (showIso u).pins.seamIso % 4 ∧
      (showIso u).fg F.ISO_STAT_BR_ISO = (showIso u).pins.brIso % 256 := by
  rw [showIso_pins]
  exact ⟨hp, showIso_fields u⟩

theorem exec_isolationAssert_shows (s : State) (seam : Bool) (point : Nat) (hr : s.runs = true) :
    ∃ t, exec (.isolationAssert seam point) s = .next t ∧ t.pins = (setIso seam true point s).pins ∧
      t.fg F.ISO_STAT_SEAM_ISO = t.pins.seamIso % 4 ∧ t.fg F.ISO_STAT_BR_ISO = t.pins.brIso % 256 := by
  rw [exec_isolationAssert, execIsolationAssert]
  have hr1 : (setIso seam true point s).runs = true := hr
  rw [if_neg (by simp [hr1])]
  refine ⟨_, rfl, showIso_shows _ _ (fold_keep (fun s : State => s.pins) _ _ (fun s r => ?_) _)⟩
  split <;> rfl

theorem exec_isolationRelease_shows (s : State) (seam : Bool) (point : Nat) (hr : s.runs = true) :
    ∃ t, exec (.isolationRelease seam point) s = .next t ∧ t.pins = (setIso seam false point s).pins ∧
      t.fg F.ISO_STAT_SEAM_ISO = t.pins.seamIso % 4 ∧ t.fg F.ISO_STAT_BR_ISO = t.pins.brIso % 256 := by
  rw [exec_isolationRelease, execIsolationRelease]
  have hr1 : (setIso seam false point s).runs = true := hr
  rw [if_neg (by simp [hr1])]
  exact ⟨_, rfl, showIso_shows _ _ (fold_keep (fun s : State => s.pins) _ _ (fun s r =>
    (releaseRib_frame (fm := 0x21) (s0 := s) rfl r s Frame.refl).pins rfl) _)⟩

theorem exec_restorationTimeout_due (s : State) (rib f : Nat) (hr : s.runs = true) (hf : (s.rib rib).restoring = some f)
    (hdue : f + 512 ≤ s.frameNow) : exec (.restorationTimeout rib) s = .next (degradeRib rib 4 s.nextFrameTs s) := by
  rw [exec_restorationTimeout, execRestorationTimeout, State.act_runs _ _ hr]
  simp only [hf]
  rw [if_pos hdue, ok]

/-- The ribs `l` begin to train, as `caneTrain` has them do. -/
def trainRibs (l : List Nat) (s : State) : State :=
  l.foldl (fun s r => modRib r (fun b => { b with training := true, trainBad := false }) s) s

theorem trainRibs_training (l : List Nat) (s : State) (r : Nat) (h : r ∈ l ∨ (s.rib r).training = true) :
    ((trainRibs l s).rib r).training = true := by
  induction l generalizing s with
  | nil => exact h.resolve_left List.not_mem_nil
  | cons a l ih =>
    refine ih _ ?_
    rw [rib_modRib]
    by_cases he : r = a
    · rw [if_pos he]
      exact .inr rfl
    · rw [if_neg he]
      rcases h with h | h
      · exact .inl ((List.mem_cons.mp h).resolve_left he)
      · exact .inr h

theorem trainRibs_fb (l : List Nat) (s : State) (f : Fld) : (trainRibs l s).fb f = s.fb f := by
  unfold trainRibs
  exact fold_keep (fun s : State => s.fb f) l _ (fun _ _ => by rfl) s

theorem caneTrain_starts (s : State) (he : s.fb F.CANE_CTL_ENABLE = false) (ht : s.fb F.CANE_CTL_TRAIN = false) :
    (caneTrain s).fb F.CANE_CTL_TRAIN = true ∧
      ∀ r, r < 16 → s.fb F.SLOT_STAT_VALID = false → ((caneTrain s).rib r).training = true := by
  unfold caneTrain
  extract_lets valid ribs pad s1
  rw [if_neg (by simp [he, ht])]
  refine ⟨(trainRibs_fb ribs (s1.fs F.CANE_CTL_TRAIN 1) _).trans (State.fb_fs_same _ _ _ (by decide) rfl), fun r hr hv => ?_⟩
  have hribs : ribs = List.range 16 := if_neg (by simp [valid, hv])
  exact trainRibs_training ribs (s1.fs F.CANE_CTL_TRAIN 1) r (.inl (by rw [hribs]; exact List.mem_range.mpr hr))

theorem caneRetrain_starts (s : State) (rib : Nat) (hrib : rib < 16) (hv : s.fb F.SLOT_STAT_VALID = true)
    (himg : (mget? s.slot.ribs rib).isSome = true) (hb : bitOf (s.fg F.CANE_CTL_RETRAIN) rib = false) (hrun : s.spine.running = false) :
    bitOf ((caneRetrain rib s).fg F.CANE_CTL_RETRAIN) rib = true ∧ ((caneRetrain rib s).rib rib).training = true ∧
      ((caneRetrain rib s).rib rib).retrain = true := by
  unfold caneRetrain
  extract_lets s1 run s2
  have hrun1 : run = false := hrun
  rw [if_neg (by simp [hv, hb, Option.isSome_iff_ne_none.mp himg]), if_neg (by simp [hrun1])]
  have hrib2 : s2.rib rib = _ := (rib_modRib rib rib _ s1).trans (if_pos rfl)
  refine ⟨?_, by rw [hrib2], by rw [hrib2]⟩
  show bitOf (s1.fg F.CANE_CTL_RETRAIN) rib = true
  rw [State.fg_fs_same _ _ _ (by decide), Nat.mod_eq_of_lt (setBit_lt _ _ _ _ (State.fg_lt s F.CANE_CTL_RETRAIN) hrib), bitOf_setBit,
    if_pos rfl]

/-- Sixteen equal round trips train a rib; where the image has that T_END, it is up again. -/
theorem exec_trainingComplete_good (s : State) (rib len : Nat) (hr : s.runs = true) (ht : (s.rib rib).training = true)
    (htrain : s.fb F.CANE_CTL_TRAIN = false) (himg : (mget? s.slot.ribs rib).map (·.tEnd) = some ((len - 2) / 2 % 256)) :
    exec (.trainingComplete rib (List.replicate 16 len) true) s = .next (retrained rib
      ((modRib rib (fun b => { b with training := false, trainBad := false }) s).fs (F.CANE_RIB_STAT_T_END rib) ((len - 2) / 2))) := by
  rw [exec_trainingComplete, execTrainingComplete, State.act_runs _ _ hr]
  extract_lets good s1 s2
  rw [if_neg (by simp [ht])]
  have hgood : good = true := by simp [good, List.replicate]
  have h1 : s1 = modRib rib (fun b => { b with training := false, trainBad := false }) s := by simp only [s1, hgood]; rfl
  have h2 : s2 = s1.fs (F.CANE_RIB_STAT_T_END rib) ((len - 2) / 2) := if_pos hgood
  have htrain2 : s2.fb F.CANE_CTL_TRAIN = false := by
    rw [h2, State.fb_fs_other _ _ _ _ (by simp only [R.CANE_CTL, R.CANE_RIB_STAT]; omega), h1]
    exact htrain
  have hdiff : s2.tEndDiffers rib = false := by
    unfold State.tEndDiffers
    have hslot : s2.slot = s.slot := by rw [h2, h1]; rfl
    rw [hslot]
    cases hi : mget? s.slot.ribs rib with
    | none => rfl
    | some i =>
      rw [hi] at himg
      have he : i.tEnd = (len - 2) / 2 % 256 := Option.some.inj himg
      rw [h2, State.fg_fs_same _ _ _ (by simp)]
      simp [he]
  rw [if_neg (by simp [htrain2]), if_neg (by simp [hgood]), if_neg (by simp [hdiff]), ok, h2, h1]

/-- Settles O22: ISO_STAT follows the switches, and a training ends as its sixteen round trips say. -/
theorem isolationAndTraining : Obligations.IsolationAndTraining := by
  unfold Obligations.IsolationAndTraining
  intro s rib point f len id seam hr
  refine ⟨exec_isolationAssert_shows s seam point hr, exec_isolationRelease_shows s seam point hr, exec_restorationTimeout_due s rib f hr,
    fun hw hp => ⟨fun he ht => ?train, fun hrib hv himg hb hrun => ?retrain⟩, fun ht _ htrain _ himg => exec_trainingComplete_good s rib len hr ht htrain himg⟩
  case train =>
    refine ⟨caneTrain s, ?_, caneTrain_starts s he ht⟩
    rw [exec_caneTrain, execCaneTrain, State.act_runs _ _ hr, State.gate_pass _ _ _ _ _ hw hp, ok]
  case retrain =>
    refine ⟨caneRetrain rib s, ?_, caneRetrain_starts s rib hrib hv himg hb hrun⟩
    rw [exec_caneRetrain, execCaneRetrain, State.act_runs _ _ hr, State.gate_pass _ _ _ _ _ hw hp, ok]

end Sys2Proof.Machine
end

section
/-! PROOFS. Frames start, go on and stop, and a station takes its slot record (O23). -/

namespace Sys2Proof.Machine

theorem rd64_wr64 (s : State) (lo hi v : Nat) (h : lo ≠ hi) : (s.wr64 lo hi v).rd64 lo hi = v % 2 ^ 64 := by
  unfold State.rd64 State.wr64
  rw [State.rd_wr_other _ _ _ _ h, State.rd_wr_same, State.rd_wr_same, BitVec.toNat_ofNat, BitVec.toNat_ofNat, Nat.shiftRight_eq_div_pow]
  omega

/-- The state in which `caneEnable` begins to load the ribs: frame 0 runs. -/
def framesOn (s : State) : State :=
  let u := startSpine (s.clk.cyc + s.clk.cyc % 2) ((s.fs F.CANE_CTL_ENABLE 1).fs F.CANE_STAT_RUNNING 1)
  modSpine (fun p => { p with markTs := u.tsOfSpine 0 }) (u.wr64 R.CANE_FRAME_LO R.CANE_FRAME_HI 0)

theorem framesOn_regs (s : State) : (framesOn s).regs =
    (((s.fs F.CANE_CTL_ENABLE 1).fs F.CANE_STAT_RUNNING 1).wr64 R.CANE_FRAME_LO R.CANE_FRAME_HI 0).regs := by
  unfold framesOn
  extract_lets u
  show (u.wr64 R.CANE_FRAME_LO R.CANE_FRAME_HI 0).regs = _
  have hu : u.regs = ((s.fs F.CANE_CTL_ENABLE 1).fs F.CANE_STAT_RUNNING 1).regs := startSpine_regs _ _
  simp only [State.wr64, State.wr, hu]

/-- What stands at once after an enable: the bits, the frame number, the spine and the shear tree. -/
theorem framesOn_shows (s : State) :
    (framesOn s).fb F.CANE_CTL_ENABLE = true ∧ (framesOn s).fb F.CANE_STAT_RUNNING = true ∧ (framesOn s).rd R.CANE_FRAME_LO = 0 ∧
    (framesOn s).rd R.CANE_FRAME_HI = 0 ∧
    (framesOn s).spine = { s.spine with
      running := true, startCyc := s.clk.cyc + s.clk.cyc % 2, frame := 0, stopAsked := false, markTs := (framesOn s).spine.markTs
      ribs := s.spine.ribs.map (fun b =>
        (b.1, { b.2 with nextCmd := 0, errFrame := none, errFrames := [], restoring := b.2.restoring.map (fun _ => 0) })) } ∧
    (framesOn s).shear = rebaseShear (s.clk.cyc + s.clk.cyc % 2 - s.spine.startCyc) s.shear := by
  have hrd : ∀ a, (framesOn s).rd a = (((s.fs F.CANE_CTL_ENABLE 1).fs F.CANE_STAT_RUNNING 1).wr64 R.CANE_FRAME_LO R.CANE_FRAME_HI 0).rd a :=
    State.rd_congr _ _ (framesOn_regs s)
  have hfb : ∀ g : Fld, g.addr ≠ R.CANE_FRAME_LO → g.addr ≠ R.CANE_FRAME_HI →
      (framesOn s).fb g = ((s.fs F.CANE_CTL_ENABLE 1).fs F.CANE_STAT_RUNNING 1).fb g := fun g h1 h2 => by
    rw [State.fb, State.fb, State.fg_congr _ _ g ((hrd g.addr).trans (State.rd_wr64_other _ _ _ _ _ h1 h2))]
  refine ⟨?_, ?_, ?_, ?_, ?_, startSpine_shear _ _⟩
  · rw [hfb _ (by decide) (by decide), State.fb_fs_other _ _ _ _ (by decide), State.fb_fs_same _ _ _ (by decide) rfl]
    rfl
  · rw [hfb _ (by decide) (by decide), State.fb_fs_same _ _ _ (by decide) rfl]
    rfl
  · rw [hrd, State.wr64, State.rd_wr_other _ _ _ _ (by decide), State.rd_wr_same]
    rfl
  · rw [hrd, State.wr64, State.rd_wr_same]
    rfl
  · have h := startSpine_spine (s.clk.cyc + s.clk.cyc % 2) ((s.fs F.CANE_CTL_ENABLE 1).fs F.CANE_STAT_RUNNING 1)
    exact congrArg (fun p : SpineState => { p with markTs := (framesOn s).spine.markTs }) h

theorem caneEnable_starts (s : State) (he : s.fb F.CANE_CTL_ENABLE = false) (hrun : s.fb F.CANE_STAT_RUNNING = false)
    (ht : s.fb F.CANE_CTL_TRAIN = false) (hv : s.fb F.SLOT_STAT_VALID = true) (hm : s.fb F.SLOT_STAT_MATCH = true) :
    caneEnable s =
      (let v : State := (framesOn s).ribs.foldl (fun s r => if s.isoAsked r && !(s.rib r).subst then startSubst r s else s) (framesOn s)
       v.ribs.foldl (fun s r => if s.ribDegraded r || (s.rib r).subst then s else verifyRib r (loadRib r s)) v) := by
  unfold caneEnable
  rw [if_neg (by simp [he, hrun, ht, hv, hm])]
  rfl

theorem exec_framesStop_due (s : State) (hr : s.runs = true) (hrun : s.spine.running = true) (hs : s.spine.stopAsked = true)
    (hc : 512 * (s.spine.frame + 1) ≤ s.spineCyc) :
    exec .framesStop s = .next (showLoaded (((stopFrames s).slot.stns.map (·.1)).foldl (fun s n => enterPass n s) (stopFrames s))) := by
  rw [exec_framesStop, execFramesStop, State.act_runs _ _ hr]
  exact if_neg (by simp [hrun, hs]; omega)

theorem exec_frameBoundary_due (s : State) (echoes : List (Nat × Nat)) (hr : s.runs = true) (hrun : s.spine.running = true)
    (hs : s.spine.stopAsked = false) (hc : 512 * (s.spine.frame + 1) ≤ s.spineCyc) :
    ∃ u : State, u.spine = { s.spine with frame := s.spine.frame + 1, markTs := s.tsOfSpine (512 * (s.spine.frame + 1)) } ∧
      u.rd64 R.CANE_FRAME_LO R.CANE_FRAME_HI = (s.spine.frame + 1) % 2 ^ 64 ∧
      exec (.frameBoundary echoes) s = .next
        (let f := s.spine.frame
         let v : State := (u.ribs.filter (fun r => !u.ribDegraded r || (u.rib r).restoring.isSome)).foldl
           (fun s r => takeEcho f r (match mget? echoes r with | some v => some v | none => s.ribEcho r f) s) u
         let w : State := v.ribs.foldl (fun s r => if s.isoAsked r && !(s.rib r).subst then startSubst r s else s) v
         let x : State := settleGone w.unreachable w
         let y : State := (x.slot.stns.map (·.1)).foldl (fun s n =>
           if (s.stn n).loadPend then modStn n (fun x => { x with loadPend := false, installed := true }) s else s) x
         lehrRun (showApplied (sendAction (f + 1) (waitsFrame (deadlineFrame (striaFrame y)))))) := by
  refine ⟨modSpine (fun p => { p with frame := s.spine.frame + 1, markTs := s.tsOfSpine (512 * (s.spine.frame + 1)) })
    (s.wr64 R.CANE_FRAME_LO R.CANE_FRAME_HI (s.spine.frame + 1)), rfl, rd64_wr64 s R.CANE_FRAME_LO R.CANE_FRAME_HI (s.spine.frame + 1) (by decide), ?_⟩
  rw [exec_frameBoundary, execFrameBoundary, State.act_runs _ _ hr]
  exact if_neg (by simp [hrun, hs]; omega)

theorem exec_stationSlotLoad_front (s : State) (n : Nat) (m : DownMsg) (rest : List DownMsg) (hr : s.runs = true)
    (hin : (s.stn n).inbox = m :: rest) (hd : s.delivers n = true) (hk : m.kind = 2) :
    exec (.stationSlotLoad n) s = .next ((List.range 16).foldl
        (fun s p => installPort n p (((bytesOfWords ((m.words.drop 1).take 4)).map portImageOf).getD p {}) s)
        (let u : State := setStn n { s.stn n with inbox := rest } s
         loadTables n m (if (u.stn n).renew then restoreStation n u else u))) := by
  rw [exec_stationSlotLoad, execStationSlotLoad, State.act_runs _ _ hr]
  simp only [takeInbox_cons n 2 (fun _ => true) s m rest hin hd hk rfl]
  rfl

theorem bitsOf_lt (v lo w : Nat) : bitsOf v lo w < 2 ^ w := Nat.mod_lt _ (Nat.two_pow_pos w)

theorem loadTables_station (s : State) (n : Nat) (m : DownMsg) :
    ((loadTables n m s).stn n).passThrough = false ∧ ((loadTables n m s).stn n).loadPend = true ∧
      ((loadTables n m s).stn n).installed = false := by
  unfold loadTables
  extract_lets w0 s1 s2 s3 s4
  rw [stn_modStn, if_pos rfl]
  exact ⟨rfl, rfl, rfl⟩

/-- The header word in the station's network register, and in its slot register. -/
def loadNet (n w0 : Nat) (s : State) : State :=
  ((s.fs (F.STN_NET_T n) w0).fs (F.STN_NET_LOCKED n) 1).fs (F.STN_NET_DATA_SLOTS n) (bitsOf w0 23 9)

def loadSlot (n w0 : Nat) (s : State) : State :=
  ((s.fs (F.STN_SLOT_LOADED n) 1).fs (F.STN_SLOT_SHCOMP n) (bitsOf w0 8 8)).fs (F.STN_SLOT_PART n) (bitsOf w0 16 4)

/-- What a load writes after the header: the checksum, and the shear interface unlocked. -/
def loadRest (n crc : Nat) (s : State) : State :=
  ((s.wrN (R.STN_SLOT_CRC n) crc).fs (F.STN_SH_STAT_LOCKED n) 0).fs (F.STN_SH_CFG_VALID n) 0

theorem loadTables_regs (n : Nat) (m : DownMsg) (s : State) : (loadTables n m s).regs =
    (loadRest n (crc32c (bytesOfWords m.words)) (loadSlot n (m.words.headD 0) (loadNet n (m.words.headD 0) s))).regs := rfl

theorem loadNet_fields (n w0 : Nat) (s : State) :
    (loadNet n w0 s).fg (F.STN_NET_DATA_SLOTS n) = bitsOf w0 23 9 ∧ (loadNet n w0 s).fb (F.STN_NET_LOCKED n) = true := by
  unfold loadNet
  constructor
  · exact (State.fg_fs_same _ _ _ (by simp)).trans (Nat.mod_mod _ _)
  · rw [State.fb_fs_disjoint _ _ _ _ (by simp) (by simp)]
    exact State.fb_fs_same _ _ _ (by simp) rfl

theorem loadSlot_fields (n w0 : Nat) (s : State) :
    (loadSlot n w0 s).fg (F.STN_SLOT_SHCOMP n) = bitsOf w0 8 8 ∧ (loadSlot n w0 s).fg (F.STN_SLOT_PART n) = bitsOf w0 16 4 ∧
      (loadSlot n w0 s).fb (F.STN_SLOT_LOADED n) = true := by
  unfold loadSlot
  refine ⟨?_, ?_, ?_⟩
  · rw [State.fg_fs_disjoint _ _ _ _ (by simp) (by simp)]
    exact (State.fg_fs_same _ _ _ (by simp)).trans (Nat.mod_mod _ _)
  · exact (State.fg_fs_same _ _ _ (by simp)).trans (Nat.mod_mod _ _)
  · rw [State.fb_fs_disjoint _ _ _ _ (by simp) (by simp), State.fb_fs_disjoint _ _ _ _ (by simp) (by simp)]
    exact State.fb_fs_same _ _ _ (by simp) rfl

theorem loadSlot_rd (n w0 : Nat) (s : State) (a : Nat) (h : a ≠ R.STN_SLOT n) : (loadSlot n w0 s).rd a = s.rd a := by
  unfold loadSlot
  rw [State.rd_fs_other _ _ _ _ h, State.rd_fs_other _ _ _ _ h, State.rd_fs_other _ _ _ _ h]

theorem loadRest_rd (n crc : Nat) (s : State) (a : Nat) (h : a = R.STN_NET n ∨ a = R.STN_SLOT n) : (loadRest n crc s).rd a = s.rd a := by
  have h1 : a ≠ R.STN_SH_CFG n := by simp only [R.STN_NET, R.STN_SLOT, R.STN_SH_CFG] at *; omega
  have h2 : a ≠ R.STN_SH_STAT n := by simp only [R.STN_NET, R.STN_SLOT, R.STN_SH_STAT] at *; omega
  have h3 : a ≠ R.STN_SLOT_CRC n := by simp only [R.STN_NET, R.STN_SLOT, R.STN_SLOT_CRC] at *; omega
  unfold loadRest
  rw [State.rd_fs_other _ _ _ _ h1, State.rd_fs_other _ _ _ _ h2, State.rd_wrN_other _ _ _ _ h3]

theorem loadRest_fields (n crc : Nat) (s : State) :
    (loadRest n crc s).fb (F.STN_SH_STAT_LOCKED n) = false ∧ (loadRest n crc s).fb (F.STN_SH_CFG_VALID n) = false ∧
      (loadRest n crc s).rd (R.STN_SLOT_CRC n) = BitVec.ofNat 32 crc := by
  unfold loadRest
  refine ⟨?_, ?_, ?_⟩
  · rw [State.fb_fs_other _ _ _ _ (by simp only [R.STN_SH_STAT, R.STN_SH_CFG]; omega)]
    exact State.fb_fs_same _ _ _ (by simp) rfl
  · exact State.fb_fs_same _ _ _ (by simp) rfl
  · rw [State.rd_fs_other _ _ _ _ (by simp only [R.STN_SLOT_CRC, R.STN_SH_CFG]; omega),
      State.rd_fs_other _ _ _ _ (by simp only [R.STN_SLOT_CRC, R.STN_SH_STAT]; omega)]
    exact State.rd_wrN_same _ _ _

theorem loadTables_fields (s : State) (n : Nat) (m : DownMsg) :
    let u : State := loadTables n m s
    u.fg (F.STN_NET_DATA_SLOTS n) = bitsOf (m.words.headD 0) 23 9 ∧ u.fg (F.STN_SLOT_SHCOMP n) = bitsOf (m.words.headD 0) 8 8 ∧
      u.fg (F.STN_SLOT_PART n) = bitsOf (m.words.headD 0) 16 4 ∧ u.fb (F.STN_NET_LOCKED n) = true ∧ u.fb (F.STN_SLOT_LOADED n) = true ∧
      u.fb (F.STN_SH_STAT_LOCKED n) = false ∧ u.fb (F.STN_SH_CFG_VALID n) = false ∧
      u.rd (R.STN_SLOT_CRC n) = BitVec.ofNat 32 (crc32c (bytesOfWords m.words)) := by
  intro u
  have hrd := State.rd_congr _ _ (loadTables_regs n m s)
  have hfb : ∀ (t : State) (g : Fld), u.fg g = t.fg g → u.fb g = t.fb g := fun t g h => by rw [State.fb, State.fb, h]
  have hnet : ∀ g : Fld, g.addr = R.STN_NET n → u.fg g = (loadNet n (m.words.headD 0) s).fg g := fun g hg =>
    State.fg_congr _ _ g (by
      rw [hrd, loadRest_rd _ _ _ _ (.inl hg), loadSlot_rd _ _ _ _ (by rw [hg]; simp only [R.STN_NET, R.STN_SLOT]; omega)])
  have hslot : ∀ g : Fld, g.addr = R.STN_SLOT n → u.fg g = (loadSlot n (m.words.headD 0) (loadNet n (m.words.headD 0) s)).fg g := fun g hg =>
    State.fg_congr _ _ g (by rw [hrd, loadRest_rd _ _ _ _ (.inr hg)])
  have hrest : ∀ g : Fld, u.fg g = _ := fun g => State.fg_congr _ _ g (hrd g.addr)
  obtain ⟨n1, n2⟩ := loadNet_fields n (m.words.headD 0) s
  obtain ⟨l1, l2, l3⟩ := loadSlot_fields n (m.words.headD 0) (loadNet n (m.words.headD 0) s)
  obtain ⟨r1, r2, r3⟩ := loadRest_fields n (crc32c (bytesOfWords m.words)) (loadSlot n (m.words.headD 0) (loadNet n (m.words.headD 0) s))
  exact ⟨(hnet _ rfl).trans n1, (hslot _ rfl).trans l1, (hslot _ rfl).trans l2, (hfb _ _ (hnet _ rfl)).trans n2,
    (hfb _ _ (hslot _ rfl)).trans l3, (hfb _ _ (hrest _)).trans r1, (hfb _ _ (hrest _)).trans r2, (hrd _).trans r3⟩

/-- Settles O23: each of the five commands unfolded at its guard; the registers after an enable by `framesOn_shows`. -/
theorem frameControl : Obligations.FrameControl := by
  unfold Obligations.FrameControl
  intro s id n m rest echoes hr
  refine ⟨fun hw hp => ⟨fun he hrun ht hv hm => ⟨framesOn s, ?enable⟩, caneDisable s, ?disable⟩,
    exec_framesStop_due s hr, exec_frameBoundary_due s echoes hr, fun hin hd hk => ⟨exec_stationSlotLoad_front s n m rest hr hin hd hk, ?load⟩⟩
  case enable =>
    obtain ⟨h1, h2, h3, h4, h5, h6⟩ := framesOn_shows s
    refine ⟨h1, h2, h3, h4, h5, h6, ?_⟩
    rw [exec_caneEnable, execCaneEnable, State.act_runs _ _ hr, State.gate_pass _ _ _ _ _ hw hp, ok, caneEnable_starts s he hrun ht hv hm]
  case disable =>
    refine ⟨?_, ?_, rfl, fun a ha => State.rd_fs_other s F.CANE_CTL_ENABLE 0 a ha⟩
    · rw [exec_caneDisable, execCaneDisable, State.act_runs _ _ hr, State.gate_pass _ _ _ _ _ hw hp, ok]
    · exact State.fb_fs_same s F.CANE_CTL_ENABLE 0 (by decide) rfl
  case load =>
    obtain ⟨h1, h2, h3, h4, h5, h6, h7, h8⟩ := loadTables_fields s n m
    exact ⟨h1, h2, h3, h4, h5, h6, h7, h8, loadTables_station s n m⟩

end Sys2Proof.Machine
end

section
/-! PROOFS. Reductions of the network (O24). -/

namespace Sys2Proof.Machine

/-- What a REDUCE_REQ makes of the requests a station holds (R75): a continuation joins the request it names, another message is
a request of its own. -/
def takeRedReq (m : DownMsg) (frame : Nat) (reds : List StnRed) : List StnRed :=
  if reds.any (fun r => r.tag == m.head % 256 && r.more) then
    reds.map (fun r => if r.tag == m.head % 256 && r.more then
      { r with words := r.words ++ m.words.drop 2, more := bitOf m.head 8, frame := frame } else r)
  else reds ++ [⟨m.head % 256, m.words.getD 0 0, m.words.getD 1 0 % 4, bitsOf (m.words.getD 1 0) 2 10, m.words.drop 2, bitOf m.head 8, frame⟩]

theorem takeRedReq_new (m : DownMsg) (frame : Nat) (reds : List StnRed) (h : ∀ q ∈ reds, q.tag ≠ m.head % 256 ∨ q.more = false) :
    takeRedReq m frame reds = reds ++
      [⟨m.head % 256, m.words.getD 0 0, m.words.getD 1 0 % 4, bitsOf (m.words.getD 1 0) 2 10, m.words.drop 2, bitOf m.head 8, frame⟩] := by
  unfold takeRedReq
  rw [if_neg]
  intro hany
  obtain ⟨q, hq, hc⟩ := List.any_eq_true.mp hany
  rcases h q hq with ht | hm
  · simp [ht] at hc
  · simp [hm] at hc

theorem takeRedReq_joins (m : DownMsg) (frame : Nat) (reds : List StnRed) (q : StnRed) (hq : q ∈ reds) (ht : q.tag = m.head % 256)
    (hm : q.more = true) :
    { q with words := q.words ++ m.words.drop 2, more := bitOf m.head 8, frame := frame } ∈ takeRedReq m frame reds := by
  have hc : (q.tag == m.head % 256 && q.more) = true := by simp [ht, hm]
  unfold takeRedReq
  rw [if_pos (List.any_eq_true.mpr ⟨q, hq, hc⟩)]
  exact List.mem_map.mpr ⟨q, hq, if_pos hc⟩

theorem exec_stationReduceReq_front (s : State) (n : Nat) (m : DownMsg) (rest : List DownMsg) (hr : s.runs = true)
    (hin : (s.stn n).inbox = m :: rest) (hd : s.delivers n = true) (hk : m.kind = 3) :
    ∃ t : State, exec (.stationReduceReq n) s = .next t ∧ t.regs = s.regs ∧ (t.stn n).reds = takeRedReq m s.frameNow (s.stn n).reds := by
  rw [exec_stationReduceReq, execStationReduceReq, State.act_runs _ _ hr]
  simp only [takeInbox_cons n 3 (fun _ => true) s m rest hin hd hk rfl]
  refine ⟨_, rfl, rfl, ?_⟩
  rw [stn_setStn, if_pos rfl, stn_setStn, if_pos rfl]
  rfl

theorem exec_reducePartnerTimeout_drops (s : State) (n : Nat) (hr : s.runs = true) :
    ∃ t : State, exec (.reducePartnerTimeout n) s = .next t ∧ t.regs = s.regs ∧
      (t.stn n).reds = (s.stn n).reds.filter (fun r => !(r.more && decide (r.frame + 4 ≤ s.frameNow))) := by
  rw [exec_reducePartnerTimeout, execReducePartnerTimeout, State.act_runs _ _ hr]
  refine ⟨_, rfl, rfl, ?_⟩
  rw [stn_modStn, if_pos rfl]

/-- The sample of a dump's reduction: the spine holds the values, and no register is written. -/
theorem exec_reductionSample_due (s : State) (f : Nat) (r : Reduction) (rs : List Reduction) (hr : s.runs = true)
    (hreds : s.spine.reds = r :: rs) (hf : r.startFrame = some f) (hdue : s.sampleDue f = true) (hs : r.samples = []) (hu : r.use = .lehr) :
    ∃ t : State, exec .reductionSample s = .next t ∧ t.regs = s.regs ∧
      t.spine = { s.spine with reds := { r with samples := (s.slot.stns.map (·.1)).map (fun n => (n,
        if !s.contributes r n then r.values.map (fun _ => none)
        else if (s.members r.group r.target).contains n then r.values.map (fun v => s.sourceVal n v.source)
        else r.values.map (fun v => some (if v.op = 3 then 0xFFFFFFFF else 0)))) } :: rs } := by
  rw [exec_reductionSample, execReductionSample, State.act_runs _ _ hr]
  simp only [hreds, hf, hu]
  rw [if_neg (by simp [hdue, hs])]
  refine ⟨_, rfl, ?_, ?_⟩
  · exact fold_keep (fun s : State => s.regs) _ _ (fun _ _ => by rfl) _
  · exact fold_keep (fun s : State => s.spine) _ _ (fun _ _ => by rfl) _

section
variable {s : State} {r : Reduction} {rs : List Reduction} (hr : s.runs = true) (hreds : s.spine.reds = r :: rs)
include hr hreds

/-- A result under another TAG changes nothing (log entry 125). -/
theorem exec_reductionResult_otherTag (n : Nat) (hn : n ≠ r.tag) : exec (.reductionResult n) s = .next s := by
  rw [exec_reductionResult, execReductionResult, State.act_runs _ _ hr]
  simp only [hreds]
  exact if_neg (by simp [Ne.symm hn])

theorem exec_reductionResult_due (hdue : redDue r s = true) (q : Reduction) (hq : redStep (fun k => s.ribDegraded k || (s.rib k).subst) r = q) :
    exec (.reductionResult r.tag) s = .next (if q.results.length < q.values.length then { s with spine := { s.spine with reds := q :: rs } }
      else lehrRun (reductionEnds q (sendReduction { s with spine := { s.spine with reds := rs } }))) := by
  rw [exec_reductionResult, execReductionResult, State.act_runs _ _ hr]
  simp only [hreds]
  rw [if_pos (by simp [hdue]), hq]
  split <;> rfl

end

/-- A step records one more result and asks no other value. -/
theorem redStep_lengths (gone : Nat → Bool) (r : Reduction) :
    (redStep gone r).results.length = r.results.length + 1 ∧ (redStep gone r).values = r.values := by
  unfold redStep
  simp

/-- Settles O24: the requests of a station by `takeRedReq`, the samples and results by the front of the list. -/
theorem reductions : Obligations.Reductions := by
  unfold Obligations.Reductions
  intro s n f m rest r rs hr
  refine ⟨fun hin hd hk => ?request, exec_reducePartnerTimeout_drops s n hr,
    fun hreds hf hdue hs hu => exec_reductionSample_due s f r rs hr hreds hf hdue hs hu, fun h => ?absent, fun hreds hdue => ?result⟩
  case request =>
    obtain ⟨t, ht, hregs, hred⟩ := exec_stationReduceReq_front s n m rest hr hin hd hk
    refine ⟨t, ht, hregs, fun hnew => ?_, fun q hq htag hmore => ?_⟩
    · rw [hred, takeRedReq_new m _ _ hnew]
    · rw [hred]
      exact takeRedReq_joins m _ _ q hq htag hmore
  case absent =>
    rcases h with h | h <;> simp [State.contributes, h]
  case result =>
    intro q
    obtain ⟨hlen, hval⟩ := redStep_lengths (fun k => s.ribDegraded k || (s.rib k).subst) r
    have hdone := exec_reductionResult_due hr hreds hdue q rfl
    refine ⟨exec_reductionResult_otherTag hr hreds n, fun h => ?_, fun h => ?_⟩
    · rw [hdone, if_pos (by rw [hval, hlen]; exact h)]
    · rw [hdone, if_neg (by rw [hval, hlen]; omega)]

end Sys2Proof.Machine
end

section
/-! PROOFS. The slot image store and the package time (O25). -/

namespace Sys2Proof.Machine

/-- A choice between two completing commands completes with the choice of their states. -/
theorem next_ite {c : Prop} [Decidable c] {x y : Host.Outcome State Fault Refusal} {a b : State} (hx : x = .next a) (hy : y = .next b) :
    (if c then x else y) = .next (if c then a else b) := by
  split <;> assumption

section
variable {s : State} {id : Nat} (hr : s.runs = true) (hw : s.windowOpen = true) (hp : s.passes id .operator = true)
include hr hw hp

theorem exec_slotRestart_passes : exec (.slotRestart id) s = .next (slotRestart s) := by
  rw [exec_slotRestart, execSlotRestart, State.act_runs _ _ hr, State.gate_pass _ _ _ _ _ hw hp, ok]

theorem exec_slotValidate_passes : exec (.slotValidate id) s = .next (slotValidate s) := by
  rw [exec_slotValidate, execSlotValidate, State.act_runs _ _ hr, State.gate_pass _ _ _ _ _ hw hp, ok]

theorem exec_slotDataWrite_passes (v : Nat) : exec (.slotDataWrite id v) s = .next (slotDataWrite v s) := by
  rw [exec_slotDataWrite, execSlotDataWrite, State.act_runs _ _ hr, State.gate_pass _ _ _ _ _ hw hp, ok]

theorem exec_timeStart_passes : exec (.timeStart id) s = .next (startTime s) := by
  rw [exec_timeStart, execTimeStart, State.act_runs _ _ hr, State.gate_pass _ _ _ _ _ hw hp, ok]

theorem exec_timeLock_passes : exec (.timeLock id) s = .next (lockTime s) := by
  rw [exec_timeLock, execTimeLock, State.act_runs _ _ hr, State.gate_pass _ _ _ _ _ hw hp, ok]

theorem exec_timeIncWrite_passes (v : Nat) : exec (.timeIncWrite id v) s = .next (writeTimeInc v s) := by
  rw [exec_timeIncWrite, execTimeIncWrite, State.act_runs _ _ hr, State.gate_pass _ _ _ _ _ hw hp, ok]

end

section
variable {s : State} (ho : s.slotOpen = true) (hb : s.fb F.SLOT_STAT_BUSY = false)
include ho hb

theorem slotRestart_open : slotRestart s = dropImage (s.fs F.SLOT_WPTR_WPTR 0) := by
  simp [slotRestart, ho, hb]

theorem slotValidate_open : slotValidate s =
    (let u : State := (((dropImage (s.fs F.SLOT_STAT_BUSY 1)).fs F.SLOT_STAT_SIGNED 0).fs F.SLOT_STAT_ERR 0).fs F.SLOT_STAT_WHERE 0
     { u with slot := { u.slot with keyHash := s.otpVal 5 } }) := by
  unfold slotValidate
  exact if_pos (by simp [ho, hb])

theorem slotDataWrite_within (v : Nat) (h : s.fg F.SLOT_WPTR_WPTR < slotMax) :
    (slotDataWrite v s).slot = { s.slot with store := memPutBytes s.slot.store (s.fg F.SLOT_WPTR_WPTR) (toLe 4 v) } ∧
    (slotDataWrite v s).fg F.SLOT_WPTR_WPTR = (s.fg F.SLOT_WPTR_WPTR + 4) % 2 ^ F.SLOT_WPTR_WPTR.width ∧
    (∀ a, a ≠ R.SLOT_WPTR → (slotDataWrite v s).rd a = s.rd a) := by
  unfold slotDataWrite
  extract_lets p
  rw [if_neg (by simp [ho, hb]), if_neg (by simp only [p]; omega)]
  exact ⟨rfl, State.fg_fs_same _ _ _ (by decide), fun a ha => State.rd_fs_other _ _ _ _ ha⟩

/-- A word past the end of the store is not kept, and SLOT_STAT tells so. -/
theorem slotDataWrite_past (v : Nat) (h : slotMax ≤ s.fg F.SLOT_WPTR_WPTR) :
    (slotDataWrite v s).slot = s.slot ∧ (slotDataWrite v s).fg F.SLOT_STAT_ERR = 11 ∧
    (∀ a, a ≠ R.SLOT_STAT → (slotDataWrite v s).rd a = s.rd a) := by
  unfold slotDataWrite
  extract_lets p
  rw [if_neg (by simp [ho, hb]), if_pos h]
  exact ⟨rfl, (State.fg_fs_same _ _ _ (by decide)), fun a ha => State.rd_fs_other _ _ _ _ ha⟩

end

/-- The end of a validation: the first check that fails, or the image installed. -/
theorem exec_slotValidationDone_busy (s : State) (hr : s.runs = true) (hwarm : s.clk.warm = false) (hb : s.fb F.SLOT_STAT_BUSY = true) :
    exec .slotValidationDone s = .next (match (viewOf s.slotBytes (s.fg F.SLOT_WPTR_WPTR)).check s.slot.keyHash with
      | some (e, o) => ((s.fs F.SLOT_STAT_BUSY 0).fs F.SLOT_STAT_ERR e).fs F.SLOT_STAT_WHERE o
      | none => installImage (viewOf s.slotBytes (s.fg F.SLOT_WPTR_WPTR)) (s.fs F.SLOT_STAT_BUSY 0)) := by
  rw [exec_slotValidationDone, execSlotValidationDone, State.awake_up _ _ hr hwarm]
  extract_lets v s1
  rw [if_neg (by simp [hb])]
  have hk : s1.slot = s.slot := rfl
  simp only [hk, v, s1]
  cases (viewOf s.slotBytes (s.fg F.SLOT_WPTR_WPTR)).check s.slot.keyHash <;> rfl

theorem startTime_locked (s : State) (hl : s.fb F.TIME_CTL_LOCK = true) (hrun : s.fb F.TIME_STAT_RUN = false) :
    startTime s = if s.fb F.SLOT_STAT_LIVE then loadTime 3 0 (s.fs F.TIME_STAT_RUN 1) else s.fs F.TIME_STAT_RUN 1 := by
  unfold startTime
  rw [if_neg (by simp [hl, hrun])]
  extract_lets t
  rw [show t.fb F.SLOT_STAT_LIVE = s.fb F.SLOT_STAT_LIVE from State.fb_fs_other _ _ _ _ (by decide)]

/-- TIME_INC takes the values of its range and no other (R107). -/
theorem writeTimeInc_open (s : State) (v : Nat) (hl : s.fb F.TIME_CTL_LOCK = false) (hrun : s.fb F.TIME_STAT_RUN = false) :
    writeTimeInc v s = if 0x100000000 ≤ v ∧ v ≤ 0x1AAAAAAAB then s.wr64 R.TIME_INC_LO R.TIME_INC_HI v else s.fs F.TIME_STAT_INC_ERR 1 := by
  unfold writeTimeInc
  rw [if_neg (by simp [hl, hrun])]

section
variable {s : State} {n : Nat} (hr : s.runs = true)
include hr

/-- A station whose TS is due takes it at its frame: with the three MARK words it has the time of the frame, else it asks again. -/
theorem exec_stationTsLoad_due (ok3 : Bool) (hts : (s.stn n).tsPend = true) (hrun : s.spine.running = true)
    (hsub : (s.rib (n / 64)).subst = false) (hf : s.fg (F.STN_TS_STAT_LOAD_FRAME n) = s.spine.frame % 65536) :
    exec (.stationTsLoad n ok3) s = .next (if ok3 then showLoaded (startPw n ((setStn n { s.stn n with
        acc := s.spine.markTs * 2 ^ 32 + s.rdN (R.STN_TS_FRAC n), accCyc := s.spine.startCyc + 512 * s.spine.frame, accRuns := true
        tsPend := false } s).fs (F.STN_TS_STAT_LOADED n) 1))
      else loadTime 1 (n / 64) (setStn n { s.stn n with tsPend := false } s)) := by
  rw [exec_stationTsLoad, execStationTsLoad, State.act_runs _ _ hr]
  extract_lets x s1
  rw [if_neg (by simp [x, hts, hrun, hsub, hf])]
  cases ok3 <;> rfl

theorem exec_stationMarkTimeout_late (hpass : (s.stn n).passThrough = false) (hc : (s.stn n).mark + 1024 ≤ s.clk.cyc) :
    exec (.stationMarkTimeout n) s = .next (enterPass n s) := by
  rw [exec_stationMarkTimeout, execStationMarkTimeout, State.act_runs _ _ hr]
  extract_lets x
  exact if_pos (by simp [x, hpass, hc])

/-- A station that receives the frame's MARK words: its errors are counted; a time that runs is corrected by the words whose parity
is right (log entry 125). -/
theorem exec_stationFrameMark_live (fInv loInv hiInv : Nat) (fPar loPar hiPar : Bool) (hcold : (s.stn n).cold = false)
    (hrun : s.spine.running = true) (hsub : (s.rib (n / 64)).subst = false) :
    let fr := markFlit 0 s.spine.frame fInv fPar
    let lo := markFlit 1 s.spine.markTs loInv loPar
    let hi := markFlit 2 (s.spine.markTs >>> 32) hiInv hiPar
    let u : State := downErrors n (b2n (!flitOdd fr) + b2n (!flitOdd lo) + b2n (!flitOdd hi)) s
    let x : Station := if flitOdd fr then { u.stn n with frame := flitPay fr, mark := u.clk.cyc } else u.stn n
    let at_ := u.spine.startCyc + 512 * u.spine.frame
    let a := x.acc + u.rd64 (R.STN_TS_INC_LO n) (R.STN_TS_INC_HI n) * ((at_ - x.accCyc) / 2)
    let own := (a >>> 32) % 2 ^ 64
    let new := (if flitOdd lo then flitPay lo else own % 2 ^ 32) + 2 ^ 32 * (if flitOdd hi then flitPay hi else own >>> 32)
    let w : State := setStn n { x with acc := new * 2 ^ 32 + a % 2 ^ 32, accCyc := at_ } u
    exec (.stationFrameMark n fInv fPar loInv loPar hiInv hiPar) s = .next (if !x.accRuns then setStn n x u
      else if new = own then w else (modStn n (fun x => { x with slipDue := true }) w).fs (F.STN_TS_STAT_SLIP n) 1) := by
  rw [exec_stationFrameMark, execStationFrameMark, State.act_runs _ _ hr, if_neg (by simp [hcold, hrun, hsub])]
  intro fr lo hi u x at_ a own new w
  exact next_ite rfl (next_ite rfl rfl)

end

/-- Settles O25: the image store and TIME_INC are open registers; a station's time follows the words of the spine. -/
theorem imageStoreAndTime : Obligations.ImageStoreAndTime := by
  unfold Obligations.ImageStoreAndTime
  refine ⟨fun s id v hr => ⟨fun hw hp ho hb => ?store, fun hwarm hb => ?validated⟩, fun s id v n fInv loInv hiInv fPar loPar hiPar hr =>
    ⟨fun hw hp => ?time, fun hts hrun hsub hf => ?load, fun hcold hrun hsub => ?mark, exec_stationMarkTimeout_late hr⟩⟩
  case store =>
    rw [exec_slotRestart_passes hr hw hp, exec_slotValidate_passes hr hw hp, slotRestart_open ho hb, slotValidate_open ho hb]
    exact ⟨rfl, rfl, fun h => ⟨_, exec_slotDataWrite_passes hr hw hp v, slotDataWrite_within ho hb v h⟩,
      fun h => ⟨_, exec_slotDataWrite_passes hr hw hp v, slotDataWrite_past ho hb v h⟩⟩
  case validated =>
    intro view
    rw [exec_slotValidationDone_busy s hr hwarm hb]
    refine ⟨fun e o h => ?_, fun h => ?_⟩
    · simp only [show (viewOf s.slotBytes (s.fg F.SLOT_WPTR_WPTR)).check s.slot.keyHash = some (e, o) from h]
    · simp only [show (viewOf s.slotBytes (s.fg F.SLOT_WPTR_WPTR)).check s.slot.keyHash = none from h]
      rfl
  case time =>
    refine ⟨fun hl hrun => ?start, exec_timeLock_passes hr hw hp, fun hl hrun => ?inc⟩
    case start =>
      rw [exec_timeStart_passes hr hw hp, startTime_locked s hl hrun]
      exact ⟨fun h => by rw [if_neg (by simp [h])], fun h => by rw [if_pos h]⟩
    case inc =>
      rw [exec_timeIncWrite_passes hr hw hp, writeTimeInc_open s v hl hrun]
      refine ⟨fun h1 h2 => ⟨s.wr64 R.TIME_INC_LO R.TIME_INC_HI v, by rw [if_pos ⟨h1, h2⟩], ?_, fun a h3 h4 => State.rd_wr64_other _ _ _ _ _ h3 h4⟩,
        fun h => by rw [if_neg (by omega)]⟩
      rw [rd64_wr64 _ _ _ _ (by decide), Nat.mod_eq_of_lt (by omega)]
  case load =>
    rw [exec_stationTsLoad_due hr true hts hrun hsub hf, exec_stationTsLoad_due hr false hts hrun hsub hf]
    exact ⟨rfl, rfl⟩
  case mark =>
    intro fr lo hi u x at_ a own new w
    have h := exec_stationFrameMark_live hr fInv loInv hiInv fPar loPar hiPar hcold hrun hsub
    refine ⟨fun hx => h.trans ?_, fun hx he => h.trans ?_, fun hx he => h.trans ?_⟩
    · exact congrArg _ (if_pos (by simpa using hx))
    · exact congrArg _ ((if_neg (by simpa using hx)).trans (if_pos he))
    · exact congrArg _ ((if_neg (by simpa using hx)).trans (if_neg he))

end Sys2Proof.Machine
end

section
/-! PROOFS. Rounds of the gather exchange (O26). -/

namespace Sys2Proof.Machine

section
variable {s : State} (hr : s.runs = true) (hwarm : s.clk.warm = false)
include hr hwarm

/-- The next ping leaves when its step has come; without gather asymmetry its T1 is the TS of its crossing. -/
theorem exec_gatherPingSend_due (p : GatherPeer) (hup : s.coreUp 1 = true) (hstall : s.noticeStall s.core = false)
    (hround : s.gather.round.isSome = true) (hsent : s.gather.sent < 16 * s.gather.peers.length)
    (hp : s.gather.peers[s.gather.sent % s.gather.peers.length]? = some p)
    (hts : s.gather.start + 2000 * (s.gather.sent / s.gather.peers.length) ≤ s.ts)
    (hasym : s.fb F.SEC_CTL_TEST_EN = false ∨ s.fb F.PTB_CTL_GATHER_EN = false) :
    ∃ t : State, exec .gatherPingSend s = .next t ∧ t.regs = s.regs ∧
      t.bus.fabSent = s.bus.fabSent ++ [⟨true, p.node, gatherBytes 1 (s.gather.sent / s.gather.peers.length) s.gather.session s.ts 0 0⟩] ∧
      t.gather = { s.gather with sent := s.gather.sent + 1, open_ := s.gather.open_ ++ [(p.ent, s.gather.sent / s.gather.peers.length, s.ts)] } := by
  have hlen : s.gather.peers.length ≠ 0 := by omega
  have hsome : s.gather.round.isNone = false := by
    cases h : s.gather.round
    · rw [h] at hround
      exact absurd hround (by decide)
    · rfl
  have hoff : (s.fb F.SEC_CTL_TEST_EN && s.fb F.PTB_CTL_GATHER_EN) = false := by rcases hasym with h | h <;> simp [h]
  have hmod : s.ts < 2 ^ 64 := by
    unfold State.ts
    exact Nat.mod_lt _ (by decide)
  rw [exec_gatherPingSend, execGatherPingSend, State.awake_up _ _ hr hwarm]
  extract_lets g np i asym
  rw [if_neg (by simp [g, np, hup, hstall, hsome, hlen]; omega)]
  simp only [g, np, hp]
  rw [if_neg (Nat.not_lt.mpr hts)]
  refine ⟨_, rfl, rfl, ?_, rfl⟩
  show _ ++ [(⟨true, p.node, gatherBytes 1 i g.session ((s.ts + 2 ^ 64 - _) % 2 ^ 64) 0 0⟩ : FabMsg)] = _
  rw [if_neg (by simp [asym, hoff]), Nat.sub_zero, Nat.add_mod_right, Nat.mod_eq_of_lt hmod]

omit hr hwarm in
/-- Without the perturbation of the notice class a beat leaves in the cycle asked. -/
theorem noticeFrom_unstalled (s : State) (c : Nat) (h : s.fb F.PTB_PORT_FAB_NOTICE = false) : s.noticeFrom c = c := by
  have hstall : ∀ k, s.noticeStall k = false := fun k => by simp [State.noticeStall, h]
  unfold State.noticeFrom
  simp [hstall, List.range_succ_eq_map]

theorem exec_gpingReceive_known (node index session t1 : Nat) (ht : s.fb F.TIME_STAT_RUN = true) (hn : node ∈ s.job.peers) :
    ∃ (t : State) (d : Nat), (s.fb F.PTB_PORT_FAB_NOTICE = false → d ≤ 64) ∧ exec (.gpingReceive node index session t1) s = .next t ∧
      t.regs = s.regs ∧
      t.bus.fabSent = s.bus.fabSent ++ [⟨true, node, gatherBytes 2 index session t1 s.ts (s.tsOfCyc (s.clk.cyc + 2 * d))⟩] := by
  rw [exec_gpingReceive, execGpingReceive, State.awake_up _ _ hr hwarm, if_pos (by simp [ht, hn])]
  refine ⟨_, s.noticeFrom (s.core + s.free.1 % 65) - s.core, fun h => ?_, rfl, rfl, rfl⟩
  rw [noticeFrom_unstalled s _ h]
  omega

theorem exec_gpingReceive_ignored (node index session t1 : Nat) (h : s.fb F.TIME_STAT_RUN = false ∨ node ∉ s.job.peers) :
    ∃ t : State, exec (.gpingReceive node index session t1) s = .next t ∧ t.bus = s.bus ∧
      t.fg F.GATHER_IGN_IGNORED = satAdd F.GATHER_IGN_IGNORED.width (s.fg F.GATHER_IGN_IGNORED) 1 := by
  rw [exec_gpingReceive, execGpingReceive, State.awake_up _ _ hr hwarm, if_neg (by rcases h with h | h <;> simp [h])]
  exact ⟨_, rfl, rfl, State.fg_fsat_same _ _ _ (by decide)⟩

theorem exec_gpongReceive_mine (p : GatherPeer) (node index v t1 t2 t3 : Nat)
    (hp : s.gather.peers.find? (fun p => p.node == node) = some p) (hround : s.gather.round.isSome = true)
    (hopen : (p.ent, index, v) ∈ s.gather.open_) (hts : s.ts ≤ v + 50000) :
    ∃ t : State, exec (.gpongReceive node index s.gather.session t1 t2 t3) s = .next t ∧ t.regs = s.regs ∧
      t.gather.open_ = removeFirst (fun o => o.1 == p.ent && o.2.1 == index) s.gather.open_ ∧
      t.gather.peers = replaceFirst (fun q => q.ent == p.ent) (fun q => { q with got := q.got ++
        [{ idx := index, off2 := wrap64 (((t2 : Int) - t1) - ((s.ts : Int) - t3)), rtt := wrap64 (((s.ts : Int) - t1) - ((t3 : Int) - t2)), t1 := t1, t4 := s.ts }] }) s.gather.peers := by
  rw [exec_gpongReceive, execGpongReceive, State.awake_up _ _ hr hwarm]
  simp only [hp]
  rw [if_pos (by
    simp only [hround, Bool.and_eq_true, List.any_eq_true]
    exact ⟨by simp, _, hopen, by simpa using hts⟩)]
  exact ⟨_, rfl, rfl, rfl, rfl⟩

theorem exec_gatherSecondRound_due (hup : s.coreUp 1 = true) (hb : s.gather.between = true) (hround : s.gather.round = none)
    (hts : s.gather.start + 10000000 ≤ s.ts) :
    ∃ t : State, exec .gatherSecondRound s = .next t ∧ t.regs = s.regs ∧ t.gather.round = some 2 ∧ t.gather.start = s.ts ∧
      t.gather.sent = 0 ∧ t.gather.peers = s.gather.peers.map (fun p => { node := p.node, ent := p.ent }) := by
  rw [exec_gatherSecondRound, execGatherSecondRound, State.awake_up _ _ hr hwarm]
  extract_lets g
  rw [if_pos (by simp [g, hup, hb, hround, hts])]
  refine ⟨_, rfl, rfl, rfl, rfl, rfl, ?_⟩
  exact List.map_map ..

/-- A periodic round asks every entry that is VALID or FEW; with none it only counts its period (log entry 111). -/
theorem exec_gatherPeriodicRound_due (hup : s.coreUp 1 = true) (hper : s.fg F.GATHER_CTL_PERIOD ≠ 0)
    (hbusy : s.fb F.GATHER_STAT_BUSY = false) (ht : s.fb F.TIME_STAT_RUN = true)
    (hts : s.gather.last + s.fg F.GATHER_CTL_PERIOD * 1000000000 ≤ s.ts) :
    let es := (List.range 256).filter (fun e => s.offStatus e == 1 || s.offStatus e == 2)
    (es = [] → exec .gatherPeriodicRound s = .next (modGather (fun g => { g with last := s.ts }) s)) ∧
    (es ≠ [] → ∃ u : State, u.fb F.GATHER_STAT_BUSY = true ∧ u.gather = { s.gather with cmd := none, began := s.ts } ∧
      exec .gatherPeriodicRound s = .next (beginRound 0 (es.map (fun e => (u.offEnt e 0 % 2 ^ 24, e))) u)) := by
  intro es
  rw [exec_gatherPeriodicRound, execGatherPeriodicRound, State.awake_up _ _ hr hwarm]
  extract_lets per es'
  rw [if_neg (by simp [per, hup, hper, hbusy, ht]; omega)]
  refine ⟨fun he => if_pos (by simpa using he), fun he => ⟨modGather (fun g => { g with cmd := none, began := s.ts }) (s.fs F.GATHER_STAT_BUSY 1),
    State.fb_fs_same s F.GATHER_STAT_BUSY 1 (by decide) rfl, rfl, if_neg (by simpa using he)⟩⟩

end

section
variable {s : State} (hr : s.runs = true)
include hr

theorem exec_gatherRoundEnd_missed (hover : s.gather.isOver s.ts = true) (hlate : s.gatherLate = true) :
    exec .gatherRoundEnd s = .next (gatherMissed s) := by
  rw [exec_gatherRoundEnd, execGatherRoundEnd, State.act_runs _ _ hr]
  extract_lets g s1 s2
  rw [if_neg (by simp [g, hover]), if_pos hlate, ok]

/-- A round that ends in time writes its entries; a GATHER goes on to its second round. -/
theorem exec_gatherRoundEnd_ends (hover : s.gather.isOver s.ts = true) (hlate : s.gatherLate = false) :
    let u : State := showNent (s.gather.peers.foldl (fun u p => writeEntry (s.gather.round == some 1) u.gatherAsym p u) s)
    (s.gather.round = some 1 → exec .gatherRoundEnd s = .next (modGather (fun g => { g with round := none, between := true, open_ := [] }) u)) ∧
    (s.gather.round ≠ some 1 → exec .gatherRoundEnd s = .next (endGather false u)) := by
  rw [exec_gatherRoundEnd, execGatherRoundEnd, State.act_runs _ _ hr]
  extract_lets u g s1 s2
  rw [if_neg (by simp [g, hover]), if_neg (by simp [hlate])]
  exact ⟨fun h => if_pos h, fun h => if_neg h⟩

theorem exec_gatherTimeout_late (hcmd : s.gather.cmd.isSome = true) (hbusy : s.fb F.GATHER_STAT_BUSY = true)
    (hpast : s.past (s.gather.began + s.gather.budget) = true) : exec .gatherTimeout s = .next (gatherMissed s) := by
  have hlate : s.gatherLate = true := by simp [State.gatherLate, hcmd, hbusy, hpast]
  rw [exec_gatherTimeout, execGatherTimeout, State.act_runs _ _ hr, State.when, if_pos hlate, ok]

end

/-- Settles O26: each command at the guard under which it acts; an answer leaves within the 64 cycles of its free distance. -/
theorem gatherRounds : Obligations.GatherRounds := by
  unfold Obligations.GatherRounds
  intro s node index session t1 t2 t3 v p hr
  exact ⟨fun hwarm => ⟨exec_gatherPingSend_due hr hwarm p, exec_gpingReceive_known hr hwarm node index session t1,
    exec_gpingReceive_ignored hr hwarm node index session t1, exec_gpongReceive_mine hr hwarm p node index v t1 t2 t3,
    exec_gatherSecondRound_due hr hwarm, exec_gatherPeriodicRound_due hr hwarm⟩, exec_gatherRoundEnd_missed hr, exec_gatherRoundEnd_ends hr,
    exec_gatherTimeout_late hr⟩

end Sys2Proof.Machine
end

section
/-! PROOFS. Cuts and resumes (O27). -/

namespace Sys2Proof.Machine

section
variable {s : State} (hr : s.runs = true)
include hr

/-- A decision that has come is taken before every commit that is not behind it. -/
theorem exec_shearRequestDecided_due (d : Nat) (hd : dueDecision s = some d) (hc : ∀ c ∈ s.shear.cuts, c.committed = true ∨ d ≤ c.commit) :
    exec .shearRequestDecided s = .next (decideRequests d (s.shear.reqs.filter (fun r => r.d == d))
      (modShear (fun h => { h with reqs := h.reqs.filter (fun r => r.d != d) }) s)) := by
  have hopen : s.shear.cuts.any (fun c => !c.committed && decide (c.commit < d)) = false := by
    refine List.any_eq_false.mpr (fun c hc' => ?_)
    rcases hc c hc' with h | h
    · simp [h]
    · simp; intro; omega
  rw [exec_shearRequestDecided, execShearRequestDecided, State.act_runs _ _ hr]
  simp only [hd]
  rw [if_neg (by simp [hopen]), ok]

/-- The open cut is committed once its cycle has come and every request decided by then has joined it (R136). -/
theorem exec_shearCommit_open (c : Cut) (hc : s.shear.cuts.find? (fun c => !c.committed) = some c) :
    exec .shearCommit s = .next (if s.spineCyc < c.commit || s.shear.reqs.any (fun r => decide (r.d ≤ c.commit)) then s
      else modShear (fun h => noteSymbol (c.commit + 4) c.cls { h with
        cuts := replaceFirst (fun c => !c.committed) (fun c => { c with committed := true }) h.cuts }) s) := by
  rw [exec_shearCommit, execShearCommit, State.act_runs _ _ hr]
  simp only [hc]
  exact next_ite rfl rfl

theorem exec_cutTick_due (c : Cut) (hc : dueCut s = some c) :
    let u : State := tickCut c s
    let v : State := if u.autoReads c.cls then (askReadout ⟨s.tsOfSpine c.tick, 3, 0, 0x3F, .auto⟩ u).2 else u
    exec .cutTick s = .next (c.who.foldl (fun t w => tickWho (s.tsOfSpine c.tick) (s.tsOfSpine (c.tick - s.shH)) c.cls
      (u.fg F.SHEAR_COUNT_CUTS) w t) v) := by
  intro u v
  rw [exec_cutTick, execCutTick, State.act_runs _ _ hr]
  simp only [hc]
  rfl

omit hr in
/-- The commands of a CUT_AT whose trigger cycle has come register their requests, and nothing else changes while the tree is on. -/
theorem cutAts_register (due : List CutAt) (s : State) (hon : s.treeOn = true) :
    let t := due.foldl (fun s c => if s.treeOn then
      addRequest { n := c.x - s.shH, d := c.x - s.shH + s.shE + 4, cls := c.cls, src := 2, last := c.x - s.shH + 3
                   who := .command c.cmd c.read 0x3F false } s else completeCmd c.cmd 0x05 0 s) s
    t.shear.cutAts = s.shear.cutAts ∧ t.regs = s.regs ∧ t.rings = s.rings := by
  induction due generalizing s with
  | nil => exact ⟨rfl, rfl, rfl⟩
  | cons c due ih =>
    rw [List.foldl_cons, if_pos hon]
    exact ih (addRequest _ s) hon

theorem exec_cutAtTrigger_on (hon : s.treeOn = true) :
    ∃ t : State, exec .cutAtTrigger s = .next t ∧ t.shear.cutAts = s.shear.cutAts.filter (fun c => !decide (c.x ≤ s.spineCyc + s.shH)) ∧
      t.regs = s.regs ∧ t.rings = s.rings := by
  rw [exec_cutAtTrigger, execCutAtTrigger, State.act_runs _ _ hr]
  exact ⟨_, rfl, cutAts_register _ (modShear (fun h => { h with cutAts := h.cutAts.filter (fun c => !decide (c.x ≤ s.spineCyc + s.shH)) }) s) hon⟩

theorem exec_resumeIssue_first (r : ResumeReq) (h : s.shear.resumes.find? (fun r => !r.driven) = some r) :
    let x := firstClear (6 * s.symbolCycles.length + 6) r.issue s.symbolCycles
    x ≤ s.spineCyc → exec .resumeIssue s = .next (modShear (fun h => { h with
      resumes := replaceFirst (fun r => !r.driven) (fun r => { r with issue := x, driven := true }) h.resumes }) s) := by
  intro x hx
  rw [exec_resumeIssue, execResumeIssue, State.act_runs _ _ hr]
  simp only [h]
  exact if_pos hx

theorem exec_resumeTick_due (r : ResumeReq)
    (h : s.shear.resumes.find? (fun r => r.driven && decide (r.issue + s.shE + 4 ≤ s.spineCyc)) = some r) :
    let ts := s.tsOfSpine (r.issue + s.shE + 4)
    let u : State := s.actors.foldl (fun s n => releasePkg n s) s
    let v : State := (modShear (fun h => noteSymbol r.issue 4 { h with resumes := removeFirst (fun q => q == r) h.resumes }) u).wr64 R.SHEAR_RESUME_LO R.SHEAR_RESUME_HI ts
    (r.cmd = none → exec .resumeTick s = .next v) ∧ (∀ k, r.cmd = some k → exec .resumeTick s = .next (completeTick k 0 ts v)) := by
  intro ts u v
  rw [exec_resumeTick, execResumeTick, State.act_runs _ _ hr]
  simp only [h]
  refine ⟨fun hk => ?_, fun k hk => ?_⟩
  · simp only [hk]
    rfl
  · simp only [hk]
    rfl

section
variable {n a4 b4 : Nat}

/-- No symbol acts in an isolated branch (R149, log entry 106). -/
theorem exec_stationShearDecode_isolated (hsub : (s.rib (n / 64)).subst = true) : exec (.stationShearDecode n a4 b4) s = .next s := by
  rw [exec_stationShearDecode, execStationShearDecode, State.act_runs _ _ hr, if_pos (by simp [hsub]), ok]

theorem exec_stationShearDecode_locked (hl : s.fb (F.STN_SH_STAT_LOCKED n) = true) (hsub : (s.rib (n / 64)).subst = false) :
    exec (.stationShearDecode n a4 b4) s = .next (match decodeSymbol a4 b4 with
      | none => stationTestFailure n 1 (s.fs (F.STN_SH_STAT_DEC_ERR n) 1)
      | some sym =>
        if sym = 5 then
          if s.spineCyc % 512 = s.testCycle n % 512 then s
          else stationTestFailure n 0 ((s.fs (F.STN_SH_STAT_SKEW n) 1).fs F.SHEAR_STAT_SKEWED 1)
        else if !s.fb (F.STN_SH_STAT_SKEW n) then s
        else actIn n (s.shcomp n) (if sym = 4 then .resume else .cut sym) s) := by
  rw [exec_stationShearDecode, execStationShearDecode, State.act_runs _ _ hr, if_neg (by simp [hl, hsub])]
  cases decodeSymbol a4 b4 with
  | none => rfl
  | some sym => exact next_ite (next_ite rfl rfl) (next_ite rfl rfl)

end

/-- The carrier's request acts while it is enabled, from the fifth cycle in which its pair was sampled on (R134). -/
theorem exec_carrierShearRequest_on (hen : s.fb F.SHEAR_CTL_EXT_EN = true) (hon : s.treeOn = true) (hc : s.pins.carFrom + 5 ≤ s.clk.cyc) :
    exec (.carrierShearRequest true) s = .next (centralTrigger s.spineCyc (if s.fb F.SHEAR_CTL_EXT_CLASS then clsStop else 0) 5 .none
      { s with pins := { s.pins with carReq := true, carReqN := false } }) := by
  rw [exec_carrierShearRequest, execCarrierShearRequest, State.act_runs _ _ hr]
  extract_lets p u
  have hen' : u.fb F.SHEAR_CTL_EXT_EN = true := hen
  have hon' : u.treeOn = true := hon
  have hc' : u.pins.carFrom + 5 ≤ u.clk.cyc := hc
  rw [if_pos (by simp [hen', hc']), triggerNow, if_pos hon']
  rfl

theorem exec_carrierShearPairError_on (b : Bool) (hen : s.fb F.SHEAR_CTL_EXT_EN = true) :
    exec (.carrierShearPairError b) s = .next (({ s with pins := { s.pins with carReq := b, carReqN := b } }).fs F.SHEAR_STAT_EXT_ERR 1) := by
  rw [exec_carrierShearPairError, execCarrierShearPairError, State.act_runs _ _ hr]
  exact congrArg _ (if_pos hen)

/-- The five writes of SHEAR_TRIG that act. -/
theorem exec_shearTrig_on (id : Nat) (hw : s.windowOpen = true) (hp : s.passes id .operator = true) (hon : s.treeOn = true) :
    exec (.shearTrigLatch id) s = .next (centralTrigger s.spineCyc 0 4 .none s) ∧
    exec (.shearTrigFreeze id) s = .next (centralTrigger s.spineCyc 1 4 .none s) ∧
    exec (.shearTrigDrain id) s = .next (centralTrigger s.spineCyc 2 4 .none s) ∧
    exec (.shearTrigRunOn id) s = .next (centralTrigger s.spineCyc 3 4 .none s) ∧
    exec (.shearTrigResume id) s = .next (registerResume none s) := by
  have cls : ∀ op, op ≤ 3 → shearTrig op s = centralTrigger s.spineCyc op 4 .none s := fun op hop => by
    rw [shearTrig, if_pos hop, triggerNow, if_pos hon]
  have resume : shearTrig 4 s = registerResume none s := by
    rw [shearTrig, if_neg (by decide), if_pos (by simp [hon])]
  refine ⟨?_, ?_, ?_, ?_, ?_⟩
  · rw [exec_shearTrigLatch, execShearTrigLatch, State.act_runs _ _ hr, State.gate_pass _ _ _ _ _ hw hp, cls 0 (by decide), ok]
  · rw [exec_shearTrigFreeze, execShearTrigFreeze, State.act_runs _ _ hr, State.gate_pass _ _ _ _ _ hw hp, cls 1 (by decide), ok]
  · rw [exec_shearTrigDrain, execShearTrigDrain, State.act_runs _ _ hr, State.gate_pass _ _ _ _ _ hw hp, cls 2 (by decide), ok]
  · rw [exec_shearTrigRunOn, execShearTrigRunOn, State.act_runs _ _ hr, State.gate_pass _ _ _ _ _ hw hp, cls 3 (by decide), ok]
  · rw [exec_shearTrigResume, execShearTrigResume, State.act_runs _ _ hr, State.gate_pass _ _ _ _ _ hw hp, resume, ok]

end

/-- Settles O27: every clause is a command at the guard under which it acts; the decoder by its table. -/
theorem shearCuts : Obligations.ShearCuts := by
  unfold Obligations.ShearCuts
  intro s id n a4 b4 d sym c r b hr
  refine ⟨exec_shearRequestDecided_due hr d, fun hc => ⟨fun hcom hreqs => ?commit, fun hreq => ?joins⟩, exec_cutTick_due hr c,
    fun hon _ => exec_cutAtTrigger_on hr hon, exec_resumeIssue_first hr r, exec_resumeTick_due hr r, exec_stationShearDecode_isolated hr,
    fun hl hsub => ?decode, fun ha => if_neg ha, by decide, exec_carrierShearRequest_on hr, exec_carrierShearPairError_on hr b,
    exec_shearTrig_on hr id⟩
  case commit =>
    have hnone : s.shear.reqs.any (fun r => decide (r.d ≤ c.commit)) = false :=
      List.any_eq_false.mpr (fun r hr' => by have := hreqs r hr'; simp; omega)
    rw [exec_shearCommit_open hr c hc, if_neg (by simp [hnone]; omega)]
  case joins =>
    obtain ⟨r, hr', hle⟩ := hreq
    rw [exec_shearCommit_open hr c hc, if_pos]
    rw [Bool.or_eq_true]
    exact .inr (List.any_eq_true.mpr ⟨r, hr', by simpa using hle⟩)
  case decode =>
    rw [exec_stationShearDecode_locked hr hl hsub]
    refine ⟨fun hs => by simp only [hs], fun hs => ?_, fun hs h4 => ?_⟩
    · simp only [hs]
      exact ⟨fun h => by rw [if_pos trivial, if_pos h], fun h => by rw [if_pos trivial, if_neg h]⟩
    · simp only [hs]
      rw [if_neg (by omega)]
      exact ⟨fun h => by rw [if_pos (by simp [h])], fun h => by rw [if_neg (by simp [h])]⟩

end Sys2Proof.Machine
end

section
/-! PROOFS. Care of the shear tree (O28). -/

namespace Sys2Proof.Machine

theorem exec_shearEnable_passes (s : State) (id : Nat) (hr : s.runs = true) (hw : s.windowOpen = true) (hp : s.passes id .operator = true) :
    exec (.shearEnable id) s =
      .next (if s.fb F.SLOT_STAT_LIVE then (s.fs F.SHEAR_CTL_ENABLE 1).fs F.SHEAR_STAT_ENABLED 1 else s) := by
  rw [exec_shearEnable, execShearEnable, State.act_runs _ _ hr, State.gate_pass _ _ _ _ _ hw hp, ok, shearEnable]

/-- The registers after a disable, before the jobs of continuity are settled: the tree is off and every station unlocked. -/
def treeOff (s : State) : State :=
  (s.slot.stns.map (·.1)).foldl (fun s n => s.fs (F.STN_SH_STAT_LOCKED n) 0)
    (((s.fs F.SHEAR_CTL_ENABLE 0).fs F.SHEAR_STAT_ENABLED 0).fs F.SHEAR_STAT_LOCKED 0)

theorem unlockAll_rd (l : List Nat) (s : State) (a : Nat) (ha : a < 0x200000) :
    (l.foldl (fun s n => s.fs (F.STN_SH_STAT_LOCKED n) 0) s).rd a = s.rd a :=
  fold_keep (fun s : State => s.rd a) l _ (fun s n => State.rd_fs_other _ _ _ _ (by simp only [R.STN_SH_STAT]; omega)) s

theorem treeOff_fields (s : State) : (treeOff s).fb F.SHEAR_CTL_ENABLE = false ∧ (treeOff s).fb F.SHEAR_STAT_ENABLED = false ∧
    (treeOff s).fb F.SHEAR_STAT_LOCKED = false := by
  have hfb : ∀ g : Fld, g.addr < 0x200000 →
      (treeOff s).fb g = (((s.fs F.SHEAR_CTL_ENABLE 0).fs F.SHEAR_STAT_ENABLED 0).fs F.SHEAR_STAT_LOCKED 0).fb g := fun g hg => by
    rw [State.fb, State.fb, State.fg_congr _ (treeOff s) g (unlockAll_rd _ _ _ hg)]
  refine ⟨?_, ?_, ?_⟩
  · rw [hfb _ (by decide), State.fb_fs_other _ _ _ _ (by decide), State.fb_fs_other _ _ _ _ (by decide)]
    exact State.fb_fs_same _ _ _ (by decide) rfl
  · rw [hfb _ (by decide), State.fb_fs_disjoint _ _ _ _ (by decide) (by decide)]
    exact State.fb_fs_same _ _ _ (by decide) rfl
  · rw [hfb _ (by decide)]
    exact State.fb_fs_same _ _ _ (by decide) rfl

/-- The commands that wait for the tree: for what has not committed first, then for the committed cuts. -/
def treeCmds (s : State) : List CmdKey :=
  whoCmds ((s.shear.reqs.map (·.who)) ++ (s.shear.cuts.filter (fun c => !c.committed)).flatMap (·.who)) ++
    s.shear.resumes.filterMap (·.cmd) ++ s.shear.cutAts.map (·.cmd) ++
    whoCmds ((s.shear.cuts.filter (·.committed)).flatMap (·.who))

/-- What a disable has settled when the waiting commands end: nothing waits in the tree, and no job of continuity waits for it. -/
def treeDisabled (s : State) : State :=
  let t := modShear (fun h => { h with reqs := [], cuts := [], resumes := [], cutAts := [], testFrame := none, replied := none }) (treeOff s)
  let t := { t with cont := { t.cont with
    rcd := t.cont.rcd.filter (fun (j : RecordJob) => !(treeCmds s).contains j.cmd)
    chk := t.cont.chk.filter (fun (j : CheckJob) => !(treeCmds s).contains j.cmd) } }
  (t.fs F.CONT_STAT_REC_BUSY (b2n t.cont.rcd.isSome)).fs F.CONT_STAT_CHK_BUSY (b2n t.cont.chk.isSome)

theorem shearDisable_eq (s : State) :
    shearDisable s = (treeCmds s).foldl (fun s k => completeCmd k 0x05 0 s) (showOpen (treeDisabled s)) := rfl

theorem treeDisabled_fb (s : State) (g : Fld) (hg : g.addr ≠ R.CONT_STAT) : (treeDisabled s).fb g = (treeOff s).fb g :=
  (State.fb_fs_other _ _ _ _ hg).trans ((State.fb_fs_other _ _ _ _ hg).trans rfl)

theorem treeOff_parts (s : State) : (treeOff s).shear = s.shear ∧ (treeOff s).rings = s.rings := by
  unfold treeOff
  exact ⟨fold_keep (fun s : State => s.shear) _ _ (fun _ _ => by rfl) _, fold_keep (fun s : State => s.rings) _ _ (fun _ _ => by rfl) _⟩

theorem treeDisabled_parts (s : State) :
    (treeDisabled s).shear = { s.shear with reqs := [], cuts := [], resumes := [], cutAts := [], testFrame := none, replied := none } ∧
      (treeDisabled s).rings = s.rings := by
  obtain ⟨hshear, hrings⟩ := treeOff_parts s
  refine ⟨?_, hrings⟩
  rw [← hshear]
  rfl

theorem exec_receiverLock_enabled (s : State) (root : Bool) (n : Nat) (hr : s.runs = true) (he : s.fb F.SHEAR_STAT_ENABLED = true) :
    exec (.receiverLock root n) s = .next (if root then (if s.idleUp then s.fs F.SHEAR_STAT_LOCKED 1 else s)
      else if s.populated n && s.fb (F.STN_SH_CFG_VALID n) && s.idleDown n then s.fs (F.STN_SH_STAT_LOCKED n) 1 else s) := by
  rw [exec_receiverLock, execReceiverLock, State.act_runs _ _ hr, if_neg (by simp [he])]
  exact next_ite rfl (next_ite rfl rfl)

/-- Cycles that the frame's TEST keeps away from (R147). -/
def testOthers (s : State) : List Nat :=
  (s.shear.symbols.filter (fun y => y.2 != 5)).map (·.1) ++ ((s.shear.cuts.filter (·.committed)).map (fun c => c.commit + 4)) ++
    s.shear.resumes.map (fun r => if r.driven then r.issue else firstClear (6 * s.symbolCycles.length + 6) r.issue s.symbolCycles)

theorem mem_testOthers (s : State) (x : Nat × Nat) (hx : x ∈ s.shear.symbols) (h5 : x.2 ≠ 5) : x.1 ∈ testOthers s :=
  List.mem_append_left _ (List.mem_append_left _ (List.mem_map.mpr ⟨x, List.mem_filter.mpr ⟨hx, by simpa using h5⟩, rfl⟩))

theorem testOthers_empty (s : State) (h1 : s.shear.symbols = []) (h2 : s.shear.cuts = []) (h3 : s.shear.resumes = []) : testOthers s = [] := by
  simp [testOthers, h1, h2, h3]

/-- The TEST of this frame is sent, or skipped where another symbol is near. -/
def sendTest (near : Bool) (s : State) : State :=
  let t := (modShear (fun h => { h with testNext := s.frameNow + 1, replied := none, testFrame := (if near then none else some s.frameNow) }) s).when
    (!near) (modShear (noteSymbol (512 * s.frameNow + 256) 5))
  if near then t.fsat F.SHEAR_ERR_SKIPPED 1 else t

theorem sendTest_next (near : Bool) (s : State) :
    (sendTest near s).shear.testNext = s.frameNow + 1 ∧ (sendTest near s).shear.replied = none := by
  cases near <;> exact ⟨rfl, rfl⟩

theorem exec_selftestTestSend_due (s : State) (hr : s.runs = true) (he : s.fb F.SHEAR_STAT_ENABLED = true) (hrun : s.spine.running = true)
    (hc : 512 * s.frameNow + 256 ≤ s.spineCyc) (hn : s.shear.testNext ≤ s.frameNow) :
    exec .selftestTestSend s = .next (sendTest (!clearOf (512 * s.frameNow + 256) (testOthers s)) s) := by
  rw [exec_selftestTestSend, execSelftestTestSend, State.act_runs _ _ hr]
  exact if_neg (by simp [he, hrun]; omega)

theorem clearOf_mem (c : Nat) (l : List Nat) (h : c ∈ l) : clearOf c l = false := by
  refine List.all_eq_false.mpr ⟨c, h, ?_⟩
  simp

theorem exec_selftestReply_turn (s : State) (n f : Nat) (hr : s.runs = true) (hf : s.shear.testFrame = some f) (hn : f % 1024 = n)
    (hpop : s.populated n = true) (hl : s.fb (F.STN_SH_STAT_LOCKED n) = true) (hc : 512 * f + 256 + s.shE + 4 ≤ s.spineCyc) :
    exec (.selftestReply n) s = .next (modShear (fun h => { h with replied := some n }) s) := by
  rw [exec_selftestReply, execSelftestReply, State.act_runs _ _ hr]
  simp only [hf]
  exact if_pos (by simp [hn, hpop, hl, hc])

/-- The root's check of a frame over which no request ran. -/
theorem exec_selftestRootCheck_due (s : State) (f : Nat) (wrong : Bool) (hr : s.runs = true) (hf : s.shear.testFrame = some f)
    (hc : 512 * f + 256 + 2 * s.shE + 4 + 2 ≤ s.spineCyc) (hl : s.fb F.SHEAR_STAT_LOCKED = true) (hruns : s.shear.runs = []) :
    let u : State := modShear (fun h => { h with testFrame := none, replied := none }) s
    exec (.selftestRootCheck wrong) s = .next (if s.populated (f % 1024) && !s.ribDegraded (f % 1024 / 64) && !(s.rib (f % 1024 / 64)).subst &&
        (wrong || s.shear.replied != some (f % 1024)) then rootTestFailure 2 (f % 1024) u else u) := by
  intro u
  rw [exec_selftestRootCheck, execSelftestRootCheck, State.act_runs _ _ hr]
  simp only [hf]
  rw [if_neg (by simp [hl]; omega), if_neg (by simp [hruns])]
  exact next_ite rfl rfl

theorem exec_upwardDecodeError_locked (s : State) (hr : s.runs = true) (hl : s.fb F.SHEAR_STAT_LOCKED = true) :
    exec .upwardDecodeError s = .next (rootTestFailure 3 0 (s.fsat F.SHEAR_ERR_DEC_ERR 1)) := by
  rw [exec_upwardDecodeError, execUpwardDecodeError, State.act_runs _ _ hr, if_pos hl, ok]

/-- Settles O28: a disable by `treeDisabled`, the self-test by `sendTest` and the root's check. -/
theorem shearTreeCare : Obligations.ShearTreeCare := by
  unfold Obligations.ShearTreeCare
  intro s id n f wrong hr
  refine ⟨fun hw hp => ⟨fun hlive => ?enable, fun hlive => ?ignored, ?disable⟩, fun he => ⟨fun h => ?rootLocks, fun h => ?rootWaits, fun h1 h2 h3 => ?stationLocks⟩,
    fun he hrun hc hn => ?send, exec_selftestReply_turn s n f hr, fun hf hc hl hruns => ?check, exec_upwardDecodeError_locked s hr⟩
  case enable => rw [exec_shearEnable_passes s id hr hw hp, if_pos hlive]
  case ignored => rw [exec_shearEnable_passes s id hr hw hp, if_neg (by simp [hlive])]
  case disable =>
    obtain ⟨h1, h2, h3⟩ := treeOff_fields s
    obtain ⟨hshear, hrings⟩ := treeDisabled_parts s
    refine ⟨treeDisabled s, (treeDisabled_fb s _ (by decide)).trans h1, (treeDisabled_fb s _ (by decide)).trans h2,
      (treeDisabled_fb s _ (by decide)).trans h3, hshear, hrings, ?_⟩
    rw [exec_shearDisable, execShearDisable, State.act_runs _ _ hr, State.gate_pass _ _ _ _ _ hw hp, ok, shearDisable_eq]
    rfl
  case rootLocks => rw [exec_receiverLock_enabled s true n hr he, if_pos rfl, if_pos h]
  case rootWaits => rw [exec_receiverLock_enabled s true n hr he, if_pos rfl, if_neg (by simp [h])]
  case stationLocks => rw [exec_receiverLock_enabled s false n hr he, if_neg (by decide), if_pos (by simp [h1, h2, h3])]
  case send =>
    obtain ⟨hnext, hrep⟩ := sendTest_next (!clearOf (512 * s.frameNow + 256) (testOthers s)) s
    refine ⟨_, exec_selftestTestSend_due s hr he hrun hc hn, hnext, hrep, fun h1 h2 h3 => ?_, fun ⟨x, hx, h5, hat⟩ => ?_⟩
    · rw [testOthers_empty s h1 h2 h3]
      exact ⟨rfl, rfl⟩
    · rw [clearOf_mem _ _ (hat ▸ mem_testOthers s x hx h5)]
      exact ⟨rfl, State.fg_fsat_same s F.SHEAR_ERR_SKIPPED 1 (by decide)⟩
  case check =>
    intro u
    have h := exec_selftestRootCheck_due s f
    refine ⟨fun hrep => (h false hr hf hc hl hruns).trans (congrArg _ (if_neg (by simp [hrep]))), fun hpop hdeg hsub hw =>
      (h wrong hr hf hc hl hruns).trans (congrArg _ (if_pos ?_))⟩
    rcases hw with hw | hw <;> simp [hpop, hdeg, hsub, hw]

end Sys2Proof.Machine
end

section
/-! PROOFS. Readouts of cullet vectors (O29). -/

namespace Sys2Proof.Machine

section
variable {s : State} {n : Nat} (hr : s.runs = true)
include hr

theorem exec_stationCulletRd_front (m : DownMsg) (rest : List DownMsg) (hin : (s.stn n).inbox = m :: rest) (hd : s.delivers n = true)
    (hk : m.kind = 4) :
    let u : State := setStn n { s.stn n with inbox := rest } s
    let y := openReadout n m u
    exec (.stationCulletRd n) s = .next (showReadout n (startGroup n ((modStn n (fun x => { x with
      readout := if y.groups.isEmpty then none else some y }) u).fs (F.STN_CUL_STAT_SKEWMATCH n) (b2n y.skew)))) := by
  intro u y
  rw [exec_stationCulletRd, execStationCulletRd, State.act_runs _ _ hr]
  simp only [takeInbox_cons n 4 (fun _ => true) s m rest hin hd hk rfl]
  rfl

omit hr in
/-- A strobe at the tick asked is the readout's hit, without skew. -/
theorem openReadout_hit (m : DownMsg) (u : State) (hit : Nat × Nat)
    (h : (u.stn n).strobes.find? (fun e => e.1 == m.words.getD 0 0 + 2 ^ 32 * m.words.getD 1 0) = some hit) :
    (openReadout n m u).hit = some hit.1 ∧ (openReadout n m u).off = hit.2 ∧ (openReadout n m u).skew = false ∧
      (openReadout n m u).rdtag = m.head % 4 ∧ (openReadout n m u).types = bitsOf m.head 2 6 := by
  have hm : matchStrobe n (m.words.getD 0 0 + 2 ^ 32 * m.words.getD 1 0) u = (some hit, false) := by
    unfold matchStrobe
    simp only [h]
  unfold openReadout
  extract_lets types found
  have hf : found = (some hit, false) := hm
  rw [hf]
  exact ⟨rfl, rfl, rfl, rfl, rfl⟩

omit hr in
/-- A group that is being read is not started again. -/
theorem startGroup_reading (x : StnReadout) (hx : (s.stn n).readout = some x) (hreading : x.reading = true) : startGroup n s = s := by
  unfold startGroup
  simp only [hx]
  cases hg : x.groups with
  | nil => rfl
  | cons g gs => exact if_neg (by simp [hreading])

theorem exec_stationCulletGroupDone_reading (vectors : List (List Nat)) (x : StnReadout) (g : Nat) (gs : List Nat)
    (hx : (s.stn n).readout = some x) (hg : x.groups = g :: gs) (hreading : x.reading = true) :
    let parts := culletParts n g x vectors s
    exec (.stationCulletGroupDone n vectors) s = .next (showReadout n (startGroup n ((culletSend n g x parts
      (setStn n { s.stn n with readout := if gs.isEmpty then none else some { x with groups := gs, reading := false } } s)).fs
        (F.STN_CUL_STAT_LATER_N n) (culletLater x parts)))) := by
  intro parts
  rw [exec_stationCulletGroupDone, execStationCulletGroupDone, State.act_runs _ _ hr, startGroup_reading x hx hreading]
  simp only [hx, hg]
  exact if_neg (by simp [hreading])

theorem exec_culletReadGo_idle (id types : Nat) (hw : s.windowOpen = true) (hp : s.passes id .operator = true) (ht : types % 64 ≠ 0)
    (hc : s.fg F.SHEAR_COUNT_CUTS ≠ 0) (hrun : s.cullet.running = none) (hnext : s.cullet.next = none) :
    exec (.culletReadGo id types) s = .next { s with cullet := { s.cullet with
      next := some ⟨s.rd64 R.SHEAR_TICK_LO R.SHEAR_TICK_HI, 3, 0, types % 64, .register⟩ } } := by
  rw [exec_culletReadGo, execCulletReadGo, State.act_runs _ _ hr, State.gate_pass _ _ _ _ _ hw hp, culletGo, if_neg (by simp [ht, hc]),
    askReadout, if_pos (by simp [hrun, hnext]), ok]

section
variable (hwarm : s.clk.warm = false) (q : ReadReq) (hrun : s.cullet.running = none) (hnext : s.cullet.next = some q)
include hwarm hrun hnext

theorem exec_culletReadoutStart_room (d : Nat) (hdir : s.nextDir = some d) :
    let u : State := freeDir d (modCullet (fun c => { c with next := none }) s)
    let v : State := beginReadout d q (u.expectedGroups q) u
    exec .culletReadoutStart s = .next (if (u.expectedGroups q).isEmpty || !v.spine.running then endReadout v else v) := by
  intro u v
  rw [exec_culletReadoutStart, execCulletReadoutStart, State.awake_up _ _ hr hwarm]
  simp only [hrun, hnext, hdir]
  rfl

theorem exec_culletReadoutStart_full (hdir : s.nextDir = none) :
    exec .culletReadoutStart s = .next (refuseReadout q (modCullet (fun c => { c with next := c.waiting, waiting := none })
      (s.fs F.CULLET_STAT_WAITING 0))) := by
  rw [exec_culletReadoutStart, execCulletReadoutStart, State.awake_up _ _ hr hwarm]
  simp only [hrun, hnext, hdir]
  rfl

end

theorem exec_culletMessageArrival_front (up : UpMsg) (ups : List UpMsg) (hair : (s.stn n).air = up :: ups) (hk : up.kind = 1) :
    let u : State := takeCulletMessage n up (expireReadout (setStn n { s.stn n with air := ups } s))
    exec (.culletMessageArrival n) s = .next (if readoutOver u then lehrRun (endReadout u) else u) := by
  intro u
  rw [exec_culletMessageArrival, execCulletMessageArrival, State.act_runs _ _ hr]
  simp only [takeAir_cons n 1 s up ups hair hk]
  rfl

theorem exec_culletReadoutTimeout_past (r : Readout) (hrun : s.cullet.running = some r) (hpast : s.past r.deadline = true) :
    exec .culletReadoutTimeout s = .next (lehrRun (endReadout s)) := by
  rw [exec_culletReadoutTimeout, execCulletReadoutTimeout, State.act_runs _ _ hr, expireReadout]
  simp only [hrun, hpast]
  rfl

end

/-- Settles O29: each message is the one at the front of its queue, each readout begins and ends as its guards say. -/
theorem culletReadout : Obligations.CulletReadout := by
  unfold Obligations.CulletReadout
  intro s id n types g d m rest up ups vectors x gs q r hit hr
  refine ⟨fun hin hd hk => ?read, exec_stationCulletGroupDone_reading hr vectors x g gs, exec_culletReadGo_idle hr id types,
    fun hwarm hrun hnext => exec_culletReadoutStart_room hr hwarm q hrun hnext d,
    fun hwarm hrun hnext => exec_culletReadoutStart_full hr hwarm q hrun hnext, exec_culletMessageArrival_front hr up ups,
    exec_culletReadoutTimeout_past hr r⟩
  case read =>
    intro u y
    refine ⟨exec_stationCulletRd_front hr m rest hin hd hk, fun hhit => openReadout_hit m u hit ?_⟩
    rw [stn_setStn, if_pos rfl]
    exact hhit

end Sys2Proof.Machine
end

section
/-! PROOFS. Counters over the network (O30). -/

namespace Sys2Proof.Machine

section
variable {s : State} {n : Nat} (hr : s.runs = true)
include hr

theorem exec_stnPcCfgWrite_reached (id i v : Nat) (hw : s.windowOpen = true) (hp : s.passes id .operator = true)
    (hpop : s.populated n = true) (hreach : s.unreachable n = false) (hev : eventReserved (v % 256) = false) :
    exec (.stnPcCfgWrite id n i v) s = .next (configureCounter 0 n i (v % 2 ^ 32) (v >>> 32 % 2 ^ 16) id none s).2 := by
  rw [exec_stnPcCfgWrite, execStnPcCfgWrite, State.act_runs _ _ hr, State.gate_pass _ _ _ _ _ hw hp, if_neg (by simp [hpop, hev])]
  extract_lets t
  have ht : t = s := if_neg (by simp [hreach])
  rw [ht, ok]

section
variable (m : DownMsg) (rest : List DownMsg) (hin : (s.stn n).inbox = m :: rest) (hd : s.delivers n = true) (hk : m.kind = 5)
include hin hd hk

/-- A configuration waits at its station for its frame. -/
theorem exec_stationCtrConfig_front (hsub : m.head % 16 = 0) :
    ∃ t : State, exec (.stationCtrConfig n) s = .next t ∧ t.regs = s.regs ∧ (t.stn n).cfgPend =
      (s.stn n).cfgPend ++ [(m.words.getD 0 0, m.words.getD 1 0 % 16, m.words.getD 2 0, m.words.getD 3 0, b2n m.copy)] := by
  rw [exec_stationCtrConfig, execStationCtrConfig, State.act_runs _ _ hr]
  simp only [takeInbox_cons n 5 (fun m => m.head % 16 == 0) s m rest hin hd hk (by simp [hsub])]
  refine ⟨_, rfl, rfl, ?_⟩
  rw [stn_modStn, if_pos rfl, stn_setStn, if_pos rfl]

theorem exec_stationCtrRead_front (hsub : m.head % 16 = 1) : exec (.stationCtrRead n) s =
    .next (addSample n (m.words.getD 0 0) 1 (bitsOf m.head 4 8) (m.words.getD 1 0) (setStn n { s.stn n with inbox := rest } s)) := by
  rw [exec_stationCtrRead, execStationCtrRead, State.act_runs _ _ hr]
  simp only [takeInbox_cons n 5 (fun m => m.head % 16 == 1) s m rest hin hd hk (by simp [hsub])]
  rfl

theorem exec_stationCtrKeys_front (hsub : m.head % 16 = 2) :
    ∃ t : State, exec (.stationCtrKeys n) s = .next t ∧ t.regs = s.regs ∧ (t.stn n).keys =
      ((List.range (m.words.length / 2)).map (fun k => (m.words.getD (2 * k) 0, m.words.getD (2 * k + 1) 0))).take 64 := by
  rw [exec_stationCtrKeys, execStationCtrKeys, State.act_runs _ _ hr]
  simp only [takeInbox_cons n 5 (fun m => m.head % 16 == 2) s m rest hin hd hk (by simp [hsub])]
  refine ⟨_, rfl, rfl, ?_⟩
  rw [stn_modStn, if_pos rfl]

theorem exec_stationAttrDump_front (hsub : m.head % 16 = 3) : exec (.stationAttrDump n) s =
    .next (addSample n (m.words.getD 0 0) 3 (bitsOf m.head 4 8) (m.words.getD 1 0) (setStn n { s.stn n with inbox := rest } s)) := by
  rw [exec_stationAttrDump, execStationAttrDump, State.act_runs _ _ hr]
  simp only [takeInbox_cons n 5 (fun m => m.head % 16 == 3) s m rest hin hd hk (by simp [hsub])]
  rfl

end

theorem exec_counterConfigApply_due (f i v w : Nat) (copy : Bool) (hp : (s.stn n).cfgPend = [(f, i, v, w, b2n copy)])
    (hf : s.sampleDue f = true) :
    exec (.counterConfigApply n) s = .next (applyCfg n i v w copy (modStn n (fun x => { x with cfgPend := [] }) s)) := by
  have hcopy : (b2n copy == 1) = copy := by cases copy <;> rfl
  rw [exec_counterConfigApply, execCounterConfigApply, State.act_runs _ _ hr]
  simp [hp, hf, modStn, hcopy, ok]

/-- The only sample of a station, due now: what `counterSample` does with it, by its kind. -/
theorem exec_counterSample_due (f : Nat) (c : List Nat) (hp : (s.stn n).samples = [(f, c)]) (hf : s.sampleDue f = true) :
    let u : State := modStn n (fun x => { x with samples := [] }) s
    exec (.counterSample n) s = .next (if c.getD 0 0 = 1 then
        (counterMessages n (c.getD 1 0) (c.getD 2 0) u).foldl (fun s m => offerMsg n m s) (noteCutSample n (c.getD 1 0) u)
      else
        (let v : State := (attribMessages n (c.getD 1 0) u).foldl (fun s m => offerMsg n m s) u
         if bitOf (c.getD 2 0) 0 then attrClear n v else v)) := by
  rw [exec_counterSample, execCounterSample, State.act_runs _ _ hr]
  simp only [hp, modStn, List.filter_cons, hf, List.filter_nil, Bool.not_true]
  rfl

end

/-- A wrap is about to be announced: its code leaves the list, and its counter shows it no longer (R176). -/
def wrapNoted (n c : Nat) (s : State) : State :=
  let t := setStn n { s.stn n with wrapCtr := removeFirst (fun d => d == c) (s.stn n).wrapCtr } s
  let hi := if bitsOf c 6 2 = 0 then R.STN_AO_HI n (bitsOf c 16 4) (c % 64 % 8) else R.STN_PC_HI n (c % 64 % 16)
  if bitsOf c 6 2 ≤ 1 then t.wrN hi (setBit (t.rdN hi) 17 false) else t

theorem wrapNoted_stn (n c : Nat) (s : State) :
    (wrapNoted n c s).stn n = { s.stn n with wrapCtr := removeFirst (fun d => d == c) (s.stn n).wrapCtr } := by
  have h := stn_setStn n n { s.stn n with wrapCtr := removeFirst (fun d => d == c) (s.stn n).wrapCtr } s
  unfold wrapNoted
  extract_lets x t hi
  split
  · exact h.trans (if_pos rfl)
  · exact h.trans (if_pos rfl)

theorem wrapNoted_pcHi (n c : Nat) (s : State) (hcls : bitsOf c 6 2 = 1) :
    (wrapNoted n c s).rd (R.STN_PC_HI n (c % 64 % 16)) = BitVec.ofNat 32 (setBit (s.rdN (R.STN_PC_HI n (c % 64 % 16))) 17 false) := by
  unfold wrapNoted
  extract_lets x t hi
  have hhi : hi = R.STN_PC_HI n (c % 64 % 16) := if_neg (by rw [hcls]; decide)
  rw [if_pos (Nat.le_of_eq hcls), hhi]
  exact State.rd_wrN_same _ _ _

section
variable {s : State} {n : Nat} (hr : s.runs = true)
include hr

/-- A wrap NOTE: the least code waiting leaves in the station's NOTICE slot. -/
theorem exec_counterWrapNoteSend_slot (c : Nat) (hs : s.stnSends n = true) (hslot : s.noticeSlot n = true)
    (ha : (s.stn n).announce = []) (hc : leastCode (s.stn n).wrapCtr = some c) :
    exec (.counterWrapNoteSend n) s = .next (sendNote n (c % 2 ^ 28 + 2 ^ 28) (wrapNoted n c s)) := by
  rw [exec_counterWrapNoteSend, execCounterWrapNoteSend, State.act_runs _ _ hr]
  extract_lets x
  rw [if_neg (by simp [x, hs, hslot, ha])]
  simp only [x, hc]
  rfl

theorem exec_counterWrapNoteArrival_always (w : Nat) (ws : List Nat) (hair : (s.stn n).noteAir = w :: ws) (hk : bitsOf w 28 4 = 1)
    (hen : s.fb F.CTR_CTL_WRAP_EN = true) (hcls : bitsOf w 6 2 = 0) :
    exec (.counterWrapNoteArrival n) s = .next (postEvent (s.fg F.CTR_CTL_WRAP_RING)
      ⟨10, n + 2 ^ 16 * (w % 65536), s.ts, bitsOf w 16 4 + 2 ^ 8 * bitsOf w 20 8, none⟩ (setStn n { s.stn n with noteAir := ws } s)) := by
  rw [exec_counterWrapNoteArrival, execCounterWrapNoteArrival, State.act_runs _ _ hr]
  simp only [takeNote_cons n 1 s w ws hair hk, hcls]
  have hen' : (setStn n { s.stn n with noteAir := ws } s).fb F.CTR_CTL_WRAP_EN = true := hen
  rw [if_neg (by simp [hen'])]
  rfl

theorem exec_counterArrivals_front (up : UpMsg) (ups : List UpMsg) (hair : (s.stn n).air = up :: ups) :
    (up.kind = 3 → exec (.counterMessageArrival n) s =
      .next (lehrRun (settleReads (takeCounterMessage n up (expireReads (setStn n { s.stn n with air := ups } s)))))) ∧
    (up.kind = 6 → exec (.attribMessageArrival n) s =
      .next (lehrRun (settleReads (takeAttribMessage n up (expireReads (setStn n { s.stn n with air := ups } s)))))) := by
  refine ⟨fun hk => ?_, fun hk => ?_⟩
  · rw [exec_counterMessageArrival, execCounterMessageArrival, State.act_runs _ _ hr]
    simp only [takeAir_cons n 3 s up ups hair hk]
    rfl
  · rw [exec_attribMessageArrival, execAttribMessageArrival, State.act_runs _ _ hr]
    simp only [takeAir_cons n 6 s up ups hair hk]
    rfl

end

/-- Settles O30: the registers through the gate, the station's messages at the front of its inbox, the hub's at the front of the air. -/
theorem counterNetwork : Obligations.CounterNetwork := by
  unfold Obligations.CounterNetwork
  intro s id n i v f w c m rest up ups copy ws hr
  refine ⟨fun hw hp => ⟨exec_stnPcCfgWrite_reached hr id i v hw hp, ?ctl, ?ctx⟩, fun hin hd hk => ?messages,
    fun hp hf => ⟨_, exec_counterConfigApply_due hr f i v w copy hp hf, rfl⟩, fun hp hf => exec_counterSample_due hr f [1, i, w] hp hf,
    fun hp hf => exec_counterSample_due hr f [3, i, w] hp hf, fun hs hslot ha hc => ⟨_, exec_counterWrapNoteSend_slot hr c hs hslot ha hc, ?noteAir, ?wrapCtr, wrapNoted_pcHi n c s⟩,
    exec_counterWrapNoteArrival_always hr w ws, exec_counterArrivals_front hr up ups, ?timeout⟩
  case ctl => rw [exec_ctrCtlWrite, execCtrCtlWrite, State.act_runs _ _ hr, State.gate_pass _ _ _ _ _ hw hp, ok, ctrCtlWrite]
  case ctx => rw [exec_attrCtxEnWrite, execAttrCtxEnWrite, State.act_runs _ _ hr, State.gate_pass _ _ _ _ _ hw hp, ok, attrCtxWrite]
  case noteAir => rw [sendNote, stn_modStn, if_pos rfl, wrapNoted_stn]
  case wrapCtr => rw [sendNote, stn_modStn, if_pos rfl, wrapNoted_stn]
  case messages =>
    exact ⟨exec_stationCtrConfig_front hr m rest hin hd hk, exec_stationCtrRead_front hr m rest hin hd hk,
      exec_stationCtrKeys_front hr m rest hin hd hk, exec_stationAttrDump_front hr m rest hin hd hk⟩
  case timeout => rw [exec_counterReadTimeout, execCounterReadTimeout, State.act_runs _ _ hr, expireReads, ok]

end Sys2Proof.Machine
end

section
/-! PROOFS. Registers of the trace unit (O31). -/

namespace Sys2Proof.Machine

/-- A master of the operator class takes the ring and acts as its owner. -/
theorem trcGate_operator (id a : Nat) (f : Bool → State → State) (s : State) (hw : s.windowOpen = true) (hc : 2 ≤ s.classOf id) :
    trcGate id a f s = f false (takeRing id (s.classOf id) s) := by
  unfold trcGate
  rw [if_neg (by simp [hw])]
  exact if_pos hc

/-- A change of the capture state touches nothing but the capture, its number and its frame. -/
theorem setCapture_fields (run : Bool) (s : State) : (setCapture run s).regs = s.regs ∧ (setCapture run s).trace.capture = run ∧
    (setCapture run s).trace.window = s.trace.window ∧ (setCapture run s).trace.events = s.trace.events := by
  unfold setCapture
  split
  · next h => exact ⟨rfl, by simpa using h, rfl, rfl⟩
  · exact ⟨rfl, rfl, rfl, rfl⟩

theorem freezeRing_fields (s : State) : (freezeRing false s).fb F.TRC_STAT_FROZEN = true ∧ (freezeRing false s).trace.window = none ∧
    (freezeRing false s).trace.capture = false ∧ ∀ a, a ≠ R.TRC_STAT → (freezeRing false s).rd a = s.rd a := by
  obtain ⟨hregs, hcap, hwin, -⟩ := setCapture_fields false (modTrc (fun t => { t with window := none }) (s.fs F.TRC_STAT_FROZEN 1))
  have hrd : ∀ a, (freezeRing false s).rd a = (s.fs F.TRC_STAT_FROZEN 1).rd a := State.rd_congr _ _ hregs
  refine ⟨?_, hwin, hcap, fun a ha => (hrd a).trans (State.rd_fs_other _ _ _ _ ha)⟩
  rw [State.fb, State.fg_congr _ _ _ (hrd _)]
  exact State.fb_fs_same s F.TRC_STAT_FROZEN 1 (by decide) rfl

/-- The ring after a clear, before its two sources are told to start with a SYNC. -/
def ringCleared (s : State) : State :=
  showTrcPtrs (modTrc (fun t => { t with blocks := [], bseq := 0, drained := 0, lost := [], wqLost := [], window := none })
    (((((s.fs F.TRC_STAT_FROZEN 0).fs F.TRC_STAT_TRIGGERED 0).fs F.TRC_STAT_FULL 0).fs F.TRC_STAT_RD_OVERRUN 0).wrN R.TRC_WR 0))

theorem clearRing_stopped (s : State) (h : s.fb F.TRC_STAT_RUN = false) :
    clearRing s = centralSync srcStim 7 (centralSync srcWriter 7 (ringCleared s)) := by
  unfold clearRing
  exact if_neg (by simp [h])

theorem ringCleared_rd (s : State) (a : Nat) (h1 : a ≠ R.TRC_OLD) (h2 : a ≠ R.TRC_RD) : (ringCleared s).rd a =
    (((((s.fs F.TRC_STAT_FROZEN 0).fs F.TRC_STAT_TRIGGERED 0).fs F.TRC_STAT_FULL 0).fs F.TRC_STAT_RD_OVERRUN 0).wrN R.TRC_WR 0).rd a := by
  unfold ringCleared showTrcPtrs
  extract_lets wr pos
  rw [State.rd_wrN_other _ _ _ _ h2, State.rd_wrN_other _ _ _ _ h1]
  rfl

theorem ringCleared_fields (s : State) : (ringCleared s).fb F.TRC_STAT_FROZEN = false ∧ (ringCleared s).fb F.TRC_STAT_TRIGGERED = false ∧
    (ringCleared s).fb F.TRC_STAT_FULL = false ∧ (ringCleared s).fb F.TRC_STAT_RD_OVERRUN = false ∧ (ringCleared s).rd R.TRC_WR = 0 ∧
    (ringCleared s).trace = { s.trace with blocks := [], bseq := 0, drained := 0, lost := [], wqLost := [], window := none } := by
  have hfb : ∀ g : Fld, g.addr = R.TRC_STAT → (ringCleared s).fb g =
      ((((s.fs F.TRC_STAT_FROZEN 0).fs F.TRC_STAT_TRIGGERED 0).fs F.TRC_STAT_FULL 0).fs F.TRC_STAT_RD_OVERRUN 0).fb g := fun g hg => by
    rw [State.fb, State.fb, State.fg_congr _ (ringCleared s) g ((ringCleared_rd s _ (by rw [hg]; decide) (by rw [hg]; decide)).trans
      (State.rd_wrN_other _ _ _ _ (by rw [hg]; decide)))]
  refine ⟨?_, ?_, ?_, ?_, ?_, rfl⟩
  · rw [hfb _ rfl, State.fb_fs_disjoint _ _ _ _ (by decide) (by decide), State.fb_fs_disjoint _ _ _ _ (by decide) (by decide),
      State.fb_fs_disjoint _ _ _ _ (by decide) (by decide), State.fb_fs_same _ _ _ (by decide) rfl]
    rfl
  · rw [hfb _ rfl, State.fb_fs_disjoint _ _ _ _ (by decide) (by decide), State.fb_fs_disjoint _ _ _ _ (by decide) (by decide),
      State.fb_fs_same _ _ _ (by decide) rfl]
    rfl
  · rw [hfb _ rfl, State.fb_fs_disjoint _ _ _ _ (by decide) (by decide), State.fb_fs_same _ _ _ (by decide) rfl]
    rfl
  · rw [hfb _ rfl, State.fb_fs_same _ _ _ (by decide) rfl]
    rfl
  · rw [ringCleared_rd s _ (by decide) (by decide), State.rd_wrN_same]
    rfl

/-- The registers of an armed sequencer, before AUTO_START. -/
def seqArmed (s : State) : State :=
  ((((s.fs F.SEQ_CTL_ARM 1).fs F.SEQ_STAT_STATE 0).fs F.SEQ_STAT_ARMED 1).fs F.SEQ_STAT_EVENTS 0).wr R.SEQ_COUNT 0

theorem seqArmed_fields (s : State) : (seqArmed s).fb F.SEQ_CTL_ARM = true ∧ (seqArmed s).fb F.SEQ_STAT_ARMED = true ∧
    (seqArmed s).fg F.SEQ_STAT_STATE = 0 ∧ (seqArmed s).fg F.SEQ_STAT_EVENTS = 0 ∧ (seqArmed s).rd R.SEQ_COUNT = 0 ∧
    (seqArmed s).fb F.SEQ_CTL_AUTO_START = s.fb F.SEQ_CTL_AUTO_START := by
  unfold seqArmed
  refine ⟨?_, ?_, ?_, ?_, State.rd_wr_same _ _ _, ?_⟩
  · rw [State.fb, State.fg_wr_other _ _ _ _ (by decide), State.fg_fs_other _ _ _ _ (by decide), State.fg_fs_other _ _ _ _ (by decide),
      State.fg_fs_other _ _ _ _ (by decide)]
    exact State.fb_fs_same s F.SEQ_CTL_ARM 1 (by decide) rfl
  · rw [State.fb, State.fg_wr_other _ _ _ _ (by decide), State.fg_fs_disjoint _ _ _ _ (by decide) (by decide)]
    exact State.fb_fs_same _ F.SEQ_STAT_ARMED 1 (by decide) rfl
  · rw [State.fg_wr_other _ _ _ _ (by decide), State.fg_fs_disjoint _ _ _ _ (by decide) (by decide),
      State.fg_fs_disjoint _ _ _ _ (by decide) (by decide)]
    exact State.fg_fs_same _ _ _ (by decide)
  · rw [State.fg_wr_other _ _ _ _ (by decide)]
    exact State.fg_fs_same _ _ _ (by decide)
  · rw [State.fb, State.fg_wr_other _ _ _ _ (by decide), State.fg_fs_other _ _ _ _ (by decide), State.fg_fs_other _ _ _ _ (by decide),
      State.fg_fs_other _ _ _ _ (by decide), State.fg_fs_disjoint _ _ _ _ (by decide) (by decide), ← State.fb]

theorem armSeq_fields (s : State) : (armSeq s).regs = (seqArmed s).regs ∧ (armSeq s).trace.events = [] ∧
    (s.fb F.SEQ_CTL_AUTO_START = true → (armSeq s).trace.capture = true) := by
  obtain ⟨-, -, -, -, -, hauto⟩ := seqArmed_fields s
  obtain ⟨hregs, hcap, -, hev⟩ := setCapture_fields true (modTrc (fun t => { t with events := [], timeFired := 0 }) (seqArmed s))
  have hif : armSeq s = if s.fb F.SEQ_CTL_AUTO_START then setCapture true (modTrc (fun t => { t with events := [], timeFired := 0 }) (seqArmed s))
      else modTrc (fun t => { t with events := [], timeFired := 0 }) (seqArmed s) := by
    rw [← hauto]
    rfl
  rw [hif]
  split
  · exact ⟨hregs, hev, fun _ => hcap⟩
  · next h => exact ⟨rfl, rfl, fun k => absurd k h⟩

theorem disarmSeq_fields (s : State) : (disarmSeq s).fb F.SEQ_CTL_ARM = false ∧ (disarmSeq s).fb F.SEQ_STAT_ARMED = false ∧
    (disarmSeq s).trace.events = [] ∧ (disarmSeq s).trace.capture = false := by
  obtain ⟨-, hcap, -⟩ := setCapture_fields false s
  refine ⟨?_, State.fb_fs_same _ F.SEQ_STAT_ARMED 0 (by decide) rfl, rfl, hcap⟩
  exact (State.fb_fs_other _ F.SEQ_STAT_ARMED F.SEQ_CTL_ARM _ (by decide)).trans (State.fb_fs_same _ F.SEQ_CTL_ARM 0 (by decide) rfl)

/-- Settles O31: every write is the register's function on the state in which the writer owns the ring. -/
theorem traceRegisters : Obligations.TraceRegisters := by
  unfold Obligations.TraceRegisters
  intro s id v p c w i hr hw hc u
  have gate : ∀ a f, trcGate id a f s = f false u := fun a f => trcGate_operator id a f s hw hc
  refine ⟨fun h14 h15 => ?ctl, ⟨freezeRing false u, ?freeze, freezeRing_fields u⟩, fun hrun => ⟨ringCleared u, ?clear⟩, fun h4 => ?port,
    fun hw4 => ?cmp, ?ctx, fun h40 hlo => ?ll, fun hi => ?rd, ⟨armSeq u, ?arm, ?armed⟩, ⟨disarmSeq u, ?disarm, disarmSeq_fields u⟩⟩
  case ctl =>
    rw [exec_trcCtlWrite, execTrcCtlWrite, State.act_runs _ _ hr, gate, trcCtlWrite]
    simp [h14, h15, ok]
  case freeze => rw [exec_trcFreeze, execTrcFreeze, State.act_runs _ _ hr, gate, if_neg (by decide), ok]
  case clear =>
    obtain ⟨h1, h2, h3, h4, h5, h6⟩ := ringCleared_fields u
    refine ⟨h1, h2, h3, h4, h5, h6, ?_⟩
    rw [exec_trcClear, execTrcClear, State.act_runs _ _ hr, gate, if_neg (by decide), ok, clearRing_stopped u hrun]
  case port =>
    rw [exec_trcPortWrite, execTrcPortWrite, State.act_runs _ _ hr, gate, trcPortWrite]
    simp [h4, ok]
  case cmp =>
    rw [exec_trcCmpWrite, execTrcCmpWrite, State.act_runs _ _ hr, gate, trcCmpReg]
    extract_lets a
    rw [if_neg (by simp; omega), if_neg (by simp; omega), ok]
  case ctx =>
    rw [exec_trcCtxEnWrite, execTrcCtxEnWrite, State.act_runs _ _ hr, gate, trcCtxWrite, if_neg (by simp), ok]
  case ll =>
    rw [exec_trcLlWrite, execTrcLlWrite, State.act_runs _ _ hr, gate, trcLlWrite]
    rw [if_neg (by simp; omega), ok]
  case rd =>
    rw [exec_trcRdWrite, execTrcRdWrite, State.act_runs _ _ hr, gate, trcRdWrite]
    simp only [hi]
    rfl
  case arm => rw [exec_seqArm, execSeqArm, State.act_runs _ _ hr, gate, ok]
  case armed =>
    obtain ⟨h1, h2, h3, h4, h5, -⟩ := seqArmed_fields u
    obtain ⟨hregs, hev, hauto⟩ := armSeq_fields u
    have hrd : ∀ a, (armSeq u).rd a = (seqArmed u).rd a := State.rd_congr _ _ hregs
    have hfg : ∀ g : Fld, (armSeq u).fg g = (seqArmed u).fg g := fun g => State.fg_congr _ _ g (hrd _)
    have hfb : ∀ g : Fld, (armSeq u).fb g = (seqArmed u).fb g := fun g => by rw [State.fb, State.fb, hfg]
    exact ⟨(hfb _).trans h1, (hfb _).trans h2, (hfg _).trans h3, (hfg _).trans h4, (hrd _).trans h5, hev, hauto⟩
  case disarm => rw [exec_seqDisarm, execSeqDisarm, State.act_runs _ _ hr, gate, ok]

end Sys2Proof.Machine
end

section
/-! PROOFS. The sequencer, the trace ring and the trace of a station (O32). -/

namespace Sys2Proof.Machine

section
variable {s : State} {n : Nat} (hr : s.runs = true)
include hr

/-- An armed sequencer counts its first event, and the first rule of its state that matches acts. -/
theorem exec_sequencerEvent_armed (e : SeqEvent) (es : List SeqEvent) (he : s.trace.events = e :: es) (ha : s.fb F.SEQ_STAT_ARMED = true) :
    let u : State := (modTrc (fun t => { t with events := es }) s).fsat F.SEQ_STAT_EVENTS 1
    let st := u.fg F.SEQ_STAT_STATE
    exec .sequencerEvent s = .next (if u.ruleMatches st 0 e then ruleActions st 0 e u
      else if u.ruleMatches st 1 e then ruleActions st 1 e u else u) := by
  intro u st
  rw [exec_sequencerEvent, execSequencerEvent, State.act_runs _ _ hr]
  simp only [he]
  have ha' : (modTrc (fun t => { t with events := es }) s).fb F.SEQ_STAT_ARMED = true := ha
  rw [if_neg (by simp [ha'])]
  exact next_ite rfl (next_ite rfl rfl)

theorem exec_timeComparatorMatch_armed (ha : s.fb F.SEQ_STAT_ARMED = true) :
    exec .timeComparatorMatch s = .next ((List.range 8).foldl (fun s c => fireTime c s) s) := by
  rw [exec_timeComparatorMatch, execTimeComparatorMatch, State.act_runs _ _ hr, if_neg (by simp [ha]), ok]

omit hr in
/-- A TIME comparator whose value has come fires once. -/
theorem fireTime_due (c : Nat) (ha : s.fb F.SEQ_STAT_ARMED = true) (hsrc : s.fg (F.TRC_CMP_CTL_SRC c) = 7)
    (hf : bitOf s.trace.timeFired c = false) (hv : cmpVal (s.cmpWords c) ≤ s.ts) :
    (fireTime c s).trace.events = s.trace.events ++ [{ cmp := c, central := true }] ∧ bitOf (fireTime c s).trace.timeFired c = true := by
  have ha' : (modTrc (fun t => { t with timeFired := setBit t.timeFired c true }) s).fb F.SEQ_STAT_ARMED = true := ha
  unfold fireTime
  rw [if_pos (by simp [hsrc, hf, hv]), pushSeq, if_pos ha']
  exact ⟨rfl, (bitOf_setBit _ _ _ _).trans (if_pos rfl)⟩

theorem exec_triggerNoteSend_slot (hs : s.stnSends n = true) (hslot : s.noticeSlot n = true) (ha : (s.stn n).announce = [])
    (hwr : (s.stn n).wrapCtr = []) (hh : (s.stn n).trace.hits ≠ 0) :
    exec (.triggerNoteSend n) s = .next (sendNote n (noteWord 2 ((s.stn n).trace.hits + 2 ^ 8 * (s.stn n).trace.hitN) (s.stn n).trace.hitPort (s.stn n).trace.hitCtx)
      (setStn n { s.stn n with trace := { (s.stn n).trace with hits := 0, hitN := 0, hitPort := 0, hitCtx := 0 } } s)) := by
  rw [exec_triggerNoteSend, execTriggerNoteSend, State.act_runs _ _ hr]
  exact if_neg (by simp [hs, hslot, ha, hwr, hh])

omit hr in
/-- Events taken by an armed sequencer line up behind those that wait. -/
theorem pushSeqs_armed (l : List Nat) (ev : Nat → SeqEvent) (s : State) (ha : s.fb F.SEQ_STAT_ARMED = true) :
    (l.foldl (fun s c => pushSeq (ev c) s) s).regs = s.regs ∧
      (l.foldl (fun s c => pushSeq (ev c) s) s).trace.events = s.trace.events ++ l.map ev := by
  induction l generalizing s with
  | nil => simp
  | cons c l ih =>
    have hp : pushSeq (ev c) s = { s with trace := { s.trace with events := s.trace.events ++ [ev c] } } := if_pos ha
    rw [List.foldl_cons, hp]
    obtain ⟨h1, h2⟩ := ih { s with trace := { s.trace with events := s.trace.events ++ [ev c] } } ha
    refine ⟨h1, h2.trans ?_⟩
    rw [List.map_cons, List.append_assoc, List.singleton_append]

theorem exec_triggerNoteArrival_armed (w : Nat) (ws : List Nat) (hair : (s.stn n).noteAir = w :: ws) (hk : bitsOf w 28 4 = 2)
    (ha : s.fb F.SEQ_STAT_ARMED = true) :
    ∃ t : State, exec (.triggerNoteArrival n) s = .next t ∧ t.regs = s.regs ∧ t.trace.events = s.trace.events ++
      (bitsSet 8 w).map (fun c => { cmp := c, central := false, stn := n, port := bitsOf w 16 4, ctx := bitsOf w 20 8 }) := by
  rw [exec_triggerNoteArrival, execTriggerNoteArrival, State.act_runs _ _ hr]
  simp only [takeNote_cons n 2 s w ws hair hk]
  exact ⟨_, rfl, pushSeqs_armed (bitsSet 8 w) (fun c => { cmp := c, central := false, stn := n, port := bitsOf w 16 4, ctx := bitsOf w 20 8 })
    (setStn n { s.stn n with noteAir := ws } s) ha⟩

/-- A trace message enters the ring, waits in its queue, or is lost, as the ring and the queue stand. -/
theorem exec_traceMessageArrival_front (up : UpMsg) (ups : List UpMsg) (hair : (s.stn n).air = up :: ups) (hk : up.kind = 0) :
    let u : State := setStn n { s.stn n with air := ups } s
    exec (.traceMessageArrival n) s = .next (if s.ringHeld || !s.trace.wq.isEmpty then
        (if s.wqBytes + 64 * blockLines (traceBytes up).length ≤ 16384 then
          modTrc (fun t => { t with wq := t.wq ++ [(n, up, mget? t.wqLost n)], wqLost := mdel t.wqLost n }) u
         else loseQueued n u)
      else writeStationBlock s.ts n up (bringLoss n (mget? s.trace.wqLost n) (modTrc (fun t => { t with wqLost := mdel t.wqLost n }) u))) := by
  intro u
  rw [exec_traceMessageArrival, execTraceMessageArrival, State.act_runs _ _ hr]
  simp only [takeAir_cons n 0 s up ups hair hk]
  exact next_ite (next_ite rfl rfl) rfl

theorem exec_traceMessageFlush_due (ho : (s.stn n).trace.openBytes ≠ [])
    (hc : (s.stn n).trace.openCyc + 512 * max 1 (s.stn n).trace.flush ≤ s.spineCyc) :
    exec (.traceMessageFlush n) s = .next (closeTrace n s) := by
  rw [exec_traceMessageFlush, execTraceMessageFlush, State.act_runs _ _ hr]
  exact if_pos (by simp [ho]; omega)

end

/-- A capture state is in force at a station. -/
def captureSet (n : Nat) (run : Bool) (act : Nat) (s : State) : State :=
  (modStn n (fun x => { x with trace := { x.trace with run := run, actId := act } })
    (modStn n (fun x => { x with trace := { x.trace with actNext := [] } }) s)).fs (F.STN_TRC_STAT_RUN n) (b2n run)

theorem captureSet_stn (n : Nat) (run : Bool) (act : Nat) (s : State) :
    (captureSet n run act s).stn n = { s.stn n with trace := { (s.stn n).trace with run := run, actId := act, actNext := [] } } := by
  refine ((stn_modStn n n (fun x => { x with trace := { x.trace with run := run, actId := act } }) _).trans (if_pos rfl)).trans ?_
  rw [stn_modStn, if_pos rfl]

theorem captureSet_fb (n : Nat) (run : Bool) (act : Nat) (s : State) : (captureSet n run act s).fb (F.STN_TRC_STAT_RUN n) = run := by
  unfold captureSet
  rw [State.fb_fs_same _ _ _ (by simp) rfl]
  cases run <;> rfl

section
variable {s : State} {n : Nat} (hr : s.runs = true)
include hr

/-- The only capture state waiting at a station, at its frame. -/
theorem exec_captureStateApply_due (run : Bool) (act f : Nat) (hn : (s.stn n).trace.actNext = [(run, act, f)]) (hf : s.frameDue f = true) :
    let u : State := captureSet n run act s
    exec (.captureStateApply n) s = .next (if run then
        (if (s.stn n).trace.run then u else (List.range 16).foldl (fun s p => startPort n p s) (syncStn n 0 u))
      else
        (let v : State := closeTrace n u
         if v.fb (F.STN_TRC_STAT_HOLD n) then releaseHold n v else v)) := by
  intro u
  have hwas : ((modStn n (fun x => { x with trace := { x.trace with actNext := [] } }) s).stn n).trace.run = (s.stn n).trace.run := by
    rw [stn_modStn, if_pos rfl]
  have hexec : exec (.captureStateApply n) s =
      .next (applyAction n run act (modStn n (fun x => { x with trace := { x.trace with actNext := [] } }) s)) := by
    rw [exec_captureStateApply, execCaptureStateApply, State.act_runs _ _ hr]
    simp [hn, hf, modStn, ok]
  rw [hexec, applyAction, hwas]
  rfl

omit hr in
/-- A message for a station's trace waits for the next frame. -/
theorem pendTrace_front (m : DownMsg) (rest : List DownMsg) (sub : Nat) (hin : (s.stn n).inbox = m :: rest) (hd : s.delivers n = true)
    (hk : m.kind = 7) (hs : m.head % 16 = sub) :
    (pendTrace n sub s).regs = s.regs ∧ ((pendTrace n sub s).stn n).inbox = rest ∧
      ((pendTrace n sub s).stn n).trace = { (s.stn n).trace with cfgPend := (s.stn n).trace.cfgPend ++ [(s.frameNow + 1, sub, m.words)] } := by
  unfold pendTrace
  simp only [takeInbox_cons n 7 (fun m => m.head % 16 == sub) s m rest hin hd hk (by simp [hs])]
  rw [stn_modStn, if_pos rfl, stn_setStn, if_pos rfl]
  exact ⟨rfl, rfl, rfl⟩

theorem exec_stationTrace_front (m : DownMsg) (rest : List DownMsg) (hin : (s.stn n).inbox = m :: rest) (hd : s.delivers n = true)
    (hk : m.kind = 7) :
    ∀ c ∈ [(0, Sys2Proof.Instr.stationTracePorts n), (1, Sys2Proof.Instr.stationTraceCmp n), (2, Sys2Proof.Instr.stationTraceCtx n), (3, Sys2Proof.Instr.stationTraceParam n)],
      m.head % 16 = c.1 → ∃ t : State, exec c.2 s = .next t ∧ t.regs = s.regs ∧ (t.stn n).inbox = rest ∧
        (t.stn n).trace = { (s.stn n).trace with cfgPend := (s.stn n).trace.cfgPend ++ [(s.frameNow + 1, c.1, m.words)] } := by
  simp only [List.forall_mem_cons, List.not_mem_nil, false_implies, implies_true, and_true]
  refine ⟨fun h => ⟨pendTrace n 0 s, ?_, pendTrace_front m rest 0 hin hd hk h⟩, fun h => ⟨pendTrace n 1 s, ?_, pendTrace_front m rest 1 hin hd hk h⟩,
    fun h => ⟨pendTrace n 2 s, ?_, pendTrace_front m rest 2 hin hd hk h⟩, fun h => ⟨pendTrace n 3 s, ?_, pendTrace_front m rest 3 hin hd hk h⟩⟩
  · rw [exec_stationTracePorts, execStationTracePorts, State.act_runs _ _ hr, ok]
  · rw [exec_stationTraceCmp, execStationTraceCmp, State.act_runs _ _ hr, ok]
  · rw [exec_stationTraceCtx, execStationTraceCtx, State.act_runs _ _ hr, ok]
  · rw [exec_stationTraceParam, execStationTraceParam, State.act_runs _ _ hr, ok]

theorem exec_stationTraceResync_front (m : DownMsg) (rest : List DownMsg) (hin : (s.stn n).inbox = m :: rest) (hd : s.delivers n = true)
    (hk : m.kind = 7) (hs : m.head % 16 = 4) :
    exec (.stationTraceResync n) s = .next (syncStn n 3 (setStn n { s.stn n with inbox := rest } s)) := by
  rw [exec_stationTraceResync, execStationTraceResync, State.act_runs _ _ hr]
  simp only [takeInbox_cons n 7 (fun m => m.head % 16 == 4) s m rest hin hd hk (by simp [hs])]
  rfl

theorem exec_traceConfigApply_due (f act : Nat) (ws : List Nat) (hp : (s.stn n).trace.cfgPend = [(f, act, ws)]) (hf : s.frameDue f = true) :
    exec (.traceConfigApply n) s =
      .next (applyTrace n act ws (modStn n (fun x => { x with trace := { x.trace with cfgPend := [] } }) s)) := by
  rw [exec_traceConfigApply, execTraceConfigApply, State.act_runs _ _ hr]
  simp [hp, hf, modStn, ok]

end

/-- Settles O32: the sequencer, a trace message and a capture state by one equation with its branches, the rest clause by clause. -/
theorem traceFlow : Obligations.TraceFlow := by
  unfold Obligations.TraceFlow
  intro s n f act w m rest up ups e es ws run hr
  refine ⟨fun he ha => ?rules, fun ha => ⟨exec_timeComparatorMatch_armed hr ha, fireTime_due f ha⟩, exec_triggerNoteSend_slot hr,
    exec_triggerNoteArrival_armed hr w ws, ?batch, fun hair hk => ?message, exec_traceMessageFlush_due hr,
    fun hn hf => ⟨captureSet n run act s, captureSet_stn n run act s, captureSet_fb n run act s, ?capture⟩,
    fun hin hd hk => ⟨exec_stationTrace_front hr m rest hin hd hk, exec_stationTraceResync_front hr m rest hin hd hk⟩,
    exec_traceConfigApply_due hr f act ws⟩
  case rules =>
    intro u st
    have h := exec_sequencerEvent_armed hr e es he ha
    exact ⟨fun h0 => h.trans (congrArg _ (if_pos h0)),
      fun h0 h1 => h.trans (congrArg _ ((if_neg (by simpa using h0)).trans (if_pos h1))),
      fun h0 h1 => h.trans (congrArg _ ((if_neg (by simpa using h0)).trans (if_neg (by simpa using h1))))⟩
  case batch => rw [exec_centralBatchWrite, execCentralBatchWrite, State.act_runs _ _ hr, ok]
  case message =>
    intro u
    have h := exec_traceMessageArrival_front hr up ups hair hk
    have busy : s.ringHeld = true ∨ s.trace.wq ≠ [] → (s.ringHeld || !s.trace.wq.isEmpty) = true := fun hb => by
      rcases hb with hb | hb <;> simp [hb]
    refine ⟨fun hh hq => h.trans (congrArg _ (if_neg (by simp [hh, hq]))), fun hb hle => h.trans ?_, fun hb hlt => h.trans ?_⟩
    · exact congrArg _ ((if_pos (busy hb)).trans (if_pos hle))
    · exact congrArg _ ((if_pos (busy hb)).trans (if_neg (by omega)))
  case capture =>
    have h := exec_captureStateApply_due hr run act f hn hf
    exact ⟨fun h1 h2 => h.trans (congrArg _ ((if_pos h1).trans (if_pos h2))), fun h1 => h.trans (congrArg _ (if_neg (by simp [h1]))),
      fun h1 h2 => h.trans (congrArg _ ((if_pos h1).trans (if_neg (by simp [h2]))))⟩

end Sys2Proof.Machine
end

section
/-! PROOFS. Budget rows, watchdogs, heartbeats, stimuli and epochs (O34). -/

namespace Sys2Proof.Machine

section
variable {s : State} {id u i per v n ctx row f off w : Nat} (hr : s.runs = true)
include hr

theorem exec_budgetRowApply_due (bs : List Nat) (hl : s.dl.rowLoads = [(row, ctx, bs, none, f)]) (hd : s.sampleDue f = true) :
    let t : State := modDl (fun d => { d with rowLoads := [] }) s
    exec .budgetRowApply s = .next (showRow row ctx bs (((t.members 3 0).filter t.reachable).foldl (fun s n => giveRow n ctx bs s) t)) := by
  intro t
  rw [exec_budgetRowApply, execBudgetRowApply, State.act_runs _ _ hr]
  simp [hl, hd, t, modDl, ok]

theorem exec_budgetWatchdogExpiry_due (k : Nat) (w : Watchdog) (hwd : (s.stn (u / 16)).wd = [(k, w)]) (hp : w.port = u % 16)
    (hrem : w.rem = none) (hd : w.d < s.stnTs (u / 16)) : exec (.budgetWatchdogExpiry u) s = .next (missWd (u / 16) k w s) := by
  rw [exec_budgetWatchdogExpiry, execBudgetWatchdogExpiry, State.act_runs _ _ hr]
  simp [expireWd, hwd, hp, hrem, hd, ok]

theorem exec_progressWatchdogExpiry_due (hpw : s.pwPeriod u = (i, per)) (hper : per ≠ 0) (hrun : (s.port u).pwRun = true)
    (hheld : s.held u = false) (hd : (s.port u).pwFrom + per < s.stnTs (u / 16)) :
    let t : State := latchFault u 3 cProgressStall (s.port u).pwFrom (per % 2 ^ 32 + 2 ^ 32 * i) 0 s
    exec (.progressWatchdogExpiry u) s =
      .next (modPort u (fun p => { p with pwFrom := t.stnTs (u / 16), pwScale := t.pwFactor (u / 16) }) t) := by
  intro t
  rw [exec_progressWatchdogExpiry, execProgressWatchdogExpiry, State.act_runs _ _ hr, ok, expirePw]
  simp only [hpw]
  exact congrArg _ (if_neg (by simp [hper, hrun, hheld]; omega))

theorem exec_hbCtlWrite_on (hw : s.windowOpen = true) (hp : s.passes id .operator = true) (hper : s.fg (F.HB_PER_PERIOD n) ≠ 0)
    (hv : bitOf v 0 = true) : exec (.hbCtlWrite id n v) s = .next
      (beatHb n (modDl (fun d => { d with hbWriter := mput d.hbWriter n 0x3F }) (plainWrite (R.HB_CTL n) (BitVec.ofNat 32 v) s))) := by
  rw [exec_hbCtlWrite, execHbCtlWrite, State.act_runs _ _ hr, State.gate_pass _ _ _ _ _ hw hp, ok, hbCtlWrite, if_neg hper, if_pos hv]

theorem exec_hbCtlWrite_off (hw : s.windowOpen = true) (hp : s.passes id .operator = true) (hv : bitOf v 0 = false) :
    exec (.hbCtlWrite id n v) s = .next (modDl (fun d => { d with hbArmed := d.hbArmed.filter (· != n) })
      (plainWrite (R.HB_CTL n) (BitVec.ofNat 32 (if s.fg (F.HB_PER_PERIOD n) = 0 then v / 2 * 2 else v)) s)) := by
  have hv' : bitOf (if s.fg (F.HB_PER_PERIOD n) = 0 then v / 2 * 2 else v) 0 = false := by
    split
    · simp [bitOf, bitsOf]
    · exact hv
  rw [exec_hbCtlWrite, execHbCtlWrite, State.act_runs _ _ hr, State.gate_pass _ _ _ _ _ hw hp, ok, hbCtlWrite,
    if_neg (by simp [hv'])]

theorem exec_stimWrite_open (hw : s.windowOpen = true) (hp : s.passes id .open_ = true) :
    exec (.stimWrite id n v) s = .next (stimPacket n id v (beatHb n
      ((modDl (fun d => { d with hbWriter := mput d.hbWriter n id }) (expireHb n s)).wrN (R.STIM n) v))) := by
  rw [exec_stimWrite, execStimWrite, State.act_runs _ _ hr, State.gate_pass _ _ _ _ _ hw hp, ok]
  rfl

omit hr in
theorem expireHb_early (h : s.past (s.rd64 (R.HB_LAST_LO n) (R.HB_LAST_HI n) +
    scaleBudget (mget s.dl.hbScale n 16) (s.fg (F.HB_PER_PERIOD n))) = false) : expireHb n s = s := by
  rw [expireHb]
  exact if_pos (by simp [h])

theorem exec_heartbeatWatchdogExpiry_due (ha : n ∈ s.dl.hbArmed) (hper : s.fg (F.HB_PER_PERIOD n) ≠ 0) (hen : s.fb (F.HB_CTL_EN n) = true)
    (hpast : s.past (s.rd64 (R.HB_LAST_LO n) (R.HB_LAST_HI n) +
      scaleBudget (mget s.dl.hbScale n 16) (s.fg (F.HB_PER_PERIOD n))) = true) :
    exec (.heartbeatWatchdogExpiry n) s = .next (centralFault cHeartbeatMiss (s.fg (F.HB_CTL_CTX n))
      (if s.fb (F.HB_CTL_UNIT_VALID n) then some (s.fg (F.HB_CTL_UNIT n)) else none) (s.rd64 (R.HB_LAST_LO n) (R.HB_LAST_HI n))
      (s.fg (F.HB_PER_PERIOD n) + 2 ^ 32 * n + 2 ^ 40 * mget s.dl.hbWriter n 0x3F) 0
      (modDl (fun d => { d with hbArmed := d.hbArmed.filter (· != n) }) s)) := by
  rw [exec_heartbeatWatchdogExpiry, execHeartbeatWatchdogExpiry, State.act_runs _ _ hr, ok, expireHb]
  exact congrArg _ (if_neg (by simp [ha, hper, hen, hpast]))

theorem exec_deadlinePageAccess_write (hw : s.windowOpen = true) (ho : off < 0x800) (ha : off % 4 = 0) (hp : s.passes id .operator = true)
    (hwr : dlPageWritable off = true) :
    exec (.deadlinePageAccess id off true v false) s = .next (winWrite id 1 (s.fg F.DL_STN_SEL_STN) off v s) := by
  rw [exec_deadlinePageAccess, execDeadlinePageAccess, State.act_runs _ _ hr, if_neg (by simp [hw, ha]; omega), if_pos rfl,
    State.gate_pass _ _ _ _ _ hw hp, dlPageWrite, if_pos hwr, ok]

theorem exec_deadlinePageAccess_read (hw : s.windowOpen = true) (ho : off < 0x800) (ha : off % 4 = 0) (hp : s.passes id .operator = true) :
    exec (.deadlinePageAccess id off false v false) s =
      .next (presentAnswer (pageRead id 1 (s.fg F.DL_STN_SEL_STN) off false (.master id) s)) := by
  rw [exec_deadlinePageAccess, execDeadlinePageAccess, State.act_runs _ _ hr, if_neg (by simp [hw, ha]; omega), if_neg (by simp),
    State.readGate, if_pos hp, dlPageRead, ok]

theorem exec_epochSetSend_first (hb : s.fb F.DL_STAT_EPOCH_BUSY = true) (hrun : s.spine.running = true) (h4 : 4 ≤ s.spineCyc % 512 / 16)
    (h15 : s.spineCyc % 512 / 16 ≤ 15) (h0 : s.dl.epochSent = 0) :
    exec .epochSetSend s = .next (sendNoteDown (s.dl.epochVal + 2 ^ 8 * s.dl.epochCtx + 2 ^ 28)
      (modDl (fun d => { d with epochSent := 1, epochFrame := some s.frameNow }) s)) := by
  rw [exec_epochSetSend, execEpochSetSend, State.act_runs _ _ hr]
  exact (if_neg (by simp [hb, hrun]; omega)).trans (if_pos h0)

theorem exec_epochSetSend_second (hb : s.fb F.DL_STAT_EPOCH_BUSY = true) (hrun : s.spine.running = true) (h4 : 4 ≤ s.spineCyc % 512 / 16)
    (h15 : s.spineCyc % 512 / 16 ≤ 15) (h1 : s.dl.epochSent = 1) (hf : s.dl.epochFrame = some (s.frameNow - 1)) (hpos : 0 < s.frameNow) :
    exec .epochSetSend s = .next (sendNoteDown (s.dl.epochVal + 2 ^ 8 * s.dl.epochCtx + 2 ^ 28 + 2 ^ 16)
      (modDl (fun d => { d with epochSent := 2 }) s)) := by
  rw [exec_epochSetSend, execEpochSetSend, State.act_runs _ _ hr]
  exact (if_neg (by simp [hb, hrun]; omega)).trans ((if_neg (by simp [h1])).trans (if_pos (by simp [h1, hf, hpos])))

/-- A station keeps the epoch change a NOTE brings, once. -/
theorem exec_stationEpochNote_front (ws : List Nat) (hin : (s.stn n).noteIn = w :: ws) (hk : bitsOf w 28 4 = 1) :
    ∃ t : State, exec (.stationEpochNote n) s = .next t ∧ t.regs = s.regs ∧ (t.stn n).noteIn = ws ∧
      (s.frameNow - bitsOf w 16 1 + 2, bitsOf w 8 8, w % 256) ∈ (t.stn n).epochPend ∧
      (∀ e ∈ (s.stn n).epochPend, e ∈ (t.stn n).epochPend) := by
  rw [exec_stationEpochNote, execStationEpochNote, State.act_runs _ _ hr]
  simp only [hin]
  rw [if_neg (by simp [hk])]
  refine ⟨_, rfl, rfl, ?_⟩
  rw [stn_setStn, if_pos rfl]
  refine ⟨rfl, ?_⟩
  by_cases hc : (s.stn n).epochPend.contains (s.frameNow - bitsOf w 16 1 + 2, bitsOf w 8 8, w % 256) = true
  · rw [if_pos hc]
    exact ⟨by simpa using hc, fun e he => he⟩
  · rw [if_neg hc]
    exact ⟨by simp, fun e he => List.mem_append_left _ he⟩

end

/-- Every station has applied the epoch changes that fall due. -/
def epochsApplied (s : State) : State :=
  (s.slot.stns.map (·.1)).foldl (fun s n =>
    ((s.stn n).epochPend.filter (fun e => s.frameDue e.1)).foldl (fun s e => stnSetEpoch n e.2.1 e.2.2 s)
      (modStn n (fun x => { x with epochPend := x.epochPend.filter (fun e => !s.frameDue e.1) }) s)) s

theorem exec_epochApply_end {s : State} {f : Nat} (hr : s.runs = true) (hf : (epochsApplied s).dl.epochFrame = some f)
    (hb : (epochsApplied s).fb F.DL_STAT_EPOCH_BUSY = true) (hd : (epochsApplied s).frameDue (f + 2) = true) :
    exec .epochApply s = .next (endEpoch (epochsApplied s)) := by
  rw [exec_epochApply, execEpochApply, State.act_runs _ _ hr]
  change (match (epochsApplied s).dl.epochFrame with
    | some f => if (epochsApplied s).fb F.DL_STAT_EPOCH_BUSY && (epochsApplied s).frameDue (f + 2) then ok (endEpoch (epochsApplied s)) else ok (epochsApplied s)
    | none => ok (epochsApplied s)) = _
  simp only [hf]
  exact if_pos (by simp [hb, hd])

/-- Settles O34: the lemmas above clause by clause; the change of an epoch at its frame is that of the state every station has applied it in. -/
theorem budgetsAndEpochs : Obligations.BudgetsAndEpochs := by
  unfold Obligations.BudgetsAndEpochs
  refine ⟨fun s id u i per v n ctx row f off bs k w hr => ?central, fun s n w f ws hr => ?epoch⟩
  case central =>
    exact ⟨exec_budgetRowApply_due hr bs, exec_budgetWatchdogExpiry_due hr k w, exec_progressWatchdogExpiry_due hr,
      fun hw => ⟨exec_hbCtlWrite_on hr hw, exec_hbCtlWrite_off hr hw, fun hp => ⟨exec_stimWrite_open hr hw hp, expireHb_early⟩⟩,
      exec_heartbeatWatchdogExpiry_due hr,
      fun hw ho ha hp => ⟨exec_deadlinePageAccess_write hr hw ho ha hp, exec_deadlinePageAccess_read hr hw ho ha hp⟩⟩
  case epoch =>
    exact ⟨fun hb hrun h4 h15 => ⟨exec_epochSetSend_first hr hb hrun h4 h15, exec_epochSetSend_second hr hb hrun h4 h15⟩,
      exec_stationEpochNote_front hr ws, exec_epochApply_end hr⟩

end Sys2Proof.Machine
end

section
/-! PROOFS. Fault records from a station to the log (O35). -/

namespace Sys2Proof.Machine

section
variable {s : State} {n w : Nat} (hr : s.runs = true)
include hr

theorem exec_faultLatchAck_front (m : DownMsg) (rest : List DownMsg) (hin : (s.stn n).inbox = m :: rest) (hd : s.delivers n = true)
    (hk : m.kind = 0) (hs : m.head % 2 ^ 12 = 512 + 2 ∨ m.head % 2 ^ 12 = 512 + 3) :
    exec (.faultLatchAck n) s =
      .next (ackLatches n (m.head % 512 == 3) (m.words.getD 0 0) (setStn n { s.stn n with inbox := rest } s)) := by
  rw [exec_faultLatchAck, execFaultLatchAck, State.act_runs _ _ hr]
  simp only [takeInbox_cons n 0 (fun m => m.head % 2 ^ 12 == 512 + 2 || m.head % 2 ^ 12 == 512 + 3) s m rest hin hd hk (by simpa using hs)]
  rfl

theorem exec_faultNoteSend_slot (ws : List Nat) (hs : s.stnSends n = true) (hslot : s.noticeSlot n = true) (ha : (s.stn n).announce = w :: ws) :
    exec (.faultNoteSend n) s = .next (releaseOvf n (sendNote n w (setStn n { s.stn n with announce := ws } s))) := by
  rw [exec_faultNoteSend, execFaultNoteSend, State.act_runs _ _ hr]
  simp only [ha]
  exact if_neg (by simp [hs, hslot])

/-- A fault NOTE whose record has not come first takes its actions and waits for the record. -/
theorem exec_faultNoteArrival_first (ws : List Nat) (hair : (s.stn n).noteAir = w :: ws) (hk : bitsOf w 28 4 = 0)
    (hno : ∀ q ∈ s.dl.logged, samePend n (w % 65536) (bitsOf w 16 4) q = false ∨ s.past (q.ts + s.fltWait) = true) :
    let u : State := setStn n { s.stn n with noteAir := ws } s
    let a : Nat × State := takeActions { code := w % 65536, unit := if w % 65536 = cShearSelftest then none else some (16 * n + bitsOf w 16 4), ctx := bitsOf w 20 8, ts := s.ts } 0xFFFFFFFF u
    exec (.faultNoteArrival n) s = .next (modDl (fun d => { d with
      pend := d.pend ++ [⟨n, w % 65536, bitsOf w 16 4, bitsOf w 20 8, a.2.ts, a.1⟩] }) a.2) := by
  intro u a
  have hnone : s.dl.logged.any (fun p => samePend n (w % 65536) (bitsOf w 16 4) p && !s.past (p.ts + s.fltWait)) = false := by
    rw [List.any_eq_false]
    intro q hq
    rcases hno q hq with h | h <;> simp [h]
  rw [exec_faultNoteArrival, execFaultNoteArrival, State.act_runs _ _ hr]
  simp only [takeNote_cons n 0 s w ws hair hk]
  refine Eq.trans (if_neg ?_) rfl
  exact Bool.eq_false_iff.1 hnone

end

theorem samePend_self (n code port ctx ts acts : Nat) : samePend n code port ⟨n, code, port, ctx, ts, acts⟩ = true := by
  simp [samePend]

/-- The place a fault record of station `n` has in the lists of pending, logged and closed entries. -/
def recKey (n : Nat) (r : FaultRec) : PendFault → Bool := samePend n r.code (match r.unit with | some u => u % 16 | none => 0)

section
variable {s : State} {n : Nat} (hr : s.runs = true) (up : UpMsg) (ups : List UpMsg) (p : PendFault)
  (hair : (s.stn n).air = up :: ups) (hk : up.kind = 2)
include hr hair hk

/-- A fault record's arrival: what was pending is logged; else a closed entry makes it late; else it takes its own actions. -/
theorem exec_faultMessageArrival_front :
    let u : State := setStn n { s.stn n with air := ups } s
    let r := FaultRec.ofBytes (bytesOfWords up.words)
    exec (.faultMessageArrival n) s = (match s.dl.pend.find? (recKey n r) with
      | some p => .next (logTaken r p.acts (modDl (fun d => { d with pend := removeFirst (recKey n r) d.pend }) u))
      | none =>
        if s.dl.closed.any (fun p => recKey n r p && !s.past (p.ts + s.fltWait)) then
          .next ((u.fsat F.FLT_DISC_LATE 1).fs F.DL_STAT_LATE 1)
        else
          let a := takeActions r (u.fg F.FLT_NEXT_FSEQ) u
          .next (logTaken r a.1 (modDl (fun d => { d with logged := d.logged ++ [⟨n, r.code, match r.unit with | some u => u % 16 | none => 0, r.ctx, a.2.ts, 0⟩] }) a.2))) := by
  intro u r
  rw [exec_faultMessageArrival, execFaultMessageArrival, State.act_runs _ _ hr]
  simp only [takeAir_cons n 2 s up ups hair hk]
  rfl

end

section
variable {s : State} {n : Nat} (hr : s.runs = true)
include hr

theorem exec_faultPendingTimeout_due (p : PendFault) (hp : s.dl.pend.find? (fun p => s.past (p.ts + s.fltWait)) = some p) :
    ∃ u : State, u.fb F.DL_STAT_LOST_DETAIL = true ∧ u.dl.pend = removeFirst (fun p => s.past (p.ts + s.fltWait)) s.dl.pend ∧
      u.dl.closed = s.dl.closed ++ [{ p with ts := s.ts }] ∧ exec .faultPendingTimeout s = .next
        (logTaken { code := p.code, unit := some (16 * p.stn + p.port), ctx := p.ctx, ts := p.ts, flags := flLostDetail + flTsApprox } p.acts u) := by
  rw [exec_faultPendingTimeout, execFaultPendingTimeout, State.act_runs _ _ hr]
  simp only [hp]
  exact ⟨_, State.fb_fs_same _ _ _ (by decide) rfl, rfl, rfl, rfl⟩

theorem exec_faultLoggedEntryExpiry_runs :
    ∃ t : State, exec .faultLoggedEntryExpiry s = .next t ∧ t.regs = s.regs ∧
      t.dl.logged = s.dl.logged.filter (fun p => !s.past (p.ts + s.fltWait)) ∧
      t.dl.closed = s.dl.closed.filter (fun p => !s.past (p.ts + s.fltWait)) := by
  rw [exec_faultLoggedEntryExpiry, execFaultLoggedEntryExpiry, State.act_runs _ _ hr, ok]
  exact ⟨_, rfl, rfl, rfl, rfl⟩

end

/-- Settles O35: the arrival of a record by one equation with its three branches, the rest by the lemmas above. -/
theorem faultFlow : Obligations.FaultFlow := by
  unfold Obligations.FaultFlow
  intro s n w m rest up ups ws p hr
  refine ⟨exec_faultLatchAck_front hr m rest, ?complete, exec_faultNoteSend_slot hr ws,
    fun hair hk hno => exec_faultNoteArrival_first hr ws hair hk hno, fun hair hk => ?record,
    exec_faultPendingTimeout_due hr p, exec_faultLoggedEntryExpiry_runs hr⟩
  case complete => rw [exec_faultRecordCompletion, execFaultRecordCompletion, State.act_runs _ _ hr, ok]
  case record =>
    intro u r key
    have h := exec_faultMessageArrival_front hr up ups hair hk
    have hlate : ∀ q ∈ s.dl.closed, key q = true → s.past (q.ts + s.fltWait) = false →
        s.dl.closed.any (fun p => key p && !s.past (p.ts + s.fltWait)) = true := fun q hq hkey hpast =>
      List.any_eq_true.2 ⟨q, hq, by simp [hkey, hpast]⟩
    refine ⟨fun hf => ?_, fun hf hc => ?_, fun hf hin hkey hpast => ?_⟩ <;>
      replace hf : s.dl.pend.find? (recKey n (FaultRec.ofBytes (bytesOfWords up.words))) = _ := hf
    · simp only [hf] at h
      exact h
    · simp only [hf] at h
      rw [if_neg (by simp [hc])] at h
      exact ⟨_, h, rfl, _, List.mem_append_right _ (List.mem_singleton_self _), samePend_self _ _ _ _ _ _⟩
    · simp only [hf] at h
      exact h.trans (if_pos (hlate p hin hkey hpast))

end Sys2Proof.Machine
end

section
/-! PROOFS. Stria slots and tiles over the network (O36). -/

namespace Sys2Proof.Machine

section
variable {s : State} {n : Nat} (hr : s.runs = true) (m : DownMsg) (rest : List DownMsg)
  (hin : (s.stn n).inbox = m :: rest) (hd : s.delivers n = true) (hk : m.kind = 6)
include hr hin hd hk

theorem exec_stationStriaSlot_front (h0 : m.head % 16 = 0) :
    ∃ t : State, exec (.stationStriaSlot n) s = .next t ∧ t.regs = s.regs ∧ (t.stn n).stria =
      { (s.stn n).stria with slotPend := (s.stn n).stria.slotPend ++ [(m.words.getD 0 0, bitsOf m.head 4 6 + 64 * b2n m.copy, m.words.drop 1)] } := by
  rw [exec_stationStriaSlot, execStationStriaSlot, State.act_runs _ _ hr]
  simp only [takeInbox_cons n 6 (fun m => m.head % 16 == 0) s m rest hin hd hk (by simp [h0])]
  refine ⟨_, rfl, rfl, ?_⟩
  rw [stn_modStn, if_pos rfl, stn_setStn, if_pos rfl]

theorem exec_stationStriaSettle_front (h1 : m.head % 16 = 1) :
    ∃ t : State, exec (.stationStriaSettle n) s = .next t ∧ t.regs = s.regs ∧ (t.stn n).stria =
      { (s.stn n).stria with settlePend := (s.stn n).stria.settlePend ++
        [(m.words.getD 0 0, m.words.getD 1 0 % 64, bitsOf (m.words.getD 2 0) 0 12, bitsOf (m.words.getD 2 0) 16 13, bitsOf m.head 4 8)] } := by
  rw [exec_stationStriaSettle, execStationStriaSettle, State.act_runs _ _ hr]
  simp only [takeInbox_cons n 6 (fun m => m.head % 16 == 1) s m rest hin hd hk (by simp [h1])]
  refine ⟨_, rfl, rfl, ?_⟩
  rw [stn_modStn, if_pos rfl, stn_setStn, if_pos rfl]

theorem exec_stationStriaRelease_front (h2 : m.head % 16 = 2) :
    exec (.stationStriaRelease n) s = .next
      (((s.stn n).stria.entries.filter (fun e => e.held == some (bitsOf m.head 4 8))).foldl (fun s e => returnHeld n e s)
        (modStn n (fun x => { x with stria := { x.stria with entries := x.stria.entries.filter (fun e => e.held != some (bitsOf m.head 4 8)) } })
          (setStn n { s.stn n with inbox := rest } s))) := by
  rw [exec_stationStriaRelease, execStationStriaRelease, State.act_runs _ _ hr]
  simp only [takeInbox_cons n 6 (fun m => m.head % 16 == 2) s m rest hin hd hk (by simp [h2]), stn_setStn, if_true]
  rfl

end

section
variable {s : State} {n : Nat} (hr : s.runs = true)
include hr

theorem exec_striaSlotApply_due {f i : Nat} {copy : Bool} (ws : List Nat) (hp : (s.stn n).stria.slotPend = [(f, i + 64 * b2n copy, ws)])
    (hi : i < 64) (hd : s.sampleDue f = true) :
    exec (.striaSlotApply n) s = .next (applySlot n i copy ws (modStn n (fun x => { x with stria := { x.stria with slotPend := [] } }) s)) := by
  have hslot : (i + 64 * b2n copy) % 64 = i := by omega
  have hcopy : decide (64 ≤ i + 64 * b2n copy) = copy := by cases copy <;> simp [b2n]; omega
  rw [exec_striaSlotApply, execStriaSlotApply, State.act_runs _ _ hr]
  simp [hp, hd, modStn, ok, hslot, hcopy]

theorem exec_striaSettle_due {f i c cnt rtag : Nat} (hp : (s.stn n).stria.settlePend = [(f, i, c, cnt, rtag)]) (hd : s.sampleDue f = true) :
    exec (.striaSettle n) s = .next (settleStn n f i c cnt rtag (modStn n (fun x => { x with stria := { x.stria with settlePend := [] } }) s)) := by
  rw [exec_striaSettle, execStriaSettle, State.act_runs _ _ hr]
  simp [hp, hd, modStn, ok]

theorem exec_striaFenceTimeout_due (r : StriaRead) (hrun : s.stria.running = some r) (hl : r.left ≠ []) (hp : s.past r.deadline = true) :
    exec .striaFenceTimeout s = .next (afterRead (fencesDone { r with left := [], lost := true } s)) := by
  rw [exec_striaFenceTimeout, execStriaFenceTimeout, State.act_runs _ _ hr]
  simp only [hrun]
  exact if_neg (by simp [hl, hp])

end

section
variable {s : State} {n : Nat} (hr : s.runs = true) (up : UpMsg) (ups : List UpMsg) (hair : (s.stn n).air = up :: ups) (hk : up.kind = 4)
include hr hair hk

/-- With no read running a tile is merged at once. -/
theorem exec_striaTileMessageArrival_idle (ht : bitOf up.head 6 = false) (hrun : s.stria.running = none) :
    exec (.striaTileMessageArrival n) s = .next (mergeTile up (setStn n { s.stn n with air := ups } s)) := by
  have hrun' : (setStn n { s.stn n with air := ups } s).stria.running = none := hrun
  rw [exec_striaTileMessageArrival, execStriaTileMessageArrival, State.act_runs _ _ hr]
  simp only [takeAir_cons n 4 s up ups hair hk, hrun']
  exact if_neg (by simp [ht])

/-- While a read runs, a tile of the slot it reads from a station past its fence is deferred, and any other is merged. -/
theorem exec_striaTileMessageArrival_reading (r : StriaRead) (ht : bitOf up.head 6 = false) (hrun : s.stria.running = some r)
    (hfit : r.deferBytes + up.bytes ≤ 65536) :
    let u : State := setStn n { s.stn n with air := ups } s
    exec (.striaTileMessageArrival n) s = .next (if r.slot == up.head % 64 && (mget? r.fences n).isSome then
      modStria (fun q => { q with running := some { r with deferred := r.deferred ++ [(n, up)] } }) u else mergeTile up u) := by
  intro u
  have hrun' : (setStn n { s.stn n with air := ups } s).stria.running = some r := hrun
  rw [exec_striaTileMessageArrival, execStriaTileMessageArrival, State.act_runs _ _ hr]
  simp only [takeAir_cons n 4 s up ups hair hk, hrun']
  exact (if_neg (by simp [ht])).trans (next_ite (if_pos hfit) rfl)

/-- While a read runs, a tile of another slot or from a station short of its fence is merged. -/
theorem exec_striaTileMessageArrival_other (r : StriaRead) (ht : bitOf up.head 6 = false) (hrun : s.stria.running = some r)
    (ho : r.slot ≠ up.head % 64 ∨ mget? r.fences n = none) :
    exec (.striaTileMessageArrival n) s = .next (mergeTile up (setStn n { s.stn n with air := ups } s)) := by
  have hrun' : (setStn n { s.stn n with air := ups } s).stria.running = some r := hrun
  rw [exec_striaTileMessageArrival, execStriaTileMessageArrival, State.act_runs _ _ hr]
  simp only [takeAir_cons n 4 s up ups hair hk, hrun']
  exact (if_neg (by simp [ht])).trans (if_neg (by rcases ho with h | h <;> simp [h]))

/-- A station's fence ends its part of the read that runs; past the deadline it ends the read as lost. -/
theorem exec_striaFenceArrival_front (r : StriaRead) (ht : bitOf up.head 6 = true) (hrun : s.stria.running = some r)
    (hl : n ∈ r.left) (htag : up.words.getD 0 0 % 256 = r.rtag) :
    let u : State := setStn n { s.stn n with air := ups } s
    let q : StriaRead := { r with left := r.left.filter (· != n), fences := mput r.fences n (fenceCells r.first up.words) }
    let v : State := modStria (fun t => { t with running := some q }) u
    exec (.striaFenceArrival n) s = .next (if s.past r.deadline then afterRead (fencesDone { r with left := [], lost := true } u)
      else if q.left.isEmpty then afterRead (fencesDone q v) else v) := by
  intro u q v
  have hrun' : (setStn n { s.stn n with air := ups } s).stria.running = some r := hrun
  rw [exec_striaFenceArrival, execStriaFenceArrival, State.act_runs _ _ hr]
  simp only [takeAir_cons n 4 s up ups hair hk, hrun']
  exact (if_neg (by simp [ht])).trans ((if_neg (by simpa [hl] using htag)).trans (next_ite rfl rfl))

end

/-- Settles O36: the slot messages and their application, then tiles by what the running read makes of them, then fences. -/
theorem striaFlow : Obligations.StriaFlow := by
  unfold Obligations.StriaFlow
  intro s n f i c cnt rtag copy ws m rest up ups r hr
  refine ⟨fun hin hd hk => ⟨exec_stationStriaSlot_front hr m rest hin hd hk, exec_stationStriaSettle_front hr m rest hin hd hk,
      exec_stationStriaRelease_front hr m rest hin hd hk⟩,
    exec_striaSlotApply_due hr ws, exec_striaSettle_due hr, fun hair hk => ?air, exec_striaFenceTimeout_due hr r⟩
  case air =>
    refine ⟨exec_striaTileMessageArrival_idle hr up ups hair hk, exec_striaTileMessageArrival_other hr up ups hair hk r,
      fun ht hrun hs hf hfit => ?_, fun ht hrun hl htag hp => ?_, fun ht hrun hl htag hp => ?_⟩
    · exact (exec_striaTileMessageArrival_reading hr up ups hair hk r ht hrun hfit).trans (congrArg _ (if_pos (by simp [hs, hf])))
    · exact (exec_striaFenceArrival_front hr up ups hair hk r ht hrun hl htag).trans (congrArg _ (if_pos hp))
    · exact (exec_striaFenceArrival_front hr up ups hair hk r ht hrun hl htag).trans (congrArg _ (if_neg (by simp [hp])))

end Sys2Proof.Machine
end

section
/-! PROOFS. Control of a dump and its memory accesses (O37). -/

namespace Sys2Proof.Machine

section
variable {s : State} {id d v : Nat} (hr : s.runs = true) (hw : s.windowOpen = true) (hp : s.passes id .operator = true)
include hr hw hp

/-- A destination's words while no dump runs. -/
theorem exec_lehrDestWrite_idle (hrun : s.lehr.running = false) (w : Nat) :
    exec (.lehrDestWrite id d w v) s = .next (checkDest (d % 4) (if w = 0 then plainWrite (R.LEHR_DEST_CFG (d % 4)) (BitVec.ofNat 32 v) s
      else if w = 1 then s.wr64 (R.LEHR_DEST_ADDR_LO (d % 4)) (R.LEHR_DEST_ADDR_HI (d % 4)) v
      else if w = 3 then plainWrite (R.LEHR_DEST_SIZE (d % 4)) (BitVec.ofNat 32 v) s else s)) := by
  rw [exec_lehrDestWrite, execLehrDestWrite, State.act_runs _ _ hr, State.gate_pass _ _ _ _ _ hw hp, ok, writeDest,
    if_neg (by simp [hrun])]

/-- A start that is asked for is kept or refused, as the dump engine takes requests. -/
theorem exec_lehrStartWrite_start (hv : bitOf v 0 = true) :
    exec (.lehrStartWrite id v) s =
      .next (askDump ⟨s.fg F.LEHR_SCOPE_PARTMASK, bitOf v 1, if bitOf v 2 then some (bitsOf v 3 14) else none, .register, false, 0, 0⟩ s).2 := by
  rw [exec_lehrStartWrite, execLehrStartWrite, State.act_runs _ _ hr, State.gate_pass _ _ _ _ _ hw hp, ok, lehrStart, if_pos hv]

theorem exec_lehrAbortWrite_open : exec (.lehrAbortWrite id) s = .next (abortDump s) := by
  rw [exec_lehrAbortWrite, execLehrAbortWrite, State.act_runs _ _ hr, State.gate_pass _ _ _ _ _ hw hp, ok]

end

section
variable {s : State} {tag : Nat} (hr : s.runs = true)
include hr

/-- A phase past its deadline stops; the last one forms its seals again, once. -/
theorem exec_lehrPhaseDeadline_late (hrun : s.lehr.running = true) (h2 : 2 ≤ s.lehrPhase) (hpast : s.past s.lehr.deadline = true) :
    exec .lehrPhaseDeadline s = .next (if s.lehrPhase = 6 then
        (if s.lehr.lateP5 then s else sealAgain s.sealsDue (lateDump 5 s.lehr.deadline true (modLehr (fun l => { l with lateP5 := true }) s)))
      else stopPhase (s.lehrPhase - 1) (lateDump (s.lehrPhase - 1) s.lehr.deadline s.lehr.atLimit s)) := by
  rw [exec_lehrPhaseDeadline, execLehrPhaseDeadline, State.act_runs _ _ hr, ok, missPhase]
  exact congrArg _ (if_neg (by simp [hrun, hpast]; omega))

/-- A request for a dump is taken off the list and begun or refused. -/
theorem exec_dumpAccept_front (q : DumpReq) (rest : List DumpReq) (hwarm : s.clk.warm = false) (hq : s.lehr.asked = q :: rest) :
    let u : State := modLehr (fun l => { l with asked := rest }) s
    exec .dumpAccept s = .next (if u.lehr.running || !u.fb F.LEHR_CTL_EN || !u.lehrCoreUp then refuseDump q u else cutDump (beginDump q u)) := by
  intro u
  rw [exec_dumpAccept, execDumpAccept, State.awake_up _ _ hr hwarm]
  simp only [hq]
  exact next_ite rfl rfl

theorem exec_dumpMasterReadData_taken (data : List Nat) (err : Bool) (l : LineReq) (ls : List LineReq)
    (ht : takeLine tag s.ts s.bus.dmpRd = some (l, ls)) :
    let u : State := modBus (fun b => { b with dmpRd := ls }) s
    exec (.dumpMasterReadData tag data err) s =
      .next (if s.lineLate s.rdTmo l then dumpLate l u else dumpRead l (lineBytes data) err u) := by
  intro u
  rw [exec_dumpMasterReadData, execDumpMasterReadData, State.act_runs _ _ hr]
  simp only [ht]
  rfl

theorem exec_dumpMasterWriteAck_taken (err : Bool) (l : LineReq) (ls : List LineReq) (ht : takeLine tag s.ts s.bus.dmpWr = some (l, ls)) :
    exec (.dumpMasterWriteAck tag err) s =
      .next (lineWritten l (!err && !s.lineLate s.wrTmo l) (modBus (fun b => { b with dmpWr := ls }) s)) := by
  rw [exec_dumpMasterWriteAck, execDumpMasterWriteAck, State.act_runs _ _ hr]
  simp only [ht]
  rfl

theorem exec_fabricWriteAck_taken (err : Bool) (l : LineReq) (ls : List LineReq) (ht : takeLine tag s.ts s.bus.fabWr = some (l, ls)) :
    exec (.fabricWriteAck tag err) s =
      .next (lineWritten l (!err && !s.lineLate s.wrTmo l) (modBus (fun b => { b with fabWr := ls }) s)) := by
  rw [exec_fabricWriteAck, execFabricWriteAck, State.act_runs _ _ hr]
  simp only [ht]
  rfl

theorem exec_dumpMasterReadTimeout_fabric (q : LineReq) (hd : s.lateLine s.rdTmo s.bus.dmpRd = none)
    (hf : s.lateLine s.rdTmo s.bus.fabRd = some q) :
    exec .dumpMasterReadTimeout s = .next (dumpLate q (modBus (fun b => { b with fabRd := removeFirst (fun p => p == q) b.fabRd }) s)) := by
  rw [exec_dumpMasterReadTimeout, execDumpMasterReadTimeout, State.act_runs _ _ hr]
  simp only [hd, hf]
  rfl

theorem exec_dumpMasterReadTimeout_line (l : LineReq) (ls : List LineReq) (q : LineReq) (hd : s.lateLine s.rdTmo s.bus.dmpRd = some q)
    (ht : takeLine q.tag s.ts s.bus.dmpRd = some (l, ls)) :
    exec .dumpMasterReadTimeout s = .next (dumpLate l (modBus (fun b => { b with dmpRd := ls }) s)) := by
  rw [exec_dumpMasterReadTimeout, execDumpMasterReadTimeout, State.act_runs _ _ hr]
  simp only [hd, ht]
  rfl

theorem exec_dumpMasterWriteTimeout_line (l : LineReq) (ls : List LineReq) (q : LineReq) (hd : s.lateLine s.wrTmo s.bus.dmpWr = some q)
    (ht : takeLine q.tag s.ts s.bus.dmpWr = some (l, ls)) :
    exec .dumpMasterWriteTimeout s = .next (lineWritten l false (modBus (fun b => { b with dmpWr := ls }) s)) := by
  rw [exec_dumpMasterWriteTimeout, execDumpMasterWriteTimeout, State.act_runs _ _ hr]
  simp only [hd, ht]
  rfl

theorem exec_fabricWriteTimeout_line (l : LineReq) (ls : List LineReq) (q : LineReq) (hd : s.lateLine s.wrTmo s.bus.fabWr = some q)
    (ht : takeLine q.tag s.ts s.bus.fabWr = some (l, ls)) :
    exec .fabricWriteTimeout s = .next (lineWritten l false (modBus (fun b => { b with fabWr := ls }) s)) := by
  rw [exec_fabricWriteTimeout, execFabricWriteTimeout, State.act_runs _ _ hr]
  simp only [hd, ht]
  rfl

end

/-- Settles O37: each instruction by its equation, whose branches the clauses pick. -/
theorem dumpControl : Obligations.DumpControl := by
  unfold Obligations.DumpControl
  intro s id d v tag q rest l ls data err hr
  refine ⟨fun hw hp => ?registers, fun hrun h2 hpast => ?deadline, fun hwarm hq => ?accept, fun ht => ?data,
    exec_dumpMasterWriteAck_taken hr err l ls, exec_fabricWriteAck_taken hr err l ls, exec_dumpMasterReadTimeout_fabric hr,
    exec_dumpMasterReadTimeout_line hr l ls, exec_dumpMasterWriteTimeout_line hr l ls, exec_fabricWriteTimeout_line hr l ls⟩
  case registers =>
    refine ⟨fun hrun => ⟨exec_lehrDestWrite_idle hr hw hp hrun 0, exec_lehrDestWrite_idle hr hw hp hrun 1,
      exec_lehrDestWrite_idle hr hw hp hrun 3⟩, fun hv ht => ?_, fun hv ht => ?_, exec_lehrAbortWrite_open hr hw hp⟩
    · rw [exec_lehrStartWrite_start hr hw hp hv, askDump, if_pos ht]
      exact ⟨_, rfl, rfl, rfl⟩
    · rw [exec_lehrStartWrite_start hr hw hp hv, askDump, if_neg (by simp [ht])]
  case deadline =>
    have h := exec_lehrPhaseDeadline_late hr hrun h2 hpast
    exact ⟨fun h6 => h.trans (congrArg _ (if_neg h6)),
      fun h6 hl => h.trans (congrArg _ ((if_pos h6).trans (if_neg (by simp [hl]))))⟩
  case accept =>
    intro u
    have h := exec_dumpAccept_front hr q rest hwarm hq
    refine ⟨fun hrun hen hcore => h.trans (congrArg _ (if_neg ?_)), fun hen => h.trans (congrArg _ (if_pos ?_))⟩
    · replace hrun : u.lehr.running = false := hrun
      replace hen : u.fb F.LEHR_CTL_EN = true := hen
      replace hcore : u.lehrCoreUp = true := hcore
      rw [hrun, hen, hcore]
      decide
    · replace hen : u.fb F.LEHR_CTL_EN = false := hen
      rw [hen, Bool.not_false, Bool.or_true, Bool.true_or]
  case data =>
    intro u
    have h := exec_dumpMasterReadData_taken hr data err l ls ht
    refine ⟨fun hl => ⟨fun who hu => ?_, fun k hu => ?_⟩, fun hl => h.trans (congrArg _ (if_pos hl))⟩
    · exact h.trans (congrArg _ ((if_neg (by simp [hl])).trans (by simp only [dumpRead, hu, u])))
    · exact h.trans (congrArg _ ((if_neg (by simp [hl])).trans (by simp only [dumpRead, hu, u])))

end Sys2Proof.Machine
end

section
/-! PROOFS. The reset ladder (O38). -/

namespace Sys2Proof.Machine

section
variable {s : State} {id v m : Nat} (hr : s.runs = true)
include hr

theorem exec_rstReqGo_go (hw : s.windowOpen = true) (hp : s.passes id .operator = true) (hv : bitOf v 20 = true) (hc : s.coreReady 0 = true) :
    exec (.rstReqGo id v) s = .next (requestReset ⟨bitsOf v 0 2,
      if bitsOf v 0 2 = 0 then bitsOf v 2 14 else 0, if bitsOf v 0 2 = 1 then bitsOf v 16 4 else 0, .register⟩ s).2 := by
  rw [exec_rstReqGo, execRstReqGo, State.act_runs _ _ hr, State.gate_pass _ _ _ _ _ hw hp, ok, rstReq]
  exact congrArg _ (if_pos (by simp [hv, hc]))

/-- RST_CTL takes its word, and with LOCK clear its mode sets the budgets of the reheat. -/
theorem exec_rstModeWrite_open (hw : s.windowOpen = true) (hp : s.passes id .operator = true) :
    let u : State := plainWrite R.RST_CTL (BitVec.ofNat 32 v) s
    exec (.rstModeWrite id v) s = .next (if s.fb F.RST_CTL_LOCK then u else loadReheat (u.fg F.RST_CTL_MODE) u) := by
  intro u
  rw [exec_rstModeWrite, execRstModeWrite, State.act_runs _ _ hr, State.gate_pass _ _ _ _ _ hw hp, ok]
  rfl

theorem exec_resetCollectTimeout_due (c : Collect) (hc : s.ladder.collects.find? (fun c => !c.isOver && s.past c.deadline) = some c) :
    exec .resetCollectTimeout s = .next (endCollect c.num s) := by
  rw [exec_resetCollectTimeout, execResetCollectTimeout, State.act_runs _ _ hr]
  simp only [hc]
  rfl

/-- The carrier accepts the step that runs, in time. -/
theorem exec_resetAnswerAccepted_inTime (hrun : s.ladder.running = true) (hnext : s.ladder.nextWord = none)
    (hpast : s.past (s.ladder.start + s.ladder.budget) = false) (ha : s.ladder.accepted = none) :
    let u : State := modLadder (fun l => { l with accepted := some s.ts }) s
    exec (.resetAnswerAccepted s.ladder.seq) s =
      .next (if s.ladder.step = 3 then endChip true (milestone 1 3 (s.fg F.RST_NUM_NUM) s.ts 0 u) else driveRstq u) := by
  intro u
  rw [exec_resetAnswerAccepted, execResetAnswerAccepted, State.act_runs _ _ hr, ok, resetAccepted]
  exact congrArg _ ((if_pos (by simp [hrun, hnext, ha])).trans (if_neg (by simp [hpast])))

omit hr in
/-- A released step begins the reheat of what it reset. -/
theorem releaseStep_ladder (s : State) : (releaseStep s).ladder.reheat = true ∧ (releaseStep s).ladder.reheatStep = s.ladder.step ∧
    (releaseStep s).ladder.releasedTs = (releaseStep s).ts := by
  unfold releaseStep
  extract_lets l num u
  clear_value u
  exact ⟨rfl, rfl, rfl⟩

/-- The carrier has done the step that runs, in time: the step is released, the next of the queue begins and its reports are collected. -/
theorem exec_resetAnswerDone_inTime (hrun : s.ladder.running = true) (hnext : s.ladder.nextWord = none) (h3 : s.ladder.step ≠ 3)
    (hpast : s.past (s.ladder.start + s.ladder.budget) = false) :
    let l := s.ladder
    let u : State := releaseStep s
    let e := endWithQueue (some (l.step, l.unit, l.part)) (endLadder u)
    exec (.resetAnswerDone l.seq) s = .next (beginCollect { num := s.fg F.RST_NUM_NUM, step := l.step, unit := l.unit, part := l.part, escalated := l.escalated, reqTs := l.firstStart, doneTs := u.ts, deadline := u.ts + scaleBudget u.ladder.rhtScale (1000 * e.2.fg F.RST_COLLECT_BUDGET), stns := [], cmds := l.cmds ++ e.1 } e.2) := by
  have hdue : (s.ladder.running && s.ladder.nextWord.isNone && s.ladder.seq == s.ladder.seq && s.ladder.step != 3) = true := by
    simp [hrun, hnext, h3]
  dsimp only
  rw [exec_resetAnswerDone, execResetAnswerDone, State.act_runs _ _ hr, ok, resetDone]
  dsimp only
  rw [if_pos hdue, if_neg (by simp [hpast])]

theorem exec_resetAnswerRefused_runs (hrun : s.ladder.running = true) (hnext : s.ladder.nextWord = none) :
    exec (.resetAnswerRefused s.ladder.seq) s = .next (escalate (!s.past (s.ladder.start + s.ladder.budget)) s) := by
  rw [exec_resetAnswerRefused, execResetAnswerRefused, State.act_runs _ _ hr, ok, resetRefused]
  exact congrArg _ (if_pos (by simp [hrun, hnext]))

theorem exec_resetAnswerInvalid_runs :
    ∃ t : State, exec .resetAnswerInvalid s = .next t ∧ t.fb F.RST_STAT_CARRIER_ERR = true ∧ ∀ a, a ≠ R.RST_STAT → t.rd a = s.rd a := by
  rw [exec_resetAnswerInvalid, execResetAnswerInvalid, State.act_runs _ _ hr, ok]
  exact ⟨_, rfl, State.fb_fs_same _ _ _ (by decide) rfl, fun a ha => State.rd_fs_other _ _ _ _ ha⟩

theorem exec_resetStepDeadline_past (hrun : s.ladder.running = true) (hpast : s.past (s.ladder.start + s.ladder.budget) = true)
    (h3 : s.ladder.step ≠ 3) : exec .resetStepDeadline s = .next (escalate false s) := by
  rw [exec_resetStepDeadline, execResetStepDeadline, State.act_runs _ _ hr, ok, stepOverrun]
  exact congrArg _ (if_pos (by simp [hrun, hpast, h3]))

theorem exec_chipStepNoAccept_past (hrun : s.ladder.running = true) (hpast : s.past (s.ladder.start + s.ladder.budget) = true)
    (h3 : s.ladder.step = 3) : exec .chipStepNoAccept s = .next (escalate false s) := by
  rw [exec_chipStepNoAccept, execChipStepNoAccept, State.act_runs _ _ hr, ok, stepOverrun]
  exact congrArg _ (if_pos (by simp [hrun, hpast, h3]))

theorem exec_reheatMarkWrite_inTime (hw : s.windowOpen = true) (hid : id = 3 ∨ (36 ≤ id ∧ id ≤ 51)) (hp : s.passes id .open_ = true)
    (hre : s.ladder.reheat = true) (h4 : 4 ≤ m) (h7 : m < 7) (hs : s.ladder.reheatStep ≠ 0) (hd : bitOf (s.fg F.RHT_STAT_DONE) m = false)
    (ht : s.markOpen m = false ∨ s.past (s.markDeadline m) = false) :
    exec (.reheatMarkWrite id m) s =
      .next (milestone m s.ladder.reheatStep (s.fg F.RST_NUM_NUM) s.ts (b2n (bitOf (s.fg F.RHT_STAT_LATE) m)) s) := by
  have hm : bitsOf m 0 3 = m := by
    rw [bitsOf, Nat.shiftRight_zero]
    omega
  have hlate : (s.markOpen m && s.past (s.markDeadline m)) = false := by rcases ht with h | h <;> simp [h]
  rw [exec_reheatMarkWrite, execReheatMarkWrite, State.act_runs _ _ hr, if_pos hid, State.gate_pass _ _ _ _ _ hw hp, ok, hm, reheatMark]
  refine congrArg _ ((if_pos (by simp [hre, h4, hs, hd])).trans ?_)
  rw [if_neg (show ¬(s.markOpen m && s.past (s.markDeadline m)) = true by simp [hlate])]
  exact if_neg (by omega)

theorem exec_reheatMilestoneDeadline_due (hm : [4, 5, 6, 7].find? (fun m => s.markOpen m && s.past (s.markDeadline m)) = some m) :
    exec .reheatMilestoneDeadline s = .next (markLate m s) := by
  rw [exec_reheatMilestoneDeadline, execReheatMilestoneDeadline, State.act_runs _ _ hr]
  simp only [hm]
  rfl

end

/-- Settles O38: the requests, then the carrier's answers in time and late, then the marks of the reheat. -/
theorem resetLadder : Obligations.ResetLadder := by
  unfold Obligations.ResetLadder
  intro s id v m c hr l
  refine ⟨fun hw hp => ⟨exec_rstReqGo_go hr hw hp, fun hl => ⟨_, rfl, ?open_⟩, fun hl => ?locked⟩, exec_resetCollectTimeout_due hr c,
    fun hrun hnext => ⟨fun hpast ha => ?accepted, fun h3 hpast => ?done, exec_resetAnswerRefused_runs hr hrun hnext⟩,
    exec_resetAnswerInvalid_runs hr,
    fun hrun hpast => ⟨exec_resetStepDeadline_past hr hrun hpast, exec_chipStepNoAccept_past hr hrun hpast⟩,
    fun hw hid hp hre h4 h7 => exec_reheatMarkWrite_inTime hr hw hid hp hre h4 h7, exec_reheatMilestoneDeadline_due hr⟩
  case open_ => exact (exec_rstModeWrite_open hr hw hp).trans (congrArg _ (if_neg (by simp [hl])))
  case locked => exact (exec_rstModeWrite_open hr hw hp).trans (congrArg _ (if_pos hl))
  case accepted =>
    have h := exec_resetAnswerAccepted_inTime hr hrun hnext hpast ha
    exact ⟨fun h3 => h.trans (congrArg _ (if_pos h3)), fun h3 => h.trans (congrArg _ (if_neg h3))⟩
  case done =>
    obtain ⟨hre, hstep, hts⟩ := releaseStep_ladder s
    exact ⟨hre, hstep, hts, exec_resetAnswerDone_inTime hr hrun hnext h3 hpast⟩

end Sys2Proof.Machine
end

section
/-! PROOFS. Notices to and from peers (O39). -/

namespace Sys2Proof.Machine

section
variable {s : State} {node : Nat} (hr : s.runs = true) (hwarm : s.clk.warm = false)
include hr hwarm

theorem exec_noticeFanoutStart_next (f : FanOut) (rest : List FanOut) (hrun : s.notice.running = none) (hq : s.notice.queue = f :: rest)
    (hc : s.coreUp 1 = true) :
    exec .noticeFanoutStart s = .next (keepFanOut { f with started := true, firstBud := s.scaled .service (1000 * s.fg F.NOTICE_CTL_FIRST_BUD), lastBud := s.scaled .service (1000 * s.fg F.NOTICE_CTL_LAST_BUD) }
      (modNotice (fun n => { n with queue := rest }) s)) := by
  rw [exec_noticeFanoutStart, execNoticeFanoutStart, State.awake_up _ _ hr hwarm]
  simp only [hrun, hq]
  exact if_neg (by simp [hc])

theorem exec_peerNoticeSend_due (f : FanOut) (nodes : List Nat) (hrun : s.notice.running = some f) (hl : f.left = node :: nodes)
    (hc : s.coreUp 1 = true) (hlast : s.notice.lastSend = none ∨ ∃ c, s.notice.lastSend = some c ∧ c + 8 ≤ s.core)
    (hst : s.noticeStall s.core = false) :
    let e := checkFanOut f s
    exec .peerNoticeSend s = .next (keepFanOut { e.1 with firstLeft := true, left := nodes } (modNotice (fun n => { n with lastSend := some e.2.core })
      { e.2 with bus := { e.2.bus with fabSent := e.2.bus.fabSent ++ [⟨true, node, e.1.bytes⟩] } })) := by
  intro e
  have hfree : (match s.notice.lastSend with | some c => decide (c + 8 ≤ s.core) | none => true) = true := by
    rcases hlast with h | ⟨c, h, hc8⟩
    · simp [h]
    · simp [h, hc8]
  rw [exec_peerNoticeSend, execPeerNoticeSend, State.awake_up _ _ hr hwarm]
  simp only [hrun, hl]
  exact if_pos (by rw [hc, hst, Bool.not_false, Bool.and_true, Bool.and_true]; exact hfree)

/-- A stalled cycle sends no notice. -/
theorem exec_peerNoticeSend_stalled (hst : s.noticeStall s.core = true) : exec .peerNoticeSend s = .next s := by
  rw [exec_peerNoticeSend, execPeerNoticeSend, State.awake_up _ _ hr hwarm]
  dsimp only
  split
  · split
    · exact if_neg (by simp [hst])
    · rfl
  · rfl

omit hr hwarm in
theorem noticeStall_full (ht : s.fb F.SEC_CTL_TEST_EN = true) (hf : s.fb F.PTB_CTL_FAB_EN = true) (hn : s.fb F.PTB_PORT_FAB_NOTICE = true)
    (hh : s.fg F.PTB_PORT_FAB_HOLD = 15) : s.noticeStall s.core = false ↔ s.core % 16 = 15 := by
  have hlt : s.core % 16 < 16 := Nat.mod_lt _ (by decide)
  rw [State.noticeStall, State.portStall, ht, hf, hn, hh]
  simp only [Bool.true_and, decide_eq_false_iff_not]
  omega

/-- A whole notice is taken from a job peer that names the job, while reception is enabled; else it is counted as ignored. -/
theorem exec_peerNoticeReceive_whole (bytes : List Nat) (hlen : bytes.length = 64) (hk : leAt bytes 0 1 = 3) :
    exec (.peerNoticeReceive node bytes) s =
      .next (if s.fb F.NOTICE_CTL_RX_EN && s.job.peers.contains node && leAt bytes 0x28 8 == s.job.jobId then takeNotice node bytes s
        else s.fsat F.NOTICE_CNT_IGNORED 1) := by
  rw [exec_peerNoticeReceive, execPeerNoticeReceive, State.awake_up _ _ hr hwarm, if_neg (by simp [hlen, hk])]
  exact next_ite rfl rfl

end

section
variable {s : State} (hr : s.runs = true)
include hr

theorem exec_noticeFanoutDeadline_running (f : FanOut) (hrun : s.notice.running = some f) :
    exec .noticeFanoutDeadline s = .next (keepFanOut (checkFanOut f s).1 (checkFanOut f s).2) := by
  rw [exec_noticeFanoutDeadline, execNoticeFanoutDeadline, State.act_runs _ _ hr]
  simp only [hrun]
  rfl

theorem exec_peerSilentExpiry_due (t : Tracked) (ht : s.notice.tracked.find? (fun t => s.past t.deadline) = some t) :
    exec .peerSilentExpiry s = .next (centralFault cPeerSilent 0 none t.receipt t.node t.deadline (showNotice (untrack t.node s))) := by
  rw [exec_peerSilentExpiry, execPeerSilentExpiry, State.act_runs _ _ hr]
  simp only [ht]
  rfl

end

/-- Settles O39: the sends of a fan-out, then its stall and budgets, then what a notice received does. -/
theorem peerNotices : Obligations.PeerNotices := by
  unfold Obligations.PeerNotices
  intro s node f rest nodes bytes t hr
  refine ⟨fun hwarm => ⟨exec_noticeFanoutStart_next hr hwarm f rest, exec_peerNoticeSend_due hr hwarm f nodes,
    exec_peerNoticeSend_stalled hr hwarm, noticeStall_full, fun hlen hk hen hnode hjob => ?taken, fun hlen hk hno => ?ignored⟩,
    exec_noticeFanoutDeadline_running hr f, exec_peerSilentExpiry_due hr t⟩
  case taken =>
    exact (exec_peerNoticeReceive_whole hr hwarm bytes hlen hk).trans (congrArg _ (if_pos (by simp [hen, hnode, hjob])))
  case ignored =>
    exact (exec_peerNoticeReceive_whole hr hwarm bytes hlen hk).trans
      (congrArg _ (if_neg (by rcases hno with h | h | h <;> simp [h])))

end Sys2Proof.Machine
end

section
/-! PROOFS. Ledger, digests, mirror verification and copies (O40). -/

namespace Sys2Proof.Machine

section
variable {s : State} {id k v : Nat} (hr : s.runs = true)

theorem expireVerify_early (h : ∀ j, s.cont.mv = some j → s.past j.deadline = false) : expireVerify s = s := by
  unfold expireVerify
  split
  case h_1 => rfl
  case h_2 j hj => exact if_neg (by simp [h j hj])

theorem expireCopy_early (h : ∀ j, s.cont.copy = some j → s.past j.deadline = false) : expireCopy s = s := by
  unfold expireCopy
  split
  case h_1 => rfl
  case h_2 j hj => exact if_neg (by simp [h j hj])

theorem failCopy_first (cause : Nat) (cp : CopyJob) (hc : s.cont.copy = some cp) (hf : cp.failing = none) :
    failCopy cause s = settleCopy (modCont (fun c => { c with copy := some { cp with failing := some (cause, s.ts) } }) s) := by
  rw [failCopy]
  simp only [hc, hf]

include hr

theorem exec_streamMapWrite_idle (hw : s.windowOpen = true) (hp : s.passes id .operator = true) (hl : s.ledgerRuns = false) :
    exec (.streamMapWrite id k v) s = .next
      (let u := plainWrite (R.STREAM_MAP (k % 64)) (BitVec.ofNat 32 v) s
       u.wrN R.MAP_CRC u.mapCrc) := by
  rw [exec_streamMapWrite, execStreamMapWrite, State.act_runs _ _ hr, State.gate_pass _ _ _ _ _ hw hp, ok, writeStreamMap,
    if_neg (by simp [hl])]

/-- CONT_CTL takes its word; LEDGER_EN going up begins the scan and going down ends it. -/
theorem exec_ledgerScanStart_open (hw : s.windowOpen = true) (hp : s.passes id .operator = true) :
    let was := s.fb F.CONT_CTL_LEDGER_EN
    let u : State := plainWrite R.CONT_CTL (BitVec.ofNat 32 v) s
    exec (.ledgerScanStart id v) s = .next (if !was && u.fb F.CONT_CTL_LEDGER_EN then
        showCont (runScan (modCont (fun c => { c with scan := some { addr := u.ledgerAddr 0, n := 4096, stride := 1088 } }) u))
      else if was && !u.fb F.CONT_CTL_LEDGER_EN then showCont (modCont (fun c => { c with scan := none }) (abandonReads .scan u))
      else u) := by
  intro was u
  rw [exec_ledgerScanStart, execLedgerScanStart, State.act_runs _ _ hr, State.gate_pass _ _ _ _ _ hw hp, ok, writeContCtl]

theorem exec_contAbortCopy_running (hw : s.windowOpen = true) (hp : s.passes id .operator = true) (cp : CopyJob) (hc : s.cont.copy = some cp)
    (hf : cp.failing = none) : exec (.contAbortCopy id) s = .next
      (settleCopy (modCont (fun c => { c with copy := some { cp with failing := some (6, s.ts) } }) s)) := by
  rw [exec_contAbortCopy, execContAbortCopy, State.act_runs _ _ hr, State.gate_pass _ _ _ _ _ hw hp, ok, failCopy_first 6 cp hc hf]

theorem exec_ledgerRecordTimeout_past (r : RecordJob) (hj : s.cont.rcd = some r) (hp : s.past r.deadline = true) :
    exec .ledgerRecordTimeout s = .next (endRecord 0x06 0 (serviceMiss 4 r.start s)) := by
  rw [exec_ledgerRecordTimeout, execLedgerRecordTimeout, State.act_runs _ _ hr, ok, expireRecord]
  simp only [hj]
  rw [if_pos hp]

theorem exec_ledgerCheckTimeout_past (c : CheckJob) (hj : s.cont.chk = some c) (hp : s.past c.deadline = true) :
    exec .ledgerCheckTimeout s = .next (endCheck 0x06 0 (serviceMiss 5 c.start s)) := by
  rw [exec_ledgerCheckTimeout, execLedgerCheckTimeout, State.act_runs _ _ hr, ok, expireCheck]
  simp only [hj]
  rw [if_pos hp]

theorem exec_mirrorVerifyTimeout_past (w : VerifyJob) (hj : s.cont.mv = some w) (hp : s.past w.deadline = true) :
    exec .mirrorVerifyTimeout s = .next (endVerify (if w.rsp.isNone then 4 else 2) 0x06 w (serviceMiss 6 w.start s)) := by
  rw [exec_mirrorVerifyTimeout, execMirrorVerifyTimeout, State.act_runs _ _ hr, ok, expireVerify]
  simp only [hj]
  rw [if_pos hp]

theorem exec_copyTimeout_past (cp : CopyJob) (hj : s.cont.copy = some cp) (hp : s.past cp.deadline = true) (hf : cp.failing = none) :
    exec .copyTimeout s = .next (settleCopy (modCont (fun c => { c with copy := some { cp with failing := some (5, s.ts) } }) s)) := by
  rw [exec_copyTimeout, execCopyTimeout, State.act_runs _ _ hr, ok, expireCopy, failCopy_first 5 cp hj hf]
  simp only [hj]
  rw [if_pos hp]

theorem exec_ledgerScanDone_over (j : LineJob) (hj : s.cont.scan = some j) (ho : j.isOver = true) :
    let found := j.got.filterMap (fun l => scanIndex s.job.jobId l.1 l.2)
    exec .ledgerScanDone s = .next (showCont (modCont (fun c => { c with scan := none })
      (s.fs F.LEDGER_NEXT_INDEX (if found.isEmpty then 0 else (found.foldl max 0 + 1) % 2 ^ 32)))) := by
  intro found
  rw [exec_ledgerScanDone, execLedgerScanDone, State.act_runs _ _ hr]
  simp only [hj]
  exact if_pos ho

end

section
variable {s : State} {node tag a len : Nat} (hw : s.windowOpen = true)
include hw

theorem exec_digestReqReceive_stranger (hno : s.fb F.CONT_CTL_MV_RX_EN = false ∨ node ∉ s.job.peers) :
    exec (.digestReqReceive node tag s.job.jobId a len) s = .next (sendBulk node (digestBytes s 5 1 tag a len 0 0) s) := by
  obtain ⟨hr, hwarm⟩ := s.windowOpen_runs hw
  rw [exec_digestReqReceive, execDigestReqReceive, State.awake_up _ _ hr hwarm, if_neg (by simp [hw])]
  exact if_pos (by rcases hno with h | h <;> simp [h])

theorem exec_digestReqReceive_partner (hen : s.fb F.CONT_CTL_MV_RX_EN = true) (hn : node ∈ s.job.peers) (hreg : regionOk a len = true)
    (hme : a >>> 40 = s.node) (hlo : s.rd64 R.MV_RX_BASE_LO R.MV_RX_BASE_HI ≤ a)
    (hhi : a + len ≤ s.rd64 R.MV_RX_BASE_LO R.MV_RX_BASE_HI + s.fg F.MV_RX_LEN_MIB * 2 ^ 20) (hd : s.cont.digests = []) :
    exec (.digestReqReceive node tag s.job.jobId a len) s = .next (askDigest (.partner node tag) a len s) := by
  obtain ⟨hr, hwarm⟩ := s.windowOpen_runs hw
  rw [exec_digestReqReceive, execDigestReqReceive, State.awake_up _ _ hr hwarm, if_neg (by simp [hw])]
  refine (if_neg (by simp [hen, hn])).trans ((if_neg ?_).trans (if_neg (by simp [hd])))
  simp only [hreg, hme, Bool.not_true, bne_self_eq_false, Bool.false_or, Bool.or_eq_true, decide_eq_true_eq]
  omega

/-- The partner's digest for the mirror verification that waits for it. -/
theorem exec_digestRspReceive_verify {st dg : Nat} (w : VerifyJob) (cm : Cmd) (hmv : (expireCopy (expireVerify s)).cont.mv = some w)
    (hcmd : (expireCopy (expireVerify s)).cmd? w.cmd = some cm) (hsent : w.sent = true) (hrsp : w.rsp = none) (hn : w.node = node)
    (ht : cm.fld 0x28 2 = tag) (ha : cm.fld 0x18 8 = a) (hl : cm.fld 0x20 8 = len) :
    exec (.digestRspReceive node st tag a len dg) s =
      .next (decideVerify (modCont (fun c => { c with mv := c.mv.map (fun j => { j with rsp := some (st, dg) }) })
        (expireCopy (expireVerify s)))) := by
  obtain ⟨hr, hwarm⟩ := s.windowOpen_runs hw
  rw [exec_digestRspReceive, execDigestRspReceive, State.awake_up _ _ hr hwarm, if_neg (by simp [hw])]
  generalize expireCopy (expireVerify s) = x at *
  simp only [hmv, hcmd]
  exact if_pos (by simp [hsent, hrsp, hn, ht, ha, hl])

end

/-- What the digest at the front of the list hands on once its lines are read, by its use. -/
theorem exec_regionDigestDone_front {s x : State} {node tag : Nat} (hr : s.runs = true) (hx : expireCopy (expireVerify s) = x)
    (d : DigestJob) (ds : List DigestJob) (hd : x.cont.digests = d :: ds) (ho : d.job.err = true ∨ d.job.isOver = true) :
    let good := !d.job.err
    let v := if good then d.acc else 0
    let u : State := showCont (runDigest (modCont (fun c => { c with digests := ds }) (abandonReads .digest x)))
    (d.use = .partner node tag → x.lehr.running = false → exec .regionDigestDone s =
      .next (sendBulk node (digestBytes x 5 (if good then 0 else 3) tag d.addr d.len v x.ts) u)) ∧
    (d.use = .verify → exec .regionDigestDone s =
      .next (decideVerify (modCont (fun c => { c with mv := c.mv.map (fun j => { j with mine := some (good, v) }) }) u))) ∧
    (d.use = .copySrc → exec .regionDigestDone s =
      .next (decideShard (modCont (fun c => { c with copy := c.copy.map (fun j => { j with dsrc := some (good, v) }) }) u))) ∧
    (d.use = .copyDst → exec .regionDigestDone s =
      .next (decideShard (modCont (fun c => { c with copy := c.copy.map (fun j => { j with ddst := some (good, v) }) }) u))) := by
  intro good v u
  have hover : (!d.job.err && !d.job.isOver) = false := by rcases ho with h | h <;> simp [h]
  rw [exec_regionDigestDone, execRegionDigestDone, State.act_runs _ _ hr, hx]
  refine ⟨fun hu hl => ?_, fun hu => ?_, fun hu => ?_, fun hu => ?_⟩ <;>
    simp only [hd, hover, hu, Bool.false_eq_true, if_false]
  · exact if_neg (by simp [hl])
  all_goals rfl

/-- Settles O40: what expires first is by itself; the services' deadlines, the requests and replies and the end of a digest follow. -/
theorem continuityServices : Obligations.ContinuityServices := by
  unfold Obligations.ContinuityServices
  intro s id k v node tag a len dg st r c j w d ds cm cp hr x
  refine ⟨fun hmv hcopy => ?early, fun hw hp => ⟨exec_streamMapWrite_idle hr hw hp, ⟨_, rfl, fun hwas hon => ?up, fun hwas hon => ?down⟩,
      exec_contAbortCopy_running hr hw hp cp⟩,
    exec_ledgerRecordTimeout_past hr r, exec_ledgerCheckTimeout_past hr c, exec_mirrorVerifyTimeout_past hr w, exec_copyTimeout_past hr cp,
    exec_ledgerScanDone_over hr j, fun hw => ⟨exec_digestReqReceive_stranger hw, exec_digestReqReceive_partner hw,
      exec_digestRspReceive_verify hw w cm⟩,
    exec_regionDigestDone_front hr rfl d ds⟩
  case early =>
    show expireCopy (expireVerify s) = s
    rw [expireVerify_early hmv, expireCopy_early hcopy]
  case up => exact (exec_ledgerScanStart_open hr hw hp).trans (congrArg _ (if_pos (by simp [hwas, hon])))
  case down =>
    exact (exec_ledgerScanStart_open hr hw hp).trans (congrArg _ ((if_neg (by simp [hwas])).trans (if_pos (by simp [hwas, hon]))))

end Sys2Proof.Machine
end

section
/-! PROOFS. Doorbells, ring control, fetching and completion entries (O41). -/

namespace Sys2Proof.Machine

section
variable {s : State} {id r v : Nat} (hw : s.windowOpen = true) (h64 : r < 64)
include hw h64

theorem exec_sqDoorbell_owner (ho : s.fg (F.SQ_CFG_OWNER r) = id) : exec (.sqDoorbell id r v) s = .next (sqDoorbell r v s) := by
  rw [exec_sqDoorbell, execSqDoorbell, State.act_runs _ _ (s.windowOpen_runs hw).1, Nat.mod_eq_of_lt h64, ok, dbOwner, if_neg (by simp [hw]),
    if_pos ho.symm]

theorem exec_sqDoorbell_other (ho : s.fg (F.SQ_CFG_OWNER r) ≠ id) : exec (.sqDoorbell id r v) s = .next (ringRej id s) := by
  rw [exec_sqDoorbell, execSqDoorbell, State.act_runs _ _ (s.windowOpen_runs hw).1, Nat.mod_eq_of_lt h64, ok, dbOwner, if_neg (by simp [hw]),
    if_neg (Ne.symm ho)]

/-- The owner's doorbell of an event ring, without ARM and within the entries written, moves HEAD alone. -/
theorem exec_eqDoorbell_owner (ho : s.fg (F.EQ_CFG_OWNER r) = id) (hv : bitOf v 16 = false) (hlt : v % 65536 < s.eqSize r)
    (hback : (v % 65536 + s.eqSize r - s.fg (F.EQ_HEAD_INDEX r)) % s.eqSize r ≤
      (s.fg (F.EQ_TAIL_INDEX r) + s.eqSize r - s.fg (F.EQ_HEAD_INDEX r)) % s.eqSize r) :
    ∃ t : State, exec (.eqDoorbell id r v) s = .next t ∧ t.fg (F.EQ_HEAD_INDEX r) = v % 65536 % 2 ^ (F.EQ_HEAD_INDEX r).width ∧
      ∀ a, a ≠ R.EQ_HEAD r → t.rd a = s.rd a := by
  rw [exec_eqDoorbell, execEqDoorbell, State.act_runs _ _ (s.windowOpen_runs hw).1, Nat.mod_eq_of_lt h64, ok, dbOwner, if_neg (by simp [hw]),
    if_pos ho.symm, eqDoorbell]
  dsimp only
  rw [if_neg (by simp only [Bool.or_eq_true, decide_eq_true_eq]; omega), if_neg (by simp [hv])]
  refine ⟨_, rfl, ?_, fun a ha => ?_⟩
  · exact (State.fg_congr _ _ _ (State.rd_congr _ _ (modRings_regs _ _) _)).trans (State.fg_fs_same _ _ _ (by simp))
  · exact (State.rd_congr _ _ (modRings_regs _ _) _).trans (State.rd_fs_other _ _ _ _ ha)

theorem exec_ringCtl_open (hp : s.passes id (ringNeed id) = true) (eq : Bool) :
    exec (.ringEnable id eq r) s = .next (if eq then enableEq r s else enableSq r s) ∧
      exec (.ringDisable id eq r) s = .next (if eq then disableEq r s else disableSq r s) := by
  rw [exec_ringEnable, execRingEnable, exec_ringDisable, execRingDisable, State.act_runs _ _ (s.windowOpen_runs hw).1,
    State.act_runs _ _ (s.windowOpen_runs hw).1, Nat.mod_eq_of_lt h64, ok, ok, writeCtl, writeCtl, State.gate_pass _ _ _ _ _ hw hp,
    State.gate_pass _ _ _ _ _ hw hp]
  cases eq <;> exact ⟨rfl, rfl⟩

end

theorem enableSq_disabled {r : Nat} {s : State} (h : s.fg (F.SQ_STAT_STATE r) = stDisabled) :
    enableSq r s = ((s.fs (F.SQ_STAT_OUTST r) ((s.rings.cmds.filter (fun c => c.key.ring == r)).length)).fs (F.SQ_CTL_EN r) 1).fs
      (F.SQ_STAT_STATE r) stRunning :=
  if_pos (by simp [h])

theorem enableEq_disabled {r : Nat} {s : State} (h : s.fg (F.EQ_STAT_STATE r) = stDisabled) :
    enableEq r s = ((s.fs (F.EQ_CTL_EN r) 1).fs (F.EQ_STAT_STATE r) stRunning).fs (F.EQ_STAT_ARMED r) 1 :=
  if_pos (by simp [h])

theorem disableSq_running {r : Nat} {s : State} (h : s.fg (F.SQ_STAT_STATE r) = stRunning) :
    disableSq r s = settleSq r (dropFetched r ((s.fs (F.SQ_CTL_EN r) 0).fs (F.SQ_STAT_STATE r) stStopping)) :=
  if_pos (by simp [h])

theorem disableEq_running {r : Nat} {s : State} (h : s.fg (F.EQ_STAT_STATE r) = stRunning) :
    disableEq r s = settleEq r ((s.fs (F.EQ_CTL_EN r) 0).fs (F.EQ_STAT_STATE r) stStopping) :=
  if_pos (by simp [h])

section
variable {s : State} {r tag idx n : Nat} (hr : s.runs = true)
include hr

theorem exec_ringFetchTurn_next (hwarm : s.clk.warm = false)
    (hf : ((List.range 64).map (fun i => (s.rings.turn + i) % 64)).find? (fun r => s.fetchRoom r != 0) = some r) :
    exec .ringFetchTurn s = .next (modRings (fun t => { t with turn := (r + 1) % 64 })
      ((List.range (min 4 (s.fetchRoom r))).foldl (fun s _ => fetchOne r s) s)) := by
  rw [exec_ringFetchTurn, execRingFetchTurn, State.awake_up _ _ hr hwarm]
  simp only [hf]
  rfl

theorem exec_descriptorAccept_head (hwarm : s.clk.warm = false) (k : CmdKey) (bytes : List Nat)
    (hf : s.rings.fetched.find? (fun d => s.fg (F.SQ_STAT_STATE d.1.ring) == stRunning && s.fg (F.SQ_HEAD_INDEX d.1.ring) == d.1.idx) =
      some (k, bytes)) : exec .descriptorAccept s = .next (acceptDesc k bytes s) := by
  rw [exec_descriptorAccept, execDescriptorAccept, State.awake_up _ _ hr hwarm]
  simp only [hf]
  rfl

theorem exec_descriptorFetchError_taken (q : HostReq) (rest : List HostReq) (ht : takeHost tag s.ts s.bus.hostRd = some (q, rest))
    (hu : q.use = .fetch r idx n) :
    exec (.descriptorFetchError tag) s = .next (fetchFailed r idx (modBus (fun b => { b with hostRd := rest }) s)) := by
  rw [exec_descriptorFetchError, execDescriptorFetchError, State.act_runs _ _ hr]
  simp only [ht, hu]
  rfl

/-- A signal that is due disarms its ring and signals its vector. -/
theorem exec_eqInterruptTimer_due (hf : (List.range 64).find? (fun r => s.signalDue r) = some r) :
    ∃ u : State, u.fb (F.EQ_STAT_ARMED r) = false ∧ exec .eqInterruptTimer s = .next (signalVec (u.fg (F.EQ_CFG_VEC r))
      { u with rings := { u.rings with unsig := mput u.rings.unsig r [] } }) := by
  have hdue : s.signalDue r = true := List.find?_some hf
  rw [exec_eqInterruptTimer, execEqInterruptTimer, State.act_runs _ _ hr]
  simp only [hf]
  rw [trySignal, if_pos hdue]
  exact ⟨_, State.fb_fs_same _ _ _ (by simp) rfl, rfl⟩

end

/-- Settles O41: doorbells by what their ring's owner may do, CTL by the state of its ring, then fetching and signals. -/
theorem ringControl : Obligations.RingControl := by
  unfold Obligations.RingControl
  intro s id r v tag idx n q rest k bytes hr h64
  refine ⟨fun hw => ⟨fun ho => ?sq, exec_sqDoorbell_other hw h64, fun ho hv => exec_eqDoorbell_owner hw h64 ho hv⟩, fun hw hp => ?ctl,
    fun hwarm => ⟨exec_ringFetchTurn_next hr hwarm, ?entry, exec_descriptorAccept_head hr hwarm k bytes⟩,
    exec_descriptorFetchError_taken hr q rest, exec_eqInterruptTimer_due hr⟩
  case sq =>
    intro t size grow
    have h := exec_sqDoorbell_owner (v := v) hw h64 ho
    refine ⟨fun hlt hen hroom => h.trans (congrArg _ (if_pos ?_)), fun hno => h.trans (congrArg _ (if_neg ?_))⟩
    · simp only [hen, Bool.and_true, Bool.and_eq_true, decide_eq_true_eq]
      exact ⟨hlt, hroom⟩
    · simp only [Bool.and_eq_true, decide_eq_true_eq, not_and]
      intro ⟨hlt, hen⟩ hroom
      rcases hno with h1 | h1 | h1
      · exact absurd hlt (Nat.not_lt.2 h1)
      · rw [h1] at hen; cases hen
      · exact absurd hroom (Nat.not_le.2 h1)
  case ctl =>
    obtain ⟨hen, hdis⟩ := exec_ringCtl_open hw h64 hp false
    obtain ⟨hen', hdis'⟩ := exec_ringCtl_open hw h64 hp true
    exact ⟨fun hst => hen.trans (congrArg _ (enableSq_disabled hst)), fun hst => hen'.trans (congrArg _ (enableEq_disabled hst)),
      fun hst => hdis.trans (congrArg _ (disableSq_running hst)), fun hst => hdis'.trans (congrArg _ (disableEq_running hst)),
      exec_ringZero_sq s id r false h64 hw hp, exec_ringZero_sq s id r true h64 hw hp, exec_ringZero_eq s id r false h64 hw hp,
      exec_ringZero_eq s id r true h64 hw hp⟩
  case entry =>
    rw [exec_eventEntryWrite, execEventEntryWrite, State.awake_up _ _ hr hwarm, Nat.mod_eq_of_lt h64, ok]

end Sys2Proof.Machine
end

section
/-! PROOFS. Host memory answers, interrupt masks and identity resets (O43). -/

namespace Sys2Proof.Machine

/-- With no interrupt pending a mask word is written and nothing is driven. -/
theorem writeMask_idle (hi : Bool) (v : Nat) (s : State) (h : s.rd64 R.INT_PEND_LO R.INT_PEND_HI = 0) :
    writeMask hi v s = (s.wrN (if hi then R.INT_MASK_HI else R.INT_MASK_LO) v).wr64 R.INT_PEND_LO R.INT_PEND_HI 0 := by
  have hpend : (s.wrN (if hi then R.INT_MASK_HI else R.INT_MASK_LO) v).rd64 R.INT_PEND_LO R.INT_PEND_HI = 0 := by
    rw [State.rd64, State.rd_wrN_other _ _ _ _ (by cases hi <;> decide), State.rd_wrN_other _ _ _ _ (by cases hi <;> decide)]
    exact h
  have hnone : bitsSet 64 0 = [] := by decide
  unfold writeMask
  simp only [hpend, hnone, List.filter_nil, List.foldl_nil]

section
variable {s : State} {id v tag : Nat} (hr : s.runs = true) (q : HostReq) (rest : List HostReq)
include hr

theorem exec_hostReadReturn_taken (data : List Nat) (err : Bool) (ht : takeHost tag s.ts s.bus.hostRd = some (q, rest)) :
    exec (.hostReadReturn tag data err) s = .next
      (readOver q (if err || s.hostLate q then none else some (q.fit data)) (modBus (fun b => { b with hostRd := rest }) s)) := by
  rw [exec_hostReadReturn, execHostReadReturn, State.act_runs _ _ hr]
  simp only [ht]
  rfl

theorem exec_hostReadTimeout_late (ht : s.lateHost s.bus.hostRd = some (q, rest)) :
    exec .hostReadTimeout s = .next (readOver q none (modBus (fun b => { b with hostRd := rest }) s)) := by
  rw [exec_hostReadTimeout, execHostReadTimeout, State.act_runs _ _ hr]
  simp only [ht]
  rfl

theorem exec_hostWriteAck_taken (err : Bool) (ht : takeHost tag s.ts s.bus.hostWr = some (q, rest)) :
    exec (.hostWriteAck tag err) s = .next (writeOver q (!err && !s.hostLate q) (modBus (fun b => { b with hostWr := rest }) s)) := by
  rw [exec_hostWriteAck, execHostWriteAck, State.act_runs _ _ hr]
  simp only [ht]
  rfl

theorem exec_hostWriteTimeout_late (ht : s.lateHost s.bus.hostWr = some (q, rest)) :
    exec .hostWriteTimeout s = .next (writeOver q false (modBus (fun b => { b with hostWr := rest }) s)) := by
  rw [exec_hostWriteTimeout, execHostWriteTimeout, State.act_runs _ _ hr]
  simp only [ht]
  rfl

omit q rest in
/-- Each word of INT_MASK is written by itself. -/
theorem exec_intMaskWrite_idle (hi : Bool) (hw : s.windowOpen = true) (hp : s.passes id .operator = true)
    (h : s.rd64 R.INT_PEND_LO R.INT_PEND_HI = 0) :
    ∃ t : State, exec (.intMaskWrite id hi v) s = .next t ∧ t.rd (if hi then R.INT_MASK_HI else R.INT_MASK_LO) = BitVec.ofNat 32 v ∧
      t.pins = s.pins ∧ t.rd (if hi then R.INT_MASK_LO else R.INT_MASK_HI) = s.rd (if hi then R.INT_MASK_LO else R.INT_MASK_HI) := by
  rw [exec_intMaskWrite, execIntMaskWrite, State.act_runs _ _ hr, State.gate_pass _ _ _ _ _ hw hp, ok, writeMask_idle hi v s h]
  refine ⟨_, rfl, ?_, rfl, ?_⟩
  · rw [State.rd_wr64_other _ _ _ _ _ (by cases hi <;> decide) (by cases hi <;> decide), State.rd_wrN_same]
  · rw [State.rd_wr64_other _ _ _ _ _ (by cases hi <;> decide) (by cases hi <;> decide),
      State.rd_wrN_other _ _ _ _ (by cases hi <;> decide)]

end

/-- Settles O43: host answers through the request they belong to, the mask words by `writeMask_idle`, the resets by their ranges. -/
theorem hostAnswersAndResets : Obligations.HostAnswersAndResets := by
  unfold Obligations.HostAnswersAndResets
  intro s id v tag q rest data err hr
  refine ⟨exec_hostReadReturn_taken hr q rest data err, exec_hostReadTimeout_late hr q rest, exec_hostWriteAck_taken hr q rest err,
    exec_hostWriteTimeout_late hr q rest,
    fun hw hp h => ⟨exec_intMaskWrite_idle hr false hw hp h, exec_intMaskWrite_idle hr true hw hp h⟩, fun h3 h35 => ?function, fun h16 => ?group⟩
  case function => rw [exec_functionReset, execFunctionReset, State.act_runs _ _ hr, if_pos ⟨h3, h35⟩, ok]
  case group => rw [exec_controlGroupReset, execControlGroupReset, State.act_runs _ _ hr, if_pos h16, ok]

end Sys2Proof.Machine
end

section
/-! PROOFS. A command of a ring that starts, and NOP and FENCE (O44). -/

namespace Sys2Proof.Machine

/-! ### The commands of the rings -/

theorem find?_replaceFirst {α : Type} (p : α → Bool) (f : α → α) (hf : ∀ x, p (f x) = p x) (l : List α) :
    (replaceFirst p f l).find? p = (l.find? p).map f := by
  induction l with
  | nil => rfl
  | cons x xs ih =>
    rw [replaceFirst]
    by_cases h : p x = true
    · rw [if_pos h, List.find?_cons_of_pos ((hf x).trans h), List.find?_cons_of_pos h]
      rfl
    · rw [if_neg h, List.find?_cons_of_neg h, List.find?_cons_of_neg h, ih]

theorem cmd?_modCmd (k : CmdKey) (f : Cmd → Cmd) (hf : ∀ c, (f c).key = c.key) (s : State) :
    (modCmd k f s).cmd? k = (s.cmd? k).map f :=
  find?_replaceFirst _ _ (fun c => by rw [hf]) _

theorem key_of_cmd? {s : State} {k : CmdKey} {c : Cmd} (h : s.cmd? k = some c) : c.key = k := by
  simpa using List.find?_some h

/-- The state in which the body of an accepted command runs. -/
def started (k : CmdKey) (s : State) : State := modCmd k (fun c => { c with phase := .running 0 }) s

theorem cmd?_started {s : State} {k : CmdKey} {c : Cmd} (hc : s.cmd? k = some c) :
    (started k s).cmd? k = some { c with phase := .running 0 } :=
  (cmd?_modCmd k (fun c => { c with phase := .running 0 }) (fun _ => rfl) s).trans (by rw [hc, Option.map_some])

/-- An accepted command that may start runs its body. -/
theorem startCmd_accepted {s : State} {k : CmdKey} {c : Cmd} (hc : s.cmd? k = some c) (hp : c.phase = .accepted)
    (hm : s.mayStart k = true) {op : Nat} (ho : c.opcode = op) (body : Cmd → State → State) :
    startCmd k op body s = body c (started k s) := by
  rw [startCmd]
  simp only [hc]
  exact if_pos (by simp [hp, ho, hm])

theorem act_startCmd {s : State} {k : CmdKey} {c : Cmd} (hr : s.runs = true) (hc : s.cmd? k = some c) (hp : c.phase = .accepted)
    (hm : s.mayStart k = true) {op : Nat} (ho : c.opcode = op) (body : Cmd → State → State) :
    (s.act fun s => ok (startCmd k op body s)) = .next (body c (started k s)) := by
  rw [State.act_runs _ _ hr, startCmd_accepted hc hp hm ho, ok]

/-- A command ends with one entry due at the event ring of its ring. -/
theorem completeCmd_posted {s : State} {k : CmdKey} {c : Cmd} (hc : s.cmd? k = some c) (hp : c.phase ≠ .completing)
    (hs : c.suppressed = false) (status result : Nat) (he : s.fg (F.EQ_STAT_STATE (s.fg (F.SQ_CFG_EQ k.ring))) = stRunning) :
    completeCmd k status result s = setDue (s.fg (F.SQ_CFG_EQ k.ring))
      (s.dueOf (s.fg (F.SQ_CFG_EQ k.ring)) ++ [completionEvent k c.opcode status (c.fld 8 8) result s.ts 0 (some k)])
      (modCmd k (fun c => { c with phase := .completing, status := status, result := result }) s) := by
  rw [completeCmd]
  simp only [hc]
  rw [if_neg (by simp [hp]), if_neg (by simp [hs])]
  exact if_pos (beq_iff_eq.2 he)

theorem dueOf_setDue (r : Nat) (l : List EvEntry) (s : State) : (setDue r l s).dueOf r = l := mget_mput_same _ _ _ _

/-- Starting and ending a command at once: its entry is due, the command is ending, and no register changes. -/
theorem startCmd_completed {s : State} {k : CmdKey} {c : Cmd} (hc : s.cmd? k = some c) (hp : c.phase = .accepted)
    (hm : s.mayStart k = true) {op : Nat} (ho : c.opcode = op) (hs : c.suppressed = false)
    (he : s.fg (F.EQ_STAT_STATE (s.fg (F.SQ_CFG_EQ k.ring))) = stRunning) :
    (startCmd k op (fun c s => completeCmd c.key 0 0 s) s).dueOf (s.fg (F.SQ_CFG_EQ k.ring)) = s.dueOf (s.fg (F.SQ_CFG_EQ k.ring)) ++
        [completionEvent k c.opcode 0 (c.fld 8 8) 0 s.ts 0 (some k)] ∧
      (startCmd k op (fun c s => completeCmd c.key 0 0 s) s).cmd? k = some { c with phase := .completing, status := 0, result := 0 } ∧
      (startCmd k op (fun c s => completeCmd c.key 0 0 s) s).regs = s.regs := by
  have hrun := cmd?_started hc
  have hbody : startCmd k op (fun c s => completeCmd c.key 0 0 s) s = completeCmd k 0 0 (started k s) :=
    (startCmd_accepted hc hp hm ho _).trans (congrArg (completeCmd · 0 0 (started k s)) (key_of_cmd? hc))
  rw [hbody, completeCmd_posted hrun (by simp) hs 0 0 he]
  refine ⟨dueOf_setDue _ _ _, ?_, rfl⟩
  refine (cmd?_modCmd k (fun c => { c with phase := .completing, status := 0, result := 0 }) (fun _ => rfl) _).trans ?_
  rw [hrun, Option.map_some]

/-- Settles O44: both start their command and end it at once; FENCE has nothing earlier to wait for. -/
theorem completionEntry : Obligations.CompletionEntry := by
  unfold Obligations.CompletionEntry
  intro s ring idx c hr hc hp hm hs he done
  refine ⟨fun ho => ?nop, fun ho hnone => ?fence⟩
  case nop =>
    rw [exec_nop, execNop, State.act_runs _ _ hr, ok]
    exact ⟨_, rfl, startCmd_completed hc hp hm ho hs he⟩
  case fence =>
    rw [exec_fence, execFence, State.act_runs _ _ hr, ok, if_pos (by simp [hnone])]
    exact ⟨_, rfl, startCmd_completed hc hp hm ho hs he⟩

end Sys2Proof.Machine
end

section
/-! PROOFS. Counter, trace, stria and cut commands of a ring (O45, O46). -/

namespace Sys2Proof.Machine

/-! ### What the body of each command does -/

/-- Messages sent down leave the frames running as they were. -/
theorem sendDown_running (group target kind head : Nat) (ws : List Nat) (s : State) :
    (sendDown group target kind head ws s).spine.running = s.spine.running := by
  unfold sendDown sendDownAs
  exact (fold_keep (fun s : State => s.spine.running) _ _ (fun _ _ => by rfl) _).trans
    (fold_keep (fun s : State => s.spine.running) _ _ (fun _ _ => by rfl) _)

theorem configureCounter_running (group target i lo hi owner : Nat) (ring : Option Nat) (s : State) :
    (configureCounter group target i lo hi owner ring s).2.spine.running = s.spine.running :=
  (sendDown_running ..).trans (fold_keep (fun s : State => s.spine.running) _ _ (fun _ _ => by rfl) _)

theorem counterConfig_frames (c : Cmd) (s : State) (h : s.spine.running = true) :
    counterConfig c s =
      (let r := configureCounter (c.grp 0x10).1 (c.grp 0x10).2 (c.fld 0x12 1) (c.fld 0x14 4) (c.fld 0x18 2) c.owner (some c.key.ring) s
       modCtr (fun t => { t with applies := t.applies ++ [(r.1, c.key)] }) (modCmd c.key (fun c' => { c' with
         result := (s.members (c.grp 0x10).1 (c.grp 0x10).2).length + 2 ^ 16 * s.cutOff (c.grp 0x10) }) r.2)) := by
  exact if_pos ((configureCounter_running ..).trans h)

theorem reduceFor_frames (c : Cmd) (g : Nat × Nat) (vs : List RedValue) (s : State) (h : s.spine.running = true) :
    reduceFor c g vs s = requestReduction g.1 g.2 vs (.command c.key) s := if_pos h

theorem traceArm_keeps (c : Cmd) (s : State) (hm : s.traceMay 0x21 c.owner c.cls = true) (hc : bitOf (c.fld 0x10 1) 0 = false)
    (hf : (takeRing c.owner c.cls s).fb F.TRC_STAT_FROZEN = false) :
    traceArm c s = captureWait c.key (takeRing c.owner c.cls s).trace.capture (armSeq (takeRing c.owner c.cls s)) := by
  have hkeep : (if bitOf (c.fld 0x10 1) 0 then clearRing (takeRing c.owner c.cls s) else takeRing c.owner c.cls s) =
      takeRing c.owner c.cls s := if_neg (by simp [hc])
  rw [traceArm, if_neg (by simp [hm]), if_neg (by simp [hc])]
  dsimp only
  rw [hkeep, if_neg (by simp [hf])]

theorem traceStop_releases (c : Cmd) (s : State) (hm : s.traceMay 0x22 c.owner c.cls = true) (hb : bitOf (c.fld 0x10 1) 0 = true) :
    traceStop c s = captureWait c.key (takeRing c.owner c.cls s).trace.capture
      ((disarmSeq (takeRing c.owner c.cls s)).fs F.TRC_OWNER_ID 0x3F) := by
  rw [traceStop, if_neg (by simp [hm])]
  dsimp only
  rw [if_pos hb]

theorem traceDrain_alone (c : Cmd) (s : State) (hm : s.traceMay 0x23 c.owner c.cls = true) (hd : s.rolsal.drain = false)
    (hno : ∀ d ∈ s.rings.cmds, d.key = c.key ∨ d.opcode ≠ 0x23) : traceDrain c s = drainNext c.key (takeRing c.owner c.cls s) := by
  have hnone : s.rings.cmds.any (fun d => d.key != c.key && d.opcode == 0x23 && d.phase != .accepted && d.phase != .completing) = false := by
    rw [List.any_eq_false]
    intro d hin
    rcases hno d hin with h | h <;> simp [h]
  rw [traceDrain, if_neg (by simp [hm]), hd, hnone]
  rfl

theorem traceMark_runs (c : Cmd) (s : State) (hm : s.traceMay 0x24 c.owner c.cls = true)
    (he : (takeRing c.owner c.cls s).fb F.TRC_CTL_STIM_EN = true) (hr : (takeRing c.owner c.cls s).fb F.TRC_STAT_RUN = true) :
    traceMark c s = completeCmd c.key 0 0 (stimPacket 32 c.key.ring (c.fld 0x10 4) (takeRing c.owner c.cls s)) := by
  rw [traceMark, if_neg (by simp [hm])]
  dsimp only
  rw [if_pos (by simp [he, hr])]

theorem striaReadCmd_exists (c : Cmd) (s : State) (he : s.exists_ c = true) (hf : s.fieldsOk c = true) :
    striaReadCmd c s = askRead (c.fld 0x10 1) (c.fld 0x12 2) (s.striaCount c) (bitOf (c.fld 0x11 1) 0) (some c.key) s := by
  rw [striaReadCmd, if_neg (by simp [he]), if_neg (by simp [hf])]

/-- With the tree on and room for it a CUT_AT waits for its tick, or is late. -/
theorem cutAtCmd_tree (c : Cmd) (s : State) (ht : s.treeOn = true) (hl : s.shear.cutAts.length < 8) :
    cutAtCmd c s = if c.point < s.spineCyc + s.shH then completeCmd c.key 6 0 (s.fs F.SHEAR_STAT_LATE 1)
      else modShear (fun h => { h with cutAts := h.cutAts ++
        [({ cmd := c.key, x := c.point, cls := c.fld 0x10 1 % 4, read := bitOf (c.fld 0x10 1) 2 } : CutAt)] }) s := by
  rw [cutAtCmd, if_neg (by simp [ht]; omega)]

/-! ### The commands -/

/-- Settles O45: each command starts, and the lemmas above say what its body does. -/
theorem counterAndTraceCommands : Obligations.CounterAndTraceCommands := by
  unfold Obligations.CounterAndTraceCommands
  intro s ring idx c hr hc hp hm
  obtain ⟨rfl, rfl⟩ : ring = c.key.ring ∧ idx = c.key.idx := by rw [key_of_cmd? hc]; exact ⟨rfl, rfl⟩
  intro k u
  refine ⟨fun ho h => (exec_counterConfig _ _ s).trans ((act_startCmd hr hc hp hm ho _).trans ?config),
    fun ho => (exec_counterRead _ _ s).trans (act_startCmd hr hc hp hm ho _),
    fun ho h => (exec_counterReduce _ _ s).trans ((act_startCmd hr hc hp hm ho _).trans ?reduce),
    fun ho h => (exec_energyRead _ _ s).trans ((act_startCmd hr hc hp hm ho _).trans ?energy),
    fun ho => (exec_traceConfig _ _ s).trans (act_startCmd hr hc hp hm ho _),
    fun ho h1 h2 h3 => (exec_traceArm _ _ s).trans ((act_startCmd hr hc hp hm ho _).trans ?arm),
    fun ho h1 h2 => (exec_traceStop _ _ s).trans ((act_startCmd hr hc hp hm ho _).trans ?stop),
    fun ho h1 h2 h3 => (exec_traceDrain _ _ s).trans ((act_startCmd hr hc hp hm ho _).trans ?drain),
    fun ho h1 h2 h3 => (exec_traceMark _ _ s).trans ((act_startCmd hr hc hp hm ho _).trans ?mark)⟩
  case config => exact congrArg _ (counterConfig_frames c u h)
  case reduce => exact congrArg _ (reduceFor_frames c _ _ u h)
  case energy => exact congrArg _ (if_pos h)
  case arm => exact congrArg _ (traceArm_keeps c u h1 h2 h3)
  case stop => exact congrArg _ (traceStop_releases c u h1 h2)
  case drain => exact congrArg _ (traceDrain_alone c u h1 h2 h3)
  case mark => exact congrArg _ (traceMark_runs c u h1 h2 h3)

/-- Settles O46: as for O45; the tick of a CUT_AT is settled at acceptance by the same comparison. -/
theorem striaAndCutCommands : Obligations.StriaAndCutCommands := by
  unfold Obligations.StriaAndCutCommands
  intro s ring idx c hr hc hp hm
  obtain ⟨rfl, rfl⟩ : ring = c.key.ring ∧ idx = c.key.idx := by rw [key_of_cmd? hc]; exact ⟨rfl, rfl⟩
  intro k u
  refine ⟨fun ho => (exec_striaArm _ _ s).trans (act_startCmd hr hc hp hm ho _),
    fun ho h => (exec_striaDisarm _ _ s).trans ((act_startCmd hr hc hp hm ho _).trans ?disarm),
    fun ho h1 h2 => (exec_striaRead _ _ s).trans ((act_startCmd hr hc hp hm ho _).trans ?read),
    fun ho h => (exec_cut _ _ s).trans ((act_startCmd hr hc hp hm ho _).trans ?cut),
    fun ho h1 h2 h3 => (exec_cutAt _ _ s).trans ((act_startCmd hr hc hp hm ho _).trans ?wait),
    fun ho h1 h2 h3 => (exec_cutAt _ _ s).trans ((act_startCmd hr hc hp hm ho _).trans ?late),
    fun ho v => ?settle,
    fun ho h => (exec_resume _ _ s).trans ((act_startCmd hr hc hp hm ho _).trans ?resume),
    fun ho h => (exec_snapshot _ _ s).trans ((act_startCmd hr hc hp hm ho _).trans ?snapshot)⟩
  case disarm => exact congrArg _ (if_pos h)
  case read => exact congrArg _ (striaReadCmd_exists c u h1 h2)
  case cut => exact congrArg _ (if_neg (by simp [show (started c.key s).treeOn = true from h]))
  case wait => exact congrArg _ ((cutAtCmd_tree c u h1 h2).trans (if_neg (Nat.not_lt.2 h3)))
  case late => exact congrArg _ ((cutAtCmd_tree c u h1 h2).trans (if_pos h3))
  case settle =>
    have h : settleAccepted c v = if v.cutAtCycle c < v.spineCyc + v.shH then completeCmd k 6 0 (v.fs F.SHEAR_STAT_LATE 1)
        else modCmd k (fun d => { d with point := v.cutAtCycle c }) v := if_pos ho
    exact ⟨fun hlt => h.trans (if_pos hlt), fun hle => h.trans (if_neg (Nat.not_lt.2 hle))⟩
  case resume => exact congrArg _ (if_pos h)
  case snapshot => exact congrArg _ (if_neg (by simp [show (started c.key s).treeOn = true from h]))

end Sys2Proof.Machine
end

section
/-! PROOFS. Dump, reset, continuity, job, budget and access commands of a ring (O47, O48). -/

namespace Sys2Proof.Machine

/-! ### What the body of each command does -/

theorem dumpCmd_taken (c : Cmd) (s t : State)
    (h : askDump ({ scope := c.fld 0x10 2, noScratch := bitOf (c.fld 0x12 1) 0, unit := if bitOf (c.fld 0x12 1) 1 then some (c.fld 0x14 2) else none, src := .command c.key } : DumpReq) s = (true, t)) :
    dumpCmd c s = t := by
  rw [dumpCmd]
  simp only [h]

theorem dumpAbortCmd_running (c : Cmd) (s : State) (h : s.lehr.running = true) :
    dumpAbortCmd c s = completeCmd c.key 0 (s.fg F.LEHR_NUM_NUM) (abortDump s) := if_pos h

/-- DUMP_STATUS without the KEEP copy answers the record of R421. -/
theorem dumpStatusCmd_record (c : Cmd) (s : State) (hc : bitOf (c.fld 0x10 1) 1 = false) (hb : s.serviceBusy c = false)
    (hs : c.suppressed = false) :
    dumpStatusCmd c s = finishWithBytes c.key (c.fld 0x18 8) (dumpRecord s) 0 (dumpRecord s).length s := by
  rw [dumpStatusCmd]
  simp only [hc, hb, hs, Bool.false_and, Bool.false_eq_true, if_false, List.append_nil]

theorem resetRequestCmd_started (c : Cmd) (s t : State)
    (h : requestReset ⟨c.fld 0x10 1, c.fld 0x12 2, c.fld 0x11 1, .command c.key⟩ s = (.started, t)) : resetRequestCmd c s = t := by
  rw [resetRequestCmd]
  simp only [h]

theorem reheatStatusCmd_exists (c : Cmd) (s : State) (h : s.exists_ c = true) :
    reheatStatusCmd c s = finishWithBytes c.key (c.fld 0x10 8)
      (toLe 4 (s.rdN R.RST_STAT) ++ toLe 4 (s.rdN R.RHT_STAT) ++ toLe 4 (s.rdN R.RST_NUM) ++ toLe 4 0 ++
        (List.range 8).flatMap (fun m => toLe 8 (s.rd64 (R.RHT_TS_LO m) (R.RHT_TS_HI m))) ++
        (List.range 4).flatMap (fun b => toLe 4 (s.rdN (R.RHT_BUD b))) ++ toLe 32 0) 0 (s.rdN R.RHT_STAT) s := by
  rw [reheatStatusCmd, if_neg (by simp [h])]

theorem contCmd_free (f : CmdKey → State → State) (c : Cmd) (s : State) (he : s.exists_ c = true) (hb : s.serviceBusy c = false) :
    contCmd f c s = f c.key s := by
  rw [contCmd, if_neg (by simp [he]), if_neg (by simp [hb])]

theorem gatherCmd_idle (c : Cmd) (s : State) (h : s.fb F.GATHER_STAT_BUSY = false) :
    gatherCmd c s = fetchTable c.key (c.fld 0x10 8) (4 * c.fld 0x18 2)
      (modGather (fun g => { g with cmd := some c.key, began := s.ts, budget := s.scaled .service (1000 * s.fg F.GATHER_BUDGET_BUDGET), peers := [], round := none, between := false }) (s.fs F.GATHER_STAT_BUSY 1)) :=
  if_neg (by simp [h])

theorem noticeSendCmd_formed (c : Cmd) (s t : State) (hj : s.job.peers ≠ [])
    (h : formFanOut 3 (fun n => noticeBytes s 3 n (s.stepByte none) 0 0 0 0 0 0 0 0xFFFFFFFF (c.fld 0x10 16)) s.ts (some c.key) s = (true, t)) :
    noticeSendCmd c s = t := by
  rw [noticeSendCmd, if_neg (by simp [hj])]
  simp only [h]

theorem jobTableCmd_fetch (c : Cmd) (s : State) (hb : s.jobBusy c = false) (hn : c.fld 0x18 2 ≠ 0) :
    jobTableCmd c s = fetchTable c.key (c.fld 0x10 8) (4 * c.fld 0x18 2) s := by
  rw [jobTableCmd, if_neg (by simp [hb]), if_neg hn]

/-- STATION_ACCESS at a station that can be reached: one write, or a read of each word. -/
theorem stationAccess_reachable (c : Cmd) (s : State) (hp : s.populated (c.fld 0x10 2) = true) (hu : s.unreachable (c.fld 0x10 2) = false) :
    stationAccess c s = if bitOf (c.fld 0x13 1) 0 then
        completeCmd c.key 0 1 (accessWrite c (c.fld 0x10 2) (c.fld 0x12 1) (c.fld 0x14 2) (c.fld 0x18 4) s)
      else (List.range (c.fld 0x16 2)).foldl (fun s i => issueAccess
          { tag := 0, stn := c.fld 0x10 2, page := c.fld 0x12 1, off := c.fld 0x14 2 + i, n := 1, peek := bitOf (c.fld 0x13 1) 1, use := .cmdWord c.key i } s)
        (modCmd c.key (fun c' => { c' with buf := List.replicate (c.fld 0x16 2) 0, point := c.fld 0x16 2 }) s) := by
  have hu' : (modCmd c.key (fun c' => { c' with buf := List.replicate (c.fld 0x16 2) 0, point := c.fld 0x16 2 }) s).unreachable (c.fld 0x10 2) =
      false := hu
  rw [stationAccess]
  dsimp only
  rw [if_neg (by simp [hp]), hu]
  by_cases hw : bitOf (c.fld 0x13 1) 0 = true
  · rw [if_pos hw, if_pos hw]
    rfl
  · rw [if_neg hw, if_neg hw, if_neg (by rw [hu']; decide)]

/-! ### The commands -/

/-- Settles O47: each command starts, and the lemmas above say what its body does. -/
theorem dumpResetContinuityCommands : Obligations.DumpResetContinuityCommands := by
  unfold Obligations.DumpResetContinuityCommands
  intro s ring idx c t hr hc hp hm
  obtain ⟨rfl, rfl⟩ : ring = c.key.ring ∧ idx = c.key.idx := by rw [key_of_cmd? hc]; exact ⟨rfl, rfl⟩
  intro k u
  refine ⟨fun ho h => (exec_dump _ _ s).trans ((act_startCmd hr hc hp hm ho _).trans ?dump),
    fun ho h => (exec_dumpAbort _ _ s).trans ((act_startCmd hr hc hp hm ho _).trans ?abort),
    fun ho h1 h2 h3 => (exec_dumpStatus _ _ s).trans ((act_startCmd hr hc hp hm ho _).trans ?status),
    fun ho h => (exec_resetRequest _ _ s).trans ((act_startCmd hr hc hp hm ho _).trans ?reset),
    fun ho h => (exec_reheatStatus _ _ s).trans ((act_startCmd hr hc hp hm ho _).trans ?reheat),
    fun ho h1 h2 => (exec_ledgerRecord _ _ s).trans ((act_startCmd hr hc hp hm ho _).trans ?record),
    fun ho h1 h2 => (exec_ledgerCheck _ _ s).trans ((act_startCmd hr hc hp hm ho _).trans ?check),
    fun ho h1 h2 => (exec_mirrorVerify _ _ s).trans ((act_startCmd hr hc hp hm ho _).trans ?verify),
    fun ho h1 h2 => (exec_copy _ _ s).trans ((act_startCmd hr hc hp hm ho _).trans ?copy)⟩
  case dump => exact congrArg _ (dumpCmd_taken c u t h)
  case abort => exact congrArg _ (dumpAbortCmd_running c u h)
  case status => exact congrArg _ (dumpStatusCmd_record c u h1 h2 h3)
  case reset => exact congrArg _ (resetRequestCmd_started c u t h)
  case reheat => exact congrArg _ (reheatStatusCmd_exists c u h)
  case record => exact congrArg _ (contCmd_free _ c u h1 h2)
  case check => exact congrArg _ (contCmd_free _ c u h1 h2)
  case verify => exact congrArg _ (contCmd_free _ c u h1 h2)
  case copy => exact congrArg _ (contCmd_free _ c u h1 h2)

/-- Settles O48: as for O47. -/
theorem jobBudgetAndAccessCommands : Obligations.JobBudgetAndAccessCommands := by
  unfold Obligations.JobBudgetAndAccessCommands
  intro s ring idx c t hr hc hp hm
  obtain ⟨rfl, rfl⟩ : ring = c.key.ring ∧ idx = c.key.idx := by rw [key_of_cmd? hc]; exact ⟨rfl, rfl⟩
  intro k u
  refine ⟨fun ho h => (exec_gather _ _ s).trans ((act_startCmd hr hc hp hm ho _).trans ?gather),
    fun ho h1 h2 => (exec_noticeSend _ _ s).trans ((act_startCmd hr hc hp hm ho _).trans ?notice),
    fun ho h1 h2 => (exec_jobTableLoad _ _ s).trans ((act_startCmd hr hc hp hm ho _).trans ?job),
    fun ho => (exec_budgetTableLoad _ _ s).trans (act_startCmd hr hc hp hm ho _),
    fun ho => (exec_contextBind _ _ s).trans (act_startCmd hr hc hp hm ho _),
    fun ho h1 h2 h3 => (exec_stationAccess _ _ s).trans ((act_startCmd hr hc hp hm ho _).trans ?write),
    fun ho h1 h2 h3 => (exec_stationAccess _ _ s).trans ((act_startCmd hr hc hp hm ho _).trans ?read)⟩
  case gather => exact congrArg _ (gatherCmd_idle c u h)
  case notice => exact congrArg _ (noticeSendCmd_formed c u t h1 h2)
  case job => exact congrArg _ (jobTableCmd_fetch c u h1 h2)
  case write => exact congrArg _ ((stationAccess_reachable c u h1 h2).trans (if_pos h3))
  case read => exact congrArg _ ((stationAccess_reachable c u h1 h2).trans (if_neg (by simp [h3])))

end Sys2Proof.Machine
end

section
/-! PROOFS. Mailboxes: doorbells, directions, and what an answer leaves (O50). -/

namespace Sys2Proof.Machine

/-! ### Doorbells and directions -/

theorem rd_signalVec_other (v a : Nat) (s : State) (hlo : a ≠ R.INT_PEND_LO) (hhi : a ≠ R.INT_PEND_HI) : (signalVec v s).rd a = s.rd a := by
  unfold signalVec
  split
  · exact State.rd_wr64_other _ _ _ _ _ hlo hhi
  · rfl

theorem driveMbxIrq_regs (i : Nat) (s : State) : (driveMbxIrq i s).regs = s.regs := by
  unfold driveMbxIrq
  split <;> rfl

theorem rd_signalDb_other (i a : Nat) (was : Word) (s : State) (hlo : a ≠ R.INT_PEND_LO) (hhi : a ≠ R.INT_PEND_HI) :
    (signalDb i was s).rd a = s.rd a := by
  have hirq : (driveMbxIrq i s).rd a = s.rd a := State.rd_congr _ _ (driveMbxIrq_regs i s) a
  unfold signalDb
  dsimp only
  split
  · exact (rd_signalVec_other _ _ _ hlo hhi).trans hirq
  · exact hirq

theorem rd_ringDb_other (i b a : Nat) (s : State) (ha : a ≠ R.DB_PEND i) (hlo : a ≠ R.INT_PEND_LO) (hhi : a ≠ R.INT_PEND_HI) :
    (ringDb i b s).rd a = s.rd a :=
  (rd_signalDb_other _ _ _ _ hlo hhi).trans (State.rd_wrN_other _ _ _ _ ha)

/-- A bit rung in a doorbell word is set there. -/
theorem bitOf_ringDb (i b : Nat) (s : State) (hb : b < 32) : bitOf ((ringDb i b s).rdN (R.DB_PEND i)) b = true := by
  have hrd : (ringDb i b s).rd (R.DB_PEND i) = BitVec.ofNat 32 (setBit (s.rdN (R.DB_PEND i)) b true) :=
    (rd_signalDb_other _ _ _ _ (by simp only [R.DB_PEND, R.INT_PEND_LO]; omega) (by simp only [R.DB_PEND, R.INT_PEND_HI]; omega)).trans
      (State.rd_wrN_same _ _ _)
  have hlt : setBit (s.rdN (R.DB_PEND i)) b true < 2 ^ 32 := setBit_lt _ _ _ _ (s.rd (R.DB_PEND i)).isLt hb
  rw [State.rdN, hrd, BitVec.toNat_ofNat, Nat.mod_eq_of_lt hlt, bitOf_setBit, if_pos rfl]

theorem mdir_setMdir (c d : Nat) (x : MbxDir) (s : State) : (setMdir c d x s).mdir c d = x := by
  unfold setMdir State.mdir State.chan setChan MbxChan.dir
  dsimp only
  rw [mget_mput_same]
  by_cases hd : d = 0 <;> simp [hd]

/-- An answer to a posted message. -/
theorem takeAnswer_posted (c d code : Nat) (s : State) (h : (s.mdir c d).go = true) :
    takeAnswer c d code s =
      (let x := s.mdir c d
       let u := setMdir c d { x with go := false, claimed := false, valid := true, delayed := none,
                                     code := (if x.senderGone then 0x0E else code), senderGone := false } s
       if x.senderGone then u else ringDb (u.senderOf c d) c u) := by
  rw [takeAnswer]
  exact if_neg (by simp [h])

/-- Settles O50: the direction holds the answer, and a doorbell that rings leaves it as it is. -/
theorem mailboxAnswer : Obligations.MailboxAnswer := by
  unfold Obligations.MailboxAnswer
  intro s c d code hc _ hgo
  rw [takeAnswer_posted c d code s hgo]
  have hring : ∀ (i b : Nat) (u : State), (ringDb i b u).mdir c d = u.mdir c d := fun i b u =>
    congrArg (fun m : MbxState => (mget m.chans c {}).dir d) ((ringDb_frame (fm := 0x9) (s0 := u) rfl i b u Frame.refl).mbx rfl)
  cases hg : (s.mdir c d).senderGone
  · simp only [hg, Bool.false_eq_true, if_false, hring, mdir_setMdir]
    exact ⟨trivial, trivial, trivial, fun _ => ⟨trivial, bitOf_ringDb _ _ _ hc⟩, fun h => absurd h (by decide)⟩
  · simp only [hg, if_true, mdir_setMdir]
    exact ⟨trivial, trivial, trivial, fun h => absurd h (by decide), fun _ => ⟨trivial, rfl⟩⟩

end Sys2Proof.Machine
end

section
/-! PROOFS. Mailboxes, doorbell words, bindings and remote requests (O49). -/

namespace Sys2Proof.Machine

/-! ### The registers of a direction -/

theorem mbxReg_direction {d : Nat} (hd : d < 2) :
    mbxReg (ctlOff d) = some (d, 16) ∧ mbxReg (ctlOff d + 4) = some (d, 17) ∧ mbxReg (0x40 * d) = some (d, 0) := by
  obtain rfl | rfl : d = 0 ∨ d = 1 := by omega
  all_goals decide

theorem bound_of_sender {s : State} {id c d : Nat} (h : id = s.senderOf c d) : (id == s.chLo c || id == s.chHi c) = true := by
  rw [h, State.senderOf]
  split <;> simp

theorem bound_of_receiver {s : State} {id c d : Nat} (h : id = s.receiverOf c d) : (id == s.chLo c || id == s.chHi c) = true := by
  rw [h, State.receiverOf]
  split <;> simp

theorem receiverOf_lt (s : State) (c d : Nat) : s.receiverOf c d < 64 := by
  have ha : s.fg (F.BIND_ID_A c) < 64 := State.fg_lt _ _
  have hb : s.fg (F.BIND_ID_B c) < 64 := State.fg_lt _ _
  unfold State.receiverOf State.chHi State.chLo
  split <;> omega

/-- A sender's write of its CTL register. -/
theorem mbxWrite_ctl {s : State} {id c d : Nat} (v : Nat) (hd : d < 2) (hb : s.bound c = true) (hid : id = s.senderOf c d) :
    mbxWrite id c (ctlOff d) v 0 s = writeMbxCtl id c d v 0 s := by
  rw [mbxWrite, if_neg (by simp [hb])]
  dsimp only
  rw [if_neg (by simp only [bound_of_sender hid]; decide)]
  simp only [(mbxReg_direction hd).1]
  rw [if_neg (by decide), if_pos trivial]

/-- Whether a channel is Lehr's does not depend on a doorbell word or on what its directions hold. -/
theorem lehrChannel_ringDb (s u : State) (c d i b : Nat) (hi : i < 64) (hu : u.regs = s.regs) :
    (ringDb i b u).lehrChannel c d = s.lehrChannel c d := by
  have hrd : ∀ a, a ≠ R.DB_PEND i → a ≠ R.INT_PEND_LO → a ≠ R.INT_PEND_HI → (ringDb i b u).rd a = s.rd a := fun a h1 h2 h3 =>
    (rd_ringDb_other i b a u h1 h2 h3).trans (State.rd_congr _ _ hu a)
  have hlehr := hrd R.LEHR_CTL (by simp only [R.LEHR_CTL, R.DB_PEND]; omega) (by decide) (by decide)
  have hgaf := hrd R.GAF_STAT (by simp only [R.GAF_STAT, R.DB_PEND]; omega) (by decide) (by decide)
  have hbind := hrd (R.BIND c) (by simp only [R.BIND, R.DB_PEND]; omega) (by simp only [R.BIND, R.INT_PEND_LO]; omega)
    (by simp only [R.BIND, R.INT_PEND_HI]; omega)
  simp only [State.lehrChannel, State.receiverOf, State.chHi, State.chLo, State.fb, State.fg, hlehr, hgaf, hbind]

section
variable {s : State} {id c d code v : Nat} (hw : s.windowOpen = true) (hp : s.passes id .open_ = true) (hb : s.bound c = true) (hd : d < 2)
include hw hp hb hd

/-- A post on a channel that is not Lehr's sets GO and rings the receiver. -/
theorem exec_mbxGo_post (hid : id = s.senderOf c d) (hgo : (s.mdir c d).go = false) (hl : s.lehrChannel c d = false) :
    exec (.mbxGo id c d) s = .next (ringDb (s.receiverOf c d) c
      (setMdir c d { s.mdir c d with go := true, valid := false, claimed := false, srcNode := 0, senderGone := false } s)) := by
  have hpost : postGo c d 0 s = ringDb (s.receiverOf c d) c
      (setMdir c d { s.mdir c d with go := true, valid := false, claimed := false, srcNode := 0, senderGone := false } s) :=
    if_neg (by simp [hgo])
  have hlehr : (postGo c d 0 s).lehrChannel c d = false := by
    rw [hpost]
    exact (lehrChannel_ringDb s _ c d _ _ (receiverOf_lt s c d) (setMdir_regs ..)).trans hl
  rw [exec_mbxGo, execMbxGo, State.act_runs _ _ (s.windowOpen_runs hw).1, mbxGate, State.gate_pass _ _ _ _ _ hw hp, ok,
    mbxWrite_ctl 1 hd hb hid, writeMbxCtl, if_neg (by simp [hid])]
  dsimp only
  rw [if_neg (show ¬bitOf 1 1 = true by decide), if_pos (show bitOf 1 0 = true by decide), hlehr, Bool.and_false, if_neg (by decide), hpost]

theorem exec_mbxRetract_unclaimed (hid : id = s.senderOf c d) (hgo : (s.mdir c d).go = true) (hcl : (s.mdir c d).claimed = false) :
    exec (.mbxRetract id c d) s = .next (setMdir c d { s.mdir c d with go := false, retracted := true, delayed := none } s) := by
  rw [exec_mbxRetract, execMbxRetract, State.act_runs _ _ (s.windowOpen_runs hw).1, mbxGate, State.gate_pass _ _ _ _ _ hw hp, ok,
    mbxWrite_ctl 2 hd hb hid, writeMbxCtl, if_neg (by simp [hid])]
  dsimp only
  rw [if_neg (show ¬bitOf 2 0 = true by decide), if_pos (show bitOf 2 1 = true by decide), retract]
  exact congrArg _ (if_pos (by simp [hgo, hcl]))

theorem exec_mbxClaim_posted (hid : id = s.receiverOf c d) (hgo : (s.mdir c d).go = true) :
    exec (.mbxClaim id c d) s = .next (presentRead ((s.mdir c d).msg.getD 0 0) (setMdir c d { s.mdir c d with claimed := true } s)) := by
  have hread : mbxRead id c (0x40 * d) false s = ((s.mdir c d).msg.getD 0 0, setMdir c d { s.mdir c d with claimed := true } s) := by
    rw [mbxRead, if_neg (by simp [hb])]
    dsimp only
    rw [if_neg (by simp [bound_of_receiver hid]), if_neg (by omega)]
    simp only [(mbxReg_direction hd).2.2]
    rw [if_pos (by simp [hid]), if_pos hgo]
    rfl
  rw [exec_mbxClaim, execMbxClaim, State.act_runs _ _ (s.windowOpen_runs hw).1, mbxGate, State.gate_pass _ _ _ _ _ hw hp, ok]
  simp only [hread]

theorem exec_mbxAck_posted (hid : id = s.receiverOf c d) (hne : id ≠ s.senderOf c d) (hgo : (s.mdir c d).go = true)
    (hcode : code ≤ 2 ∨ 0x10 ≤ code) (hlt : code < 256) (hnd : (s.mdir c d).delayed = none)
    (hptb : s.fb F.SEC_CTL_TEST_EN = false ∨ s.fb F.PTB_CTL_MBX_EN = false) :
    exec (.mbxAck id c d code) s = .next (takeAnswer c d code s) := by
  have hnow : (if s.fb F.SEC_CTL_TEST_EN && s.fb F.PTB_CTL_MBX_EN then s.fg F.PTB_MBX_DELAY else 0) = 0 :=
    if_neg (by rcases hptb with h | h <;> simp [h])
  have hwrite : mbxWrite id c (ctlOff d + 4) code 0 s = writeAck c d code s := by
    rw [mbxWrite, if_neg (by simp [hb])]
    dsimp only
    rw [if_neg (by simp only [bound_of_receiver hid]; decide)]
    simp only [(mbxReg_direction hd).2.1]
    rw [if_neg (by decide), if_neg (by decide), if_pos trivial, if_neg (by simpa using hne), Nat.mod_eq_of_lt hlt]
  rw [exec_mbxAck, execMbxAck, State.act_runs _ _ (s.windowOpen_runs hw).1, mbxGate, State.gate_pass _ _ _ _ _ hw hp, ok, hwrite, writeAck]
  dsimp only
  rw [if_neg (by simp [hgo, ackCodeOk, hnd]; omega), hnow, if_pos rfl]

end

section
variable {s : State} {id c d code v t : Nat} (hr : s.runs = true)
include hr

theorem exec_mbxCrossDefer_due (h : (s.chan c).crossFrom = some t) (ht : t + 64 ≤ s.core) :
    exec (.mbxCrossDefer c) s = .next (ringDb (s.chHi c) c
      (modMdir c 1 (fun x => { x with go := false, valid := true, code := 0x07, crossed := true, delayed := none }) s)) := by
  rw [exec_mbxCrossDefer, execMbxCrossDefer, State.act_runs _ _ hr]
  simp only [h]
  exact if_neg (Nat.not_lt.2 ht)

theorem exec_mbxAckDelayedEffect_due (h : (s.mdir c d).delayed = some (t, code)) (ht : t ≤ s.core) :
    exec (.mbxAckDelayedEffect c d) s = .next (takeAnswer c d code s) := by
  rw [exec_mbxAckDelayedEffect, execMbxAckDelayedEffect, State.act_runs _ _ hr]
  simp only [h]
  exact if_pos ht

/-- A binding of two proper identities to a channel with nothing posted clears the channel. -/
theorem exec_mbxBindWrite_change (hw : s.windowOpen = true) (hp : s.passes id .operator = true) (hl : s.fb F.BIND_CTL_LOCK = false)
    (h0 : (s.mdir c 0).go = false) (h1 : (s.mdir c 1).go = false) (hv : bitOf v 16 = true) (hne : v % 64 ≠ bitsOf v 8 6)
    (ha : v % 64 < 53) (hb : bitsOf v 8 6 < 53)
    (hch : s.rd (R.BIND c) ≠ BitVec.ofNat 32 (v % 64 + 2 ^ 8 * bitsOf v 8 6 + 2 ^ 16)) :
    exec (.mbxBindWrite id c v) s =
      .next (setChan c {} (s.wr (R.BIND c) (BitVec.ofNat 32 (v % 64 + 2 ^ 8 * bitsOf v 8 6 + 2 ^ 16)))) := by
  rw [exec_mbxBindWrite, execMbxBindWrite, State.act_runs _ _ hr, State.gate_pass _ _ _ _ _ hw hp, ok, writeBind, if_neg (by simp [hl])]
  dsimp only
  rw [if_neg (by simp [hne, h0, h1]; omega), hv]
  exact congrArg _ (if_neg hch)

end

/-! ### Requests from remote hubs -/

section
variable {s : State} {node code tag off v : Nat} (hw : s.windowOpen = true)
include hw

theorem exec_mbxReqReceive_denied (job : Nat) (h : node ∉ s.job.peers ∨ job ≠ s.job.jobId ∨ 2 < code) :
    exec (.mbxReqReceive node code tag off v job) s = .next (sendBulk node (mbxRspBytes s 1 tag off 0) s) := by
  obtain ⟨hr, hwarm⟩ := s.windowOpen_runs hw
  rw [exec_mbxReqReceive, execMbxReqReceive, State.awake_up _ _ hr hwarm, if_neg (by simp [hw])]
  exact if_pos (by rcases h with h | h | h <;> simp [h])

/-- A request from a node of the job is applied as identity 52 and answered. -/
theorem exec_mbxReqReceive_job (h2 : code ≤ 2) (hn : node ∈ s.job.peers) (ho : remoteOffset off = true) :
    exec (.mbxReqReceive node code tag off v s.job.jobId) s = .next (if code = 1 then
        sendBulk node (mbxRspBytes (remoteWrite node off v s) 0 tag off 0) (remoteWrite node off v s)
      else sendBulk node (mbxRspBytes (remoteRead off (code == 2) s).2 0 tag off (remoteRead off (code == 2) s).1)
        (remoteRead off (code == 2) s).2) := by
  obtain ⟨hr, hwarm⟩ := s.windowOpen_runs hw
  rw [exec_mbxReqReceive, execMbxReqReceive, State.awake_up _ _ hr hwarm, if_neg (by simp [hw]), if_neg (by simp [hn]; omega),
    if_neg (by simp [ho])]
  generalize remoteRead off (code == 2) s = a
  exact next_ite rfl rfl

theorem exec_mbxRspReceive_open (status : Nat) : exec (.mbxRspReceive node status tag off v) s =
    .next { s with mbx := { s.mbx with rsps := s.mbx.rsps ++ [(node, status, tag, off, v)] } } := by
  obtain ⟨hr, hwarm⟩ := s.windowOpen_runs hw
  rw [exec_mbxRspReceive, execMbxRspReceive, State.awake_up _ _ hr hwarm, if_pos hw, ok]

end

/-- Settles O49: the accesses of sender and receiver, then crossings and delayed answers, doorbells and bindings, remote requests. -/
theorem mailboxes : Obligations.Mailboxes := by
  unfold Obligations.Mailboxes
  intro s id c d code v t node status tag off hr _ hd
  refine ⟨fun hw hp hb => ⟨exec_mbxGo_post hw hp hb hd, exec_mbxRetract_unclaimed hw hp hb hd,
      fun hid _ hgo => exec_mbxClaim_posted hw hp hb hd hid hgo,
      fun hid hne hgo hcode hlt hnd hptb => exec_mbxAck_posted hw hp hb hd hid hne hgo hcode hlt hnd hptb⟩,
    exec_mbxCrossDefer_due hr, exec_mbxAckDelayedEffect_due hr, fun hw hp => ⟨?clear, ?mask⟩,
    fun hw hp => ⟨exec_mbxBindWrite_change hr hw hp, ?lock⟩,
    fun hw => ⟨exec_mbxReqReceive_denied hw, fun hn ho => ⟨exec_mbxReqReceive_job hw (by decide) hn ho,
      exec_mbxReqReceive_job hw (by decide) hn ho, exec_mbxReqReceive_job hw (by decide) hn ho⟩, exec_mbxRspReceive_open hw status⟩⟩
  case clear =>
    rw [exec_doorbellClear, execDoorbellClear, State.act_runs _ _ hr, dbGate, if_pos rfl, State.gate_pass _ _ _ _ _ hw hp, ok, clearDb]
  case mask =>
    rw [exec_doorbellMaskWrite, execDoorbellMaskWrite, State.act_runs _ _ hr, dbGate, if_pos rfl, State.gate_pass _ _ _ _ _ hw hp, ok,
      writeDbMask]
  case lock => rw [exec_mbxBindLock, execMbxBindLock, State.act_runs _ _ hr, State.gate_pass _ _ _ _ _ hw hp, ok, lockBind]

end Sys2Proof.Machine
end

section
/-! PROOFS. Release, reset, readiness, work and watchdog of a gaffer core (O51). -/

namespace Sys2Proof.Machine

/-- A core's RUN bit does not bear on the period of its watchdog. -/
theorem wdPeriod_fs_run (n m v : Nat) (s : State) : (s.fs (fRun m) v).wdPeriod n = s.wdPeriod n := by
  have haddr : (fPer n).addr ≠ (fRun m).addr := by
    unfold fPer fRun
    split <;> split <;> decide
  rw [State.wdPeriod, State.wdPeriod, State.fg_fs_other _ _ _ _ haddr]

section
variable {s : State} {id n : Nat} (hr : s.runs = true)
include hr

theorem exec_gafRelease_held (hw : s.windowOpen = true) (hp : s.passes id .operator = true) (hrun : s.fb (fRun n) = false)
    (hb : s.fb F.GAF_PATCH_STAT_BUSY = false) :
    exec (.gafRelease id n) s = .next (modCore n (fun _ => { wdFrom := s.ts, wdDead := s.ts + s.wdPeriod n })
      ((modGaf (fun g => { g with sram := g.sram.filter (fun p => decide (sramFw ≤ p.1)) }) s).fs (fRun n) 1)) := by
  rw [exec_gafRelease, execGafRelease, State.act_runs _ _ hr, State.gate_pass _ _ _ _ _ hw hp, ok, writeRun, if_pos rfl, releaseCore,
    if_neg (by simp [hrun, hb])]
  dsimp only
  rw [startCore, wdPeriod_fs_run]
  rfl

theorem exec_gafReset_custodian (hw : s.windowOpen = true) (hp : s.passes id .operator = true) (hrun : s.fb (fRun n) = true)
    (hc : 3 ≤ s.classOf id) : exec (.gafReset id n) s = .next (resetIdentities [n] (dropServices n
      (modCore n (fun _ => {}) (clearHalt n ((s.fs (fRun n) 0).fs (fReady n) 0))))) := by
  rw [exec_gafReset, execGafReset, State.act_runs _ _ hr, State.gate_pass _ _ _ _ _ hw hp, ok, writeRun, if_neg (by decide),
    if_neg (by simp [hrun]), if_neg (Nat.not_lt.2 hc), resetCore]

theorem exec_gafReset_refused (hw : s.windowOpen = true) (hp : s.passes id .operator = true) (hrun : s.fb (fRun n) = true)
    (hc : s.classOf id < 3) : exec (.gafReset id n) s = .next (refuseAccess id R.GAF_CTL s) := by
  rw [exec_gafReset, execGafReset, State.act_runs _ _ hr, State.gate_pass _ _ _ _ _ hw hp, ok, writeRun, if_neg (by decide),
    if_neg (by simp [hrun]), if_pos hc]

theorem exec_gafReady_released (hwarm : s.clk.warm = false) (hrun : s.fb (fRun n) = true) (hready : s.coreReady n = false)
    (hh : s.coreHalted n = false) : exec (.gafReady n) s = .next (coreGoesOn n (s.fs (fReady n) 1)) := by
  rw [exec_gafReady, execGafReady, State.awake_up _ _ hr hwarm, if_pos (by simp [hrun, hready, hh]), ok]

theorem exec_gafServiceDispatch_idle (hwarm : s.clk.warm = false) (w : Nat) (ws : List Nat) (hup : s.coreUp n = true)
    (hwork : (s.gcore n).work = none) (hp : s.pendingWork n = w :: ws) :
    exec (.gafServiceDispatch n) s = .next (coreGoesOn n (modCore n (fun c => { c with work := some w }) s)) := by
  rw [exec_gafServiceDispatch, execGafServiceDispatch, State.awake_up _ _ hr hwarm, if_neg (by simp [hup, hwork])]
  simp only [hp]
  rfl

theorem exec_gafYield_inTime (hwarm : s.clk.warm = false) (hrun : s.fb (fRun n) = true) (hh : s.coreHalted n = false)
    (hp : s.wdPast n = false) : exec (.gafYield n) s = .next
      (modCore n (fun c => { c with wdFrom := s.ts, wdDead := s.ts + s.wdPeriod n, pausedEver := false, work := none }) s) := by
  rw [exec_gafYield, execGafYield, State.awake_up _ _ hr hwarm, if_neg (by simp [hrun, hh, hp]), ok]

/-- A watchdog that expires records the core's PC, a free value, and restarts the core. -/
theorem exec_gafWatchdogExpiry_past (hwarm : s.clk.warm = false) (hp : s.wdPast n = true) :
    exec (.gafWatchdogExpiry n) s = .next (centralFault 0x0304 0 none (s.free.1 % 2 ^ 32)
      (n + 2 * b2n (s.gcore n).pausedEver + 4 * b2n (n == 0 && s.lehr.running)) (s.gcore n).wdFrom
      (startCore n (resetCore n (s.free.2.fsat (fExp n) 1)))) := by
  rw [exec_gafWatchdogExpiry, execGafWatchdogExpiry, State.awake_up _ _ hr hwarm, if_pos hp, ok, wdExpire, cHubWatchdog]

end

/-- Settles O51 by the lemmas above, one for each clause. -/
theorem gafferCores : Obligations.GafferCores := by
  unfold Obligations.GafferCores
  intro s id n hr _
  exact ⟨fun hw hp => ⟨exec_gafRelease_held hr hw hp, exec_gafReset_custodian hr hw hp, exec_gafReset_refused hr hw hp⟩,
    fun hwarm => ⟨exec_gafReady_released hr hwarm, exec_gafServiceDispatch_idle hr hwarm, exec_gafYield_inTime hr hwarm,
      exec_gafWatchdogExpiry_past hr hwarm⟩⟩

end Sys2Proof.Machine
end

section
/-! PROOFS. Debug of a gaffer core (O52). -/

namespace Sys2Proof.Machine

/-! ### A halted core -/

/-- The registers that show core `n` halted. -/
def haltShown (n cause hit : Nat) (s : State) : State :=
  (((((s.fs (F.GAF_DBG_STAT_HALTED n) 1).fs (F.GAF_DBG_STAT_CAUSE n) cause).fs (F.GAF_DBG_STAT_HIT n) hit).fs
    (F.GAF_DBG_STAT_DEFERRED n) 0).fs (fHalted n) 1).fs (fPaused n) 1

theorem haltCore_eq (n cause hit : Nat) (s : State) :
    haltCore n cause hit s = takeRegs n (modCore n (fun c => { c with
      deferFrom := none, wdRem := some (match c.wdRem with | some m => m | none => c.wdDead - s.ts), pausedEver := true })
      (haltShown n cause hit s)) := by
  rw [haltCore]
  exact congrArg (takeRegs n) rfl

@[simp] theorem modCore_regs (n : Nat) (f : GafCore → GafCore) (s : State) : (modCore n f s).regs = s.regs := rfl

theorem gcore_modCore (n : Nat) (f : GafCore → GafCore) (s : State) : (modCore n f s).gcore n = f (s.gcore n) := by
  unfold modCore modGaf State.gcore
  by_cases hn : n = 0 <;> simp [hn]

/-- Free values for the registers change neither a register of the hub nor a core. -/
theorem freeRegs_keeps (k : Nat) (s : State) : (freeRegs k s).2.regs = s.regs ∧ (freeRegs k s).2.gaf = s.gaf := by
  induction k with
  | zero => exact ⟨rfl, rfl⟩
  | succ k ih => exact ih

theorem takeRegs_eq (n : Nat) (s : State) :
    takeRegs n s = modCore n (fun c => { c with regs := (freeRegs 33 s).1 }) (freeRegs 33 s).2 := by
  rw [takeRegs]

theorem takeRegs_regs (n : Nat) (s : State) : (takeRegs n s).regs = s.regs := by
  rw [takeRegs_eq]
  exact (modCore_regs ..).trans (freeRegs_keeps 33 s).1

theorem takeRegs_gcore (n : Nat) (s : State) : ∃ m, (takeRegs n s).gcore n = { s.gcore n with regs := m } := by
  have hcore : (freeRegs 33 s).2.gcore n = s.gcore n := by rw [State.gcore, State.gcore, (freeRegs_keeps 33 s).2]
  exact ⟨(freeRegs 33 s).1, by rw [takeRegs_eq, gcore_modCore, hcore]⟩

theorem haltCore_regs (n cause hit : Nat) (s : State) : (haltCore n cause hit s).regs = (haltShown n cause hit s).regs := by
  rw [haltCore_eq, takeRegs_regs, modCore_regs]

theorem fb_of_regs {s t : State} (h : t.regs = s.regs) (f : Fld) : t.fb f = s.fb f := by
  rw [State.fb, State.fb, State.fg_congr s t f (State.rd_congr s t h _)]

theorem fg_of_regs {s t : State} (h : t.regs = s.regs) (f : Fld) : t.fg f = s.fg f := State.fg_congr s t f (State.rd_congr s t h _)

/-- What the debug registers show of a core that has halted. -/
theorem haltShown_fields (n cause hit : Nat) (s : State) (hn : n < 2) (hc : cause < 8) (hh : hit < 16) :
    (haltShown n cause hit s).fb (F.GAF_DBG_STAT_HALTED n) = true ∧ (haltShown n cause hit s).fg (F.GAF_DBG_STAT_CAUSE n) = cause ∧
      (haltShown n cause hit s).fg (F.GAF_DBG_STAT_HIT n) = hit ∧ (haltShown n cause hit s).fb (F.GAF_DBG_STAT_DEFERRED n) = false ∧
      (haltShown n cause hit s).fb (fHalted n) = true ∧ (haltShown n cause hit s).fb (fPaused n) = true := by
  have hP : ∀ f : Fld, f.addr = R.GAF_DBG_STAT n → f.addr ≠ (fPaused n).addr ∧ f.addr ≠ (fHalted n).addr := fun f hf => by
    rw [hf]
    unfold fPaused fHalted
    constructor <;> split <;> simp only [R.GAF_DBG_STAT, R.GAF_WDT_STAT, R.GAF_STAT] <;> omega
  have shown : ∀ f : Fld, f.addr = R.GAF_DBG_STAT n → (haltShown n cause hit s).fg f =
      ((((s.fs (F.GAF_DBG_STAT_HALTED n) 1).fs (F.GAF_DBG_STAT_CAUSE n) cause).fs (F.GAF_DBG_STAT_HIT n) hit).fs
        (F.GAF_DBG_STAT_DEFERRED n) 0).fg f := fun f hf =>
    (State.fg_fs_other _ _ _ _ (hP f hf).1).trans (State.fg_fs_other _ _ _ _ (hP f hf).2)
  have hdp : (fHalted n).addr ≠ (fPaused n).addr := by
    unfold fPaused fHalted
    split <;> decide
  have hone : ∀ f : Fld, f.fits → f.width = 1 → ∀ u : State, (u.fs f 1).fb f = true := fun f hf hw u => State.fb_fs_same u f 1 hf hw
  refine ⟨?_, ?_, ?_, ?_, ?_, ?_⟩
  · rw [State.fb, shown _ rfl, State.fg_fs_disjoint _ _ _ _ (by simp) (by simp), State.fg_fs_disjoint _ _ _ _ (by simp) (by simp),
      State.fg_fs_disjoint _ _ _ _ (by simp) (by simp)]
    exact hone _ (by simp) rfl s
  · rw [shown _ rfl, State.fg_fs_disjoint _ _ _ _ (by simp) (by simp), State.fg_fs_disjoint _ _ _ _ (by simp) (by simp),
      State.fg_fs_same _ _ _ (by simp)]
    exact Nat.mod_eq_of_lt hc
  · rw [shown _ rfl, State.fg_fs_disjoint _ _ _ _ (by simp) (by simp), State.fg_fs_same _ _ _ (by simp)]
    exact Nat.mod_eq_of_lt hh
  · rw [State.fb, shown _ rfl]
    exact State.fb_fs_same _ _ _ (by simp) rfl
  · refine (State.fb_fs_other _ _ _ _ hdp).trans (hone _ ?_ ?_ _) <;> unfold fHalted <;> split <;> decide
  · refine hone _ ?_ ?_ _ <;> unfold fPaused <;> split <;> decide

/-- A halt leaves every register but the three that show it. -/
theorem rd_haltCore_other (n cause hit a : Nat) (s : State) (h1 : a ≠ R.GAF_DBG_STAT n) (h2 : a ≠ R.GAF_STAT) (h3 : a ≠ R.GAF_WDT_STAT) :
    (haltCore n cause hit s).rd a = s.rd a := by
  have hh : a ≠ (fHalted n).addr := by unfold fHalted; split <;> exact h2
  have hp : a ≠ (fPaused n).addr := by unfold fPaused; split <;> exact h3
  rw [State.rd_congr _ _ (haltCore_regs n cause hit s) a, haltShown, State.rd_fs_other _ _ _ _ hp, State.rd_fs_other _ _ _ _ hh,
    State.rd_fs_other _ _ _ _ h1, State.rd_fs_other _ _ _ _ h1, State.rd_fs_other _ _ _ _ h1, State.rd_fs_other _ _ _ _ h1]

/-- The core itself after a halt: no deferred halt, and its watchdog keeps what remained. -/
theorem haltCore_gcore (n cause hit : Nat) (s : State) :
    ((haltCore n cause hit s).gcore n).deferFrom = none ∧ ((haltCore n cause hit s).gcore n).pausedEver = true ∧
      ((haltCore n cause hit s).gcore n).wdRem = some (match (s.gcore n).wdRem with | some m => m | none => (s.gcore n).wdDead - s.ts) := by
  have hsame : (haltShown n cause hit s).gcore n = s.gcore n := rfl
  rw [haltCore_eq]
  obtain ⟨m, hm⟩ := takeRegs_gcore n (modCore n (fun c => { c with
    deferFrom := none, wdRem := some (match c.wdRem with | some m => m | none => c.wdDead - s.ts), pausedEver := true })
    (haltShown n cause hit s))
  rw [hm, gcore_modCore, hsame]
  exact ⟨rfl, rfl, rfl⟩

theorem haltCore_halts (s : State) (n cause hit : Nat) (hn : n < 2) (hc : cause < 8) (hh : hit < 16) :
    let t : State := haltCore n cause hit s
    t.coreHalted n = true ∧ t.fg (F.GAF_DBG_STAT_CAUSE n) = cause ∧ t.fg (F.GAF_DBG_STAT_HIT n) = hit ∧
      t.fb (F.GAF_DBG_STAT_DEFERRED n) = false ∧ t.fb (fHalted n) = true ∧ t.fb (fPaused n) = true ∧
      (t.gcore n).deferFrom = none ∧ (t.gcore n).pausedEver = true ∧
      ((s.gcore n).wdRem = none → (t.gcore n).wdRem = some ((s.gcore n).wdDead - s.ts)) ∧ t.wdPast n = false := by
  intro t
  have hregs := haltCore_regs n cause hit s
  obtain ⟨h1, h2, h3, h4, h5, h6⟩ := haltShown_fields n cause hit s hn hc hh
  obtain ⟨hdef, hpaused, hrem⟩ := haltCore_gcore n cause hit s
  exact ⟨(fb_of_regs hregs _).trans h1, (fg_of_regs hregs _).trans h2, (fg_of_regs hregs _).trans h3, (fb_of_regs hregs _).trans h4,
    (fb_of_regs hregs _).trans h5, (fb_of_regs hregs _).trans h6, hdef, hpaused, fun h => by rw [hrem, h],
    by simp only [State.wdPast, t, hrem, Option.isNone_some, Bool.and_false, Bool.false_and]⟩

/-! ### Requests of a debugger -/

section
variable {s : State} {id n v t : Nat} (hr : s.runs = true)

theorem haltOrExpire_inTime (cause hit : Nat) (h : s.wdPast n = false) : haltOrExpire n cause hit s = haltCore n cause hit s :=
  if_neg (by simp [h])

include hr

section
variable (hw : s.windowOpen = true) (hp : s.passes id .custodian = true)
include hw hp

/-- The three requests reach the core. -/
theorem exec_gafDbg_open : (∀ inSeq, exec (.gafDbgHalt id n inSeq) s = .next (haltReq n inSeq s)) ∧
    exec (.gafDbgRun id n) s = .next (runReq n s) ∧ exec (.gafDbgStep id n) s = .next (stepReq n s) ∧
    ∀ v, exec (.gafDbgDataWrite id n v) s = .next (writeDbgData n v s) := by
  refine ⟨fun inSeq => ?_, ?_, ?_, fun v => ?_⟩
  · rw [exec_gafDbgHalt, execGafDbgHalt, State.act_runs _ _ hr, State.gate_pass _ _ _ _ _ hw hp, ok]
  · rw [exec_gafDbgRun, execGafDbgRun, State.act_runs _ _ hr, State.gate_pass _ _ _ _ _ hw hp, ok]
  · rw [exec_gafDbgStep, execGafDbgStep, State.act_runs _ _ hr, State.gate_pass _ _ _ _ _ hw hp, ok]
  · rw [exec_gafDbgDataWrite, execGafDbgDataWrite, State.act_runs _ _ hr, State.gate_pass _ _ _ _ _ hw hp, ok]

/-- The memory port steps its address with each access; ROM is read and takes no write, and the SRAM between firmware and KEEP
takes one. -/
theorem exec_gafMemAccess_open (a : Nat) (ha : s.fg F.GAF_MEM_ADDR_ADDR / 4 * 4 = a) :
    (a < 0x40000 → exec (.gafMemAccess id false v) s = .next (presentRead (Sys2Proof.Config.romWord (a / 4) % 2 ^ 32) (stepAddr s)) ∧
      exec (.gafMemAccess id true v) s = .next (portErr (stepAddr s))) ∧
    (0x10020000 ≤ a → a < 0x10040000 → exec (.gafMemAccess id true v) s = .next
      (modGaf (fun g => { g with sram := mput g.sram ((a - 0x10000000) / 4) (v % 2 ^ 32) }) (stepAddr s))) := by
  have hread : exec (.gafMemAccess id false v) s = .next (presentRead (readGafMem s).1 (readGafMem s).2) := by
    rw [exec_gafMemAccess, execGafMemAccess, State.act_runs _ _ hr, State.gate_pass _ _ _ _ _ hw hp, ok, if_neg (by decide)]
  have hwrite : exec (.gafMemAccess id true v) s = .next (writeGafMem v s) := by
    rw [exec_gafMemAccess, execGafMemAccess, State.act_runs _ _ hr, State.gate_pass _ _ _ _ _ hw hp, ok, if_pos rfl]
  refine ⟨fun hrom => ⟨hread.trans ?_, hwrite.trans ?_⟩, fun hlo hhi => hwrite.trans ?_⟩
  · have h : readGafMem s = (Config.romWord (a / 4) % 2 ^ 32, stepAddr s) := by
      rw [readGafMem, ha, if_pos hrom]
    rw [h]
  · have hnone : sramIndex a = none := if_neg (by omega)
    rw [writeGafMem]
    simp only [ha, hnone]
  · have hsome : sramIndex a = some ((a - 0x10000000) / 4) := if_pos (by omega)
    rw [writeGafMem]
    simp only [ha, hsome]
    have hfw : decide ((a - 0x10000000) / 4 < sramFw) = false := decide_eq_false (by simp only [sramFw]; omega)
    rw [writeSram, if_neg (by simp only [sramKeep]; omega), hfw, Bool.false_and, if_neg (by decide)]

end

theorem exec_deferredHaltTake_due (hdef : (s.gcore n).deferFrom = some t) (hp : s.wdPast n = false) (ht : s.core ≤ t + 256) :
    exec (.deferredHaltTake n) s = .next (haltCore n 3 0 s) := by
  rw [exec_deferredHaltTake, execDeferredHaltTake, State.act_runs _ _ hr]
  simp only [hdef]
  rw [if_pos ht, ok, haltOrExpire_inTime 3 0 hp]

theorem exec_lockedHaltForce_due (hdef : (s.gcore n).deferFrom = some t) (hp : s.wdPast n = false) (ht : t + 256 ≤ s.core) :
    exec (.lockedHaltForce n) s = .next (haltCore n 3 0 s) := by
  rw [exec_lockedHaltForce, execLockedHaltForce, State.act_runs _ _ hr]
  simp only [hdef]
  rw [if_pos ht, ok, haltOrExpire_inTime 3 0 hp]

/-- A BREAK unit halts its core with the unit's word as PC. -/
theorem exec_gafBreakHit_unit (unit : Nat) (hrun : s.fb (fRun n) = true) (hh : s.coreHalted n = false) (hu : unit < 16)
    (hen : s.fb (F.GAF_PU_CFG_EN unit) = true) (hk : s.isPatch unit = false) (hp : s.wdPast n = false) :
    exec (.gafBreakHit n unit) s = .next (modCore n (fun c => { c with
      regs := mput c.regs 32 (32 * s.fg (F.GAF_PU_CFG_LINE unit) + 4 * s.fg (F.GAF_PU_CFG_WORD unit)) }) (haltCore n 1 unit s)) := by
  have hcfg : (haltCore n 1 unit s).rd (R.GAF_PU_CFG unit) = s.rd (R.GAF_PU_CFG unit) := by
    refine rd_haltCore_other n 1 unit _ s ?_ ?_ ?_ <;> simp only [R.GAF_PU_CFG, R.GAF_DBG_STAT, R.GAF_STAT, R.GAF_WDT_STAT] <;> omega
  rw [exec_gafBreakHit, execGafBreakHit, State.act_runs _ _ hr, if_neg (by simp [hrun, hh]), if_neg (Nat.not_le.2 hu),
    if_neg (by simp [hen, hk])]
  dsimp only
  rw [if_neg (by simp [hp]), haltOrExpire_inTime 1 unit hp, ok, State.fg_congr _ _ (F.GAF_PU_CFG_LINE unit) hcfg,
    State.fg_congr _ _ (F.GAF_PU_CFG_WORD unit) hcfg]

end

/-- Settles O52: the requests by what their bodies do in each state of the core, then what a halt shows. -/
theorem gafferDebug : Obligations.GafferDebug := by
  unfold Obligations.GafferDebug
  refine ⟨fun s id n unit v t i hr _ => ⟨fun hw hp => ?port, fun hdef hp => ⟨exec_deferredHaltTake_due hr hdef hp,
    exec_lockedHaltForce_due hr hdef hp⟩, fun hrun hh hu => exec_gafBreakHit_unit hr unit hrun hh hu⟩, haltCore_halts⟩
  case port =>
    obtain ⟨hhalt, hrun, hstep, hdata⟩ := exec_gafDbg_open (n := n) hr hw hp
    refine ⟨fun hready hh hdef hpast => ⟨(hhalt false).trans ?_, (hhalt true).trans ?_⟩, fun hready hh => ⟨hrun.trans ?_, hstep.trans ?_⟩,
      fun hready => ⟨(hhalt true).trans ?_, hrun.trans ?_, hstep.trans ?_⟩,
      fun hh hi => ⟨fun h0 => (hdata v).trans ?_, fun h1 h32 => (hdata v).trans ?_⟩, fun hh => (hdata v).trans ?_,
      fun a ha => exec_gafMemAccess_open hr hw hp a ha⟩
    · rw [haltReq, if_neg (by simp [hready]), if_neg (by simp [hh, hdef]), if_neg (by decide), haltOrExpire_inTime 3 0 hpast]
    · rw [haltReq, if_neg (by simp [hready]), if_neg (by simp [hh, hdef]), if_pos rfl]
    · rw [runReq, if_neg (by simp [hready]), runCore, if_neg (by simp [hh])]
    · rw [stepReq, if_neg (by simp [hready]), if_neg (by simp [hh])]
    · rw [haltReq, if_pos (by simp [hready]), dbgErr]
    · rw [runReq, if_pos (by simp [hready]), dbgErr]
    · rw [stepReq, if_pos (by simp [hready]), dbgErr]
    · rw [writeDbgData, if_neg (by simp [hh]), if_pos (by simp [hi, h0])]
    · rw [writeDbgData, if_neg (by simp [hh]), if_neg (by simp [hi]; omega), hi, if_neg (by omega)]
    · rw [writeDbgData, if_pos (by simp [hh]), dbgErr]

end Sys2Proof.Machine
end

section
/-! PROOFS. Patch blobs, their checks and the scrubber (O53). -/

namespace Sys2Proof.Machine

section
variable {s : State} {id unit v : Nat} (hr : s.runs = true)
include hr

section
variable (hw : s.windowOpen = true) (hp : s.passes id .custodian = true)
include hw hp

theorem exec_patchRestart_open : exec (.patchRestart id) s = .next (s.fs F.GAF_BLOB_WPTR_WPTR 0) := by
  rw [exec_patchRestart, execPatchRestart, State.act_runs _ _ hr, State.gate_pass _ _ _ _ _ hw hp, ok, restartBlob]

/-- A blob word goes to the pointer, which moves on, up to 64 KiB. -/
theorem exec_patchBlobWrite_open : exec (.patchBlobWrite id v) s = .next (if 65536 ≤ s.fg F.GAF_BLOB_WPTR_WPTR then s else
    (modGaf (fun g => { g with sram := mput g.sram (sramStage + s.fg F.GAF_BLOB_WPTR_WPTR / 4) (v % 2 ^ 32) }) s).fs
      F.GAF_BLOB_WPTR_WPTR (s.fg F.GAF_BLOB_WPTR_WPTR + 4)) := by
  rw [exec_patchBlobWrite, execPatchBlobWrite, State.act_runs _ _ hr, State.gate_pass _ _ _ _ _ hw hp, ok, writeBlob]

theorem exec_patchApply_open : exec (.patchApply id) s = .next (if s.fwRuns then s else s.fs F.GAF_PATCH_STAT_BUSY 1) := by
  rw [exec_patchApply, execPatchApply, State.act_runs _ _ hr, State.gate_pass _ _ _ _ _ hw hp, ok, applyBlob]

theorem exec_patchUnitWrite_open : exec (.patchUnitWrite id unit v) s =
    .next (if s.isPatch unit then s.fs F.GAF_PATCH_STAT_ERR 1 else s.wrN (R.GAF_PU_CFG unit) (v % 2 ^ 17)) := by
  rw [exec_patchUnitWrite, execPatchUnitWrite, State.act_runs _ _ hr, State.gate_pass _ _ _ _ _ hw hp, ok, writeUnit]

end

theorem exec_patchChecksDone_pass (hwarm : s.clk.warm = false) (hb : s.fb F.GAF_PATCH_STAT_BUSY = true)
    (hc : (s.fs F.GAF_PATCH_STAT_BUSY 0).blobCheck s.stageBytes = none) :
    exec .patchChecksDone s = .next (installBlob s.stageBytes ((s.fs F.GAF_PATCH_STAT_BUSY 0).fs F.GAF_PATCH_STAT_CHECK 0)) := by
  rw [exec_patchChecksDone, execPatchChecksDone, State.awake_up _ _ hr hwarm, if_neg (by simp [hb])]
  simp only [hc]
  rw [ok]

theorem exec_patchChecksDone_fail (k : Nat) (hwarm : s.clk.warm = false) (hb : s.fb F.GAF_PATCH_STAT_BUSY = true)
    (hc : (s.fs F.GAF_PATCH_STAT_BUSY 0).blobCheck s.stageBytes = some k) :
    exec .patchChecksDone s = .next (centralFault 0x0305 0 none (leAt s.stageBytes 0x0E 2) k 0
      ((s.fs F.GAF_PATCH_STAT_BUSY 0).fs F.GAF_PATCH_STAT_CHECK k)) := by
  rw [exec_patchChecksDone, execPatchChecksDone, State.awake_up _ _ hr hwarm, if_neg (by simp [hb])]
  simp only [hc]
  rw [ok, cPatchIntegrity]

/-- The scrubber leaves a line whose CRC is as stored; a changed line disables its unit and is recorded. -/
theorem exec_patchScrub_line (line : List Nat) (hk : s.isPatch unit = true) (hen : s.fb (F.GAF_PU_CFG_EN unit) = true) :
    let u : State := if line.isEmpty then s else putLine unit line s
    exec (.patchScrub unit line) s = .next (if crc32c (bytesOfWords (u.patchLine unit)) = u.fg (F.GAF_PU_CRC_CRC unit) then u else
      centralFault 0x0305 0 none (u.fg (F.GAF_PU_CRC_CRC unit)) (8 + 2 ^ 8 * unit) (crc32c (bytesOfWords (u.patchLine unit)))
        ((showUnits (u.fs (F.GAF_PU_CFG_EN unit) 0)).fs F.GAF_FW_VER_PATCH_FAULT 1)) := by
  intro u
  rw [exec_patchScrub, execPatchScrub, State.act_runs _ _ hr, if_neg (by simp [hk, hen])]
  exact next_ite rfl rfl

end

/-- Settles O53: the registers by one equation each, the checks by what they find, the scrubber by the CRC of its line. -/
theorem signedPatches : Obligations.SignedPatches := by
  unfold Obligations.SignedPatches
  intro s id unit v p k line hr
  refine ⟨fun hw hp => ⟨exec_patchRestart_open hr hw hp, fun hptr => ?blob, fun hf => ?apply, fun hf => ?ignored, fun hk => ?unit, fun hk => ?patch⟩,
    fun hwarm hb => ⟨exec_patchChecksDone_pass hr hwarm hb, exec_patchChecksDone_fail hr k hwarm hb⟩,
    fun hk hen => ⟨fun hcrc => ?good, fun hl hcrc => ?changed⟩⟩
  case blob =>
    subst hptr
    exact ⟨fun hlt => (exec_patchBlobWrite_open hr hw hp).trans (congrArg _ (if_neg (Nat.not_le.2 hlt))),
      fun hge => (exec_patchBlobWrite_open hr hw hp).trans (congrArg _ (if_pos hge))⟩
  case apply => exact (exec_patchApply_open hr hw hp).trans (congrArg _ (if_neg (by simp [hf])))
  case ignored => exact (exec_patchApply_open hr hw hp).trans (congrArg _ (if_pos hf))
  case unit => exact (exec_patchUnitWrite_open hr hw hp).trans (congrArg _ (if_neg (by simp [hk])))
  case patch => exact (exec_patchUnitWrite_open hr hw hp).trans (congrArg _ (if_pos hk))
  case good => exact (exec_patchScrub_line hr [] hk hen).trans (congrArg _ (if_pos hcrc))
  case changed =>
    have hput : (if line.isEmpty then s else putLine unit line s) = putLine unit line s := if_neg (by simpa using hl)
    have h := exec_patchScrub_line hr line hk hen
    rw [hput] at h
    exact h.trans (congrArg _ (if_neg hcrc))

end Sys2Proof.Machine
end

section
/-! PROOFS. Sessions of the Rolsal port (O54). -/

namespace Sys2Proof.Machine

theorem runs_of_portAlive {s : State} (h : s.portAlive = true) : s.runs = true := by
  simp only [State.portAlive, Bool.and_eq_true] at h
  simp only [State.runs, Bool.and_eq_true]
  exact h.1

theorem expireSession_young {s : State} (hi : s.sessIdle = false) (ho : s.sessOld = false) : expireSession s = s :=
  if_neg (by simp [hi, ho])

theorem expireSession_past {s : State} (h : s.sessIdle = true ∨ s.sessOld = true) : expireSession s = endSession s :=
  if_pos (by simpa using h)

theorem modAuth_congr {s : State} {f g : AuthState → AuthState} (h : f s.rolsal.auth = g s.rolsal.auth) : modAuth f s = modAuth g s :=
  congrArg (fun a => modAuth (fun _ => a) s) h

/-- The state in which a write of window 0 acts: an expired session is over, and the request counts for the idle timer. -/
def accepted (s : State) : State := modRs (fun r => { r with response := 6, data := 0 }) (rsAccept (expireSession s))

/-- Acceptance moves neither the session nor TS. -/
theorem accepted_keeps (s : State) : (accepted s).rolsal.auth = (expireSession s).rolsal.auth ∧ (accepted s).ts = (expireSession s).ts := by
  unfold accepted
  generalize expireSession s = x
  exact ⟨rfl, rfl⟩

theorem win0_accepted {s : State} (hl : s.portAlive = true) (hk : s.rolsal.lockout = false) (f : State → State) :
    win0 f s = f (accepted s) :=
  if_pos (by simp [hl, hk])

/-- BEGIN draws a challenge of two free values once the wait of a failure is over. -/
theorem authBegin_draws (u : State) (h : u.rolsal.auth.waitUntil ≤ u.ts) :
    ∃ a : AuthState, authBegin u = modAuth (fun _ => a) (endSession u).free.2.free.2 ∧
      a.st = 1 ∧ a.nh = (endSession u).free.1 % 2 ^ 256 ∧ a.eh = (endSession u).free.2.free.1 % 2 ^ 256 ∧
      a.pub = Sys2Proof.Config.x25519 a.eh 9 % 2 ^ 256 ∧ a.wptr = 0 ∧ a.hsig = 0 ∧
      a.out = toLe 32 a.nh ++ toLe 32 a.pub ++ toLe 8 (mget (endSession u).otp.vals 1 0) ++ toLe 4 (endSession u).node ++ toLe 4 0 := by
  rw [authBegin, if_neg (Nat.not_lt.2 h)]
  generalize endSession u = w
  exact ⟨_, rfl, rfl, rfl, rfl, rfl, rfl, rfl, rfl⟩

theorem authRenew_right {u : State} {v : Nat} (hs : u.hasSession = true) (h : v = renewMac u.rolsal.auth.sk u.rolsal.auth.seq) :
    authRenew v u = modRs (fun r => { r with count := 0, renewDue := false, auth := { r.auth with seq := (r.auth.seq + 1) % 2 ^ 32 } }) u := by
  rw [authRenew, if_neg (by simp [hs]), if_pos h]

theorem authRenew_wrong {u : State} {v : Nat} (hs : u.hasSession = true) (h : v ≠ renewMac u.rolsal.auth.sk u.rolsal.auth.seq) :
    authRenew v u = authFail 8 (endSession u) := by
  rw [authRenew, if_neg (by simp [hs]), if_neg h]

theorem authGrant_session (s : State) :
    (authGrant s).hasSession = true ∧ (authGrant s).rolsal.count = 0 ∧ (authGrant s).rolsal.auth.fails = 0 ∧
      (authGrant s).rolsal.auth.seq = 0 ∧ (authGrant s).rolsal.sessClass = leAt ((certsOf s.rolsal.auth).headD []) 6 1 + 1 :=
  ⟨rfl, rfl, rfl, rfl, rfl⟩

section
variable {s : State} {id e t : Nat} (hr : s.runs = true)
include hr

/-- The end of a verification: a check that fails, or a session. -/
theorem exec_authVerifyDone_checked (hst : s.rolsal.auth.st = 2) :
    (s.authCheck s.rolsal.auth = some e → exec .authVerifyDone s = .next (authFail e s)) ∧
    (s.authCheck s.rolsal.auth = none → exec .authVerifyDone s = .next (authGrant s)) := by
  constructor <;> intro hc <;> rw [exec_authVerifyDone, execAuthVerifyDone, State.act_runs _ _ hr, if_neg (by simp [hst])] <;>
    simp only [hc] <;> rw [ok]

theorem exec_rolsalIdleTimeout_past (hs : s.sessIdle = true) : exec .rolsalIdleTimeout s = .next (endSession s) := by
  rw [exec_rolsalIdleTimeout, execRolsalIdleTimeout, State.act_runs _ _ hr, if_pos hs, ok]

theorem exec_rolsalSessionExpiry_past (hs : s.sessOld = true) : exec .rolsalSessionExpiry s = .next (endSession s) := by
  rw [exec_rolsalSessionExpiry, execRolsalSessionExpiry, State.act_runs _ _ hr, if_pos hs, ok]

/-- RS_SESS.END ends a session, but not a custodian's for a master below that class. -/
theorem exec_rsSessEndWrite_open (hw : s.windowOpen = true) (hp : s.passes id .operator = true) :
    exec (.rsSessEndWrite id) s = .next (if s.rolsal.sessClass == 3 && decide (s.classOf id < 3) then s else endSession s) := by
  rw [exec_rsSessEndWrite, execRsSessEndWrite, State.act_runs _ _ hr, State.gate_pass _ _ _ _ _ hw hp, ok, rsSessEnd]

end

/-- Settles O54: window 0 acts on `accepted`, the rest by the lemmas above. -/
theorem rolsalSessions : Obligations.RolsalSessions := by
  unfold Obligations.RolsalSessions
  intro s id v e t hl x u
  have hr := runs_of_portAlive hl
  obtain ⟨hauth, hts⟩ := accepted_keeps s
  refine ⟨expireSession_young, expireSession_past, ?reset, fun hk => ⟨fun hw => ?begins, fun hw => ?waits, fun hp => ?input, ?verify, ?ends,
      fun hs hv => ?renewed, fun hs hv => ?failed⟩, fun hst => ⟨(exec_authVerifyDone_checked hr hst).1,
      fun hc => ⟨(exec_authVerifyDone_checked (e := e) hr hst).2 hc, authGrant_session s⟩⟩,
    fun hs hp => exec_rolsalIdleTimeout_past hr (Bool.and_eq_true_iff.2 ⟨hs, hp⟩), fun hs he hp => ?expiry,
    fun hw hp => ⟨fun h => ?any, fun h3 hc => ?kept⟩⟩
  case reset => rw [exec_rolsalLineReset, execRolsalLineReset, State.act_runs _ _ hr, if_pos hl, ok, lineReset]
  case begins =>
    obtain ⟨a, ha, hfields⟩ := authBegin_draws (accepted s) (by rw [hauth, hts]; exact hw)
    refine ⟨a, ?_, hfields⟩
    rw [exec_authBegin, execAuthBegin, State.act_runs _ _ hr, win0_accepted hl hk, ok]
    exact congrArg _ ha
  case waits =>
    rw [exec_authBegin, execAuthBegin, State.act_runs _ _ hr, win0_accepted hl hk, ok]
    exact congrArg _ (if_pos (by rw [hauth, hts]; exact hw))
  case input =>
    rw [exec_authInWrite, execAuthInWrite, State.act_runs _ _ hr, win0_accepted hl hk, ok]
    exact congrArg _ (modAuth_congr (if_neg (by rw [hauth]; exact Nat.not_le.2 hp)))
  case verify => rw [exec_authVerify, execAuthVerify, State.act_runs _ _ hr, win0_accepted hl hk, ok, authVerify, hauth]; rfl
  case ends => rw [exec_authEnd, execAuthEnd, State.act_runs _ _ hr, win0_accepted hl hk, ok]; rfl
  case renewed =>
    rw [exec_authRenewWrite, execAuthRenewWrite, State.act_runs _ _ hr, win0_accepted hl hk, ok]
    exact congrArg _ (authRenew_right (by rw [State.hasSession, hauth]; exact hs) (by rw [hauth]; exact hv))
  case failed =>
    rw [exec_authRenewWrite, execAuthRenewWrite, State.act_runs _ _ hr, win0_accepted hl hk, ok]
    exact congrArg _ (authRenew_wrong (by rw [State.hasSession, hauth]; exact hs) (by rw [hauth]; exact hv))
  case expiry => exact exec_rolsalSessionExpiry_past hr (by rw [State.sessOld, hs, he]; simpa using hp)
  case any => exact (exec_rsSessEndWrite_open hr hw hp).trans (congrArg _ (if_neg (by rcases h with h | h <;> simp [h])))
  case kept => exact (exec_rsSessEndWrite_open hr hw hp).trans (congrArg _ (if_pos (by simp [h3, hc])))

end Sys2Proof.Machine
end

section
/-! PROOFS. Packets, pending accesses and the drain of the Rolsal port (O55). -/

namespace Sys2Proof.Machine

/-! ### What a request meets -/

theorem expireAcc_young {s : State} (h : ∀ c, s.rolsal.acc = some c → s.past (c.start + s.damTmo) = false) : expireAcc s = s := by
  unfold expireAcc
  split
  case h_1 a ha => exact if_neg (by simp [h a ha])
  case h_2 => rfl

theorem portNow_young {s : State} (hi : s.sessIdle = false) (ho : s.sessOld = false)
    (ha : ∀ c, s.rolsal.acc = some c → s.past (c.start + s.damTmo) = false) : portNow s = s := by
  rw [portNow, expireSession_young hi ho, expireAcc_young ha]

section
variable {s : State} {req : Nat} {read : Bool} (f : State → State)

theorem takeRequest_lockout (hk : s.rolsal.lockout = true) : takeRequest read req f s = respond 7 0 s := if_pos (by simp [hk])

theorem takeRequest_badParity (hl : s.portAlive = true) (hk : s.rolsal.lockout = false) (h0 : bitOf req 0 = true) (hg : rqGood req = false) :
    takeRequest read req f s = respond 7 0 (modRs (fun r => { r with lockout := true, protoErrs := satAdd 8 r.protoErrs 1 }) s) := by
  rw [takeRequest, if_neg (by simp [hl, hk]), if_neg (by simp [h0]), if_pos (by simp [hg]), rsNone]

theorem takeRequest_taken (hl : s.portAlive = true) (hk : s.rolsal.lockout = false) (h0 : bitOf req 0 = true) (hg : rqGood req = true)
    (hd : rqRead req = read) : takeRequest read req f s = f (portNow s) := by
  rw [takeRequest, if_neg (by simp [hl, hk]), if_neg (by simp [h0]), if_neg (by simp [hg]), if_neg (by simp [hd])]

end

/-! ### Windows 1 to 3 -/

section
variable {x : State} {win : Nat}

theorem rsRefuses_auth (h : x.rsMay win = false) : x.rsRefuses win = some 2 := if_pos (by simp [h])

theorem rsRefuses_fault (h : x.rsMay win = true) (hs : x.rsSticky = true) : x.rsRefuses win = some 5 := by
  rw [State.rsRefuses, if_neg (by simp [h]), if_pos hs, rsFault]

theorem rsRefuses_none (h : x.rsMay win = true) (hs : x.rsSticky = false) : x.rsRefuses win = none := by
  rw [State.rsRefuses, if_neg (by simp [h]), if_neg (by simp [hs])]

end

section
variable {x : State} {req : Nat}

theorem readPacket_refused {code : Nat} (h : x.rsRefuses (rqWin req) = some code) : readPacket req x = respond code 0 x := by
  rw [readPacket]
  simp only [h]

theorem writePacket_refused {code : Nat} (v : Nat) (parity : Bool) (h : x.rsRefuses (rqWin req) = some code) :
    writePacket req v parity x = respond code 0 x := by
  rw [writePacket]
  simp only [h]

/-- A read that no access is pending before and that repeats none. -/
theorem readPacket_new (h : x.rsRefuses (rqWin req) = none) (hp : x.rsPending = false) (hk : x.rolsal.lastRead ≠ some (rqKey req)) :
    readPacket req x = if isC (rqWin req) (rqReg req) then
        respond 3 0 (startC true (rqWin req) (rqReg req) 0 (modRs (fun r => { r with lastRead := some (rqKey req), kept := none }) x))
      else respond 6 (readP (rqWin req) (rqReg req) x) (modRs (fun r => { r with lastRead := some (rqKey req) }) (rsCount (rsForget x))) := by
  rw [readPacket]
  simp only [h]
  rw [if_neg (by simp [hk]), if_neg (by simp [hp]), rsWait, rsOk]

theorem writePacket_newC (v : Nat) (h : x.rsRefuses (rqWin req) = none) (hp : x.rsPending = false)
    (hk : x.rolsal.lastWrite ≠ some (rqKey req)) (hc : isC (rqWin req) (rqReg req) = true) :
    writePacket req v true x = startC false (rqWin req) (rqReg req) v
      (modRs (fun r => { r with lastWrite := some (rqKey req) }) (respond 6 0 (rsCount (rsForget x)))) := by
  rw [writePacket]
  simp only [h]
  rw [if_neg (by simp [hk]), if_neg (by simp [hp]), if_neg (by decide), if_pos hc, rsOk]

end

/-! ### The packets -/

section
variable {s : State} {req : Nat} (hl : s.portAlive = true) (hk : s.rolsal.lockout = false) (h0 : bitOf req 0 = true)
  (hg : rqGood req = true)
include hl hk h0 hg

theorem exec_rolsalReadPacket_taken (hd : rqRead req = true) :
    exec (.rolsalReadPacket req) s = .next (if rqWin req = 0 then
        respond 6 (readWin0 (rqReg req) (rsAccept (portNow s))).1 (readWin0 (rqReg req) (rsAccept (portNow s))).2
      else readPacket req (portNow s)) := by
  rw [exec_rolsalReadPacket, execRolsalReadPacket, takeRequest_taken _ hl hk h0 hg hd, ok, rsOk]

theorem exec_rolsalWritePacket_taken (hd : rqRead req = false) (v : Nat) (parity : Bool) :
    exec (.rolsalWritePacket req v parity) s = .next (if rqWin req = 0 then
        (if parity then writeWin0 (rqReg req) v (respond 6 0 (rsAccept (portNow s)))
          else modRs (fun r => { r with wdataPar := true }) (respond 6 0 (rsAccept (portNow s))))
      else writePacket req v parity (portNow s)) := by
  rw [exec_rolsalWritePacket, execRolsalWritePacket, takeRequest_taken _ hl hk h0 hg hd, ok, rsOk]

end

/-- RS_ERR shows the sticky bits and the cause, and clears them. -/
theorem readWin0_err (x : State) : readWin0 2 (rsAccept x) = (x.rsBits.1 + 8 * x.rolsal.accCause,
    modRs (fun r => { r with wdataPar := false, accErr := false, accTmo := false, accCause := 0 }) (rsAccept x)) := rfl

/-! ### The pending access -/

section
variable {s : State} (hl : s.portAlive = true) (a : RsAccess) (ha : s.rolsal.acc = some a)
include hl ha

theorem exec_rolsalAccessTimeout_past (hp : s.past (a.start + s.damTmo) = true) :
    exec .rolsalAccessTimeout s = .next (modRs (fun r => { r with accTmo := true }) (rsAbandon s)) := by
  rw [exec_rolsalAccessTimeout, execRolsalAccessTimeout, State.act_runs _ _ (runs_of_portAlive hl), ok, expireAcc]
  simp only [ha]
  rw [if_pos hp]

theorem exec_rolsalAccessComplete_inTime (hp : s.past (a.start + s.damTmo) = false) :
    exec .rolsalAccessComplete s = .next (performC a s) := by
  rw [exec_rolsalAccessComplete, execRolsalAccessComplete, State.act_runs _ _ (runs_of_portAlive hl)]
  simp only [ha]
  exact if_neg (by simp [hl, hp])

end

theorem performC_answered {a : RsAccess} {v : Nat} (s : State) (h : a.answer = some (true, v)) : performC a s = endC a v s := by
  rw [performC]
  simp only [h]
  rw [if_neg (by simp), if_pos trivial]

theorem performC_gafWrite {a : RsAccess} (s : State) (h : a.answer = none) (ho : a.out = false) (hw : a.win = 2) (hr : a.read = false) :
    performC a s = endC a 0 (writeReg 2 (0x0D0000 + 4 * a.reg) a.value s) := by
  rw [performC]
  simp only [h]
  rw [if_neg (by simp [ho]), if_neg (by simp [hw]), if_pos hw, gafAccess, if_neg (by simp [hr])]

/-- An access of window 1 at an address that is no multiple of 4 fails, on the bus and in the hub. -/
theorem performC_misaligned {a : RsAccess} (s : State) (h : a.answer = none) (ho : a.out = false) (hw : a.win = 1)
    (hm : s.rolsal.addr % 4 ≠ 0) : performC a s = failC 1 s := by
  rw [performC]
  simp only [h]
  rw [if_neg (by simp [ho]), if_pos hw, damAccess]
  dsimp only
  by_cases hb : bitOf s.rolsal.mode 0 = true
  · rw [if_pos hb, if_pos (by simp [hm])]
  · rw [if_neg hb, if_pos (by simp [hm])]

/-! ### The drain -/

theorem win3Write_new {s : State} (f : State → State) (hl : s.portAlive = true) (hk : s.rolsal.lockout = false)
    (hm : (portNow s).rsMay 3 = true) (hs : (portNow s).rsSticky = false) (hp : (portNow s).rsPending = false) :
    win3Write f s = f (respond 6 0 (rsCount (rsForget (portNow s)))) := by
  rw [win3Write, if_neg (by simp [hl, hk])]
  simp only [rsRefuses_none hm hs]
  rw [if_neg (by simp [hp]), rsOk]

/-- What the answer to a write of window 3 leaves. -/
theorem respond_count_forget (x : State) : (respond 6 0 (rsCount (rsForget x))).rings = x.rings ∧
    (respond 6 0 (rsCount (rsForget x))).rolsal.drain = x.rolsal.drain ∧
    (respond 6 0 (rsCount (rsForget x))).rolsal.drnWord = x.rolsal.drnWord := by
  unfold respond rsCount rsAccept rsForget modRs
  exact ⟨rfl, rfl, rfl⟩

theorem drainStart_free (u : State) (h : u.rings.cmds.any (fun c => c.opcode == 0x23 && c.phase != .accepted && c.phase != .completing) = false) :
    drainStart u = drainBoundary (modRs (fun r => { r with drain := true, drnCount := 0, drnWord := 0, drnStop := false }) u) :=
  if_neg (by simp only [h]; decide)

theorem drainStop_inBlock (u : State) (hd : u.rolsal.drain = true) (hw : u.rolsal.drnWord ≠ 0) :
    drainStop u = modRs (fun r => { r with drnStop := true }) u := by
  rw [drainStop, if_neg (by simp [hd])]
  exact if_neg hw

/-- The first OK to a read of DRN_DATA delivers the word and consumes it. -/
theorem deliver_drain {x : State} {k : Nat × Nat × Nat} {w : Nat} (hlast : x.rolsal.lastRead = some k) (h3 : k.1 = 3) (h2 : k.2.1 = 2)
    (hkept : x.rolsal.kept = some w) (hf : x.rolsal.fresh = true) :
    deliver x = respond 6 w (drainConsume (rsCount (modRs (fun r => { r with fresh := false, lastWrite := none }) x))) := by
  rw [deliver]
  simp only [hlast, hkept, hf, h3, h2, if_true, Option.getD_some, beq_self_eq_true, Bool.and_self, rsOk]

section
variable {s : State} {v w : Nat} (hl : s.portAlive = true) (hk : s.rolsal.lockout = false)
  (hm : (portNow s).rsMay 3 = true) (hs : (portNow s).rsSticky = false)
include hl hk hm hs

theorem exec_drainStart_new (hp : (portNow s).rsPending = false)
    (hno : (portNow s).rings.cmds.any (fun c => c.opcode == 0x23 && c.phase != .accepted && c.phase != .completing) = false) :
    exec (.drainStart v) s = .next (drainBoundary (modRs (fun r => { r with drain := true, drnCount := 0, drnWord := 0, drnStop := false })
      (modRs (fun r => { r with drnLimit := bitsOf v 16 16 }) (respond 6 0 (rsCount (rsForget (portNow s))))))) := by
  obtain ⟨hrings, _, _⟩ := respond_count_forget (portNow s)
  rw [exec_drainStart, execDrainStart, State.act_runs _ _ (runs_of_portAlive hl), win3Write_new _ hl hk hm hs hp, ok, drainStart_free]
  exact (congrArg (fun t : RingState => t.cmds.any _) hrings).trans hno

theorem exec_drainStop_inBlock (hp : (portNow s).rsPending = false) (hd : (portNow s).rolsal.drain = true)
    (hw : (portNow s).rolsal.drnWord ≠ 0) :
    exec .drainStop s = .next (modRs (fun r => { r with drnStop := true }) (respond 6 0 (rsCount (rsForget (portNow s))))) := by
  obtain ⟨_, hdrain, hword⟩ := respond_count_forget (portNow s)
  rw [exec_drainStop, execDrainStop, State.act_runs _ _ (runs_of_portAlive hl), win3Write_new _ hl hk hm hs hp, ok,
    drainStop_inBlock _ (hdrain.trans hd) (by rw [hword]; exact hw)]

theorem exec_drainDataRead_kept (k : Nat × Nat × Nat) (hlast : (portNow s).rolsal.lastRead = some k) (h3 : k.1 = 3) (h2 : k.2.1 = 2)
    (ha : (portNow s).rolsal.acc = none) (hkept : (portNow s).rolsal.kept = some w) (hf : (portNow s).rolsal.fresh = true) :
    exec .drainDataRead s =
      .next (respond 6 w (drainConsume (rsCount (modRs (fun r => { r with fresh := false, lastWrite := none }) (portNow s))))) := by
  rw [exec_drainDataRead, execDrainDataRead, State.act_runs _ _ (runs_of_portAlive hl), if_neg (by simp [hl, hk])]
  simp only [rsRefuses_none hm hs, hlast]
  rw [if_pos (by simp [h3, h2, hkept, ha]), ok, deliver_drain hlast h3 h2 hkept hf]

end

/-- Settles O55: a request is taken or not by the lemmas of the first part, and each window answers by its own. -/
theorem rolsalPackets : Obligations.RolsalPackets := by
  unfold Obligations.RolsalPackets
  refine ⟨fun s req v a hl => ?packets, fun s v w k hl hk => ?drain⟩
  case packets =>
    intro win reg x
    have hr := runs_of_portAlive hl
    refine ⟨portNow_young, fun hk h0 hd => ?lockout, fun hk h0 => ⟨fun hg => ?parity, fun hg hd => ?read, fun hg hd => ?write⟩,
      fun hk hp => ?cancel, fun ha => ⟨exec_rolsalAccessTimeout_past hl a ha, fun hp => ?access⟩⟩
    case lockout => rw [exec_rolsalReadPacket, execRolsalReadPacket, takeRequest_lockout _ hk, ok]
    case parity => rw [exec_rolsalReadPacket, execRolsalReadPacket, takeRequest_badParity _ hl hk h0 hg, ok]
    case read =>
      have h := exec_rolsalReadPacket_taken hl hk h0 hg hd
      refine ⟨fun hw hreg => ?_, fun hw hreg => ?_, fun hw hm => h.trans ?_, fun hw hm hs => h.trans ?_, fun hw hm hs hp hlast => ?_⟩
      · rw [h, if_pos hw, show rqReg req = 0 from hreg]
        rfl
      · rw [h, if_pos hw, show rqReg req = 2 from hreg, readWin0_err]
      · rw [if_neg hw, readPacket_refused (rsRefuses_auth hm)]
      · rw [if_neg hw, readPacket_refused (rsRefuses_fault hm hs)]
      · rw [h, if_neg hw, readPacket_new (rsRefuses_none hm hs) hp hlast]
        exact ⟨fun hc => congrArg _ (if_pos hc), fun hc => congrArg _ (if_neg (by simpa using hc))⟩
    case write =>
      have h := exec_rolsalWritePacket_taken hl hk h0 hg hd v
      refine ⟨fun hw => ?_, fun hw => ?_, fun hw hm => ?_, fun hw hm hs hp hlast hc => ?_⟩
      · rw [h true, if_pos hw, if_pos rfl]
      · rw [h false, if_pos hw, if_neg (by decide)]
      · rw [h true, if_neg hw, writePacket_refused v true (rsRefuses_auth hm)]
      · rw [h true, if_neg hw, writePacket_newC v (rsRefuses_none hm hs) hp hlast hc]
    case cancel =>
      have hpend : (accepted s).rsPending = true := by
        rw [accepted]
        exact hp
      rw [exec_rolsalCancel, execRolsalCancel, State.act_runs _ _ hr, win0_accepted hl hk, ok, rsCancel, if_pos hpend, accepted]
    case access =>
      have h := exec_rolsalAccessComplete_inTime hl a ha hp
      exact ⟨fun hans => h.trans (congrArg _ (performC_answered s hans)),
        fun hans ho hw hd => h.trans (congrArg _ (performC_gafWrite s hans ho hw hd)),
        fun hans ho hw hm => h.trans (congrArg _ (performC_misaligned s hans ho hw hm))⟩
  case drain =>
    intro x hm hs
    exact ⟨fun hp => ⟨exec_drainStart_new hl hk hm hs hp, exec_drainStop_inBlock hl hk hm hs hp⟩,
      fun hlast h3 h2 ha hkept hf => exec_drainDataRead_kept hl hk hm hs k hlast h3 h2 ha hkept hf⟩

end Sys2Proof.Machine
end

section
/-! PROOFS. PRIV_MAP, CUST_GRANT and the one-time-programmable memory (O56). -/

namespace Sys2Proof.Machine

section
variable {s : State} {id k v : Nat} (hw : s.windowOpen = true)
include hw

/-- PRIV_MAP takes a word only while unlocked and only where some identity stays operator. -/
theorem exec_privMapWrite_open (hp : s.passes id .operator = true) :
    let t := s.wrN (R.PRIV_MAP k) (mapWord (s.rdN (R.PRIV_MAP k)) v k)
    exec (.privMapWrite id k v) s = .next (if s.fb F.PRIV_CTL_LOCK then s else if t.someOperator then t else s) := by
  intro t
  rw [exec_privMapWrite, execPrivMapWrite, State.act_runs _ _ (s.windowOpen_runs hw).1, State.gate_pass _ _ _ _ _ hw hp, ok, writePrivMap]

theorem exec_custGrantWrite_open : exec (.custGrantWrite id v) s = .next (writeCustGrant id v s) := by
  rw [exec_custGrantWrite, execCustGrantWrite, State.act_runs _ _ (s.windowOpen_runs hw).1, if_pos hw, ok]

end

theorem writeCustGrant_named {s : State} {v : Nat} (hc : s.classOf 2 = 3) (hv : v % 64 = 3 ∨ (36 ≤ v % 64 ∧ v % 64 ≤ 51)) :
    writeCustGrant 2 v s = s.wrN R.CUST_GRANT (v % 128) := by
  rw [writeCustGrant, if_neg (by simp [hc])]
  exact if_pos hv

theorem writeCustGrant_other {s : State} {id : Nat} (v : Nat) (h : id ≠ 2 ∨ s.classOf 2 ≠ 3) :
    writeCustGrant id v s = refuseAccess id R.CUST_GRANT s :=
  if_pos (by rcases h with h | h <;> simp [h])

/-! ### The one-time-programmable memory -/

/-- The word of OTP_CTL that starts operation `op` on field `f`. -/
theorem otpGo_fields {op f : Nat} (ho : op ≤ 3) (hf : f < 16) :
    otpGo op f % 16 = f ∧ bitsOf (otpGo op f) 4 2 = op ∧ bitOf (otpGo op f) 6 = true ∧ otpGo op f % 64 = f + 16 * op := by
  simp only [otpGo, bitOf, bitsOf, Nat.shiftRight_eq_div_pow, beq_iff_eq]
  omega

/-- GO starts the operation while none runs. -/
theorem writeOtpCtl_go {s : State} {op f : Nat} (id : Nat) (h1 : 1 ≤ op) (h3 : op ≤ 3) (hf : f < 16) (hb : s.fb F.OTP_STAT_BUSY = false) :
    let t := s.wrN R.OTP_CTL (f + 16 * op)
    writeOtpCtl id (otpGo op f) s = State.fs { t with otp := { t.otp with
      running := some ⟨op, f, t.otpData % 2 ^ otpBits f, t.otpErr (t.classOf id) op f (t.otpData % 2 ^ otpBits f), t.ts⟩ } } F.OTP_STAT_BUSY 1 := by
  intro t
  obtain ⟨hfld, hop, hgo, hword⟩ := otpGo_fields h3 hf
  have hbusy : t.fb F.OTP_STAT_BUSY = false := by
    rw [State.fb, State.fg_congr s t F.OTP_STAT_BUSY (State.rd_wrN_other _ _ _ _ (by decide))]
    exact hb
  have hruns : (bitOf (otpGo op f) 6 && op != 0) = true := by
    rw [hgo, Bool.true_and, bne_iff_ne]
    omega
  rw [writeOtpCtl, hfld, hop, hword]
  simp only [hruns, Bool.not_true, Bool.and_false, Bool.false_or, Bool.false_eq_true, if_false]
  exact if_neg (by rw [hbusy]; decide)

section
variable {s : State} {id f : Nat} (hr : s.runs = true)
include hr

theorem exec_otp_open (hw : s.windowOpen = true) (hp : s.passes id .open_ = true) :
    exec (.otpRead id f) s = .next (writeOtpCtl id (otpGo 1 f) s) ∧ exec (.otpProgram id f) s = .next (writeOtpCtl id (otpGo 2 f) s) ∧
      exec (.otpGenkey id f) s = .next (writeOtpCtl id (otpGo 3 f) s) := by
  refine ⟨?_, ?_, ?_⟩
  · rw [exec_otpRead, execOtpRead, State.act_runs _ _ hr, State.gate_pass _ _ _ _ _ hw hp, ok]
  · rw [exec_otpProgram, execOtpProgram, State.act_runs _ _ hr, State.gate_pass _ _ _ _ _ hw hp, ok]
  · rw [exec_otpGenkey, execOtpGenkey, State.act_runs _ _ hr, State.gate_pass _ _ _ _ _ hw hp, ok]

/-- The operation that runs ends with its ERR. -/
theorem exec_otpOperationDone_running (o : OtpOp) (back : List Nat) (hwarm : s.clk.warm = false) (ho : s.otp.running = some o) :
    let a := otpApply o back { s with otp := { s.otp with running := none } }
    exec (.otpOperationDone back) s = .next (showOtp ((a.2.fs F.OTP_STAT_BUSY 0).fs F.OTP_STAT_ERR a.1)) := by
  intro a
  rw [exec_otpOperationDone, execOtpOperationDone, State.awake_up _ _ hr hwarm]
  simp only [ho]
  rfl

end

theorem otpApply_err {o : OtpOp} (back : List Nat) (u : State) (h : o.err ≠ 0) : otpApply o back u = (o.err, u) := if_pos (by simp [h])

theorem otpApply_read {o : OtpOp} (back : List Nat) (u : State) (h : o.err = 0) (h1 : o.op = 1) (h2 : o.fld ≠ 2) :
    otpApply o back u = (0, u.wrWords (R.OTP_DATA 0) (wordsOf (toLe 32 (u.otpVal o.fld)))) := by
  rw [otpApply, if_neg (by simp [h]), if_pos h1, if_neg h2]

theorem otpApply_program {o : OtpOp} (u : State) (h : o.err = 0) (h2 : o.op = 2) : otpApply o [] u = (0, otpStore o o.value u) := by
  rw [otpApply, if_neg (by simp [h]), if_neg (by omega), if_neg (by omega)]
  simp only [List.isEmpty_nil, if_true]

theorem otpApply_genkey {o : OtpOp} (back : List Nat) (u : State) (h : o.err = 0) (h3 : o.op = 3) :
    otpApply o back u = (0, { u.free.2 with otp := { u.free.2.otp with devKey := some (u.free.1 % 2 ^ 256) } }) := by
  rw [otpApply, if_neg (by simp [h]), if_neg (by omega), if_pos h3]
  rfl

/-- Settles O56: the map and the grant by their writes, GO by `writeOtpCtl_go`, the end of an operation by what it applied. -/
theorem privilegeAndProgrammedFields : Obligations.PrivilegeAndProgrammedFields := by
  unfold Obligations.PrivilegeAndProgrammedFields
  refine ⟨fun s id k v hw => ⟨fun hp t ht => ?map, fun hc hv => ?grant, fun h => ?refused⟩, fun s id f o hr hf => ⟨fun hw hp hb => ?go,
    fun hwarm ho u hu => ?done⟩⟩
  case map =>
    subst ht
    have h := exec_privMapWrite_open (k := k) (v := v) hw hp
    refine ⟨fun hl hs => h.trans (congrArg _ ((if_neg (by simp [hl])).trans (if_pos hs))), fun hno => h.trans (congrArg _ ?_)⟩
    rcases hno with hl | hs
    · exact if_pos hl
    · rw [if_neg (show ¬State.someOperator _ = true by rw [hs]; decide), ite_self]
  case grant => exact (exec_custGrantWrite_open hw).trans (congrArg _ (writeCustGrant_named hc hv))
  case refused => exact (exec_custGrantWrite_open hw).trans (congrArg _ (writeCustGrant_other v h))
  case go =>
    rintro op t h1 h3 rfl
    obtain ⟨hread, hprogram, hgenkey⟩ := exec_otp_open (f := f) hr hw hp
    have hgo := writeOtpCtl_go id h1 h3 hf hb
    obtain rfl | rfl | rfl : op = 1 ∨ op = 2 ∨ op = 3 := by omega
    · exact hread.trans (congrArg _ hgo)
    · exact hprogram.trans (congrArg _ hgo)
    · exact hgenkey.trans (congrArg _ hgo)
  case done =>
    subst hu
    have h := exec_otpOperationDone_running hr o [] hwarm ho
    refine ⟨fun he => ?_, fun he h1 h2 => ?_, fun he h2 => ?_, fun he h3 => ?_⟩
    · simp only [otpApply_err _ _ he] at h
      exact h
    · simp only [otpApply_read _ _ he h1 h2] at h
      exact h
    · simp only [otpApply_program _ he h2] at h
      exact h
    · simp only [otpApply_genkey _ _ he h3] at h
      exact h

end Sys2Proof.Machine
end

section
/-! PROOFS. SEC_EN, TEST_EN, a station's security page (O57), test perturbation and forced faults (O58). -/

namespace Sys2Proof.Machine

/-! ### SEC_EN and TEST_EN -/

section
variable {s : State} {id n v : Nat} (hr : s.runs = true)
include hr

section
variable (hw : s.windowOpen = true) (hp : s.passes id .custodian = true)
include hw hp

theorem exec_secEnWrite_open (on : Bool) : exec (.secEnWrite id on) s = .next (if s.fb F.SEC_CTL_SEC_EN == on then s else
    showApplied (sendRegWr 3 0 4 0 [b2n on] (s.fs F.SEC_CTL_SEC_EN (b2n on)))) := by
  rw [exec_secEnWrite, execSecEnWrite, State.act_runs _ _ hr, State.gate_pass _ _ _ _ _ hw hp, ok, setSecEn, sendSec, secPage]

theorem exec_testEnWrite_open (on : Bool) :
    exec (.testEnWrite id on) s = .next (if on then s.fs F.SEC_CTL_TEST_EN 1 else endTest s) := by
  rw [exec_testEnWrite, execTestEnWrite, State.act_runs _ _ hr, State.gate_pass _ _ _ _ _ hw hp, ok, setTestEn]

theorem exec_ptbCtlWrite_open : exec (.ptbCtlWrite id v) s = .next (if !s.fb F.SEC_CTL_TEST_EN || s.rdN R.PTB_CTL = v % 128 then s else
    showApplied (sendRegWr 3 0 4 1 [v % 128] (s.wrN R.PTB_CTL (v % 128)))) := by
  rw [exec_ptbCtlWrite, execPtbCtlWrite, State.act_runs _ _ hr, State.gate_pass _ _ _ _ _ hw hp, ok, writePtbCtl, sendSec, secPage]

theorem exec_ptbParamWrite_open (k : Nat) : exec (.ptbParamWrite id k v) s = .next (writePtbParam (ptbParam k) v s) := by
  rw [exec_ptbParamWrite, execPtbParamWrite, State.act_runs _ _ hr, State.gate_pass _ _ _ _ _ hw hp, ok]

theorem exec_ptbForceWrite_open : exec (.ptbForceWrite id v) s = .next (writePtbForce v s) := by
  rw [exec_ptbForceWrite, execPtbForceWrite, State.act_runs _ _ hr, State.gate_pass _ _ _ _ _ hw hp, ok]

omit hr in
/-- PTB_STAT is a row of the register index that the custodian class writes. -/
theorem exec_registerWrite_ptbStat : exec (.registerWrite id R.PTB_STAT 15 v) s = .next (writePtbStat v s) := by
  obtain ⟨r, hrow, hclass⟩ : ∃ r, regRowAt R.PTB_STAT = some r ∧ r.wr = .custodian := by
    have h : (regRowAt R.PTB_STAT).map (·.wr) = some .custodian := by decide
    exact Option.map_eq_some_iff.1 h
  rw [exec_registerWrite_open s id _ v hw, writeReg_plainRow s id _ v r (by decide) hrow, hclass, State.gate_pass _ _ _ _ _ hw hp]
  rfl

end

/-- The station applies a word of its security page; word 0 drives DBG_SEC_EN where it changes it. -/
theorem exec_stationSecurityApply_word (x : State) (m : DownMsg)
    (ht : takeInbox n 0 (fun m => bitOf m.head 11 && decide (m.head % 512 < 4)) s = some (m, x)) :
    let t : State := modStn n (fun y => { y with sec := setAt 0 y.sec (m.head % 512) (m.words.headD 0) }) x
    exec (.stationSecurityApply n) s = .next (showApplied
      (if m.head % 512 = 0 && x.dbgSec n != bitOf (m.words.headD 0) 0 then driveSec n (bitOf (m.words.headD 0) 0) t else t)) := by
  intro t
  rw [exec_stationSecurityApply, execStationSecurityApply, State.act_runs _ _ hr]
  simp only [ht]
  rfl

end

theorem endTest_off {s : State} (ht : s.fb F.SEC_CTL_TEST_EN = false) : endTest s = s := if_pos (by simp [ht])

theorem endTest_perturbed {s : State} (ht : s.fb F.SEC_CTL_TEST_EN = true) (hc : s.rdN R.PTB_CTL ≠ 0) :
    endTest s = showApplied (sendRegWr 3 0 4 1 [0] (flushAcks ((s.fs F.SEC_CTL_TEST_EN 0).wr R.PTB_CTL 0))) := by
  rw [endTest, if_neg (by simp [ht])]
  dsimp only
  rw [if_pos (bne_iff_ne.2 hc), sendSec, secPage]

/-- Settles O57: a change is distributed, a write that changes nothing leaves the state, and a station applies each word. -/
theorem securityState : Obligations.SecurityState := by
  unfold Obligations.SecurityState
  intro s x id n m hr
  refine ⟨fun hw hp => ⟨fun on h => ?change, fun on h => ?same, exec_testEnWrite_open hr hw hp true, fun ht hc => ?ends, fun ht => ?off⟩,
    fun htake t hteq => ?station⟩
  case change => exact (exec_secEnWrite_open hr hw hp on).trans (congrArg _ (if_neg (by simp [h])))
  case same => exact (exec_secEnWrite_open hr hw hp on).trans (congrArg _ (if_pos (by simp [h])))
  case ends => exact (exec_testEnWrite_open hr hw hp false).trans (congrArg _ (endTest_perturbed ht hc))
  case off => exact (exec_testEnWrite_open hr hw hp false).trans (congrArg _ (endTest_off ht))
  case station =>
    subst hteq
    have h := exec_stationSecurityApply_word hr x m htake
    refine ⟨fun hno => h.trans (congrArg (fun u => Host.Outcome.next (showApplied u)) (if_neg ?_)),
      fun h0 hne => h.trans (congrArg (fun u => Host.Outcome.next (showApplied u)) (if_pos ?_))⟩
    · rcases hno with h0 | h0 <;> simp [h0]
    · rw [h0, bne_iff_ne.2 hne]; decide

/-! ### Perturbation -/

theorem portStall_on {s : State} {en hold : Fld} (ht : s.fb F.SEC_CTL_TEST_EN = true) (he : s.fb en = true) (hh : s.core % 16 < s.fg hold) :
    s.portStall en hold s.core = true := by
  simp [State.portStall, ht, he, hh]

theorem portStall_off {s : State} {en hold : Fld} (h : s.fb en = false ∨ s.fg hold ≤ s.core % 16) : s.portStall en hold s.core = false := by
  rcases h with h | h
  · simp [State.portStall, h]
  · simp [State.portStall, Nat.not_lt.2 h]

/-- In a stalled cycle a request of the dump master waits; otherwise, with nothing waiting, it leaves. -/
theorem issue_dump (q : LineReq) (s : State) :
    (s.dmpStall = true → issueRead q s = { s with bus := { s.bus with rdWait := s.bus.rdWait ++ [q] } } ∧
      issueWrite q s = { s with bus := { s.bus with wrWait := s.bus.wrWait ++ [q] } }) ∧
    (s.dmpStall = false → (s.bus.rdWait = [] → issueRead q s = { s with bus := { s.bus with dmpRd := s.bus.dmpRd ++ [q] } }) ∧
      (s.bus.wrWait = [] → issueWrite q s = { s with bus := { s.bus with dmpWr := s.bus.dmpWr ++ [q] } })) := by
  refine ⟨fun h => ⟨if_pos (by simp [h]), if_pos (by simp [h])⟩, fun h => ⟨fun hq => if_neg (by simp [h, hq]), fun hq => if_neg (by simp [h, hq])⟩⟩

theorem presentBulk_cases (b : FabBeat) (s : State) :
    (s.bulkStall = true → presentBulk b s = { s with bus := { s.bus with bulkWait := s.bus.bulkWait ++ [b] } }) ∧
    (s.bulkStall = false → s.bus.bulkWait = [] → presentBulk b s = crossBulk b s) :=
  ⟨fun h => if_pos (by simp [h]), fun h hq => if_neg (by simp [h, hq])⟩

/-- PTB_SLOT and PTB_BUDGET go to the stations, the other parameters stay in the hub. -/
theorem writePtbParam_test {s : State} {k v : Nat} (ht : s.fb F.SEC_CTL_TEST_EN = true) :
    let t : State := plainWrite (ptbParam k) (BitVec.ofNat 32 v) s
    writePtbParam (ptbParam k) v s = if ptbParam k = R.PTB_SLOT then sendRegWr 3 0 4 2 [t.rdN R.PTB_SLOT] t
      else if ptbParam k = R.PTB_BUDGET then sendRegWr 3 0 4 3 [t.rdN R.PTB_BUDGET] t else t := by
  intro t
  rw [writePtbParam, if_neg (by simp [ht])]
  rfl

/-- A forced fault of a code of G0 or G1 with a unit goes to the unit's station; another is formed in the hub. -/
theorem writePtbForce_test {s : State} {v n : Nat} (ht : s.fb F.SEC_CTL_TEST_EN = true) :
    (codeGroup (v % 2 ^ 16) = none → writePtbForce v s = s.fs F.PTB_STAT_ERR 1) ∧
    (s.fb F.PTB_FORCE_ARG_UNIT_VALID = true → s.fg F.PTB_FORCE_ARG_UNIT = n → ∀ g, codeGroup (v % 2 ^ 16) = some g →
      (g ≤ 1 → writePtbForce v s =
        sendRegWr 0 (n / 16) 4 4 [v % 2 ^ 16 + 2 ^ 16 * s.fg F.PTB_FORCE_ARG_CTX + 2 ^ 24 * (n % 16)] s) ∧
      (2 ≤ g → writePtbForce v s =
        logFault { code := v % 2 ^ 16, ctx := s.fg F.PTB_FORCE_ARG_CTX, unit := some n, ts := s.ts, flags := s.formFlags ||| flForced } s)) := by
  rw [writePtbForce, if_neg (by simp [ht])]
  refine ⟨fun hg => ?_, fun hu hn g hg => ⟨fun h1 => ?_, fun h2 => ?_⟩⟩
  · simp only [hg]
  · simp only [hg, hn, sendSec, secPage]
    exact if_pos (by simp [hu, h1])
  · simp only [hg, hn, hu]
    rw [if_neg (by simp; omega), if_pos trivial]

/-- A station forms a forced record as it forms its own: through the latch of its code where it has one. -/
theorem exec_forcedFaultStation_word {s x : State} {n : Nat} (hr : s.runs = true) (m : DownMsg)
    (ht : takeInbox n 0 (fun m => bitOf m.head 11 && m.head % 512 == 4) s = some (m, x)) :
    let v := m.words.headD 0 % 2 ^ 16
    let k := 16 * n + bitsOf (m.words.headD 0) 24 4
    let r : FaultRec := { x.stnRec k v (x.port k).current 0 0 0 flForced with ctx := bitsOf (m.words.headD 0) 16 8 }
    exec (.forcedFaultStation n) s = (match latchOf v with
      | none => .next (placeFormed k r x)
      | some g => if bitOf (x.fg (latchFld n g)) (k % 16) then .next (x.fsat (repeatFld n g) 1)
        else .next (placeFormed k r (x.fs (latchFld n g) (setBit (x.fg (latchFld n g)) (k % 16) true)))) := by
  intro v k r
  rw [exec_forcedFaultStation, execForcedFaultStation, State.act_runs _ _ hr]
  simp only [ht]
  rfl

/-- Settles O58: the registers while TEST_EN is 0 and 1, the stalls of the ports, and the forced record of a station. -/
theorem perturbation : Obligations.Perturbation := by
  unfold Obligations.Perturbation
  intro s x id n v k g m hr
  refine ⟨fun hw hp => ⟨fun ht => ⟨?ctlOff, ?paramOff, ?forceOff, ?statOff⟩, fun ht => ⟨fun t hteq => ?stat, fun hne => ?ctl, fun t hteq => ?param,
    fun hg => ?noCode, fun hg h1 hu hn => ?station, fun hg h2 hu hn => ?central⟩⟩, fun q b ht => ⟨fun he hh => ?dumpStall, fun h => ?dump,
    fun he hh => ?bulkStall, fun h hq => ?bulk⟩, fun htake hv hk r hreq => ?forced⟩
  case ctlOff => exact (exec_ptbCtlWrite_open hr hw hp).trans (congrArg _ (if_pos (by simp [ht])))
  case paramOff => exact (exec_ptbParamWrite_open hr hw hp k).trans (congrArg _ (if_pos (by simp [ht])))
  case forceOff => exact (exec_ptbForceWrite_open hr hw hp).trans (congrArg _ (if_pos (by simp [ht])))
  case statOff => exact (exec_registerWrite_ptbStat hw hp).trans (congrArg _ (if_pos (by simp [ht])))
  case stat =>
    subst hteq
    have h : exec (.registerWrite id R.PTB_STAT 15 v) s = .next (plainWrite R.PTB_STAT
        (BitVec.ofNat 32 (if (showApplied s).fb F.PTB_STAT_ACTIVE then setBit v 2 false else v)) (showApplied s)) :=
      (exec_registerWrite_ptbStat hw hp).trans (congrArg _ (if_neg (by simp [ht])))
    exact ⟨fun ha => by rw [h, if_neg (by simp [ha])], fun ha => by rw [h, if_pos ha]⟩
  case ctl => exact (exec_ptbCtlWrite_open hr hw hp).trans (congrArg _ (if_neg (by simp [ht, hne])))
  case param =>
    subst hteq
    have h := (exec_ptbParamWrite_open (v := v) hr hw hp k).trans (congrArg _ (writePtbParam_test ht))
    refine ⟨fun h0 => h.trans (congrArg _ (if_pos (by rw [h0]; decide))),
      fun h4 => h.trans (congrArg _ ((if_neg (by rw [h4]; decide)).trans (if_pos (by rw [h4]; decide)))),
      fun ho => h.trans (congrArg _ ((if_neg ?_).trans (if_neg ?_)))⟩
    · rcases ho with h | h | h | h | h <;> rw [h] <;> decide
    · rcases ho with h | h | h | h | h <;> rw [h] <;> decide
  case noCode => exact (exec_ptbForceWrite_open hr hw hp).trans (congrArg _ ((writePtbForce_test (n := n) ht).1 hg))
  case station => exact (exec_ptbForceWrite_open hr hw hp).trans (congrArg _ (((writePtbForce_test ht).2 hu hn g hg).1 h1))
  case central => exact (exec_ptbForceWrite_open hr hw hp).trans (congrArg _ (((writePtbForce_test ht).2 hu hn g hg).2 h2))
  case dumpStall => exact (issue_dump q s).1 (portStall_on ht he hh)
  case dump => exact (issue_dump q s).2 (portStall_off h)
  case bulkStall => exact (presentBulk_cases b s).1 (portStall_on ht he hh)
  case bulk => exact (presentBulk_cases b s).2 (portStall_off h) hq
  case forced =>
    subst hreq hk hv
    have h := exec_forcedFaultStation_word hr m htake
    refine ⟨fun hl => ?_, fun hl hb => ?_, fun hl hb => ?_⟩ <;> simp only [hl] at h
    · exact h
    · exact h.trans (if_pos hb)
    · exact h.trans (if_neg (by rw [hb]; decide))

end Sys2Proof.Machine
end

section
/-! PROOFS. Cold reset of the hub and of a cell (O59), warm reset, the start-up read and HUB_ALIVE (O60). -/

namespace Sys2Proof.Machine

/-! ### Cold reset -/

/-- A map over the values of a sparse map acts on each entry. -/
theorem mget?_map {α β : Type} (g : α → β) (m : SMap α) (k : Nat) :
    mget? (m.map (fun e => (e.1, g e.2))) k = (mget? m k).map g := by
  induction m with
  | nil => rfl
  | cons e m ih =>
    by_cases h : e.1 = k
    · simp [mget?, h]
    · simpa [mget?, h] using ih

theorem abandonOtp_idle {s : State} (h : s.otp.running = none) : abandonOtp s = s := by
  simp only [abandonOtp, h]

/-- What a station keeps in cold reset: its ports' straps and inputs, and the power-good of its region. -/
def Station.held (x : Station) : Station := { ports := x.ports.map (fun p => (p.1, p.2.held)), cold := true, pgood := x.pgood }

theorem coldReset_stations {s : State} (h : s.otp.running = none) :
    (coldReset s).stations = s.stations.map (fun e => (e.1, e.2.held)) := by
  rw [coldReset, abandonOtp_idle h]
  rfl

theorem exec_hubColdRelease_cold {s : State} (hc : s.clk.cold = true) (scope prio scan : Bool) :
    exec (.hubColdRelease scope prio scan) s = if scan then .fault .scanMode else .next
      (let u : State := showIso ((takeStraps scope prio (modClk (fun _ => {}) s)).fs F.HUB_STAT_RST_CAUSE 1)
       (u.stations.filter (fun e => e.2.pgood)).foldl (fun s e => warmCell e.1 s) u) := by
  rw [exec_hubColdRelease, execHubColdRelease, if_neg (by simp [hc])]
  rfl

theorem exec_hubRootClkStop_up {s : State} (hc : s.clk.cold = false) :
    exec .hubRootClkStop s = .next (modClk (fun c => { c with rootRuns := false }) s) := by
  rw [exec_hubRootClkStop, execHubRootClkStop, if_neg (by simp [hc]), ok]

theorem exec_cellColdResetAssert_good {s : State} {n : Nat} (h : (s.stn n).pgood = true) :
    exec (.cellColdResetAssert n) s = .next (showLoaded (coldCell n (modStn n (fun x => { x with pgood := false }) s))) := by
  rw [exec_cellColdResetAssert, execCellColdResetAssert, if_neg (by simp [h]), ok]

theorem exec_cellColdResetRelease_runs {s : State} {n : Nat} (h : (s.stn n).pgood = false) (hr : s.runs = true) :
    exec (.cellColdResetRelease n) s = .next (warmCell n
      (modStn n (fun x => { x with pgood := true, ports := x.ports.map (fun p => (p.1, { p.2 with shCmd := 0 })) }) s)) := by
  rw [exec_cellColdResetRelease, execCellColdResetRelease, if_neg (by simp [h]), ok]
  exact congrArg _ (if_pos hr)

/-- Settles O59: without a program running the assertion builds its state from the parts that stay; the release, the stop of
the root and the two edges of a cell's power-good take the branch their inputs name. -/
theorem coldReset_obligation : Obligations.ColdReset := by
  unfold Obligations.ColdReset
  intro s scope prio
  refine ⟨fun h => ⟨coldReset s, exec_hubColdAssert s, ?assert⟩,
    fun hc => ⟨exec_hubColdRelease_cold hc scope prio false, exec_hubColdRelease_cold hc scope prio true⟩,
    exec_hubRootClkStop_up, fun n => exec_cellColdResetAssert_good, fun n => exec_cellColdResetRelease_runs⟩
  case assert =>
    have hstations : ∀ n x, mget? s.stations n = some x → mget? (coldReset s).stations n = some x.held := fun n x hx => by
      rw [coldReset_stations h, mget?_map, hx, Option.map_some]
    refine ⟨rfl, rfl, ?_, ?_, ?_, ?_, rfl, rfl, hstations⟩
    all_goals rw [coldReset, abandonOtp_idle h]

/-! ### Warm reset -/

section
variable {s : State} (hr : s.runs = true)
include hr

/-- A warm reset outside the cold start acts once until the window has opened again. -/
theorem exec_hubWarmAssert_up (hc : s.coldStarts = false) (hw : s.clk.warm = false) : exec .hubWarmAssert s =
    .next (modClk (fun c => { c with warm := true, windowTakes := false }) (if s.clk.windowTakes then warmReset s else s)) := by
  rw [exec_hubWarmAssert, execHubWarmAssert, State.act_runs _ _ hr, if_neg (by simp [hc]), if_neg (by simp [hw]), ok, warmAssert]

theorem exec_hubWarmAssert_waits (hc : s.coldStarts = true) (hp : s.clk.warmPend % 2 = 0) :
    exec .hubWarmAssert s = .next (modClk (fun c => { c with warmPend := c.warmPend + 1 }) s) := by
  rw [exec_hubWarmAssert, execHubWarmAssert, State.act_runs _ _ hr, if_pos hc, ok, if_pos hp]

theorem exec_hubWarmRelease_warm (hc : s.coldStarts = false) (hw : s.clk.warm = true) : exec .hubWarmRelease s = .next (warmRelease s) := by
  rw [exec_hubWarmRelease, execHubWarmRelease, State.act_runs _ _ hr, if_neg (by simp [hc]), if_pos hw, ok]

theorem exec_warmWindowReopen_due (hw : s.clk.warm = false) (ht : s.clk.windowTakes = false) (hd : s.clk.warmRelease + 64 ≤ s.core) :
    exec .warmWindowReopen s = .next (modClk (fun c => { c with windowTakes := true }) s) := by
  rw [exec_warmWindowReopen, execWarmWindowReopen, State.act_runs _ _ hr, if_neg (by simp [hw, ht, hd]), ok]

/-- The start-up read ends with no warm reset waiting. -/
theorem exec_otpStartupReadDone_idle (ho : s.clk.otpRead = false) (hp : s.clk.warmPend = 0) : exec .otpStartupReadDone s =
    .next (showOtp ((modClk (fun c => { c with otpRead := true, warmPend := 0 }) s).fs F.HUB_STAT_OTP_READY 1)) := by
  rw [exec_otpStartupReadDone, execOtpStartupReadDone, State.act_runs _ _ hr, if_neg (by simp [ho]), ok]
  simp only [hp, List.range_zero, List.foldl_nil]

theorem exec_hubAliveToggle_due (h : 1000 ≤ s.clk.aliveCnt) : exec .hubAliveToggle s =
    .next (modPins (fun p => { p with hubAlive := !p.hubAlive }) (modClk (fun c => { c with aliveCnt := c.aliveCnt - 1000 }) s)) := by
  rw [exec_hubAliveToggle, execHubAliveToggle, State.act_runs _ _ hr, if_neg (Nat.not_lt.2 h), ok]

theorem exec_fabricMessageDiscard_awake (hw : s.clk.warm = false) : exec .fabricMessageDiscard s = .next s := by
  rw [exec_fabricMessageDiscard, execFabricMessageDiscard, State.awake_up _ _ hr hw, ok]

end

/-- HUB_STAT after a release is what its two field writes give: the kept TS stands in other registers. -/
theorem fg_warmRelease (s : State) (g : Fld) (hg : g.addr = R.HUB_STAT) :
    (warmRelease s).fg g = ((s.fs F.HUB_STAT_RST_CAUSE 2).fsat F.HUB_STAT_WARM_COUNT 1).fg g :=
  State.fg_congr _ _ g (State.rd_wr64_other _ R.HUB_WARM_TS_LO R.HUB_WARM_TS_HI _ _ (by rw [hg]; decide) (by rw [hg]; decide))

theorem fg_warmRelease_cause (s : State) : (warmRelease s).fg F.HUB_STAT_RST_CAUSE = 2 := by
  rw [fg_warmRelease s _ rfl, State.fsat, State.fg_fs_disjoint _ _ _ _ (by decide) (by decide), State.fg_fs_same _ _ _ (by decide)]
  rfl

theorem fg_warmRelease_count (s : State) :
    (warmRelease s).fg F.HUB_STAT_WARM_COUNT = satAdd 8 (s.fg F.HUB_STAT_WARM_COUNT) 1 := by
  rw [fg_warmRelease s _ rfl, State.fg_fsat_same _ _ _ (by decide), State.fg_fs_disjoint _ _ _ _ (by decide) (by decide)]

/-- Settles O60: outside the cold start an edge acts, inside it waits; the other commands take their one active branch. -/
theorem warmReset_obligation : Obligations.WarmReset := by
  unfold Obligations.WarmReset
  intro s hr
  refine ⟨fun hc => ⟨fun hw ht => ?acts, fun hw ht => ?again, fun hw t h => ?fields, exec_hubWarmRelease_warm hr hc⟩,
    exec_hubWarmAssert_waits hr, exec_warmWindowReopen_due hr, exec_otpStartupReadDone_idle hr, exec_hubAliveToggle_due hr,
    exec_fabricMessageDiscard_awake hr⟩
  case acts => rw [exec_hubWarmAssert_up hr hc hw, if_pos ht]
  case again => rw [exec_hubWarmAssert_up hr hc hw, if_neg (by simp [ht])]
  case fields =>
    rw [exec_hubWarmRelease_warm hr hc hw] at h
    obtain rfl := Host.Outcome.next.inj h
    exact ⟨rfl, fg_warmRelease_cause s, fg_warmRelease_count s, rfl⟩

end Sys2Proof.Machine
end
